-- ==== Sys2Proof/Word.lean ====
section
/-! DEFINITION. The word types and the identifier ranges that the spec gives the Audrazor A9. -/

namespace Sys2Proof

abbrev Byte := BitVec 8
abbrev Half := BitVec 16
abbrev Word := BitVec 32
abbrev Word64 := BitVec 64

/-- Fabric port number (R31). -/
abbrev PortId := Fin 256
/-- Herd identifier, 12 bits (R18). -/
abbrev HerdId := Fin 4096
/-- Tine number (R153). -/
abbrev TineId := Fin 256
/-- Thread of a tine (R156). -/
abbrev ThreadId := Fin 128
/-- Element of the extent table (R95). -/
abbrev ExtentId := Fin 131072
/-- Element of the reader table (R130). -/
abbrev ReaderId := Fin 16384
/-- Trigger slot (R61). -/
abbrev TrigId := Fin 4096
/-- Quadrant (R2). -/
abbrev QuadId := Fin 4
/-- Hardware queue or ring number. -/
abbrev QueueId := Fin 262144
/-- Collective context (R207). -/
abbrev CtxId := Fin 16384
/-- Member entry (R208). -/
abbrev MemberId := Fin 65536
/-- Rule set of the match engine (R269). -/
abbrev SetId := Fin 4096
/-- Match entry (R266). -/
abbrev EntryId := Fin 524288
/-- Multicast group (R293). -/
abbrev McId := Fin 16384
/-- Counter profile (R433). -/
abbrev ProfileId := Fin 4096
/-- SerDes lane (R2). -/
abbrev LaneId := Fin 512
/-- Volume slot of the flash translation layer (R346). -/
abbrev VolId := Fin 131072
/-- Trace filter (R441). -/
abbrev FilterId := Fin 16
/-- HBM stack (R2). -/
abbrev StackId := Fin 8
/-- Reduce unit, 16 × quadrant + unit (Table 17.4). -/
abbrev ReduceId := Fin 64
/-- A9 number in the pod (R2, R341). -/
abbrev A9Id := Fin 64
/-- Caching agent: a tine, 256 for the companion (R137); 257 names the home as receiver of an answer. -/
abbrev AgentId := Fin 258

end Sys2Proof
end

