-- ==== Sys2Proof/Syntax.lean ====
section
/-! DEFINITION. The commands of the block: one constructor of `Instr` per row of spec/opcode_table.json, with the
operands that the row's rule gives it. -/

namespace Sys2Proof

/-- The three management paths of R22. -/
inductive OdPath where
  | j | b | f
  deriving DecidableEq, Repr

/-- An entry of the object dictionary (R358): index, subindex and array element. -/
structure OdAddr where
  index : Half
  sub   : Byte
  elem  : BitVec 24
  deriving DecidableEq, Repr

/-- The link envelope of Table 3.1, less FLEN and NAK, which the receiver has already judged. -/
structure LinkEnv where
  seq     : Half
  ackseq  : Half
  cclass  : BitVec 3
  credits : Half
  deriving DecidableEq, Repr

/-- The request header of Table 3.2 as it arrives. OPC is the command itself. -/
structure ReqHdr where
  cls  : BitVec 3
  rlx  : Bool
  rtx  : Bool
  res0 : Bool
  herd : BitVec 12
  src  : Half
  dst  : Half
  len  : Byte
  tag  : Half
  attr : Byte
  res1 : Byte
  val  : Word
  res2 : BitVec 7
  addr : BitVec 57
  aux  : Word64
  psn  : Word
  res4 : Word
  deriving DecidableEq, Repr

/-- Where a request arrives: on a fabric port, in a link envelope, or from the companion over Jiyth (R28). -/
inductive Via where
  | port (p : PortId) (env : LinkEnv)
  | companion
  deriving DecidableEq, Repr

/-- A whole request frame. OPC is the command itself, but for a frame whose OPC Table 3.3 reserves: no row is that frame, so a
row carries its OPC in `other`. -/
structure ReqFrame where
  via     : Via
  hdr     : ReqHdr
  payload : List Byte
  other   : Option (BitVec 6) := none
  deriving DecidableEq, Repr

/-- The TIMEX header of R84; its KIND is the command. -/
structure TimexFrame where
  quality : BitVec 2
  xseq    : Half
  time    : Word64
  deriving DecidableEq, Repr

/-- The response header of Table 3.6; its OPC is the command. -/
structure RespHdr where
  cls    : BitVec 3
  res0   : BitVec 3
  herd   : BitVec 12
  src    : Half
  dst    : Half
  len    : Byte
  tag    : Half
  code   : Byte
  lf     : BitVec 4
  res1   : BitVec 4
  detail : Word
  psn    : Word
  res2   : Word
  deriving DecidableEq, Repr

/-- A response comes in on a port, or is one of the responses that the local homes have sent and that are still in
flight inside the package, named by its place in `State.resps` (responses return in any order, R85). -/
inductive RespSource where
  | port (p : PortId) (env : LinkEnv) (hdr : RespHdr) (payload : List Byte)
  | home (i : Nat)
  deriving DecidableEq, Repr

/-- Why a frame is dropped under R70; `auth` is a frame whose tag or counter fails (R394), which counts as a failed CRC. -/
inductive DropCause where
  | crc | flen | seq | auth
  deriving DecidableEq, Repr

/-- The operand fields of a tine instruction word (Table 6.9). -/
structure TineWord where
  fmt : BitVec 4
  rd  : BitVec 5
  ra  : BitVec 5
  rb  : BitVec 5
  rc  : BitVec 5
  imm : Word
  deriving DecidableEq, Repr

/-- The header of a collective frame (Tables 3.2 and 8.5); its OPC is the command. -/
structure CollHdr where
  cls    : BitVec 3
  rlx    : Bool
  rtx    : Bool
  res0   : Bool
  herd   : BitVec 12
  src    : Half
  dst    : Half
  len    : Byte
  tag    : Half
  res1   : Half
  step   : Word
  ctx    : BitVec 14
  res2   : BitVec 2
  chunk  : BitVec 24
  res2b  : BitVec 12
  member : BitVec 12
  aux    : Word64
  psn    : Word
  res4   : Word
  deriving DecidableEq, Repr

/-- A whole collective frame on a port. -/
structure CollFrame where
  port    : PortId
  env     : LinkEnv
  hdr     : CollHdr
  payload : List Byte
  deriving DecidableEq, Repr

/-- What a training stage found at its end (Table 13.5): the amplitude that the far end asked of each lane in stage 2, and in
stage 4 the far end's A9 number, port number and width, whether both link tags verify (R393), and the credits it grants. -/
structure StageResult where
  amps    : List Nat
  a9      : Byte
  port    : Byte
  width   : Byte
  authOk  : Bool
  credits : Half
  deriving DecidableEq, Repr

/-- A link-state record (Table 13.8) and the A9 that wrote it. -/
structure LinkRecord where
  reporter : A9Id
  seq      : Word
  st       : BitVec 2
  near     : Half
  far      : Half
  detected : Word64
  switch   : Word64
  deriving DecidableEq, Repr

/-- A capacity region of a CXL device, in granules of the device (R325). -/
structure CxlRegion where
  first : BitVec 24
  count : BitVec 24
  deriving DecidableEq, Repr

/-- The geometry record of a shelf (Table 14.1), with the correction limit of R355. -/
structure ShelfGeometry where
  page     : Nat
  spare    : Nat
  pages    : Nat
  blocks   : Nat
  dies     : Nat
  channels : Nat
  rated    : Nat
  limit    : Nat
  deriving DecidableEq, Repr

/-- A shelf completion (Table 14.3). -/
structure ShelfResult where
  tag       : BitVec 12
  status    : BitVec 4
  corrected : Half
  channel   : BitVec 6
  die       : BitVec 6
  deriving DecidableEq, Repr
/-- The image at STAGE_ADDR as the A9 reads and verifies it (Table 16.1, R379): its header fields, whether DIGEST matches the
body and the signature verifies, and the measurement of header and body. -/
structure StagedImage where
  magic     : Nat
  version   : Word
  svn       : Byte
  length    : Nat
  digestOk  : Bool
  signed    : Bool
  measure   : Nat
  deriving DecidableEq, Repr
/-- The sources of Table 17.2 that have no command of their own: corrected ECC of a unit (KIND, UNIT, quadrant, location);
an uncorrectable pool line, tine memory, packet-buffer cell, directory entry, granule descriptor or version state of an
extent, ownership record, or match entry; a failed canary; a lost always-on domain; and a source that the table does not
list. -/
inductive ErrorSource where
  | corrected (kind : BitVec 4) (unit : BitVec 12) (q : QuadId) (location : Word64)
  | poolLine (e : ExtentId) (line : Nat) (kind : BitVec 4) (unit : BitVec 12)
  | tineMemory (t : TineId) (h : ThreadId)
  | bufferCell (frame : Nat)
  | dirEntry (e : ExtentId) (line : Nat)
  | extentState (e : ExtentId)
  | ownership (rec : Nat)
  | matchEntry (i : EntryId)
  | canary (t : TineId)
  | alwaysOn (q : QuadId)
  | other (kind : BitVec 4) (unit : BitVec 12) (q : QuadId)
  deriving DecidableEq, Repr

/-- How a repeat of a sampled chunk compares (R426): with the reduce unit's result, with the earlier repeat, or with neither. -/
inductive DualVerdict where
  | unit | other | none
  deriving DecidableEq, Repr

/-- The units that have a logic check (Table 17.2, R418). -/
inductive LogicUnit where
  | matcher (q : QuadId)
  | crossbar (q : QuadId)
  | home (q : QuadId)
  | tine (t : TineId)
  deriving DecidableEq, Repr

/-- What the governor measures (R455, Table 19.8): the package's mean power over the last 1 ms in mW, each quadrant's in W, and
each rail's current in mA and voltage in mV. -/
structure PowerReading where
  package : Nat
  quads   : List Nat
  rails   : List (Nat × Nat)
  deriving DecidableEq, Repr

/-- The references found more than 500 ppm off or absent (R457): 100 MHz, 10 MHz, and 156.25 MHz of each quadrant. -/
structure ReferenceReading where
  sys  : Bool
  hold : Bool
  sd   : BitVec 4
  deriving DecidableEq, Repr

/-- The sensors in 0.1 °C (R462): each tine, the hottest of the other junctions of each quadrant, and each HBM stack. -/
structure ThermalReading where
  tines  : List Int
  others : List Int
  hbms : List Int
  deriving DecidableEq, Repr

/-- What a boot stage found (R379, R488): a valid first stage, the HBM stacks that trained, and whether the Jiyth link is up. -/
structure BootResult where
  firstStage : Bool
  hbms     : BitVec 8
  jiyth      : Bool
  deriving DecidableEq, Repr

/-- What JTAG, IEEE 1149.1 and IEEE 1687 do (R398, R432, R448). -/
inductive JtagOp where
  | bypass
  | idcode
  | boundary
  | counter (i : BitVec 11)
  | scan
  | memRead (e : ExtentId) (off len : Nat)
  | memWrite (e : ExtentId) (off : Nat) (data : List Byte)
  deriving DecidableEq, Repr


/-- The commands. Each constructor is one row of the table of operations and events. -/
inductive Instr where
  /-- LOAD (R73): A LOAD request arrives whole; the A9 stamps it, checks it against the extent map and forwards or serves it. -/
  | load (f : ReqFrame)
  /-- STORE (R73): A STORE request of LEN bytes is stamped, checked and applied at the home, allocating a granule if none exists yet. -/
  | store (f : ReqFrame)
  /-- PSTORE (R74): A partial store writes the bytes of a 64-B window that the AUX byte mask selects. -/
  | pstore (f : ReqFrame)
  /-- ATOMIC_SWAP (R76): An atomic SWAP writes the new value and returns the old one. -/
  | atomicSwap (f : ReqFrame)
  /-- ATOMIC_CAS (R76): An atomic compare-and-swap of 4, 8 or 16 B returns the old value. -/
  | atomicCas (f : ReqFrame)
  /-- ATOMIC_ADD (R76): An atomic integer ADD, modulo the operand width, returns the old value. -/
  | atomicAdd (f : ReqFrame)
  /-- ATOMIC_AND (R76): An atomic bitwise AND returns the old value. -/
  | atomicAnd (f : ReqFrame)
  /-- ATOMIC_OR (R76): An atomic bitwise OR returns the old value. -/
  | atomicOr (f : ReqFrame)
  /-- ATOMIC_XOR (R76): An atomic bitwise XOR returns the old value. -/
  | atomicXor (f : ReqFrame)
  /-- ATOMIC_SMAX (R76): An atomic signed maximum returns the old value. -/
  | atomicSmax (f : ReqFrame)
  /-- ATOMIC_SMIN (R76): An atomic signed minimum returns the old value. -/
  | atomicSmin (f : ReqFrame)
  /-- ATOMIC_UMAX (R76): An atomic unsigned maximum returns the old value. -/
  | atomicUmax (f : ReqFrame)
  /-- ATOMIC_UMIN (R76): An atomic unsigned minimum returns the old value. -/
  | atomicUmin (f : ReqFrame)
  /-- ATOMIC_FADD (R76): An atomic binary32 add, rounded to nearest even, returns the old value. -/
  | atomicFadd (f : ReqFrame)
  /-- PUBLISH (R131): A PUBLISH is served at the home, which compares VAL with VERSION and PUBLISHER and invalidates registered readers. -/
  | publish (f : ReqFrame)
  /-- INVALIDATE (R78): An INVALIDATE that arrives from an endpoint port completes with E_ACCESS. -/
  | invalidate (f : ReqFrame)
  /-- FLUSH (R104): A FLUSH completes once earlier stores to the region have reached the home, or at LEVEL 1 the flash. -/
  | flush (f : ReqFrame)
  /-- FENCE (R78): A FENCE is handled at the ingress A9 as an ordering point and is answered after all earlier responses. -/
  | fence (f : ReqFrame)
  /-- KICK (R77): A doorbell store writes a producer index and may merge with a queued KICK from the same sender. -/
  | kick (f : ReqFrame)
  /-- COMPLETE (R73): A 64-B completion record is stored to a ring slot. -/
  | complete (f : ReqFrame)
  /-- MGMT_READ (R79): An F-path MGMT request reads an OD entry and returns it in a RESP_MGMT. -/
  | mgmtRead (f : ReqFrame)
  /-- MGMT_WRITE (R79): An F-path MGMT request writes an OD entry, after the payload and VLEN checks. -/
  | mgmtWrite (f : ReqFrame)
  /-- TIMEX_SYNC (R84): A SYNC time frame arrives; the A9 takes t2 and answers with a REPLY at t3. -/
  | timexSync (p : PortId) (f : TimexFrame)
  /-- TIMEX_REPLY (R84): A REPLY time frame arrives at the upstream A9, which takes t4 and sends FOLLOW. -/
  | timexReply (p : PortId) (f : TimexFrame)
  /-- TIMEX_FOLLOW (R84): A FOLLOW frame completes the exchange and yields one offset sample. -/
  | timexFollow (p : PortId) (f : TimexFrame)
  /-- TIME_EXCHANGE_PERIOD (R52): Every 64 µs the upstream A9 starts a time exchange on each port whose time bit is set. -/
  | timeExchangePeriod
  /-- RESP_DATA (R81): A data response is matched by TAG and PSN to an outstanding request and delivered, or is dropped as late. -/
  | respData (src : RespSource)
  /-- RESP_ACK (R81): An acknowledgement is matched to its request and delivered, or is dropped. -/
  | respAck (src : RespSource)
  /-- RESP_MGMT (R81): A management response is matched to its MGMT request and delivered. -/
  | respMgmt (src : RespSource)
  /-- LINK_FRAME_DROP (R70): A frame with a bad CRC, a bad FLEN or an unexpected SEQ is dropped, and a NAK is sent unless the frame is TIMEX. -/
  | linkFrameDrop (p : PortId) (why : DropCause) (timex : Bool)
  /-- NAK_RECEIVED (R71): A NAK from the far end makes the transmitter replay from the first unacknowledged frame. -/
  | nakReceived (p : PortId) (env : LinkEnv)
  /-- REPLAY_TIMER_EXPIRY (R71): The replay timer expires with frames unacknowledged; the transmitter replays, and retrains after 8 replays without progress. -/
  | replayTimerExpiry (p : PortId)
  /-- LOAD_TIMEOUT_EXPIRY (R91): The load timeout of an outstanding request expires, and the request completes with E_TARGET_LOST or E_TIMEOUT. -/
  | loadTimeoutExpiry (req : Nat)
  /-- ENDPOINT_REQUEST_RELEASE (R316): A request held by the endpoint rate limit or outstanding cap leaves once tokens or cap allow. -/
  | endpointRequestRelease (p : PortId)
  /-- HERD_CONFIGURE (R32): A write of 1 to a FREE herd's STATE moves it to CONFIGURING. -/
  | herdConfigure (path : OdPath) (n : HerdId)
  /-- HERD_ACTIVATE (R494): A write of 2 runs the admission checks and makes the whole herd configuration take effect together. -/
  | herdActivate (path : OdPath) (n : HerdId)
  /-- HERD_UNCONFIGURE (R32): A write of 0 returns a CONFIGURING herd with no extents or bound ports to FREE and zeroizes its key. -/
  | herdUnconfigure (path : OdPath) (n : HerdId)
  /-- HERD_CLOSE (R34): A write of 3 fences the herd's ports, starts revokes and unshares, and stops its rings. -/
  | herdClose (path : OdPath) (n : HerdId)
  /-- HERD_CLOSE_DONE (R34): Once every revoke, unshare and ring stop has finished, the herd's key is zeroized, its way masks are cleared and it becomes FREE. -/
  | herdCloseDone (n : HerdId)
  /-- OD_WRITE (R364): A write to an OD entry that has no row of its own passes the checks of R364 and is applied. -/
  | odWrite (path : OdPath) (a : OdAddr) (value : List Byte)
  /-- CONFIG_AREA_PROGRAM_DONE (R363): Programming of both configuration copies for an N-class write ends, completing the write or failing it with STORAGE_FAILED. -/
  | configAreaProgramDone (copy0 copy1 : Bool)
  /-- SOURCE_WRITE (R54): A write to SOURCE or UPSTREAM_PORT discards the gathered samples, restarts the lock count and, for SOURCE 0, moves quality 00 to 01. -/
  | sourceWrite (path : OdPath) (upstream : Bool) (value : Half)
  /-- TOD_SET (R53): A time-of-day write steps the counter at once under SOURCE 0, or is held for the next FT_PPS edge under SOURCE 3. -/
  | todSet (path : OdPath) (value : Word64)
  /-- ALLOW_STEP (R53): A write of 1 permits a single step at the next sample. -/
  | allowStep (path : OdPath)
  /-- PTP_OFFSET (R55): The companion writes a PTP offset, which the A9 treats as one sample. -/
  | ptpOffset (path : OdPath) (value : Word64)
  /-- FT_PPS_EDGE (R56): A recognised FT_PPS rising edge forms a sample against the TAI second written beforehand. -/
  | ftPpsEdge (short : Word)
  /-- TIME_SOURCE_TIMEOUT (R54): No sample has arrived within the source timeout, so quality moves from 00 to 01. -/
  | timeSourceTimeout
  /-- HOLDOVER_LIMIT_EXPIRY (R54): HOLDOVER_LIMIT expires while the device is in holdover, and quality becomes 10. -/
  | holdoverLimitExpiry
  /-- SIDEBAND_SYNC (R58): Every 1 µs the slave quadrants align their counters to the disciplining quadrant and check the difference. -/
  | sidebandSync
  /-- TRIGGER_ARM (R62): A write of 1 to a trigger slot's STATE checks the target and arms the slot. -/
  | triggerArm (path : OdPath) (n : TrigId)
  /-- TRIGGER_DISARM (R65): A write of 0 disarms the slot, or cancels a firing not yet taken. -/
  | triggerDisarm (path : OdPath) (n : TrigId)
  /-- TRIGGER_FIRE_NONE (R63): A slot with ACTION 0 reaches TIME and fires with no action. -/
  | triggerFireNone (n : TrigId)
  /-- TRIGGER_GATE_CHANGE (R310): A firing slot restarts a port's gate control list at the entry it names. -/
  | triggerGateChange (n : TrigId)
  /-- TRIGGER_RING_KICK (R169): A firing slot adds 1 to a command ring's PI as an atomic add at the home. -/
  | triggerRingKick (n : TrigId)
  /-- TRIGGER_COUNTER_LATCH (R438): A firing slot stores a latch record of a counter profile. -/
  | triggerCounterLatch (n : TrigId)
  /-- TRIGGER_OPTIMIZER_STEP (R217): A firing slot closes the open step of a CLOSE 1 context. -/
  | triggerOptimizerStep (n : TrigId)
  /-- JOURNAL_INTERVAL_EXPIRY (R68): At each journal interval the ledger record is written and signed into the flash ring. -/
  | journalIntervalExpiry
  /-- CREATE (R117): Extent operation CREATE makes an extent with all granules unallocated, after the refusal checks. -/
  | extCreate (path : OdPath) (e : ExtentId)
  /-- GROW (R117): Extent operation GROW adds unallocated granules at the end of the extent. -/
  | extGrow (path : OdPath) (e : ExtentId)
  /-- SHRINK (R495): Extent operation SHRINK runs the revoke sequence over the extent's last ARG granules. -/
  | extShrink (path : OdPath) (e : ExtentId)
  /-- PLACE (R117): Extent operation PLACE changes the tier of record; the charges move at the switch. -/
  | extPlace (path : OdPath) (e : ExtentId)
  /-- REHOME (R119): Extent operation REHOME moves the home to another home slice, after waiting out HANDING records. -/
  | extRehome (path : OdPath) (e : ExtentId)
  /-- REVOKE (R114): Extent operation REVOKE fences the extent and starts the drain. -/
  | extRevoke (path : OdPath) (e : ExtentId)
  /-- READY (R122): Extent operation READY validates a compressed container and switches CSTATE to ready. -/
  | extReady (path : OdPath) (e : ExtentId)
  /-- SHARE (R117): Extent operation SHARE sets a herd's bit in SHARED. -/
  | extShare (path : OdPath) (e : ExtentId)
  /-- UNSHARE (R495): Extent operation UNSHARE revokes the requests of one herd, then clears its bit. -/
  | extUnshare (path : OdPath) (e : ExtentId)
  /-- COMPOSITION_SWITCH (R118): A composition change takes effect at every port and unit in one core cycle. -/
  | compositionSwitch (e : ExtentId)
  /-- COMPOSITION_DEADLINE_EXPIRY (R120): The composition deadline expires before the switch, and the change is abandoned. -/
  | compositionDeadlineExpiry (e : ExtentId)
  /-- REVOKE_DRAIN_END (R114): The revoke drain ends early because no request remains. -/
  | revokeDrainEnd (e : ExtentId)
  /-- REVOKE_TIMEOUT_EXPIRY (R114): The revoke timeout expires; requests still held complete with E_EXTENT_REVOKED and are dropped. -/
  | revokeTimeoutExpiry (e : ExtentId)
  /-- REVOKE_FREE (R114): Step 4 of the revoke frees the granules, reduces USED and removes the extent from the map. -/
  | revokeFree (e : ExtentId)
  /-- GRANULE_FILL_DONE (R103): A granule fill into the T1 cache ends, and held requests are applied. -/
  | granuleFillDone (e : ExtentId) (g : Nat)
  /-- GRANULE_EVICTION (R103): A granule is evicted from the T1 cache after its dirty chunks are written to the tier of record. -/
  | granuleEviction (e : ExtentId) (g : Nat)
  /-- BACKGROUND_ZEROING (R102): Background zeroing clears ZMASK bits behind chunks already zeroed, at SCRUB_RATE. -/
  | backgroundZeroing (e : ExtentId) (g : Nat) (chunk : Fin 32)
  /-- CHUNK_CLEAN_DONE (R104): A dirty chunk has been written to its tier of record; its DIRTY bit clears, and held stores may be released. -/
  | chunkCleanDone (e : ExtentId) (g : Nat) (chunk : Fin 32)
  /-- BLOCK_EXPANSION_DONE (R124): An expander finishes a 4 KiB block into the expanded-block buffer, and waiting loads are served. -/
  | blockExpansionDone (e : ExtentId) (block : Nat)
  /-- THAW (R129): A write to THAW unfreezes an S extent and sets VERSION. -/
  | thaw (path : OdPath) (e : ExtentId) (value : Word)
  /-- READER_REGISTER (R130): A write of 1 to a reader entry's STATE registers a reader of an S extent. -/
  | readerRegister (path : OdPath) (r : ReaderId)
  /-- INVAL_TIMEOUT_EXPIRY (R133): A reader has not answered an INVALIDATE in time; it is dropped and the PUBLISH proceeds. -/
  | invalTimeoutExpiry (e : ExtentId) (r : ReaderId)
  /-- GETS (R141): A caching agent requests a copy of an H line in S. -/
  | gets (a : AgentId) (e : ExtentId) (line : Nat)
  /-- GETM (R141): A caching agent requests an H line in M. -/
  | getm (a : AgentId) (e : ExtentId) (line : Nat)
  /-- PUTS (R141): An agent reports that it dropped an S copy. -/
  | puts (a : AgentId) (e : ExtentId) (line : Nat)
  /-- PUTM (R141): An agent writes back an M line and drops it. -/
  | putm (a : AgentId) (e : ExtentId) (line : Nat)
  /-- FWDS (R140): The owner sends data to the requester, writes back and moves to S. -/
  | fwds (a : AgentId) (e : ExtentId) (line : Nat)
  /-- FWDM (R140): The owner sends data to the requester and moves to I. -/
  | fwdm (a : AgentId) (e : ExtentId) (line : Nat)
  /-- FWDR (R140): The owner sends data into the home's response, writes back and moves to S. -/
  | fwdr (a : AgentId) (e : ExtentId) (line : Nat)
  /-- INV (R140): A sharer moves its copy to I and answers. -/
  | cohInv (a : AgentId) (e : ExtentId) (line : Nat)
  /-- INVACK (R140): An invalidation acknowledgement reaches the requester, or the home for an uncached request. -/
  | invack (a : AgentId) (e : ExtentId) (line : Nat)
  /-- DATA (R140): Line data reaches the requester with the count of INVACKs to await. -/
  | cohData (a : AgentId) (e : ExtentId) (line : Nat)
  /-- COMPACK (R142): The requester's completion reaches the home, which records the state and unblocks the line. -/
  | compack (a : AgentId) (e : ExtentId) (line : Nat)
  /-- PROBE_TIMEOUT_EXPIRY (R143): An agent has not answered a probe in time; the sharer counts as answered, or the line becomes P. -/
  | probeTimeoutExpiry (a : AgentId) (e : ExtentId) (line : Nat)
  /-- RUT_BUFFER_LOADED (R149): The rut buffer holds the line, and the waiting requests are admitted. -/
  | rutBufferLoaded (e : ExtentId) (line : Nat)
  /-- RUT_EXECUTE (R150): Admitted rut requests run in one core cycle: up to four merged stores, or one load or atomic. -/
  | rutExecute (e : ExtentId) (line : Nat)
  /-- RUT_WINDOW_END (R152): At the end of each counting window, lines below RUT_EXIT leave rut. -/
  | rutWindowEnd (q : QuadId)
  /-- NOP (R177): Tine instruction with no effect. -/
  | tNop (t : TineId) (h : ThreadId) (w : TineWord)
  /-- ADD (R177): Tine integer add modulo 2^64. -/
  | tAdd (t : TineId) (h : ThreadId) (w : TineWord)
  /-- SUB (R177): Tine integer subtract modulo 2^64. -/
  | tSub (t : TineId) (h : ThreadId) (w : TineWord)
  /-- MUL (R177): Tine multiply that keeps the low 64 bits. -/
  | tMul (t : TineId) (h : ThreadId) (w : TineWord)
  /-- AND (R177): Tine bitwise AND. -/
  | tAnd (t : TineId) (h : ThreadId) (w : TineWord)
  /-- OR (R177): Tine bitwise OR. -/
  | tOr (t : TineId) (h : ThreadId) (w : TineWord)
  /-- XOR (R177): Tine bitwise XOR. -/
  | tXor (t : TineId) (h : ThreadId) (w : TineWord)
  /-- SHL (R177): Tine shift left. -/
  | tShl (t : TineId) (h : ThreadId) (w : TineWord)
  /-- SHR (R177): Tine logical shift right. -/
  | tShr (t : TineId) (h : ThreadId) (w : TineWord)
  /-- SRA (R177): Tine arithmetic shift right. -/
  | tSra (t : TineId) (h : ThreadId) (w : TineWord)
  /-- SLT (R177): Tine signed set-less-than. -/
  | tSlt (t : TineId) (h : ThreadId) (w : TineWord)
  /-- SLTU (R177): Tine unsigned set-less-than. -/
  | tSltu (t : TineId) (h : ThreadId) (w : TineWord)
  /-- ADDI (R177): Tine add of a sign-extended immediate. -/
  | tAddi (t : TineId) (h : ThreadId) (w : TineWord)
  /-- LIH (R177): Tine load of an immediate into the upper 32 bits. -/
  | tLih (t : TineId) (h : ThreadId) (w : TineWord)
  /-- BEQ (R177): Tine branch if equal. -/
  | tBeq (t : TineId) (h : ThreadId) (w : TineWord)
  /-- BNE (R177): Tine branch if not equal. -/
  | tBne (t : TineId) (h : ThreadId) (w : TineWord)
  /-- BLT (R177): Tine branch if less, signed. -/
  | tBlt (t : TineId) (h : ThreadId) (w : TineWord)
  /-- BGE (R177): Tine branch if greater or equal, signed. -/
  | tBge (t : TineId) (h : ThreadId) (w : TineWord)
  /-- JAL (R177): Tine jump and link. -/
  | tJal (t : TineId) (h : ThreadId) (w : TineWord)
  /-- JR (R177): Tine jump to a register. -/
  | tJr (t : TineId) (h : ThreadId) (w : TineWord)
  /-- LDS (R177): Tine load of 8 B from SRAM. -/
  | tLds (t : TineId) (h : ThreadId) (w : TineWord)
  /-- STS (R177): Tine store of 8 B to SRAM. -/
  | tSts (t : TineId) (h : ThreadId) (w : TineWord)
  /-- WAIT (R161): The thread waits until it holds n or fewer scoreboard entries. -/
  | tWait (t : TineId) (h : ThreadId) (w : TineWord)
  /-- BAR (R164): The thread waits until every live thread of its command on the tine has reached a BAR. -/
  | tBar (t : TineId) (h : ThreadId) (w : TineWord)
  /-- EXIT (R173): The thread ends with an exit code. -/
  | tExit (t : TineId) (h : ThreadId) (w : TineWord)
  /-- SYS_FABRIC_TIME (R177): SYS 0 reads fabric time into a register. -/
  | tSysFabricTime (t : TineId) (h : ThreadId) (w : TineWord)
  /-- SYS_QUALITY (R177): SYS 1 reads the time quality into a register. -/
  | tSysQuality (t : TineId) (h : ThreadId) (w : TineWord)
  /-- SYS_TINE_NUMBER (R177): SYS 2 reads the tine number into a register. -/
  | tSysTineNumber (t : TineId) (h : ThreadId) (w : TineWord)
  /-- SYS_ERR (R161): SYS 3 reads the thread's ERR register and clears it. -/
  | tSysErr (t : TineId) (h : ThreadId) (w : TineWord)
  /-- SYS_CYCLE_COUNT (R177): SYS 4 reads the tine cycle count into a register. -/
  | tSysCycleCount (t : TineId) (h : ThreadId) (w : TineWord)
  /-- RLD (R159): A remote load into SRAM is issued as a LOAD request. -/
  | tRld (t : TineId) (h : ThreadId) (w : TineWord)
  /-- RST (R159): A remote store from SRAM is issued as a STORE request. -/
  | tRst (t : TineId) (h : ThreadId) (w : TineWord)
  /-- RPST (R159): A remote partial store is issued as a PSTORE request. -/
  | tRpst (t : TineId) (h : ThreadId) (w : TineWord)
  /-- RATOM (R159): A remote atomic is issued as an ATOMIC request. -/
  | tRatom (t : TineId) (h : ThreadId) (w : TineWord)
  /-- RPUB (R159): A remote publish is issued as a PUBLISH request. -/
  | tRpub (t : TineId) (h : ThreadId) (w : TineWord)
  /-- RFLUSH (R159): A remote flush is issued as a FLUSH request. -/
  | tRflush (t : TineId) (h : ThreadId) (w : TineWord)
  /-- RFENCE (R159): A remote fence is issued as a FENCE request. -/
  | tRfence (t : TineId) (h : ThreadId) (w : TineWord)
  /-- RKICK (R159): A remote doorbell is issued as a KICK request. -/
  | tRkick (t : TineId) (h : ThreadId) (w : TineWord)
  /-- RCOMPL (R159): A remote completion store is issued as a COMPLETE request. -/
  | tRcompl (t : TineId) (h : ThreadId) (w : TineWord)
  /-- RLDC (R178): A container load reads the compressed bytes of a ready CMP extent. -/
  | tRldc (t : TineId) (h : ThreadId) (w : TineWord)
  /-- VADD (R196): Vector elementwise binary32 add. -/
  | tVadd (t : TineId) (h : ThreadId) (w : TineWord)
  /-- VMUL (R196): Vector elementwise binary32 multiply. -/
  | tVmul (t : TineId) (h : ThreadId) (w : TineWord)
  /-- VFMA (R196): Vector fused multiply-add, rounded once. -/
  | tVfma (t : TineId) (h : ThreadId) (w : TineWord)
  /-- VMAX (R198): Vector elementwise maximum. -/
  | tVmax (t : TineId) (h : ThreadId) (w : TineWord)
  /-- VMIN (R198): Vector elementwise minimum. -/
  | tVmin (t : TineId) (h : ThreadId) (w : TineWord)
  /-- VEXP2 (R199): Vector power of two. -/
  | tVexp2 (t : TineId) (h : ThreadId) (w : TineWord)
  /-- VRCP (R199): Vector reciprocal. -/
  | tVrcp (t : TineId) (h : ThreadId) (w : TineWord)
  /-- VCVT (R193): Vector format conversion, with nearest or stochastic rounding. -/
  | tVcvt (t : TineId) (h : ThreadId) (w : TineWord)
  /-- VSUM (R200): Vector sum in a fixed order. -/
  | tVsum (t : TineId) (h : ThreadId) (w : TineWord)
  /-- MMA (R202): Matrix multiply-accumulate into a 32 x 32 binary32 tile. -/
  | tMma (t : TineId) (h : ThreadId) (w : TineWord)
  /-- MMAZ (R202): Matrix multiply-accumulate into a tile first set to zero. -/
  | tMmaz (t : TineId) (h : ThreadId) (w : TineWord)
  /-- VECTOR_UNIT_DONE (R158): The vector unit completes an instruction, and the issuing thread may issue again. -/
  | vectorUnitDone (t : TineId)
  /-- MATRIX_UNIT_DONE (R158): The matrix unit completes an MMA, and the issuing thread may issue again. -/
  | matrixUnitDone (t : TineId)
  /-- RING_START (R168): A write of 1 from idle starts a ring after the checks and zeroes its indexes. -/
  | ringStart (path : OdPath) (r : QueueId)
  /-- RING_STOP (R175): A write of 2 stops further launches from the ring. -/
  | ringStop (path : OdPath) (r : QueueId)
  /-- RING_RESUME (R175): A write of 1 from stopped resumes the ring at CI. -/
  | ringResume (path : OdPath) (r : QueueId)
  /-- RING_RESET (R175): A write of 0 returns a stopped or errored ring with nothing in flight to idle. -/
  | ringReset (path : OdPath) (r : QueueId)
  /-- COMMAND_LAUNCH (R171): The scheduler launches an eligible command once an event slot and tines are available. -/
  | commandLaunch
  /-- NOP_COMMAND (R171): A NOP descriptor completes at launch. -/
  | nopCommand (cid : Nat)
  /-- KERNEL (R173): A KERNEL command runs threads on its tines from ENTRY. -/
  | kernelCommand (cid : Nat)
  /-- COMMAND_COMPLETION (R173): After every thread has exited and the scoreboard has drained, the completion record is written and the resources are freed. -/
  | commandCompletion (cid : Nat)
  /-- CONTEXT_START (R209): A write of 1 from idle starts a collective context after the checks. -/
  | contextStart (path : OdPath) (c : CtxId)
  /-- CONTEXT_STOP (R210): A write of 2 stops a context, and its open step closes with E_ACCESS. -/
  | contextStop (path : OdPath) (c : CtxId)
  /-- CONTEXT_RESUME (R210): A write of 1 from stopped resumes the context at OPEN_STEP. -/
  | contextResume (path : OdPath) (c : CtxId)
  /-- CONTEXT_RESET (R210): A write of 0 returns a stopped or errored context to idle. -/
  | contextReset (path : OdPath) (c : CtxId)
  /-- MEMBER_ACTIVATE (R208): A write of 1 to a member entry's STATE activates the member after the checks. -/
  | memberActivate (path : OdPath) (i : MemberId)
  /-- CONTRIB (R213): A member's CONTRIB frame passes the membership check and is added to its slot or staged. -/
  | collContrib (f : CollFrame)
  /-- PARTIAL (R213): A child's PARTIAL frame is accepted at a reduce unit and combined into the chunk. -/
  | collPartial (f : CollFrame)
  /-- RESULT (R222): A RESULT frame is replicated to the multicast group and delivered to each endpoint. -/
  | collResult (f : CollFrame)
  /-- ABORT (R218): An ABORT frame is forwarded to children, the step's accumulators are discarded and the step closes with ACODE. -/
  | collAbort (f : CollFrame)
  /-- STEP_TIMEOUT_EXPIRY (R218): STEP_TIMEOUT expires at the root, which aborts the step or drops absent members. -/
  | stepTimeoutExpiry (c : CtxId)
  /-- NODE_STEP_TIMEOUT (R219): A non-root node has not closed its step within twice STEP_TIMEOUT, and closes it with E_TARGET_LOST. -/
  | nodeStepTimeout (c : CtxId)
  /-- ENTROPY_HEALTH_FAIL (R232): The entropy source fails its health tests, and steps with noise abort with E_DEGRADED. -/
  | entropyHealthFail (q : QuadId)
  /-- CONTRIBUTE (R235): A CONTRIBUTE command contributes a vector chunk by chunk as a member. -/
  | collContribute (cid : Nat)
  /-- BROADCAST (R236): A BROADCAST command sends one RESULT for every chunk of a context step. -/
  | collBroadcast (cid : Nat)
  /-- GATHER (R237): A GATHER command copies indexed rows of a table to a contiguous output. -/
  | tableGather (cid : Nat)
  /-- SCATTER_ADD (R237): A SCATTER_ADD command adds source rows into indexed table rows at the home. -/
  | tableScatterAdd (cid : Nat)
  /-- FILTER (R237): A FILTER command writes the rows whose key passes a rule set, compacted. -/
  | tableFilter (cid : Nat)
  /-- DECODE (R250): A DECODE command snapshots the page list and starts page tasks over the attended blocks. -/
  | attnDecode (cid : Nat)
  /-- EPOCH_REREAD (R248): While EPOCH is odd, H0 is reread every 1 µs. -/
  | epochReread (cid : Nat)
  /-- EDIT_TIMEOUT_EXPIRY (R250): EPOCH has stayed odd past EDIT_TIMEOUT, and the command fails with E_LIST_CHANGED. -/
  | editTimeoutExpiry (cid : Nat)
  /-- PAGE_TASK_DONE (R258): A page task ends; when all have ended, the walker rechecks EPOCH, combines the partials or retries, and writes OUT. -/
  | pageTaskDone (cid : Nat) (task : Nat)
  /-- APPEND (R248): An APPEND command checks ownership and capacity, then quantizes and stores the new rows. -/
  | attnAppend (cid : Nat)
  /-- APPEND_PUBLICATION (R248): Once every store has its response, the home advances LENGTH if the ownership record and H0 are unchanged. -/
  | appendPublication (cid : Nat)
  /-- OWN_CLAIM (R261): Ownership CLAIM creates the record or takes a free one. -/
  | ownClaim (cid : Nat)
  /-- OWN_PREPARE (R261): Ownership PREPARE moves the record to HANDING toward a named successor. -/
  | ownPrepare (cid : Nat)
  /-- OWN_COMMIT (R261): Ownership COMMIT makes the successor the owner and raises EPOCH. -/
  | ownCommit (cid : Nat)
  /-- OWN_ABORT (R261): Ownership ABORT returns a HANDING record to OWNED. -/
  | ownAbort (cid : Nat)
  /-- OWN_RELEASE (R261): Ownership RELEASE frees the record. -/
  | ownRelease (cid : Nat)
  /-- OWN_FORCE (R261): Ownership FORCE makes the caller the owner in any state. -/
  | ownForce (cid : Nat)
  /-- OWN_QUERY (R261): Ownership QUERY returns the record's state. -/
  | ownQuery (cid : Nat)
  /-- OWN_DROP (R261): Ownership DROP removes a free record. -/
  | ownDrop (cid : Nat)
  /-- HANDOFF_TIMEOUT_EXPIRY (R263): A HANDING record reverts to its owner at PREP_TIME plus the hand-off timeout. -/
  | handoffTimeoutExpiry (rec : Nat)
  /-- RULE_SET_ACTIVATE (R270): A write of 1 activates a rule set and clears the VALID bits in its range. -/
  | ruleSetActivate (path : OdPath) (r : SetId)
  /-- RULE_SET_FREE (R271): A write of 0 frees a rule set and clears its entries. -/
  | ruleSetFree (path : OdPath) (r : SetId)
  /-- ENTRY_RECORD_WRITE (R273): A write of a match entry record updates the entry in one bank slot. -/
  | entryRecordWrite (path : OdPath) (i : EntryId) (value : List Byte)
  /-- SEARCH (R276): A SEARCH command writes the best match of each key. -/
  | matchSearch (cid : Nat)
  /-- NEXT (R276): A NEXT command returns, for each cursor, the best match that ranks after it. -/
  | matchNext (cid : Nat)
  /-- UPDATE (R277): An UPDATE command applies entry records to a set in order. -/
  | matchUpdate (cid : Nat)
  /-- CELL_CROSSING (R287): A matcher slot grants an input and output pair, and one cell crosses the crossbar. -/
  | cellCrossing (q : QuadId)
  /-- FRAME_READBACK (R295): A spilled frame is read back on die before it reaches the head of its queue. -/
  | frameReadback (frame : Nat)
  /-- CREDIT_RELEASE (R296): A held link credit is returned once a cell source can supply the class. -/
  | creditRelease (p : PortId) (cls : Fin 8)
  /-- MCGROUP_ACTIVATE (R293): A write of 1 activates a multicast group after the port checks. -/
  | mcgroupActivate (path : OdPath) (g : McId)
  /-- FRAME_TRANSMIT (R304): At a port's frame boundary, the eligible queue with the smallest finish tag sends its head frame. -/
  | frameTransmit (p : PortId)
  /-- GATE_START (R309): A write of 1 to a port's gate STATE schedules its segment to start. -/
  | gateStart (path : OdPath) (p : PortId)
  /-- GATE_STOP (R309): A write of 0 to a port's gate STATE opens every gate at once. -/
  | gateStop (path : OdPath) (p : PortId)
  /-- GATE_ENTRY_BOUNDARY (R309): The next gate control entry takes effect at its boundary in fabric time. -/
  | gateEntryBoundary (p : PortId)
  /-- QUEUE_SAMPLE (R318): A queue's depth and delay are sampled into its histograms once per period. -/
  | queueSample (q : QueueId)
  /-- HIST_CLEAR (R318): A write clears both histograms of a queue. -/
  | histClear (path : OdPath) (q : QueueId)
  /-- RETRAIN (R329): A RETRAIN write is a down event; it runs full training at the mode's width and clears the bad lanes. -/
  | portRetrain (path : OdPath) (p : PortId)
  /-- LANE_SIGNAL_LOSS (R328): A lane loses signal, clock or alignment and is declared bad. -/
  | laneSignalLoss (l : LaneId)
  /-- LANE_SER_CHECK (R328): Each millisecond a lane whose corrected symbols exceed LANE_SER_LIMIT is declared bad. -/
  | laneSerCheck (l : LaneId) (corrected : Word)
  /-- TRAINING_STAGE_DONE (R327): A training stage ends, and the final stage exchanges identities, widths and link authentication. -/
  | trainingStageDone (p : PortId) (r : StageResult)
  /-- TRAINING_STAGE_TIMEOUT (R327): A stage exceeds its limit, and the port returns to STATE 1. -/
  | trainingStageTimeout (p : PortId)
  /-- TRAINING_RETRY (R327): Training starts again 10 ms after a failed stage. -/
  | trainingRetry (p : PortId)
  /-- PENALTY_REUSE (R330): A suppressed port's decaying penalty falls below REUSE, and the port enters STATE 3. -/
  | penaltyReuse (p : PortId)
  /-- LINK_STATE_RECORD (R337): A down or up record arrives on the board, changes the down set and moves route slots. -/
  | linkStateRecord (r : LinkRecord)
  /-- SWITCH_TIME_REACHED (R338): Fabric time reaches SWITCH, which ends the hold and discard window or changes to a preferred slot. -/
  | switchTimeReached (dst : A9Id)
  /-- CXL_LINK_FAIL (R325): A CXL link cannot reach x4 or stays out of L0 for 2 ms, and the port and its tray are lost. -/
  | cxlLinkFail (p : PortId)
  /-- CXL_DC_ADD (R325): A device adds dynamic capacity, which raises T2 reservable capacity. -/
  | cxlDcAdd (p : PortId) (region : CxlRegion)
  /-- CXL_DC_RELEASE_REQUEST (R325): A device asks to release a capacity region; the A9 releases it only if no granule is allocated in it. -/
  | cxlDcReleaseRequest (p : PortId) (region : CxlRegion)
  /-- SHELF_ATTACH (R342): A tray port reaching STATE 3 triggers GEOMETRY, and the shelf is accepted or refused. -/
  | shelfAttach (p : PortId) (geo : ShelfGeometry)
  /-- SHELF_COMPLETION (R343): A shelf operation completion is matched to its operation; reads, programs, map switches and retries proceed. -/
  | shelfCompletion (p : PortId) (c : ShelfResult)
  /-- SHELF_OP_TIMEOUT_EXPIRY (R344): A shelf operation has no completion in time; the die is reset and the operation retried, or the die fails. -/
  | shelfOpTimeoutExpiry (p : PortId) (tag : Nat)
  /-- MAP_CHECKPOINT (R350): Every CHECKPOINT_CHUNKS chunk writes, or when the open list runs out, a map checkpoint is written. -/
  | mapCheckpoint (p : PortId)
  /-- GARBAGE_COLLECTION (R352): Below GC_START the A9 copies the valid chunks of the emptiest full block and erases it. -/
  | garbageCollection (p : PortId)
  /-- WEAR_LEVELLING (R354): The least-erased full block is moved when the erase-count spread exceeds WEAR_SPREAD. -/
  | wearLevelling (p : PortId)
  /-- BLOCK_REFRESH (R355): A block past its read limit, correction threshold or retention age is copied. -/
  | blockRefresh (p : PortId) (block : Nat)
  /-- VOLUME_DELETE (R346): A write to DELETE trims and frees a detached volume. -/
  | volumeDelete (path : OdPath) (v : VolId) (value : Word64)
  /-- MAILBOX_DOORBELL (R370): The companion writes a slot number to the Jiyth doorbell, and the A9 executes the OD access message in that slot. -/
  | mailboxDoorbell (slot : Word64) (msg : List Byte)
  /-- RESP_READY_CLEAR (R484): The companion writes 1 to RESP_READY bits to acknowledge responses. -/
  | respReadyClear (bits : Word64)
  /-- SET_ENDPOINT_ID (R371): MCTP control message Set Endpoint ID. -/
  | setEndpointId (eid : Byte)
  /-- GET_ENDPOINT_ID (R371): MCTP control message Get Endpoint ID. -/
  | getEndpointId
  /-- GET_MCTP_VERSION_SUPPORT (R371): MCTP control message Get MCTP Version Support. -/
  | getMctpVersionSupport
  /-- GET_MESSAGE_TYPE_SUPPORT (R371): MCTP control message Get Message Type Support. -/
  | getMessageTypeSupport
  /-- MCTP_VENDOR_MESSAGE (R371): An MCTP type 0x7F message carries an OD access on path B, or is discarded. -/
  | mctpVendorMessage (msgType : Byte) (body : List Byte)
  /-- INSTALL (R380): A write of 1 to INSTALL starts verification and writing of the staged image. -/
  | fwInstall (path : OdPath) (img : StagedImage)
  /-- INSTALL_DONE (R380): An install ends; the slot is marked trial-pending, or INSTALL_RESULT reports the failure. -/
  | installDone (programmed : Bool)
  /-- COMMIT_PLAIN (R382): COMMIT 1 in velvet commits the running slot without blowing a fuse. -/
  | commitPlain (path : OdPath)
  /-- COMMIT_PROTECTED (R382): COMMIT 2 in velvet marks the slot committed-fuse-pending and blows a rollback fuse. -/
  | commitProtected (path : OdPath)
  /-- FUSE_BLOW_DONE (R382): The rollback fuse is blown; the slot is marked committed and a ledger record is written. -/
  | fuseBlowDone
  /-- VELVET_TIMEOUT_EXPIRY (R383): VELVET_TIMEOUT expires before a commit, and the running slot is marked trial-running. -/
  | velvetTimeoutExpiry
  /-- GENERATE (R384): A write of 1 to GENERATE starts building an attestation report. -/
  | attestGenerate (path : OdPath)
  /-- REPORT_READY (R385): The signed report is complete, and STATE reads ready. -/
  | reportReady (path : OdPath)
  /-- KEY_LOAD (R387): A write of 1 decapsulates and unwraps a herd key, and KEY_STATE becomes loaded. -/
  | keyLoad (path : OdPath) (n : HerdId)
  /-- LINK_LOAD (R393): A write loads a trunk link key, which takes effect at the next training stage 4. -/
  | linkLoad (path : OdPath) (p : PortId)
  /-- ADVANCE_PROVISIONED (R396): ADVANCE to PROVISIONED blows one lifecycle fuse once the certificate is stored. -/
  | advanceProvisioned (path : OdPath)
  /-- ADVANCE_DEPLOYED (R396): ADVANCE to DEPLOYED blows one lifecycle fuse. -/
  | advanceDeployed (path : OdPath)
  /-- ADVANCE_RETURNED (R396): ADVANCE to RETURNED blows the remaining fuses and zeroizes the keys. -/
  | advanceReturned (path : OdPath)
  /-- DEBUG_LEVEL_WRITE (R398): A write of DEBUG_LEVEL sets the level, and DEBUG_EFFECTIVE follows the cap. -/
  | debugLevelWrite (path : OdPath) (level : Byte)
  /-- ERROR_DETECTED (R410): A detected error takes its immediate action, has its record built, and its handler is pushed, queued or merged. -/
  | errorDetected (src : ErrorSource)
  /-- HANDLER_END (R411): The top handler frame ends, and the frame beneath resumes or a queued error is pushed. -/
  | handlerEnd
  /-- HANDLER_LIMIT_EXPIRY (R413): A frame exceeds its run-time limit and is abandoned as a new uncontained error. -/
  | handlerLimitExpiry
  /-- RECOVER (R416): A write of 1 in basic mode with an empty stack starts canaries on every tine. -/
  | faultRecover (path : OdPath)
  /-- BASIC_MODE_EXIT (R416): After the recovery canaries, RATE is restored and the stopped units restart. -/
  | basicModeExit
  /-- TINE_WATCHDOG_EXPIRY (R418): A tine has issued nothing for TINE_WATCHDOG with a thread ready; it is failed and its commands are reissued. -/
  | tineWatchdogExpiry (t : TineId)
  /-- TG_CANARY_TIMER (R421): At each TG_CANARY_PERIOD a canary is launched on the next reserved tine of the herd. -/
  | tgCanaryTimer (n : HerdId)
  /-- TINE_RELEASE (R424): A write of RELEASE runs one canary of each class on a quarantined tine. -/
  | tineRelease (path : OdPath) (t : TineId)
  /-- DUAL_REPEAT_DONE (R426): A tine's repeat of a sampled chunk ends; the result is released, or a second repeat decides by vote. -/
  | dualRepeatDone (q : QuadId) (v : DualVerdict)
  /-- DUAL_REPEAT_TIMEOUT (R425): A repeat has not ended within 20 µs, and the result is released unchecked. -/
  | dualRepeatTimeout (q : QuadId)
  /-- MGMT_CORE_WATCHDOG_EXPIRY (R403): A management core goes 100 ms without service, and another core takes over its duties. -/
  | mgmtCoreWatchdogExpiry (q : QuadId)
  /-- D2D_LINK_FAILURE (R403): Die-to-die endpoints fail; flows are rehashed, or the quadrant is lost when all four fail. -/
  | d2dLinkFailure (qa qb : QuadId) (endpoints : BitVec 4)
  /-- LOGIC_CHECK (R403): A matcher, crossbar, home slice or tine logic check fires. -/
  | logicCheck (u : LogicUnit)
  /-- HBM_STACK_LOST (R403): An HBM stack is lost, with its quadrant's home slice and its granules. -/
  | hbmStackLost (k : StackId)
  /-- KEY_STORE_CHECK_FAIL (R403): A key store check fails, and every key store is zeroized. -/
  | keyStoreCheckFail (q : QuadId)
  /-- REDUCE_SELF_CHECK_FAIL (R403): A reduce unit fails its self-check, and its chunks go to the next working unit. -/
  | reduceSelfCheckFail (u : ReduceId)
  /-- EVENT_RECORD_ISSUE (R405): A waiting event record is written to its ring once the ring can take it. -/
  | eventRecordIssue (i : Nat) (device : Bool)
  /-- MERGE_WINDOW_END (R407): At the end of the millisecond, a merged record is delivered with its COUNT. -/
  | mergeWindowEnd
  /-- LOG_NEXT (R405): A read of LOG_NEXT returns the oldest device-ring copy in the log and removes that copy. -/
  | logNext (path : OdPath)
  /-- PROFILE_ACTIVATE (R434): A write of 1 activates a counter profile after the checks. -/
  | profileActivate (path : OdPath) (n : ProfileId)
  /-- PROFILE_FREE (R434): A write of 0 frees a counter profile that no command holds. -/
  | profileFree (path : OdPath) (n : ProfileId)
  /-- TRACE_START (R440): A write of 1 starts trace and resets the write offsets. -/
  | traceStart (path : OdPath)
  /-- TRACE_STOP (R440): A write of 0 stops trace. -/
  | traceStop (path : OdPath)
  /-- TRACE_FILTER_ON (R441): A write of 1 turns a trace filter on after the sealed-herd check. -/
  | traceFilterOn (path : OdPath) (i : FilterId)
  /-- STOT_NOW (R446): A write of 1 to STOT_NOW raises a stot event. -/
  | stotNow (path : OdPath)
  /-- STOT_N_EDGE (R482): A recognised falling edge of STOT_N is a stot event. -/
  | stotNEdge (short : Word)
  /-- DUMP_DONE (R448): The dump-after-hang is written, and the stop state becomes dumped. -/
  | dumpDone
  /-- HANG_WATCHDOG_CHECK (R449): Every 1 ms the hang watchdog checks for stuck commands, rings and queues and may start a graph build or a stot. -/
  | hangWatchdogCheck
  /-- BUILD (R451): A write of 1 to BUILD starts a wait-for graph build. -/
  | graphBuild (path : OdPath)
  /-- GRAPH_PERIOD_EXPIRY (R451): A periodic graph build falls due. -/
  | graphPeriodExpiry
  /-- GRAPH_BUILD_DONE (R452): A build ends; cycles are reported, and a stalled cycle may be a stot event. -/
  | graphBuildDone
  /-- POWER_GOVERNOR_SAMPLE (R455): The governor measures rail power and throttles or unthrottles one step. -/
  | powerGovernorSample (r : PowerReading)
  /-- REFERENCE_CHECK (R457): Every 10 µs the references are compared, and a lost reference is acted on. -/
  | referenceCheck (r : ReferenceReading)
  /-- POINT_STEP_DONE (R459): A step between adjacent operating points ends, and a pending POINT_REQ applies. -/
  | pointStepDone (q : QuadId)
  /-- THERMAL_SAMPLE (R462): Every 100 µs the sensors are read and the thermal actions are applied. -/
  | thermalSample (r : ThermalReading)
  /-- DROOP_DETECTED (R463): VDD_TINE droops 40 mV, and the quadrant's tine clock is stretched. -/
  | droopDetected (q : QuadId)
  /-- QUADRANT_GATE (R467): A write of GATE 1 gates a quadrant after the checks. -/
  | quadrantGate (path : OdPath) (q : QuadId)
  /-- QUADRANT_UNGATE (R467): A write of GATE 0 ungates a quadrant, runs canaries and reloads keys. -/
  | quadrantUngate (path : OdPath) (q : QuadId)
  /-- REQUEST_P0 (R469): REQUEST 0 returns the device to P0 from P2 or P3. -/
  | requestP0 (path : OdPath)
  /-- REQUEST_P2 (R468): REQUEST 2 turns every tine off. -/
  | requestP2 (path : OdPath)
  /-- REQUEST_P3 (R469): REQUEST 3 cleans, checkpoints and enters retention. -/
  | requestP3 (path : OdPath)
  /-- REQUEST_P4 (R469): REQUEST 4 enters the always-on-only state. -/
  | requestP4 (path : OdPath)
  /-- POWER_TRANSITION_DONE (R466): A power-state transition completes. -/
  | powerTransitionDone
  /-- PFW_N_ASSERT (R472): A recognised PFW_N assertion enters flush mode and starts the PERSIST flush. -/
  | pfwNAssert (short : Word)
  /-- PFW_N_RELEASE (R472): A recognised release of PFW_N ends flush mode and applies held requests. -/
  | pfwNRelease
  /-- FLUSH_DONE (R472): The flush, its checkpoint and its ledger record are complete. -/
  | flushDone
  /-- RESET_N_ASSERT (R487): RESET_N returns every field to reset, zeroizes the keys and releases STOT_N. -/
  | resetNAssert
  /-- RESET_N_RELEASE (R488): Release of RESET_N starts boot at time 0. -/
  | resetNRelease
  /-- BOOT_STAGE_ADVANCE (R488): A boot stage completes, opening paths and ports in turn, or the device enters recovery. -/
  | bootStageAdvance (r : BootResult)
  /-- JIYTH_RETRAIN (R488): The Jiyth link is retrained every 100 ms while it is down. -/
  | jiythRetrain (up : Bool)
  /-- VDD_AON_UNDERVOLTAGE (R487): VDD_AON below 1.62 V for 1 µs acts as RESET_N. -/
  | vddAonUndervoltage
  /-- RAIL_UNDERVOLTAGE (R487): A rail below 90 % of its set point for 10 µs is an uncontained error that leads to isolation hold. -/
  | railUndervoltage (rail : Fin 13)
  /-- INPUT_STUCK (R481): A control input stays asserted past its stuck timeout and takes its stuck behaviour. -/
  | inputStuck (pin : Fin 4)
  /-- RATE_HOLD_RELEASE (R481): An input held by its rate limit has stayed deasserted for the release time and is released. -/
  | rateHoldRelease (pin : Fin 4)
  /-- JIYTH_LINK_DOWN (R488): The Jiyth link to the companion is lost after it was up: JY_STATE falls to down, path J closes, and the link enters its 100 ms retrain loop. -/
  | jiythLinkDown
  /-- I3C_DYNAMIC_ADDRESS_ASSIGN (R374): The I3C controller assigns the A9 a dynamic address, which I3C_DYNAMIC then reports and path B uses. -/
  | i3cDynamicAddressAssign (addr : Byte)
  /-- JTAG_ACCESS (R398): A JTAG, IEEE 1149.1 or 1687 access reads counters, scans state or accesses memory, within the limit of DEBUG_EFFECTIVE. -/
  | jtagAccess (op : JtagOp)
  /-- GRANULE_MOVE (R103): The A9 moves a granule between frames of one tier when capacity is lost or rebalanced, chunk by chunk under MOVING, and applies held stores as each chunk switches. -/
  | granuleMove (e : ExtentId) (g : Nat) (frame : Nat)
  deriving DecidableEq, Repr

end Sys2Proof
end

