-- ==== Sys2Proof/WellFormed.lean ====
section
/-! DEFINITION. Which terms of `Instr` stand for a command that can arrive: the bounds of R74 and R94 that the operand
types do not carry. The meanings are total and do not rest on this. -/

namespace Sys2Proof

/-- A frame carries at most 2048 B of payload: LEN counts 8-B units in 8 bits (Table 3.2). -/
def frameFits (p : List Byte) : Bool := decide (p.length ≤ 2048)

/-- A request frame: its payload fits, and where it carries an opcode of its own, Tables 3.3 and 3.6 give that
opcode no meaning (R73, R211). -/
def requestFits (f : ReqFrame) : Bool :=
  frameFits f.payload && (match f.other with
    | none => true
    | some k => decide (k.toNat = 0 ∨ (0x0C < k.toNat ∧ k.toNat < 0x20) ∨ (0x23 < k.toNat ∧ k.toNat < 0x38) ∨ 0x3A < k.toNat))

/-- A message on path J or B is at most a mailbox slot of 1,040 B (Table 20.7). -/
def messageFits (p : List Byte) : Bool := decide (p.length ≤ 1040)

/-- A line or block of an extent lies in the 48-bit range of an extent's offsets (R93, R94). -/
def lineFits (l : Nat) : Bool := decide (l < 2 ^ 41)

/-- A granule number of an extent fits 32 bits (R94). -/
def granuleFits (g : Nat) : Bool := decide (g < 2 ^ 32)

/-- The payload of a response that comes in on a port fits a frame. -/
def sourceFits : RespSource → Bool
  | .port _ _ _ p => frameFits p
  | .home _ => true

/-- The line of an error source lies in its extent's range. -/
def sourceLineFits : ErrorSource → Bool
  | .poolLine _ l _ _ => lineFits l
  | .dirEntry _ l => lineFits l
  | _ => true

/-- A JTAG access moves at most 4,096 bytes at once. -/
def jtagFits : JtagOp → Bool
  | .memRead _ off len => decide (off < 2 ^ 48) && decide (len ≤ 4096)
  | .memWrite _ off data => decide (off < 2 ^ 48) && decide (data.length ≤ 4096)
  | _ => true

/-- The checks of every command. -/
def wellFormed (i : Instr) : Bool :=
  match i with
  | .load f => requestFits f
  | .store f => requestFits f
  | .pstore f => requestFits f
  | .atomicSwap f => requestFits f
  | .atomicCas f => requestFits f
  | .atomicAdd f => requestFits f
  | .atomicAnd f => requestFits f
  | .atomicOr f => requestFits f
  | .atomicXor f => requestFits f
  | .atomicSmax f => requestFits f
  | .atomicSmin f => requestFits f
  | .atomicUmax f => requestFits f
  | .atomicUmin f => requestFits f
  | .atomicFadd f => requestFits f
  | .publish f => requestFits f
  | .invalidate f => requestFits f
  | .flush f => requestFits f
  | .fence f => requestFits f
  | .kick f => requestFits f
  | .complete f => requestFits f
  | .mgmtRead f => requestFits f
  | .mgmtWrite f => requestFits f
  | .timexSync _ _ => true
  | .timexReply _ _ => true
  | .timexFollow _ _ => true
  | .timeExchangePeriod => true
  | .respData src => sourceFits src
  | .respAck src => sourceFits src
  | .respMgmt src => sourceFits src
  | .linkFrameDrop _ _ _ => true
  | .nakReceived _ _ => true
  | .replayTimerExpiry _ => true
  | .loadTimeoutExpiry _ => true
  | .endpointRequestRelease _ => true
  | .herdConfigure _ _ => true
  | .herdActivate _ _ => true
  | .herdUnconfigure _ _ => true
  | .herdClose _ _ => true
  | .herdCloseDone _ => true
  | .odWrite _ _ value => frameFits value
  | .configAreaProgramDone _ _ => true
  | .sourceWrite _ _ _ => true
  | .todSet _ _ => true
  | .allowStep _ => true
  | .ptpOffset _ _ => true
  | .ftPpsEdge _ => true
  | .timeSourceTimeout => true
  | .holdoverLimitExpiry => true
  | .sidebandSync => true
  | .triggerArm _ _ => true
  | .triggerDisarm _ _ => true
  | .triggerFireNone _ => true
  | .triggerGateChange _ => true
  | .triggerRingKick _ => true
  | .triggerCounterLatch _ => true
  | .triggerOptimizerStep _ => true
  | .journalIntervalExpiry => true
  | .extCreate _ _ => true
  | .extGrow _ _ => true
  | .extShrink _ _ => true
  | .extPlace _ _ => true
  | .extRehome _ _ => true
  | .extRevoke _ _ => true
  | .extReady _ _ => true
  | .extShare _ _ => true
  | .extUnshare _ _ => true
  | .compositionSwitch _ => true
  | .compositionDeadlineExpiry _ => true
  | .revokeDrainEnd _ => true
  | .revokeTimeoutExpiry _ => true
  | .revokeFree _ => true
  | .granuleFillDone _ g => granuleFits g
  | .granuleEviction _ g => granuleFits g
  | .backgroundZeroing _ g _ => granuleFits g
  | .chunkCleanDone _ g _ => granuleFits g
  | .blockExpansionDone _ block => lineFits block
  | .thaw _ _ _ => true
  | .readerRegister _ _ => true
  | .invalTimeoutExpiry _ _ => true
  | .gets _ _ line => lineFits line
  | .getm _ _ line => lineFits line
  | .puts _ _ line => lineFits line
  | .putm _ _ line => lineFits line
  | .fwds _ _ line => lineFits line
  | .fwdm _ _ line => lineFits line
  | .fwdr _ _ line => lineFits line
  | .cohInv _ _ line => lineFits line
  | .invack _ _ line => lineFits line
  | .cohData _ _ line => lineFits line
  | .compack _ _ line => lineFits line
  | .probeTimeoutExpiry _ _ line => lineFits line
  | .rutBufferLoaded _ line => lineFits line
  | .rutExecute _ line => lineFits line
  | .rutWindowEnd _ => true
  | .tNop _ _ _ => true
  | .tAdd _ _ _ => true
  | .tSub _ _ _ => true
  | .tMul _ _ _ => true
  | .tAnd _ _ _ => true
  | .tOr _ _ _ => true
  | .tXor _ _ _ => true
  | .tShl _ _ _ => true
  | .tShr _ _ _ => true
  | .tSra _ _ _ => true
  | .tSlt _ _ _ => true
  | .tSltu _ _ _ => true
  | .tAddi _ _ _ => true
  | .tLih _ _ _ => true
  | .tBeq _ _ _ => true
  | .tBne _ _ _ => true
  | .tBlt _ _ _ => true
  | .tBge _ _ _ => true
  | .tJal _ _ _ => true
  | .tJr _ _ _ => true
  | .tLds _ _ _ => true
  | .tSts _ _ _ => true
  | .tWait _ _ _ => true
  | .tBar _ _ _ => true
  | .tExit _ _ _ => true
  | .tSysFabricTime _ _ _ => true
  | .tSysQuality _ _ _ => true
  | .tSysTineNumber _ _ _ => true
  | .tSysErr _ _ _ => true
  | .tSysCycleCount _ _ _ => true
  | .tRld _ _ _ => true
  | .tRst _ _ _ => true
  | .tRpst _ _ _ => true
  | .tRatom _ _ _ => true
  | .tRpub _ _ _ => true
  | .tRflush _ _ _ => true
  | .tRfence _ _ _ => true
  | .tRkick _ _ _ => true
  | .tRcompl _ _ _ => true
  | .tRldc _ _ _ => true
  | .tVadd _ _ _ => true
  | .tVmul _ _ _ => true
  | .tVfma _ _ _ => true
  | .tVmax _ _ _ => true
  | .tVmin _ _ _ => true
  | .tVexp2 _ _ _ => true
  | .tVrcp _ _ _ => true
  | .tVcvt _ _ _ => true
  | .tVsum _ _ _ => true
  | .tMma _ _ _ => true
  | .tMmaz _ _ _ => true
  | .vectorUnitDone _ => true
  | .matrixUnitDone _ => true
  | .ringStart _ _ => true
  | .ringStop _ _ => true
  | .ringResume _ _ => true
  | .ringReset _ _ => true
  | .commandLaunch => true
  | .nopCommand _ => true
  | .kernelCommand _ => true
  | .commandCompletion _ => true
  | .contextStart _ _ => true
  | .contextStop _ _ => true
  | .contextResume _ _ => true
  | .contextReset _ _ => true
  | .memberActivate _ _ => true
  | .collContrib f => frameFits f.payload
  | .collPartial f => frameFits f.payload
  | .collResult f => frameFits f.payload
  | .collAbort f => frameFits f.payload
  | .stepTimeoutExpiry _ => true
  | .nodeStepTimeout _ => true
  | .entropyHealthFail _ => true
  | .collContribute _ => true
  | .collBroadcast _ => true
  | .tableGather _ => true
  | .tableScatterAdd _ => true
  | .tableFilter _ => true
  | .attnDecode _ => true
  | .epochReread _ => true
  | .editTimeoutExpiry _ => true
  | .pageTaskDone _ _ => true
  | .attnAppend _ => true
  | .appendPublication _ => true
  | .ownClaim _ => true
  | .ownPrepare _ => true
  | .ownCommit _ => true
  | .ownAbort _ => true
  | .ownRelease _ => true
  | .ownForce _ => true
  | .ownQuery _ => true
  | .ownDrop _ => true
  | .handoffTimeoutExpiry _ => true
  | .ruleSetActivate _ _ => true
  | .ruleSetFree _ _ => true
  | .entryRecordWrite _ _ value => frameFits value
  | .matchSearch _ => true
  | .matchNext _ => true
  | .matchUpdate _ => true
  | .cellCrossing _ => true
  | .frameReadback _ => true
  | .creditRelease _ _ => true
  | .mcgroupActivate _ _ => true
  | .frameTransmit _ => true
  | .gateStart _ _ => true
  | .gateStop _ _ => true
  | .gateEntryBoundary _ => true
  | .queueSample _ => true
  | .histClear _ _ => true
  | .portRetrain _ _ => true
  | .laneSignalLoss _ => true
  | .laneSerCheck _ _ => true
  | .trainingStageDone _ r => decide (r.amps.length ≤ 16)
  | .trainingStageTimeout _ => true
  | .trainingRetry _ => true
  | .penaltyReuse _ => true
  | .linkStateRecord _ => true
  | .switchTimeReached _ => true
  | .cxlLinkFail _ => true
  | .cxlDcAdd _ _ => true
  | .cxlDcReleaseRequest _ _ => true
  | .shelfAttach _ _ => true
  | .shelfCompletion _ _ => true
  | .shelfOpTimeoutExpiry _ _ => true
  | .mapCheckpoint _ => true
  | .garbageCollection _ => true
  | .wearLevelling _ => true
  | .blockRefresh _ _ => true
  | .volumeDelete _ _ _ => true
  | .mailboxDoorbell _ msg => messageFits msg
  | .respReadyClear _ => true
  | .setEndpointId _ => true
  | .getEndpointId => true
  | .getMctpVersionSupport => true
  | .getMessageTypeSupport => true
  | .mctpVendorMessage _ body => decide (body.length ≤ 1044)
  | .fwInstall _ _ => true
  | .installDone _ => true
  | .commitPlain _ => true
  | .commitProtected _ => true
  | .fuseBlowDone => true
  | .velvetTimeoutExpiry => true
  | .attestGenerate _ => true
  | .reportReady _ => true
  | .keyLoad _ _ => true
  | .linkLoad _ _ => true
  | .advanceProvisioned _ => true
  | .advanceDeployed _ => true
  | .advanceReturned _ => true
  | .debugLevelWrite _ _ => true
  | .errorDetected src => sourceLineFits src
  | .handlerEnd => true
  | .handlerLimitExpiry => true
  | .faultRecover _ => true
  | .basicModeExit => true
  | .tineWatchdogExpiry _ => true
  | .tgCanaryTimer _ => true
  | .tineRelease _ _ => true
  | .dualRepeatDone _ _ => true
  | .dualRepeatTimeout _ => true
  | .mgmtCoreWatchdogExpiry _ => true
  | .d2dLinkFailure _ _ _ => true
  | .logicCheck _ => true
  | .hbmStackLost _ => true
  | .keyStoreCheckFail _ => true
  | .reduceSelfCheckFail _ => true
  | .eventRecordIssue _ _ => true
  | .mergeWindowEnd => true
  | .logNext _ => true
  | .profileActivate _ _ => true
  | .profileFree _ _ => true
  | .traceStart _ => true
  | .traceStop _ => true
  | .traceFilterOn _ _ => true
  | .stotNow _ => true
  | .stotNEdge _ => true
  | .dumpDone => true
  | .hangWatchdogCheck => true
  | .graphBuild _ => true
  | .graphPeriodExpiry => true
  | .graphBuildDone => true
  | .powerGovernorSample r => decide (r.quads.length = 4) && decide (r.rails.length = 13)
  | .referenceCheck _ => true
  | .pointStepDone _ => true
  | .thermalSample r => decide (r.tines.length = 256) && decide (r.others.length = 4) && decide (r.hbms.length = 8)
  | .droopDetected _ => true
  | .quadrantGate _ _ => true
  | .quadrantUngate _ _ => true
  | .requestP0 _ => true
  | .requestP2 _ => true
  | .requestP3 _ => true
  | .requestP4 _ => true
  | .powerTransitionDone => true
  | .pfwNAssert _ => true
  | .pfwNRelease => true
  | .flushDone => true
  | .resetNAssert => true
  | .resetNRelease => true
  | .bootStageAdvance _ => true
  | .jiythRetrain _ => true
  | .vddAonUndervoltage => true
  | .railUndervoltage _ => true
  | .inputStuck _ => true
  | .rateHoldRelease _ => true
  | .jiythLinkDown => true
  | .i3cDynamicAddressAssign _ => true
  | .jtagAccess op => jtagFits op
  | .granuleMove _ g _ => granuleFits g

end Sys2Proof
end

