-- ==== Sys2Proof/Decode.lean ====
section
/-! DEFINITION. Decoding. The block has no instruction words: no row of spec/opcode_table.json carries bits, because its
commands are frames, accesses and events and not encoded words. -/

namespace Sys2Proof

/-- The command that a word of the table spells: no row gives bits, so no word spells one. -/
def decodeTableWord (_nbits _w : Nat) : Option Instr := none

end Sys2Proof
end

