-- ==== Sys2Proof/Machine/Bits.lean ====
section
/-! DEFINITION. Bit fields, byte order and two's complement on natural numbers: values in the pool and in the object
dictionary are little-endian (R360, chapter 4). -/

namespace Sys2Proof.Machine

/-- Bits [hi:lo] of a number. -/
def bitsOf (v hi lo : Nat) : Nat := v / 2 ^ lo % 2 ^ (hi + 1 - lo)

/-- Bit i of a number. -/
def bitAt (v i : Nat) : Bool := v / 2 ^ i % 2 == 1

/-- The number that bytes spell, least significant first. -/
def leNat : List Byte → Nat
  | [] => 0
  | b :: bs => b.toNat + 256 * leNat bs

/-- The `n` low bytes of a number, least significant first. -/
def toLe : Nat → Nat → List Byte
  | 0, _ => []
  | n + 1, v => BitVec.ofNat 8 v :: toLe n (v / 256)

/-- The signed value of a `w`-bit two's complement number. -/
def signed (w v : Nat) : Int :=
  if v % 2 ^ w < 2 ^ (w - 1) then (v % 2 ^ w : Nat) else (v % 2 ^ w : Nat) - (2 ^ w : Nat)

/-- The `w`-bit two's complement number of a value. -/
def unsigned (w : Nat) (v : Int) : Nat := (v % ((2 ^ w : Nat) : Int)).toNat

/-- Extend the sign of a 32-bit immediate to 64 bits. -/
def sext32 (v : Nat) : Nat := unsigned 64 (signed 32 v)

/-- The 64-bit little-endian words of a list of bytes. -/
def wordsOf (n : Nat) (bs : List Byte) : List Nat :=
  (List.range n).map (fun i => leNat ((bs.drop (8 * i)).take 8))

/-- The bytes of 64-bit words. -/
def bytesOfWords (ws : List Nat) : List Byte := ws.flatMap (toLe 8)

/-- A sum that saturates at the largest value of `w` bits. -/
def satAdd (w a b : Nat) : Nat := min (a + b) (2 ^ w - 1)

/-- Round up to a whole quotient. -/
def ceilDiv (a b : Nat) : Nat := (a + b - 1) / b

/-- The pattern that a failed read carries, one 32-bit word (R83). -/
def poisonWord : Nat := 0x7FC00BAD

/-- A payload of `n` bytes in which every 32-bit word is the poison word (R83). -/
def poisonBytes (n : Nat) : List Byte := ((List.replicate (n / 4 + 1) (toLe 4 poisonWord)).flatten).take n

/-- One bit of CRC-32C: polynomial 0x1EDC_6F41 (R70), with its bits reversed (log entry 82). -/
def crcBit (c : Nat) : Nat := if c % 2 = 1 then (c / 2) ^^^ 0x82F63B78 else c / 2

/-- One byte of CRC-32C. -/
def crcByte (c : Nat) (b : Byte) : Nat := (List.range 8).foldl (fun c _ => crcBit c) (c ^^^ b.toNat)

/-- CRC-32C of bytes. -/
def crc32c (bs : List Byte) : Nat := bs.foldl crcByte 0xFFFFFFFF ^^^ 0xFFFFFFFF

end Sys2Proof.Machine
end

