-- ==== Sys2Proof/Machine/Flags.lean ====
section
/-! DEFINITION. The codes that commands leave: error codes, OD abort codes, the quality of a time, and the class of an
event. -/

namespace Sys2Proof.Machine

/-! ## Error codes (Table 3.8) -/
def eOk : Nat := 0x00
def eTargetLost : Nat := 0x01
def eRevoked : Nat := 0x02
def eQuota : Nat := 0x03
def eStale : Nat := 0x04
def eConflict : Nat := 0x05
def ePoison : Nat := 0x06
def eAccess : Nat := 0x07
def eTimeout : Nat := 0x08
def eListChanged : Nat := 0x09
def eKeyFormat : Nat := 0x0A
def eNotOwner : Nat := 0x0B
def eDegraded : Nat := 0x0C
def eSealed : Nat := 0x0D
def eFormat : Nat := 0x0E
def eQuorum : Nat := 0x0F

/-! ## OD abort codes (Table 15.5) -/
def abOk : Nat := 0x00000000
def abNoObject : Nat := 0x0A900001
def abNoElement : Nat := 0x0A900002
def abLocked : Nat := 0x0A900003
def abDenied : Nat := 0x0A900010
def abWriteOnly : Nat := 0x0A900011
def abReadOnly : Nat := 0x0A900012
def abLength : Nat := 0x0A900020
def abRange : Nat := 0x0A900030
def abInUse : Nat := 0x0A900040
def abBusy : Nat := 0x0A900050
def abStorage : Nat := 0x0A900051

/-! ## Event numbers (Table 17.5) -/
def evConfigWrite : Nat := 0x0101
def evAccessUnbound : Nat := 0x0102
def evTrayRequest : Nat := 0x0103
def evTimeStep : Nat := 0x0201
def evTimeSourceFault : Nat := 0x0202
def evTriggerMissed : Nat := 0x0203
def evTagDuplicate : Nat := 0x0301
def evTargetLost : Nat := 0x0302
def evFrameLost : Nat := 0x0303
def evOpDone : Nat := 0x0401
def evRevokeDrained : Nat := 0x0402
def evRevokeDone : Nat := 0x0403
def evAbandoned : Nat := 0x0404
def evCeilingExceeded : Nat := 0x0405
def evBlockPoison : Nat := 0x0406
def evPublishConflict : Nat := 0x0501
def evReaderDropped : Nat := 0x0502
def evProbeTimeout : Nat := 0x0503
def evRingOverrun : Nat := 0x0601
def evPartyRejected : Nat := 0x0801
def evResultUnacked : Nat := 0x0802
def evEntropyFault : Nat := 0x0803
def evHandoffReverted : Nat := 0x0901
def evMatchPoison : Nat := 0x0A01
def evPortDown : Nat := 0x0B01
def evWidthMismatch : Nat := 0x0B02
def evCxlReleaseRefused : Nat := 0x0B03
def evShelfRefused : Nat := 0x0C01
def evDieFailed : Nat := 0x0C02
def evChunkLost : Nat := 0x0C03
def evVelvetExpired : Nat := 0x0D01
def evKeysZeroized : Nat := 0x0D02
def evLinkAuth : Nat := 0x0D03
def evImagePromoted : Nat := 0x0D04
def evEccCorrected : Nat := 0x1101
def evEccUncorrected : Nat := 0x1102
def evTineFailed : Nat := 0x1103
def evCanaryFail : Nat := 0x1104
def evTineQuarantined : Nat := 0x1105
def evDualMismatch : Nat := 0x1106
def evUnitFailed : Nat := 0x1107
def evQuadrantLost : Nat := 0x1108
def evHandlerOverrun : Nat := 0x1109
def evQueueOverflow : Nat := 0x110A
def evMgmtCoreFailed : Nat := 0x110B
def evBasicEntered : Nat := 0x110C
def evBasicLeft : Nat := 0x110D
def evIsolationHold : Nat := 0x110E

/-- The class of an event (Tables 17.1 and 17.5). -/
def eventClass (ev : Nat) : Nat :=
  if ev ∈ [evConfigWrite, evTimeStep, evTriggerMissed, evOpDone, evRevokeDrained, evRevokeDone, evHandoffReverted,
      evCxlReleaseRefused, evVelvetExpired, evKeysZeroized, evImagePromoted, evBasicEntered, evBasicLeft,
      evIsolationHold] then 0
  else if ev ∈ [evTimeSourceFault, evWidthMismatch, evEccCorrected] then 1
  else if ev ∈ [evQuadrantLost, evHandlerOverrun, evQueueOverflow, evMgmtCoreFailed] then 3
  else 2

end Sys2Proof.Machine
end

