-- ==== Sys2Proof/Config.lean ====
section
/-! DEFINITION. What one device fixes, and the values that the spec leaves open: opaque constants with no body, so that
no proof can see a value of one. Functions of a place number take the counter `State.freeN`, so that every use is fresh. -/

namespace Sys2Proof.Config

/-- The constants that a device carries from manufacture and that the manual gives no value (R373, Table 16.1): by OD
index, subindex and element (log entry 1). -/
opaque device (index sub elem : Nat) : Nat

/-- The set of the T1 write-back cache in which a granule of the tier of record is held (R99 gives 16 ways, not the index). -/
opaque t1Set (tier loc : Nat) : Nat

/-- The value that SYS gives for an IMM which R177 does not list. -/
opaque sysOther (n : Nat) : Nat

/-- The set of a slice's directory cache in which the entry of a line is held (R139 gives 16 ways, not the index). -/
opaque dirSet (line : Nat) : Nat

/-- The steered increment word of R53: only its bounds are given. -/
opaque steer (n offset maxSlew : Nat) : Nat

/-- A 32-bit output of a quadrant's DRBG (R232): the stream is keyed by entropy. -/
opaque drbgWord (n : Nat) : Nat

/-- The rounding of the logarithm (0) and of the cosine (1) in R232: the spec gives no bound. -/
opaque gaussRound (i w : Nat) : Nat

/-- The part of a decayed penalty below a whole half-life: the rounding of R330's power of two is open. -/
opaque decayPart (p elapsed halfLife : Nat) : Nat

/-- The hash of SRC, DST and CLASS that chooses a die-to-die endpoint (R290): the spec names its inputs alone. -/
opaque d2dHash (src dst cls : Nat) : Nat

/-- The CRC of a frame whose header and payload are encrypted (R394): by port and place in the direction's count. -/
opaque cipherCrc (port n : Nat) : Nat

/-- The polynomial of the stochastic-rounding generator, below its term of degree 64 (0), and the form of its register (1):
R190 gives its width and its length of period. -/
opaque lfsr (i : Nat) : Nat

/-- What R199 leaves open of VEXP2: the place, in the order of the numbers, of the least input whose result is at least the
pattern `v`. -/
opaque exp2From (v : Nat) : Nat

/-- What R199 leaves open of VRCP: the greatest magnitude of an input whose result has at least the magnitude of the pattern `v`,
by its sign. -/
opaque rcpFrom (v : Nat) : Nat

/-- Which of the `n` bytes that a page's copy brings stands at byte `j` of the task's window: R258 gives no order. -/
opaque taskRow (n j : Nat) : Option Nat

/-- The choice that R256 leaves the natural logarithm within its error bound. -/
opaque ln (x : Nat) : Nat

/-- The counters of an HBM stack's own accesses, refresh and throttling (Table 18.1), at a time: no rule numbers them. -/
opaque hbmCounter (i up : Nat) : Nat

/-- The length of a dump (R448 gives a bound). -/
opaque dumpLength (n : Nat) : Nat

/-- The EVENT of an event that Table 17.5 does not list: 0 a junction at 105 °C (Table 19.6), 1 to 3 a lost reference of
100 MHz, 156.25 MHz or 10 MHz (Table 19.4), 4 a lost HBM stack, 5 a source that Table 17.2 does not list, 6 a rail under
voltage (R487). -/
opaque unlistedEvent (i : Nat) : Nat

/-- DETAIL0 of an ECC event, "memory and location": Table 17.5 gives no packing. -/
opaque eccPlace (memory a b : Nat) : Nat

/-- A byte of a sealed herd's memory as its ciphertext reads where no key is held (R391, R399). -/
opaque cipherByte (n i : Nat) : Nat

/-- A byte of a dump (R448 names the sections and no layout). -/
opaque dumpByte (n i : Nat) : Nat

/-- A byte of the header of a wait-for graph (R453 names its contents and no layout). -/
opaque graphHeader (n i : Nat) : Nat

/-- A byte of a line that the companion held in M and gives back: its cache is outside the A9 (R137). -/
opaque companionByte (n i : Nat) : Nat

/-- The offset in a shelf's buffer window that the A9 gives an operation (Table 14.2, D1). -/
opaque shelfBuffer (port tag : Nat) : Nat

/-- Whether the named key unwraps (R387, R393), as the key plus one, or 0 where the integrity check fails: from the domain
byte, the herd or port, and the ciphertext and wrapped key as delivered. -/
opaque unwrap (domain id ct0 ct1 : Nat) : Nat

/-- A Falcon-1024 signature under the device signing key (R376), over a text, as a number of 1,280 bytes. -/
opaque falcon (n text : Nat) : Nat

/-- What verification of a staged image finds where no command says so: 0 that DIGEST matches, 1 that the signature verifies,
2 the measurement. -/
opaque imageCheck (what n : Nat) : Nat

/-- What JTAG shifts out where the spec fixes no value: 0 the device's IDCODE, 1 the pins in boundary scan, 2 the scanned
state (R398, R448). -/
opaque jtagOut (what n : Nat) : Nat

/-- The MCTP versions that Get MCTP Version Support answers (R371 leaves them to the DMTF base specification). -/
opaque mctpVersions : List Nat

end Sys2Proof.Config
end

