-- ==== Sys2Proof/Machine/OdEntries.lean ====
section
/-! DEFINITION. The entries of the object dictionary (R358): one named constant per entry, and one row per entry with the
attributes of Table 15.1, taken from the entry tables of the chapters. Values are the unsigned numbers that the bytes of a
value spell, little-endian (R360). -/

namespace Sys2Proof.Machine

/-- An entry: index and subindex. -/
structure Ent where
  index : Nat
  sub   : Nat
  deriving DecidableEq, Repr

/-- The types of Table 15.2. -/
inductive OdTy where
  | bool | u8 | u16 | u32 | u64 | s32 | s64 | f32 | ftime | enum | bytes | str
  deriving DecidableEq, Repr

/-- The access modes of Table 15.3; `wowi` is a WO entry with an idle condition (Table 16.8). -/
inductive OdAcc where
  | ro | rw | wo | const | rwIdle | woIdle
  deriving DecidableEq, Repr

/-- One row of an entry table. `rd` and `wr` are the paths that may read and write: bit 0 J, bit 1 B, bit 2 F; bit 3
stands for "the path that owns the element" (R384). `spans` are the values that Table 15.2 lets a write carry, each a
lowest value, a highest value and a step; a negative value stands as its two's complement. -/
structure OdRow where
  ent   : Ent
  ty    : OdTy
  width : Nat
  acc   : OdAcc
  rd    : Nat
  wr    : Nat
  spans : List (Nat × Nat × Nat)
  elems : Option Nat
  deriving DecidableEq, Repr

/-! OD 1000 (15_object_dictionary.md, R373) -/
def od1000_VENDOR : Ent := ⟨0x1000, 0x01⟩
def od1000_PRODUCT : Ent := ⟨0x1000, 0x02⟩
def od1000_PART : Ent := ⟨0x1000, 0x03⟩
def od1000_STEPPING : Ent := ⟨0x1000, 0x04⟩
def od1000_SERIAL : Ent := ⟨0x1000, 0x05⟩
def od1000_DEVICE_ID : Ent := ⟨0x1000, 0x06⟩
def od1000_OD_VERSION : Ent := ⟨0x1000, 0x07⟩
def od1000_FW_VERSION : Ent := ⟨0x1000, 0x08⟩
def od1000_MFG_TIME : Ent := ⟨0x1000, 0x09⟩
def od1000_ENTERPRISE : Ent := ⟨0x1000, 0x0A⟩
def od1000_ASSET_TAG : Ent := ⟨0x1000, 0x0B⟩

/-! OD 1100 (15_object_dictionary.md, R374) -/
def od1100_FM_ENDPOINT : Ent := ⟨0x1100, 0x01⟩
def od1100_COMPANION_EP : Ent := ⟨0x1100, 0x02⟩
def od1100_TINE_BASE : Ent := ⟨0x1100, 0x03⟩
def od1100_UNIT_BASE : Ent := ⟨0x1100, 0x04⟩
def od1100_REFUSED_J : Ent := ⟨0x1100, 0x05⟩
def od1100_REFUSED_B : Ent := ⟨0x1100, 0x06⟩
def od1100_REFUSED_F : Ent := ⟨0x1100, 0x07⟩
def od1100_ACCESSES : Ent := ⟨0x1100, 0x08⟩

/-! OD 1110 (15_object_dictionary.md, R374) -/
def od1110_I3C_STATIC : Ent := ⟨0x1110, 0x01⟩
def od1110_I3C_DYNAMIC : Ent := ⟨0x1110, 0x02⟩
def od1110_MCTP_EID : Ent := ⟨0x1110, 0x03⟩
def od1110_B_DISCARDS : Ent := ⟨0x1110, 0x04⟩

/-! OD 1120 (15_object_dictionary.md, R374) -/
def od1120_JY_STATE : Ent := ⟨0x1120, 0x01⟩
def od1120_JY_LANES : Ent := ⟨0x1120, 0x02⟩
def od1120_JY_ERRORS : Ent := ⟨0x1120, 0x03⟩

/-! OD 2000 (02_fabric_time.md, R51) -/
def od2000_SOURCE : Ent := ⟨0x2000, 0x01⟩
def od2000_UPSTREAM_PORT : Ent := ⟨0x2000, 0x02⟩
def od2000_NOW : Ent := ⟨0x2000, 0x03⟩
def od2000_QUALITY : Ent := ⟨0x2000, 0x04⟩
def od2000_TOD_SET : Ent := ⟨0x2000, 0x05⟩
def od2000_OUTLIER_LIMIT : Ent := ⟨0x2000, 0x06⟩
def od2000_MAX_SLEW : Ent := ⟨0x2000, 0x07⟩
def od2000_HOLDOVER_LIMIT : Ent := ⟨0x2000, 0x08⟩
def od2000_INBAND_TIMEOUT : Ent := ⟨0x2000, 0x09⟩
def od2000_OFFSET : Ent := ⟨0x2000, 0x0A⟩
def od2000_PATH_DELAY : Ent := ⟨0x2000, 0x0B⟩
def od2000_ALLOW_STEP : Ent := ⟨0x2000, 0x0C⟩
def od2000_TIME_PORTS : Ent := ⟨0x2000, 0x0D⟩
def od2000_PTP_TIMEOUT : Ent := ⟨0x2000, 0x0E⟩
def od2000_PTP_OFFSET : Ent := ⟨0x2000, 0x0F⟩

/-! OD 2008 (02_fabric_time.md, R51) -/
def od2008_ASYMMETRY : Ent := ⟨0x2008, 0x01⟩

/-! OD 2010 (02_fabric_time.md, R61) -/
def od2010_TIME : Ent := ⟨0x2010, 0x01⟩
def od2010_ACTION : Ent := ⟨0x2010, 0x02⟩
def od2010_TARGET : Ent := ⟨0x2010, 0x03⟩
def od2010_PERIOD : Ent := ⟨0x2010, 0x04⟩
def od2010_HERD : Ent := ⟨0x2010, 0x05⟩
def od2010_FLAGS : Ent := ⟨0x2010, 0x06⟩
def od2010_STATE : Ent := ⟨0x2010, 0x07⟩
def od2010_LAST_FIRE : Ent := ⟨0x2010, 0x08⟩
def od2010_LAST_QUALITY : Ent := ⟨0x2010, 0x09⟩
def od2010_LATE_COUNT : Ent := ⟨0x2010, 0x0A⟩

/-! OD 2020 (02_fabric_time.md, R66) -/
def od2020_LEAP_TIME : Ent := ⟨0x2020, 0x01⟩
def od2020_LEAP_OFFSET : Ent := ⟨0x2020, 0x02⟩

/-! OD 2021 (02_fabric_time.md, R66) -/
def od2021_UTC : Ent := ⟨0x2021, 0x01⟩

/-! OD 2100 (13_links_ports.md, R341) -/
def od2100_A9_NUMBER : Ent := ⟨0x2100, 0x01⟩
def od2100_BOARD_BASE : Ent := ⟨0x2100, 0x02⟩
def od2100_FAIL_WINDOW : Ent := ⟨0x2100, 0x03⟩
def od2100_HALF_LIFE : Ent := ⟨0x2100, 0x04⟩
def od2100_PENALTY_STEP : Ent := ⟨0x2100, 0x05⟩
def od2100_SUPPRESS : Ent := ⟨0x2100, 0x06⟩
def od2100_REUSE : Ent := ⟨0x2100, 0x07⟩
def od2100_MAX_PENALTY : Ent := ⟨0x2100, 0x08⟩
def od2100_LANE_SER_LIMIT : Ent := ⟨0x2100, 0x09⟩
def od2100_OCTET_AMP_CAP : Ent := ⟨0x2100, 0x0A⟩
def od2100_RECORDS_SENT : Ent := ⟨0x2100, 0x0B⟩
def od2100_WINDOW_DISCARDS : Ent := ⟨0x2100, 0x0C⟩

/-! OD 2110 (13_links_ports.md, R326) -/
def od2110_MODE : Ent := ⟨0x2110, 0x01⟩

/-! OD 2114 (13_links_ports.md, R326) -/
def od2114_AMP_CAP : Ent := ⟨0x2114, 0x01⟩
def od2114_AMP : Ent := ⟨0x2114, 0x02⟩
def od2114_CORRECTED : Ent := ⟨0x2114, 0x03⟩

/-! OD 2118 (13_links_ports.md, R326) -/
def od2118_STATE : Ent := ⟨0x2118, 0x01⟩
def od2118_WIDTH : Ent := ⟨0x2118, 0x02⟩
def od2118_MIN_WIDTH : Ent := ⟨0x2118, 0x03⟩
def od2118_VARIANT : Ent := ⟨0x2118, 0x04⟩
def od2118_RETRAIN : Ent := ⟨0x2118, 0x05⟩
def od2118_BAD_LANES : Ent := ⟨0x2118, 0x06⟩
def od2118_PENALTY : Ent := ⟨0x2118, 0x07⟩
def od2118_FAR_A9 : Ent := ⟨0x2118, 0x08⟩
def od2118_FAR_PORT : Ent := ⟨0x2118, 0x09⟩
def od2118_DOWNS : Ent := ⟨0x2118, 0x0A⟩

/-! OD 2120 (13_links_ports.md, R332) -/
def od2120_LOCATION : Ent := ⟨0x2120, 0x01⟩

/-! OD 2130 (13_links_ports.md, R333) -/
def od2130_SLOT1 : Ent := ⟨0x2130, 0x01⟩
def od2130_SLOT2 : Ent := ⟨0x2130, 0x02⟩
def od2130_SLOT3 : Ent := ⟨0x2130, 0x03⟩
def od2130_SLOT4 : Ent := ⟨0x2130, 0x04⟩
def od2130_SLOT5 : Ent := ⟨0x2130, 0x05⟩
def od2130_IN_USE : Ent := ⟨0x2130, 0x06⟩

/-! OD 2200 (03_transport.md, R92) -/
def od2200_LOAD_TIMEOUT : Ent := ⟨0x2200, 0x01⟩
def od2200_REPLAY_TIMER : Ent := ⟨0x2200, 0x02⟩
def od2200_LF_SCALE : Ent := ⟨0x2200, 0x03⟩
def od2200_FAILOVER_BOUND : Ent := ⟨0x2200, 0x04⟩

/-! OD 2300 (11_switch_core.md, R297) -/
def od2300_OVERFLOW_SIZE : Ent := ⟨0x2300, 0x01⟩
def od2300_SPILL_AT : Ent := ⟨0x2300, 0x02⟩
def od2300_RESP_RESERVE : Ent := ⟨0x2300, 0x03⟩
def od2300_CREDIT_INIT : Ent := ⟨0x2300, 0x04⟩
def od2300_ONDIE_USED0 : Ent := ⟨0x2300, 0x05⟩
def od2300_ONDIE_USED1 : Ent := ⟨0x2300, 0x06⟩
def od2300_ONDIE_USED2 : Ent := ⟨0x2300, 0x07⟩
def od2300_ONDIE_USED3 : Ent := ⟨0x2300, 0x08⟩
def od2300_OVERFLOW_USED0 : Ent := ⟨0x2300, 0x09⟩
def od2300_OVERFLOW_USED1 : Ent := ⟨0x2300, 0x0A⟩
def od2300_OVERFLOW_USED2 : Ent := ⟨0x2300, 0x0B⟩
def od2300_OVERFLOW_USED3 : Ent := ⟨0x2300, 0x0C⟩
def od2300_FRAMES_LOST : Ent := ⟨0x2300, 0x0D⟩
def od2300_CREDIT_HOLDS : Ent := ⟨0x2300, 0x0E⟩

/-! OD 2310 (11_switch_core.md, R297) -/
def od2310_BUF_RESERVE : Ent := ⟨0x2310, 0x01⟩
def od2310_TG_SLOTS : Ent := ⟨0x2310, 0x02⟩

/-! OD 2320 (11_switch_core.md, R292) -/
def od2320_STATE : Ent := ⟨0x2320, 0x01⟩
def od2320_HERD : Ent := ⟨0x2320, 0x02⟩
def od2320_PORTS : Ent := ⟨0x2320, 0x03⟩
def od2320_COPIES : Ent := ⟨0x2320, 0x04⟩

/-! OD 2400 (12_traffic_manager.md, R299) -/
def od2400_TYPE : Ent := ⟨0x2400, 0x01⟩
def od2400_HERD : Ent := ⟨0x2400, 0x02⟩
def od2400_PORT : Ent := ⟨0x2400, 0x03⟩
def od2400_CLASS : Ent := ⟨0x2400, 0x04⟩
def od2400_WEIGHT : Ent := ⟨0x2400, 0x05⟩
def od2400_SHAPED : Ent := ⟨0x2400, 0x06⟩
def od2400_IDLE_SLOPE : Ent := ⟨0x2400, 0x07⟩
def od2400_SEND_SLOPE : Ent := ⟨0x2400, 0x08⟩
def od2400_BURST : Ent := ⟨0x2400, 0x09⟩
def od2400_DEPTH : Ent := ⟨0x2400, 0x0A⟩
def od2400_CREDIT : Ent := ⟨0x2400, 0x0B⟩
def od2400_FRAMES : Ent := ⟨0x2400, 0x0C⟩
def od2400_DEPTH_HIST : Ent := ⟨0x2400, 0x0D⟩
def od2400_DELAY_HIST : Ent := ⟨0x2400, 0x0E⟩
def od2400_HIST_CLEAR : Ent := ⟨0x2400, 0x0F⟩

/-! OD 2408 (12_traffic_manager.md, R319) -/
def od2408_CLASS_SET : Ent := ⟨0x2408, 0x01⟩
def od2408_SAMPLE_PERIOD : Ent := ⟨0x2408, 0x02⟩
def od2408_INTERNAL_CAP : Ent := ⟨0x2408, 0x03⟩
def od2408_DEFAULTED : Ent := ⟨0x2408, 0x04⟩
def od2408_TM_DISCARDS : Ent := ⟨0x2408, 0x05⟩

/-! OD 2440 (12_traffic_manager.md, R316) -/
def od2440_RATE : Ent := ⟨0x2440, 0x01⟩
def od2440_BUCKET : Ent := ⟨0x2440, 0x02⟩
def od2440_CAP : Ent := ⟨0x2440, 0x03⟩
def od2440_OUTSTANDING : Ent := ⟨0x2440, 0x04⟩
def od2440_HELD : Ent := ⟨0x2440, 0x05⟩

/-! OD 2450 (12_traffic_manager.md, R308) -/
def od2450_STATE : Ent := ⟨0x2450, 0x01⟩
def od2450_START : Ent := ⟨0x2450, 0x02⟩
def od2450_FIRST : Ent := ⟨0x2450, 0x03⟩
def od2450_CURRENT : Ent := ⟨0x2450, 0x04⟩
def od2450_OVERRUNS : Ent := ⟨0x2450, 0x05⟩
def od2450_MAXFRAME0 : Ent := ⟨0x2450, 0x06⟩
def od2450_MAXFRAME1 : Ent := ⟨0x2450, 0x07⟩
def od2450_MAXFRAME2 : Ent := ⟨0x2450, 0x08⟩
def od2450_MAXFRAME3 : Ent := ⟨0x2450, 0x09⟩
def od2450_MAXFRAME4 : Ent := ⟨0x2450, 0x0A⟩
def od2450_MAXFRAME5 : Ent := ⟨0x2450, 0x0B⟩
def od2450_MAXFRAME6 : Ent := ⟨0x2450, 0x0C⟩
def od2450_MAXFRAME7 : Ent := ⟨0x2450, 0x0D⟩

/-! OD 2460 (12_traffic_manager.md, R308) -/
def od2460_GATE_ENTRY : Ent := ⟨0x2460, 0x01⟩

/-! OD 2470 (12_traffic_manager.md, R319) -/
def od2470_TG_CLASS : Ent := ⟨0x2470, 0x01⟩

/-! OD 2800 (01_herds_and_trust.md, R31) -/
def od2800_STATE : Ent := ⟨0x2800, 0x01⟩
def od2800_LEVEL : Ent := ⟨0x2800, 0x02⟩
def od2800_TIME_GATED : Ent := ⟨0x2800, 0x03⟩
def od2800_KEY_STATE : Ent := ⟨0x2800, 0x04⟩
def od2800_CONFIG_DIGEST : Ent := ⟨0x2800, 0x05⟩

/-! OD 2810 (01_herds_and_trust.md, R492) -/
def od2810_ROLE : Ent := ⟨0x2810, 0x01⟩
def od2810_ENDPOINT : Ent := ⟨0x2810, 0x02⟩
def od2810_HERD : Ent := ⟨0x2810, 0x03⟩

/-! OD 2820 (04_memory_tiers.md, R95) -/
def od2820_STATE : Ent := ⟨0x2820, 0x01⟩
def od2820_HERD : Ent := ⟨0x2820, 0x02⟩
def od2820_BASE : Ent := ⟨0x2820, 0x03⟩
def od2820_GRANULES : Ent := ⟨0x2820, 0x04⟩
def od2820_HOME : Ent := ⟨0x2820, 0x05⟩
def od2820_PLACE : Ent := ⟨0x2820, 0x06⟩
def od2820_CLASS : Ent := ⟨0x2820, 0x07⟩
def od2820_FLAGS : Ent := ⟨0x2820, 0x08⟩
def od2820_SHARED : Ent := ⟨0x2820, 0x09⟩
def od2820_ARG : Ent := ⟨0x2820, 0x0A⟩
def od2820_OP : Ent := ⟨0x2820, 0x0B⟩
def od2820_RESULT : Ent := ⟨0x2820, 0x0C⟩
def od2820_VOLUME : Ent := ⟨0x2820, 0x0D⟩
def od2820_CSTATE : Ent := ⟨0x2820, 0x0E⟩

/-! OD 2830 (04_memory_tiers.md, R109) -/
def od2830_T1_RESERVE : Ent := ⟨0x2830, 0x01⟩
def od2830_T1_QUOTA : Ent := ⟨0x2830, 0x02⟩
def od2830_T1_USED : Ent := ⟨0x2830, 0x03⟩
def od2830_T2_RESERVE : Ent := ⟨0x2830, 0x04⟩
def od2830_T2_QUOTA : Ent := ⟨0x2830, 0x05⟩
def od2830_T2_USED : Ent := ⟨0x2830, 0x06⟩
def od2830_T3_RESERVE : Ent := ⟨0x2830, 0x07⟩
def od2830_T3_QUOTA : Ent := ⟨0x2830, 0x08⟩
def od2830_T3_USED : Ent := ⟨0x2830, 0x09⟩
def od2830_CACHE_WAYS : Ent := ⟨0x2830, 0x0A⟩
def od2830_DIRTY_RESERVE : Ent := ⟨0x2830, 0x0B⟩

/-! OD 2840 (03_transport.md, R90) -/
def od2840_REVOKE_TIMEOUT : Ent := ⟨0x2840, 0x01⟩
def od2840_COMPOSITION_DEADLINE : Ent := ⟨0x2840, 0x02⟩

/-! OD 2C00 (04_memory_tiers.md, R99) -/
def od2C00_T1_RESERVABLE : Ent := ⟨0x2C00, 0x01⟩
def od2C00_T2_RESERVABLE : Ent := ⟨0x2C00, 0x02⟩
def od2C00_T3_RESERVABLE : Ent := ⟨0x2C00, 0x03⟩
def od2C00_CACHE_SIZE : Ent := ⟨0x2C00, 0x04⟩
def od2C00_METADATA_SIZE : Ent := ⟨0x2C00, 0x05⟩
def od2C00_SCRUB_RATE : Ent := ⟨0x2C00, 0x06⟩
def od2C00_T1_FREE : Ent := ⟨0x2C00, 0x07⟩
def od2C00_T2_FREE : Ent := ⟨0x2C00, 0x08⟩
def od2C00_T3_FREE : Ent := ⟨0x2C00, 0x09⟩

/-! OD 2C10 (04_memory_tiers.md, R105) -/
def od2C10_FLUSH_BW : Ent := ⟨0x2C10, 0x01⟩
def od2C10_FLUSH_POWER : Ent := ⟨0x2C10, 0x02⟩
def od2C10_RESERVE_J : Ent := ⟨0x2C10, 0x03⟩
def od2C10_CEILING : Ent := ⟨0x2C10, 0x04⟩
def od2C10_DIRTY_BYTES : Ent := ⟨0x2C10, 0x05⟩
def od2C10_CLEAN_START : Ent := ⟨0x2C10, 0x06⟩
def od2C10_EFFECTIVE_BW : Ent := ⟨0x2C10, 0x07⟩

/-! OD 2C20 (14_flash_translation.md, R357) -/
def od2C20_OVERPROVISION : Ent := ⟨0x2C20, 0x01⟩
def od2C20_GC_START : Ent := ⟨0x2C20, 0x02⟩
def od2C20_GC_URGENT : Ent := ⟨0x2C20, 0x03⟩
def od2C20_CHECKPOINT_CHUNKS : Ent := ⟨0x2C20, 0x04⟩
def od2C20_WEAR_SPREAD : Ent := ⟨0x2C20, 0x05⟩
def od2C20_READ_LIMIT : Ent := ⟨0x2C20, 0x06⟩
def od2C20_SHELF_OP_TIMEOUT : Ent := ⟨0x2C20, 0x07⟩
def od2C20_RETENTION_DAYS : Ent := ⟨0x2C20, 0x08⟩
def od2C20_RESERVE_BLOCKS : Ent := ⟨0x2C20, 0x09⟩

/-! OD 2C30 (14_flash_translation.md, R357) -/
def od2C30_STATE : Ent := ⟨0x2C30, 0x01⟩
def od2C30_GOOD_BLOCKS : Ent := ⟨0x2C30, 0x02⟩
def od2C30_RETIRED : Ent := ⟨0x2C30, 0x03⟩
def od2C30_ERASE_MIN : Ent := ⟨0x2C30, 0x04⟩
def od2C30_ERASE_MAX : Ent := ⟨0x2C30, 0x05⟩
def od2C30_HOST_CHUNKS : Ent := ⟨0x2C30, 0x06⟩
def od2C30_FLASH_CHUNKS : Ent := ⟨0x2C30, 0x07⟩
def od2C30_REFRESHES : Ent := ⟨0x2C30, 0x08⟩
def od2C30_LOST_CHUNKS : Ent := ⟨0x2C30, 0x09⟩

/-! OD 2C40 (14_flash_translation.md, R346) -/
def od2C40_STATE : Ent := ⟨0x2C40, 0x01⟩
def od2C40_ID : Ent := ⟨0x2C40, 0x02⟩
def od2C40_HERD : Ent := ⟨0x2C40, 0x03⟩
def od2C40_GRANULES : Ent := ⟨0x2C40, 0x04⟩
def od2C40_PERSIST : Ent := ⟨0x2C40, 0x05⟩
def od2C40_CHUNKS : Ent := ⟨0x2C40, 0x06⟩
def od2C40_DELETE : Ent := ⟨0x2C40, 0x07⟩

/-! OD 3000 (05_coherence.md, R152) -/
def od3000_H_CAPACITY : Ent := ⟨0x3000, 0x01⟩
def od3000_RUT_COUNT : Ent := ⟨0x3000, 0x02⟩
def od3000_RUT_WINDOW : Ent := ⟨0x3000, 0x03⟩
def od3000_RUT_EXIT : Ent := ⟨0x3000, 0x04⟩
def od3000_RUT_CREDIT : Ent := ⟨0x3000, 0x05⟩
def od3000_INVAL_TIMEOUT : Ent := ⟨0x3000, 0x06⟩
def od3000_PROBE_TIMEOUT : Ent := ⟨0x3000, 0x07⟩
def od3000_PRED_THRESHOLD : Ent := ⟨0x3000, 0x08⟩
def od3000_RUT_LINES : Ent := ⟨0x3000, 0x09⟩
def od3000_RUT_REFUSED : Ent := ⟨0x3000, 0x0A⟩

/-! OD 3010 (05_coherence.md, R130) -/
def od3010_EXTENT : Ent := ⟨0x3010, 0x01⟩
def od3010_ENDPOINT : Ent := ⟨0x3010, 0x02⟩
def od3010_HERD : Ent := ⟨0x3010, 0x03⟩
def od3010_STATE : Ent := ⟨0x3010, 0x04⟩

/-! OD 3020 (05_coherence.md, R129) -/
def od3020_VERSION : Ent := ⟨0x3020, 0x01⟩
def od3020_PUBLISHER : Ent := ⟨0x3020, 0x02⟩
def od3020_FROZEN : Ent := ⟨0x3020, 0x03⟩
def od3020_THAW : Ent := ⟨0x3020, 0x04⟩

/-! OD 3030 (05_coherence.md, R139) -/
def od3030_DIR_WAYS : Ent := ⟨0x3030, 0x01⟩

/-! OD 3400 (06_tine_execution.md, R182) -/
def od3400_STATE : Ent := ⟨0x3400, 0x01⟩
def od3400_LAST_HERD : Ent := ⟨0x3400, 0x02⟩
def od3400_THREADS_BUSY : Ent := ⟨0x3400, 0x03⟩
def od3400_SB_BUSY : Ent := ⟨0x3400, 0x04⟩

/-! OD 3408 (06_tine_execution.md, R182) -/
def od3408_REISSUE_LIMIT : Ent := ⟨0x3408, 0x01⟩
def od3408_LAUNCHED : Ent := ⟨0x3408, 0x02⟩

/-! OD 3410 (06_tine_execution.md, R165) -/
def od3410_STATE : Ent := ⟨0x3410, 0x01⟩
def od3410_HERD : Ent := ⟨0x3410, 0x02⟩
def od3410_BASE : Ent := ⟨0x3410, 0x03⟩
def od3410_SLOTS : Ent := ⟨0x3410, 0x04⟩
def od3410_CTRL : Ent := ⟨0x3410, 0x05⟩
def od3410_EVENT : Ent := ⟨0x3410, 0x06⟩
def od3410_TINES : Ent := ⟨0x3410, 0x07⟩
def od3410_PRIORITY : Ent := ⟨0x3410, 0x08⟩
def od3410_CONSUMED : Ent := ⟨0x3410, 0x09⟩
def od3410_INFLIGHT : Ent := ⟨0x3410, 0x0A⟩
def od3410_REISSUES : Ent := ⟨0x3410, 0x0B⟩

/-! OD 3440 (07_arithmetic.md, R205) -/
def od3440_SR_SEED : Ent := ⟨0x3440, 0x01⟩
def od3440_SATURATED : Ent := ⟨0x3440, 0x02⟩
def od3440_NAN_BLOCKS : Ent := ⟨0x3440, 0x03⟩

/-! OD 3800 (08_collectives_optimizer.md, R207) -/
def od3800_STATE : Ent := ⟨0x3800, 0x01⟩
def od3800_HERD : Ent := ⟨0x3800, 0x02⟩
def od3800_KIND : Ent := ⟨0x3800, 0x03⟩
def od3800_AGG : Ent := ⟨0x3800, 0x04⟩
def od3800_OP : Ent := ⟨0x3800, 0x05⟩
def od3800_FMT_IN : Ent := ⟨0x3800, 0x06⟩
def od3800_FMT_OUT : Ent := ⟨0x3800, 0x07⟩
def od3800_ELEMENTS : Ent := ⟨0x3800, 0x08⟩
def od3800_PARENT : Ent := ⟨0x3800, 0x09⟩
def od3800_CHILDREN : Ent := ⟨0x3800, 0x0A⟩
def od3800_LOCAL : Ent := ⟨0x3800, 0x0B⟩
def od3800_MCGROUP : Ent := ⟨0x3800, 0x0C⟩
def od3800_RBASE : Ent := ⟨0x3800, 0x0D⟩
def od3800_ALT_STRIDE : Ent := ⟨0x3800, 0x0E⟩
def od3800_CLOSE : Ent := ⟨0x3800, 0x0F⟩
def od3800_STEP_TIMEOUT : Ent := ⟨0x3800, 0x10⟩
def od3800_MISSING : Ent := ⟨0x3800, 0x11⟩
def od3800_EVENT : Ent := ⟨0x3800, 0x12⟩
def od3800_OPEN_STEP : Ent := ⟨0x3800, 0x13⟩
def od3800_STEPS_DONE : Ent := ⟨0x3800, 0x14⟩
def od3800_STEPS_ABORTED : Ent := ⟨0x3800, 0x15⟩

/-! OD 3810 (08_collectives_optimizer.md, R208) -/
def od3810_STATE : Ent := ⟨0x3810, 0x01⟩
def od3810_CONTEXT : Ent := ⟨0x3810, 0x02⟩
def od3810_INDEX : Ent := ⟨0x3810, 0x03⟩
def od3810_ENDPOINT : Ent := ⟨0x3810, 0x04⟩
def od3810_RING : Ent := ⟨0x3810, 0x05⟩
def od3810_HERD : Ent := ⟨0x3810, 0x06⟩
def od3810_STAGE : Ent := ⟨0x3810, 0x07⟩
def od3810_MISSED : Ent := ⟨0x3810, 0x08⟩

/-! OD 3820 (08_collectives_optimizer.md, R223) -/
def od3820_OPTIMIZER : Ent := ⟨0x3820, 0x01⟩
def od3820_W_ADDR : Ent := ⟨0x3820, 0x02⟩
def od3820_M_ADDR : Ent := ⟨0x3820, 0x03⟩
def od3820_V_ADDR : Ent := ⟨0x3820, 0x04⟩
def od3820_G_ADDR : Ent := ⟨0x3820, 0x05⟩
def od3820_LR : Ent := ⟨0x3820, 0x06⟩
def od3820_BETA1 : Ent := ⟨0x3820, 0x07⟩
def od3820_BETA2 : Ent := ⟨0x3820, 0x08⟩
def od3820_EPS : Ent := ⟨0x3820, 0x09⟩
def od3820_WDECAY : Ent := ⟨0x3820, 0x0A⟩
def od3820_GSCALE : Ent := ⟨0x3820, 0x0B⟩
def od3820_T : Ent := ⟨0x3820, 0x0C⟩
def od3820_NONFINITE : Ent := ⟨0x3820, 0x0D⟩
def od3820_KRING : Ent := ⟨0x3820, 0x0E⟩
def od3820_K : Ent := ⟨0x3820, 0x0F⟩
def od3820_CLIP : Ent := ⟨0x3820, 0x10⟩
def od3820_SIGMA : Ent := ⟨0x3820, 0x11⟩
def od3820_OUT_ADDR : Ent := ⟨0x3820, 0x12⟩

/-! OD 3840 (08_collectives_optimizer.md, R239) -/
def od3840_REDUCE_EP0 : Ent := ⟨0x3840, 0x01⟩
def od3840_REDUCE_EP1 : Ent := ⟨0x3840, 0x02⟩
def od3840_REDUCE_EP2 : Ent := ⟨0x3840, 0x03⟩
def od3840_REDUCE_EP3 : Ent := ⟨0x3840, 0x04⟩
def od3840_RESEED : Ent := ⟨0x3840, 0x05⟩
def od3840_CHUNKS_REDUCED : Ent := ⟨0x3840, 0x06⟩

/-! OD 3C00 (09_attention_engine.md, R265) -/
def od3C00_EDIT_TIMEOUT : Ent := ⟨0x3C00, 0x01⟩
def od3C00_RECORDS : Ent := ⟨0x3C00, 0x02⟩
def od3C00_LIST_CHANGED : Ent := ⟨0x3C00, 0x03⟩
def od3C00_KEY_FORMAT : Ent := ⟨0x3C00, 0x04⟩
def od3C00_NOT_OWNER : Ent := ⟨0x3C00, 0x05⟩
def od3C00_REVERTS : Ent := ⟨0x3C00, 0x06⟩
def od3C00_SCALE_BOUNDS : Ent := ⟨0x3C00, 0x07⟩

/-! OD 3C20 (09_attention_engine.md, R265) -/
def od3C20_HANDOFF_TIMEOUT : Ent := ⟨0x3C20, 0x01⟩

/-! OD 4000 (10_match_engine.md, R281) -/
def od4000_SEARCHES : Ent := ⟨0x4000, 0x01⟩
def od4000_UPDATES : Ent := ⟨0x4000, 0x02⟩
def od4000_POISONED : Ent := ⟨0x4000, 0x03⟩

/-! OD 4010 (10_match_engine.md, R269) -/
def od4010_STATE : Ent := ⟨0x4010, 0x01⟩
def od4010_HERD : Ent := ⟨0x4010, 0x02⟩
def od4010_BANK : Ent := ⟨0x4010, 0x03⟩
def od4010_FIRST : Ent := ⟨0x4010, 0x04⟩
def od4010_COUNT : Ent := ⟨0x4010, 0x05⟩
def od4010_GEN : Ent := ⟨0x4010, 0x06⟩
def od4010_VALID : Ent := ⟨0x4010, 0x07⟩

/-! OD 4020 (10_match_engine.md, R273) -/
def od4020_ENTRY_RECORD : Ent := ⟨0x4020, 0x01⟩

/-! OD 4100 (16_security_lifecycle.md, R400) -/
def od4100_LIFECYCLE : Ent := ⟨0x4100, 0x01⟩
def od4100_ADVANCE : Ent := ⟨0x4100, 0x02⟩
def od4100_DEBUG_LEVEL : Ent := ⟨0x4100, 0x03⟩
def od4100_DEBUG_EFFECTIVE : Ent := ⟨0x4100, 0x04⟩
def od4100_VENDOR_KEY_HASH : Ent := ⟨0x4100, 0x05⟩

/-! OD 4104 (16_security_lifecycle.md, R400) -/
def od4104_EK : Ent := ⟨0x4104, 0x01⟩

/-! OD 410C (16_security_lifecycle.md, R400) -/
def od410C_CERT : Ent := ⟨0x410C, 0x01⟩

/-! OD 4110 (16_security_lifecycle.md, R400) -/
def od4110_ACTIVE_SLOT : Ent := ⟨0x4110, 0x01⟩
def od4110_FW_STATE : Ent := ⟨0x4110, 0x02⟩
def od4110_STAGE_ADDR : Ent := ⟨0x4110, 0x03⟩
def od4110_STAGE_LENGTH : Ent := ⟨0x4110, 0x04⟩
def od4110_INSTALL : Ent := ⟨0x4110, 0x05⟩
def od4110_INSTALL_RESULT : Ent := ⟨0x4110, 0x06⟩
def od4110_COMMIT : Ent := ⟨0x4110, 0x07⟩
def od4110_VELVET_TIMEOUT : Ent := ⟨0x4110, 0x08⟩
def od4110_FUSES_LEFT : Ent := ⟨0x4110, 0x09⟩

/-! OD 4130 (16_security_lifecycle.md, R400) -/
def od4130_NONCE : Ent := ⟨0x4130, 0x01⟩
def od4130_SUBJECT : Ent := ⟨0x4130, 0x02⟩
def od4130_GENERATE : Ent := ⟨0x4130, 0x03⟩
def od4130_STATE : Ent := ⟨0x4130, 0x04⟩

/-! OD 4138 (16_security_lifecycle.md, R400) -/
def od4138_REPORT : Ent := ⟨0x4138, 0x01⟩

/-! OD 4140 (16_security_lifecycle.md, R400) -/
def od4140_KEY_CT0 : Ent := ⟨0x4140, 0x01⟩
def od4140_KEY_CT1 : Ent := ⟨0x4140, 0x02⟩
def od4140_KEY_LOAD : Ent := ⟨0x4140, 0x03⟩

/-! OD 4150 (16_security_lifecycle.md, R400) -/
def od4150_LINK_CT0 : Ent := ⟨0x4150, 0x01⟩
def od4150_LINK_CT1 : Ent := ⟨0x4150, 0x02⟩
def od4150_LINK_LOAD : Ent := ⟨0x4150, 0x03⟩
def od4150_ENCRYPT : Ent := ⟨0x4150, 0x04⟩
def od4150_AUTH_FAILS : Ent := ⟨0x4150, 0x05⟩

/-! OD 4400 (17_faults_degraded.md, R429) -/
def od4400_DEVICE_RING : Ent := ⟨0x4400, 0x01⟩
def od4400_MODE : Ent := ⟨0x4400, 0x02⟩
def od4400_RECOVER : Ent := ⟨0x4400, 0x03⟩
def od4400_BASIC_RATE : Ent := ⟨0x4400, 0x04⟩
def od4400_DEPTH : Ent := ⟨0x4400, 0x05⟩
def od4400_QUEUED : Ent := ⟨0x4400, 0x06⟩
def od4400_DROPPED : Ent := ⟨0x4400, 0x07⟩
def od4400_LOG_LOST : Ent := ⟨0x4400, 0x08⟩
def od4400_TINE_WATCHDOG : Ent := ⟨0x4400, 0x09⟩
def od4400_DUAL_INTERVAL : Ent := ⟨0x4400, 0x0A⟩
def od4400_DUAL_CHECKS : Ent := ⟨0x4400, 0x0B⟩
def od4400_DUAL_MISMATCHES : Ent := ⟨0x4400, 0x0C⟩
def od4400_DUAL_SKIPPED : Ent := ⟨0x4400, 0x0D⟩
def od4400_CANARY_RING : Ent := ⟨0x4400, 0x0E⟩
def od4400_CANARY_SKIPPED : Ent := ⟨0x4400, 0x0F⟩

/-! OD 4408 (17_faults_degraded.md, R429) -/
def od4408_HERD_RING : Ent := ⟨0x4408, 0x01⟩
def od4408_TG_CANARY_PERIOD : Ent := ⟨0x4408, 0x02⟩

/-! OD 4410 (17_faults_degraded.md, R429) -/
def od4410_FAIL_BINS : Ent := ⟨0x4410, 0x01⟩
def od4410_TEMP : Ent := ⟨0x4410, 0x02⟩
def od4410_RELEASE : Ent := ⟨0x4410, 0x03⟩
def od4410_CANARIES : Ent := ⟨0x4410, 0x04⟩

/-! OD 4420 (17_faults_degraded.md, R429) -/
def od4420_TINES_PLACEABLE : Ent := ⟨0x4420, 0x01⟩
def od4420_TINES_QUARANTINED : Ent := ⟨0x4420, 0x02⟩
def od4420_TINES_FAILED : Ent := ⟨0x4420, 0x03⟩
def od4420_QUADRANTS_UP : Ent := ⟨0x4420, 0x04⟩
def od4420_STACKS_UP : Ent := ⟨0x4420, 0x05⟩
def od4420_REDUCE_UNITS_UP : Ent := ⟨0x4420, 0x06⟩
def od4420_PEAK_MXFP4 : Ent := ⟨0x4420, 0x07⟩

/-! OD 4430 (17_faults_degraded.md, R429) -/
def od4430_LOG_NEXT : Ent := ⟨0x4430, 0x01⟩
def od4430_LOG_COUNT : Ent := ⟨0x4430, 0x02⟩

/-! OD 4800 (18_debug_trace.md, R430) -/
def od4800_COUNTER : Ent := ⟨0x4800, 0x01⟩

/-! OD 4810 (18_debug_trace.md, R433) -/
def od4810_STATE : Ent := ⟨0x4810, 0x01⟩
def od4810_HERD : Ent := ⟨0x4810, 0x02⟩
def od4810_SLOTS : Ent := ⟨0x4810, 0x03⟩
def od4810_LATCH_ADDR : Ent := ⟨0x4810, 0x04⟩
def od4810_LATCH_SLOTS : Ent := ⟨0x4810, 0x05⟩
def od4810_LATCHES : Ent := ⟨0x4810, 0x06⟩
def od4810_LIVE : Ent := ⟨0x4810, 0x07⟩

/-! OD 4820 (18_debug_trace.md, R439) -/
def od4820_G_EXTENT : Ent := ⟨0x4820, 0x01⟩
def od4820_G_GRANULE : Ent := ⟨0x4820, 0x02⟩
def od4820_G_DESCRIPTOR : Ent := ⟨0x4820, 0x03⟩

/-! OD 4880 (18_debug_trace.md, R440) -/
def od4880_TRACE_SIZE : Ent := ⟨0x4880, 0x01⟩
def od4880_STATE : Ent := ⟨0x4880, 0x02⟩
def od4880_MODE : Ent := ⟨0x4880, 0x03⟩
def od4880_CAP : Ent := ⟨0x4880, 0x04⟩
def od4880_BASE : Ent := ⟨0x4880, 0x05⟩
def od4880_WRITE_OFFSET0 : Ent := ⟨0x4880, 0x06⟩
def od4880_WRITE_OFFSET1 : Ent := ⟨0x4880, 0x07⟩
def od4880_WRITE_OFFSET2 : Ent := ⟨0x4880, 0x08⟩
def od4880_WRITE_OFFSET3 : Ent := ⟨0x4880, 0x09⟩

/-! OD 4890 (18_debug_trace.md, R440) -/
def od4890_STATE : Ent := ⟨0x4890, 0x01⟩
def od4890_TYPES : Ent := ⟨0x4890, 0x02⟩
def od4890_HERD : Ent := ⟨0x4890, 0x03⟩
def od4890_UNIT : Ent := ⟨0x4890, 0x04⟩
def od4890_OPCS : Ent := ⟨0x4890, 0x05⟩
def od4890_DATA : Ent := ⟨0x4890, 0x06⟩

/-! OD 48A0 (18_debug_trace.md, R450) -/
def od48A0_STOT_MODE : Ent := ⟨0x48A0, 0x01⟩
def od48A0_STOT_NOW : Ent := ⟨0x48A0, 0x02⟩
def od48A0_STATE : Ent := ⟨0x48A0, 0x03⟩
def od48A0_CAUSE : Ent := ⟨0x48A0, 0x04⟩
def od48A0_HANG_TIMEOUT : Ent := ⟨0x48A0, 0x05⟩
def od48A0_STOT_TIME : Ent := ⟨0x48A0, 0x06⟩
def od48A0_DUMP_LENGTH : Ent := ⟨0x48A0, 0x07⟩

/-! OD 48A8 (18_debug_trace.md, R448) -/
def od48A8_DUMP : Ent := ⟨0x48A8, 0x01⟩

/-! OD 48B0 (18_debug_trace.md, R453) -/
def od48B0_PERIOD : Ent := ⟨0x48B0, 0x01⟩
def od48B0_BUILD : Ent := ⟨0x48B0, 0x02⟩
def od48B0_STATE : Ent := ⟨0x48B0, 0x03⟩
def od48B0_NODES : Ent := ⟨0x48B0, 0x04⟩
def od48B0_EDGES : Ent := ⟨0x48B0, 0x05⟩
def od48B0_CYCLES : Ent := ⟨0x48B0, 0x06⟩
def od48B0_STALLED : Ent := ⟨0x48B0, 0x07⟩
def od48B0_TRUNCATED : Ent := ⟨0x48B0, 0x08⟩
def od48B0_BUILT : Ent := ⟨0x48B0, 0x09⟩

/-! OD 48B8 (18_debug_trace.md, R453) -/
def od48B8_GRAPH : Ent := ⟨0x48B8, 0x01⟩

/-! OD 4C00 (19_power_clocks_thermal.md, R473) -/
def od4C00_STATE : Ent := ⟨0x4C00, 0x01⟩
def od4C00_REQUEST : Ent := ⟨0x4C00, 0x02⟩
def od4C00_POWER_LIMIT : Ent := ⟨0x4C00, 0x03⟩
def od4C00_PACKAGE_POWER : Ent := ⟨0x4C00, 0x04⟩
def od4C00_TJ_THROTTLE : Ent := ⟨0x4C00, 0x05⟩
def od4C00_TJ_ALERT : Ent := ⟨0x4C00, 0x06⟩
def od4C00_TJ_MAX : Ent := ⟨0x4C00, 0x07⟩
def od4C00_THROTTLE_EVENTS : Ent := ⟨0x4C00, 0x08⟩
def od4C00_TRANSITION : Ent := ⟨0x4C00, 0x09⟩
def od4C00_FLUSH_STATE : Ent := ⟨0x4C00, 0x0A⟩

/-! OD 4C08 (19_power_clocks_thermal.md, R473) -/
def od4C08_POINT_REQ : Ent := ⟨0x4C08, 0x01⟩
def od4C08_POINT : Ent := ⟨0x4C08, 0x02⟩
def od4C08_GATE : Ent := ⟨0x4C08, 0x03⟩
def od4C08_VDD_TINE : Ent := ⟨0x4C08, 0x04⟩
def od4C08_TJ_HOT : Ent := ⟨0x4C08, 0x05⟩
def od4C08_POWER : Ent := ⟨0x4C08, 0x06⟩
def od4C08_STRETCHES : Ent := ⟨0x4C08, 0x07⟩

/-! OD 4C10 (19_power_clocks_thermal.md, R473) -/
def od4C10_DIDT : Ent := ⟨0x4C10, 0x01⟩
def od4C10_CURRENT : Ent := ⟨0x4C10, 0x02⟩
def od4C10_VOLTS : Ent := ⟨0x4C10, 0x03⟩

/-! OD 4C20 (19_power_clocks_thermal.md, R473) -/
def od4C20_HOLDUP_J : Ent := ⟨0x4C20, 0x01⟩

/-! OD 4C40 (20_pins_package_boot.md, R483) -/
def od4C40_RESET_CAUSE : Ent := ⟨0x4C40, 0x01⟩
def od4C40_BOOT_STAGE : Ent := ⟨0x4C40, 0x02⟩

/-! OD 4C48 (20_pins_package_boot.md, R483) -/
def od4C48_LEVEL : Ent := ⟨0x4C48, 0x01⟩
def od4C48_FILTERED : Ent := ⟨0x4C48, 0x02⟩
def od4C48_RATE_HELD : Ent := ⟨0x4C48, 0x03⟩
def od4C48_STUCK : Ent := ⟨0x4C48, 0x04⟩
def od4C48_STUCK_TIME : Ent := ⟨0x4C48, 0x05⟩

/-! OD 5000 (02_fabric_time.md, R67) -/
def od5000_POWER_ON_SECONDS : Ent := ⟨0x5000, 0x01⟩
def od5000_LINK_RETRAINS : Ent := ⟨0x5000, 0x02⟩
def od5000_ECC_CORRECTED : Ent := ⟨0x5000, 0x03⟩
def od5000_ECC_UNCORRECTED : Ent := ⟨0x5000, 0x04⟩
def od5000_ROLLBACK_FUSES : Ent := ⟨0x5000, 0x05⟩
def od5000_CANARY_RUNS : Ent := ⟨0x5000, 0x06⟩
def od5000_CANARY_FAILS : Ent := ⟨0x5000, 0x07⟩
def od5000_JOURNAL_SEQ : Ent := ⟨0x5000, 0x08⟩
def od5000_LEDGER_BROKEN : Ent := ⟨0x5000, 0x09⟩

/-! OD 5010 (02_fabric_time.md, R67) -/
def od5010_BIN_SECONDS0 : Ent := ⟨0x5010, 0x01⟩
def od5010_BIN_SECONDS1 : Ent := ⟨0x5010, 0x02⟩
def od5010_BIN_SECONDS2 : Ent := ⟨0x5010, 0x03⟩
def od5010_BIN_SECONDS3 : Ent := ⟨0x5010, 0x04⟩
def od5010_BIN_SECONDS4 : Ent := ⟨0x5010, 0x05⟩
def od5010_BIN_SECONDS5 : Ent := ⟨0x5010, 0x06⟩
def od5010_BIN_SECONDS6 : Ent := ⟨0x5010, 0x07⟩
def od5010_BIN_SECONDS7 : Ent := ⟨0x5010, 0x08⟩
def od5010_THERMAL_CYCLES : Ent := ⟨0x5010, 0x09⟩

/-! OD 5020 (02_fabric_time.md, R68) -/
def od5020_JOURNAL_INTERVAL : Ent := ⟨0x5020, 0x01⟩

def odRows1000 : List OdRow := [
  ⟨od1000_VENDOR, .str, 16, .const, 7, 0, [], none⟩,
  ⟨od1000_PRODUCT, .str, 16, .const, 7, 0, [], none⟩,
  ⟨od1000_PART, .str, 16, .const, 7, 0, [], none⟩,
  ⟨od1000_STEPPING, .str, 8, .const, 7, 0, [], none⟩,
  ⟨od1000_SERIAL, .str, 24, .const, 7, 0, [], none⟩,
  ⟨od1000_DEVICE_ID, .bytes, 64, .const, 7, 0, [], none⟩,
  ⟨od1000_OD_VERSION, .u16, 2, .const, 7, 0, [], none⟩,
  ⟨od1000_FW_VERSION, .u32, 4, .ro, 7, 0, [], none⟩,
  ⟨od1000_MFG_TIME, .ftime, 8, .const, 7, 0, [], none⟩,
  ⟨od1000_ENTERPRISE, .u32, 4, .const, 7, 0, [], none⟩,
  ⟨od1000_ASSET_TAG, .str, 32, .rw, 7, 3, [(0, 2 ^ 256 - 1, 1)], none⟩]

def odRows1100 : List OdRow := [
  ⟨od1100_FM_ENDPOINT, .u16, 2, .rw, 7, 1, [(0, 65534, 1), (65535, 65535, 1)], none⟩,
  ⟨od1100_COMPANION_EP, .u16, 2, .rwIdle, 7, 1, [(0, 65534, 1)], none⟩,
  ⟨od1100_TINE_BASE, .u16, 2, .rwIdle, 7, 5, [(0, 65024, 256)], none⟩,
  ⟨od1100_UNIT_BASE, .u16, 2, .rwIdle, 7, 5, [(0, 65504, 16)], none⟩,
  ⟨od1100_REFUSED_J, .u32, 4, .ro, 7, 0, [], none⟩,
  ⟨od1100_REFUSED_B, .u32, 4, .ro, 7, 0, [], none⟩,
  ⟨od1100_REFUSED_F, .u32, 4, .ro, 7, 0, [], none⟩,
  ⟨od1100_ACCESSES, .u64, 8, .ro, 7, 0, [], none⟩]

def odRows1110 : List OdRow := [
  ⟨od1110_I3C_STATIC, .u8, 1, .rw, 7, 3, [(8, 61, 1), (63, 93, 1), (95, 109, 1), (111, 117, 1)], none⟩,
  ⟨od1110_I3C_DYNAMIC, .u8, 1, .ro, 7, 0, [], none⟩,
  ⟨od1110_MCTP_EID, .u8, 1, .ro, 7, 0, [], none⟩,
  ⟨od1110_B_DISCARDS, .u32, 4, .ro, 7, 0, [], none⟩]

def odRows1120 : List OdRow := [
  ⟨od1120_JY_STATE, .enum, 1, .ro, 7, 0, [], none⟩,
  ⟨od1120_JY_LANES, .u8, 1, .ro, 7, 0, [], none⟩,
  ⟨od1120_JY_ERRORS, .u64, 8, .ro, 7, 0, [], none⟩]

def odRows2000 : List OdRow := [
  ⟨od2000_SOURCE, .enum, 1, .rw, 7, 5, [(0, 3, 1)], none⟩,
  ⟨od2000_UPSTREAM_PORT, .u16, 2, .rw, 7, 5, [(0, 255, 1), (65535, 65535, 1)], none⟩,
  ⟨od2000_NOW, .ftime, 8, .ro, 7, 0, [], none⟩,
  ⟨od2000_QUALITY, .enum, 1, .ro, 7, 0, [], none⟩,
  ⟨od2000_TOD_SET, .ftime, 8, .wo, 0, 5, [(0, 0xffffffffffffffff, 1)], none⟩,
  ⟨od2000_OUTLIER_LIMIT, .u32, 4, .rw, 7, 5, [(50, 1000000, 1)], none⟩,
  ⟨od2000_MAX_SLEW, .u32, 4, .rw, 7, 5, [(10, 1000, 1)], none⟩,
  ⟨od2000_HOLDOVER_LIMIT, .u32, 4, .rw, 7, 5, [(1, 86400, 1)], none⟩,
  ⟨od2000_INBAND_TIMEOUT, .u32, 4, .rw, 7, 5, [(128, 4000000, 1)], none⟩,
  ⟨od2000_OFFSET, .s64, 8, .ro, 7, 0, [], none⟩,
  ⟨od2000_PATH_DELAY, .u64, 8, .ro, 7, 0, [], none⟩,
  ⟨od2000_ALLOW_STEP, .bool, 1, .wo, 0, 5, [(1, 1, 1)], none⟩,
  ⟨od2000_TIME_PORTS, .bytes, 32, .rw, 7, 5, [(0, 2 ^ 256 - 1, 1)], none⟩,
  ⟨od2000_PTP_TIMEOUT, .u32, 4, .rw, 7, 5, [(10, 10000, 1)], none⟩,
  ⟨od2000_PTP_OFFSET, .s64, 8, .wo, 0, 1, [(0, 0xffffffffffffffff, 1)], none⟩]

def odRows2008 : List OdRow := [
  ⟨od2008_ASYMMETRY, .s32, 4, .rw, 7, 5, [(0, 100000, 1), (0xfffe7960, 0xffffffff, 1)], some 256⟩]

def odRows2010 : List OdRow := [
  ⟨od2010_TIME, .ftime, 8, .rwIdle, 7, 5, [(0, 0xffffffffffffffff, 1)], some 4096⟩,
  ⟨od2010_ACTION, .enum, 1, .rwIdle, 7, 5, [(0, 4, 1)], some 4096⟩,
  ⟨od2010_TARGET, .u32, 4, .rwIdle, 7, 5, [(0, 0xffffffff, 1)], some 4096⟩,
  ⟨od2010_PERIOD, .u64, 8, .rwIdle, 7, 5, [(0, 0, 1), (430, 0x8000000000000000, 1)], some 4096⟩,
  ⟨od2010_HERD, .u16, 2, .rwIdle, 7, 5, [(0, 4094, 1)], some 4096⟩,
  ⟨od2010_FLAGS, .u8, 1, .rwIdle, 7, 5, [(0, 3, 1)], some 4096⟩,
  ⟨od2010_STATE, .enum, 1, .rw, 7, 5, [(0, 1, 1)], some 4096⟩,
  ⟨od2010_LAST_FIRE, .ftime, 8, .ro, 7, 0, [], some 4096⟩,
  ⟨od2010_LAST_QUALITY, .enum, 1, .ro, 7, 0, [], some 4096⟩,
  ⟨od2010_LATE_COUNT, .u32, 4, .ro, 7, 0, [], some 4096⟩]

def odRows2020 : List OdRow := [
  ⟨od2020_LEAP_TIME, .ftime, 8, .rw, 7, 5, [(0, 0xffffffffffffffff, 1)], some 32⟩,
  ⟨od2020_LEAP_OFFSET, .s32, 4, .rw, 7, 5, [(0, 0xffffffff, 1)], some 32⟩]

def odRows2021 : List OdRow := [
  ⟨od2021_UTC, .str, 32, .ro, 7, 0, [], none⟩]

def odRows2100 : List OdRow := [
  ⟨od2100_A9_NUMBER, .u8, 1, .rwIdle, 7, 1, [(0, 63, 1)], none⟩,
  ⟨od2100_BOARD_BASE, .u64, 8, .rwIdle, 7, 5, [(0, 0xfffffffffffff000, 4096)], none⟩,
  ⟨od2100_FAIL_WINDOW, .u32, 4, .rw, 7, 5, [(30, 1000, 1)], none⟩,
  ⟨od2100_HALF_LIFE, .u32, 4, .rw, 7, 5, [(1, 3600, 1)], none⟩,
  ⟨od2100_PENALTY_STEP, .u32, 4, .rw, 7, 5, [(100, 10000, 1)], none⟩,
  ⟨od2100_SUPPRESS, .u32, 4, .rw, 7, 5, [(1000, 50000, 1)], none⟩,
  ⟨od2100_REUSE, .u32, 4, .rw, 7, 5, [(100, 0xffffffff, 1)], none⟩,
  ⟨od2100_MAX_PENALTY, .u32, 4, .rw, 7, 5, [(0, 100000, 1)], none⟩,
  ⟨od2100_LANE_SER_LIMIT, .u32, 4, .rw, 7, 5, [(1000, 1000000, 1)], none⟩,
  ⟨od2100_OCTET_AMP_CAP, .u16, 2, .rw, 7, 5, [(3200, 9600, 10)], none⟩,
  ⟨od2100_RECORDS_SENT, .u64, 8, .ro, 7, 0, [], none⟩,
  ⟨od2100_WINDOW_DISCARDS, .u64, 8, .ro, 7, 0, [], none⟩]

def odRows2110 : List OdRow := [
  ⟨od2110_MODE, .enum, 1, .rwIdle, 7, 5, [(0, 7, 1)], some 64⟩]

def odRows2114 : List OdRow := [
  ⟨od2114_AMP_CAP, .u16, 2, .rw, 7, 5, [(400, 1200, 10)], some 512⟩,
  ⟨od2114_AMP, .u16, 2, .ro, 7, 0, [], some 512⟩,
  ⟨od2114_CORRECTED, .u64, 8, .ro, 7, 0, [], some 512⟩]

def odRows2118 : List OdRow := [
  ⟨od2118_STATE, .enum, 1, .ro, 7, 0, [], some 256⟩,
  ⟨od2118_WIDTH, .u8, 1, .ro, 7, 0, [], some 256⟩,
  ⟨od2118_MIN_WIDTH, .u8, 1, .rw, 7, 5, [(2, 2, 1), (4, 4, 1), (8, 8, 1), (16, 16, 1)], some 256⟩,
  ⟨od2118_VARIANT, .enum, 1, .rwIdle, 7, 5, [(0, 1, 1)], some 256⟩,
  ⟨od2118_RETRAIN, .bool, 1, .wo, 0, 5, [(1, 1, 1)], some 256⟩,
  ⟨od2118_BAD_LANES, .u8, 1, .ro, 7, 0, [], some 256⟩,
  ⟨od2118_PENALTY, .u32, 4, .ro, 7, 0, [], some 256⟩,
  ⟨od2118_FAR_A9, .u8, 1, .ro, 7, 0, [], some 256⟩,
  ⟨od2118_FAR_PORT, .u8, 1, .ro, 7, 0, [], some 256⟩,
  ⟨od2118_DOWNS, .u64, 8, .ro, 7, 0, [], some 256⟩]

def odRows2120 : List OdRow := [
  ⟨od2120_LOCATION, .u8, 1, .rw, 7, 5, [(0, 63, 1)], some 65535⟩]

def odRows2130 : List OdRow := [
  ⟨od2130_SLOT1, .bytes, 24, .rw, 7, 5, [(0, 2 ^ 192 - 1, 1)], some 64⟩,
  ⟨od2130_SLOT2, .bytes, 24, .rw, 7, 5, [(0, 2 ^ 192 - 1, 1)], some 64⟩,
  ⟨od2130_SLOT3, .bytes, 24, .rw, 7, 5, [(0, 2 ^ 192 - 1, 1)], some 64⟩,
  ⟨od2130_SLOT4, .bytes, 24, .rw, 7, 5, [(0, 2 ^ 192 - 1, 1)], some 64⟩,
  ⟨od2130_SLOT5, .bytes, 24, .rw, 7, 5, [(0, 2 ^ 192 - 1, 1)], some 64⟩,
  ⟨od2130_IN_USE, .u8, 1, .ro, 7, 0, [], some 64⟩]

def odRows2200 : List OdRow := [
  ⟨od2200_LOAD_TIMEOUT, .u32, 4, .rw, 7, 5, [(8, 4000, 1)], none⟩,
  ⟨od2200_REPLAY_TIMER, .u32, 4, .rw, 7, 5, [(200, 10000, 10)], none⟩,
  ⟨od2200_LF_SCALE, .u32, 4, .rw, 7, 5, [(64, 65536, 64)], none⟩,
  ⟨od2200_FAILOVER_BOUND, .u32, 4, .const, 7, 0, [], none⟩]

def odRows2300 : List OdRow := [
  ⟨od2300_OVERFLOW_SIZE, .u32, 4, .rwIdle, 7, 5, [(0, 32, 1)], none⟩,
  ⟨od2300_SPILL_AT, .u8, 1, .rw, 7, 5, [(50, 99, 1)], none⟩,
  ⟨od2300_RESP_RESERVE, .u32, 4, .rwIdle, 7, 5, [(1024, 16384, 64)], none⟩,
  ⟨od2300_CREDIT_INIT, .u16, 2, .rw, 7, 5, [(16, 1024, 16)], none⟩,
  ⟨od2300_ONDIE_USED0, .u32, 4, .ro, 7, 0, [], none⟩,
  ⟨od2300_ONDIE_USED1, .u32, 4, .ro, 7, 0, [], none⟩,
  ⟨od2300_ONDIE_USED2, .u32, 4, .ro, 7, 0, [], none⟩,
  ⟨od2300_ONDIE_USED3, .u32, 4, .ro, 7, 0, [], none⟩,
  ⟨od2300_OVERFLOW_USED0, .u32, 4, .ro, 7, 0, [], none⟩,
  ⟨od2300_OVERFLOW_USED1, .u32, 4, .ro, 7, 0, [], none⟩,
  ⟨od2300_OVERFLOW_USED2, .u32, 4, .ro, 7, 0, [], none⟩,
  ⟨od2300_OVERFLOW_USED3, .u32, 4, .ro, 7, 0, [], none⟩,
  ⟨od2300_FRAMES_LOST, .u64, 8, .ro, 7, 0, [], none⟩,
  ⟨od2300_CREDIT_HOLDS, .u64, 8, .ro, 7, 0, [], none⟩]

def odRows2310 : List OdRow := [
  ⟨od2310_BUF_RESERVE, .u32, 4, .rwIdle, 7, 5, [(0, 32768, 64)], some 4096⟩,
  ⟨od2310_TG_SLOTS, .u8, 1, .rwIdle, 7, 5, [(0, 8, 1)], some 4096⟩]

def odRows2320 : List OdRow := [
  ⟨od2320_STATE, .enum, 1, .rw, 7, 5, [(0, 1, 1)], some 16384⟩,
  ⟨od2320_HERD, .u16, 2, .rwIdle, 7, 5, [(1, 4094, 1)], some 16384⟩,
  ⟨od2320_PORTS, .bytes, 32, .rwIdle, 7, 5, [(0, 2 ^ 256 - 1, 1)], some 16384⟩,
  ⟨od2320_COPIES, .u64, 8, .ro, 7, 0, [], some 16384⟩]

def odRows2400 : List OdRow := [
  ⟨od2400_TYPE, .enum, 1, .rwIdle, 7, 5, [(0, 3, 1)], some 262144⟩,
  ⟨od2400_HERD, .u16, 2, .rwIdle, 7, 5, [(0, 4094, 1)], some 262144⟩,
  ⟨od2400_PORT, .u8, 1, .rwIdle, 7, 5, [(0, 255, 1)], some 262144⟩,
  ⟨od2400_CLASS, .u8, 1, .rwIdle, 7, 5, [(0, 7, 1)], some 262144⟩,
  ⟨od2400_WEIGHT, .u16, 2, .rw, 7, 5, [(1, 65535, 1)], some 262144⟩,
  ⟨od2400_SHAPED, .bool, 1, .rwIdle, 7, 5, [(0, 1, 1)], some 262144⟩,
  ⟨od2400_IDLE_SLOPE, .u32, 4, .rw, 7, 5, [(1, 1600000, 1)], some 262144⟩,
  ⟨od2400_SEND_SLOPE, .u32, 4, .rw, 7, 5, [(0, 1600000, 1)], some 262144⟩,
  ⟨od2400_BURST, .u32, 4, .rw, 7, 5, [(2104, 16777216, 8)], some 262144⟩,
  ⟨od2400_DEPTH, .u32, 4, .ro, 7, 0, [], some 262144⟩,
  ⟨od2400_CREDIT, .s32, 4, .ro, 7, 0, [], some 262144⟩,
  ⟨od2400_FRAMES, .u64, 8, .ro, 7, 0, [], some 262144⟩,
  ⟨od2400_DEPTH_HIST, .bytes, 64, .ro, 7, 0, [], some 262144⟩,
  ⟨od2400_DELAY_HIST, .bytes, 64, .ro, 7, 0, [], some 262144⟩,
  ⟨od2400_HIST_CLEAR, .bool, 1, .wo, 0, 5, [(1, 1, 1)], some 262144⟩]

def odRows2408 : List OdRow := [
  ⟨od2408_CLASS_SET, .u16, 2, .rw, 7, 5, [(0, 4095, 1), (65535, 65535, 1)], none⟩,
  ⟨od2408_SAMPLE_PERIOD, .u32, 4, .rw, 7, 5, [(100, 1000000, 100)], none⟩,
  ⟨od2408_INTERNAL_CAP, .u16, 2, .rw, 7, 5, [(16, 2048, 16)], none⟩,
  ⟨od2408_DEFAULTED, .u64, 8, .ro, 7, 0, [], none⟩,
  ⟨od2408_TM_DISCARDS, .u64, 8, .ro, 7, 0, [], none⟩]

def odRows2440 : List OdRow := [
  ⟨od2440_RATE, .u32, 4, .rw, 7, 5, [(0, 0, 1), (1, 1600000, 1)], some 256⟩,
  ⟨od2440_BUCKET, .u32, 4, .rw, 7, 5, [(2104, 16777216, 8)], some 256⟩,
  ⟨od2440_CAP, .u32, 4, .rw, 7, 5, [(1, 65536, 1)], some 256⟩,
  ⟨od2440_OUTSTANDING, .u32, 4, .ro, 7, 0, [], some 256⟩,
  ⟨od2440_HELD, .u64, 8, .ro, 7, 0, [], some 256⟩]

def odRows2450 : List OdRow := [
  ⟨od2450_STATE, .enum, 1, .rw, 7, 5, [(0, 1, 1)], some 256⟩,
  ⟨od2450_START, .ftime, 8, .rw, 7, 5, [(0, 0xffffffffffffffff, 1)], some 256⟩,
  ⟨od2450_FIRST, .u16, 2, .rw, 7, 5, [(0, 1023, 1)], some 256⟩,
  ⟨od2450_CURRENT, .u16, 2, .ro, 7, 0, [], some 256⟩,
  ⟨od2450_OVERRUNS, .u32, 4, .ro, 7, 0, [], some 256⟩,
  ⟨od2450_MAXFRAME0, .u16, 2, .rw, 7, 5, [(64, 2104, 8)], some 256⟩,
  ⟨od2450_MAXFRAME1, .u16, 2, .rw, 7, 5, [(64, 2104, 8)], some 256⟩,
  ⟨od2450_MAXFRAME2, .u16, 2, .rw, 7, 5, [(64, 2104, 8)], some 256⟩,
  ⟨od2450_MAXFRAME3, .u16, 2, .rw, 7, 5, [(64, 2104, 8)], some 256⟩,
  ⟨od2450_MAXFRAME4, .u16, 2, .rw, 7, 5, [(64, 2104, 8)], some 256⟩,
  ⟨od2450_MAXFRAME5, .u16, 2, .rw, 7, 5, [(64, 2104, 8)], some 256⟩,
  ⟨od2450_MAXFRAME6, .u16, 2, .rw, 7, 5, [(64, 2104, 8)], some 256⟩,
  ⟨od2450_MAXFRAME7, .u16, 2, .rw, 7, 5, [(64, 2104, 8)], some 256⟩]

def odRows2460 : List OdRow := [
  ⟨od2460_GATE_ENTRY, .u64, 8, .rw, 7, 5, [(0, 0xffffffffffffffff, 1)], some 262144⟩]

def odRows2470 : List OdRow := [
  ⟨od2470_TG_CLASS, .u8, 1, .rwIdle, 7, 5, [(0, 7, 1)], some 4096⟩]

def odRows2800 : List OdRow := [
  ⟨od2800_STATE, .enum, 1, .rw, 7, 5, [(0, 3, 1)], some 4096⟩,
  ⟨od2800_LEVEL, .enum, 1, .rwIdle, 7, 5, [(0, 2, 1)], some 4096⟩,
  ⟨od2800_TIME_GATED, .bool, 1, .rwIdle, 7, 5, [(0, 1, 1)], some 4096⟩,
  ⟨od2800_KEY_STATE, .enum, 1, .ro, 7, 0, [], some 4096⟩,
  ⟨od2800_CONFIG_DIGEST, .bytes, 64, .ro, 7, 0, [], some 4096⟩]

def odRows2810 : List OdRow := [
  ⟨od2810_ROLE, .enum, 1, .rwIdle, 7, 5, [(0, 3, 1)], some 256⟩,
  ⟨od2810_ENDPOINT, .u16, 2, .rwIdle, 7, 5, [(0, 65534, 1)], some 256⟩,
  ⟨od2810_HERD, .u16, 2, .rwIdle, 7, 5, [(0, 4095, 1)], some 256⟩]

def odRows2820 : List OdRow := [
  ⟨od2820_STATE, .enum, 1, .ro, 7, 0, [], some 131072⟩,
  ⟨od2820_HERD, .u16, 2, .rwIdle, 7, 5, [(1, 4094, 1)], some 131072⟩,
  ⟨od2820_BASE, .u64, 8, .rwIdle, 7, 5, [(0, 0x1feffffffe00000, 2097152)], some 131072⟩,
  ⟨od2820_GRANULES, .u32, 4, .rwIdle, 7, 5, [(1, 134217728, 1)], some 131072⟩,
  ⟨od2820_HOME, .u16, 2, .rwIdle, 7, 5, [(0, 65534, 1)], some 131072⟩,
  ⟨od2820_PLACE, .enum, 1, .rwIdle, 7, 5, [(0, 2, 1)], some 131072⟩,
  ⟨od2820_CLASS, .enum, 1, .rwIdle, 7, 5, [(0, 2, 1)], some 131072⟩,
  ⟨od2820_FLAGS, .u8, 1, .rwIdle, 7, 5, [(0, 7, 1)], some 131072⟩,
  ⟨od2820_SHARED, .bytes, 512, .rwIdle, 7, 5, [(0, 2 ^ 4096 - 1, 1)], some 131072⟩,
  ⟨od2820_ARG, .u64, 8, .rw, 7, 5, [(0, 0xffffffffffffffff, 1)], some 131072⟩,
  ⟨od2820_OP, .u8, 1, .wo, 0, 5, [(1, 9, 1)], some 131072⟩,
  ⟨od2820_RESULT, .u32, 4, .ro, 7, 0, [], some 131072⟩,
  ⟨od2820_VOLUME, .u64, 8, .rwIdle, 7, 5, [(0, 0xffffffffffffffff, 1)], some 131072⟩,
  ⟨od2820_CSTATE, .enum, 1, .ro, 7, 0, [], some 131072⟩]

def odRows2830 : List OdRow := [
  ⟨od2830_T1_RESERVE, .u64, 8, .rw, 7, 5, [(0, 0x10000000000, 2097152)], some 4096⟩,
  ⟨od2830_T1_QUOTA, .u64, 8, .rw, 7, 5, [(0, 0x10000000000, 2097152)], some 4096⟩,
  ⟨od2830_T1_USED, .u64, 8, .ro, 7, 0, [], some 4096⟩,
  ⟨od2830_T2_RESERVE, .u64, 8, .rw, 7, 5, [(0, 0x200000000000, 2097152)], some 4096⟩,
  ⟨od2830_T2_QUOTA, .u64, 8, .rw, 7, 5, [(0, 0x200000000000, 2097152)], some 4096⟩,
  ⟨od2830_T2_USED, .u64, 8, .ro, 7, 0, [], some 4096⟩,
  ⟨od2830_T3_RESERVE, .u64, 8, .rw, 7, 5, [(0, 0x1000000000000, 2097152)], some 4096⟩,
  ⟨od2830_T3_QUOTA, .u64, 8, .rw, 7, 5, [(0, 0x1000000000000, 2097152)], some 4096⟩,
  ⟨od2830_T3_USED, .u64, 8, .ro, 7, 0, [], some 4096⟩,
  ⟨od2830_CACHE_WAYS, .u16, 2, .rwIdle, 7, 5, [(0, 65535, 1)], some 4096⟩,
  ⟨od2830_DIRTY_RESERVE, .u64, 8, .rw, 7, 5, [(0, 0x10000000000, 65536)], some 4096⟩]

def odRows2840 : List OdRow := [
  ⟨od2840_REVOKE_TIMEOUT, .u32, 4, .rw, 7, 5, [(16, 8000, 1)], none⟩,
  ⟨od2840_COMPOSITION_DEADLINE, .u32, 4, .rw, 7, 5, [(1000, 32000, 1)], none⟩]

def odRows2C00 : List OdRow := [
  ⟨od2C00_T1_RESERVABLE, .u64, 8, .ro, 7, 0, [], none⟩,
  ⟨od2C00_T2_RESERVABLE, .u64, 8, .ro, 7, 0, [], none⟩,
  ⟨od2C00_T3_RESERVABLE, .u64, 8, .ro, 7, 0, [], none⟩,
  ⟨od2C00_CACHE_SIZE, .u32, 4, .rwIdle, 7, 5, [(16, 256, 16)], none⟩,
  ⟨od2C00_METADATA_SIZE, .u32, 4, .const, 7, 0, [], none⟩,
  ⟨od2C00_SCRUB_RATE, .u32, 4, .rw, 7, 5, [(0, 20000, 100)], none⟩,
  ⟨od2C00_T1_FREE, .u64, 8, .ro, 7, 0, [], none⟩,
  ⟨od2C00_T2_FREE, .u64, 8, .ro, 7, 0, [], none⟩,
  ⟨od2C00_T3_FREE, .u64, 8, .ro, 7, 0, [], none⟩]

def odRows2C10 : List OdRow := [
  ⟨od2C10_FLUSH_BW, .u32, 4, .rw, 7, 1, [(1000, 400000, 1000)], none⟩,
  ⟨od2C10_FLUSH_POWER, .u32, 4, .rw, 7, 1, [(100, 1650, 1)], none⟩,
  ⟨od2C10_RESERVE_J, .u32, 4, .rw, 7, 1, [(0, 100000, 1)], none⟩,
  ⟨od2C10_CEILING, .u64, 8, .ro, 7, 0, [], none⟩,
  ⟨od2C10_DIRTY_BYTES, .u64, 8, .ro, 7, 0, [], none⟩,
  ⟨od2C10_CLEAN_START, .u8, 1, .rw, 7, 5, [(10, 95, 1)], none⟩,
  ⟨od2C10_EFFECTIVE_BW, .u32, 4, .ro, 7, 0, [], none⟩]

def odRows2C20 : List OdRow := [
  ⟨od2C20_OVERPROVISION, .u8, 1, .rwIdle, 7, 5, [(7, 50, 1)], none⟩,
  ⟨od2C20_GC_START, .u8, 1, .rw, 7, 5, [(2, 30, 1)], none⟩,
  ⟨od2C20_GC_URGENT, .u8, 1, .rw, 7, 5, [(1, 255, 1)], none⟩,
  ⟨od2C20_CHECKPOINT_CHUNKS, .u32, 4, .rw, 7, 5, [(4096, 1048576, 4096)], none⟩,
  ⟨od2C20_WEAR_SPREAD, .u32, 4, .rw, 7, 5, [(20, 10000, 1)], none⟩,
  ⟨od2C20_READ_LIMIT, .u32, 4, .rw, 7, 5, [(1000, 10000000, 1000)], none⟩,
  ⟨od2C20_SHELF_OP_TIMEOUT, .u32, 4, .rw, 7, 5, [(25, 1000, 1)], none⟩,
  ⟨od2C20_RETENTION_DAYS, .u16, 2, .rw, 7, 5, [(7, 3650, 1)], none⟩,
  ⟨od2C20_RESERVE_BLOCKS, .u32, 4, .ro, 7, 0, [], none⟩]

def odRows2C30 : List OdRow := [
  ⟨od2C30_STATE, .enum, 1, .ro, 7, 0, [], some 256⟩,
  ⟨od2C30_GOOD_BLOCKS, .u32, 4, .ro, 7, 0, [], some 256⟩,
  ⟨od2C30_RETIRED, .u32, 4, .ro, 7, 0, [], some 256⟩,
  ⟨od2C30_ERASE_MIN, .u32, 4, .ro, 7, 0, [], some 256⟩,
  ⟨od2C30_ERASE_MAX, .u32, 4, .ro, 7, 0, [], some 256⟩,
  ⟨od2C30_HOST_CHUNKS, .u64, 8, .ro, 7, 0, [], some 256⟩,
  ⟨od2C30_FLASH_CHUNKS, .u64, 8, .ro, 7, 0, [], some 256⟩,
  ⟨od2C30_REFRESHES, .u64, 8, .ro, 7, 0, [], some 256⟩,
  ⟨od2C30_LOST_CHUNKS, .u64, 8, .ro, 7, 0, [], some 256⟩]

def odRows2C40 : List OdRow := [
  ⟨od2C40_STATE, .enum, 1, .ro, 7, 0, [], some 131072⟩,
  ⟨od2C40_ID, .u64, 8, .ro, 7, 0, [], some 131072⟩,
  ⟨od2C40_HERD, .u16, 2, .ro, 7, 0, [], some 131072⟩,
  ⟨od2C40_GRANULES, .u32, 4, .ro, 7, 0, [], some 131072⟩,
  ⟨od2C40_PERSIST, .bool, 1, .ro, 7, 0, [], some 131072⟩,
  ⟨od2C40_CHUNKS, .u64, 8, .ro, 7, 0, [], some 131072⟩,
  ⟨od2C40_DELETE, .u64, 8, .wo, 0, 5, [(0, 0xffffffffffffffff, 1)], some 131072⟩]

def odRows3000 : List OdRow := [
  ⟨od3000_H_CAPACITY, .u32, 4, .rwIdle, 7, 5, [(0, 4, 1)], none⟩,
  ⟨od3000_RUT_COUNT, .u16, 2, .rw, 7, 5, [(8, 1024, 1)], none⟩,
  ⟨od3000_RUT_WINDOW, .u32, 4, .rw, 7, 5, [(100, 10000, 100)], none⟩,
  ⟨od3000_RUT_EXIT, .u16, 2, .rw, 7, 5, [(1, 512, 1)], none⟩,
  ⟨od3000_RUT_CREDIT, .u8, 1, .rw, 7, 5, [(1, 16, 1)], none⟩,
  ⟨od3000_INVAL_TIMEOUT, .u32, 4, .rw, 7, 5, [(1, 7, 1)], none⟩,
  ⟨od3000_PROBE_TIMEOUT, .u32, 4, .rw, 7, 5, [(1, 7, 1)], none⟩,
  ⟨od3000_PRED_THRESHOLD, .u8, 1, .rw, 7, 5, [(1, 7, 1)], none⟩,
  ⟨od3000_RUT_LINES, .u16, 2, .ro, 7, 0, [], none⟩,
  ⟨od3000_RUT_REFUSED, .u32, 4, .ro, 7, 0, [], none⟩]

def odRows3010 : List OdRow := [
  ⟨od3010_EXTENT, .u32, 4, .rwIdle, 7, 5, [(0, 131071, 1)], some 16384⟩,
  ⟨od3010_ENDPOINT, .u16, 2, .rwIdle, 7, 5, [(0, 65534, 1)], some 16384⟩,
  ⟨od3010_HERD, .u16, 2, .rwIdle, 7, 5, [(1, 4094, 1)], some 16384⟩,
  ⟨od3010_STATE, .enum, 1, .rw, 7, 5, [(0, 1, 1)], some 16384⟩]

def odRows3020 : List OdRow := [
  ⟨od3020_VERSION, .u32, 4, .ro, 7, 0, [], some 131072⟩,
  ⟨od3020_PUBLISHER, .u16, 2, .ro, 7, 0, [], some 131072⟩,
  ⟨od3020_FROZEN, .bool, 1, .ro, 7, 0, [], some 131072⟩,
  ⟨od3020_THAW, .u32, 4, .wo, 0, 5, [(0, 0xffffffff, 1)], some 131072⟩]

def odRows3030 : List OdRow := [
  ⟨od3030_DIR_WAYS, .u16, 2, .rwIdle, 7, 5, [(0, 65535, 1)], some 4096⟩]

def odRows3400 : List OdRow := [
  ⟨od3400_STATE, .enum, 1, .ro, 7, 0, [], some 256⟩,
  ⟨od3400_LAST_HERD, .u16, 2, .ro, 5, 0, [], some 256⟩,
  ⟨od3400_THREADS_BUSY, .u8, 1, .ro, 7, 0, [], some 256⟩,
  ⟨od3400_SB_BUSY, .u16, 2, .ro, 7, 0, [], some 256⟩]

def odRows3408 : List OdRow := [
  ⟨od3408_REISSUE_LIMIT, .u8, 1, .rw, 7, 5, [(0, 3, 1)], none⟩,
  ⟨od3408_LAUNCHED, .u64, 8, .ro, 7, 0, [], none⟩]

def odRows3410 : List OdRow := [
  ⟨od3410_STATE, .enum, 1, .rw, 7, 5, [(0, 3, 1)], some 262144⟩,
  ⟨od3410_HERD, .u16, 2, .rwIdle, 7, 5, [(1, 4094, 1)], some 262144⟩,
  ⟨od3410_BASE, .u64, 8, .rwIdle, 7, 5, [(0, 0x01ffffffffffffc0, 64)], some 262144⟩,
  ⟨od3410_SLOTS, .u32, 4, .rwIdle, 7, 5, [(16, 16, 1), (32, 32, 1), (64, 64, 1), (128, 128, 1), (256, 256, 1), (512, 512, 1), (1024, 1024, 1), (2048, 2048, 1), (4096, 4096, 1), (8192, 8192, 1), (16384, 16384, 1), (32768, 32768, 1), (65536, 65536, 1)], some 262144⟩,
  ⟨od3410_CTRL, .u64, 8, .rwIdle, 7, 5, [(0, 0x01ffffffffffffc0, 64)], some 262144⟩,
  ⟨od3410_EVENT, .u32, 4, .rwIdle, 7, 5, [(0, 262143, 1)], some 262144⟩,
  ⟨od3410_TINES, .bytes, 32, .rwIdle, 7, 5, [(0, 2 ^ 256 - 1, 1)], some 262144⟩,
  ⟨od3410_PRIORITY, .u8, 1, .rwIdle, 7, 5, [(0, 7, 1)], some 262144⟩,
  ⟨od3410_CONSUMED, .u32, 4, .ro, 7, 0, [], some 262144⟩,
  ⟨od3410_INFLIGHT, .u16, 2, .ro, 7, 0, [], some 262144⟩,
  ⟨od3410_REISSUES, .u32, 4, .ro, 7, 0, [], some 262144⟩]

def odRows3440 : List OdRow := [
  ⟨od3440_SR_SEED, .u64, 8, .rw, 7, 5, [(1, 0xffffffffffffffff, 1)], none⟩,
  ⟨od3440_SATURATED, .u64, 8, .ro, 5, 0, [], none⟩,
  ⟨od3440_NAN_BLOCKS, .u64, 8, .ro, 5, 0, [], none⟩]

def odRows3800 : List OdRow := [
  ⟨od3800_STATE, .enum, 1, .rw, 7, 5, [(0, 3, 1)], some 16384⟩,
  ⟨od3800_HERD, .u16, 2, .rwIdle, 7, 5, [(1, 4094, 1)], some 16384⟩,
  ⟨od3800_KIND, .enum, 1, .rwIdle, 7, 5, [(0, 1, 1)], some 16384⟩,
  ⟨od3800_AGG, .bool, 1, .rwIdle, 7, 5, [(0, 1, 1)], some 16384⟩,
  ⟨od3800_OP, .enum, 1, .rwIdle, 7, 5, [(0, 3, 1)], some 16384⟩,
  ⟨od3800_FMT_IN, .enum, 1, .rwIdle, 7, 5, [(0, 2, 1)], some 16384⟩,
  ⟨od3800_FMT_OUT, .enum, 1, .rwIdle, 7, 5, [(0, 2, 1)], some 16384⟩,
  ⟨od3800_ELEMENTS, .u32, 4, .rwIdle, 7, 5, [(1, 0xffffffff, 1)], some 16384⟩,
  ⟨od3800_PARENT, .u16, 2, .rwIdle, 7, 5, [(0, 65534, 1), (65535, 65535, 1)], some 16384⟩,
  ⟨od3800_CHILDREN, .u8, 1, .rwIdle, 7, 5, [(0, 63, 1)], some 16384⟩,
  ⟨od3800_LOCAL, .u16, 2, .rwIdle, 7, 5, [(0, 256, 1)], some 16384⟩,
  ⟨od3800_MCGROUP, .u16, 2, .rwIdle, 7, 5, [(0, 16383, 1), (65535, 65535, 1)], some 16384⟩,
  ⟨od3800_RBASE, .u64, 8, .rwIdle, 7, 5, [(0, 0xfffffffffffffff8, 8)], some 16384⟩,
  ⟨od3800_ALT_STRIDE, .u64, 8, .rwIdle, 7, 5, [(0, 0xfffffffffffffff8, 8)], some 16384⟩,
  ⟨od3800_CLOSE, .enum, 1, .rwIdle, 7, 5, [(0, 1, 1)], some 16384⟩,
  ⟨od3800_STEP_TIMEOUT, .u32, 4, .rwIdle, 7, 5, [(10, 1000000, 1)], some 16384⟩,
  ⟨od3800_MISSING, .enum, 1, .rwIdle, 7, 5, [(0, 1, 1)], some 16384⟩,
  ⟨od3800_EVENT, .u32, 4, .rwIdle, 7, 5, [(0, 262143, 1)], some 16384⟩,
  ⟨od3800_OPEN_STEP, .u32, 4, .rwIdle, 7, 5, [(0, 0xffffffff, 1)], some 16384⟩,
  ⟨od3800_STEPS_DONE, .u64, 8, .ro, 7, 0, [], some 16384⟩,
  ⟨od3800_STEPS_ABORTED, .u64, 8, .ro, 7, 0, [], some 16384⟩]

def odRows3810 : List OdRow := [
  ⟨od3810_STATE, .enum, 1, .rw, 7, 5, [(0, 1, 1)], some 65536⟩,
  ⟨od3810_CONTEXT, .u16, 2, .rwIdle, 7, 5, [(0, 16383, 1)], some 65536⟩,
  ⟨od3810_INDEX, .u16, 2, .rwIdle, 7, 5, [(0, 4095, 1)], some 65536⟩,
  ⟨od3810_ENDPOINT, .u16, 2, .rwIdle, 7, 5, [(0, 65534, 1), (65535, 65535, 1)], some 65536⟩,
  ⟨od3810_RING, .u32, 4, .rwIdle, 7, 5, [(0, 262143, 1), (0xffffffff, 0xffffffff, 1)], some 65536⟩,
  ⟨od3810_HERD, .u16, 2, .rwIdle, 7, 5, [(1, 4094, 1)], some 65536⟩,
  ⟨od3810_STAGE, .u64, 8, .rwIdle, 7, 5, [(0, 0xfffffffffffffff8, 8)], some 65536⟩,
  ⟨od3810_MISSED, .u32, 4, .ro, 5, 0, [], some 65536⟩]

def odRows3820 : List OdRow := [
  ⟨od3820_OPTIMIZER, .enum, 1, .rwIdle, 7, 5, [(0, 2, 1)], some 16384⟩,
  ⟨od3820_W_ADDR, .u64, 8, .rwIdle, 7, 5, [(0, 0xfffffffffffffff8, 8)], some 16384⟩,
  ⟨od3820_M_ADDR, .u64, 8, .rwIdle, 7, 5, [(0, 0xfffffffffffffff8, 8)], some 16384⟩,
  ⟨od3820_V_ADDR, .u64, 8, .rwIdle, 7, 5, [(0, 0xfffffffffffffff8, 8)], some 16384⟩,
  ⟨od3820_G_ADDR, .u64, 8, .rwIdle, 7, 5, [(0, 0xfffffffffffffff8, 8)], some 16384⟩,
  ⟨od3820_LR, .f32, 4, .rw, 7, 5, [(0, 1065353216, 1), (0x80000000, 0x80000000, 1)], some 16384⟩,
  ⟨od3820_BETA1, .f32, 4, .rwIdle, 7, 5, [(0, 1065353215, 1), (0x80000000, 0x80000000, 1)], some 16384⟩,
  ⟨od3820_BETA2, .f32, 4, .rwIdle, 7, 5, [(0, 1065353215, 1), (0x80000000, 0x80000000, 1)], some 16384⟩,
  ⟨od3820_EPS, .f32, 4, .rwIdle, 7, 5, [(0, 1065353216, 1), (0x80000000, 0x80000000, 1)], some 16384⟩,
  ⟨od3820_WDECAY, .f32, 4, .rw, 7, 5, [(0, 1065353216, 1), (0x80000000, 0x80000000, 1)], some 16384⟩,
  ⟨od3820_GSCALE, .f32, 4, .rw, 7, 5, [(1, 2139095039, 1)], some 16384⟩,
  ⟨od3820_T, .u32, 4, .rwIdle, 7, 5, [(0, 0xffffffff, 1)], some 16384⟩,
  ⟨od3820_NONFINITE, .enum, 1, .rwIdle, 7, 5, [(0, 2, 1)], some 16384⟩,
  ⟨od3820_KRING, .u32, 4, .rwIdle, 7, 5, [(0, 262143, 1)], some 16384⟩,
  ⟨od3820_K, .u16, 2, .rwIdle, 7, 5, [(2, 4094, 1)], some 16384⟩,
  ⟨od3820_CLIP, .f32, 4, .rwIdle, 7, 5, [(1, 2139095039, 1)], some 16384⟩,
  ⟨od3820_SIGMA, .f32, 4, .rwIdle, 7, 5, [(0, 1148846080, 1), (0x80000000, 0x80000000, 1)], some 16384⟩,
  ⟨od3820_OUT_ADDR, .u64, 8, .rwIdle, 7, 5, [(0, 0xfffffffffffffff8, 8)], some 16384⟩]

def odRows3840 : List OdRow := [
  ⟨od3840_REDUCE_EP0, .u16, 2, .rwIdle, 7, 5, [(0, 65534, 1)], none⟩,
  ⟨od3840_REDUCE_EP1, .u16, 2, .rwIdle, 7, 5, [(0, 65534, 1)], none⟩,
  ⟨od3840_REDUCE_EP2, .u16, 2, .rwIdle, 7, 5, [(0, 65534, 1)], none⟩,
  ⟨od3840_REDUCE_EP3, .u16, 2, .rwIdle, 7, 5, [(0, 65534, 1)], none⟩,
  ⟨od3840_RESEED, .u32, 4, .rw, 7, 5, [(1, 16777216, 1)], none⟩,
  ⟨od3840_CHUNKS_REDUCED, .u64, 8, .ro, 7, 0, [], none⟩]

def odRows3C00 : List OdRow := [
  ⟨od3C00_EDIT_TIMEOUT, .u32, 4, .rw, 7, 5, [(1, 1000, 1)], none⟩,
  ⟨od3C00_RECORDS, .u32, 4, .ro, 7, 0, [], none⟩,
  ⟨od3C00_LIST_CHANGED, .u64, 8, .ro, 7, 0, [], none⟩,
  ⟨od3C00_KEY_FORMAT, .u64, 8, .ro, 7, 0, [], none⟩,
  ⟨od3C00_NOT_OWNER, .u64, 8, .ro, 7, 0, [], none⟩,
  ⟨od3C00_REVERTS, .u64, 8, .ro, 7, 0, [], none⟩,
  ⟨od3C00_SCALE_BOUNDS, .u64, 8, .ro, 7, 0, [], none⟩]

def odRows3C20 : List OdRow := [
  ⟨od3C20_HANDOFF_TIMEOUT, .u32, 4, .rw, 7, 5, [(100, 16000, 1)], none⟩]

def odRows4000 : List OdRow := [
  ⟨od4000_SEARCHES, .u64, 8, .ro, 7, 0, [], none⟩,
  ⟨od4000_UPDATES, .u64, 8, .ro, 7, 0, [], none⟩,
  ⟨od4000_POISONED, .u32, 4, .ro, 7, 0, [], none⟩]

def odRows4010 : List OdRow := [
  ⟨od4010_STATE, .enum, 1, .rw, 7, 5, [(0, 1, 1)], some 4096⟩,
  ⟨od4010_HERD, .u16, 2, .rwIdle, 7, 5, [(0, 4094, 1)], some 4096⟩,
  ⟨od4010_BANK, .u8, 1, .rwIdle, 7, 5, [(0, 7, 1)], some 4096⟩,
  ⟨od4010_FIRST, .u16, 2, .rwIdle, 7, 5, [(0, 65535, 1)], some 4096⟩,
  ⟨od4010_COUNT, .u32, 4, .rwIdle, 7, 5, [(1, 65536, 1)], some 4096⟩,
  ⟨od4010_GEN, .u16, 2, .ro, 7, 0, [], some 4096⟩,
  ⟨od4010_VALID, .u32, 4, .ro, 7, 0, [], some 4096⟩]

def odRows4020 : List OdRow := [
  ⟨od4020_ENTRY_RECORD, .bytes, 64, .rw, 5, 5, [(0, 2 ^ 512 - 1, 1)], some 524288⟩]

def odRows4100 : List OdRow := [
  ⟨od4100_LIFECYCLE, .enum, 1, .ro, 7, 0, [], none⟩,
  ⟨od4100_ADVANCE, .enum, 1, .wo, 0, 3, [(1, 3, 1)], none⟩,
  ⟨od4100_DEBUG_LEVEL, .enum, 1, .rw, 7, 3, [(0, 3, 1)], none⟩,
  ⟨od4100_DEBUG_EFFECTIVE, .enum, 1, .ro, 7, 0, [], none⟩,
  ⟨od4100_VENDOR_KEY_HASH, .bytes, 64, .const, 7, 0, [], none⟩]

def odRows4104 : List OdRow := [
  ⟨od4104_EK, .bytes, 1024, .ro, 7, 0, [], some 2⟩]

def odRows410C : List OdRow := [
  ⟨od410C_CERT, .bytes, 1024, .ro, 7, 0, [], some 4⟩]

def odRows4110 : List OdRow := [
  ⟨od4110_ACTIVE_SLOT, .enum, 1, .ro, 7, 0, [], none⟩,
  ⟨od4110_FW_STATE, .enum, 1, .ro, 7, 0, [], none⟩,
  ⟨od4110_STAGE_ADDR, .u64, 8, .rw, 7, 5, [(0, 0xfffffffffffffff8, 8)], none⟩,
  ⟨od4110_STAGE_LENGTH, .u32, 4, .rw, 7, 5, [(0, 33555792, 1)], none⟩,
  ⟨od4110_INSTALL, .bool, 1, .wo, 0, 5, [(1, 1, 1)], none⟩,
  ⟨od4110_INSTALL_RESULT, .u32, 4, .ro, 7, 0, [], none⟩,
  ⟨od4110_COMMIT, .enum, 1, .wo, 0, 3, [(1, 2, 1)], none⟩,
  ⟨od4110_VELVET_TIMEOUT, .u32, 4, .rw, 7, 3, [(60, 604800, 1)], none⟩,
  ⟨od4110_FUSES_LEFT, .u8, 1, .ro, 7, 0, [], none⟩]

def odRows4130 : List OdRow := [
  ⟨od4130_NONCE, .bytes, 64, .wo, 0, 8, [(0, 2 ^ 512 - 1, 1)], some 3⟩,
  ⟨od4130_SUBJECT, .u16, 2, .rw, 8, 8, [(1, 4094, 1), (65535, 65535, 1)], some 3⟩,
  ⟨od4130_GENERATE, .bool, 1, .wo, 0, 8, [(1, 1, 1)], some 3⟩,
  ⟨od4130_STATE, .enum, 1, .ro, 8, 0, [], some 3⟩]

def odRows4138 : List OdRow := [
  ⟨od4138_REPORT, .bytes, 1024, .ro, 8, 0, [], some 9⟩]

def odRows4140 : List OdRow := [
  ⟨od4140_KEY_CT0, .bytes, 1024, .wo, 0, 5, [(0, 2 ^ 8192 - 1, 1)], some 4096⟩,
  ⟨od4140_KEY_CT1, .bytes, 1024, .wo, 0, 5, [(0, 2 ^ 8192 - 1, 1)], some 4096⟩,
  ⟨od4140_KEY_LOAD, .bool, 1, .wo, 0, 5, [(1, 1, 1)], some 4096⟩]

def odRows4150 : List OdRow := [
  ⟨od4150_LINK_CT0, .bytes, 1024, .woIdle, 0, 5, [(0, 2 ^ 8192 - 1, 1)], some 256⟩,
  ⟨od4150_LINK_CT1, .bytes, 1024, .woIdle, 0, 5, [(0, 2 ^ 8192 - 1, 1)], some 256⟩,
  ⟨od4150_LINK_LOAD, .bool, 1, .woIdle, 0, 5, [(1, 1, 1)], some 256⟩,
  ⟨od4150_ENCRYPT, .bool, 1, .ro, 7, 0, [], some 256⟩,
  ⟨od4150_AUTH_FAILS, .u64, 8, .ro, 7, 0, [], some 256⟩]

def odRows4400 : List OdRow := [
  ⟨od4400_DEVICE_RING, .u32, 4, .rw, 7, 5, [(0, 262143, 1)], none⟩,
  ⟨od4400_MODE, .enum, 1, .ro, 7, 0, [], none⟩,
  ⟨od4400_RECOVER, .bool, 1, .wo, 0, 3, [(1, 1, 1)], none⟩,
  ⟨od4400_BASIC_RATE, .u8, 1, .rw, 7, 5, [(5, 100, 5)], none⟩,
  ⟨od4400_DEPTH, .u8, 1, .ro, 7, 0, [], none⟩,
  ⟨od4400_QUEUED, .u16, 2, .ro, 7, 0, [], none⟩,
  ⟨od4400_DROPPED, .u32, 4, .ro, 7, 0, [], none⟩,
  ⟨od4400_LOG_LOST, .u32, 4, .ro, 7, 0, [], none⟩,
  ⟨od4400_TINE_WATCHDOG, .u32, 4, .rw, 7, 5, [(2, 20, 1)], none⟩,
  ⟨od4400_DUAL_INTERVAL, .u32, 4, .rw, 7, 5, [(0, 0, 1), (256, 256, 1), (512, 512, 1), (1024, 1024, 1), (2048, 2048, 1), (4096, 4096, 1), (8192, 8192, 1), (16384, 16384, 1), (32768, 32768, 1), (65536, 65536, 1)], none⟩,
  ⟨od4400_DUAL_CHECKS, .u64, 8, .ro, 7, 0, [], none⟩,
  ⟨od4400_DUAL_MISMATCHES, .u64, 8, .ro, 7, 0, [], none⟩,
  ⟨od4400_DUAL_SKIPPED, .u64, 8, .ro, 7, 0, [], none⟩,
  ⟨od4400_CANARY_RING, .u32, 4, .rw, 7, 5, [(0, 262143, 1)], none⟩,
  ⟨od4400_CANARY_SKIPPED, .u64, 8, .ro, 7, 0, [], none⟩]

def odRows4408 : List OdRow := [
  ⟨od4408_HERD_RING, .u32, 4, .rwIdle, 5, 5, [(0, 262143, 1)], some 4096⟩,
  ⟨od4408_TG_CANARY_PERIOD, .u32, 4, .rwIdle, 5, 5, [(0, 0, 1), (10, 100000, 1)], some 4096⟩]

def odRows4410 : List OdRow := [
  ⟨od4410_FAIL_BINS, .u32, 4, .ro, 7, 0, [], some 256⟩,
  ⟨od4410_TEMP, .s32, 4, .ro, 7, 0, [], some 256⟩,
  ⟨od4410_RELEASE, .bool, 1, .wo, 0, 5, [(1, 1, 1)], some 256⟩,
  ⟨od4410_CANARIES, .u32, 4, .ro, 7, 0, [], some 256⟩]

def odRows4420 : List OdRow := [
  ⟨od4420_TINES_PLACEABLE, .u16, 2, .ro, 7, 0, [], none⟩,
  ⟨od4420_TINES_QUARANTINED, .u16, 2, .ro, 7, 0, [], none⟩,
  ⟨od4420_TINES_FAILED, .u16, 2, .ro, 7, 0, [], none⟩,
  ⟨od4420_QUADRANTS_UP, .u8, 1, .ro, 7, 0, [], none⟩,
  ⟨od4420_STACKS_UP, .u8, 1, .ro, 7, 0, [], none⟩,
  ⟨od4420_REDUCE_UNITS_UP, .u8, 1, .ro, 7, 0, [], none⟩,
  ⟨od4420_PEAK_MXFP4, .u32, 4, .ro, 7, 0, [], none⟩]

def odRows4430 : List OdRow := [
  ⟨od4430_LOG_NEXT, .bytes, 64, .ro, 3, 0, [], none⟩,
  ⟨od4430_LOG_COUNT, .u16, 2, .ro, 7, 0, [], none⟩]

def odRows4800 : List OdRow := [
  ⟨od4800_COUNTER, .u64, 8, .ro, 7, 0, [], some 2048⟩]

def odRows4810 : List OdRow := [
  ⟨od4810_STATE, .enum, 1, .rw, 7, 5, [(0, 1, 1)], some 4096⟩,
  ⟨od4810_HERD, .u16, 2, .rwIdle, 7, 5, [(1, 4094, 1)], some 4096⟩,
  ⟨od4810_SLOTS, .bytes, 16, .rwIdle, 7, 5, [(0, 2 ^ 128 - 1, 1)], some 4096⟩,
  ⟨od4810_LATCH_ADDR, .u64, 8, .rwIdle, 7, 5, [(0, 0xffffffffffffff80, 128)], some 4096⟩,
  ⟨od4810_LATCH_SLOTS, .u16, 2, .rwIdle, 7, 5, [(1, 4096, 1)], some 4096⟩,
  ⟨od4810_LATCHES, .u32, 4, .ro, 7, 0, [], some 4096⟩,
  ⟨od4810_LIVE, .bytes, 128, .ro, 7, 0, [], some 4096⟩]

def odRows4820 : List OdRow := [
  ⟨od4820_G_EXTENT, .u32, 4, .rw, 5, 5, [(0, 131071, 1)], none⟩,
  ⟨od4820_G_GRANULE, .u32, 4, .rw, 5, 5, [(0, 0xffffffff, 1)], none⟩,
  ⟨od4820_G_DESCRIPTOR, .bytes, 16, .ro, 7, 0, [], none⟩]

def odRows4880 : List OdRow := [
  ⟨od4880_TRACE_SIZE, .u32, 4, .rwIdle, 7, 3, [(0, 64, 1)], none⟩,
  ⟨od4880_STATE, .enum, 1, .rw, 7, 3, [(0, 1, 1)], none⟩,
  ⟨od4880_MODE, .enum, 1, .rwIdle, 7, 3, [(0, 1, 1)], none⟩,
  ⟨od4880_CAP, .u8, 1, .rw, 7, 3, [(1, 10, 1)], none⟩,
  ⟨od4880_BASE, .u64, 8, .ro, 7, 0, [], none⟩,
  ⟨od4880_WRITE_OFFSET0, .u64, 8, .ro, 7, 0, [], none⟩,
  ⟨od4880_WRITE_OFFSET1, .u64, 8, .ro, 7, 0, [], none⟩,
  ⟨od4880_WRITE_OFFSET2, .u64, 8, .ro, 7, 0, [], none⟩,
  ⟨od4880_WRITE_OFFSET3, .u64, 8, .ro, 7, 0, [], none⟩]

def odRows4890 : List OdRow := [
  ⟨od4890_STATE, .enum, 1, .rw, 7, 3, [(0, 1, 1)], some 16⟩,
  ⟨od4890_TYPES, .u8, 1, .rwIdle, 7, 3, [(0, 127, 1)], some 16⟩,
  ⟨od4890_HERD, .u16, 2, .rwIdle, 7, 3, [(0, 4094, 1), (4095, 4095, 1)], some 16⟩,
  ⟨od4890_UNIT, .u16, 2, .rwIdle, 7, 3, [(0, 4095, 1), (65535, 65535, 1)], some 16⟩,
  ⟨od4890_OPCS, .u64, 8, .rwIdle, 7, 3, [(0, 0xffffffffffffffff, 1)], some 16⟩,
  ⟨od4890_DATA, .bool, 1, .rwIdle, 7, 3, [(0, 1, 1)], some 16⟩]

def odRows48A0 : List OdRow := [
  ⟨od48A0_STOT_MODE, .enum, 1, .rw, 7, 3, [(0, 2, 1)], none⟩,
  ⟨od48A0_STOT_NOW, .bool, 1, .wo, 0, 3, [(1, 1, 1)], none⟩,
  ⟨od48A0_STATE, .enum, 1, .ro, 7, 0, [], none⟩,
  ⟨od48A0_CAUSE, .enum, 1, .ro, 7, 0, [], none⟩,
  ⟨od48A0_HANG_TIMEOUT, .u32, 4, .rw, 7, 5, [(1, 10000, 1)], none⟩,
  ⟨od48A0_STOT_TIME, .ftime, 8, .ro, 7, 0, [], none⟩,
  ⟨od48A0_DUMP_LENGTH, .u32, 4, .ro, 7, 0, [], none⟩]

def odRows48A8 : List OdRow := [
  ⟨od48A8_DUMP, .bytes, 1024, .ro, 3, 0, [], some 262144⟩]

def odRows48B0 : List OdRow := [
  ⟨od48B0_PERIOD, .u32, 4, .rw, 7, 5, [(0, 0, 1), (10, 10000, 1)], none⟩,
  ⟨od48B0_BUILD, .bool, 1, .wo, 0, 5, [(1, 1, 1)], none⟩,
  ⟨od48B0_STATE, .enum, 1, .ro, 7, 0, [], none⟩,
  ⟨od48B0_NODES, .u32, 4, .ro, 7, 0, [], none⟩,
  ⟨od48B0_EDGES, .u32, 4, .ro, 7, 0, [], none⟩,
  ⟨od48B0_CYCLES, .u16, 2, .ro, 7, 0, [], none⟩,
  ⟨od48B0_STALLED, .u16, 2, .ro, 7, 0, [], none⟩,
  ⟨od48B0_TRUNCATED, .bool, 1, .ro, 7, 0, [], none⟩,
  ⟨od48B0_BUILT, .ftime, 8, .ro, 7, 0, [], none⟩]

def odRows48B8 : List OdRow := [
  ⟨od48B8_GRAPH, .bytes, 1024, .ro, 5, 0, [], some 8192⟩]

def odRows4C00 : List OdRow := [
  ⟨od4C00_STATE, .enum, 1, .ro, 7, 0, [], none⟩,
  ⟨od4C00_REQUEST, .enum, 1, .wo, 0, 7, [(0, 0, 1), (2, 4, 1)], none⟩,
  ⟨od4C00_POWER_LIMIT, .u32, 4, .rw, 7, 3, [(800, 1650, 10)], none⟩,
  ⟨od4C00_PACKAGE_POWER, .u32, 4, .ro, 7, 0, [], none⟩,
  ⟨od4C00_TJ_THROTTLE, .u8, 1, .rw, 7, 5, [(70, 100, 1)], none⟩,
  ⟨od4C00_TJ_ALERT, .u8, 1, .rw, 7, 5, [(75, 104, 1)], none⟩,
  ⟨od4C00_TJ_MAX, .s32, 4, .ro, 7, 0, [], none⟩,
  ⟨od4C00_THROTTLE_EVENTS, .u64, 8, .ro, 7, 0, [], none⟩,
  ⟨od4C00_TRANSITION, .enum, 1, .ro, 7, 0, [], none⟩,
  ⟨od4C00_FLUSH_STATE, .enum, 1, .ro, 7, 0, [], none⟩]

def odRows4C08 : List OdRow := [
  ⟨od4C08_POINT_REQ, .u8, 1, .rw, 7, 5, [(0, 8, 1)], some 4⟩,
  ⟨od4C08_POINT, .u8, 1, .ro, 7, 0, [], some 4⟩,
  ⟨od4C08_GATE, .bool, 1, .rwIdle, 7, 5, [(0, 1, 1)], some 4⟩,
  ⟨od4C08_VDD_TINE, .u16, 2, .ro, 7, 0, [], some 4⟩,
  ⟨od4C08_TJ_HOT, .s32, 4, .ro, 7, 0, [], some 4⟩,
  ⟨od4C08_POWER, .u32, 4, .ro, 7, 0, [], some 4⟩,
  ⟨od4C08_STRETCHES, .u64, 8, .ro, 7, 0, [], some 4⟩]

def odRows4C10 : List OdRow := [
  ⟨od4C10_DIDT, .u16, 2, .rw, 7, 3, [(10, 1000, 1)], some 13⟩,
  ⟨od4C10_CURRENT, .u32, 4, .ro, 7, 0, [], some 13⟩,
  ⟨od4C10_VOLTS, .u16, 2, .ro, 7, 0, [], some 13⟩]

def odRows4C20 : List OdRow := [
  ⟨od4C20_HOLDUP_J, .u32, 4, .rw, 7, 3, [(0, 100000, 1)], none⟩]

def odRows4C40 : List OdRow := [
  ⟨od4C40_RESET_CAUSE, .enum, 1, .ro, 7, 0, [], none⟩,
  ⟨od4C40_BOOT_STAGE, .enum, 1, .ro, 7, 0, [], none⟩]

def odRows4C48 : List OdRow := [
  ⟨od4C48_LEVEL, .bool, 1, .ro, 7, 0, [], some 3⟩,
  ⟨od4C48_FILTERED, .u32, 4, .ro, 7, 0, [], some 3⟩,
  ⟨od4C48_RATE_HELD, .u32, 4, .ro, 7, 0, [], some 3⟩,
  ⟨od4C48_STUCK, .bool, 1, .ro, 7, 0, [], some 3⟩,
  ⟨od4C48_STUCK_TIME, .ftime, 8, .ro, 7, 0, [], some 3⟩]

def odRows5000 : List OdRow := [
  ⟨od5000_POWER_ON_SECONDS, .u64, 8, .ro, 7, 0, [], none⟩,
  ⟨od5000_LINK_RETRAINS, .u64, 8, .ro, 7, 0, [], none⟩,
  ⟨od5000_ECC_CORRECTED, .u64, 8, .ro, 7, 0, [], none⟩,
  ⟨od5000_ECC_UNCORRECTED, .u64, 8, .ro, 7, 0, [], none⟩,
  ⟨od5000_ROLLBACK_FUSES, .u64, 8, .ro, 7, 0, [], none⟩,
  ⟨od5000_CANARY_RUNS, .u64, 8, .ro, 7, 0, [], none⟩,
  ⟨od5000_CANARY_FAILS, .u64, 8, .ro, 7, 0, [], none⟩,
  ⟨od5000_JOURNAL_SEQ, .u64, 8, .ro, 7, 0, [], none⟩,
  ⟨od5000_LEDGER_BROKEN, .u64, 8, .ro, 7, 0, [], none⟩]

def odRows5010 : List OdRow := [
  ⟨od5010_BIN_SECONDS0, .u64, 8, .ro, 7, 0, [], some 4⟩,
  ⟨od5010_BIN_SECONDS1, .u64, 8, .ro, 7, 0, [], some 4⟩,
  ⟨od5010_BIN_SECONDS2, .u64, 8, .ro, 7, 0, [], some 4⟩,
  ⟨od5010_BIN_SECONDS3, .u64, 8, .ro, 7, 0, [], some 4⟩,
  ⟨od5010_BIN_SECONDS4, .u64, 8, .ro, 7, 0, [], some 4⟩,
  ⟨od5010_BIN_SECONDS5, .u64, 8, .ro, 7, 0, [], some 4⟩,
  ⟨od5010_BIN_SECONDS6, .u64, 8, .ro, 7, 0, [], some 4⟩,
  ⟨od5010_BIN_SECONDS7, .u64, 8, .ro, 7, 0, [], some 4⟩,
  ⟨od5010_THERMAL_CYCLES, .u64, 8, .ro, 7, 0, [], some 4⟩]

def odRows5020 : List OdRow := [
  ⟨od5020_JOURNAL_INTERVAL, .u32, 4, .rw, 7, 5, [(60, 86400, 1)], none⟩]

/-- The rows of the object at an index; an index that no chapter defines has none (R372). -/
def odObject (index : Nat) : List OdRow :=
  if index < 0x3410 then
    if index < 0x2408 then
      if index < 0x2110 then
        if index < 0x2008 then
          if index < 0x1110 then
            if index = 0x1000 then odRows1000 else
            if index = 0x1100 then odRows1100 else
            []
          else
            if index = 0x1110 then odRows1110 else
            if index = 0x1120 then odRows1120 else
            if index = 0x2000 then odRows2000 else
            []
        else
          if index < 0x2020 then
            if index = 0x2008 then odRows2008 else
            if index = 0x2010 then odRows2010 else
            []
          else
            if index = 0x2020 then odRows2020 else
            if index = 0x2021 then odRows2021 else
            if index = 0x2100 then odRows2100 else
            []
      else
        if index < 0x2200 then
          if index < 0x2118 then
            if index = 0x2110 then odRows2110 else
            if index = 0x2114 then odRows2114 else
            []
          else
            if index = 0x2118 then odRows2118 else
            if index = 0x2120 then odRows2120 else
            if index = 0x2130 then odRows2130 else
            []
        else
          if index < 0x2310 then
            if index = 0x2200 then odRows2200 else
            if index = 0x2300 then odRows2300 else
            []
          else
            if index = 0x2310 then odRows2310 else
            if index = 0x2320 then odRows2320 else
            if index = 0x2400 then odRows2400 else
            []
    else
      if index < 0x2C00 then
        if index < 0x2800 then
          if index < 0x2450 then
            if index = 0x2408 then odRows2408 else
            if index = 0x2440 then odRows2440 else
            []
          else
            if index = 0x2450 then odRows2450 else
            if index = 0x2460 then odRows2460 else
            if index = 0x2470 then odRows2470 else
            []
        else
          if index < 0x2820 then
            if index = 0x2800 then odRows2800 else
            if index = 0x2810 then odRows2810 else
            []
          else
            if index = 0x2820 then odRows2820 else
            if index = 0x2830 then odRows2830 else
            if index = 0x2840 then odRows2840 else
            []
      else
        if index < 0x3000 then
          if index < 0x2C20 then
            if index = 0x2C00 then odRows2C00 else
            if index = 0x2C10 then odRows2C10 else
            []
          else
            if index = 0x2C20 then odRows2C20 else
            if index = 0x2C30 then odRows2C30 else
            if index = 0x2C40 then odRows2C40 else
            []
        else
          if index < 0x3030 then
            if index = 0x3000 then odRows3000 else
            if index = 0x3010 then odRows3010 else
            if index = 0x3020 then odRows3020 else
            []
          else
            if index = 0x3030 then odRows3030 else
            if index = 0x3400 then odRows3400 else
            if index = 0x3408 then odRows3408 else
            []
  else
    if index < 0x4410 then
      if index < 0x4020 then
        if index < 0x3840 then
          if index < 0x3800 then
            if index = 0x3410 then odRows3410 else
            if index = 0x3440 then odRows3440 else
            []
          else
            if index = 0x3800 then odRows3800 else
            if index = 0x3810 then odRows3810 else
            if index = 0x3820 then odRows3820 else
            []
        else
          if index < 0x3C20 then
            if index = 0x3840 then odRows3840 else
            if index = 0x3C00 then odRows3C00 else
            []
          else
            if index = 0x3C20 then odRows3C20 else
            if index = 0x4000 then odRows4000 else
            if index = 0x4010 then odRows4010 else
            []
      else
        if index < 0x4130 then
          if index < 0x4104 then
            if index = 0x4020 then odRows4020 else
            if index = 0x4100 then odRows4100 else
            []
          else
            if index = 0x4104 then odRows4104 else
            if index = 0x410C then odRows410C else
            if index = 0x4110 then odRows4110 else
            []
        else
          if index < 0x4150 then
            if index = 0x4130 then odRows4130 else
            if index = 0x4138 then odRows4138 else
            if index = 0x4140 then odRows4140 else
            []
          else
            if index = 0x4150 then odRows4150 else
            if index = 0x4400 then odRows4400 else
            if index = 0x4408 then odRows4408 else
            []
    else
      if index < 0x48B0 then
        if index < 0x4820 then
          if index < 0x4430 then
            if index = 0x4410 then odRows4410 else
            if index = 0x4420 then odRows4420 else
            []
          else
            if index = 0x4430 then odRows4430 else
            if index = 0x4800 then odRows4800 else
            if index = 0x4810 then odRows4810 else
            []
        else
          if index < 0x4890 then
            if index = 0x4820 then odRows4820 else
            if index = 0x4880 then odRows4880 else
            []
          else
            if index = 0x4890 then odRows4890 else
            if index = 0x48A0 then odRows48A0 else
            if index = 0x48A8 then odRows48A8 else
            []
      else
        if index < 0x4C20 then
          if index < 0x4C00 then
            if index = 0x48B0 then odRows48B0 else
            if index = 0x48B8 then odRows48B8 else
            []
          else
            if index = 0x4C00 then odRows4C00 else
            if index = 0x4C08 then odRows4C08 else
            if index = 0x4C10 then odRows4C10 else
            []
        else
          if index < 0x5000 then
            if index = 0x4C20 then odRows4C20 else
            if index = 0x4C40 then odRows4C40 else
            if index = 0x4C48 then odRows4C48 else
            []
          else
            if index = 0x5000 then odRows5000 else
            if index = 0x5010 then odRows5010 else
            if index = 0x5020 then odRows5020 else
            []

/-- The Default column of the entry tables, by index × 256 + subindex. -/
def odTableDefault (c : Nat) : Nat :=
  if c < 0x2c2005 then
    if c < 0x230002 then
      if c < 0x202001 then
        if c < 0x111001 then
          if c < 0x10000a then
            if c < 0x100003 then
              if c = 0x100001 then 0x72617a75736159 else
              if c = 0x100002 then 0x394120726f7a6172647541 else
              0
            else
              if c = 0x100003 then 0x38483231352d39412d5a59 else
              if c = 0x100007 then 256 else
              0
          else
            if c < 0x110002 then
              if c = 0x10000a then 58289 else
              if c = 0x110001 then 65535 else
              0
            else
              if c = 0x110002 then 65535 else
              if c = 0x110003 then 65535 else
              if c = 0x110004 then 65535 else
              0
        else
          if c < 0x200008 then
            if c < 0x200004 then
              if c = 0x111001 then 58 else
              if c = 0x200002 then 65535 else
              0
            else
              if c = 0x200004 then 3 else
              if c = 0x200006 then 1000 else
              if c = 0x200007 then 200 else
              0
          else
            if c < 0x20000e then
              if c = 0x200008 then 3600 else
              if c = 0x200009 then 512 else
              0
            else
              if c = 0x20000e then 1000 else
              if c = 0x201005 then 4095 else
              if c = 0x201009 then 3 else
              0
      else
        if c < 0x21000a then
          if c < 0x210005 then
            if c < 0x210003 then
              if c = 0x202001 then 0xffffffffffffffff else
              if c = 0x202002 then 37 else
              0
            else
              if c = 0x210003 then 30 else
              if c = 0x210004 then 30 else
              0
          else
            if c < 0x210007 then
              if c = 0x210005 then 1000 else
              if c = 0x210006 then 3000 else
              0
            else
              if c = 0x210007 then 750 else
              if c = 0x210008 then 12000 else
              if c = 0x210009 then 50000 else
              0
        else
          if c < 0x220001 then
            if c < 0x211803 then
              if c = 0x21000a then 8000 else
              if c = 0x211401 then 900 else
              0
            else
              if c = 0x211803 then 2 else
              if c = 0x211808 then 255 else
              if c = 0x212001 then 255 else
              0
          else
            if c < 0x220003 then
              if c = 0x220001 then 48 else
              if c = 0x220002 then 1000 else
              0
            else
              if c = 0x220003 then 4096 else
              if c = 0x220004 then 30 else
              if c = 0x230001 then 8 else
              0
    else
      if c < 0x24500c then
        if c < 0x240802 then
          if c < 0x240002 then
            if c < 0x230004 then
              if c = 0x230002 then 90 else
              if c = 0x230003 then 4096 else
              0
            else
              if c = 0x230004 then 128 else
              if c = 0x232002 then 4095 else
              0
          else
            if c < 0x240007 then
              if c = 0x240002 then 4095 else
              if c = 0x240005 then 256 else
              0
            else
              if c = 0x240007 then 100000 else
              if c = 0x240009 then 16384 else
              if c = 0x240801 then 65535 else
              0
        else
          if c < 0x245007 then
            if c < 0x244002 then
              if c = 0x240802 then 1000 else
              if c = 0x240803 then 512 else
              0
            else
              if c = 0x244002 then 65536 else
              if c = 0x244003 then 65536 else
              if c = 0x245006 then 2104 else
              0
          else
            if c < 0x245009 then
              if c = 0x245007 then 2104 else
              if c = 0x245008 then 2104 else
              0
            else
              if c = 0x245009 then 2104 else
              if c = 0x24500a then 2104 else
              if c = 0x24500b then 2104 else
              0
      else
        if c < 0x2c0005 then
          if c < 0x282002 then
            if c < 0x247001 then
              if c = 0x24500c then 2104 else
              if c = 0x24500d then 2104 else
              0
            else
              if c = 0x247001 then 7 else
              if c = 0x281002 then 65535 else
              if c = 0x281003 then 4095 else
              0
          else
            if c < 0x284001 then
              if c = 0x282002 then 4095 else
              if c = 0x282005 then 65535 else
              0
            else
              if c = 0x284001 then 100 else
              if c = 0x284002 then 4000 else
              if c = 0x2c0004 then 64 else
              0
        else
          if c < 0x2c1006 then
            if c < 0x2c1001 then
              if c = 0x2c0005 then 8 else
              if c = 0x2c0006 then 2000 else
              0
            else
              if c = 0x2c1001 then 48000 else
              if c = 0x2c1002 then 1650 else
              if c = 0x2c1003 then 50 else
              0
          else
            if c < 0x2c2002 then
              if c = 0x2c1006 then 75 else
              if c = 0x2c2001 then 12 else
              0
            else
              if c = 0x2c2002 then 5 else
              if c = 0x2c2003 then 2 else
              if c = 0x2c2004 then 65536 else
              0
  else
    if c < 0x38200e then
      if c < 0x341004 then
        if c < 0x300006 then
          if c < 0x2c4003 then
            if c < 0x2c2007 then
              if c = 0x2c2005 then 200 else
              if c = 0x2c2006 then 100000 else
              0
            else
              if c = 0x2c2007 then 50 else
              if c = 0x2c2008 then 90 else
              0
          else
            if c < 0x300003 then
              if c = 0x2c4003 then 4095 else
              if c = 0x300002 then 64 else
              0
            else
              if c = 0x300003 then 1000 else
              if c = 0x300004 then 16 else
              if c = 0x300005 then 4 else
              0
        else
          if c < 0x301003 then
            if c < 0x300008 then
              if c = 0x300006 then 6 else
              if c = 0x300007 then 4 else
              0
            else
              if c = 0x300008 then 4 else
              if c = 0x301001 then 0xffffffff else
              if c = 0x301002 then 65535 else
              0
          else
            if c < 0x340002 then
              if c = 0x301003 then 4095 else
              if c = 0x302002 then 65535 else
              0
            else
              if c = 0x340002 then 4095 else
              if c = 0x340801 then 1 else
              if c = 0x341002 then 4095 else
              0
      else
        if c < 0x380010 then
          if c < 0x380006 then
            if c < 0x344001 then
              if c = 0x341004 then 16 else
              if c = 0x341006 then 0xffffffff else
              0
            else
              if c = 0x344001 then 1 else
              if c = 0x380002 then 4095 else
              0
          else
            if c < 0x380008 then
              if c = 0x380006 then 1 else
              if c = 0x380007 then 1 else
              0
            else
              if c = 0x380008 then 512 else
              if c = 0x380009 then 65535 else
              if c = 0x38000c then 65535 else
              0
        else
          if c < 0x382006 then
            if c < 0x381004 then
              if c = 0x380010 then 10000 else
              if c = 0x380012 then 0xffffffff else
              0
            else
              if c = 0x381004 then 65535 else
              if c = 0x381005 then 0xffffffff else
              if c = 0x381006 then 4095 else
              0
          else
            if c < 0x382008 then
              if c = 0x382006 then 981668463 else
              if c = 0x382007 then 1063675494 else
              0
            else
              if c = 0x382008 then 1065336439 else
              if c = 0x382009 then 841731191 else
              if c = 0x38200b then 1065353216 else
              0
    else
      if c < 0x440801 then
        if c < 0x3c2001 then
          if c < 0x384002 then
            if c < 0x382010 then
              if c = 0x38200e then 0xffffffff else
              if c = 0x38200f then 2 else
              0
            else
              if c = 0x382010 then 1065353216 else
              if c = 0x384001 then 65535 else
              0
          else
            if c < 0x384004 then
              if c = 0x384002 then 65535 else
              if c = 0x384003 then 65535 else
              0
            else
              if c = 0x384004 then 65535 else
              if c = 0x384005 then 1048576 else
              if c = 0x3c0001 then 20 else
              0
        else
          if c < 0x440001 then
            if c < 0x401005 then
              if c = 0x3c2001 then 2000 else
              if c = 0x401002 then 4095 else
              0
            else
              if c = 0x401005 then 1 else
              if c = 0x411008 then 3600 else
              if c = 0x413002 then 65535 else
              0
          else
            if c < 0x440009 then
              if c = 0x440001 then 0xffffffff else
              if c = 0x440004 then 25 else
              0
            else
              if c = 0x440009 then 10 else
              if c = 0x44000a then 4096 else
              if c = 0x44000e then 0xffffffff else
              0
      else
        if c < 0x489003 then
          if c < 0x442006 then
            if c < 0x442001 then
              if c = 0x440801 then 0xffffffff else
              if c = 0x440802 then 1000 else
              0
            else
              if c = 0x442001 then 256 else
              if c = 0x442004 then 4 else
              if c = 0x442005 then 8 else
              0
          else
            if c < 0x481005 then
              if c = 0x442006 then 64 else
              if c = 0x481002 then 4095 else
              0
            else
              if c = 0x481005 then 16 else
              if c = 0x488001 then 4 else
              if c = 0x488004 then 1 else
              0
        else
          if c < 0x4c0005 then
            if c < 0x489005 then
              if c = 0x489003 then 4095 else
              if c = 0x489004 then 65535 else
              0
            else
              if c = 0x489005 then 0xffffffffffffffff else
              if c = 0x48a005 then 100 else
              if c = 0x4c0003 then 1650 else
              0
          else
            if c < 0x4c0801 then
              if c = 0x4c0005 then 95 else
              if c = 0x4c0006 then 100 else
              0
            else
              if c = 0x4c0801 then 8 else
              if c = 0x4c0802 then 8 else
              if c = 0x502001 then 3600 else
              0

/-- The row of an entry. -/
def odRow (index sub : Nat) : Option OdRow := (odObject index).find? (fun r => r.ent.sub == sub)

/-- The place of an element's value in `State.od`: by element first, then by index and subindex, so that no two elements of two
entries share a place. -/
def odKeyOf (index sub elem : Nat) : Nat := elem * 16777216 + index * 256 + sub

def odKey (e : Ent) (n : Nat) : Nat := odKeyOf e.index e.sub n

end Sys2Proof.Machine
end

