-- ==== Sys2Proof/Machine/State.lean ====
section
/-! DEFINITION. The state of the block, as plain data: every piece of state that the spec gives the A9, and the queue of
the commands that wait. `State.reset` is the device with RESET_N just released. -/

namespace Sys2Proof.Machine

/-! ## Shapes -/

/-- A table with a default: the entries that differ from it, by strictly rising key. -/
abbrev Sparse (α : Type) := List (Nat × α)

/-- One value per quadrant. -/
structure Quad (α : Type) where
  q0 : α
  q1 : α
  q2 : α
  q3 : α
  deriving DecidableEq, Repr

/-! ## Requests, responses and frames (chapter 3) -/

/-- The operations of Table 3.5. -/
inductive AtomicOp where
  | swap | cas | add | and | or | xor | smax | smin | umax | umin | fadd
  deriving DecidableEq, Repr

/-- The collective opcodes of Table 8.4. -/
inductive CollOp where
  | contrib | part | result | abort
  deriving DecidableEq, Repr

/-- The request opcodes of Table 3.3 that a home or an ingress A9 serves, and the collective ones with their header; `loadc`
is the LOAD that RLDC issues (R178), and `other` a request whose opcode is reserved (R73, R211). -/
inductive ReqOp where
  | load | loadc | store | pstore
  | atomic (op : AtomicOp)
  | publish | invalidate | flush | fence | kick | complete | mgmtRead | mgmtWrite
  | coll (op : CollOp) (h : CollHdr)
  | other (opc : Nat)
  deriving DecidableEq, Repr

/-- The response opcodes of Table 3.6. -/
inductive RespOp where
  | data | ack | mgmt
  deriving DecidableEq, Repr

/-- Who originated a request (R25, R28). `unit` is a page walker, an expander or a reduce unit acting for the command
`cid`, for its access at `addr`; `coll` is a reduce unit acting for a context; `home` is a home slice. -/
inductive Sender where
  | port (p : PortId)
  | trunk (p : PortId)
  | companion
  | tine (t : TineId) (h : ThreadId)
  | unit (endpoint cid addr : Nat)
  | coll (ctx : Nat)
  | home (q : Nat)
  deriving DecidableEq, Repr

/-- Why a request waits, or that it has left its ingress. -/
inductive ReqPlace where
  | rate            -- at the ingress, under the rate limit or the outstanding cap (R316)
  | order           -- at the ingress, behind earlier requests (Table 3.7)
  | route           -- at the ingress, without a usable route or under a hold (R334, R338, R339)
  | queue           -- in a transmit queue or on a link, toward another A9
  | home            -- held at a home of this A9
  | mgmt            -- a management request, due at the management core (R24)
  | merged (id : Nat) -- a KICK that goes with an earlier one (R77)
  | answered        -- executed; its response is in flight
  deriving DecidableEq, Repr

/-- A request that the A9 still has to answer or to see answered (R81, R87). -/
structure Req where
  id      : Nat
  sender  : Sender
  op      : ReqOp
  hdr     : ReqHdr
  payload : List Byte
  ext     : Nat
  born    : Nat
  place   : ReqPlace
  path    : Option PortId
  dest    : Nat
  deriving DecidableEq, Repr

/-- A response on its way from a home of this A9 to the requester. -/
structure RespMsg where
  sender  : Sender
  op      : RespOp
  hdr     : RespHdr
  payload : List Byte
  deriving DecidableEq, Repr

/-- What a frame carries. -/
inductive FrameBody where
  | req (op : ReqOp) (hdr : ReqHdr) (payload : List Byte)
  | resp (op : RespOp) (hdr : RespHdr) (payload : List Byte)
  | coll (op : CollOp) (hdr : CollHdr) (payload : List Byte)
  deriving DecidableEq, Repr

/-- A frame that a link transmitter keeps until the far end acknowledges it (R71). -/
structure SentFrame where
  seq  : Nat
  body : FrameBody
  deriving DecidableEq, Repr

/-- The link layer of one port (R70, R71, R296). `credits` are the cells that this A9 may still send per class;
`owed` are the cells freed here per class that the next frames return, and `out` the credits that the far end holds; `gap` that
a NAK for the missing frame is out. -/
structure LinkState where
  txSeq   : Nat
  rxSeq   : Nat
  unacked : List SentFrame
  replays : Nat
  timer   : Nat
  credits : List Nat
  owed    : List Nat
  out     : List Nat
  gap     : Bool
  deriving DecidableEq, Repr

/-- The time exchange of one port (R52, R84), as downstream (last REPLY) and as upstream (last SYNC). -/
structure TimexState where
  nextX   : Nat
  sent    : Option (Nat × Nat)
  t4      : Option (Nat × Nat)
  replied : Option (Nat × Nat × Nat × Nat)
  deriving DecidableEq, Repr

/-- Requests and transport state. -/
structure Transport where
  outstanding : List Req
  nextId      : Nat
  resps       : List RespMsg
  psn         : Sparse Nat
  applied     : Sparse (List Nat)
  results     : Sparse (List (Nat × RespMsg))
  window      : Sparse Nat
  lost        : Sparse (Nat × Nat)
  unbound     : Sparse (Nat × Nat)
  links       : Sparse LinkState
  timex       : Sparse TimexState
  deriving DecidableEq, Repr

/-! ## Fabric time (chapter 2) -/

/-- A record of the ledger's ring (R68): JOURNAL_SEQ, the time and the counters, and the signature over them, made with
the place number `nonce`. -/
structure JournalRec where
  seq   : Nat
  vals  : List Nat
  nonce : Nat
  sig   : Nat
  deriving DecidableEq, Repr

/-- The fabric time that has passed (`span`, in 2^-72 s, no step moves it) and what steering has still to remove of the last
offset (`left`); the counters (scaled by 2^40, R50), the discipline, the held time of day, and what trigger slots and the
ledger keep beside their entries. -/
structure TimeState where
  span        : Nat
  left        : Nat
  ctr         : Quad Nat
  inc         : Quad Nat
  apart       : Quad Bool
  stepAllowed : Bool
  rejects     : Nat
  locks       : Nat
  incs        : List Nat
  lastSample  : Nat
  holdover    : Option Nat
  todHeld     : Option Nat
  ppsLast     : Option Nat
  tickExch    : Nat
  staleTrig   : List Nat
  fired       : Sparse Nat
  journal     : List JournalRec
  journalAt   : Nat
  hotCycle    : Quad Bool
  deriving DecidableEq, Repr

/-! ## The pool (chapter 4) -/

/-- A granule descriptor (Table 4.5). -/
structure Gran where
  tier   : Nat
  cached : Bool
  moving : Bool
  frame  : Nat
  zmask  : BitVec 32
  dirty  : BitVec 32
  loc    : Nat
  deriving DecidableEq, Repr

/-- A frame of the write-back cache (R99): the granule it holds and when it was last used. -/
structure CacheFrame where
  ext  : Nat
  gran : Nat
  used : Nat
  deriving DecidableEq, Repr

/-- Why a request is held at the home. -/
inductive HoldWhy where
  | ceiling | pfw | fill | publish | writeThrough | flush | expand | behind | flash | slot
  deriving DecidableEq, Repr

/-- A request held at a home slice of this A9. `place` is the granule, chunk or block it waits for; `chunks` are the
chunks that a FLUSH at LEVEL 1 still waits for. -/
structure Held where
  why    : HoldWhy
  ext    : Nat
  place  : Nat
  chunks : List Nat
  req    : Req
  deriving DecidableEq, Repr

/-- A composition change in progress (R117–R120). -/
structure Change where
  ext     : Nat
  op      : Nat
  arg     : Nat
  started : Nat
  deriving DecidableEq, Repr

/-- A revoke, shrink or unshare in progress (Table 4.9, R495): `step` is 2 while it drains and 3 after. -/
structure Revoke where
  ext     : Nat
  op      : Nat
  arg     : Nat
  started : Nat
  step    : Nat
  deriving DecidableEq, Repr

/-- A granule move in progress (R103): a fill, or a move between frames, with the chunks already copied. -/
structure Move where
  ext   : Nat
  gran  : Nat
  fill  : Bool
  frame : Nat
  done  : BitVec 32
  deriving DecidableEq, Repr

/-- The pool: contents, descriptors, the write-back cache, held requests and changes of extents. `mem` is the contents
of T1, `cxl` of T2 by extent, `flash` of T3 by volume slot; a key is extent or slot × 2^48 + byte offset;
`dirtied` are the dirty chunks of PERSIST extents, oldest first. -/
structure Pool where
  mem     : Sparse Byte
  cxl     : Sparse Byte
  flash   : Sparse Byte
  poison  : List Nat
  gran    : Sparse Gran
  frames  : Sparse CacheFrame
  nextLoc : Nat
  held    : List Held
  changes : List Change
  revokes : List Revoke
  moves   : List Move
  dirtied : List Nat
  forward : List (Nat × Nat × Nat)
  extVol  : Sparse Nat
  blocks  : Quad (List (Nat × Nat))
  cleanAll : Bool
  chans   : Sparse (Quad Nat)
  deriving DecidableEq, Repr

/-! ## Coherence (chapter 5) -/

/-- The state of a directory entry (Table 5.5). -/
inductive DirStateCode where
  | u | s | m | p
  deriving DecidableEq, Repr

/-- A directory entry (Table 5.5). -/
structure DirEntry where
  state   : DirStateCode
  coarse  : Bool
  cbit    : Bool
  owner   : Nat
  sharers : List Nat
  groups  : BitVec 64
  deriving DecidableEq, Repr

/-- The state of a line at a caching agent (R140). -/
inductive AgentLineState where
  | s | m
  deriving DecidableEq, Repr

structure AgentLine where
  state : AgentLineState
  data  : List Byte
  deriving DecidableEq, Repr

/-- The messages of Table 5.6 that travel on the internal network. -/
inductive CohKind where
  | fwds | fwdm | fwdr | inv | invack | data | compack
  deriving DecidableEq, Repr

/-- A coherence message in flight to agent `agent` (256 the companion, 257 the home). -/
structure CohMsg where
  kind  : CohKind
  agent : Nat
  other : Nat
  line  : Nat
  data  : List Byte
  acks  : Nat
  grant : Option AgentLineState
  sent  : Nat
  deriving DecidableEq, Repr

/-- The transaction that blocks a line (R142): for a caching agent, for an uncached request, or (neither) a recall for
rut. `due` is the count of INVACKs to await once DATA has told it, `got` those that came, `data` the line data that came,
and `probe` that a forward to the owner is still out. -/
structure LineTxn where
  line  : Nat
  agent : Option Nat
  excl  : Bool
  req   : Option Req
  due   : Option Nat
  got   : Nat
  data  : Option (List Byte)
  probe : Bool
  deriving DecidableEq, Repr

/-- An operation of a caching agent on lines that it is still fetching (R145). -/
structure AgentOp where
  agent : Nat
  excl  : Bool
  req   : Req
  deriving DecidableEq, Repr

/-- A request that waits for a blocked line, in order of arrival (R142); `anew` where it is then served as if it came
only then (R152). -/
structure LineWait where
  line  : Nat
  agent : Option Nat
  excl  : Bool
  req   : Option Req
  anew  : Bool
  deriving DecidableEq, Repr

/-- A PUBLISH in service (R131, R132): the reader elements that have not answered, each with the id of its INVALIDATE,
and when those were sent. -/
structure PubRound where
  ext    : Nat
  req    : Req
  left   : List (Nat × Nat)
  sentAt : Nat
  deriving DecidableEq, Repr

/-- A request in rut: who sent it, and the request. `agent` is set where it stands for a GETS or GETM, to be answered
with DATA and no grant (R150). -/
structure RutReq where
  source : Nat
  agent  : Option Nat
  excl   : Bool
  req    : Req
  deriving DecidableEq, Repr

/-- A line in rut (R148–R152); its rut buffer is the line's bytes in the pool (log entry 7). -/
structure RutLine where
  line     : Nat
  slice    : Nat
  loaded   : Bool
  leaving  : Bool
  admitted : List RutReq
  waiting  : List RutReq
  turn     : Nat
  deriving DecidableEq, Repr

/-- `window` is when each slice's counting window began, and `rutSet` the RUT_COUNT, RUT_WINDOW and RUT_EXIT in force in
it (Table 5.8); `dirUse` are the frames of the directory caches, with the line in `gran` (R139); `cycle` is the core cycle. -/
structure Coherence where
  rounds  : List PubRound
  dir     : Sparse DirEntry
  txns    : List LineTxn
  waits   : List LineWait
  msgs    : List CohMsg
  agents  : Sparse AgentLine
  ops     : List AgentOp
  pred    : Sparse Nat
  rut     : List RutLine
  counts  : Sparse Nat
  refused : List Nat
  window  : Quad Nat
  rutSet  : Quad (Nat × Nat × Nat)
  dirUse  : Sparse CacheFrame
  cycle   : Nat
  deriving DecidableEq, Repr

/-! ## Faults and event records (chapter 17) -/

/-- An event record (Table 17.3). -/
structure EventRec where
  time    : Nat
  quality : Nat
  cls     : Nat
  herd    : Nat
  kind    : Nat
  unit    : Nat
  event   : Nat
  code    : Nat
  quad    : Nat
  seq     : Nat
  count   : Nat
  details : List Nat
  deriving DecidableEq, Repr

/-- A record that waits for its device-ring copy, its herd-ring copy, or both (R405). -/
structure LogRec where
  ev      : EventRec
  devDue  : Bool
  herdDue : Bool
  deriving DecidableEq, Repr

/-- Occurrences merged under R407 since the record at `since`. -/
structure MergeRec where
  first : EventRec
  since : Nat
  count : Nat
  deriving DecidableEq, Repr

/-- A frame of the handler stack (R409): class 0–3, or 4 for the basic-entry frame; `ran` is the time it has run as the
top frame before `top`, when it last became the top. -/
structure HandlerFrame where
  cls  : Nat
  kind : Nat
  unit : Nat
  core : Nat
  ran  : Nat
  top  : Nat
  deriving DecidableEq, Repr

/-- What a canary runs for (R416, R420, R421, R424, R403, R467, R488). -/
inductive CanaryWhy where
  | ring | timetable | recover | release | sram | ungate | boot
  deriving DecidableEq, Repr

/-- A canary in progress on a tine (R419): `hot` is the highest reading of the tine's sensor during it, as OD 4410.02
holds it. -/
structure Canary where
  tine    : Nat
  cls     : Nat
  why     : CanaryWhy
  started : Nat
  hot     : Nat
  deriving DecidableEq, Repr

/-- A sampled chunk that a reduce unit holds for dual execution (R425, R426): `tines` are the repeats so far. -/
structure DualHold where
  unit    : Nat
  ctx     : Nat
  step    : Nat
  chunk   : Nat
  tines   : List Nat
  agreed  : List Bool
  started : Nat
  deriving DecidableEq, Repr

/-- An error that the command in service has detected and that R410 still has to handle (R414). -/
structure Raised where
  cls   : Nat
  kind  : Nat
  unit  : Nat
  event : Nat
  quad  : Nat
  deriving DecidableEq, Repr

/-- What chapter 17 keeps beside its entries; `fourDue` are tines that are to run one canary of each class once they are idle. -/
structure Faults where
  raised      : List Raised
  stack       : List HandlerFrame
  contained   : List (Nat × Nat × Nat)
  correctable : List (Nat × Nat × Nat)
  log         : List LogRec
  seqs        : Quad Nat
  merges      : List MergeRec
  recovering  : Bool
  canaries    : List Canary
  turn        : Sparse Nat
  nextCanary  : Nat
  canaryDue   : Nat
  nextTg      : Sparse Nat
  tgDone      : Sparse Nat
  unitsFailed : List Nat
  quadsLost   : List Nat
  stacksLost  : List Nat
  coresFailed : List Nat
  d2dDown     : Sparse Nat
  fourDue     : List (Nat × CanaryWhy)
  chunks      : Quad Nat
  dual        : List DualHold
  deriving DecidableEq, Repr

/-! ## Tines, rings and commands (chapter 6) -/

/-- What a thread waits for (R157). `bar` and `scoreboard` hold the thread before its next instruction. -/
inductive ThreadWait where
  | ready
  | entries (n : Nat)
  | bar
  | vector
  | matrix
  | scoreboard
  | fill (tag : Nat)
  deriving DecidableEq, Repr

/-- A hardware thread (R156, R161). `cid` is the command that holds its place, 0 none; command numbers start at 1. `due` is the
issue count of its tine from which its last instruction holds it back no more (R157). -/
structure Thread where
  live : Bool
  cid  : Nat
  idx  : Nat
  pc   : Nat
  regs : List Nat
  err  : Nat
  wait : ThreadWait
  due  : Nat
  deriving DecidableEq, Repr

/-- A scoreboard entry: the wait record of R163, with where the answer goes. -/
structure SbEntry where
  thread  : Nat
  op      : ReqOp
  herd    : Nat
  dst     : Nat
  addr    : Nat
  tag     : Nat
  psn     : Nat
  time    : Nat
  quality : Nat
  sram    : Nat
  deriving DecidableEq, Repr

/-- One tine. `vec` and `mat` are the threads whose instruction is in the unit, in order of issue (R158); `sr` is the
generator of R190, `issued` when an instruction was last issued or a thread first became ready after none was (R418), `count`
how many have been issued and `turn` the thread that issued last (R157), and `icache` the words of the instruction cache with
their pool addresses, oldest first (Table 6.1). -/
structure Tine where
  threads : Sparse Thread
  sb      : List SbEntry
  nextTag : Nat
  vec     : List Nat
  mat     : List Nat
  sr      : Nat
  issued  : Nat
  count   : Nat
  turn    : Nat
  icache  : List (Nat × Nat)
  deriving DecidableEq, Repr

/-- A page task of a DECODE (R250, R258): the block, the addresses of its key and value sections (none: it names no frame
that the walk may read), the stored formats, the rows attended, the tine and the first KiB of its window once it runs, the
code once it has ended, and its partial. -/
structure PageTask where
  block : Nat
  frame : Nat
  kaddr : Option Nat
  vaddr : Option Nat
  kf    : Nat
  vf    : Nat
  lo    : Nat
  hi    : Nat
  tine  : Option Nat
  base  : Nat
  code  : Option Nat
  part  : List Nat
  deriving DecidableEq, Repr

/-- An access of a unit for a command to an extent whose home is elsewhere or holds it: what came back. -/
structure UnitIo where
  addr  : Nat
  store : Bool
  code  : Option Nat
  data  : List Byte
  deriving DecidableEq, Repr

/-- An addition to a bfloat16 element that its home makes for a request (R237): the key of the access on its way, the address
of the element, the value to add, and the 8 B around it as they were seen last. -/
structure HalfAdd where
  key  : Nat
  addr : Nat
  v    : Nat
  seen : Option Nat
  deriving DecidableEq, Repr

/-- What a command has done so far beside its threads. -/
structure CmdWork where
  phase  : Nat
  since  : Nat
  try_   : Nat
  nums   : List Nat
  tasks  : List PageTask
  io     : List UnitIo
  adds   : List HalfAdd
  deriving DecidableEq, Repr

/-- A command in flight (R171, R173); `scope` counts the command-scope events of Table 18.3. -/
structure Cmd where
  cid      : Nat
  ring     : Nat
  slot     : Nat
  desc     : List Nat
  herd     : Nat
  event    : Nat
  start    : Nat
  startQ   : Nat
  reissued : Nat
  tines    : List Nat
  base     : List Nat
  exits    : List (Nat × Nat)
  code     : Option Nat
  results  : List Nat
  finished : Bool
  ended    : Option (Nat × Nat)
  launched : Bool
  work     : CmdWork
  scope    : List Nat
  deriving DecidableEq, Repr

/-- What a ring keeps beside its entries: the descriptors made eligible up to `pi` at `since`, and those to run again
first (R180). -/
structure RingState where
  pi      : Nat
  since   : Nat
  reissue : List Cmd
  reserved : Nat
  deriving DecidableEq, Repr

/-- A record that waits for an event ring to take it (R175); `cid` is the command that it completes, whose slot in the ring is
reserved, or 0. -/
structure OwedRec where
  ring  : Nat
  cid   : Nat
  bytes : List Byte
  deriving DecidableEq, Repr

structure Compute where
  tines   : Sparse Tine
  sram    : Sparse Byte
  cycles  : Quad Nat
  cmds    : List Cmd
  nextCid : Nat
  rings   : Sparse RingState
  owed    : List OwedRec
  lastTurn : Sparse Nat
  deriving DecidableEq, Repr

/-! ## The switch core, the traffic manager and the ports (chapters 11–13) -/

/-- A frame in the switch core that is to leave on fabric ports (R282, R287, R291): the quadrant and input endpoint where
it stands, the ports it still goes to, its cells, and the cells still to cross to each output endpoint (0 for a frame that
waits there behind an earlier one of its queue); `owes` is set while the port of arrival is owed the credit of its cells,
`express` while it stands in the landing store of its input endpoint (R283), and `answers` is the request of a port that a
response completes (R284). -/
structure SwFrame where
  id       : Nat
  quad     : Nat
  inEnd    : Nat
  ports    : List PortId
  cls      : Nat
  herd     : Nat
  cells    : Nat
  left     : List (Nat × Nat)
  source   : Nat
  body     : FrameBody
  ingress  : Option PortId
  owes     : Bool
  express  : Bool
  answers  : Option Req
  deriving DecidableEq, Repr

/-- A frame in a transmit queue (R304, R305). `tag` is its finish tag once it is the head. -/
structure TxFrame where
  id      : Nat
  queue   : Nat
  port    : PortId
  cells   : Nat
  bytes   : Nat
  source  : Nat
  spilled : Bool
  entered : Nat
  tag     : Option Nat
  ingress : Option PortId
  body    : FrameBody
  answers : Option Req
  deriving DecidableEq, Repr

/-- Why a credit is held (R296): the port and class it is owed to, and the cells. -/
structure HeldCredit where
  port  : PortId
  cls   : Nat
  cells : Nat
  deriving DecidableEq, Repr

/-- A match under way in a quadrant (R287): the slot it is for, the iterations done, the cells offered to its matcher, and those
accepted, each as input, output and frame. -/
structure MatchRun where
  quad   : Nat
  slot   : Nat
  turns  : Nat
  offers : List (Nat × Nat × Nat)
  pairs  : List (Nat × Nat × Nat)
  deriving DecidableEq, Repr

/-- The switch core: the frames in the packet buffers, the matchers and the matches under way, the transmit queues, the credits held, the use of the
buffers, and `residues`, the herd of each assigned slot residue, 0 for none (R289). -/
structure Switch where
  voq     : List SwFrame
  nextId  : Nat
  slot    : Quad Nat
  grant   : Sparse Nat
  accept  : Sparse Nat
  rrClass : Sparse Nat
  tx      : List TxFrame
  heldCr  : List HeldCredit
  herdUse : Sparse Nat
  respUse : Quad Nat
  poolUse : Quad Nat
  residues : List Nat
  runs     : List MatchRun
  deriving DecidableEq, Repr

/-- The gate list of a port as it runs (R309, R310): first entry of the segment, the instant from which its intervals count, the
ns from there to the entry in force, and whether that entry is still to begin. -/
structure GateRun where
  seg   : Nat
  began : Nat
  off   : Nat
  waits : Bool
  deriving DecidableEq, Repr

/-- The traffic manager: virtual time per port and finish tag per queue (R305), shaper credit in 1/25600 B with the time
of its last update and the end of the sending in progress (R306), gates, token buckets in bits × 1600 (R316), the
sampling instants taken, each its place in 1/1024 ns and 1 more (R318), the end and class of the sending in progress, and the
sampling period in force until the instant beside it (R319). -/
structure TrafficMgr where
  vtime   : Sparse Nat
  ftag    : Sparse Nat
  credit  : Sparse (Int × Nat × Nat)
  gates   : Sparse GateRun
  bucket  : Sparse (Nat × Nat)
  sampled : Sparse Nat
  sending : Sparse (Nat × Nat)
  periods : Nat × Nat
  deriving DecidableEq, Repr

/-- Training of a port (R327): the stage running (0 none), a fast retrain or full, when the stage began, and when it is
to try again. -/
structure Training where
  stage : Nat
  fast  : Bool
  since : Nat
  width : Nat
  retry : Option Nat
  deriving DecidableEq, Repr

/-- A dynamic-capacity region of a CXL device (R325): first granule number and granules. -/
structure DcRegion where
  port  : PortId
  first : Nat
  count : Nat
  deriving DecidableEq, Repr

/-- What the A9 knows of a link of the pod (R337): its latest accepted DETECTED, whether that record was down, the SWITCH
of an up record not yet reached, and who reported. -/
structure LinkKnown where
  detected : Nat
  down     : Bool
  upAt     : Option Nat
  by_      : Nat
  deriving DecidableEq, Repr

/-- A hold of new requests toward a destination A9 (R338, R339). -/
structure RouteHold where
  dest   : Nat
  until_ : Nat
  drain  : Bool
  deriving DecidableEq, Repr

structure Ports where
  train     : Sparse Training
  failed    : List Nat
  decayed   : Sparse Nat
  penaltyQ  : Sparse Nat
  laneAt    : Sparse Nat
  regions   : List DcRegion
  downSet   : List Nat
  known     : Sparse LinkKnown
  lastSeq   : Sparse Nat
  ownSeq    : Nat
  holds     : List RouteHold
  windows   : List (Nat × Nat × Nat)
  board     : List LinkRecord
  deriving DecidableEq, Repr

/-! ## The match engine (chapter 10) -/

/-- The entries that hold an uncorrectable error not yet read (R279). -/
structure MatchEngine where
  bad : List Nat
  deriving DecidableEq, Repr

/-! ## Collectives (chapter 8) -/

/-- How far a chunk has come: gathering; combined and held for dual execution (R425); sent to the parent and not yet
acknowledged (R216); done. -/
inductive ChunkPhase where
  | gather | held | sent | done
  deriving DecidableEq, Repr

/-- A chunk of an open step (R215): the accumulator as binary32 patterns, the contributions summed, the members and the
children that have given theirs. The slot is free again in phase `done`. -/
structure CollChunk where
  chunk   : Nat
  phase   : ChunkPhase
  acc     : List Nat
  count   : Nat
  members : List Nat
  kids    : List Nat
  deriving DecidableEq, Repr

/-- A party of an aggregation group in an open step (R230): the member entry, its chunks staged, the sum of squares in
binary64, and whether it held a NaN or an infinity. -/
structure Party where
  entry  : Nat
  chunks : List Nat
  ss     : Nat
  bad    : Bool
  deriving DecidableEq, Repr

/-- The constants that the root computes at the open of a step (R224), as binary32 patterns. -/
structure StepConsts where
  t      : Nat
  lr     : Nat
  wdecay : Nat
  gscale : Nat
  a1     : Nat
  a2     : Nat
  c1     : Nat
  c2     : Nat
  size   : Nat
  decay  : Nat
  deriving DecidableEq, Repr

/-- An open step (R215). `first` is the first accepted arrival as elapsed time, fabric time and quality; `fired` the same
for its trigger (R217); `noParty` are children that sent COUNT 0; `done` are the chunks finished, `unacked` the RESULT copies
that gave no answer (R222), and `summed` the chunks whose local sum an aggregation group has taken (R230);
`sumsq` is W6 of Table 8.7; `poison` marks R226. -/
structure CollStep where
  step    : Nat
  first   : Option (Nat × Nat × Nat)
  fired   : Option (Nat × Nat × Nat)
  chunks  : List CollChunk
  parties : List Party
  noParty : List Nat
  done    : Nat
  sumsq   : Nat
  unacked : Nat
  summed  : Nat
  poison  : Bool
  consts  : Option StepConsts
  deriving DecidableEq, Repr

/-- A running context: its open steps, the children that have sent PARTIAL (R213), and the endpoints that gave no answer in a
step, one event each (R222). -/
structure CollCtx where
  steps : List CollStep
  kids  : List Nat
  deaf  : List (Nat × Nat)
  deriving DecidableEq, Repr

/-- Collectives: contexts by number, the contributions that wait (R213) as ids of outstanding requests, the generate
requests of each quadrant's DRBG since its reseed (R232), and the quadrants whose entropy source has failed. -/
structure Collectives where
  ctxs    : Sparse CollCtx
  waiting : List Nat
  drbg    : Quad Nat
  noEntropy : Quad Bool
  deriving DecidableEq, Repr

/-! ## Flash (chapter 14) -/

/-- A block of a die (R349, R354, R355): `state` is 0 free, 1 open, 2 full, 3 retired; `used` the chunks programmed since its
last erase, `prog` the fabric time of the first of them. -/
structure NandBlock where
  state  : Nat
  erases : Nat
  reads  : Nat
  used   : Nat
  prog   : Nat
  deriving DecidableEq, Repr

/-- What a flash operation is for: the fill of a chunk of an extent, a copy of the chunk `key` from one place to another
(R353), an erase, or a patrol read (R355). -/
inductive NandWork where
  | read (e g c : Nat)
  | copy (key src dst : Nat)
  | erase
  | patrol
  deriving DecidableEq, Repr

/-- A piece of work of the translation layer: `left` are the page operations of its phase that have not ended, `progs` is set
while it programs, `level` the read-retry level (R356). -/
structure NandJob where
  id    : Nat
  work  : NandWork
  progs : Bool
  left  : Nat
  deriving DecidableEq, Repr

/-- A shelf operation (Table 14.2), sent or waiting for its turn on its die (R344). -/
structure ShelfOp where
  block  : Nat
  op     : Nat
  retry  : Nat
  page   : Nat
  job    : Nat
  tag    : Option Nat
  sent   : Nat
  again  : Bool
  deriving DecidableEq, Repr

/-- The translation layer. A block is named by ((port × 4096 + channel × 64 + die) × 2^20 + block), a place of a chunk by
block × 1024 + place. `map` holds the place of each mapped chunk, plus one, by volume slot × 2^32 + chunk; `lost` the
chunks whose data is lost; `opens` the blocks to open next; `since` the chunk writes since the last checkpoint; `seq` the
write sequence; `reclaim` blocks to erase once nothing in them is valid or being read; `dead` the failed dies; `kcv` the key check
value of a sealed herd's volume (R390); `geo` the accepted shelves. -/
structure Nand where
  geo     : Sparse ShelfGeometry
  blocks  : Sparse NandBlock
  map     : Sparse Nat
  lost    : List Nat
  ops     : List ShelfOp
  jobs    : List NandJob
  nextJob : Nat
  openAt  : Option Nat
  opens   : List Nat
  since   : Nat
  seq     : Nat
  reclaim : List Nat
  dead    : List Nat
  kcv     : Sparse Nat
  deriving DecidableEq, Repr

/-! ## Ownership of page lists (chapter 9) -/

/-- An ownership record (Table 9.7) of the page list at an address of an extent. -/
structure OwnRec where
  ext   : Nat
  list  : Nat
  state : Nat
  owner : Nat
  succ  : Nat
  epoch : Nat
  prep  : Nat
  deriving DecidableEq, Repr

/-! ## Identity, firmware and keys (chapter 16) -/

/-- A firmware slot of the boot flash (R378, R381, R382): `mark` is 0 empty, 1 committed, 2 trial-pending, 3 trial-running,
4 trial-failed, 5 committed-fuse-pending; the rest is what the image in it holds. -/
structure FwSlot where
  mark    : Nat
  valid   : Bool
  version : Nat
  svn     : Nat
  measure : Nat
  deriving DecidableEq, Repr

/-- What an attestation element holds beside its entries: the nonce, when a report's building began, and its body. -/
structure Attest where
  since : Option Nat
  body  : List Nat
  deriving DecidableEq, Repr

/-- Lifecycle fuses blown, rollback fuses blown, whether a certificate is stored; the always-on key store by herd (each key
plus one) and the quadrants whose working key store is zeroized (Table 16.5); link keys by port, plus one, with the counters
of R394 sent and the keys in force; the buffer key's number; the slots, the one running, an install in progress, when velvet began, a fuse
being blown; measurements M1 to M3; the attestation elements; a ledger record that waits for D3 to end (R399). -/
structure Security where
  life     : Nat
  fuses    : Nat
  cert     : Bool
  keys     : Sparse Nat
  noWork   : Quad Bool
  linkKeys : Sparse Nat
  linkTx   : Sparse Nat
  bufKey   : Nat
  slotA    : FwSlot
  slotB    : FwSlot
  running  : Nat
  install  : Option StagedImage
  velvet   : Option Nat
  fusing   : Bool
  m1       : Nat
  m2       : Nat
  m3       : Nat
  attJ     : Attest
  attB     : Attest
  attF     : Attest
  ledgerDue : Bool
  deriving DecidableEq, Repr

/-! ## Management (chapter 15) -/

/-- Who is to be answered about an access: the path itself, a mailbox slot, an MCTP message, or an F-path request. -/
inductive Asker where
  | direct
  | slot (i : Nat)
  | mctp
  | frame (req : Nat)
  deriving DecidableEq, Repr

/-- What an access is beside a read or a write of bytes: an INSTALL whose image the command names, or the write by which the
vendor test range provisions a blank device (R396). -/
inductive AccessWhat where
  | plain
  | install (img : StagedImage)
  | provision
  deriving DecidableEq, Repr

/-- An access to the object dictionary (R364, R369): `space` is the room for a read's value. -/
structure Access where
  write : Bool
  path  : OdPath
  addr  : OdAddr
  value : List Byte
  space : Nat
  tag   : Nat
  asker : Asker
  what  : AccessWhat
  deriving DecidableEq, Repr

/-- A copy of the configuration area (R363): its sequence number, whether its CRC-32C verifies, and the N entries that do
not hold their default, by OD key. -/
structure ConfCopy where
  seq   : Nat
  valid : Bool
  vals  : Sparse Nat
  deriving DecidableEq, Repr

/-- The queues of paths J and B (Table 15.6): the first of each waits for the boot flash (R363), which programs that of path
`conf`. The request and response slots of the mailbox, RESP_READY (R484), and the configuration area. -/
structure Mgmt where
  queueJ : List Access
  queueB : List Access
  conf   : Option OdPath
  reqs   : Sparse (List Byte)
  slots  : Sparse (List Byte)
  ready  : Nat
  copy0  : ConfCopy
  copy1  : ConfCopy
  deriving DecidableEq, Repr

/-! ## Power, clocks, heat and pins (chapters 19, 20) -/

/-- The power governor and the always-on domain. `request` is the last REQUEST accepted; `trans` a transition that is
running, as its target and its start; `kept` the STATE of tines that are switched off; `actions` the governor's steps in
force, newest first, as a quadrant with the point it was allowed before, or 4 for a RATE step (R455), `govCap` the point that it
allows each quadrant, `acting` whether it throttles now, with the time of the last step; `below` since when power has been low;
`thermal` and `spreadCap` the points that heat and a difference allow each quadrant (R461, R462), 8 where they ask nothing, with
the times of their last steps; `hot105` and `apart30` the quadrants where no tine work launches (Table 19.6, R461); `alert` THERM_ALERT_N; `tooHot` since when a junction has been at
112 °C; `hbms` the thermal action on each HBM stack; `refLost` the references lost: 0 system, 1 holdover, 2 + q
SerDes; `stepping` a step between points in progress, as its target. -/
structure Power where
  request  : Nat
  trans    : Option (Nat × Nat)
  kept     : Sparse Nat
  actions  : List (Nat × Nat)
  govCap   : Quad Nat
  acting   : Bool
  acted    : Nat
  below    : Option Nat
  thermal  : Quad Nat
  heated   : Quad Nat
  hot105   : Quad Bool
  apart30  : Quad Bool
  spreadCap : Quad Nat
  spread   : Quad Nat
  alert    : Bool
  tooHot   : Quad (Option Nat)
  hbms   : Sparse Nat
  refLost  : List Nat
  stepping : Quad (Option Nat)
  deriving DecidableEq, Repr

/-- The control inputs (Table 20.5), 0 PFW_N, 1 STOT_N, 2 FT_PPS and 3 RESET_N: `edges` are the times of recent assertions, oldest
first; `held` the inputs that count as asserted under their rate limit; `since` when the level last changed, or for FT_PPS the last
accepted edge; `inReset` that the device is in reset, `low` that RESET_N or VDD_AON holds it there, and `cause` RESET_CAUSE at its
end; `recovery` that the ROM holds the device, with BOOT_FAIL_N asserted and `xsHiZ`; `bootAt` when the boot began. -/
structure Pins where
  edges    : Sparse (List Nat)
  held     : List Nat
  since    : Sparse Nat
  inReset  : Bool
  low      : Bool
  cause    : Nat
  recovery : Bool
  bootAt   : Nat
  xsHiZ    : Bool
  deriving DecidableEq, Repr

/-! ## Counters, trace, stot and the wait-for graph (chapter 18) -/

/-- What a counter profile keeps beside its entries (R435, R437): the command that holds it, the ring and SEQ of the
command its command-scope values belong to, whether that has completed, and their final values. -/
structure Profile where
  holder : Option Nat
  ring   : Nat
  seq    : Nat
  bound  : Bool
  ended  : Bool
  vals   : List Nat
  deriving DecidableEq, Repr

/-- A wait-for graph (R451–R453): node records as N0 and N1, edges as node indexes, cycles as lists of node indexes, and
what the header was built from. -/
structure WaitGraph where
  nodes  : List (Nat × Nat)
  edges  : List (Nat × Nat)
  cycles : List (List Nat)
  header : Nat
  deriving DecidableEq, Repr

/-- Trace records by quarter × 2^40 + place (each one the number of its 32 B); the bytes a quadrant's bucket lacks, with
the time of that; drops pending and the time of the first (R443); profiles, and the
commands, as ring and SLOT, counted as waiting for one (R435); the dump's place number; a stot event that
waits for the flush (R450), as its CAUSE; what the hang watchdog saw waiting, as (what, signature, since) (R449); the
graph and the build in progress (R451). -/
structure Debug where
  trace    : Sparse Nat
  bucket   : Quad (Nat × Nat)
  lossN    : Quad Nat
  lossAt   : Quad Nat
  profs    : Sparse Profile
  profWait : List (Nat × Nat)
  dump     : Nat
  stotDue  : Option Nat
  stotUp   : Nat
  hang     : List (Nat × Nat × Nat)
  building : Option Nat
  buildDump : Bool
  graph    : WaitGraph
  lastBuild : Nat
  deriving DecidableEq, Repr

/-! ## What leaves the package -/

/-- What the block has sent out, in order (log entry 4): an observation field that no command reads. A frame has the envelope
and the trailer of Table 3.1; its NAK bit is 0, and `nak` is an envelope in which it is 1. -/
inductive OutItem where
  | nak (p : PortId) (ackseq : Nat)
  | credits (p : PortId) (perClass : Nat)
  | timex (p : PortId) (kind : Nat) (f : TimexFrame)
  | frame (p : PortId) (env : LinkEnv) (flen crc : Nat) (body : FrameBody)
  | jiyth (r : RespMsg)
  | jiythReq (body : FrameBody)
  | linkRecord (dest : Nat) (words : List Nat)
  | odAnswer (path : OdPath) (a : OdAddr) (abort : Nat) (value : List Byte)
  | mctp (body : List Byte)
  | mctpControl (cmd code : Nat) (data : List Nat)
  | shelf (p : Nat) (d0 d1 : Nat)
  | jtag (op : JtagOp) (value : List Byte)
  deriving DecidableEq, Repr

/-- The state of the block. -/
structure State where
  pending : List Instr
  outbox  : List OutItem
  up      : Nat
  freeN   : Nat
  od      : Sparse Nat
  tr      : Transport
  time    : TimeState
  pool    : Pool
  coh     : Coherence
  flt     : Faults
  cpu     : Compute
  sw      : Switch
  tm      : TrafficMgr
  ports   : Ports
  mt      : MatchEngine
  co      : Collectives
  own     : List OwnRec
  nand    : Nand
  sec     : Security
  mg      : Mgmt
  pwr     : Power
  pins    : Pins
  dbg     : Debug
  deriving DecidableEq, Repr


/-! ## Stops -/

/-- What stops the block with a fault. -/
inductive Fault where
  /-- Raised by MAILBOX_DOORBELL: the doorbell word names no slot of the mailbox window (R370 gives 64 slots and no
  effect of a larger number). Safe. -/
  | noSuchMailboxSlot
  deriving DecidableEq, Repr

/-- What the model has no meaning for. -/
inductive Refusal where
  /-- Raised by the dispatch for a command that has no meaning in the model. Safe. -/
  | notModelled (mnemonic : String)
  deriving DecidableEq, Repr

/-! ## Reset -/

/-- The nominal increment of R50 in units of 2^-40: 2^32 / 1.6e9, rounded down. -/
def nominalInc : Nat := 2951479051793

def quadAll {α : Type} (x : α) : Quad α := ⟨x, x, x, x⟩

def Transport.reset : Transport := ⟨[], 0, [], [], [], [], [], [], [], [], []⟩

def TimeState.reset : TimeState :=
  { span := 0, left := 0, ctr := quadAll 0, inc := quadAll nominalInc, apart := quadAll false, stepAllowed := false, rejects := 0,
    locks := 0, incs := [], lastSample := 0, holdover := none, todHeld := none, ppsLast := none, tickExch := 0,
    staleTrig := [], fired := [], journal := [], journalAt := 0, hotCycle := quadAll false }

def Pool.reset : Pool := ⟨[], [], [], [], [], [], 0, [], [], [], [], [], [], [], quadAll [], false, []⟩

def Coherence.reset : Coherence :=
  ⟨[], [], [], [], [], [], [], [], [], [], [], quadAll 0, quadAll (64, 1000, 16), [], 0⟩

def Faults.reset : Faults :=
  { raised := [], stack := [], contained := [], correctable := [], log := [], seqs := quadAll 0, merges := [], recovering := false,
    canaries := [], turn := [], nextCanary := 0, canaryDue := 0, nextTg := [], tgDone := [], unitsFailed := [], quadsLost := [],
    stacksLost := [], coresFailed := [], d2dDown := [], fourDue := [], chunks := quadAll 0, dual := [] }

def Compute.reset : Compute := ⟨[], [], quadAll 0, [], 1, [], [], []⟩

def Switch.reset : Switch := ⟨[], 0, quadAll 0, [], [], [], [], [], [], quadAll 0, quadAll 0, [], []⟩

def TrafficMgr.reset : TrafficMgr := ⟨[], [], [], [], [], [], [], (1000, 0)⟩

def Ports.reset : Ports := ⟨[], [], [], [], [], [], [], [], [], 0, [], [], []⟩

def Nand.reset : Nand := ⟨[], [], [], [], [], [], 0, none, [], 0, 0, [], [], []⟩

def slotEmpty : FwSlot := ⟨0, false, 0, 0, 0⟩

/-- The image that a device is shipped with, in slot A (log entry 8): its version, security version and measurement. -/
def slotShipped : FwSlot :=
  ⟨1, true, Config.device 0x1000 8 0, Config.device 0x4110 1 0, Config.device 0x4110 1 1⟩

def Security.reset : Security :=
  { life := 2, fuses := 0, cert := true, keys := [], noWork := quadAll false, linkKeys := [], linkTx := [], bufKey := 0,
    slotA := slotShipped, slotB := slotEmpty, running := 0, install := none, velvet := none, fusing := false, m1 := 0, m2 := 0,
    m3 := 0, attJ := ⟨none, []⟩, attB := ⟨none, []⟩, attF := ⟨none, []⟩, ledgerDue := false }

def Mgmt.reset : Mgmt := ⟨[], [], none, [], [], 0, ⟨0, true, []⟩, ⟨0, true, []⟩⟩

def Power.reset : Power :=
  { request := 0, trans := none, kept := [], actions := [], govCap := quadAll 8, acting := false, acted := 0, below := none, thermal := quadAll 8,
    heated := quadAll 0, hot105 := quadAll false, apart30 := quadAll false, spreadCap := quadAll 8, spread := quadAll 0, alert := false, tooHot := quadAll none, hbms := [], refLost := [],
    stepping := quadAll none }

def Pins.reset : Pins := ⟨[], [], [], false, false, 0, false, 0, false⟩

def Debug.reset : Debug :=
  { trace := [], bucket := quadAll (0, 0), lossN := quadAll 0, lossAt := quadAll 0, profs := [], profWait := [], dump := 0, stotDue := none,
    stotUp := 0, hang := [], building := none, buildDump := false, graph := ⟨[], [], [], 0⟩, lastBuild := 0 }

/-- The block with RESET_N just released (R51, R487): every entry of the object dictionary at its default. -/
def State.reset : State :=
  { pending := [], outbox := [], up := 0, freeN := 0, od := [], tr := Transport.reset, time := TimeState.reset,
    pool := Pool.reset, coh := Coherence.reset, flt := Faults.reset, cpu := Compute.reset, sw := Switch.reset,
    tm := TrafficMgr.reset, ports := Ports.reset, mt := ⟨[]⟩, co := ⟨[], [], quadAll 0, quadAll false⟩, own := [], nand := Nand.reset, sec := Security.reset, mg := Mgmt.reset,
    pwr := Power.reset, pins := Pins.reset, dbg := Debug.reset }

end Sys2Proof.Machine
end

