-- ==== Sys2Proof/Machine/Ops.lean ====
section
/-! DEFINITION. The named operations over the state: tables with a default, the values of the object dictionary, time,
and bytes of the pool. -/

namespace Sys2Proof.Machine

/-! ## Tables with a default -/

/-- The value at a key; a key that is not listed holds the default `d`. -/
def sparseGet {α : Type} (d : α) : Sparse α → Nat → α
  | [], _ => d
  | (k, v) :: m, x => if x = k then v else if x < k then d else sparseGet d m x

/-- Write a value; writing the default removes the entry. -/
def sparseSet {α : Type} [DecidableEq α] (d : α) : Sparse α → Nat → α → Sparse α
  | [], x, v => if v = d then [] else [(x, v)]
  | (k, w) :: m, x, v =>
    if x < k then (if v = d then (k, w) :: m else (x, v) :: (k, w) :: m)
    else if x = k then (if v = d then m else (x, v) :: m)
    else (k, w) :: sparseSet d m x v

/-- Drop every entry with a key from `lo` up to, not including, `hi`: these keys then hold the default. -/
def sparseDrop {α : Type} (m : Sparse α) (lo hi : Nat) : Sparse α :=
  m.filter (fun kv => decide (kv.1 < lo ∨ hi ≤ kv.1))

/-- The entries with a key from `lo` up to, not including, `hi`. -/
def sparseSlice {α : Type} (m : Sparse α) (lo hi : Nat) : Sparse α :=
  m.filter (fun kv => decide (lo ≤ kv.1 ∧ kv.1 < hi))

/-- Make the `n` keys from `dst` hold what the `n` keys from `src` of `from_` hold. -/
def sparseCopy {α : Type} [DecidableEq α] (d : α) (from_ m : Sparse α) (src dst n : Nat) : Sparse α :=
  (sparseSlice from_ src (src + n)).foldl (fun acc kv => sparseSet d acc (kv.1 - src + dst) kv.2)
    (sparseDrop m dst (dst + n))

/-- The canonical form of a table whose default may depend on the key: keys strictly rising, no entry at its default. -/
abbrev sparseWf {α : Type} (d : Nat → α) (m : Sparse α) : Prop :=
  m.Pairwise (fun a b => a.1 < b.1) ∧ ∀ kv ∈ m, kv.2 ≠ d kv.1

/-- The canonical form of a memory of bytes, in which an unlisted byte reads 0. -/
abbrev Memory.wf (m : Sparse Byte) : Prop := sparseWf (fun _ => 0) m

/-! ## One value per quadrant -/

def quadGet {α : Type} (x : Quad α) (q : Nat) : α :=
  if q = 0 then x.q0 else if q = 1 then x.q1 else if q = 2 then x.q2 else x.q3

def quadSet {α : Type} (x : Quad α) (q : Nat) (v : α) : Quad α :=
  if q = 0 then { x with q0 := v } else if q = 1 then { x with q1 := v }
  else if q = 2 then { x with q2 := v } else { x with q3 := v }

def quadMap {α β : Type} (f : α → β) (x : Quad α) : Quad β := ⟨f x.q0, f x.q1, f x.q2, f x.q3⟩

/-! ## The object dictionary -/

/-- The reset value of DIDT of rail r (Table 19.5). -/
def didtDefault (r : Nat) : Nat :=
  if r ≤ 3 then 150 else if r ≤ 7 then 60 else if r = 8 then 40 else if r = 9 then 30
  else if r = 10 then 60 else if r = 11 then 20 else 5

/-- YZ-A9-512H8, and -ES behind it, in ASCII from the least significant byte (R1). -/
def partNumber : Nat := 0x38483231352d39412d5a59
def sampleSuffix : Nat := 0x53452d * 2 ^ 88

/-- The value that an element of an entry holds after RESET_N (R358): the Default column, with the elements that have a
default of their own (R31, R66, R299, Table 19.5) and the constants of the device. -/
def odDefaultAt (index sub elem : Nat) : Nat :=
  if index = 0x2400 ∧ elem ≤ 2047 ∧ sub ≤ 4 then
    (if sub = 1 then 1 else if sub = 2 then 0 else if sub = 3 then elem / 8 else elem % 8)
  else if index = 0x2020 ∧ elem = 0 ∧ sub = 1 then 0
  else if index = 0x4C10 ∧ sub = 1 then didtDefault elem
  else if index = 0x2800 ∧ elem = 0 ∧ sub = 1 then 2
  else if index = 0x1000 ∧ sub = 3 then (if Config.device 0x1000 3 0 % 2 = 0 then partNumber else partNumber + sampleSuffix)
  else if index = 0x1000 ∧ (sub = 4 ∨ sub = 5 ∨ sub = 6 ∨ sub = 8 ∨ sub = 9) then Config.device index sub elem
  else if index = 0x4100 ∧ sub = 5 then Config.device index sub elem
  else if index = 0x4104 ∨ index = 0x410C then Config.device index sub elem
  else odTableDefault (index * 256 + sub)

/-- The default of the value at a key of `State.od`. -/
def odDefault (k : Nat) : Nat := odDefaultAt (k / 256 % 65536) (k % 256) (k / 16777216)

/-- The value that an element of an entry holds. -/
def odGet (od : Sparse Nat) (e : Ent) (n : Nat) : Nat := sparseGet (odDefault (odKey e n)) od (odKey e n)

/-- Make an element of an entry hold a value. -/
def odSet (od : Sparse Nat) (e : Ent) (n v : Nat) : Sparse Nat :=
  sparseSet (odDefault (odKey e n)) od (odKey e n) v

/-- The elements of an entry that do not hold their default, with their values, by rising element. -/
def odListed (od : Sparse Nat) (e : Ent) : List (Nat × Nat) :=
  (od.filter (fun kv => kv.1 % 16777216 == odKey e 0)).map (fun kv => (kv.1 / 16777216, kv.2))

/-- The value of an entry in a state. -/
def State.rd (s : State) (e : Ent) (n : Nat) : Nat := odGet s.od e n

/-- The state with an entry at a value. -/
def State.wr (s : State) (e : Ent) (n v : Nat) : State := { s with od := odSet s.od e n v }

/-- Count up an entry of `w` bits, saturating. -/
def State.bump (s : State) (e : Ent) (n w k : Nat) : State := s.wr e n (satAdd w (s.rd e n) k)

/-- Count up one of the counters of OD 4800 (chapter 18). -/
def State.count (s : State) (i k : Nat) : State := s.bump od4800_COUNTER i 64 k

/-- Add to the outbox. -/
def State.send (s : State) (o : OutItem) : State := { s with outbox := s.outbox ++ [o] }

/-- Take the next free value's place number. -/
def State.fresh (s : State) : State := { s with freeN := s.freeN + 1 }

/-! ## Time -/

/-- The fabric time that has passed, in 2^-72 s, without the steps of the counters (R15, log entry 5). -/
def State.clk (s : State) : Nat := s.time.span

/-- At least `ns` nanoseconds of fabric time have passed since `t0` (R15). -/
def State.past (s : State) (t0 ns : Nat) : Bool := decide (ns * 2 ^ 72 ≤ (s.clk - t0) * 1000000000)

/-- Whole nanoseconds of fabric time since `t0`. -/
def State.nsSince (s : State) (t0 : Nat) : Nat := (s.clk - t0) * 1000000000 / 2 ^ 72

/-- So many nanoseconds as `State.clk` counts, rounded up. -/
def nsClk (ns : Nat) : Nat := (ns * 2 ^ 72 + 999999999) / 1000000000

/-- The fabric time of a quadrant, in units of 2^-32 s (R48, R50). -/
def State.ft (s : State) (q : Nat) : Nat := quadGet s.time.ctr q / 2 ^ 40

/-- The quality of a quadrant's timestamps (R49, R58). -/
def State.qual (s : State) (q : Nat) : Nat :=
  if quadGet s.time.apart q then 2 else s.rd od2000_QUALITY 0

/-- Nanoseconds of fabric time as units of 2^-32 s. -/
def nsToFt (ns : Nat) : Nat := ns * 4294967296 / 1000000000

/-- Units of 2^-32 s as whole nanoseconds. -/
def ftToNs (t : Nat) : Nat := t * 1000000000 / 4294967296

/-! ## Herds, ports and units -/

def State.herdState (s : State) (n : Nat) : Nat := s.rd od2800_STATE n
def State.herdActive (s : State) (n : Nat) : Bool := s.herdState n == 2

/-- What is configured for a herd is in force for traffic: from ACTIVE on (R33). -/
def State.inForce (s : State) (n : Nat) : Bool := s.herdState n == 2 || s.herdState n == 3

def State.sealedHerd (s : State) (n : Nat) : Bool := s.rd od2800_LEVEL n == 2
def State.openHerd (s : State) (n : Nat) : Bool := s.rd od2800_LEVEL n == 0
def State.timeGated (s : State) (n : Nat) : Bool := s.sealedHerd n && s.rd od2800_TIME_GATED n == 1

/-- The herd to which a slot or core cycle is assigned, 0 for none, and whether a herd has residues of its own (R147, R289). -/
def State.residueHerd (s : State) (n : Nat) : Nat := s.sw.residues.getD (n % 16) 0
def State.hasResidue (s : State) (h : Nat) : Bool := h != 0 && s.sw.residues.contains h

/-- The work of a herd may start in a slot or core cycle. -/
def State.residueTakes (s : State) (n h : Nat) : Bool := s.residueHerd n == (if s.hasResidue h then h else 0)

/-- The herds that are ACTIVE, herd 0x000 apart. -/
def State.activeHerds (s : State) : List Nat :=
  ((odListed s.od od2800_STATE).filter (fun kv => kv.2 == 2 && kv.1 != 0)).map (·.1)

/-- No herd other than 0x000 is ACTIVE: the idle condition of several entries. -/
def State.noHerdActive (s : State) : Bool := s.activeHerds.isEmpty

/-- The octet, quadrant and crossbar endpoint of a port (R285, R320). -/
def portOctet (p : Nat) : Nat := p / 4
def portQuad (p : Nat) : Nat := portOctet p % 4
def portEnd (p : Nat) : Nat := portOctet p / 4

/-- The home slice that an endpoint ID names (Table 15.11). -/
def State.homeSlice (s : State) (ep : Nat) : Option Nat :=
  let b := s.rd od1100_UNIT_BASE 0
  if b ≠ 0xFFFF ∧ b ≤ ep ∧ ep ≤ b + 3 then some (ep - b) else none

/-- Nothing that an isolation hold or basic mode stops: OD 4400.02. -/
def State.mode (s : State) : Nat := s.rd od4400_MODE 0

/-- Every unit outside the always-on domain and the management cores is still: a stop (R447), P3 or P4 (R469), or
RESET_N. -/
def State.halted (s : State) : Bool :=
  s.rd od48A0_STATE 0 != 0 || decide (3 ≤ s.rd od4C00_STATE 0) || s.pins.inReset

/-! ## Trace (R440–R444) -/

/-- What a trace record is built from (Tables 18.6 and 18.7): TYPE, HERD, KIND and UNIT, TDATA, W2, W3, and for FRAME and
HOME the opcode. -/
structure TraceEvent where
  type_ : Nat
  herd  : Nat
  kind  : Nat
  unit  : Nat
  tdata : Nat
  w2    : Nat
  w3    : Nat
  opc   : Option Nat

/-- A filter that is on takes an event (R441). -/
def State.filterTakes (s : State) (f : Nat) (t : TraceEvent) : Bool :=
  bitAt (s.rd od4890_TYPES f) (t.type_ - 1) &&
  (s.rd od4890_HERD f == 0xFFF || s.rd od4890_HERD f == t.herd) &&
  (s.rd od4890_UNIT f == 0xFFFF || s.rd od4890_UNIT f == t.unit % 4096) &&
  (match t.opc with | some o => bitAt (s.rd od4890_OPCS f) o | none => true)

/-- The filters that are on and take an event; none for an event of a sealed herd. -/
def State.filtersFor (s : State) (t : TraceEvent) : List Nat :=
  if s.rd od4880_STATE 0 ≠ 1 ∨ s.sealedHerd t.herd then []
  else ((odListed s.od od4890_STATE).map (·.1)).filter (fun f => s.filterTakes f t)

def odWriteOffset (q : Nat) : Ent := ⟨0x4880, 6 + q % 4⟩

/-- Bytes of a quarter of the trace region. -/
def State.quarterBytes (s : State) : Nat := s.rd od4880_TRACE_SIZE 0 * 268435456

/-- Put a record into a quadrant's quarter (R444). -/
def State.tracePut (s : State) (q rec_ : Nat) : State :=
  let off := s.rd (odWriteOffset q) 0
  if s.rd od4880_STATE 0 ≠ 1 then s.count 0x7C2 1
  else if s.quarterBytes < off + 32 then (s.wr od4880_STATE 0 2).count 0x7C2 1
  else
    let s1 := { s with dbg := { s.dbg with trace := sparseSet 0 s.dbg.trace (q * 2 ^ 40 + off / 32) rec_ } }
    let next := if s.rd od4880_MODE 0 = 0 ∧ off + 32 = s.quarterBytes then 0 else off + 32
    (s1.wr (odWriteOffset q) 0 next).count 0x7C1 1

def traceWords (w0 w1 w2 w3 : Nat) : Nat :=
  w0 % 2 ^ 64 + w1 % 2 ^ 64 * 2 ^ 64 + w2 % 2 ^ 64 * 2 ^ 128 + w3 % 2 ^ 64 * 2 ^ 192

/-- What a quadrant's token bucket of 64 KiB lacks now; 1 % of 4.0 TB/s is 25 B a cycle of the time clock (R443). -/
def State.traceDebt (s : State) (q : Nat) : Nat :=
  (quadGet s.dbg.bucket q).1 - 25 * s.rd od4880_CAP 0 * (s.up - (quadGet s.dbg.bucket q).2)

/-- Write one record within the token bucket, or drop it; after drops a LOSS record comes first (R443). -/
def State.traceOne (s : State) (q rec_ : Nat) : State :=
  let debt := s.traceDebt q
  let drop := fun (s : State) =>
    let d := s.dbg
    State.count { s with dbg := { d with lossN := quadSet d.lossN q (quadGet d.lossN q + 1),
                                         lossAt := if quadGet d.lossN q = 0 then quadSet d.lossAt q (s.ft q) else d.lossAt } } 0x7C2 1
  let take := fun (s : State) (debt : Nat) => { s with dbg := { s.dbg with bucket := quadSet s.dbg.bucket q (debt + 32, s.up) } }
  if 65536 < debt + 32 then drop s
  else
    let n := quadGet s.dbg.lossN q
    if n = 0 then (take s debt).tracePut q rec_
    else
      let loss := traceWords (s.ft q) (s.qual q * 2 ^ 62 + 0x3F * 2 ^ 56 + 0xFFF * 2 ^ 44) n (quadGet s.dbg.lossAt q)
      let s1 := ((take s debt).tracePut q loss).count 0x7C3 1
      let s2 := { s1 with dbg := { s1.dbg with lossN := quadSet s1.dbg.lossN q 0 } }
      if 65536 < debt + 64 then drop s2 else (take s2 (debt + 32)).tracePut q rec_

/-- An event that trace may record (R441), with a DATA record for a FRAME with a payload if a filter asks for it. -/
def State.trace (s : State) (q : Nat) (t : TraceEvent) (payload : List Byte) : State :=
  let fs := s.filtersFor t
  if fs.isEmpty then s
  else
    let w1 := s.qual q * 2 ^ 62 + t.herd % 4096 * 2 ^ 44 + t.unit % 4096 * 2 ^ 32 + t.kind * 2 ^ 28
    let s1 := s.traceOne q (traceWords (s.ft q) (w1 + t.type_ * 2 ^ 56 + t.tdata % 2 ^ 28) t.w2 t.w3)
    if t.type_ = 1 ∧ !payload.isEmpty ∧ fs.any (fun f => s.rd od4890_DATA f == 1) then
      s1.traceOne q (traceWords (s.ft q) (w1 + 8 * 2 ^ 56) (leNat (payload.take 8)) (leNat ((payload.drop 8).take 8)))
    else s1

/-! ## Event records (R404–R408) -/

/-- A ring entry names a running event ring (TYPE 3) of the herd. -/
def State.eventRingOf (s : State) (ring herd : Nat) : Bool :=
  decide (ring < 262144) && s.rd od2400_TYPE ring == 3 && s.rd od3410_STATE ring == 1 && s.rd od3410_HERD ring == herd

/-- Put a record on its way to its rings: into the on-die log until every copy due has gone (R405). The copy of a tenant
herd's ring waits there while that ring is unset or not running (log entry 18). -/
def State.deliver (s : State) (ev : EventRec) : State :=
  let rec_ : LogRec := { ev := ev, devDue := true, herdDue := decide (0 < ev.herd ∧ ev.herd < 0xFFF) }
  if s.flt.log.length < 1024 then { s with flt := { s.flt with log := s.flt.log ++ [rec_] } }
  else if ev.cls ≤ 1 then s.bump od4400_LOG_LOST 0 32 1
  else
    match s.flt.log.findIdx? (fun r => decide (r.ev.cls ≤ 1)) with
    | some i => { s with flt := { s.flt with log := s.flt.log.eraseIdx i ++ [rec_] } }
    | none => s.bump od4400_LOG_LOST 0 32 1

/-- Number a record in its quadrant's sequence, modulo 2^30 (R404), and deliver it; trace may record it. -/
def State.deliverSeq (s : State) (ev : EventRec) : State :=
  let n := quadGet s.flt.seqs ev.quad
  (({ s with flt := { s.flt with seqs := quadSet s.flt.seqs ev.quad ((n + 1) % 2 ^ 30) } }).deliver { ev with seq := n }).trace
    ev.quad ⟨7, ev.herd, ev.kind, ev.unit, ev.event, ev.details.headD 0, ev.count, none⟩ []

/-- Two records match under R407. -/
def sameEvent (a b : EventRec) : Bool :=
  a.event == b.event && a.kind == b.kind && a.unit == b.unit && a.herd == b.herd && a.code == b.code

/-- A record is one that R407 merges with a record less than 1 ms older. -/
def mergeable (ev : EventRec) : Bool := decide (ev.cls ≤ 1) && ev.event != evConfigWrite

/-- Deliver the occurrences merged since a record, as one record with the fields of the first of them (R407). -/
def State.endMerge (s : State) (m : MergeRec) : State :=
  let s1 := { s with flt := { s.flt with merges := s.flt.merges.filter (fun x => !sameEvent x.first m.first) } }
  if m.count = 0 then s1 else s1.deliverSeq { m.first with count := min m.count (2 ^ 32 - 1) }

/-- Take an occurrence: merged, or delivered on its own (R407). -/
def State.record (s : State) (ev : EventRec) : State :=
  if mergeable ev then
    match s.flt.merges.find? (fun m => sameEvent m.first ev) with
    | some m =>
      if s.past m.since 1000000 then
        let s1 := s.endMerge m
        ({ s1 with flt := { s1.flt with merges := s1.flt.merges ++ [MergeRec.mk ev s.clk 0] } }).deliverSeq ev
      else
        let hit := fun (x : MergeRec) =>
          if sameEvent x.first ev then MergeRec.mk (if x.count = 0 then ev else x.first) x.since (x.count + 1) else x
        { s with flt := { s.flt with merges := s.flt.merges.map hit } }
    | none => ({ s with flt := { s.flt with merges := s.flt.merges ++ [MergeRec.mk ev s.clk 0] } }).deliverSeq ev
  else s.deliverSeq ev

/-- Note an error for the handlers of R410: the classes 1 to 3 of R401; a notice (class 0) raises none. -/
def State.raise (s : State) (q cls event kind unit : Nat) : State :=
  if cls = 0 ∨ 3 < cls then s
  else { s with flt := { s.flt with raised := s.flt.raised ++ [Raised.mk cls kind (unit % 4096) event q] } }

/-- Build the record of an event (Table 17.3) of a class at the quadrant of detection, take the occurrence, and note the
error. -/
def State.emitAs (s : State) (q cls event herd kind unit code : Nat) (details : List Nat) : State :=
  (s.record
    { time := s.ft q, quality := s.qual q, cls := cls, herd := herd, kind := kind, unit := unit % 4096,
      event := event, code := code, quad := q, seq := 0, count := 1, details := details }).raise q cls event kind unit

/-- An event of Table 17.5. -/
def State.emit (s : State) (q event herd kind unit code : Nat) (details : List Nat) : State :=
  s.emitAs q (eventClass event) event herd kind unit code details

/-- Count an event of a herd in a counter of OD 4800; a time-gated herd's events are not counted (R431). -/
def State.tally (s : State) (herd i k : Nat) : State := if s.timeGated herd then s else s.count i k

end Sys2Proof.Machine
end

