-- ==== Sys2Proof/Machine/MatchOps.lean ====
section
/-! DEFINITION. The match engine's entries and searches (R266–R279). An entry is the value of OD 4020: the eight words of
its record, little-endian, with INDEX 0 and the key bits outside the mask 0. -/

namespace Sys2Proof.Machine

def recWord (v i : Nat) : Nat := v / 2 ^ (64 * i) % 2 ^ 64

def entryKey (v : Nat) : Nat := v % 2 ^ 160
def entryMask (v : Nat) : Nat := recWord v 3 + recWord v 4 * 2 ^ 64 + recWord v 5 % 2 ^ 32 * 2 ^ 128
def entryPrio (v : Nat) : Nat := recWord v 5 / 2 ^ 48
def entryResult (v : Nat) : Nat := recWord v 6
def entryValid (v : Nat) : Bool := bitAt (recWord v 7) 63

/-- The reserved bits of an entry record are 0 (Table 10.2). -/
def recordReservedOk (v : Nat) : Bool :=
  recWord v 2 / 2 ^ 32 == 0 && bitsOf (recWord v 5) 47 32 == 0 && bitsOf (recWord v 7) 62 32 == 0

/-- The record as the entry stores it: KEY bits where MASK is 0 are 0 (R266), and INDEX is 0. -/
def entryStore (v : Nat) : Nat :=
  let m := entryMask v
  let k := v % 2 ^ 160 &&& m
  k + recWord v 3 * 2 ^ 192 + recWord v 4 * 2 ^ 256 + recWord v 5 * 2 ^ 320 + recWord v 6 * 2 ^ 384
    + (if entryValid v then 2 ^ 511 else 0)

/-- First entry of a set in the whole engine. -/
def State.setFirst (s : State) (r : Nat) : Nat := 65536 * s.rd od4010_BANK r + s.rd od4010_FIRST r

/-- The valid entries of a set, as offset and record (R266). -/
def State.setEntries (s : State) (r : Nat) : List (Nat × Nat) :=
  let b := s.setFirst r
  ((odListed s.od od4020_ENTRY_RECORD).filter (fun kv =>
      decide (b ≤ kv.1) && decide (kv.1 < b + s.rd od4010_COUNT r) && entryValid kv.2)).map (fun kv => (kv.1 - b, kv.2))

/-- An entry matches a key. -/
def entryMatches (key v : Nat) : Bool := ((key ^^^ entryKey v) &&& entryMask v) == 0

/-- Rank of R268: `a` ranks before `b`. -/
def ranksBefore (a b : Nat × Nat) : Bool :=
  decide (entryPrio b.2 < entryPrio a.2) || (entryPrio a.2 == entryPrio b.2 && decide (a.1 < b.1))

/-- The entry that ranks first. -/
def bestOf : List (Nat × Nat) → Option (Nat × Nat)
  | [] => none
  | x :: xs => match bestOf xs with
    | none => some x
    | some y => if ranksBefore y x then some y else some x

/-- An answer of a search: the entry returned (offset and record), whether a further match ranks after it, and the entries
read with an uncorrectable error (R279). -/
structure Answer where
  hit   : Option (Nat × Nat)
  multi : Bool
  bad   : List Nat
  deriving DecidableEq, Repr

/-- Search a set for a key among the entries that rank after a cursor (R276), or among all. -/
def State.searchSet (s : State) (r key : Nat) (after : Option (Nat × Nat)) : Answer :=
  let es := s.setEntries r
  match (es.map (fun x => s.setFirst r + x.1)).filter (fun e => s.mt.bad.contains e) with
  | x :: xs => ⟨none, false, x :: xs⟩
  | [] =>
    let ms := es.filter (fun x => entryMatches key x.2 && (match after with
      | none => true
      | some (p, i) => decide (entryPrio x.2 < p) || (entryPrio x.2 == p && decide (i < x.1))))
    match bestOf ms with
    | none => ⟨none, false, []⟩
    | some b => ⟨some b, ms.any (fun x => ranksBefore b x), []⟩

/-- An entry that cannot be corrected leaves its set: VALID is cleared, an event names it, and it is counted (R279). -/
def State.entryLost (s : State) (r e : Nat) : State :=
  let b := s.rd od4010_BANK r
  let s1 := (s.wr od4020_ENTRY_RECORD e (s.rd od4020_ENTRY_RECORD e % 2 ^ 511)).wr od4010_VALID r (s.rd od4010_VALID r - 1)
  let s2 := { s1 with mt := { s1.mt with bad := s1.mt.bad.filter (· != e) } }
  ((s2.bump od4000_POISONED 0 32 1).count (0x720 + 4 * b + 3) 1).emit (b / 2) evMatchPoison (s.rd od4010_HERD r) 13 b 0 [e]

/-- A search is counted, and the entries that it read and that cannot be corrected are taken out of the set (R279). -/
def State.searched (s : State) (herd r : Nat) (a : Answer) : State :=
  let b := s.rd od4010_BANK r
  let s1 := (s.bump od4000_SEARCHES 0 64 1).tally herd (0x720 + 4 * b) 1
  let s2 := if a.hit.isSome then s1.tally herd (0x720 + 4 * b + 2) 1 else s1
  a.bad.foldl (fun s e => s.entryLost r e) s2

/-- Write a whole entry record, keeping VALID's count (R273, R277) and counting the update; GEN rises by one. -/
def State.putEntry (s : State) (r off v : Nat) : State :=
  let e := s.setFirst r + off
  let was := entryValid (s.rd od4020_ENTRY_RECORD e)
  let s1 := s.wr od4020_ENTRY_RECORD e (entryStore v)
  let n := s.rd od4010_VALID r
  let s2 := s1.wr od4010_VALID r (if entryValid v then (if was then n else n + 1) else if was then n - 1 else n)
  let s3 := { s2 with mt := { s2.mt with bad := s2.mt.bad.filter (· != e) } }
  (s3.wr od4010_GEN r ((s.rd od4010_GEN r + 1) % 65536)).bump od4000_UPDATES 0 64 1

/-- Clear VALID in every entry of a set's range, 64 entries a slot (R270, R271). -/
def State.clearSet (s : State) (r : Nat) : State :=
  let b := s.setFirst r
  let n := s.rd od4010_COUNT r
  let mine := fun (kv : Nat × Nat) => kv.1 % 16777216 == odKey od4020_ENTRY_RECORD 0 && decide (b ≤ kv.1 / 16777216) &&
    decide (kv.1 / 16777216 < b + n)
  let clear := fun (od : Sparse Nat) (kv : Nat × Nat) => sparseSet (odDefault kv.1) od kv.1 (kv.2 % 2 ^ 511)
  let s1 := { s with od := (s.od.filter mine).foldl clear s.od }
  let s2 := { s1 with mt := { s1.mt with bad := s1.mt.bad.filter (fun e => decide (e < b ∨ b + n ≤ e)) } }
  (s2.wr od4010_VALID r 0).bump od4000_UPDATES 0 64 (ceilDiv n 64)

/-- The active set in which an entry lies. -/
def State.setOfEntry (s : State) (e : Nat) : Option Nat :=
  ((odListed s.od od4010_STATE).map (·.1)).find? (fun r =>
    decide (s.setFirst r ≤ e) && decide (e < s.setFirst r + s.rd od4010_COUNT r))

end Sys2Proof.Machine
end

