-- ==== Sys2Proof/Machine/Operands.lean ====
section
/-! DEFINITION. The operand forms of requests: lengths, alignments, attributes and payloads (R72–R76, R79). -/

namespace Sys2Proof.Machine

/-- The data length that LEN gives, in bytes. -/
def lenBytes (h : ReqHdr) : Nat := (h.len.toNat + 1) * 8

/-- ASIZE of an ATOMIC: ATTR[3:2]. -/
def asize (h : ReqHdr) : Nat := bitsOf h.attr.toNat 3 2

/-- The operand width of an ATOMIC in bytes (Table 3.4). -/
def atomicWidth (h : ReqHdr) : Nat := if asize h = 0 then 4 else if asize h = 1 then 8 else 16

/-- The payload of an ATOMIC (Table 3.5), or none where the operation does not take the size. -/
def atomicPayload (op : AtomicOp) (size : Nat) : Option Nat :=
  match op with
  | .cas => if size = 0 ∨ size = 1 then some 16 else if size = 2 then some 32 else none
  | .fadd => if size = 0 then some 8 else none
  | _ => if size = 0 ∨ size = 1 then some 8 else none

/-- The opcode of Table 3.3. -/
def opcodeOf : ReqOp → Nat
  | .load | .loadc => 0x01 | .store => 0x02 | .pstore => 0x03 | .atomic _ => 0x04 | .publish => 0x05 | .invalidate => 0x06
  | .flush => 0x07 | .fence => 0x08 | .kick => 0x09 | .complete => 0x0A | .mgmtRead => 0x0C | .mgmtWrite => 0x0C
  | .other k => k | .coll .contrib _ => 0x20 | .coll .part _ => 0x21 | .coll .result _ => 0x22 | .coll .abort _ => 0x23

/-- AOP of Table 3.5. -/
def aopOf : AtomicOp → Nat
  | .swap => 0 | .cas => 1 | .add => 2 | .and => 3 | .or => 4 | .xor => 5
  | .smax => 6 | .smin => 7 | .umax => 8 | .umin => 9 | .fadd => 10

/-- The reserved bits of the header are 0 (R72), including those of VAL and AUX that the opcode does not use. -/
def reservedZero (op : ReqOp) (h : ReqHdr) : Bool :=
  !h.res0 && h.res1 == 0 && h.res2 == 0 && h.res4 == 0 &&
  (match op with
   | .publish | .invalidate => true
   | .mgmtRead | .mgmtWrite => bitsOf h.val.toNat 7 0 == 0
   | _ => h.val == 0) &&
  (match op with
   | .pstore | .publish | .invalidate | .flush => true
   | .fence => true
   | .mgmtRead | .mgmtWrite => bitsOf h.aux.toNat 63 35 == 0
   | _ => h.aux == 0)

/-- ATTR holds no reserved value (Table 3.4). -/
def attrOk (op : ReqOp) (h : ReqHdr) : Bool :=
  match op with
  | .atomic aop => bitsOf h.attr.toNat 7 4 == aopOf aop && decide (asize h ≠ 3) && bitsOf h.attr.toNat 1 0 == 0
  | .flush => decide (bitsOf h.attr.toNat 7 6 ≤ 1) && bitsOf h.attr.toNat 5 0 == 0
  | .mgmtRead => h.attr == 0
  | .mgmtWrite => h.attr == 0x40
  | _ => h.attr == 0

/-- Alignment and LEN of R74; a reserved opcode has no shape (R73). -/
def shapeOk (op : ReqOp) (h : ReqHdr) : Bool :=
  let a := h.addr.toNat
  match op with
  | .load | .loadc | .store => a % 8 == 0 && decide (a % 4096 + lenBytes h ≤ 4096)
  | .pstore => a % 64 == 0 && h.len == 7
  | .atomic _ => a % atomicWidth h == 0
  | .kick => a % 8 == 0 && h.len == 0
  | .complete => a % 64 == 0 && h.len == 7
  | .publish | .invalidate | .flush | .fence => h.len == 0
  | .mgmtRead | .mgmtWrite | .coll _ _ => true
  | .other _ => false

/-- The payload is exactly the one that R74 and Table 3.5 give, and the reserved half of a 4-B operand slot is 0. -/
def payloadOk (op : ReqOp) (h : ReqHdr) (p : List Byte) : Bool :=
  match op with
  | .store | .mgmtWrite => p.length == lenBytes h
  | .pstore | .complete => p.length == 64
  | .kick => p.length == 8
  | .atomic aop =>
    match atomicPayload aop (asize h) with
    | some n => p.length == n && h.len.toNat + 1 == n / 8 &&
        (asize h != 0 || ((List.range (n / 8)).all (fun i => ((p.drop (8 * i + 4)).take 4).all (· == 0))))
    | none => false
  | _ => p.length == 0

/-- A request meets R72 to R76. -/
def formatOk (op : ReqOp) (h : ReqHdr) (p : List Byte) : Bool :=
  reservedZero op h && attrOk op h && shapeOk op h && payloadOk op h p

/-- The region of a PUBLISH, INVALIDATE or FLUSH is AUX bytes; of any other access, the bytes it touches. -/
def spanOf (op : ReqOp) (h : ReqHdr) : Nat :=
  match op with
  | .load | .loadc | .store => lenBytes h
  | .pstore | .complete => 64
  | .atomic _ => atomicWidth h
  | .kick => 8
  | .publish | .invalidate | .flush => h.aux.toNat
  | .fence | .mgmtRead | .mgmtWrite | .coll _ _ | .other _ => 0

/-- Whether a request writes bytes of the pool. -/
def writes (op : ReqOp) : Bool :=
  match op with
  | .store | .pstore | .atomic _ | .kick | .complete => true
  | _ => false

/-- Two requests touch a common byte. -/
def overlap (a b : Req) : Bool :=
  let x := a.hdr.addr.toNat; let y := b.hdr.addr.toNat
  decide (x < y + spanOf b.op b.hdr) && decide (y < x + spanOf a.op a.hdr)

/-- Bytes of a request frame: envelope, header, payload and trailer. -/
def reqBytes (p : List Byte) : Nat := 56 + p.length

/-- Bytes of a response frame. -/
def respBytes (p : List Byte) : Nat := 40 + p.length

/-- The length of the data that a response to a request carries. -/
def respDataLen (op : ReqOp) (h : ReqHdr) : Nat :=
  match op with
  | .load | .loadc => lenBytes h
  | .atomic _ => if asize h = 2 then 16 else 8
  | .mgmtRead => lenBytes h
  | _ => 0

/-- The largest response frame that a request can draw: 32 B plus the response payload in R312's words, with its 24-B
header and 8-B envelope and trailer (8 + 24 + payload + 8). -/
def largestResp (op : ReqOp) (h : ReqHdr) : Nat := 40 + respDataLen op h

end Sys2Proof.Machine
end

