-- ==== Sys2Proof/Machine/NandOps.lean ====
section
/-! DEFINITION. The translation layer's named operations (chapter 14): blocks, places of chunks, the map, the reserve, and
the shelf operations that wait or are out. -/

namespace Sys2Proof.Machine

/-! ## Names of blocks and chunks -/

def nandBlockNew : NandBlock := ⟨0, 0, 0, 0, 0⟩
def State.nandBlock (s : State) (b : Nat) : NandBlock := sparseGet nandBlockNew s.nand.blocks b
def State.setNandBlock (s : State) (b : Nat) (x : NandBlock) : State :=
  { s with nand := { s.nand with blocks := sparseSet nandBlockNew s.nand.blocks b x } }

/-- Block `b` of a die of a shelf; a die is named by channel × 64 + die. -/
def blockKey (p die b : Nat) : Nat := (p * 4096 + die) * 1048576 + b
def blockPort (k : Nat) : Nat := k / 4294967296
def blockDie (k : Nat) : Nat := k / 1048576
def placeBlock (l : Nat) : Nat := l / 1024

/-- A chunk of a volume. -/
def volChunk (slot c : Nat) : Nat := slot * 4294967296 + c

def geoNone : ShelfGeometry := ⟨0, 0, 0, 0, 0, 0, 0, 0⟩
def State.geo (s : State) (p : Nat) : ShelfGeometry := sparseGet geoNone s.nand.geo p

/-- Accepted shelves. -/
def State.shelves (s : State) : List Nat := ((odListed s.od od2C30_STATE).filter (fun kv => kv.2 == 1)).map (·.1)

/-- Data bytes of a block (R351), and chunks in one. -/
def blockBytes (g : ShelfGeometry) : Nat := g.pages * 16384
def blockChunks (g : ShelfGeometry) : Nat := g.pages / 4

/-- The dies of a shelf. -/
def shelfDies (g : ShelfGeometry) : List Nat := (List.range g.channels).flatMap (fun c => (List.range g.dies).map (c * 64 + ·))

/-- Every block of a shelf that is in service. -/
def State.shelfBlocks (s : State) (p : Nat) : List Nat :=
  ((shelfDies (s.geo p)).flatMap (fun d => (List.range (s.geo p).blocks).map (blockKey p d))).filter
    (fun k => (s.nandBlock k).state != 3)

/-! ## Capacity (R347, R351, R357) -/

/-- Good blocks of every accepted shelf. -/
def State.goodBlocks (s : State) : Nat := s.shelves.foldl (fun a p => a + s.rd od2C30_GOOD_BLOCKS p) 0

/-- Free blocks: the good ones less those that are open or full. -/
def State.freeBlocks (s : State) : Nat :=
  s.goodBlocks - (s.nand.blocks.filter (fun kv => (kv.2.state == 1 || kv.2.state == 2) && s.shelves.contains (blockPort kv.1))).length

/-- The data bytes of a block that R351 divides by: the smallest, where shelves differ. -/
def State.reserveUnit (s : State) : Nat :=
  s.shelves.foldl (fun a p => if a = 0 then blockBytes (s.geo p) else min a (blockBytes (s.geo p))) 0

/-- The flush reserve for a ceiling (R351). -/
def State.reserveBlocks (s : State) (ceiling : Nat) : Nat :=
  if s.shelves.isEmpty then 0
  else ceilDiv ceiling (max 1 s.reserveUnit) + 2 * s.shelves.foldl (fun a p => a + (s.geo p).dies * (s.geo p).channels) 0

/-- Chunks of detached volumes. -/
def State.detachedChunks (s : State) : Nat :=
  ((odListed s.od od2C40_STATE).filter (fun kv => kv.2 == 2)).foldl (fun a kv => a + s.rd od2C40_CHUNKS kv.1) 0

/-- T3_RESERVABLE (R357). -/
def State.t3Reservable (s : State) : Nat :=
  let good := (s.shelves.filter (fun p => !s.ports.failed.contains p)).foldl
    (fun a p => a + s.rd od2C30_GOOD_BLOCKS p * blockBytes (s.geo p)) 0
  let left := good - s.rd od2C20_RESERVE_BLOCKS 0 * s.reserveUnit
  left * (100 - s.rd od2C20_OVERPROVISION 0) / 100 / 2097152 * 2097152 - s.detachedChunks * 65536

/-! ## Opening blocks and writing chunks (R349–R352) -/

def insertBlock (s : State) (k : Nat) : List Nat → List Nat
  | [] => [k]
  | x :: xs => if (s.nandBlock k).erases ≤ (s.nandBlock x).erases then k :: x :: xs else x :: insertBlock s k xs

/-- The next free blocks to open, lowest erase count first (R350, R354). -/
def State.nextBlocks (s : State) (n : Nat) : List Nat :=
  let free := (s.shelves.flatMap s.shelfBlocks).filter (fun k => (s.nandBlock k).state == 0 && some k != s.nand.openAt)
  (free.foldr (insertBlock s) []).take n

def coreCounter (q j : Nat) : Nat := 0x740 + 8 * q + j

/-- Write a map checkpoint (R350). -/
def State.checkpoint (s : State) : State :=
  State.count { s with nand := { s.nand with since := 0, opens := s.nextBlocks 256 } } (coreCounter 0 4) 1

/-- The open block has room for a chunk. -/
def State.openRoom (s : State) : Option Nat :=
  match s.nand.openAt with
  | some b => if (s.nandBlock b).state = 1 ∧ (s.nandBlock b).used < blockChunks (s.geo (blockPort b)) then some b else none
  | none => none

/-- Open the next block of the list, after a checkpoint if the list has run out. -/
def State.openNext (s : State) : State :=
  let s1 := if s.nand.opens.isEmpty then s.checkpoint else s
  match s1.nand.opens with
  | [] => s1
  | b :: rest => { s1 with nand := { s1.nand with openAt := some b, opens := rest } }.setNandBlock b
      { s1.nandBlock b with state := 1, used := 0, prog := s1.ft 0 }

/-- Take the next place for a chunk. -/
def State.takePlace (s : State) : Option (Nat × State) :=
  let s1 := if s.openRoom.isSome then s else s.openNext
  match s1.openRoom with
  | none => none
  | some b =>
    let x := s1.nandBlock b
    let full := x.used + 1 = blockChunks (s1.geo (blockPort b))
    some (b * 1024 + x.used, s1.setNandBlock b { x with used := x.used + 1, state := if full then 2 else 1 })

/-- The place of a chunk. -/
def State.placeOf (s : State) (key : Nat) : Option Nat :=
  match sparseGet 0 s.nand.map key with
  | 0 => none
  | n + 1 => some n

/-- Make a map entry name a place: the switch of R349. -/
def State.switchMap (s : State) (key place : Nat) : State :=
  let p := blockPort (placeBlock place)
  let s1 := if (s.placeOf key).isNone then s.bump od2C40_CHUNKS (key / 4294967296) 64 1 else s
  let n := s1.nand
  State.bump { s1 with nand := { n with
    map := sparseSet 0 n.map key (place + 1), lost := n.lost.filter (· != key), seq := n.seq + 1, since := n.since + 1 } }
    od2C30_FLASH_CHUNKS p 64 1

/-- Write a chunk for a host, all four programs reporting success (R349, log entry 9). -/
def State.nandWrite (s : State) (key : Nat) : State :=
  match s.takePlace with
  | none => s
  | some (place, s1) =>
    let p := blockPort (placeBlock place)
    ((s1.switchMap key place).bump od2C30_HOST_CHUNKS p 64 1).count (coreCounter (p / 4 % 4) 5) 4

/-- Remove a map entry (R345). -/
def State.nandTrim (s : State) (key : Nat) : State :=
  if (s.placeOf key).isNone then { s with nand := { s.nand with lost := s.nand.lost.filter (· != key) } }
  else
    let n := s.nand
    let s1 := { s with nand := { n with map := sparseSet 0 n.map key 0, lost := n.lost.filter (· != key) } }
    s1.wr od2C40_CHUNKS (key / 4294967296) (s1.rd od2C40_CHUNKS (key / 4294967296) - 1)

/-- A host may write a chunk: the open block has room, or a block outside the reserve may be opened (R351, R352). `flush` is
the flush of R108, which writes into the reserve. -/
def State.hostRoom (s : State) (flush : Bool) : Bool :=
  s.openRoom.isSome ||
  (if flush then decide (0 < s.freeBlocks)
   else decide (s.rd od2C20_RESERVE_BLOCKS 0 < s.freeBlocks) &&
     decide (s.rd od2C20_GC_URGENT 0 * s.goodBlocks ≤ (s.freeBlocks - s.rd od2C20_RESERVE_BLOCKS 0) * 100))

/-! ## Shelf operations (R343, R344) -/

def opDie (o : ShelfOp) : Nat := blockDie o.block

/-- The words of a shelf descriptor (Table 14.2). -/
def shelfWord (o : ShelfOp) (tag : Nat) : Nat :=
  o.op * 2 ^ 60 + o.retry * 2 ^ 56 + opDie o % 4096 / 64 * 2 ^ 50 + opDie o % 64 * 2 ^ 44 + o.block % 1048576 * 2 ^ 24
    + o.page * 2 ^ 12 + tag

/-- Send the first operation that waits and whose die has fewer than four out. -/
def State.issueOne (s : State) : State :=
  let out := fun (d : Nat) => s.nand.ops.filter (fun o => o.tag.isSome && opDie o == d)
  match s.nand.ops.findIdx? (fun o => o.tag.isNone && decide ((out (opDie o)).length < 4) &&
      s.rd od2118_STATE (blockPort o.block) == 3 && s.rd od2C30_STATE (blockPort o.block) == 1) with
  | none => s
  | some i =>
    match s.nand.ops[i]? with
    | none => s
    | some o =>
      let p := blockPort o.block
      let tag := ((List.range 4).find? (fun t => !(out (opDie o)).any (fun x => x.tag == some t))).getD 0
      let s1 := { s with nand := { s.nand with ops := s.nand.ops.set i { o with tag := some tag, sent := s.clk } } }
      (s1.send (.shelf p (shelfWord o tag) (Config.shelfBuffer p tag))).count (coreCounter (p / 4 % 4) 5) 1

def State.issueOps (s : State) : Nat → State
  | 0 => s
  | n + 1 => s.issueOne.issueOps n

/-- Send what may be sent. -/
def State.pump (s : State) : State := s.issueOps (s.nand.ops.filter (fun o => o.tag.isNone)).length

/-- Add a piece of work with page operations on a place, or one operation on a block. -/
def State.addJob (s : State) (work : NandWork) (progs : Bool) (ops : List (Nat × Nat × Nat)) : State :=
  let n := s.nand
  let id := n.nextJob + 1
  { s with nand := { n with nextJob := id, jobs := n.jobs ++ [NandJob.mk id work progs ops.length],
                            ops := n.ops ++ ops.map (fun x => ShelfOp.mk x.1 x.2.1 0 x.2.2 id none 0 false) } }

/-- The page operations of a chunk at a place. -/
def pageOps (op place : Nat) : List (Nat × Nat × Nat) :=
  (List.range 4).map (fun i => (placeBlock place, op, 4 * (place % 1024) + i))

/-- Read a chunk of an extent from flash, unless that is under way. -/
def State.readJob (s : State) (e g c key : Nat) : State :=
  if s.nand.jobs.any (fun j => j.work == .read e g c) then s
  else match s.placeOf key with
    | some l => s.addJob (.read e g c) false (pageOps 1 l)
    | none => s

end Sys2Proof.Machine
end

