-- ==== Sys2Proof/Machine/PoolOps.lean ====
section
/-! DEFINITION. Named operations over the pool (chapter 4): the extent map, granules, bytes in their tiers, quotas, the
dirty ceiling, and the records that the A9 writes to event rings. -/

namespace Sys2Proof.Machine

/-- Bytes of a granule, a chunk, and a line (R94, Table 4.5, chapter 5). -/
def granuleBytes : Nat := 2097152
def chunkBytes : Nat := 65536
def lineSize : Nat := 128

/-- First address of the management range (R79, R93). -/
def mgmtBase : Nat := 0x01FF000000000000

def byteKey (e off : Nat) : Nat := e * 2 ^ 48 + off
def lineKey (e off : Nat) : Nat := e * 2 ^ 41 + off / 128
def granKey (e g : Nat) : Nat := e * 2 ^ 32 + g

/-- A granule at its creation (Table 4.5). -/
def granNew : Gran := ⟨0, false, false, 0, BitVec.allOnes 32, 0, 0⟩

def State.gran (s : State) (e g : Nat) : Gran := sparseGet granNew s.pool.gran (granKey e g)

def State.setGran (s : State) (e g : Nat) (d : Gran) : State :=
  { s with pool := { s.pool with gran := sparseSet granNew s.pool.gran (granKey e g) d } }

/-! ## The extent map (R93–R96) -/

def State.extState (s : State) (e : Nat) : Nat := s.rd od2820_STATE e
def State.extHerd (s : State) (e : Nat) : Nat := s.rd od2820_HERD e
def State.extBase (s : State) (e : Nat) : Nat := s.rd od2820_BASE e
def State.extGranules (s : State) (e : Nat) : Nat := s.rd od2820_GRANULES e
def State.extPlace (s : State) (e : Nat) : Nat := s.rd od2820_PLACE e
def State.extClass (s : State) (e : Nat) : Nat := s.rd od2820_CLASS e
def State.extBytes (s : State) (e : Nat) : Nat := s.extGranules e * granuleBytes
def State.extPersist (s : State) (e : Nat) : Bool := bitAt (s.rd od2820_FLAGS e) 0
def State.extCmp (s : State) (e : Nat) : Bool := bitAt (s.rd od2820_FLAGS e) 1
def State.extRo (s : State) (e : Nat) : Bool := bitAt (s.rd od2820_FLAGS e) 2
def State.extShared (s : State) (e h : Nat) : Bool := bitAt (s.rd od2820_SHARED e) h

/-- The home slice of a local extent; none for a map-only entry (R95). -/
def State.extSlice (s : State) (e : Nat) : Option Nat := s.homeSlice (s.rd od2820_HOME e)

/-- The quadrant that serves an extent's events: its home slice's, or 0 for a map-only entry (Table 17.5a). -/
def State.extQuad (s : State) (e : Nat) : Nat := (s.extSlice e).getD 0

/-- The entries of the extent table that are not free, by rising element. -/
def State.extents (s : State) : List Nat := (odListed s.od od2820_STATE).map (·.1)

/-- The composition change in progress on an extent. -/
def State.changeOf (s : State) (e : Nat) : Option Change := s.pool.changes.find? (fun c => c.ext == e)

/-- An extent is in the map: not free, not a CREATE that has not switched yet (R118), and its owner not CONFIGURING (R33). -/
def State.extInForce (s : State) (e : Nat) : Bool :=
  decide (s.extState e ≠ 0) && s.herdState (s.extHerd e) != 1 && (match s.changeOf e with | some c => c.op != 1 | none => true)

/-- An extent is mapped into a herd: owned by it, or set in SHARED. -/
def State.extMapped (s : State) (e h : Nat) : Bool := s.extHerd e == h || s.extShared e h

/-- The extent of a herd's map that holds an address (R94: at most one). -/
def State.extAt (s : State) (h a : Nat) : Option Nat :=
  s.extents.find? (fun e =>
    s.extInForce e && s.extMapped e h && decide (s.extBase e ≤ a) && decide (a < s.extBase e + s.extBytes e))

/-- The extent check of R25 and R127: one extent of the herd's map holds the whole span. -/
def State.extCheck (s : State) (h a span : Nat) : Option Nat :=
  match s.extAt h a with
  | some e => if a + span ≤ s.extBase e + s.extBytes e then some e else none
  | none => none

/-- A revoke, shrink or unshare that fences a request of herd `h` to `span` bytes at offset `off` (R114, R495). -/
def State.fenced (s : State) (e h off span : Nat) : Bool :=
  s.pool.revokes.any (fun r => r.ext == e &&
    (if r.op = 6 then true
     else if r.op = 3 then decide ((s.extGranules e - r.arg) * granuleBytes < off + max span 1)
     else r.arg == h))

/-! ## Bytes in their tiers (R100–R103) -/

def State.volOf (s : State) (e : Nat) : Nat := sparseGet 0 s.pool.extVol e

/-- Where the byte at an offset of a local extent is held: 0 reads as zero, 1 T1, 2 T2, 3 T3, and its key there. -/
def State.whereByte (s : State) (e off : Nat) : Nat × Nat :=
  let d := s.gran e (off / granuleBytes)
  let c := off / chunkBytes % 32
  if d.tier = 0 ∨ d.zmask.getLsbD c then (0, 0)
  else if d.tier = 1 then (1, byteKey e off)
  else if d.cached && !(d.moving && !(s.pool.moves.any (fun m =>
      m.ext == e && m.gran == off / granuleBytes && (!m.fill || m.done.getLsbD c)))) then (1, byteKey e off)
  else if d.tier = 2 then (2, byteKey e off)
  else (3, byteKey (s.volOf e) off)

def State.readByte (s : State) (e off : Nat) : Byte :=
  let w := s.whereByte e off
  if w.1 = 1 then sparseGet 0 s.pool.mem w.2
  else if w.1 = 2 then sparseGet 0 s.pool.cxl w.2
  else if w.1 = 3 then sparseGet 0 s.pool.flash w.2
  else 0

def State.readPool (s : State) (e off n : Nat) : List Byte := (List.range n).map (fun i => s.readByte e (off + i))

/-- Put a byte where it is held. -/
def State.putByte (s : State) (e off : Nat) (b : Byte) : State :=
  let w := s.whereByte e off
  if w.1 = 1 then { s with pool := { s.pool with mem := sparseSet 0 s.pool.mem w.2 b } }
  else if w.1 = 2 then { s with pool := { s.pool with cxl := sparseSet 0 s.pool.cxl w.2 b } }
  else if w.1 = 3 then { s with pool := { s.pool with flash := sparseSet 0 s.pool.flash w.2 b } }
  else s

/-- A chunk of a granule that a fill moves is in T1 now. -/
def State.copied (s : State) (e g c : Nat) : State :=
  { s with pool := { s.pool with moves := s.pool.moves.map (fun (m : Move) =>
      if m.ext = e ∧ m.gran = g ∧ m.fill then { m with done := m.done ||| (1#32 <<< c) } else m) } }

/-- The number of a chunk of a granule of an extent. -/
def chunkId (e g c : Nat) : Nat := granKey e g * 32 + c

/-- Write zeros to a whole chunk and clear its ZMASK bit (R102, steps 1 and 3). A fill under way has nothing to copy there. -/
def State.openChunk (s : State) (e g c : Nat) : State :=
  let d := s.gran e g
  if d.zmask.getLsbD c then
    let s1 := (s.setGran e g { d with zmask := d.zmask &&& ~~~(1#32 <<< c) }).copied e g c
    let off := g * granuleBytes + c * chunkBytes
    let w := s1.whereByte e off
    if w.1 = 1 then { s1 with pool := { s1.pool with mem := sparseDrop s1.pool.mem w.2 (w.2 + chunkBytes) } }
    else if w.1 = 2 then { s1 with pool := { s1.pool with cxl := sparseDrop s1.pool.cxl w.2 (w.2 + chunkBytes) } }
    else { s1 with pool := { s1.pool with flash := sparseDrop s1.pool.flash w.2 (w.2 + chunkBytes) } }
  else s

/-- Set the DIRTY bit of a chunk of a cached granule (R104), counting the bytes of PERSIST extents. -/
def State.dirtyChunk (s : State) (e g c : Nat) : State :=
  let d := s.gran e g
  if d.cached && d.tier != 1 && !d.dirty.getLsbD c then
    let s1 := s.setGran e g { d with dirty := d.dirty ||| (1#32 <<< c) }
    if s.extPersist e then
      { s1 with pool := { s1.pool with dirtied := s1.pool.dirtied ++ [chunkId e g c] } }.bump od2C10_DIRTY_BYTES 0 64 chunkBytes
    else s1
  else s

/-- Clear the DIRTY bit of a chunk. -/
def State.cleanBit (s : State) (e g c : Nat) : State :=
  let d := s.gran e g
  if d.dirty.getLsbD c then
    let s1 := s.setGran e g { d with dirty := d.dirty &&& ~~~(1#32 <<< c) }
    if s.extPersist e then
      { s1 with pool := { s1.pool with dirtied := s1.pool.dirtied.filter (· != chunkId e g c) } }.wr od2C10_DIRTY_BYTES 0
        (s1.rd od2C10_DIRTY_BYTES 0 - chunkBytes)
    else s1
  else s

/-- A chunk of a T3 granule in the flash map. -/
def State.chunkKey (s : State) (e g c : Nat) : Nat := volChunk (s.volOf e) (g * 32 + c)

/-- A chunk that is held on flash alone has a map entry. -/
def State.mapChunk (s : State) (e g c : Nat) : State :=
  let k := s.chunkKey e g c
  if (s.whereByte e (g * granuleBytes + c * chunkBytes)).1 = 3 ∧ (s.placeOf k).isNone then s.nandWrite k else s

/-- Write a byte of an allocated granule: R102, then DIRTY under R104. -/
def State.writeByte (s : State) (e off : Nat) (b : Byte) : State :=
  let g := off / granuleBytes
  let c := off / chunkBytes % 32
  (((s.openChunk e g c).putByte e off b).mapChunk e g c).dirtyChunk e g c

def State.writePool (s : State) (e off : Nat) : List Byte → State
  | [] => s
  | b :: bs => (s.writeByte e off b).writePool e (off + 1) bs

/-! ## Poison (Table 17.2, R141, R356) -/

def State.linesOf (e off n : Nat) : List Nat :=
  (List.range ((off + max n 1 - 1) / 128 - off / 128 + 1)).map (fun i => lineKey e off + i)

def State.poisoned (s : State) (e off n : Nat) : Bool := (State.linesOf e off n).any (s.pool.poison.contains ·)

def State.addPoison (s : State) (k : Nat) : State :=
  if s.pool.poison.contains k then s else { s with pool := { s.pool with poison := s.pool.poison ++ [k] } }

/-- A write of whole lines lifts their poison. -/
def State.liftPoison (s : State) (e off n : Nat) : State :=
  let full := (State.linesOf e off n).filter (fun k =>
    decide (off ≤ (k - e * 2 ^ 41) * 128) && decide ((k - e * 2 ^ 41) * 128 + 128 ≤ off + n))
  { s with pool := { s.pool with poison := s.pool.poison.filter (fun k => !full.contains k) } }

/-! ## Capacities and quotas (R98, R109–R112) -/

def gib : Nat := 1073741824

/-- T1 reservable capacity: HBM in service less every region of Table 4.3. -/
def State.t1Reservable (s : State) : Nat :=
  (512 - 64 * s.flt.stacksLost.length) * gib
    - (8 * gib + s.rd od2300_OVERFLOW_SIZE 0 * gib + s.rd od4880_TRACE_SIZE 0 * gib
       + s.rd od3000_H_CAPACITY 0 * gib / 4 + s.rd od2C00_CACHE_SIZE 0 * gib)

/-- A home slice has failed: its quadrant or one of its HBM stacks is lost (R403, R427). -/
def State.sliceLost (s : State) (q : Nat) : Bool :=
  s.flt.quadsLost.contains q || s.flt.stacksLost.contains (2 * q) || s.flt.stacksLost.contains (2 * q + 1)

/-- Granule numbers of T2: granule n of the device on CXL port p is p / 4 × 2^24 + n (log entry 15). -/
def regionBase (r : DcRegion) : Nat := r.port.val / 4 * 16777216 + r.first

/-- The lowest granule of the CXL devices that holds nothing. -/
def State.t2Loc (s : State) : Option Nat :=
  let used := s.pool.gran.filterMap (fun kv => if kv.2.tier = 2 then some kv.2.loc else none)
  (s.ports.regions.filter (fun r => !s.ports.failed.contains r.port.val)).findSome? (fun r =>
    ((List.range (used.length + 1)).map (regionBase r + ·)).find? (fun n => decide (n < regionBase r + r.count) && !used.contains n))

/-- A granule whose bytes are on a lost tray (R325, R113). -/
def State.trayLost (s : State) (e g : Nat) : Bool :=
  (s.gran e g).tier == 2 && s.ports.failed.contains (4 * ((s.gran e g).loc / 16777216))

/-- T2 reservable capacity: the dynamic capacity that the CXL devices have added (R325). -/
def State.t2Reservable (s : State) : Nat :=
  min (32 * 1024 * gib)
    ((s.ports.regions.filter (fun r => !s.ports.failed.contains r.port.val)).foldl (fun a r => a + r.count * granuleBytes) 0)

/-- Reservable capacity of a tier, 1 to 3. -/
def State.reservable (s : State) (tier : Nat) : Nat :=
  if tier = 1 then s.t1Reservable else if tier = 2 then s.t2Reservable else s.t3Reservable

def odUsed (tier : Nat) : Ent := if tier = 1 then od2830_T1_USED else if tier = 2 then od2830_T2_USED else od2830_T3_USED
def odReserve (tier : Nat) : Ent :=
  if tier = 1 then od2830_T1_RESERVE else if tier = 2 then od2830_T2_RESERVE else od2830_T3_RESERVE
def odQuota (tier : Nat) : Ent :=
  if tier = 1 then od2830_T1_QUOTA else if tier = 2 then od2830_T2_QUOTA else od2830_T3_QUOTA

/-- Bytes allocated in a tier by every herd. -/
def State.allocated (s : State) (tier : Nat) : Nat := (odListed s.od (odUsed tier)).foldl (fun a kv => a + kv.2) 0

/-- Free capacity of a tier (OD 2C00.07–.09). -/
def State.freeCap (s : State) (tier : Nat) : Nat := s.reservable tier - s.allocated tier

/-- The unused part of the ACTIVE herds' reservations in a tier (R111). -/
def State.unusedReserve (s : State) (tier : Nat) : Nat :=
  s.activeHerds.foldl (fun a n => a + (s.rd (odReserve tier) n - s.rd (odUsed tier) n)) 0

/-- R111: herd `h` may allocate `n` bytes in a tier. -/
def State.mayAllocate (s : State) (h tier n : Nat) : Bool :=
  let used := s.rd (odUsed tier) h + n
  let within := decide (used ≤ s.rd (odReserve tier) h)
  decide (n ≤ s.freeCap tier) &&
  (if s.openHerd h then
     within || (decide (used ≤ s.rd (odQuota tier) h) && decide (n + s.unusedReserve tier ≤ s.freeCap tier))
   else within)

/-- Give an extent's granule a place in its tier of record and charge it. -/
def State.giveGranule (s : State) (e g : Nat) : State :=
  let tier := s.extPlace e + 1
  let h := s.extHerd e
  let loc := if tier = 2 then s.t2Loc.getD 0 else s.pool.nextLoc % 2 ^ 32
  let s1 := s.setGran e g { granNew with tier := tier, loc := loc }
  ({ s1 with pool := { s1.pool with nextLoc := s1.pool.nextLoc + 1 } }).wr (odUsed tier) h (s.rd (odUsed tier) h + granuleBytes)

/-- Allocate a granule of an extent in its tier of record, if it is not allocated yet (R101). -/
def State.allocate (s : State) (e g : Nat) : Option State :=
  if (s.gran e g).tier ≠ 0 then some s
  else if s.mayAllocate (s.extHerd e) (s.extPlace e + 1) granuleBytes then some (s.giveGranule e g)
  else none

/-! ## The dirty ceiling (R105–R107) -/

/-- A flash-shelf port counts as up: a tray port in STATE 3 whose shelf is accepted. -/
def State.shelfUp (s : State) (p : Nat) : Bool := s.rd od2C30_STATE p == 1 && s.rd od2118_STATE p == 3

def State.effectiveBw (s : State) : Nat :=
  let acc := (odListed s.od od2C30_STATE).filter (fun kv => kv.2 == 1)
  if acc.isEmpty then 0
  else s.rd od2C10_FLUSH_BW 0 * (acc.filter (fun kv => s.shelfUp kv.1)).length / acc.length

/-- The formula of R105. -/
def State.ceilingNow (s : State) : Nat :=
  let eh := s.rd od4C20_HOLDUP_J 0
  let rj := s.rd od2C10_RESERVE_J 0
  if eh ≤ rj then 0
  else s.effectiveBw * 1000000 * (eh - rj) / s.rd od2C10_FLUSH_POWER 0 / 65536 * 65536

/-- The sum of the dirty reserves of the ACTIVE herds (R106). -/
def State.dirtyReserves (s : State) : Nat := s.activeHerds.foldl (fun a n => a + s.rd od2830_DIRTY_RESERVE n) 0

/-- Recompute the ceiling, the flush bandwidth in it and the flush reserve, and say so if the ceiling falls below the dirty
bytes or the reserves (R105, R107, R351). -/
def State.recompute (s : State) : State :=
  let s1 := s.wr od2C10_EFFECTIVE_BW 0 s.effectiveBw
  let old := s.rd od2C10_CEILING 0
  let new := s1.ceilingNow
  let s2 := (s1.wr od2C10_CEILING 0 new).wr od2C20_RESERVE_BLOCKS 0 (s1.reserveBlocks new)
  let dirty := s.rd od2C10_DIRTY_BYTES 0
  if new < dirty ∨ new < s.dirtyReserves then
    if new < old then ({ s2 with pool := { s2.pool with cleanAll := true } }).emit 0 evCeilingExceeded 0 7 0 0 [new, dirty]
    else s2
  else { s2 with pool := { s2.pool with cleanAll := false } }

/-- The flash-shelf ports that are up have changed: recompute the ceiling (R105). -/
def State.bandwidth (s : State) : State := if s.rd od2C10_EFFECTIVE_BW 0 = s.effectiveBw then s else s.recompute

def popcount (b : BitVec 32) : Nat := ((List.range 32).filter (fun i => b.getLsbD i)).length

/-- A herd's dirty bytes: the dirty chunks of the PERSIST extents it owns. -/
def State.herdDirty (s : State) (h : Nat) : Nat :=
  s.pool.gran.foldl (fun a kv =>
    let e := kv.1 / 2 ^ 32
    if s.extHerd e = h ∧ s.extPersist e then a + popcount kv.2.dirty * chunkBytes else a) 0

/-- The sum of every herd's dirty bytes above its reserve. -/
def State.dirtyExcess (s : State) : Nat :=
  ((s.extents.filter s.extPersist).map s.extHerd).eraseDups.foldl
    (fun a h => a + (s.herdDirty h - s.rd od2830_DIRTY_RESERVE h)) 0

/-- How a store that would set a clear DIRTY bit of a PERSIST extent is handled (R106, R107). -/
inductive DirtyWay where
  | apply | hold | through
  deriving DecidableEq, Repr

def State.dirtyWay (s : State) (h : Nat) : DirtyWay :=
  let c := s.rd od2C10_CEILING 0
  if c = 0 then .through
  else if s.pool.cleanAll && decide (c ≤ s.rd od2C10_DIRTY_BYTES 0) then .hold
  else if s.herdDirty h < s.rd od2830_DIRTY_RESERVE h then .apply
  else if s.dirtyExcess < c - s.dirtyReserves then .apply
  else .hold

/-! ## Records to rings (R166, R174) -/

/-- The extent and offset of an address of a ring of a herd, if a local extent holds it. -/
def State.ringAt (s : State) (ring a : Nat) : Option (Nat × Nat) :=
  match s.extAt (s.rd od3410_HERD ring) a with
  | some e => if (s.extSlice e).isSome then some (e, a - s.extBase e) else none
  | none => none

/-- A 32-bit index of a ring's control block: word 0 PI, word 1 CI (Table 6.5). -/
def State.ringIndex (s : State) (ring word : Nat) : Nat :=
  match s.ringAt ring (s.rd od3410_CTRL ring) with
  | some (e, off) => leNat (s.readPool e (off + 8 * word) 4)
  | none => 0

/-- Write an index of the control block. -/
def State.setRingIndex (s : State) (ring word v : Nat) : State :=
  match s.ringAt ring (s.rd od3410_CTRL ring) with
  | some (e, off) =>
    match s.allocate e ((off + 8 * word) / granuleBytes) with
    | some s1 => s1.writePool e (off + 8 * word) (toLe 4 v)
    | none => s
  | none => s

def ringNew : RingState := ⟨0, 0, [], 0⟩
def State.ring (s : State) (r : Nat) : RingState := sparseGet ringNew s.cpu.rings r
def State.setRing (s : State) (r : Nat) (x : RingState) : State :=
  { s with cpu := { s.cpu with rings := sparseSet ringNew s.cpu.rings r x } }

/-- Slots of an event ring that are neither written and unread nor reserved. -/
def State.ringFree (s : State) (ring : Nat) : Nat :=
  s.rd od3410_SLOTS ring
    - ((s.ringIndex ring 0 + 2 ^ 32 - s.ringIndex ring 1) % 2 ^ 32 + (s.ring ring).reserved)

/-- Write a 64-B record to the next slot of a running event ring and advance its PI; none if the write cannot be made. -/
def State.post (s : State) (ring : Nat) (rec_ : List Byte) : Option State :=
  if s.rd od3410_STATE ring ≠ 1 then none
  else
    let pi := s.ringIndex ring 0
    let a := s.rd od3410_BASE ring + 64 * (pi % s.rd od3410_SLOTS ring)
    match s.ringAt ring a with
    | some (e, off) =>
      if s.extState e = 3 then none
      else
        match s.allocate e (off / granuleBytes) with
        | some s1 => some ((s1.writePool e off rec_).setRingIndex ring 0 ((pi + 1) % 2 ^ 32))
        | none => none
    | none => none

/-- Give a reserved slot of an event ring back. -/
def State.unreserve (s : State) (ring : Nat) : State :=
  s.setRing ring { s.ring ring with reserved := (s.ring ring).reserved - 1 }

/-- Write the records that wait for a ring, oldest first, until none can be written: a completion goes into its reserved slot,
and another record needs a free one (R173, R175). -/
def State.payOwed (s : State) (ring : Nat) : Nat → State
  | 0 => s
  | n + 1 =>
    match s.cpu.owed.find? (fun x => x.ring == ring && (x.cid != 0 || s.ringFree ring != 0)) with
    | none => s
    | some x =>
      match s.post ring x.bytes with
      | some s1 =>
        let s2 := { s1 with cpu := { s1.cpu with owed := s1.cpu.owed.erase x } }
        (if x.cid = 0 then s2 else s2.unreserve ring).payOwed ring n
      | none => s

/-- Write a record to an event ring, or hold it until the ring can take it; a closing herd's record that cannot be written is
not kept (R175). -/
def State.postOrOwe (s : State) (ring cid : Nat) (rec_ : List Byte) : State :=
  if s.herdState (s.rd od3410_HERD ring) = 3 ∧ (s.post ring rec_).isNone then (if cid = 0 then s else s.unreserve ring) else
  let s1 := { s with cpu := { s.cpu with owed := s.cpu.owed ++ [OwedRec.mk ring cid rec_] } }
  s1.payOwed ring s1.cpu.owed.length

/-- Keep OD 3C00.02. -/
def State.ownKept (s : State) : State := s.wr od3C00_RECORDS 0 s.own.length

def State.dropOwn (s : State) (p : OwnRec → Bool) : State := ({ s with own := s.own.filter (fun r => !p r) }).ownKept

end Sys2Proof.Machine
end

