-- ==== Sys2Proof/Machine/TransportOps.lean ====
section
/-! DEFINITION. Named operations of the transport: answers of requests, routes, the classification of frames, the switch
core's queues, and the link layer (chapters 3, 11, 12, 13). -/

namespace Sys2Proof.Machine

/-! ## Answers (R80–R83) -/

/-- The 16 steps of load feedback for a queue of `d` cells (R88). -/
def State.feedback (s : State) (d : Nat) : Nat := min 15 (16 * d / s.rd od2200_LF_SCALE 0)

/-- Cells of a frame (R282). -/
def cellsOf (bytes : Nat) : Nat := ceilDiv bytes 256

/-- The requests that wait at the homes: held, behind a line's transaction, or not yet admitted to rut. -/
def State.homeQueue (s : State) : List Req :=
  s.pool.held.map (·.req) ++ s.coh.waits.filterMap (·.req) ++ s.coh.rut.flatMap (fun l => l.waiting.map (·.req))

/-- Depth of a home slice's request queue, in cells, as R315 counts it for a herd. -/
def State.homeDepth (s : State) (q herd : Nat) : Nat :=
  (s.homeQueue.filter (fun r => s.extSlice r.ext == some q &&
    (if s.timeGated herd then r.hdr.herd.toNat == herd else !s.timeGated r.hdr.herd.toNat))).foldl
      (fun a r => a + cellsOf (reqBytes r.payload)) 0

/-- Whether an operation's response carries data, an acknowledgement or an OD value. -/
def respKind : ReqOp → RespOp
  | .load | .loadc | .atomic _ => .data
  | .mgmtRead | .mgmtWrite => .mgmt
  | _ => .ack

/-- The payload of a response: the data, or the poison word when a RESP_DATA fails (R83). -/
def respPayload (op : ReqOp) (h : ReqHdr) (code : Nat) (data : List Byte) : List Byte :=
  match respKind op with
  | .data => if code = 0 then data else poisonBytes (respDataLen op h)
  | .ack => []
  | .mgmt => data

/-- The response to a request (Table 3.6). -/
def mkResp (r : Req) (code detail lf : Nat) (data : List Byte) : RespMsg :=
  let p := respPayload r.op r.hdr code data
  { sender := r.sender, op := respKind r.op, payload := p,
    hdr := { cls := r.hdr.cls, res0 := 0, herd := r.hdr.herd, src := r.hdr.dst, dst := r.hdr.src,
             len := BitVec.ofNat 8 (p.length / 8 - 1), tag := r.hdr.tag, code := BitVec.ofNat 8 code,
             lf := BitVec.ofNat 4 lf, res1 := 0, detail := BitVec.ofNat 32 detail, psn := r.hdr.psn, res2 := 0 } }

/-- Mark a request as executed: its response is in flight. -/
def State.markAnswered (s : State) (id : Nat) : State :=
  { s with tr := { s.tr with outstanding := s.tr.outstanding.map (fun r =>
      if r.id = id then { r with place := .answered } else r) } }

/-- Send the response of a request into the package. -/
def State.answer (s : State) (r : Req) (code detail : Nat) (data : List Byte) : State :=
  let lf := s.feedback (match s.homeSlice r.dest with | some q => s.homeDepth q r.hdr.herd.toNat | none => 0)
  let s1 := s.markAnswered r.id
  { s1 with tr := { s1.tr with resps := s1.tr.resps ++ [mkResp r code detail lf data] } }

/-! ## Where an endpoint is (R332–R334, Table 15.11) -/

/-- The port whose binding holds an endpoint ID. -/
def State.boundPort (s : State) (ep : Nat) : Option Nat :=
  ((odListed s.od od2810_ENDPOINT).find? (fun kv => kv.2 == ep && s.rd od2810_ROLE kv.1 == 1)).map (·.1)

/-- An endpoint ID names a unit inside this A9: the companion, a tine, a unit of Table 15.11 or a reduce endpoint. -/
def State.internalEp (s : State) (ep : Nat) : Bool :=
  (ep == s.rd od1100_COMPANION_EP 0 ||
   (decide (s.rd od1100_TINE_BASE 0 ≠ 0xFFFF) && decide (s.rd od1100_TINE_BASE 0 ≤ ep) && decide (ep < s.rd od1100_TINE_BASE 0 + 256)) ||
   (decide (s.rd od1100_UNIT_BASE 0 ≠ 0xFFFF) && decide (s.rd od1100_UNIT_BASE 0 ≤ ep) && decide (ep < s.rd od1100_UNIT_BASE 0 + 16)) ||
   [od3840_REDUCE_EP0, od3840_REDUCE_EP1, od3840_REDUCE_EP2, od3840_REDUCE_EP3].any (fun e => s.rd e 0 == ep))
  && ep != 0xFFFF

/-- The A9 that holds an endpoint (R332): none where the location is unknown. -/
def State.locate (s : State) (ep : Nat) : Option Nat :=
  if ep ≥ 0xFFFF then none
  else
    let a := s.rd od2120_LOCATION ep
    if a = 0xFF then none else some a

/-- An endpoint is on this A9. -/
def State.isHere (s : State) (ep : Nat) : Bool := s.locate ep == some (s.rd od2100_A9_NUMBER 0)

/-- Slot i (1–5) of the route entry of a destination A9 (Table 13.6), as its three words. -/
def State.routeSlot (s : State) (d i : Nat) : Nat :=
  s.rd (if i = 1 then od2130_SLOT1 else if i = 2 then od2130_SLOT2 else if i = 3 then od2130_SLOT3
    else if i = 4 then od2130_SLOT4 else od2130_SLOT5) d

/-- The port of a route slot. -/
def slotPort (v : Nat) : Nat := v % 256

/-- The link IDs that a route slot depends on: those with V set (R333). -/
def slotLinks (v : Nat) : List Nat :=
  ((List.range 8).map (fun i => v / 2 ^ (64 * (1 + i / 4) + 48 - 16 * (i % 4)) % 65536)).filter (fun l => bitAt l 15)

/-- Name of a link by the A9 number and port of one of its ends (R333). -/
def linkId (a9 port : Nat) : Nat := 0x8000 + a9 % 64 * 256 + port % 256

/-- The other name of a trunk link of this A9: its far end (R333). -/
def State.linkAlias (s : State) (l : Nat) : List Nat :=
  let me := s.rd od2100_A9_NUMBER 0
  if bitsOf l 13 8 = me then
    let p := l % 256
    if s.rd od2118_FAR_A9 p = 0xFF then [l] else [l, linkId (s.rd od2118_FAR_A9 p) (s.rd od2118_FAR_PORT p)]
  else [l]

/-- A slot is usable (R334). -/
def State.slotUsable (s : State) (v : Nat) : Bool :=
  let p := slotPort v
  bitAt v 63 && s.rd od2810_ROLE p == 2 && s.rd od2118_STATE p == 3 &&
  (slotLinks v).all (fun l => !(s.linkAlias l).any (s.ports.downSet.contains ·))

/-- The lowest-numbered usable slot of a destination, or 0 (R334). -/
def State.bestSlot (s : State) (d : Nat) : Nat :=
  ([1, 2, 3, 4, 5].find? (fun i => s.slotUsable (s.routeSlot d i))).getD 0

/-- The port toward a destination A9: that of the slot in use. -/
def State.routePort (s : State) (d : Nat) : Option Nat :=
  let i := s.rd od2130_IN_USE d
  if i = 0 then none else some (slotPort (s.routeSlot d i))

/-- A port is up: STATE 3 (R327), and its unit is not still. -/
def State.portUp (s : State) (p : Nat) : Bool := s.rd od2118_STATE p == 3 && !s.halted

/-- The port on which a frame for an endpoint leaves: the port it is bound to, or that of the route to its A9 (R332). -/
def State.pathTo (s : State) (ep : Nat) : Option Nat :=
  match s.boundPort ep with
  | some p => if s.portUp p then some p else none
  | none => match s.locate ep with
    | some d => if d = s.rd od2100_A9_NUMBER 0 then none else s.routePort d
    | none => none

/-- The next PSN from a source to a home (R86). -/
def State.takePsn (s : State) (src dst : Nat) : Nat × State :=
  let k := src * 65536 + dst
  let n := sparseGet 0 s.tr.psn k
  (n, { s with tr := { s.tr with psn := sparseSet 0 s.tr.psn k ((n + 1) % 2 ^ 32) } })

/-- A header with every field 0 but those of a request that starts inside the A9 (R28). -/
def hdrFor (cls herd src dst tag psn : Nat) : ReqHdr :=
  { cls := BitVec.ofNat 3 cls, rlx := false, rtx := false, res0 := false, herd := BitVec.ofNat 12 herd,
    src := BitVec.ofNat 16 src, dst := BitVec.ofNat 16 dst, len := 0, tag := BitVec.ofNat 16 tag, attr := 0, res1 := 0,
    val := 0, res2 := 0, addr := 0, aux := 0, psn := BitVec.ofNat 32 psn, res4 := 0 }

/-! ## Bodies of frames -/

/-- The frame of a request. -/
def Req.body (r : Req) : FrameBody :=
  match r.op with
  | .coll op h => .coll op { h with rtx := r.hdr.rtx } r.payload
  | _ => .req r.op r.hdr r.payload

def bodyBytes : FrameBody → Nat
  | .req _ _ p => 56 + p.length
  | .resp _ _ p => 40 + p.length
  | .coll _ _ p => 56 + p.length

def bodyHerd : FrameBody → Nat
  | .req _ h _ => h.herd.toNat
  | .resp _ h _ => h.herd.toNat
  | .coll _ h _ => h.herd.toNat

def bodyClass : FrameBody → Nat
  | .req _ h _ => h.cls.toNat
  | .resp _ h _ => h.cls.toNat
  | .coll _ h _ => h.cls.toNat

def bodySrc : FrameBody → Nat
  | .req _ h _ => h.src.toNat
  | .resp _ h _ => h.src.toNat
  | .coll _ h _ => h.src.toNat

def bodyDst : FrameBody → Nat
  | .req _ h _ => h.dst.toNat
  | .resp _ h _ => h.dst.toNat
  | .coll _ h _ => h.dst.toNat

def isResp : FrameBody → Bool
  | .resp _ _ _ => true
  | _ => false

/-! ## Transmit queues (R299–R303, R312–R314) -/

def odMaxframe (c : Nat) : Ent := ⟨0x2450, 6 + c % 8⟩

/-- The classification key of Table 12.2. -/
def classKey (b : FrameBody) (ingress : Option PortId) (egress : Nat) : Nat :=
  bodyHerd b + bodySrc b * 2 ^ 12 + bodyDst b * 2 ^ 28 + bodyClass b * 2 ^ 44 + (if isResp b then 2 ^ 47 else 0)
    + (match ingress with | some p => p.val * 2 ^ 48 | none => 2 ^ 64) + egress * 2 ^ 56

/-- The search that classification makes for a frame, where a classification set runs (R280, R301): its effects. -/
def State.classifySearch (s : State) (b : FrameBody) (ingress : Option PortId) (egress : Nat) : State :=
  let set := s.rd od2408_CLASS_SET 0
  if set ≥ 4096 ∨ s.rd od4010_STATE set ≠ 1 ∨ s.rd od4010_HERD set ≠ 0 then s
  else s.searched (bodyHerd b) set (s.searchSet set (classKey b ingress egress) none)

/-- The queue that classification selects (R301) and whether it is the default for want of another. -/
def State.classify (s : State) (b : FrameBody) (ingress : Option PortId) (egress : Nat) : Nat × Bool :=
  let dflt := (8 * egress + bodyClass b, true)
  let set := s.rd od2408_CLASS_SET 0
  if set ≥ 4096 ∨ s.rd od4010_STATE set ≠ 1 ∨ s.rd od4010_HERD set ≠ 0 then dflt
  else
    match (s.searchSet set (classKey b ingress egress) none).hit with
    | none => dflt
    | some (_, v) =>
      let r := entryResult v
      let q := r % 2 ^ 18
      if bitAt r 63 && s.rd od2400_TYPE q == 1 && s.rd od2400_PORT q == egress && s.rd od2400_CLASS q == bodyClass b
          && (s.rd od2400_HERD q == bodyHerd b || s.rd od2400_HERD q == 0) then (q, false)
      else dflt

/-- The time-gated herd that owns a class on a port by a transmit queue there (R313), if any. -/
def State.gatedOwner (s : State) (port cls : Nat) : Option Nat :=
  ((odListed s.od od2800_TIME_GATED).map (·.1)).find? (fun h => s.timeGated h && s.rd od2470_TG_CLASS h == cls &&
    ((odListed s.od od2400_HERD).any (fun kv => kv.2 == h && s.rd od2400_TYPE kv.1 == 1 && s.rd od2400_PORT kv.1 == port)))

/-- R314 refuses a frame at its egress port. -/
def State.gateBreak (s : State) (b : FrameBody) (queue port : Nat) : Bool :=
  if s.timeGated (bodyHerd b) then s.rd od2400_HERD queue != bodyHerd b
  else (s.gatedOwner port (bodyClass b)).isSome

/-! ## FRAME records (Table 18.7) -/

/-- The opcode of a frame's body. -/
def bodyOpcode : FrameBody → Nat
  | .req op _ _ => opcodeOf op
  | .resp .data _ _ => 0x38
  | .resp .ack _ _ => 0x39
  | .resp .mgmt _ _ => 0x3A
  | .coll op h _ => opcodeOf (.coll op h)

/-- Word W2 of a collective header (Table 8.5). -/
def collWord2 (h : CollHdr) : Nat :=
  h.ctx.toNat * 2 ^ 50 + h.res2.toNat * 2 ^ 48 + h.chunk.toNat * 2 ^ 24 + h.res2b.toNat * 2 ^ 12 + h.member.toNat

/-- The trace event of a frame that comes in at a port (`out` 0) or leaves there (1). -/
def frameEvent (p out : Nat) (b : FrameBody) : TraceEvent :=
  let code := match b with | .resp _ h _ => h.code.toNat | _ => 0
  let (tag, len, w3) := match b with
    | .req _ h _ => (h.tag.toNat, h.len.toNat, h.addr.toNat)
    | .resp _ h _ => (h.tag.toNat, h.len.toNat, h.psn.toNat * 2 ^ 32)
    | .coll _ h _ => (h.tag.toNat, h.len.toNat, collWord2 h)
  { type_ := 1, herd := bodyHerd b, kind := 1, unit := p,
    tdata := bodyOpcode b * 2 ^ 22 + bodyClass b * 2 ^ 19 + out * 2 ^ 18 + code,
    w2 := bodySrc b * 2 ^ 48 + bodyDst b * 2 ^ 32 + tag * 2 ^ 16 + len, w3 := w3, opc := some (bodyOpcode b) }

def bodyPayload : FrameBody → List Byte
  | .req _ _ p => p
  | .resp _ _ p => p
  | .coll _ _ p => p

def State.ctxAgg (s : State) (c : Nat) : Bool := s.rd od3800_AGG c == 1
def State.ctxRunning (s : State) (c : Nat) : Bool := s.rd od3800_STATE c == 1

/-- Trace of a frame on a port. No record carries a partial sum of an aggregation group: that of a PARTIAL is left out unless its
context runs here without AGG (R233). -/
def State.traceFrame (s : State) (p out : Nat) (b : FrameBody) : State :=
  let data := match b with
    | .coll .part h payload => if s.ctxRunning h.ctx.toNat && !s.ctxAgg h.ctx.toNat then payload else []
    | _ => bodyPayload b
  s.trace (portQuad p) (frameEvent p out b) data

/-! ## The packet buffer (R294, R295) -/

def State.herdUse (s : State) (q h : Nat) : Nat := sparseGet 0 s.sw.herdUse (q * 4096 + h)

/-- Sum of all BUF_RESERVE values. -/
def State.bufReserves (s : State) : Nat :=
  ((odListed s.od od2310_BUF_RESERVE).filter (fun kv => s.inForce kv.1)).foldl (fun a kv => a + kv.2) 0

def State.sharedPool (s : State) : Nat := 98304 - s.rd od2300_RESP_RESERVE 0 - s.bufReserves

def odOverflowUsed (q : Nat) : Ent := ⟨0x2300, 9 + q % 4⟩
def odOndieUsed (q : Nat) : Ent := ⟨0x2300, 5 + q % 4⟩

/-- Cells of a quadrant's quarter of the overflow carve-out. -/
def State.overflowCells (s : State) : Nat := s.rd od2300_OVERFLOW_SIZE 0 * gib / 256 / 4

/-- The source that R295 draws `n` cells from: 1 herd reserve, 2 response reserve, 3 shared pool, 4 overflow, 0 none. -/
def State.cellSource (s : State) (q herd n : Nat) (resp : Bool) : Nat :=
  if s.inForce herd ∧ s.herdUse q herd + n ≤ s.rd od2310_BUF_RESERVE herd then 1
  else if s.timeGated herd then 0
  else if resp && decide (quadGet s.sw.respUse q + n ≤ s.rd od2300_RESP_RESERVE 0) then 2
  else if quadGet s.sw.poolUse q * 100 < s.rd od2300_SPILL_AT 0 * s.sharedPool ∧
      quadGet s.sw.poolUse q + n ≤ s.sharedPool then 3
  else if s.rd (odOverflowUsed q) 0 + n ≤ s.overflowCells then 4
  else 0

/-- Charge (or free, with `add` false) the cells of a frame to its source. -/
def State.charge (s : State) (q herd src n : Nat) (add : Bool) : State :=
  let f := fun (x : Nat) => if add then x + n else x - n
  let s1 :=
    if src = 1 then { s with sw := { s.sw with herdUse := sparseSet 0 s.sw.herdUse (q * 4096 + herd) (f (s.herdUse q herd)) } }
    else if src = 2 then { s with sw := { s.sw with respUse := quadSet s.sw.respUse q (f (quadGet s.sw.respUse q)) } }
    else if src = 3 then { s with sw := { s.sw with poolUse := quadSet s.sw.poolUse q (f (quadGet s.sw.poolUse q)) } }
    else s
  if src = 4 then s1.wr (odOverflowUsed q) 0 (f (s1.rd (odOverflowUsed q) 0))
  else if src = 0 then s1
  else s1.wr (odOndieUsed q) 0 (f (s1.rd (odOndieUsed q) 0))

/-- The working endpoints, of four, of the die-to-die link between two quadrants (R403). -/
def State.d2dUp (s : State) (a b : Nat) : List Nat :=
  let down := sparseGet 0 s.flt.d2dDown (4 * min a b + max a b)
  [0, 1, 2, 3].filter (fun i => !bitAt down i)

/-- The output endpoint of a quadrant's crossbar for a frame that leaves on a port (R285, R290). -/
def State.outEnd (s : State) (quad : Nat) (b : FrameBody) (p : Nat) : Nat :=
  if portQuad p = quad then portEnd p
  else
    let up := s.d2dUp quad (portQuad p)
    16 + 4 * ((portQuad p + 3 - quad) % 4) + up.getD (Config.d2dHash (bodySrc b) (bodyDst b) (bodyClass b) % max 1 up.length) 0

/-- A reduce unit works: its quadrant is not lost and the unit has not failed. -/
def State.unitOk (s : State) (q u : Nat) : Bool :=
  !s.flt.quadsLost.contains q && !s.flt.unitsFailed.contains (16 * q + u)

/-- The reduce unit that serves a chunk: CHUNK mod 16, or the next working one (R286, R426). -/
def State.unitFor (s : State) (q chunk : Nat) : Nat :=
  ((List.range 16).map (fun i => (chunk + i) % 16)).find? (fun u => s.unitOk q u) |>.getD (chunk % 16)

def State.ctxRoot (s : State) (c : Nat) : Bool := s.rd od3800_PARENT c == 0xFFFF

/-- A frame of a herd may not leave on this port: a trunk with ENCRYPT 0, for a sealed herd or an aggregation PARTIAL (R395). -/
def State.trunkBarred (s : State) (p herd : Nat) (agg : Bool) : Bool :=
  s.rd od2810_ROLE p == 2 && s.rd od4150_ENCRYPT p == 0 && (agg || s.sealedHerd herd)

/-- Put a frame into the switch core toward ports of this A9 (R282, R283, R287, R295). The frame draws its cells where it
came in: `quad` and `inEnd`. -/
def State.enqueue (s : State) (quad inEnd : Nat) (ingress : Option PortId) (ports : List PortId) (b : FrameBody) : State :=
  let n := cellsOf (bodyBytes b)
  let outs := (ports.map (fun p => s.outEnd quad b p.val)).eraseDups
  let busy := s.sw.voq.any (fun f => f.quad == quad && f.inEnd == inEnd && f.cls == bodyClass b && f.left.any (fun x => outs.contains x.1))
  let landed := s.sw.voq.any (fun f => f.express && f.quad == quad && f.inEnd == inEnd)
  let txBusy := s.sw.tx.any (fun f => ports.contains f.port && f.queue == (s.classify b ingress (f.port.val)).1)
  let express := decide (n = 1) && !busy && !txBusy && !landed
  let src := if express then 0 else s.cellSource quad (bodyHerd b) n (isResp b)
  let f : SwFrame :=
    { id := s.sw.nextId, quad := quad, inEnd := inEnd, ports := ports, cls := bodyClass b, herd := bodyHerd b,
      cells := n, left := outs.map (fun o => (o, n)), source := src, body := b, ingress := ingress, owes := ingress.isSome,
      express := express, answers := none }
  let s1 := ({ s with sw := { s.sw with voq := s.sw.voq ++ [f], nextId := s.sw.nextId + 1 } }).charge quad (bodyHerd b) src n true
  let s2 := if src = 4 then s1.tally (bodyHerd b) (0x6C0 + 16 * quad + 3) 1 else s1
  s2.tally (bodyHerd b) (0x6C0 + 16 * quad + (if express then 1 else 2)) 1

/-- Send a response frame toward a port, unless R314 discards it. -/
def State.sendResp (s : State) (quad inEnd : Nat) (p : PortId) (b : FrameBody) : State :=
  let c := s.classify b none p.val
  if s.gateBreak b c.1 p.val then s.bump od2408_TM_DISCARDS 0 64 1
  else s.enqueue quad inEnd none [p] b

/-! ## The link layer (R70, R71, R296) -/

def linkNew : LinkState := ⟨0, 0, [], 0, 0, [0, 0, 0, 0, 0, 0, 0, 0], [0, 0, 0, 0, 0, 0, 0, 0], [0, 0, 0, 0, 0, 0, 0, 0], false⟩

def State.link (s : State) (p : Nat) : LinkState := sparseGet linkNew s.tr.links p
def State.setLink (s : State) (p : Nat) (l : LinkState) : State :=
  { s with tr := { s.tr with links := sparseSet linkNew s.tr.links p l } }

def listGet (l : List Nat) (i : Nat) : Nat := l.getD i 0
def listSet (l : List Nat) (i v : Nat) : List Nat := l.set i v

/-- A frame is sent on a port: with ENCRYPT 1 it takes the next value of the direction's counter (R394). -/
def State.sendOn (s : State) (p : PortId) (o : OutItem) : State :=
  let s1 := s.send o
  if s1.rd od4150_ENCRYPT p.val = 1 then
    { s1 with sec := { s1.sec with linkTx := sparseSet 0 s1.sec.linkTx p.val (sparseGet 0 s1.sec.linkTx p.val + 1) } }
  else s1

/-- What a transmitter learns from an envelope: frames up to ACKSEQ are acknowledged, and CREDITS cells of class CCLASS
come back. Progress restarts the replay count and the timer (R71). -/
def State.linkLearn (s : State) (p : Nat) (env : LinkEnv) : State :=
  let l := s.link p
  let acked := fun (f : SentFrame) => decide ((env.ackseq.toNat + 65536 - f.seq) % 65536 < 32768)
  let left := l.unacked.filter (fun f => !acked f)
  let progress := decide (left.length < l.unacked.length)
  let c := env.cclass.toNat
  s.setLink p { l with unacked := left, replays := if progress then 0 else l.replays,
                       timer := if progress then s.clk else l.timer,
                       credits := listSet l.credits c (listGet l.credits c + env.credits.toNat) }

/-- A frame is missing: one NAK for the gap, until the expected frame comes (R70). -/
def State.nakGap (s : State) (p : PortId) : State :=
  let l := s.link p.val
  if l.gap then s else (s.setLink p.val { l with gap := true }).sendOn p (.nak p ((l.rxSeq + 65535) % 65536))

/-! ## Frames as sent (Tables 3.1, 3.2, 3.6, 8.5) -/

/-- The first word of every header; `low` are the bits between CLASS and HERD. -/
def headWord (opc cls low herd src dst len : Nat) : Nat :=
  opc * 2 ^ 58 + cls * 2 ^ 55 + low * 2 ^ 52 + herd * 2 ^ 40 + src * 2 ^ 24 + dst * 2 ^ 8 + len

def flagBits (rlx rtx res0 : Bool) : Nat := (if rlx then 4 else 0) + (if rtx then 2 else 0) + (if res0 then 1 else 0)

/-- The words of a frame's header. -/
def headerWords (b : FrameBody) : List Nat :=
  let opc := bodyOpcode b
  match b with
  | .req _ h _ =>
    [headWord opc h.cls.toNat (flagBits h.rlx h.rtx h.res0) h.herd.toNat h.src.toNat h.dst.toNat h.len.toNat,
     h.tag.toNat * 2 ^ 48 + h.attr.toNat * 2 ^ 40 + h.res1.toNat * 2 ^ 32 + h.val.toNat,
     h.res2.toNat * 2 ^ 57 + h.addr.toNat, h.aux.toNat, h.psn.toNat * 2 ^ 32 + h.res4.toNat]
  | .resp _ h _ =>
    [headWord opc h.cls.toNat h.res0.toNat h.herd.toNat h.src.toNat h.dst.toNat h.len.toNat,
     h.tag.toNat * 2 ^ 48 + h.code.toNat * 2 ^ 40 + h.lf.toNat * 2 ^ 36 + h.res1.toNat * 2 ^ 32 + h.detail.toNat,
     h.psn.toNat * 2 ^ 32 + h.res2.toNat]
  | .coll _ h _ =>
    [headWord opc h.cls.toNat (flagBits h.rlx h.rtx h.res0) h.herd.toNat h.src.toNat h.dst.toNat h.len.toNat,
     h.tag.toNat * 2 ^ 48 + h.res1.toNat * 2 ^ 32 + h.step.toNat, collWord2 h, h.aux.toNat, h.psn.toNat * 2 ^ 32 + h.res4.toNat]

/-- A word as it is sent, most significant byte first. -/
def wordBytes (w : Nat) : List Byte := (toLe 8 w).reverse

/-- The link envelope with NAK 0. -/
def envWord (e : LinkEnv) (flen : Nat) : Nat :=
  e.seq.toNat * 2 ^ 48 + e.ackseq.toNat * 2 ^ 32 + flen * 2 ^ 20 + e.cclass.toNat * 2 ^ 16 + e.credits.toNat

/-- A frame as it leaves on a port. Under encryption the CRC covers ciphertext (R394), which is open. -/
def State.wire (s : State) (p : PortId) (seq cclass credits : Nat) (b : FrameBody) : OutItem :=
  let e : LinkEnv := { seq := BitVec.ofNat 16 seq, ackseq := BitVec.ofNat 16 (((s.link p.val).rxSeq + 65535) % 65536),
                       cclass := BitVec.ofNat 3 cclass, credits := BitVec.ofNat 16 credits }
  let flen := ceilDiv (bodyBytes b) 8
  let crc := if s.rd od4150_ENCRYPT p.val = 1 then Config.cipherCrc p.val (sparseGet 0 s.sec.linkTx p.val) % 2 ^ 32
    else crc32c (wordBytes (envWord e flen) ++ (headerWords b).flatMap wordBytes ++ bodyPayload b)
  .frame p e flen crc b

/-- Receive the link part of a frame other than TIMEX. None: SEQ is not the next expected value, so the frame is dropped
and a NAK is sent for the gap (R70). -/
def State.linkReceive (s : State) (p : PortId) (env : LinkEnv) (b : FrameBody) : State × Bool :=
  let l := s.link p.val
  let c := bodyClass b
  if env.seq.toNat = l.rxSeq then
    ((s.setLink p.val { l with rxSeq := (l.rxSeq + 1) % 65536, gap := false,
                               out := listSet l.out c (listGet l.out c - cellsOf (bodyBytes b)) }).linkLearn p.val env, true)
  else (s.nakGap p, false)

/-- The credits that the ports of a quadrant have granted and not seen used, those on their way included. -/
def State.creditsOut (s : State) (q : Nat) : Nat :=
  ((s.tr.links.filter (fun kv => portQuad kv.1 == q && s.portUp kv.1)).flatMap (fun kv => kv.2.out ++ kv.2.owed)).foldl (· + ·) 0

/-- A source of R295 can supply `n` cells at a port's quadrant, the credits outstanding being allocated (R296). -/
def State.canSupply (s : State) (p : Nat) (n : Nat) : Bool :=
  let q := portQuad p
  let out := s.creditsOut q
  decide ((quadGet s.sw.poolUse q + out) * 100 < s.rd od2300_SPILL_AT 0 * s.sharedPool) ||
  decide (s.rd (odOverflowUsed q) 0 + out + n ≤ s.overflowCells)

/-- Return the credit of `n` freed cells of a class to the far end of a port, or hold it (R296). -/
def State.creditBack (s : State) (p : PortId) (c n : Nat) : State :=
  if s.canSupply p.val n then
    let l := s.link p.val
    s.setLink p.val { l with owed := listSet l.owed c (listGet l.owed c + n) }
  else
    (({ s with sw := { s.sw with heldCr := s.sw.heldCr ++ [HeldCredit.mk p c n] } }).bump od2300_CREDIT_HOLDS 0 64 n).count (0x6C0 + 16 * portQuad p.val + 5) n

end Sys2Proof.Machine
end

