-- ==== Sys2Proof/Machine/CacheOps.lean ====
section
/-! DEFINITION. The write-back cache in T1 and granule moves (R99, R102–R104). -/

namespace Sys2Proof.Machine

/-- Count an event of a home slice (Table 18.1) for an extent. -/
def State.homeCount (s : State) (e j k : Nat) : State :=
  match s.extSlice e with
  | some q => s.tally (s.extHerd e) (0x600 + 16 * q + j) k
  | none => s

/-- The ways that the masks of partitioned and sealed herds in an entry claim (R99, R139). -/
def State.claimedWays (s : State) (x : Ent) : Nat :=
  ((odListed s.od x).filter (fun kv => s.inForce kv.1)).foldl (fun a kv => a ||| kv.2) 0

/-- The ways of the cache with the masks of an entry that a herd may use. -/
def State.waysIn (s : State) (x : Ent) (h : Nat) : List Nat :=
  let claimed := s.claimedWays x
  let mask := if s.inForce h then s.rd x h else 0
  (List.range 16).filter (fun w => if s.openHerd h then !bitAt claimed w else bitAt mask w)

/-- The ways of the write-back cache that a herd may use. -/
def State.waysOf (s : State) (h : Nat) : List Nat := s.waysIn od2830_CACHE_WAYS h

/-- Sets of the cache: 16-way, over 2 MiB frames. -/
def State.cacheSets (s : State) : Nat := s.rd od2C00_CACHE_SIZE 0 * 512 / 16

def frameNone : CacheFrame := ⟨0, 0, 0⟩

def State.frame (s : State) (f : Nat) : CacheFrame := sparseGet frameNone s.pool.frames f
def State.setFrame (s : State) (f : Nat) (x : CacheFrame) : State :=
  { s with pool := { s.pool with frames := sparseSet frameNone s.pool.frames f x } }

/-- Copy a chunk between T1 and the tier of record. -/
def State.copyChunk (s : State) (e g c : Nat) (toT1 : Bool) : State :=
  let off := g * granuleBytes + c * chunkBytes
  let a := byteKey e off
  let v := byteKey (s.volOf e) off
  let p := s.pool
  if (s.gran e g).tier = 2 then
    if toT1 then { s with pool := { p with mem := sparseCopy 0 p.cxl p.mem a a chunkBytes } }
    else { s with pool := { p with cxl := sparseCopy 0 p.mem p.cxl a a chunkBytes } }
  else
    if toT1 then { s with pool := { p with mem := sparseCopy 0 p.flash p.mem v a chunkBytes } }
    else { s with pool := { p with flash := sparseCopy 0 p.mem p.flash a v chunkBytes } }

/-- Flush mode: PFW_N is recognised as asserted, or counts as asserted under its rate limit (R108, R481). A stuck PFW_N
keeps flush mode with its flush complete (Table 20.5). -/
def State.flushMode (s : State) : Bool := s.rd od4C48_LEVEL 0 == 1 || s.pins.held.contains 0

/-- FLUSHes at LEVEL 1 wait for one chunk fewer. -/
def State.flushedChunk (s : State) (e place : Nat) : State :=
  let f := fun (h : Held) => if h.why = .flush ∧ h.ext = e then { h with chunks := h.chunks.filter (· != place) } else h
  { s with pool := { s.pool with held := s.pool.held.map f } }

/-- Write a dirty chunk to the tier of record and clear its DIRTY bit (R104). -/
def State.cleanChunk (s : State) (e g c : Nat) : State :=
  if (s.gran e g).dirty.getLsbD c && !s.trayLost e g then
    let s1 := if (s.gran e g).tier = 3 then (s.copyChunk e g c false).nandWrite (s.chunkKey e g c) else s.copyChunk e g c false
    ((s1.cleanBit e g c).flushedChunk e (g * 32 + c)).homeCount e 14 1
  else s

/-- A granule can be evicted now: its dirty chunks find room on flash (R352), or their tray. -/
def State.evictable (s : State) (e g : Nat) : Bool :=
  let d := s.gran e g
  d.dirty == 0 || (if d.tier = 3 then s.hostRoom s.flushMode else !s.trayLost e g)

/-- The chunks of a granule that are to be read from flash. -/
def State.flashReads (s : State) (e g : Nat) : State :=
  (List.range 32).foldl (fun s c => if (s.gran e g).zmask.getLsbD c then s else s.readJob e g c (s.chunkKey e g c)) s

/-- Evict a granule: every dirty chunk is written to the tier of record before the frame is free (R103). -/
def State.evict (s : State) (e g : Nat) : State :=
  let d := s.gran e g
  if d.cached && d.tier != 1 then
    let s1 := (List.range 32).foldl (fun s c => s.cleanChunk e g c) s
    let a := byteKey e (g * granuleBytes)
    let s2 := { s1 with pool := { s1.pool with mem := sparseDrop s1.pool.mem a (a + granuleBytes),
                                               frames := sparseSet frameNone s1.pool.frames d.frame frameNone,
                                               moves := s1.pool.moves.filter (fun m => !(m.ext == e && m.gran == g && m.fill)) } }
    ((s2.setGran e g { s2.gran e g with cached := false, frame := 0, moving := false }).homeCount e 13 1)
  else s

/-- The way to fill of those that a herd may use: a free one, or else the least recently used. -/
def freeWay (ws : List Nat) (at_ : Nat → CacheFrame) : Option Nat :=
  match ws.find? (fun w => at_ w == frameNone) with
  | some w => some w
  | none => ws.foldl (fun best w => match best with
      | none => some w
      | some b => if (at_ w).used < (at_ b).used then some w else some b) none

/-- The way to fill in a set of the write-back cache. -/
def State.wayFor (s : State) (h set : Nat) : Option Nat := freeWay (s.waysOf h) (fun w => s.frame (set * 16 + w))

/-- The set of the cache in which a granule is held. -/
def State.setOf (s : State) (d : Gran) : Nat := Config.t1Set d.tier d.loc % s.cacheSets

/-- Evict the granules that stand in ways that their herds may not use any more (R99). -/
def State.dropStrangers (s : State) : State :=
  (s.pool.frames.filter (fun kv => !(s.waysOf (s.extHerd kv.2.ext)).contains (kv.1 % 16))).foldl
    (fun s kv => s.evict kv.2.ext kv.2.gran) s

/-- Start the fill of an allocated granule into the cache. A granule with every chunk zero has nothing to copy. -/
def State.startFill (s : State) (e g : Nat) : State :=
  let d := s.gran e g
  let set := s.setOf d
  match s.wayFor (s.extHerd e) set with
  | none => s
  | some w =>
    let f := set * 16 + w
    let old := s.frame f
    if old ≠ frameNone ∧ !s.evictable old.ext old.gran then s else
    let s1 := if old = frameNone then s else s.evict old.ext old.gran
    let copy := d.zmask != BitVec.allOnes 32
    let s2 := (s1.setFrame f ⟨e, g, s.up + 1⟩).setGran e g { d with cached := true, frame := f, moving := copy }
    if copy then
      let s3 := { s2 with pool := { s2.pool with moves := s2.pool.moves ++ [Move.mk e g true f 0] } }
      if d.tier = 3 then (s3.flashReads e g).pump else s3
    else s2.homeCount e 12 1

/-- An access to an allocated granule of a T2 or T3 extent: a hit renews its frame's use, a miss starts a fill. -/
def State.touch (s : State) (e g : Nat) : State :=
  let d := s.gran e g
  if d.tier = 0 ∨ d.tier = 1 then s
  else if d.cached then (s.setFrame d.frame ⟨e, g, s.up + 1⟩).homeCount e 10 1
  else (s.startFill e g).homeCount e 11 1

/-- A chunk of a granule that a fill has not copied yet. -/
def State.chunkPending (s : State) (e g c : Nat) : Bool :=
  let d := s.gran e g
  d.moving && !d.zmask.getLsbD c && s.pool.moves.any (fun m => m.ext == e && m.gran == g && m.fill && !m.done.getLsbD c)

/-- Copy one chunk of a fill from T2 ahead of the others, for a write that waits for it (R103). -/
def State.fillChunk (s : State) (e g c : Nat) : State :=
  if s.chunkPending e g c && (s.gran e g).tier == 2 && !s.trayLost e g then (s.copyChunk e g c true).copied e g c else s

/-- End the fill of a granule: every chunk switches to T1. -/
def State.endFill (s : State) (e g : Nat) : State :=
  match s.pool.moves.find? (fun m => m.ext == e && m.gran == g && m.fill) with
  | none => s
  | some m =>
    let s1 := (List.range 32).foldl (fun s c =>
      if (s.gran e g).zmask.getLsbD c || m.done.getLsbD c then s else s.copyChunk e g c true) s
    let s2 := { s1 with pool := { s1.pool with moves := s1.pool.moves.filter (fun x => !(x.ext == e && x.gran == g && x.fill)) } }
    (s2.setGran e g { s2.gran e g with moving := false }).homeCount e 12 1

/-- Free a granule of an extent: its frames, its dirty chunks and its bytes go, and USED falls (Table 4.9, step 4). -/
def State.freeGranule (s : State) (e g : Nat) : State :=
  let d := s.gran e g
  if d.tier = 0 then s
  else
    let s1 := (List.range 32).foldl (fun s c => s.cleanBit e g c) s
    let a := byteKey e (g * granuleBytes)
    let v := byteKey (s.volOf e) (g * granuleBytes)
    let p := s1.pool
    let s2 := { s1 with pool := { p with
      mem := sparseDrop p.mem a (a + granuleBytes), cxl := sparseDrop p.cxl a (a + granuleBytes),
      flash := if d.tier = 3 then sparseDrop p.flash v (v + granuleBytes) else p.flash,
      frames := if d.cached then sparseSet frameNone p.frames d.frame frameNone else p.frames,
      moves := p.moves.filter (fun m => !(m.ext == e && m.gran == g)),
      poison := p.poison.filter (fun k => !(lineKey e (g * granuleBytes) ≤ k && k < lineKey e ((g + 1) * granuleBytes))) } }
    let s3 := if d.tier = 3 then (List.range 32).foldl (fun s c => s.nandTrim (s.chunkKey e g c)) s2 else s2
    (s3.setGran e g granNew).wr (odUsed d.tier) (s3.extHerd e)
      (s3.rd (odUsed d.tier) (s3.extHerd e) - granuleBytes)

/-- The allocated granules of an extent, by rising number. -/
def State.granulesOf (s : State) (e : Nat) : List Nat :=
  (sparseSlice s.pool.gran (granKey e 0) (granKey (e + 1) 0)).map (fun kv => kv.1 - granKey e 0)

end Sys2Proof.Machine
end

