-- ==== Sys2Proof/Machine/Float.lean ====
section
/-! DEFINITION. Number formats and exact arithmetic (chapter 7): values are decoded to sign, significand and exponent,
combined exactly, and rounded once to nearest, ties to even (R188). -/

namespace Sys2Proof.Machine

/-- A value: a NaN with its sign and the payload below the quiet bit (left-aligned in 51 bits), an infinity, or
(−1)^neg × m × 2^e. -/
inductive Fp where
  | nan (neg : Bool) (payload : Nat)
  | inf (neg : Bool)
  | fin (neg : Bool) (m : Nat) (e : Int)
  deriving DecidableEq, Repr

/-- An IEEE format: mantissa bits, exponent bits and bias (Table 7.1). -/
structure FloatFmt where
  mb   : Nat
  eb   : Nat
  bias : Nat
  deriving DecidableEq, Repr

def f32 : FloatFmt := ⟨23, 8, 127⟩
def bf16 : FloatFmt := ⟨7, 8, 127⟩
def f16 : FloatFmt := ⟨10, 5, 15⟩
def f64 : FloatFmt := ⟨52, 11, 1023⟩
def fe5m2 : FloatFmt := ⟨2, 5, 15⟩

/-- The value of a bit pattern (R184). -/
def decodeF (f : FloatFmt) (v : Nat) : Fp :=
  let m := v % 2 ^ f.mb
  let e := v / 2 ^ f.mb % 2 ^ f.eb
  let s := bitAt v (f.mb + f.eb)
  if e = 2 ^ f.eb - 1 then (if m = 0 then .inf s else .nan s (m % 2 ^ (f.mb - 1) * 2 ^ (52 - f.mb)))
  else if e = 0 then .fin s m (1 - (f.bias : Int) - (f.mb : Int))
  else .fin s (2 ^ f.mb + m) ((e : Int) - (f.bias : Int) - (f.mb : Int))

/-- Divide by 2^k, to nearest, ties to even. -/
def rne (m k : Nat) : Nat :=
  let q := m / 2 ^ k
  let r := m % 2 ^ k
  if 2 * r > 2 ^ k ∨ (2 * r = 2 ^ k ∧ q % 2 = 1) then q + 1 else q

/-- m × 2^e in units of 2^lsb, to nearest, ties to even. -/
def toGrid (lsb : Int) (m : Nat) (e : Int) : Nat :=
  if lsb ≤ e then m * 2 ^ (e - lsb).toNat else rne m (lsb - e).toNat

/-- The exponent of the last place of m × 2^e in a format with `mb` mantissa bits and lowest exponent 1 − bias. -/
def lastPlace (mb bias m : Nat) (e : Int) : Int := max ((Nat.log2 m : Int) + e - mb) (1 - (bias : Int) - mb)

/-- The bit pattern of a value, rounded once (R188): overflow goes to infinity, subnormals are kept. -/
def encodeF (f : FloatFmt) : Fp → Nat
  | .nan s p => (if s then 2 ^ (f.mb + f.eb) else 0) + (2 ^ f.eb - 1) * 2 ^ f.mb + 2 ^ (f.mb - 1) + p / 2 ^ (52 - f.mb)
  | .inf s => (if s then 2 ^ (f.mb + f.eb) else 0) + (2 ^ f.eb - 1) * 2 ^ f.mb
  | .fin s m e =>
    let sign := if s then 2 ^ (f.mb + f.eb) else 0
    if m = 0 then sign
    else
      let lsb := lastPlace f.mb f.bias m e
      let code := (lsb + f.mb + f.bias - 1).toNat * 2 ^ f.mb + toGrid lsb m e
      sign + min code ((2 ^ f.eb - 1) * 2 ^ f.mb)

/-- The pattern of the largest magnitude not above a value's, which is (−1)^s × m × 2^e with m above 0. -/
def encodeDown (f : FloatFmt) (s : Bool) (m : Nat) (e : Int) : Nat :=
  let lsb := lastPlace f.mb f.bias m e
  let grid := if lsb ≤ e then m * 2 ^ (e - lsb).toNat else m / 2 ^ (lsb - e).toNat
  (if s then 2 ^ (f.mb + f.eb) else 0) + min ((lsb + f.mb + f.bias - 1).toNat * 2 ^ f.mb + grid) ((2 ^ f.eb - 1) * 2 ^ f.mb)

def Fp.isNan : Fp → Bool
  | .nan _ _ => true
  | _ => false

def Fp.isFinite : Fp → Bool
  | .fin _ _ _ => true
  | _ => false

def Fp.isZero : Fp → Bool
  | .fin _ m _ => m == 0
  | _ => false

def Fp.sign : Fp → Bool
  | .nan s _ => s
  | .inf s => s
  | .fin s _ _ => s

def Fp.abs : Fp → Fp
  | .nan _ p => .nan false p
  | .inf _ => .inf false
  | .fin _ m e => .fin false m e

def fpZero : Fp := .fin false 0 0

/-- The NaN of an invalid operation, 0x7FC00000 in binary32 (R197). -/
def fpInvalid : Fp := .nan false 0

/-- A finite sum, exact; a zero sum of opposite signs is +0. -/
def finAdd (s1 : Bool) (m1 : Nat) (e1 : Int) (s2 : Bool) (m2 : Nat) (e2 : Int) : Fp :=
  let e := min e1 e2
  let a := m1 * 2 ^ (e1 - e).toNat
  let b := m2 * 2 ^ (e2 - e).toNat
  if s1 = s2 then .fin s1 (a + b) e
  else if a = b then .fin false 0 e
  else if b < a then .fin s1 (a - b) e
  else .fin s2 (b - a) e

/-- An exact sum under R197. -/
def fpAdd (a b : Fp) : Fp :=
  match a, b with
  | .nan s p, _ => .nan s p
  | _, .nan s p => .nan s p
  | .inf s, .inf t => if s = t then .inf s else fpInvalid
  | .inf s, _ => .inf s
  | _, .inf t => .inf t
  | .fin s m e, .fin t n f => finAdd s m e t n f

def fpNeg : Fp → Fp
  | .nan s p => .nan s p
  | .inf s => .inf (!s)
  | .fin s m e => .fin (!s) m e

/-- An exact product under R197. -/
def fpMul (a b : Fp) : Fp :=
  match a, b with
  | .nan s p, _ => .nan s p
  | _, .nan s p => .nan s p
  | .inf s, .inf t => .inf (s != t)
  | .inf s, .fin t n _ => if n = 0 then fpInvalid else .inf (s != t)
  | .fin s m _, .inf t => if m = 0 then fpInvalid else .inf (s != t)
  | .fin s m e, .fin t n f => .fin (s != t) (m * n) (e + f)

/-- a × b + c with the NaN order of R197. -/
def fpFma (a b c : Fp) : Fp :=
  if a.isNan then a else if b.isNan then b else if c.isNan then c else fpAdd (fpMul a b) c

/-- A quotient under R197, with enough places that one rounding to any format of this chapter is right: the last bit is
set when a remainder is left. -/
def fpDiv (a b : Fp) : Fp :=
  match a, b with
  | .nan s p, _ => .nan s p
  | _, .nan s p => .nan s p
  | .inf _, .inf _ => fpInvalid
  | .inf s, .fin t _ _ => .inf (s != t)
  | .fin s _ e, .inf t => .fin (s != t) 0 e
  | .fin s m e, .fin t n f =>
    if n = 0 then (if m = 0 then fpInvalid else .inf (s != t))
    else if m = 0 then .fin (s != t) 0 0
    else
      let k := 66 + Nat.log2 n
      let q := m * 2 ^ k / n
      .fin (s != t) (2 * q + (if m * 2 ^ k % n = 0 then 0 else 1)) (e - f - k - 1)

/-- The largest r with r² ≤ n, found bit by bit from bit `i − 1`. -/
def isqrtFrom : Nat → Nat → Nat → Nat
  | 0, _, r => r
  | i + 1, n, r => if (r + 2 ^ i) * (r + 2 ^ i) ≤ n then isqrtFrom i n (r + 2 ^ i) else isqrtFrom i n r

def isqrt (n : Nat) : Nat := isqrtFrom (Nat.log2 n / 2 + 1) n 0

/-- A square root under R197, with a last bit for the remainder. -/
def fpSqrt (a : Fp) : Fp :=
  match a with
  | .nan s p => .nan s p
  | .inf s => if s then fpInvalid else .inf false
  | .fin s m e =>
    if m = 0 then .fin s 0 e
    else if s then fpInvalid
    else
      let odd := e % 2 != 0
      let n := (if odd then 2 * m else m) * 2 ^ 132
      let f := (if odd then e - 1 else e) / 2 - 66
      let r := isqrt n
      .fin false (2 * r + (if r * r = n then 0 else 1)) (f - 1)

/-- Order of two values that are not NaN, −0 below +0 (R198). -/
def fpLt (a b : Fp) : Bool :=
  match a, b with
  | .nan _ _, _ => false
  | _, .nan _ _ => false
  | .inf s, .inf t => s && !t
  | .inf s, .fin _ _ _ => s
  | .fin _ _ _, .inf t => !t
  | .fin s m e, .fin t n f =>
    let g := min e f
    let x := m * 2 ^ (e - g).toNat
    let y := n * 2 ^ (f - g).toNat
    if s && !t then true else if !s && t then false
    else if s then decide (y < x) else decide (x < y)

/-! ## Binary32 and binary64 operations on bit patterns -/

def dec32 (v : Nat) : Fp := decodeF f32 v
def enc32 (x : Fp) : Nat := encodeF f32 x
def dec64 (v : Nat) : Fp := decodeF f64 v
def enc64 (x : Fp) : Nat := encodeF f64 x

/-- The binary32 addition of R196 and R197. -/
def add32 (a b : Nat) : Nat := enc32 (fpAdd (dec32 a) (dec32 b))
def sub32 (a b : Nat) : Nat := enc32 (fpAdd (dec32 a) (fpNeg (dec32 b)))
def mul32 (a b : Nat) : Nat := enc32 (fpMul (dec32 a) (dec32 b))
def fma32 (a b c : Nat) : Nat := enc32 (fpFma (dec32 a) (dec32 b) (dec32 c))
def div32 (a b : Nat) : Nat := enc32 (fpDiv (dec32 a) (dec32 b))
def sqrt32 (a : Nat) : Nat := enc32 (fpSqrt (dec32 a))
def add64 (a b : Nat) : Nat := enc64 (fpAdd (dec64 a) (dec64 b))
def mul64 (a b : Nat) : Nat := enc64 (fpMul (dec64 a) (dec64 b))

/-- VMAX and VMIN (R198): NaN under R197, and [RA] for equal operands. -/
def max32 (a b : Nat) : Nat :=
  let x := dec32 a; let y := dec32 b
  if x.isNan then enc32 x else if y.isNan then enc32 y else if fpLt x y then b else a
def min32 (a b : Nat) : Nat :=
  let x := dec32 a; let y := dec32 b
  if x.isNan then enc32 x else if y.isNan then enc32 y else if fpLt y x then b else a

/-- The binary32 form of a natural number, rounded once. -/
def natTo32 (n : Nat) : Nat := enc32 (.fin false n 0)

def one32 : Nat := 0x3F800000

/-! ## Element formats (R183–R187) -/

/-- Width of an element in bits (Table 7.1). -/
def fmtWidth (f : Nat) : Nat :=
  if f = 0 then 32 else if f ≤ 2 then 16 else if f ≤ 4 then 8 else if f ≤ 6 then 6 else if f = 7 then 4
  else if f = 8 then 8 else 4

/-- A format code that Table 6.10 does not reserve. -/
def fmtKnown (f : Nat) : Bool := decide (f ≤ 9)

/-- FMT 0x3 to 0x9 are block formats. -/
def fmtBlock (f : Nat) : Bool := decide (3 ≤ f)

/-- The IEEE format of a scalar code. -/
def scalarFmt (f : Nat) : FloatFmt := if f = 0 then f32 else if f = 1 then bf16 else f16

/-- Mantissa bits, exponent bits and bias of a floating-point block element. -/
def elemFmt (f : Nat) : FloatFmt :=
  if f = 3 then ⟨3, 4, 7⟩ else if f = 4 then fe5m2 else if f = 5 then ⟨2, 3, 3⟩ else if f = 6 then ⟨3, 2, 1⟩ else ⟨1, 2, 1⟩

/-- The value of an element before its scale (R184). -/
def decodeElem (f v : Nat) : Fp :=
  if f ≤ 2 then decodeF (scalarFmt f) v
  else if f = 8 then
    let i := signed 8 v
    .fin (decide (i < 0)) i.natAbs (-6)
  else if f = 9 then
    let q := signed 4 v
    .fin (decide (q < 0)) q.natAbs 0
  else if f = 4 then decodeF fe5m2 v
  else
    let k := elemFmt f
    let m := v % 2 ^ k.mb
    let e := v / 2 ^ k.mb % 2 ^ k.eb
    let s := bitAt v (k.mb + k.eb)
    if f = 3 ∧ e = 15 ∧ m = 7 then .nan s 0
    else if e = 0 then .fin s m (1 - (k.bias : Int) - k.mb)
    else .fin s (2 ^ k.mb + m) ((e : Int) - k.bias - k.mb)

/-- A scale byte makes its block NaN (R185). -/
def scaleNan (f x : Nat) : Bool := x == 255 || (f == 9 && decide (253 ≤ x))

/-- The value of a block element under its scale byte (R184, R185). -/
def scaleElem (f x : Nat) (v : Fp) : Fp :=
  if scaleNan f x then .nan v.sign 0
  else match v with
    | .fin s m e => .fin s m (e + x - 127)
    | w => w

/-- Bytes of an array of n elements, padding included (R186). -/
def arrayBytes (f n : Nat) : Nat :=
  if fmtBlock f then ceilDiv (n * fmtWidth f / 8 + n / 32) 8 * 8 else n * fmtWidth f / 8

/-- Element i of a packed stream (R187). -/
def packedElem (f stream i : Nat) : Nat := stream / 2 ^ (fmtWidth f * i) % 2 ^ fmtWidth f

/-- The scale byte of element i in an array of n elements whose bytes are the number `stream`. -/
def scaleOf (f n stream i : Nat) : Nat := stream / 2 ^ (8 * (n * fmtWidth f / 8 + i / 32)) % 256

/-- Decode an array of n elements from its bytes. -/
def decodeArray (f n : Nat) (bytes : List Byte) : List Fp :=
  let v := leNat bytes
  (List.range n).map (fun i =>
    let e := decodeElem f (packedElem f v i)
    if fmtBlock f then scaleElem f (scaleOf f n v i) e else e)

/-! ## Quantizing (R188–R194) -/

/-- Exponent of the largest normal value (Table 7.3). -/
def emaxOf (f : Nat) : Int :=
  if f = 3 then 8 else if f = 4 then 15 else if f = 5 then 4 else if f = 6 then 2 else if f = 7 then 2
  else if f = 8 then 0 else 2

/-- The largest code of a magnitude under Table 7.3. -/
def maxCode (f : Nat) : Nat :=
  if f = 3 then 0x7E else if f = 4 then 0x7B else if f = 5 then 0x1F else if f = 6 then 0x1F else if f = 7 then 0x7
  else if f = 8 then 127 else 7

/-- Round m × 2^e to units of 2^lsb: to nearest, or stochastically with draw `r` (R189). -/
def roundGrid (lsb : Int) (m : Nat) (e : Int) (draw : Option Nat) : Nat :=
  match draw with
  | none => toGrid lsb m e
  | some r =>
    if lsb ≤ e then m * 2 ^ (e - lsb).toNat
    else
      let k := (lsb - e).toNat
      if r < m % 2 ^ k * 65536 / 2 ^ k then m / 2 ^ k + 1 else m / 2 ^ k

/-- The element pattern of a finite scaled value, and whether it saturated (R192). -/
def encodeElem (f : Nat) (s : Bool) (m : Nat) (e : Int) (draw : Option Nat) : Nat × Bool :=
  if f = 8 ∨ f = 9 then
    let w := fmtWidth f
    let c := roundGrid (if f = 8 then -6 else 0) m e draw
    let top := if f = 9 ∧ s then 8 else maxCode f
    (unsigned w (if s then -(min c top : Nat) else (min c top : Nat)), decide (top < c))
  else
    let k := elemFmt f
    let sign := if s then 2 ^ (k.mb + k.eb) else 0
    if m = 0 then (sign, false)
    else
      let lsb := lastPlace k.mb k.bias m e
      let code := (lsb + k.mb + k.bias - 1).toNat * 2 ^ k.mb + roundGrid lsb m e draw
      (sign + min code (maxCode f), decide (maxCode f < code))

/-- The largest magnitude of the finite values. -/
def amaxOf (vs : List Fp) : Fp := vs.foldl (fun a v => if v.isFinite && fpLt a v.abs then v.abs else a) fpZero

/-- A quantized block: its scale, its elements, and how many saturated. -/
structure QBlock where
  scale : Nat
  elems : List Nat
  sat   : Nat
  deriving DecidableEq, Repr

/-- The block has the NaN scale (R191). -/
def blockNan (f : Nat) (vs : List Fp) : Bool :=
  (vs.any Fp.isNan && f != 3 && f != 4) ||
  (vs.any (fun v => !v.isFinite && !v.isNan) && f != 3 && f != 4)

/-- The scale byte of R191. -/
def blockScale (f : Nat) (vs : List Fp) : Nat :=
  match amaxOf vs with
  | .fin _ m e =>
    if m = 0 then 127
    else
      let x := (Nat.log2 m : Int) + e - emaxOf f + 127
      (min (max x 0) (if f = 9 then 252 else 254)).toNat
  | _ => 127

/-- quantize_block of R191 with scale `x`; `draws` holds one draw per element, or is empty for rounding to nearest. -/
def quantizeAt (f x : Nat) (vs : List Fp) (draws : List Nat) : QBlock :=
  if blockNan f vs then ⟨255, vs.map (fun _ => 0), 0⟩
  else
    let es := vs.zipIdx.map (fun vi =>
      match vi.1 with
      | .nan s _ => (if s then 0xFF else 0x7F, false)
      | .inf s => if f = 4 then (if s then 0xFC else 0x7C, false) else (if s then 0xFF else 0x7F, false)
      | .fin s m e => encodeElem f s m (e + 127 - x) (draws[vi.2]?))
    ⟨x, es.map (·.1), (es.filter (·.2)).length⟩

/-- quantize_block of R191. -/
def quantizeBlock (f : Nat) (vs : List Fp) (draws : List Nat) : QBlock := quantizeAt f (blockScale f vs) vs draws

/-- Round to a scalar format, to nearest or stochastically (R189, R193). -/
def encodeScalar (f : Nat) (v : Fp) (draw : Option Nat) : Nat :=
  let k := scalarFmt f
  match v, draw with
  | .fin s m e, some r =>
    let sign := if s then 2 ^ (k.mb + k.eb) else 0
    if m = 0 then sign
    else
      let lsb := lastPlace k.mb k.bias m e
      sign + min ((lsb + k.mb + k.bias - 1).toNat * 2 ^ k.mb + roundGrid lsb m e (some r)) ((2 ^ k.eb - 1) * 2 ^ k.mb)
  | w, _ => encodeF k w

/-- Put elements of width w into a little-endian bit stream (R187). -/
def packElems (w : Nat) : List Nat → Nat
  | [] => 0
  | e :: es => e + 2 ^ w * packElems w es

/-- The bytes of an array of quantized blocks: elements, scales, padding (R186). -/
def blockArray (f : Nat) (bs : List QBlock) : List Byte :=
  let n := 32 * bs.length
  let ebytes := n * fmtWidth f / 8
  let stream := packElems (fmtWidth f) (bs.flatMap (·.elems))
  toLe (arrayBytes f n) (stream + 2 ^ (8 * ebytes) * packElems 8 (bs.map (·.scale)))

/-- Cut a list into pieces of 32. -/
def blocksOf : Nat → List Fp → List (List Fp)
  | 0, _ => []
  | k + 1, vs => vs.take 32 :: blocksOf k (vs.drop 32)

/-- What a conversion of an array gives: its bytes, saturated elements and blocks of the NaN scale. -/
structure Quantized where
  bytes : List Byte
  sat   : Nat
  nans  : Nat
  deriving DecidableEq, Repr

/-- The elements that a conversion to a format rounds: the finite ones, but for those of a block of the NaN scale. -/
def roundedElems (f : Nat) (vs : List Fp) : List Bool :=
  if fmtBlock f then (blocksOf (vs.length / 32) vs).flatMap (fun b => b.map (fun v => v.isFinite && !blockNan f b))
  else vs.map Fp.isFinite

/-- Convert exact values to an array of a format (R193); `draws` as in `quantizeBlock`, one per element. -/
def encodeArray (f : Nat) (vs : List Fp) (draws : List Nat) : Quantized :=
  if fmtBlock f then
    let bs := (blocksOf (vs.length / 32) vs).zipIdx.map (fun bi =>
      quantizeBlock f bi.1 ((draws.drop (32 * bi.2)).take 32))
    ⟨blockArray f bs, bs.foldl (fun a b => a + b.sat) 0, (bs.filter (·.scale == 255)).length⟩
  else
    ⟨vs.zipIdx.flatMap (fun vi => toLe (fmtWidth f / 8) (encodeScalar f vi.1 draws[vi.2]?)), 0, 0⟩

/-- Binary32 patterns from bytes and back. -/
def words32 (n : Nat) (bs : List Byte) : List Nat :=
  (List.range n).map (fun i => leNat ((bs.drop (4 * i)).take 4))
def bytes32 (ws : List Nat) : List Byte := ws.flatMap (toLe 4)

/-- Decode an array to binary32 patterns (R193, R196): one rounding each, exact where representable. -/
def arrayTo32 (f n : Nat) (bs : List Byte) : List Nat := (decodeArray f n bs).map enc32

/-! ## Logarithms (R232, R256) -/

/-- ln of a ratio n/d between 1 and 2, in units of 2^-96, by the series of the inverse hyperbolic tangent. -/
def lnRatio (n d : Nat) : Nat :=
  let z := (n - d) * 2 ^ 96 / (n + d)
  let z2 := z * z / 2 ^ 96
  2 * ((List.range 34).foldl (fun (a : Nat × Nat) i => (a.1 + a.2 / (2 * i + 1), a.2 * z2 / 2 ^ 96)) (0, z)).1

/-- The natural logarithm of a positive m × 2^e, in units of 2^-96. -/
def lnFix (m : Nat) (e : Int) : Int :=
  let k := Nat.log2 m
  (e + k) * (lnRatio 2 1 : Nat) + (lnRatio m (2 ^ k) : Nat)

end Sys2Proof.Machine
end

