-- ==== Sys2Proof/Machine/TineOps.lean ====
section
/-! DEFINITION. Named operations over tines, threads, scoreboards and commands in flight (chapter 6). -/

namespace Sys2Proof.Machine

def threadNew : Thread := ⟨false, 0, 0, 0, List.replicate 32 0, 0, .ready, 0⟩
def tineNew : Tine := ⟨[], [], 0, [], [], 0, 0, 0, 0, []⟩

def State.tine (s : State) (t : Nat) : Tine := sparseGet tineNew s.cpu.tines t
def State.setTine (s : State) (t : Nat) (x : Tine) : State :=
  { s with cpu := { s.cpu with tines := sparseSet tineNew s.cpu.tines t x } }

def State.thread (s : State) (t h : Nat) : Thread := sparseGet threadNew (s.tine t).threads h
def State.setThread (s : State) (t h : Nat) (x : Thread) : State :=
  let u := s.tine t
  s.setTine t { u with threads := sparseSet threadNew u.threads h x }

/-- A scalar register; s0 reads as 0 (R156). -/
def Thread.reg (x : Thread) (r : Nat) : Nat := if r = 0 then 0 else x.regs.getD r 0

/-- Write a scalar register; a write to s0 is discarded (R156). -/
def Thread.setReg (x : Thread) (r v : Nat) : Thread :=
  if r = 0 then x else { x with regs := x.regs.set r (v % 2 ^ 64) }

def State.cmd (s : State) (cid : Nat) : Option Cmd := s.cpu.cmds.find? (fun c => c.cid == cid)

def State.setCmd (s : State) (c : Cmd) : State :=
  { s with cpu := { s.cpu with cmds := s.cpu.cmds.map (fun x => if x.cid = c.cid then c else x) } }

/-- The quadrant of the ring that a command came from (R167). -/
def State.cmdQuad (s : State) (c : Cmd) : Nat :=
  match s.ringAt c.ring (s.rd od3410_CTRL c.ring) with
  | some (e, _) => s.extQuad e
  | none => 0

/-- The command completes now: the fabric time and quality that its record carries as END and EQ (R174). -/
def State.cmdEnds (s : State) (c : Cmd) : Cmd :=
  if c.ended.isSome then c else { c with ended := some (s.ft (s.cmdQuad c) % 2 ^ 64, s.qual (s.cmdQuad c)) }

/-- Total threads of a KERNEL command (Table 6.3). -/
def Cmd.threads (c : Cmd) : Nat := c.tines.length * bitsOf (c.desc.getD 3 0) 55 48

/-- The next in turn of some numbers: the lowest above `turn`, or else the lowest. -/
def nextInTurn (l : List Nat) (turn : Nat) : Option Nat :=
  let m := fun (ks : List Nat) => ks.foldl (fun b k => match b with | none => some k | some x => some (min x k)) (none : Option Nat)
  match m (l.filter (fun a => decide (turn < a))) with
  | some a => some a
  | none => m l

/-! ## SRAM (R154) -/

def sramKey (t a : Nat) : Nat := t * 2 ^ 21 + a

def State.readSram (s : State) (t a n : Nat) : List Byte :=
  (List.range n).map (fun i => sparseGet 0 s.cpu.sram (sramKey t (a + i)))

def State.writeSram (s : State) (t a : Nat) : List Byte → State
  | [] => s
  | b :: bs => ({ s with cpu := { s.cpu with sram := sparseSet 0 s.cpu.sram (sramKey t a) b } }).writeSram t (a + 1) bs

/-- The window of a command on a tine: first address and bytes (R171, Table 6.3). -/
def Cmd.window (c : Cmd) (t : Nat) : Nat × Nat :=
  match c.tines.findIdx? (· == t) with
  | some i => (c.base.getD i 0, bitsOf (c.desc.getD 3 0) 47 32 * 1024)
  | none => (0, 0)

/-- An access of `n` bytes lies in the window of the thread's command (R154). -/
def State.inWindow (s : State) (cid t a n : Nat) : Bool :=
  match s.cmd cid with
  | some c => decide ((c.window t).1 ≤ a) && decide (a + n ≤ (c.window t).1 + (c.window t).2)
  | none => false

/-! ## Threads -/

/-- Live threads of a tine. -/
def State.liveThreads (s : State) (t : Nat) : List (Nat × Thread) := (s.tine t).threads.filter (fun kv => kv.2.live)

/-- Scoreboard entries that a thread holds. -/
def State.sbCount (s : State) (t h : Nat) : Nat := ((s.tine t).sb.filter (fun e => e.thread == h)).length

/-- Keep the busy counts of OD 3400 (Table 6.12). -/
def State.tineCounts (s : State) (t : Nat) : State :=
  (s.wr od3400_THREADS_BUSY t (min 255 (s.liveThreads t).length)).wr od3400_SB_BUSY t (s.tine t).sb.length

/-- The threads of a command on a tine that are live have all reached a BAR (R164). -/
def State.barMet (s : State) (t cid : Nat) : Bool :=
  (s.liveThreads t).all (fun kv => kv.2.cid != cid || kv.2.wait == .bar)

/-- Let the threads of a tine go on whose wait has ended: WAIT (R161), a full scoreboard (R160), BAR (R164). A thread
that waits on a full scoreboard issues its operation again. -/
def State.wakeTine (s : State) (t : Nat) : State :=
  let u := s.tine t
  let bars := ((s.liveThreads t).filter (fun kv => kv.2.wait == .bar && s.barMet t kv.2.cid)).map (·.1)
  let step := fun (m : Sparse Thread) (kv : Nat × Thread) =>
    let x := kv.2
    let go := x.live && (match x.wait with
      | .entries n => decide (s.sbCount t kv.1 ≤ n)
      | .scoreboard => decide (s.sbCount t kv.1 < 64) && decide (u.sb.length < 2048)
      | .bar => bars.contains kv.1
      | _ => false)
    if go then sparseSet threadNew m kv.1 { x with wait := .ready } else m
  let th := u.threads.foldl step u.threads
  let ready := fun (kv : Nat × Thread) => kv.2.live && kv.2.wait == .ready
  s.setTine t { u with threads := th, issued := if !u.threads.any ready && th.any ready then s.clk else u.issued }

/-- End a thread with a code: the low 8 bits of EXIT if not 0, otherwise its ERR (R173). Its place stays with the command
until that is complete. -/
def State.endThread (s : State) (t h code : Nat) : State :=
  let x := s.thread t h
  let v := if code % 256 ≠ 0 then code % 256 else x.err
  let s1 := s.setThread t h { threadNew with cid := x.cid }
  let s2 := match s1.cmd x.cid with
    | some c =>
      let c1 := { c with exits := c.exits ++ [(x.idx, v)] }
      s1.setCmd (if c1.exits.length = c1.threads then s1.cmdEnds c1 else c1)
    | none => s1
  (s2.wakeTine t).tineCounts t

/-- The CODE of a KERNEL command: the first non-OK value in the order of exit (R173). -/
def exitCode (l : List (Nat × Nat)) : Nat := ((l.find? (fun e => e.2 != 0)).map (·.2)).getD 0

/-- Drop the threads of a command on every tine. -/
def State.dropThreads (s : State) (cid : Nat) : State :=
  (s.cpu.tines.map (·.1)).foldl (fun s t =>
    let u := s.tine t
    let gone := fun (kv : Nat × Thread) => kv.2.cid == cid
    if u.threads.any gone then
      let hs := (u.threads.filter gone).map (·.1)
      ((s.setTine t { u with threads := u.threads.filter (fun kv => !gone kv),
                             vec := u.vec.filter (fun h => !hs.contains h),
                             mat := u.mat.filter (fun h => !hs.contains h) }).tineCounts t)
    else s) s

/-- Complete the outstanding remote operations of a command, so that their late responses are dropped
(R81, R180), and free their scoreboard entries. -/
def State.dropRemote (s : State) (cid : Nat) : State :=
  let mine := fun (r : Req) => match r.sender with
    | .tine t h => (s.thread t h.val).cid == cid
    | .unit _ c _ => c == cid
    | _ => false
  let s1 := { s with tr := { s.tr with outstanding := s.tr.outstanding.filter (fun r => !mine r) } }
  (s.cpu.tines.map (·.1)).foldl (fun s1 t =>
    let u := s1.tine t
    s1.setTine t { u with sb := u.sb.filter (fun e => !((s.thread t e.thread).cid == cid)) }) s1

/-- End a command with a code: its threads end, its remote operations are completed, and its record is due. -/
def State.finishCmd (s : State) (cid code : Nat) : State :=
  match s.cmd cid with
  | none => s
  | some c =>
    if c.finished then s
    else ((s.dropRemote cid).dropThreads cid).setCmd
      { s.cmdEnds c with code := some code, finished := true, work := { c.work with io := c.work.io.filter (fun i => i.code.isSome) } }

/-- Finish a command with a code and the words W4–W6 of its record. -/
def State.finishWith (s : State) (cid code : Nat) (res : List Nat) : State :=
  match s.cmd cid with
  | none => s
  | some c => if c.finished then s else s.setCmd { s.cmdEnds c with code := some code, results := res, finished := true }

/-- The completion record (Table 6.8). -/
def Cmd.record (c : Cmd) (code : Nat) : List Byte :=
  let d0 := c.desc.getD 0 0
  let (endT, endQ) := c.ended.getD (0, 0)
  bytesOfWords [bitsOf d0 63 56 * 2 ^ 56 + code * 2 ^ 48 + c.startQ * 2 ^ 46 + endQ * 2 ^ 44 + c.reissued * 2 ^ 42 + c.ring,
    bitsOf d0 31 0 * 2 ^ 32 + c.slot % 2 ^ 32, c.start, endT, c.results.getD 0 0, c.results.getD 1 0, c.results.getD 2 0, 0]

end Sys2Proof.Machine
end

