-- ==== Sys2Proof/Machine/HomeOps.lean ====
section
/-! DEFINITION. What a home slice does to the bytes of its extents: reads, writes, atomics, doorbells, the records of
applied requests, and the holds of chapter 4. -/

namespace Sys2Proof.Machine

/-! ## Records of applied requests (R86, R341) -/

def psnKey (src home : Nat) : Nat := src * 65536 + home

/-- The key of a request's records at its home. -/
def Req.psnKey (r : Req) : Nat := Machine.psnKey r.hdr.src.toNat r.hdr.dst.toNat

def State.psnApplied (s : State) (r : Req) : Bool :=
  (sparseGet [] s.tr.applied r.psnKey).contains r.hdr.psn.toNat

/-- Requests whose applied PSN the home keeps: all but those that may run again (Table 3.9). -/
def recorded (op : ReqOp) : Bool :=
  match op with
  | .store | .pstore | .kick | .complete | .invalidate | .flush | .atomic _ | .publish | .coll _ _ => true
  | _ => false

/-- Requests whose result the home keeps. -/
def keepsResult (op : ReqOp) : Bool :=
  match op with
  | .atomic _ | .publish => true
  | _ => false

/-- Note that a request has been applied, with the response of an ATOMIC or PUBLISH among the last 1,024. -/
def State.noteApplied (s : State) (r : Req) (m : RespMsg) : State :=
  if recorded r.op then
    let k := r.psnKey
    let t := s.tr
    let a := sparseSet [] t.applied k (sparseGet [] t.applied k ++ [r.hdr.psn.toNat])
    let old := sparseGet [] t.results k
    let res := if keepsResult r.op then sparseSet [] t.results k ((old ++ [(r.hdr.psn.toNat, m)]).drop (old.length + 1 - 1024))
      else t.results
    { s with tr := { t with applied := a, results := res } }
  else s

/-- The code of a directory state (Table 5.5). -/
def dirCode : DirStateCode → Nat
  | .u => 0 | .s => 1 | .m => 2 | .p => 3

/-- Trace of a request that a home slice has handled (Table 18.7). -/
def State.traceHome (s : State) (r : Req) : State :=
  match s.extSlice r.ext with
  | none => s
  | some q =>
    let a := r.hdr.addr.toNat
    let d := (sparseGet ⟨.u, false, false, 0, [], 0⟩ s.coh.dir (lineKey r.ext (a - s.extBase r.ext))).state
    s.trace q ⟨4, r.hdr.herd.toNat, 4, q, opcodeOf r.op * 2 ^ 20 + dirCode d, r.hdr.src.toNat * 2 ^ 48, a / 128 * 128,
      some (opcodeOf r.op)⟩ []

/-- Answer a request whose PSN is applied already (Table 3.9): the stored result, or an acknowledgement. -/
def State.answerAgain (s : State) (r : Req) : State :=
  if keepsResult r.op then
    match (sparseGet [] s.tr.results r.psnKey).find? (fun x => x.1 == r.hdr.psn.toNat) with
    | some x => ({ s with tr := { s.tr with resps := s.tr.resps ++ [{ x.2 with sender := r.sender }] } }).markAnswered r.id
    | none => s.answer r eTargetLost 0 []
  else s.answer r eOk 0 []

/-- Complete a request at the home: note it as applied if it succeeded, and send its response. -/
def State.complete (s : State) (r : Req) (code detail : Nat) (data : List Byte) : State :=
  let s1 := if code = eOk then s.noteApplied r (mkResp r code detail 0 data) else s
  (s1.answer r code detail data).traceHome r

/-! ## Atomics (R76) -/

/-- The new value of an integer atomic of `w` bytes. -/
def atomicNew (op : AtomicOp) (w old a b : Nat) : Nat :=
  let n := 8 * w
  match op with
  | .swap => a
  | .cas => if old = a then b else old
  | .add => (old + a) % 2 ^ n
  | .and => old &&& a
  | .or => old ||| a
  | .xor => old ^^^ a
  | .smax => if signed n old < signed n a then a else old
  | .smin => if signed n a < signed n old then a else old
  | .umax => max old a
  | .umin => min old a
  | .fadd => add32 old a

/-- Operand i of an ATOMIC: the first w bytes of its slot. -/
def atomicArg (w : Nat) (p : List Byte) (i : Nat) : Nat :=
  let slot := if w = 16 then 16 else 8
  leNat ((p.drop (slot * i)).take w)

/-- The new value of an ATOMIC request from the old one. -/
def atomicResult (op : AtomicOp) (h : ReqHdr) (p : List Byte) (old : Nat) : Nat :=
  let w := atomicWidth h
  atomicNew op w old (atomicArg w p 0) (atomicArg w p 1)

/-- The old value as its response carries it. -/
def atomicData (h : ReqHdr) (old : Nat) : List Byte := toLe (if asize h = 2 then 16 else 8) old

/-! ## Doorbells (R166, R169) -/

/-- A doorbell of a command ring: read PI, and make descriptors eligible or overrun. One of the canary ring asks for a
canary (R420). -/
def State.doorbell (s : State) (ring : Nat) : State :=
  if s.rd od4400_CANARY_RING 0 = ring then { s with flt := { s.flt with canaryDue := s.flt.canaryDue + 1 } }
  else
  let pi := s.ringIndex ring 0
  let ci := s.rd od3410_CONSUMED ring
  let q := (match s.ringAt ring (s.rd od3410_CTRL ring) with | some (e, _) => s.extQuad e | none => 0)
  if s.rd od3410_SLOTS ring < (pi + 2 ^ 32 - ci) % 2 ^ 32 then
    (s.wr od3410_STATE ring 3).emit q evRingOverrun (s.rd od3410_HERD ring) 10 ring 0 [ring]
  else
    let x := s.ring ring
    s.setRing ring { x with pi := pi, since := if x.pi = pi then x.since else s.clk }

/-- The rings, other than idle ones, whose producer index stands in the bytes [off, off + n) of an extent. -/
def State.rungRings (s : State) (e off n : Nat) : List Nat :=
  ((odListed s.od od3410_STATE).map (·.1)).filter (fun r =>
    s.rd od2400_TYPE r == 2 && (s.rd od3410_STATE r == 1 || s.rd od3410_STATE r == 2) &&
    (match s.ringAt r (s.rd od3410_CTRL r) with
     | some (e', o) => e' == e && decide (o < off + n) && decide (off < o + 4)
     | none => false))

def State.doorbells (s : State) (e off n : Nat) : State :=
  (s.rungRings e off n).foldl (fun s r => s.doorbell r) s

/-! ## Holds (R103, R106–R108) -/

/-- Hold a request at the home. -/
def State.hold (s : State) (r : Req) (why : HoldWhy) (place : Nat) (chunks : List Nat) : State :=
  let place' := fun (x : Req) => if x.id = r.id then { x with place := .home } else x
  ({ s with pool := { s.pool with held := s.pool.held ++ [Held.mk why r.ext place chunks { r with place := .home }] },
            tr := { s.tr with outstanding := s.tr.outstanding.map place' } }).homeCount r.ext 15 1

/-- PFW_N is stuck: stores to PERSIST extents are written through (Table 20.5). -/
def State.pfwStuck (s : State) : Bool := s.rd od4C48_STUCK 0 == 1

/-- Offset of a request in its extent. -/
def State.reqOff (s : State) (r : Req) : Nat := r.hdr.addr.toNat - s.extBase r.ext

/-- Whether the home can apply a write of one chunk now: the state with the granule allocated and touched, and why the
write waits. None: the allocation is refused (R101). -/
def State.prepareWrite (s : State) (r : Req) : Option (State × Option HoldWhy) :=
  let off := s.reqOff r
  let g := off / granuleBytes
  let c := off / chunkBytes % 32
  if s.extPersist r.ext && s.flushMode && !s.pfwStuck then some (s, some .pfw)
  else
    match s.allocate r.ext g with
    | none => none
    | some s1 =>
      let s2 := (s1.touch r.ext g).fillChunk r.ext g c
      let d := s2.gran r.ext g
      if s2.chunkPending r.ext g c then some (s2, some .fill)
      else if s2.extPersist r.ext && d.cached && d.tier != 1 && !d.dirty.getLsbD c then
        match (if s2.flushMode then DirtyWay.through else s2.dirtyWay (s2.extHerd r.ext)) with
        | .apply => some (s2, none)
        | .hold => some (s2, some .ceiling)
        | .through => some (s2, some .writeThrough)
      else some (s2, none)

/-! ## Reads, writes and atomics -/

/-- Write the bytes of a window that a mask selects. -/
def State.writeMasked (s : State) (e off mask : Nat) : List Byte → State
  | [] => s
  | b :: bs =>
    let s1 := if mask % 2 = 1 then s.writeByte e off b else s
    s1.writeMasked e (off + 1) (mask / 2) bs

/-- Put the bytes of a write in place. -/
def State.putReq (s : State) (r : Req) : State :=
  let off := s.reqOff r
  match r.op with
  | .pstore => s.writeMasked r.ext off r.hdr.aux.toNat r.payload
  | .atomic op =>
    let w := atomicWidth r.hdr
    let old := leNat (s.readPool r.ext off w)
    s.writePool r.ext off (toLe w (atomicResult op r.hdr r.payload old))
  | _ => s.writePool r.ext off r.payload

/-- A write that would leave part of a poisoned line as it was (R141, Table 17.2). -/
def State.poisonBars (s : State) (r : Req) : Bool :=
  let off := s.reqOff r
  let n := spanOf r.op r.hdr
  match r.op with
  | .store => (State.linesOf r.ext off n).any (fun k => s.pool.poison.contains k &&
      !(decide (off ≤ (k - lineKey r.ext 0) * 128) && decide ((k - lineKey r.ext 0) * 128 + 128 ≤ off + n)))
  | _ => s.poisoned r.ext off n

/-- A byte that only flash holds, in a mapped chunk: a load waits for the shelf (R103, R345). -/
def State.onFlash (s : State) (e off : Nat) : Bool :=
  (s.whereByte e off).1 == 3 && (s.placeOf (s.chunkKey e (off / granuleBytes) (off / chunkBytes % 32))).isSome

/-- Where a reporter writes its link-state records on this A9's board (R337). -/
def State.boardAt (s : State) (n : Nat) : Nat :=
  s.rd od2100_BOARD_BASE 0 + 4096 * s.rd od2100_A9_NUMBER 0 + 64 * n

/-- The link-state record that 64 B spell (Table 13.8). -/
def recordOf (n : A9Id) (bs : List Byte) : LinkRecord :=
  let w := fun (i : Nat) => leNat ((bs.drop (8 * i)).take 8)
  { reporter := n, seq := BitVec.ofNat 32 (w 0 / 2 ^ 32), st := BitVec.ofNat 2 (w 0 / 2 ^ 30), near := BitVec.ofNat 16 (w 1 / 2 ^ 48),
    far := BitVec.ofNat 16 (w 1 / 2 ^ 32), detected := BitVec.ofNat 64 (w 2), switch := BitVec.ofNat 64 (w 3) }

/-- A 64-B STORE of herd 0x000 to this A9's board is a link-state record (R337). -/
def State.noteBoard (s : State) (r : Req) : State :=
  if r.op = .store ∧ r.hdr.herd.toNat = 0 ∧ r.payload.length = 64 then
    match (List.finRange 64).find? (fun (n : A9Id) => s.boardAt n.val == r.hdr.addr.toNat) with
    | some n => { s with ports := { s.ports with board := s.ports.board ++ [recordOf n r.payload] } }
    | none => s
  else s

/-- Apply a write that nothing holds and answer it. `through` writes its chunk to the tier of record at once (R106). -/
def State.applyWrite (s : State) (r : Req) (through : Bool) : State :=
  let off := s.reqOff r
  let n := spanOf r.op r.hdr
  let data := match r.op with
    | .atomic _ => atomicData r.hdr (leNat (s.readPool r.ext off (atomicWidth r.hdr)))
    | _ => []
  let k := s.chunkKey r.ext (off / granuleBytes) (off / chunkBytes % 32)
  let s1 := if s.onFlash r.ext off then (s.putReq r).nandWrite k else s.putReq r
  let s2 := s1.liftPoison r.ext off (match r.op with | .store => n | _ => 0)
  let s3 := if through then s2.cleanChunk r.ext (off / granuleBytes) (off / chunkBytes % 32) else s2
  let s4 := s3.homeCount r.ext (match r.op with | .atomic _ => 3 | _ => 2) 1
  ((s4.complete r eOk 0 data).noteBoard r).doorbells r.ext off n

/-- RO, FROZEN and the state of a container bar a request (R96, R121, R135). -/
def State.barred (s : State) (r : Req) : Bool :=
  let e := r.ext
  (writes r.op && (s.extRo e || s.rd od3020_FROZEN e == 1 || (s.extCmp e && s.rd od2820_CSTATE e == 2))) ||
  (r.op == .publish && s.extRo e)

/-- A write, partial store or atomic at the home, after every check. -/
def State.serveWrite (s : State) (r : Req) : State :=
  if s.barred r then s.complete r eAccess 0 []
  else if r.op = .pstore ∧ r.hdr.aux = 0 then s.complete r eOk 0 []
  else if s.poisonBars r then s.complete r ePoison 0 []
  else
    match s.prepareWrite r with
    | none => s.complete r eQuota 0 []
    | some (s1, none) => s1.applyWrite r false
    | some (s1, some why) => s1.hold r why (s.reqOff r / chunkBytes) []

/-- Serve a load from where its bytes are. -/
def State.loadNow (s : State) (r : Req) : State :=
  let n := lenBytes r.hdr
  if s.poisoned r.ext (s.reqOff r) n then s.complete r ePoison 0 []
  else s.complete r eOk 0 (s.readPool r.ext (s.reqOff r) n)

/-- A load at the home, after every check (R101–R103). -/
def State.serveLoad (s : State) (r : Req) : State :=
  let off := s.reqOff r
  let s1 := (s.touch r.ext (off / granuleBytes)).homeCount r.ext 1 1
  if !s1.poisoned r.ext off (lenBytes r.hdr) && s1.onFlash r.ext off then
    ((s1.readJob r.ext (off / granuleBytes) (off / chunkBytes % 32)
      (s1.chunkKey r.ext (off / granuleBytes) (off / chunkBytes % 32))).pump).hold r .flash (off / chunkBytes) []
  else s1.loadNow r

/-! ## Compressed containers (R121–R125) -/

/-- A word of the container's header (Table 4.10). -/
def State.contWord (s : State) (e i : Nat) : Nat := leNat (s.readPool e (8 * i) 8)
def State.contBlocks (s : State) (e : Nat) : Nat := s.contWord e 1 % 2 ^ 32
def State.contLength (s : State) (e : Nat) : Nat := s.contWord e 4 % 2 ^ 28

/-- Codec, first byte and size of a block (Table 4.11). -/
def State.contBlock (s : State) (e i : Nat) : Nat × Nat × Nat :=
  let w := leNat (s.readPool e (64 + 4 * i) 4)
  let off := w % 2 ^ 28
  let next := if i + 1 < s.contBlocks e then leNat (s.readPool e (64 + 4 * (i + 1)) 4) % 2 ^ 28 else s.contLength e
  (w / 2 ^ 28, 16 * off, 16 * (next - off))

/-- Exponent of an EXP4 code. -/
def State.expTab (s : State) (e c : Nat) : Nat :=
  if c < 8 then bitsOf (s.contWord e 2) (8 * c + 7) (8 * c) else bitsOf (s.contWord e 3) (8 * (c - 8) + 7) (8 * (c - 8))

/-- Expand an EXP4 block from value j on, with escapes from byte `esc` (R123). -/
def expand4 (tab : Nat → Nat) (blk : List Byte) : Nat → Nat → Nat → Option (List Byte)
  | 0, _, _ => some []
  | k + 1, j, esc =>
    let a := (blk.getD j 0).toNat
    let c := (blk.getD (2048 + j / 2) 0).toNat / (if j % 2 = 0 then 1 else 16) % 16
    if c < 15 then
      (expand4 tab blk k (j + 1) esc).map (fun t => toLe 2 (a / 128 * 32768 + tab c * 128 + a % 128) ++ t)
    else if esc < blk.length then
      let v := a / 128 * 32768 + (blk.getD esc 0).toNat * 128 + a % 128
      (expand4 tab blk k (j + 1) (esc + 1)).map (fun t => toLe 2 v ++ t)
    else none

/-- The 4,096 bytes of a block of a ready container, or none where it is corrupt or its bytes are poisoned (R125). -/
def State.expandBlock (s : State) (e i : Nat) : Option (List Byte) :=
  if i ≥ s.contBlocks e then some (List.replicate 4096 0)
  else
    let (codec, off, size) := s.contBlock e i
    if size ≠ 0 ∧ s.poisoned e off size then none
    else
      let blk := s.readPool e off size
      if codec = 0 then some blk
      else if codec = 1 then some (List.replicate 4096 0)
      else if codec = 2 then some ((List.replicate 512 (blk.take 8)).flatten)
      else expand4 (fun c => s.expTab e c) blk 2048 0 3072

/-- The size of a block meets Table 4.12. -/
def sizeOk (codec size : Nat) : Bool :=
  if codec = 0 then size == 4096 else if codec = 1 then size == 0 else if codec = 2 then size == 16
  else if codec = 3 then decide (3072 ≤ size) && decide (size ≤ 5120) else false

/-- The container of a loading extent is valid, and its quota can take the rest of its granules (R122). -/
def State.containerOk (s : State) (e : Nat) : Bool :=
  let blocks := s.contBlocks e
  let len := s.contLength e
  let c0 := s.contWord e 0
  let room := s.extBytes e
  let missing := (s.extGranules e - (s.granulesOf e).length) * granuleBytes
  c0 % 2 ^ 32 == 0xA9C00001 && c0 / 2 ^ 32 % 65536 == 1 && decide (1 ≤ blocks) && decide (blocks ≤ 1048576) &&
  decide (len * 16 ≤ room) && decide (blocks * 4096 ≤ room) && decide (64 + 4 * blocks ≤ room) &&
  crc32c (s.readPool e 64 (4 * blocks)) == s.contWord e 1 / 2 ^ 32 &&
  (List.range blocks).all (fun i =>
    let w := leNat (s.readPool e (64 + 4 * i) 4)
    let next := if i + 1 < blocks then leNat (s.readPool e (64 + 4 * (i + 1)) 4) % 2 ^ 28 else len
    decide (w % 2 ^ 28 ≤ next) && decide (next ≤ len) && sizeOk (w / 2 ^ 28) (16 * (next - w % 2 ^ 28))) &&
  (missing == 0 || s.mayAllocate (s.extHerd e) (s.extPlace e + 1) missing)

/-- Quadrant that expands for an extent, and whether a block stands in its expanded-block buffer. -/
def State.blockBuffered (s : State) (e b : Nat) : Bool := (quadGet s.pool.blocks (s.extQuad e)).contains (e, b)

/-- Put a block into the buffer of 256. -/
def State.bufferBlock (s : State) (e b : Nat) : State :=
  let q := s.extQuad e
  let l := (quadGet s.pool.blocks q).filter (· != (e, b)) ++ [(e, b)]
  { s with pool := { s.pool with blocks := quadSet s.pool.blocks q (l.drop (l.length - 256)) } }

/-- Serve a load from the buffered block of a ready container. -/
def State.serveBlock (s : State) (r : Req) : State :=
  let off := s.reqOff r
  match s.expandBlock r.ext (off / 4096) with
  | some bs => s.complete r eOk 0 ((bs.drop (off % 4096)).take (lenBytes r.hdr))
  | none => s.complete r ePoison 0 []

/-- A load of a ready container: from the buffer, or held until an expander has the block (R124). -/
def State.serveExpanded (s : State) (r : Req) : State :=
  let b := s.reqOff r / 4096
  if s.mode ≠ 0 then s.complete r eDegraded 0 []
  else if s.blockBuffered r.ext b then
    (s.tally (s.extHerd r.ext) (0x700 + 8 * s.extQuad r.ext + 5) 1).serveBlock r
  else s.hold r .expand b []

end Sys2Proof.Machine
end

