-- ==== Sys2Proof/Machine/CohOps.lean ====
section
/-! DEFINITION. Coherence at the home (chapter 5): publishing, the directory, and rut. -/

namespace Sys2Proof.Machine

/-- Run a meaning over a list of numbers. -/
def foldState (s : State) (l : List Nat) (f : State → Nat → State) : State := l.foldl f s

def odReduceEp (q : Nat) : Ent := ⟨0x3840, 1 + q % 4⟩

/-! ## Requests present at the home -/

/-- A request is still held, waiting or in service at a home of this A9. -/
def State.atHome (s : State) (id : Nat) : Bool :=
  s.pool.held.any (fun h => h.req.id == id) || s.coh.rounds.any (fun p => p.req.id == id) ||
  s.coh.txns.any (fun t => (t.req.map (·.id)) == some id) || s.coh.waits.any (fun w => (w.req.map (·.id)) == some id) ||
  s.coh.ops.any (fun o => o.req.id == id) ||
  s.coh.rut.any (fun l => (l.admitted ++ l.waiting).any (fun q => q.req.id == id))

/-- Every request at the homes of this A9, in no fixed order. -/
def State.homeReqs (s : State) : List Req :=
  s.pool.held.map (·.req) ++ s.coh.rounds.map (·.req) ++ s.coh.txns.filterMap (·.req) ++ s.coh.waits.filterMap (·.req)
    ++ s.coh.ops.map (·.req) ++ s.coh.rut.flatMap (fun l => (l.admitted ++ l.waiting).map (·.req))

/-- The earlier requests that R85 applies before a request: of the same sender and class, with overlapping bytes, or
both RLX 0 at the same home. Nothing but a PUBLISH waits for a PUBLISH, and that only for one not accepted yet (R131, R134). -/
def State.orderedBehind (s : State) (r : Req) : List Nat :=
  let early := fun (x : Req) => r.op == .publish && s.pool.held.any (fun h => h.req.id == x.id && h.why == .behind)
  (s.homeReqs.filter (fun x => decide (x.id < r.id) && (x.op != .publish || early x) && x.hdr.src == r.hdr.src && x.hdr.herd == r.hdr.herd && x.hdr.cls == r.hdr.cls &&
    ((x.ext == r.ext && overlap x r) || (!x.hdr.rlx && !r.hdr.rlx && x.hdr.dst == r.hdr.dst)))).map (·.id)

/-- The earlier stores to the region of a FLUSH or PUBLISH that are not applied yet. -/
def State.storesBefore (s : State) (r : Req) : List Nat :=
  (s.homeReqs.filter (fun x => decide (x.id < r.id) && writes x.op && x.ext == r.ext && overlap x r)).map (·.id)

/-! ## Publishing (R129–R135) -/

/-- The registered readers of an extent. -/
def State.readersOf (s : State) (e : Nat) : List Nat :=
  ((odListed s.od od3010_STATE).filter (fun kv => kv.2 == 1 && s.rd od3010_EXTENT kv.1 == e)).map (·.1)

/-- Drop a reader (R133). -/
def State.dropReader (s : State) (e r : Nat) : State :=
  (s.wr od3010_STATE r 2).emit (s.extQuad e) evReaderDropped (s.extHerd e) 4 (s.extQuad e) 0 [e, r]

/-- Send an INVALIDATE to a reader; none when no path to it remains. -/
def State.sendInvalidate (s : State) (e r val addr aux cls : Nat) : Option (Nat × State) :=
  let q := s.extQuad e
  let dst := s.rd od3010_ENDPOINT r
  match s.pathTo dst with
  | none => none
  | some p =>
    if hp : p < 256 then
      let port : PortId := ⟨p, hp⟩
      let src := s.rd od2820_HOME e
      let id := s.tr.nextId
      let (psn, s1) := s.takePsn src dst
      let h := { hdrFor cls (s.rd od3010_HERD r) src dst id psn with
        val := BitVec.ofNat 32 val, addr := BitVec.ofNat 57 addr, aux := BitVec.ofNat 64 aux }
      let req : Req := { id := id, sender := .home q, op := .invalidate, hdr := h, payload := [], ext := e, born := s.clk,
                         place := .queue, path := some port, dest := dst }
      let s2 := { s1 with tr := { s1.tr with nextId := id + 1, outstanding := s1.tr.outstanding ++ [req] } }
      some (id, (s2.enqueue q 28 none [port] (.req .invalidate h [])).homeCount e 6 1)
    else none

/-- Send INVALIDATEs to readers; those that cannot be reached are dropped at once. -/
def State.invalidateAll (s : State) (e val addr aux cls : Nat) : List Nat → State × List (Nat × Nat)
  | [] => (s, [])
  | r :: rs =>
    match s.sendInvalidate e r val addr aux cls with
    | some (id, s1) =>
      let (s2, l) := s1.invalidateAll e val addr aux cls rs
      (s2, (r, id) :: l)
    | none => (s.dropReader e r).invalidateAll e val addr aux cls rs

/-- Start the invalidation round of an accepted PUBLISH, or complete it if no reader is left (R132). -/
def State.startRound (s : State) (r : Req) : State :=
  let (s1, left) := s.invalidateAll r.ext r.hdr.val.toNat r.hdr.addr.toNat r.hdr.aux.toNat r.hdr.cls.toNat (s.readersOf r.ext)
  let s2 := s1.homeCount r.ext 4 1
  if left.isEmpty then s2.complete r eOk 0 []
  else { s2 with coh := { s2.coh with rounds := s2.coh.rounds ++ [PubRound.mk r.ext r left s.clk] } }

/-- A PUBLISH of an S extent that reaches service (Table 5.4). -/
def State.servePublish (s : State) (r : Req) : State :=
  let e := r.ext
  let ver := s.rd od3020_VERSION e
  let who := s.rd od3020_PUBLISHER e
  let val := r.hdr.val.toNat
  let src := r.hdr.src.toNat
  if s.rd od3020_FROZEN e = 1 then s.complete r eConflict ver []
  else if ver < val then ((s.wr od3020_VERSION e val).wr od3020_PUBLISHER e src).startRound r
  else if val = ver ∧ (src = who ∨ who = 0xFFFF) then (s.wr od3020_PUBLISHER e src).startRound r
  else if val = ver then
    ((((s.wr od3020_FROZEN e 1).homeCount e 5 1).emit (s.extQuad e) evPublishConflict (s.extHerd e) 4 (s.extQuad e) eConflict
      [e, ver])).complete r eConflict ver []
  else s.complete r eStale ver []

/-- A PUBLISH at its home: a FLUSH at LEVEL 0 for a P or H extent (R127); for an S extent it is accepted in this core cycle,
and reaches service after it at the earliest (R131). -/
def State.startPublish (s : State) (r : Req) : State :=
  if s.extClass r.ext = 1 then s.hold r .publish s.coh.cycle [] else s.complete r eOk 0 []

/-- A held PUBLISH was accepted before another: in an earlier core cycle, or in the same one with a lower SRC. -/
def Held.sooner (a b : Held) : Bool :=
  decide (a.place < b.place) || (a.place == b.place && decide (a.req.hdr.src < b.req.hdr.src))

/-- The PUBLISH of an extent that is served next: the first accepted in a core cycle that has ended. -/
def State.publishDue (s : State) (e : Nat) : Option Held :=
  (s.pool.held.filter (fun h => h.ext == e && h.why == .publish && decide (h.place < s.coh.cycle))).foldl
    (fun b h => match b with
      | none => some h
      | some x => if h.sooner x then some h else some x) none

/-- Serve the PUBLISHes of an extent in turn, until one starts a round of its own. -/
def State.nextPublish (s : State) (e : Nat) : Nat → State
  | 0 => s
  | n + 1 =>
    if s.coh.rounds.any (fun p => p.ext == e) then s
    else match s.publishDue e with
      | none => s
      | some h =>
        (({ s with pool := { s.pool with held := s.pool.held.filter (fun x => x.req.id != h.req.id) } }).servePublish h.req).nextPublish e n

/-- A reader has answered, or counts as answered. -/
def State.readerDone (s : State) (e r : Nat) : State :=
  match s.coh.rounds.find? (fun p => p.ext == e && p.left.any (fun x => x.1 == r)) with
  | none => s
  | some p =>
    let left := p.left.filter (fun x => x.1 != r)
    if left.isEmpty then
      let s1 := { s with coh := { s.coh with rounds := s.coh.rounds.filter (fun x => x.req.id != p.req.id) } }
      (s1.complete p.req eOk 0 []).nextPublish e (s.pool.held.length + 1)
    else { s with coh := { s.coh with rounds := s.coh.rounds.map (fun x => if x.req.id = p.req.id then { x with left := left } else x) } }

/-! ## Flushes (R104) -/

/-- The dirty chunks of a region of an extent, as chunk numbers of the extent. -/
def State.dirtyIn (s : State) (e off n : Nat) : List Nat :=
  (s.granulesOf e).flatMap (fun g => ((List.range 32).filter (fun c =>
    (s.gran e g).dirty.getLsbD c && decide ((g * 32 + c) * chunkBytes < off + n) && decide (off < (g * 32 + c + 1) * chunkBytes))).map (g * 32 + ·))

/-- A FLUSH whose earlier stores have been applied. -/
def State.serveFlush (s : State) (r : Req) : State :=
  let level := bitsOf r.hdr.attr.toNat 7 6
  if level = 1 ∧ s.extPersist r.ext then
    let cs := s.dirtyIn r.ext (s.reqOff r) r.hdr.aux.toNat
    if cs.isEmpty then s.complete r eOk 0 [] else s.hold r .flush 0 cs
  else s.complete r eOk 0 []

/-! ## Execution at the home -/

/-- Execute a request on the bytes of its extent, once nothing orders it behind another. -/
def State.execMem (s : State) (r : Req) : State :=
  match r.op with
  | .load => if s.extCmp r.ext && s.rd od2820_CSTATE r.ext == 2 then s.serveExpanded r else s.serveLoad r
  | .loadc =>
    if s.sealedHerd (s.extHerd r.ext) then s.complete r eSealed 0 []
    else if !(s.extCmp r.ext && s.rd od2820_CSTATE r.ext == 2) then s.complete r eFormat 0 []
    else s.serveLoad r
  | .store | .pstore | .atomic _ | .kick | .complete => s.serveWrite r
  | .flush => s.serveFlush r
  | .publish => s.startPublish r
  | _ => s.complete r eAccess 0 []

/-! ## The directory (R138–R143) -/

def dirNew : DirEntry := ⟨.u, false, false, 0, [], 0⟩
def State.dirOf (s : State) (l : Nat) : DirEntry := sparseGet dirNew s.coh.dir l
def State.setDir (s : State) (l : Nat) (d : DirEntry) : State :=
  { s with coh := { s.coh with dir := sparseSet dirNew s.coh.dir l d } }

def lineExt (l : Nat) : Nat := l / 2 ^ 41
def lineOff (l : Nat) : Nat := l % 2 ^ 41 * 128

/-- The key of a line's set in the directory cache of its home slice: 16,384 sets of 16 ways of 32 B (R139). -/
def State.dirSet (s : State) (l : Nat) : Nat := (s.extQuad (lineExt l) * 16384 + Config.dirSet l % 16384) * 16

def State.dirFrame (s : State) (k : Nat) : CacheFrame := sparseGet frameNone s.coh.dirUse k

/-- The home slice uses the directory entry of a line: a hit renews its use, a miss takes the way of the least recently used
of those that the extent's owner may use (R139). -/
def State.dirTouch (s : State) (l : Nat) : State :=
  let k := s.dirSet l
  let here := fun (w : Nat) => (s.dirFrame (k + w)).used != 0 && (s.dirFrame (k + w)).ext == lineExt l && (s.dirFrame (k + w)).gran == l
  let ws := s.waysIn od3030_DIR_WAYS (s.extHerd (lineExt l))
  let way := match (List.range 16).find? here with
    | some w => some w
    | none => freeWay ws (fun w => s.dirFrame (k + w))
  match way with
  | some w => { s with coh := { s.coh with dirUse := sparseSet frameNone s.coh.dirUse (k + w) ⟨lineExt l, l, s.up + 1⟩ } }
  | none => s

/-- Drop the cached directory entries that stand in ways which their extents' owners may not use any more. -/
def State.dropDirStrangers (s : State) : State :=
  { s with coh := { s.coh with dirUse := s.coh.dirUse.filter (fun kv =>
      (s.waysIn od3030_DIR_WAYS (s.extHerd kv.2.ext)).contains (kv.1 % 16)) } }

/-- The agents that may hold a copy of a shared line. -/
def DirEntry.holders (d : DirEntry) : List Nat :=
  if d.coarse then (List.range 256).filter (fun t => d.groups.getLsbD (t / 4)) ++ (if d.cbit then [256] else [])
  else d.sharers

/-- Set an agent's group, or CBIT for the companion. -/
def DirEntry.mark (d : DirEntry) (a : Nat) : DirEntry :=
  if a = 256 then { d with cbit := true } else { d with groups := d.groups ||| (1#64 <<< (a / 4)) }

/-- Add a sharer; a ninth makes the line coarse (R138). -/
def DirEntry.add (d : DirEntry) (a : Nat) : DirEntry :=
  let d1 := { d with state := .s, owner := 0 }
  if d1.coarse then d1.mark a
  else if d1.sharers.contains a then d1
  else if d1.sharers.length < 8 then { d1 with sharers := d1.sharers ++ [a] }
  else (d1.sharers ++ [a]).foldl DirEntry.mark { d1 with coarse := true, sharers := [], groups := 0, cbit := false }

/-- Remove a sharer from a precise line. -/
def DirEntry.drop (d : DirEntry) (a : Nat) : DirEntry :=
  if d.coarse then d
  else
    let l := d.sharers.filter (· != a)
    if l.isEmpty then dirNew else { d with sharers := l }

def dirShared (as : List Nat) : DirEntry := as.foldl DirEntry.add dirNew
def dirOwned (a : Nat) : DirEntry := { dirNew with state := .m, owner := a }
def dirPoison : DirEntry := { dirNew with state := .p }

def lineKeySpan : Nat := 2 ^ 58
def agentKey (a l : Nat) : Nat := a * lineKeySpan + l
def agentNone : AgentLine := ⟨.s, []⟩

/-- What an agent holds of a line. -/
def State.held (s : State) (a l : Nat) : Option AgentLine :=
  let x := sparseGet agentNone s.coh.agents (agentKey a l)
  if x = agentNone then none else some x

def State.setHeld (s : State) (a l : Nat) (x : Option AgentLine) : State :=
  { s with coh := { s.coh with agents := sparseSet agentNone s.coh.agents (agentKey a l) (x.getD agentNone) } }

/-- Lines that an agent holds. -/
def State.linesHeld (s : State) (a : Nat) : List Nat :=
  (sparseSlice s.coh.agents (agentKey a 0) (agentKey (a + 1) 0)).map (fun kv => kv.1 - agentKey a 0)

/-- The bytes of a line at the home, and writing them back. -/
def State.lineData (s : State) (l : Nat) : List Byte := s.readPool (lineExt l) (lineOff l) 128
def State.writeBack (s : State) (l : Nat) (bs : List Byte) : State :=
  let g := lineOff l / granuleBytes
  (if (s.gran (lineExt l) g).tier = 0 then s.giveGranule (lineExt l) g else s).writePool (lineExt l) (lineOff l) bs

/-- The row of Table 5.6 of a message, from 0. -/
def cohRow : CohKind → Nat
  | .fwds => 4 | .fwdm => 5 | .fwdr => 6 | .inv => 7 | .invack => 8 | .data => 9 | .compack => 10

/-- Trace of a coherence message (Table 18.7). -/
def State.traceCoh (s : State) (row sender receiver l : Nat) : State :=
  s.trace (s.extQuad (lineExt l)) ⟨5, s.extHerd (lineExt l), 4, s.extQuad (lineExt l), row, sender * 2 ^ 55 + receiver * 2 ^ 46,
    s.extBase (lineExt l) + lineOff l, none⟩ []

/-- Put a coherence message on the internal network. -/
def State.post' (s : State) (m : CohMsg) : State :=
  let (from_, to_) := match m.kind with
    | .compack => (m.agent, m.other)
    | .invack | .data => (m.other, m.agent)
    | _ => (257, m.agent)
  ({ s with coh := { s.coh with msgs := s.coh.msgs ++ [m] } }).traceCoh (cohRow m.kind) from_ to_ m.line

def State.txnOf (s : State) (l : Nat) : Option LineTxn := s.coh.txns.find? (fun t => t.line == l)
def State.setTxn (s : State) (t : LineTxn) : State :=
  { s with coh := { s.coh with txns := s.coh.txns.map (fun x => if x.line = t.line then t else x) } }
def State.dropTxn (s : State) (l : Nat) : State :=
  { s with coh := { s.coh with txns := s.coh.txns.filter (fun x => x.line != l) } }
def State.addTxn (s : State) (t : LineTxn) : State := { s with coh := { s.coh with txns := s.coh.txns ++ [t] } }

def State.inRut (s : State) (l : Nat) : Bool := s.coh.rut.any (fun x => x.line == l)

/-- Send a probe, counting it. -/
def State.probe (s : State) (k : CohKind) (a other l : Nat) : State :=
  (s.post' { kind := k, agent := a, other := other, line := l, data := [], acks := 0, grant := none, sent := s.clk }).homeCount (lineExt l) 7 1

def State.probeAll (s : State) (k : CohKind) (as : List Nat) (other l : Nat) : State :=
  as.foldl (fun s a => s.probe k a other l) s

/-- Start the transaction of a caching agent on an unblocked line (Table 5.7). -/
def State.startGet (s : State) (a l : Nat) (excl : Bool) : State :=
  let s := s.dirTouch l
  let d := s.dirOf l
  let t : LineTxn := { line := l, agent := some a, excl := excl, req := none, due := none, got := 0, data := none, probe := false }
  let dat := fun (s : State) (acks : Nat) (bs : List Byte) (g : AgentLineState) =>
    s.post' { kind := .data, agent := a, other := 257, line := l, data := bs, acks := acks, grant := some g, sent := s.clk }
  match d.state with
  | .p => s
  | .u => dat (s.addTxn t) 0 (s.lineData l) (if excl then .m else .s)
  | .s =>
    if excl then
      let others := d.holders.filter (· != a)
      let bs := if d.holders.contains a && (s.held a l).isSome then [] else s.lineData l
      dat ((s.addTxn t).probeAll .inv others a l) others.length bs .m
    else dat (s.addTxn t) 0 (s.lineData l) .s
  | .m =>
    let s1 := s.addTxn { t with probe := true }
    s1.probe (if excl then .fwdm else .fwds) d.owner a l

/-- Start, for an uncached request or a recall, what one line needs: none where the line is ready as it stands. -/
def State.startUncached (s : State) (l : Nat) (store : Bool) (req : Option Req) : State :=
  let s := s.dirTouch l
  let d := s.dirOf l
  let t : LineTxn := { line := l, agent := none, excl := store, req := req, due := some 0, got := 0, data := none, probe := false }
  match d.state with
  | .m => (s.addTxn { t with probe := true }).probe (if store then .fwdm else .fwdr) d.owner 257 l
  | .s =>
    if store then (s.addTxn { t with due := some d.holders.length }).probeAll .inv d.holders 257 l
    else s.addTxn t
  | _ => s.addTxn t

def LineTxn.ready (t : LineTxn) : Bool := !t.probe && t.due == some t.got

/-- The lines that a request touches. -/
def State.reqLines (s : State) (r : Req) : List Nat := State.linesOf r.ext (s.reqOff r) (spanOf r.op r.hdr)

/-- A request changes a line's bytes at the home. -/
def storeLike (op : ReqOp) : Bool := writes op

/-! ## Rut (R148–R152) -/

/-- The source of a request in rut: SRC, or the agent number above every SRC. -/
def rutSource (r : Req) (agent : Option Nat) : Nat := match agent with | some a => 65536 + a | none => r.hdr.src.toNat

/-- The pool of a line in rut: 0 shared, or the time-gated herd that owns its extent, per slice. -/
def State.rutPool (s : State) (l : Nat) : Nat × Nat :=
  let h := s.extHerd (lineExt l)
  (s.extQuad (lineExt l), if s.timeGated h then h else 0)

def State.rutRoom (s : State) (l : Nat) : Bool :=
  let k := s.rutPool l
  decide ((s.coh.rut.filter (fun x => s.rutPool x.line == k)).length < (if k.2 = 0 then 64 else 4))

def State.rutLines (s : State) : State := s.wr od3000_RUT_LINES 0 s.coh.rut.length

def State.setRut (s : State) (x : RutLine) : State :=
  { s with coh := { s.coh with rut := s.coh.rut.map (fun y => if y.line = x.line then x else y) } }

/-- Sources with waiting requests and credit, by rising number. -/
def RutLine.eligible (x : RutLine) (credit : Nat) : List Nat :=
  ((x.waiting.map (·.source)).eraseDups).filter (fun a => decide ((x.admitted.filter (fun q => q.source == a)).length < credit))

/-- Admit waiting requests round-robin under the credit (R150). -/
def State.rutAdmit (s : State) (l : Nat) : Nat → State
  | 0 => s
  | n + 1 =>
    match s.coh.rut.find? (fun x => x.line == l) with
    | none => s
    | some x =>
      if !x.loaded then s
      else
        match nextInTurn (x.eligible (s.rd od3000_RUT_CREDIT 0)) x.turn with
        | none => s
        | some a =>
          match x.waiting.find? (fun q => q.source == a) with
          | none => s
          | some q =>
            let x1 := { x with waiting := x.waiting.erase q, turn := a }
            if s.barred q.req then ((s.setRut x1).complete q.req eAccess 0 []).rutAdmit l n
            else (s.setRut { x1 with admitted := x1.admitted ++ [q] }).rutAdmit l n

/-- Put a request into the rut queues of a line; while the line is leaving rut it waits at the line (R152). -/
def State.rutArrive (s : State) (l : Nat) (q : RutReq) : State :=
  match s.coh.rut.find? (fun x => x.line == l) with
  | none => s
  | some x =>
    if x.leaving then
      let w : LineWait := { line := l, agent := q.agent, excl := q.excl, req := if q.agent.isSome then none else some q.req, anew := true }
      { s with coh := { s.coh with waits := s.coh.waits ++ [w] } }
    else (s.setRut { x with waiting := x.waiting ++ [q] }).rutAdmit l (x.waiting.length + 2)

/-- The request that stands for a bare GETS or GETM of an agent in rut. -/
def State.bareReq (s : State) (a l : Nat) : Req :=
  { id := s.tr.nextId, sender := .companion, op := .load, hdr := { hdrFor 0 0 0 0 0 0 with
      len := 15, addr := BitVec.ofNat 57 (s.extBase (lineExt l) + lineOff l) }, payload := [], ext := lineExt l, born := s.clk,
    place := .home, path := none, dest := a }

/-- The tine that a request comes from. -/
def Req.tineOf (r : Req) : Option Nat := match r.sender with | .tine t _ => some t.val | _ => none

/-! ## Starting requests on hard-coherent lines -/

/-- A line is blocked. -/
def State.lineBusy (s : State) (l : Nat) : Bool := (s.txnOf l).isSome

/-- The home slice may start a transaction on an extent, or a line, in this core cycle (R147). -/
def State.extMayStart (s : State) (e : Nat) : Bool := s.residueTakes s.coh.cycle (s.extHerd e)
def State.mayStart (s : State) (l : Nat) : Bool := s.extMayStart (lineExt l)

/-- An agent's copy in M is the line's one copy, or is about to be; it is not where a probe of it timed out (R143). -/
def State.owns (s : State) (a l : Nat) : Bool :=
  ((s.dirOf l).state == .m && (s.dirOf l).owner == a) || (match s.txnOf l with | some t => t.agent == some a | none => false)

/-- The predictor's entry of a line (R144). -/
def State.predIndex (s : State) (r : Req) : Nat :=
  let a := r.hdr.addr.toNat
  s.extQuad r.ext * 4096 + (bitsOf a 18 7 ^^^ bitsOf a 30 19)

def State.predAdd (s : State) (r : Req) (up : Bool) : State :=
  if s.timeGated (s.extHerd r.ext) then s
  else
    let i := s.predIndex r
    let v := sparseGet 0 s.coh.pred i
    { s with coh := { s.coh with pred := sparseSet 0 s.coh.pred i (if up then min 7 (v + 1) else v - 1) } }

/-- The line of an atomic is contended: blocked, or held by an agent other than the requester (R145). -/
def State.contended (s : State) (l : Nat) (agent : Option Nat) : Bool :=
  let d := s.dirOf l
  s.lineBusy l || (match d.state with
    | .m => some d.owner != agent
    | .s => d.holders.any (fun a => some a != agent)
    | _ => false)

/-- Finish an uncached request whose lines are all ready: execute it, and record the states of Table 5.7. -/
def State.endUncached (s : State) (r : Req) : State :=
  let ls := s.reqLines r
  let store := storeLike r.op
  let s1 := ls.foldl (fun s l =>
    let d := s.dirOf l
    let s := match s.txnOf l with
      | some t => (match t.data with | some bs => s.writeBack l bs | none => s)
      | none => s
    if store then s.setDir l dirNew
    else match d.state with
      | .m => s.setDir l (dirShared [d.owner])
      | _ => s) s
  let s2 := ls.foldl (fun s l => s.dropTxn l) s1
  s2.execMem r

/-- A request stores the whole of a line. -/
def State.wholeLine (s : State) (r : Req) (l : Nat) : Bool :=
  r.op == .store && decide (s.reqOff r ≤ lineOff l) && decide (lineOff l + 128 ≤ s.reqOff r + spanOf r.op r.hdr)

/-- Start an uncached request on the lines of an H extent, or have it wait for the first that is blocked. -/
def State.uncached (s : State) (r : Req) : State :=
  let ls := s.reqLines r
  let store := storeLike r.op
  match ls.find? (fun l => s.lineBusy l) with
  | some l => { s with coh := { s.coh with waits := s.coh.waits ++ [LineWait.mk l none store (some r) false] } }
  | none =>
    if ls.any (fun l => (s.dirOf l).state == DirStateCode.p && !s.wholeLine r l) then s.complete r ePoison 0 []
    else
      let s1 := ls.foldl (fun s l => s.startUncached l store (some r)) s
      if ls.all (fun l => match s1.txnOf l with | some t => t.ready | none => true) then s1.endUncached r else s1

/-- The lines that an agent's operation still lacks. -/
def State.lacking (s : State) (o : AgentOp) : List Nat :=
  (s.reqLines o.req).filter (fun l => match s.held o.agent l with
    | some x => o.excl && x.state != .m
    | none => true)

/-- Bytes of an agent's lines, from offset `off`. -/
def State.agentBytes (s : State) (a e off n : Nat) : List Byte :=
  (List.range n).map (fun i => match s.held a (lineKey e (off + i)) with
    | some x => x.data.getD ((off + i) % 128) 0
    | none => 0)

def State.agentPut (s : State) (a e off : Nat) : List Byte → State
  | [] => s
  | b :: bs =>
    let l := lineKey e off
    let s1 := match s.held a l with
      | some x => s.setHeld a l (some ⟨.m, x.data.set (off % 128) b⟩)
      | none => s
    s1.agentPut a e (off + 1) bs

def State.agentMasked (s : State) (a e off mask : Nat) : List Byte → State
  | [] => s
  | b :: bs => (if mask % 2 = 1 then s.agentPut a e off [b] else s).agentMasked a e (off + 1) (mask / 2) bs

/-- Execute an operation in an agent's cache. -/
def State.agentExec (s : State) (o : AgentOp) : State :=
  let r := o.req
  let off := s.reqOff r
  match r.op with
  | .load => s.answer r eOk 0 (s.agentBytes o.agent r.ext off (lenBytes r.hdr))
  | _ =>
  match s.allocate r.ext (off / granuleBytes) with
  | none => s.answer r eQuota 0 []
  | some s =>
  match r.op with
  | .pstore => (s.agentMasked o.agent r.ext off r.hdr.aux.toNat r.payload).answer r eOk 0 []
  | .atomic op =>
    let w := atomicWidth r.hdr
    let old := leNat (s.agentBytes o.agent r.ext off w)
    (s.agentPut o.agent r.ext off (toLe w (atomicResult op r.hdr r.payload old))).answer r eOk 0 (atomicData r.hdr old)
  | _ => (s.agentPut o.agent r.ext off r.payload).answer r eOk 0 []

/-- Lines that a tine's line cache has room for (R137); the companion's cache is its own. -/
def State.cacheRoom (s : State) (a : Nat) : Bool := a == 256 || decide ((s.linesHeld a).length < 2048)

/-- An agent has asked for a line and waits. -/
def State.askedLine (s : State) (a l : Nat) : Bool :=
  s.coh.waits.any (fun w => w.line == l && w.agent == some a) ||
  (match s.txnOf l with | some t => t.agent == some a | none => false)

/-- Ask for a line for an agent (GETS or GETM): start, wait behind the transaction that blocks it, or nothing if already
asked. -/
def State.askLine (s : State) (a l : Nat) (excl : Bool) : State :=
  if s.askedLine a l || (!s.cacheRoom a && (s.held a l).isNone) then s
  else
    let s := s.traceCoh (if excl then 1 else 0) a 257 l
    if s.lineBusy l || !s.mayStart l then
      { s with coh := { s.coh with waits := s.coh.waits ++ [LineWait.mk l (some a) excl none false] } }
    else s.startGet a l excl

/-- Try the operations of an agent, in order: execute those with every line, and ask for the lines that others lack. -/
def State.agentTry (s : State) (a : Nat) : State :=
  (s.coh.ops.filter (fun o => o.agent == a)).foldl (fun s o =>
    match (s.lacking o).find? (fun l => s.inRut l && !s.askedLine a l) with
    | some l => ({ s with coh := { s.coh with ops := s.coh.ops.erase o } }).rutArrive l ⟨65536 + a, none, o.excl, o.req⟩
    | none =>
    if (s.lacking o).any (fun l => (s.dirOf l).state == DirStateCode.p) then
      let s1 := { s with coh := { s.coh with ops := s.coh.ops.erase o } }
      if (s.reqLines o.req).all (fun l => s.wholeLine o.req l || (s.dirOf l).state != DirStateCode.p) then s1.uncached o.req
      else s1.answer o.req ePoison 0 []
    else if (s.lacking o).isEmpty then
      ({ s with coh := { s.coh with ops := s.coh.ops.erase o } }).agentExec o
    else (s.lacking o).foldl (fun s l => s.askLine a l o.excl) s) s

/-! ## Counting and starting (R115, R142, R148) -/

/-- Recall an H line that rut waits for, once nothing blocks it (R149, step 3). -/
def State.rutRecall (s : State) (l : Nat) : State :=
  let d := s.dirOf l
  if s.coh.rut.any (fun x => x.line == l && !x.loaded) && !s.lineBusy l && s.mayStart l && (d.state == .s || d.state == .m) then
    s.startUncached l true none
  else s

/-- A request is put into the rut queues of a line before the first that arrived after it. -/
def rutInsert (q : RutReq) : List RutReq → List RutReq
  | [] => [q]
  | x :: xs => if q.req.id < x.req.id then q :: x :: xs else x :: rutInsert q xs

/-- What waits at a line that enters rut, in the order of arrival (R149, step 5), and the held requests among it: those
behind an earlier one of their source at the line. A bare GETS or GETM is answered there with DATA (R150). -/
def State.rutMoved (s : State) (l : Nat) : List RutReq × List Held :=
  let waiting := (s.coh.waits.filter (fun w => w.line == l)).filterMap (fun w => match w.req, w.agent with
    | some r, ag => some (RutReq.mk (rutSource r ag) ag w.excl r)
    | none, some a => match s.coh.ops.find? (fun o => o.agent == a && (s.lacking o).contains l) with
      | some o => some (RutReq.mk (65536 + a) none o.excl o.req)
      | none => some (RutReq.mk (65536 + a) (some a) w.excl (s.bareReq a l))
    | none, none => none)
  let first := (waiting.map (fun q => q.req.id)) ++ (match s.txnOf l with | some t => (t.req.map (·.id)).toList | none => [])
  let plain := fun (op : ReqOp) => match op with | .flush | .publish | .loadc => false | _ => true
  s.pool.held.foldl (fun (m : List RutReq × List Held) h =>
    if h.why == .behind && plain h.req.op && (s.reqLines h.req).contains l &&
        h.chunks.all (fun i => first.contains i || m.2.any (fun y => y.req.id == i) || !s.atHome i) then
      (rutInsert (RutReq.mk (rutSource h.req (if s.extClass h.ext = 2 then h.req.tineOf else none)) none (storeLike h.req.op) h.req) m.1,
        m.2 ++ [h])
    else m) (waiting, [])

/-- Count a request on a line in its window, and put the line into rut when its count exceeds RUT_COUNT. -/
def State.rutCount (s : State) (l : Nat) : State :=
  let n := sparseGet 0 s.coh.counts l + 1
  let s1 := { s with coh := { s.coh with counts := sparseSet 0 s.coh.counts l n } }
  if n ≤ (quadGet s.coh.rutSet (s.extQuad (lineExt l))).1 ∨ s.inRut l then s1
  else if s.rutRoom l then
    let (moved, behind) := s1.rutMoved l
    let x : RutLine := { line := l, slice := s.extQuad (lineExt l), loaded := false, leaving := false,
                         admitted := [], waiting := moved, turn := 0 }
    let s2 := { s1 with
      tr := { s1.tr with nextId := s1.tr.nextId + 1 }, pool := { s1.pool with held := s1.pool.held.filter (fun h => !behind.contains h) },
      coh := { s1.coh with rut := s1.coh.rut ++ [x], waits := s1.coh.waits.filter (fun w => w.line != l),
                           ops := s1.coh.ops.filter (fun o => !moved.any (fun q => q.req.id == o.req.id)) } }
    let s3 : State := (s2.rutLines).homeCount (lineExt l) 8 1
    if s3.extClass (lineExt l) = 2 then s3.rutRecall l else s3.touch (lineExt l) (lineOff l / granuleBytes)
  else if s.coh.refused.contains l then s1
  else ({ s1 with coh := { s1.coh with refused := s1.coh.refused ++ [l] } }).bump od3000_RUT_REFUSED 0 32 1

/-- An atomic of a caching agent executes at the home ALU (R145, R146). -/
def State.near (s : State) (r : Req) (a : Nat) : Bool :=
  (match r.op with | .atomic _ => true | _ => false) &&
  (s.timeGated (s.extHerd r.ext) ||
    (((s.held a (lineKey r.ext (s.reqOff r))).map AgentLine.state) != some AgentLineState.m &&
      decide (s.rd od3000_PRED_THRESHOLD 0 ≤ sparseGet 0 s.coh.pred (s.predIndex r))))

/-- A tine's request that its own line cache serves: nothing of it reaches the home (R137, R140). -/
def State.agentHit (s : State) (r : Req) : Bool :=
  match r.tineOf, r.op with
  | _, .flush | _, .publish | _, .loadc => false
  | some a, _ => s.extClass r.ext == 2 && !s.near r a && (s.lacking ⟨a, storeLike r.op, r⟩).isEmpty
  | none, _ => false

/-- Take a request past its checks: into rut, onto the directory, or to the bytes. -/
def State.homeStart (s : State) (r : Req) : State :=
  let agent := r.tineOf
  match r.op with
  | .flush | .publish | .loadc => s.execMem r
  | _ =>
    match (s.reqLines r).find? (fun l => s.inRut l) with
    | some l =>
      let q : RutReq := ⟨rutSource r (if s.extClass r.ext = 2 then agent else none), none, storeLike r.op, r⟩
      s.rutArrive l q
    | none =>
      if s.extClass r.ext = 2 then
        let l := lineKey r.ext (s.reqOff r)
        let isAtomic := match r.op with | .atomic _ => true | _ => false
        let s1 := match agent with
          | none => if isAtomic then s.predAdd r true else s
          | some a =>
            if !isAtomic then s
            else if ((s.held a l).map AgentLine.state) == some AgentLineState.m then s.predAdd r false
            else s.predAdd r (s.contended l agent)
        match agent with
        | some a =>
          if s.near r a then s1.uncached r
          else
            ({ s1 with coh := { s1.coh with ops := s1.coh.ops ++ [AgentOp.mk a (storeLike r.op) r] } }).agentTry a
        | none => s1.uncached r
      else s.execMem r

/-- Start what waits for a line that has become free, in order, until it is blocked again. -/
def State.lineFree (s : State) (l : Nat) : Nat → State
  | 0 => s
  | n + 1 =>
    if s.lineBusy l || !s.mayStart l then s
    else match s.coh.waits.find? (fun w => w.line == l) with
      | none => s
      | some w =>
        let s1 := { s with coh := { s.coh with waits := s.coh.waits.erase w } }
        let s2 := match w.req, w.agent with
          | some r, ag => if s1.inRut l then s1.rutArrive l ⟨rutSource r ag, ag, storeLike r.op, r⟩
            else match ag with
              | some a => s1.startGet a l w.excl
              | none => if w.anew then s1.homeStart r else if s1.extClass r.ext = 2 then s1.uncached r else s1.execMem r
          | none, some a =>
            if (s1.dirOf l).state == DirStateCode.p then s1.agentTry a
            else s1.startGet a l w.excl
          | none, none => s1
        s2.lineFree l n

def State.freeLine (s : State) (l : Nat) : State := (s.lineFree l (s.coh.waits.length + 1)).rutRecall l

/-- Go on with a transaction after an answer: an agent that has all installs the line and sends COMPACK; an uncached
request with every line ready is executed; a recall ends. -/
def State.txnStep (s : State) (l : Nat) : State :=
  match s.txnOf l with
  | none => s
  | some t =>
    if !t.ready then s
    else match t.agent, t.req with
      | some a, _ =>
        match t.data with
        | none => s
        | some bs =>
          let own := match s.held a l with | some x => x.data | none => s.lineData l
          let d := if bs.isEmpty then own else bs
          let s1 := (s.setHeld a l (some ⟨if t.excl then .m else .s, d⟩)).post'
            { kind := .compack, agent := a, other := 257, line := l, data := [], acks := 0, grant := none, sent := s.clk }
          s1.agentTry a
      | none, some r =>
        let ls := s.reqLines r
        if ls.all (fun k => match s.txnOf k with | some x => x.ready | none => true) then
          ls.foldl (fun s k => s.freeLine k) (s.endUncached r)
        else s
      | none, none =>
        let s1 := match t.data with | some bs => s.writeBack l bs | none => s
        (s1.setDir l dirNew).dropTxn l

/-! ## Arrival at the home (R131, R147) -/

/-- The requests admitted to lines in rut that a FLUSH or PUBLISH covers (R151). -/
def State.rutBefore (s : State) (r : Req) : List Nat :=
  (s.coh.rut.filter (fun x => lineExt x.line == r.ext && decide (lineOff x.line < s.reqOff r + spanOf r.op r.hdr) &&
    decide (s.reqOff r < lineOff x.line + 128))).flatMap (fun x => x.admitted.map (fun q => q.req.id))

/-- The rut queues of the line that a request goes to keep its order behind an earlier request, which is in them or is the
transaction that the line waits for (R150). -/
def State.rutKeeps (s : State) (r : Req) (i : Nat) : Bool :=
  match r.op with
  | .flush | .publish | .loadc => false
  | _ => match s.coh.rut.find? (fun x => (s.reqLines r).contains x.line) with
    | some x => (x.admitted ++ x.waiting).any (fun q => q.req.id == i) ||
        s.coh.waits.any (fun w => w.line == x.line && (w.req.map (·.id)) == some i) ||
        (match s.txnOf x.line with | some t => (t.req.map (·.id)) == some i | none => false)
    | none => false

/-- Start a request in this core cycle, or have it wait for one in which the home slice may start it: a time-gated herd's in
the queue of its own, one to a cycle of its own, and any other outside such cycles (R147). -/
def State.homeGo (s : State) (r : Req) : State :=
  if s.agentHit r || (!s.hasResidue (s.extHerd r.ext) && s.extMayStart r.ext) then s.homeStart r else s.hold r .slot 0 []

/-- The key of a sealed owner's region is not loaded (R21, R389). -/
def State.keyless (s : State) (e : Nat) : Bool :=
  s.sealedHerd (s.extHerd e) && (s.rd od2800_KEY_STATE (s.extHerd e) != 1 || quadGet s.sec.noWork (s.extQuad e))

/-- A request has no home that could serve it: its slice or the tray that holds its bytes is lost, or its quadrant is gated, and it
completes by its load timeout (R91, R427, R466). -/
def State.homeGone (s : State) (r : Req) : Bool :=
  let g := s.reqOff r / granuleBytes
  (match s.extSlice r.ext with | some q => s.sliceLost q || s.rd od4C08_GATE q == 1 | none => false) ||
  (s.trayLost r.ext g && (!(s.gran r.ext g).cached || s.chunkPending r.ext g (s.reqOff r / chunkBytes % 32)))

/-- A request arrives at its home on this A9 (Tables 3.9, 4.9, 5.4; R21, R85, R148, R417). -/
def State.homeArrive (s : State) (r : Req) : State :=
  let s0 := s.homeCount r.ext 0 1
  if s0.homeGone r then s
  else if s0.psnApplied r && recorded r.op then s0.answerAgain r
  else if s0.mode = 2 && (writes r.op || r.op == .publish) then s0.answer r eDegraded 0 []
  else if s0.fenced r.ext r.hdr.herd.toNat (s0.reqOff r) (spanOf r.op r.hdr) then s0.complete r eRevoked 0 []
  else if s0.keyless r.ext then s0.complete r eSealed 0 []
  else if r.op == .publish && s0.extRo r.ext then s0.complete r eAccess 0 []
  else if s0.barred r then s0.complete r eAccess 0 []
  else
    let s1 := match r.op with
      | .flush | .publish => s0
      | _ => if s0.agentHit r then s0 else (s0.reqLines r).foldl (fun s l => s.rutCount l) s0
    let before := ((s1.orderedBehind r).filter (fun i => !s1.rutKeeps r i) ++
      (match r.op with | .flush | .publish => s1.storesBefore r ++ s1.rutBefore r | _ => [])).eraseDups
    if before.isEmpty then s1.homeGo r
    else s1.hold r .behind 0 before

/-- Let a held request go on if nothing it waits for is left; another hold may take it. -/
def State.tryHeld (s : State) (h : Held) : State :=
  let gone := { s with pool := { s.pool with held := s.pool.held.filter (fun x => x.req.id != h.req.id) } }
  match h.why with
  | .behind =>
    if h.chunks.any (fun i => s.atHome i) then s
    else if s.psnApplied h.req && recorded h.req.op then gone.answerAgain h.req
    else gone.homeGo h.req
  | .fill => if s.chunkPending h.ext (h.place / 32) (h.place % 32) then s else gone.serveWrite h.req
  | .flash => if s.onFlash h.ext (h.place * chunkBytes) then s else gone.loadNow h.req
  | .ceiling =>
    match s.dirtyWay (s.extHerd h.ext) with
    | .apply | .through => gone.serveWrite h.req
    | _ => if (s.gran h.ext (h.place / 32)).dirty.getLsbD (h.place % 32) then gone.serveWrite h.req else s
  | .pfw => if s.flushMode && !s.pfwStuck then s else gone.serveWrite h.req
  | .expand => if s.blockBuffered h.ext h.place then gone.serveBlock h.req else s
  | .flush => if h.chunks.isEmpty then gone.complete h.req eOk 0 [] else s
  | .publish | .writeThrough | .slot => s

/-- One pass over the held requests, in order of arrival. -/
def State.heldPass (s : State) : State :=
  s.pool.held.foldl (fun s h => if s.pool.held.any (fun x => x.req.id == h.req.id) then s.tryHeld h else s) s

/-- Passes over the held requests, so that a request that waits behind one released follows it. -/
def State.heldPasses (s : State) : Nat → State
  | 0 => s
  | n + 1 => s.heldPass.heldPasses n

/-- Release what the last change lets go. -/
def State.release (s : State) : State := s.heldPasses s.pool.held.length

end Sys2Proof.Machine
end

