-- ==== Sys2Proof/Machine/LinkOps.lean ====
section
/-! DEFINITION. Ports: lanes and widths, down events, the penalty, routes, and the reissue of requests (chapter 13). -/

namespace Sys2Proof.Machine

/-! ## Lanes and widths (R320, R328, R329) -/

/-- First octet lane and lanes of port 4o + k under a mode (Table 13.1); none where the mode does not create it. -/
def modeLanes (mode k : Nat) : Option (Nat × Nat) :=
  match mode, k with
  | 1, 0 => some (0, 8)
  | 2, 0 => some (0, 4)
  | 2, 2 => some (4, 4)
  | 3, 0 => some (0, 4)
  | 3, 2 => some (4, 2)
  | 3, 3 => some (6, 2)
  | 4, 0 => some (0, 2)
  | 4, 1 => some (2, 2)
  | 4, 2 => some (4, 4)
  | 5, 0 => some (0, 2)
  | 5, 1 => some (2, 2)
  | 5, 2 => some (4, 2)
  | 5, 3 => some (6, 2)
  | 6, 0 => some (0, 8)
  | 7, 0 => some (0, 16)
  | _, _ => none

def State.portMode (s : State) (p : Nat) : Nat := s.rd od2110_MODE (portOctet p)
def State.portLanes (s : State) (p : Nat) : Option (Nat × Nat) := modeLanes (s.portMode p) (p % 4)

/-- A CXL port (modes 6 and 7). -/
def State.isCxl (s : State) (p : Nat) : Bool := decide (6 ≤ s.portMode p)

/-- Rate of a port at its width, in Mb/s: 200 Gb/s a lane. -/
def State.portRate (s : State) (p : Nat) : Nat := 200000 * s.rd od2118_WIDTH p

/-- The lanes of a window of `w` lanes from octet lane `a` hold no bad lane. -/
def lanesGood (bad a w : Nat) : Bool := (List.range w).all (fun i => !bitAt bad (a + i))

/-- The widest width, at most half of `now`, that has a good aligned group of lanes and is at least `least`, with the
first lane of the lowest such group (R328). -/
def narrower (bad base lanes least : Nat) : List Nat → Option (Nat × Nat)
  | [] => none
  | w :: ws =>
    if least ≤ w ∧ w ≤ lanes then
      match (List.range (lanes / w)).find? (fun i => lanesGood bad (base + i * w) w) with
      | some i => some (w, base + i * w)
      | none => narrower bad base lanes least ws
    else narrower bad base lanes least ws

def trainNew : Training := ⟨0, false, 0, 0, none⟩
def State.training (s : State) (p : Nat) : Training := sparseGet trainNew s.ports.train p
def State.setTraining (s : State) (p : Nat) (t : Training) : State :=
  { s with ports := { s.ports with train := sparseSet trainNew s.ports.train p t } }

/-- Begin training at a width (R327): STATE 2, stage 1. -/
def State.startTraining (s : State) (p width : Nat) (fast : Bool) : State :=
  (s.wr od2118_STATE p 2).setTraining p ⟨1, fast, s.clk, width, none⟩

/-! ## The penalty (R330) -/

/-- A penalty after some cycles: halved once per half-life, with the part below a whole half-life open. -/
def decayed (p elapsed half : Nat) : Nat :=
  let q := p / 2 ^ (elapsed / half)
  if elapsed % half = 0 then q else max (q / 2) (min q (Config.decayPart p elapsed half))

/-- The penalty of a port now. -/
def State.penalty (s : State) (p : Nat) : Nat :=
  decayed (sparseGet 0 s.ports.penaltyQ p) (s.clk - sparseGet 0 s.ports.decayed p) (s.rd od2100_HALF_LIFE 0 * 2 ^ 72)

/-- Every penalty is kept up to now before the half-life changes (R330). -/
def State.freezePenalties (s : State) : State :=
  { s with ports := { s.ports with
      penaltyQ := s.ports.penaltyQ.foldl (fun m kv => sparseSet 0 m kv.1 (s.penalty kv.1)) s.ports.penaltyQ
      decayed := s.ports.penaltyQ.foldl (fun m kv => sparseSet 0 m kv.1 s.clk) s.ports.decayed } }

/-- Add a step to the penalty, up to its ceiling. -/
def State.penalize (s : State) (p : Nat) : State :=
  let v := min (s.penalty p + s.rd od2100_PENALTY_STEP 0) (s.rd od2100_MAX_PENALTY 0)
  { s with ports := { s.ports with penaltyQ := sparseSet 0 s.ports.penaltyQ p v, decayed := sparseSet 0 s.ports.decayed p s.clk } }

/-! ## Routes (R332–R334, R338, R339) -/

/-- Every name of the link on a trunk port of this A9. -/
def State.linksOf (s : State) (p : Nat) : List Nat := s.linkAlias (linkId (s.rd od2100_A9_NUMBER 0) p)

/-- A slot of a destination names one of these links, or leaves on this port. -/
def State.slotNames (s : State) (v : Nat) (links : List Nat) (port : Option Nat) : Bool :=
  (slotLinks v).any (fun l => (s.linkAlias l).any (links.contains ·)) || some (slotPort v) == port

/-- A destination under a hold of R338 or R339. -/
def State.routeHeld (s : State) (d : Nat) : Bool := s.ports.holds.any (fun h => h.dest == d)

/-- A destination whose slot in use is unusable, or that has none, moves to its lowest usable slot. -/
def State.moveRoute (s : State) (d : Nat) : State :=
  let i := s.rd od2130_IN_USE d
  if i ≠ 0 ∧ i ≤ 5 ∧ s.slotUsable (s.routeSlot d i) then s else s.wr od2130_IN_USE d (s.bestSlot d)

def State.moveRoutes (s : State) : State := foldState s (List.range 64) State.moveRoute

/-- The quadrant of a unit's endpoint: a page walker's or an expander's, or a reduce endpoint. -/
def State.unitQuad (s : State) (ep : Nat) : Nat :=
  (([0, 1, 2, 3].find? (fun q => s.rd (odReduceEp q) 0 == ep)).getD ((ep - s.rd od1100_UNIT_BASE 0) % 4))

/-- The input endpoint at which a unit's frames start (Table 11.1): a reduce unit, the home slice with its expanders, the
compute gateway with the walker, or the management core. Which reduce unit serves a command is open. -/
def State.unitEnd (s : State) (ep cid : Nat) : Nat :=
  if [0, 1, 2, 3].any (fun q => s.rd (odReduceEp q) 0 == ep) then s.unitFor (s.unitQuad ep) cid
  else match (ep - s.rd od1100_UNIT_BASE 0) / 4 with
    | 1 => 31
    | 2 => 30
    | _ => 28

/-- The window of an internal sender toward a home (R89, R317). -/
def State.windowOf (s : State) (src dst : Nat) : Nat :=
  let w := sparseGet 0 s.tr.window (src * 65536 + dst)
  if w = 0 then s.rd od2408_INTERNAL_CAP 0 else w

def Req.atRate (r : Req) : Bool := r.place == .rate

/-- Send a forwarded request on the route or port toward its home; without one it waits (R334). -/
def State.forward (s : State) (r : Req) : State :=
  let put := fun (s : State) (f : Req → Req) =>
    { s with tr := { s.tr with outstanding := s.tr.outstanding.map (fun x => if x.id = r.id then f x else x) } }
  match s.pathTo r.dest with
  | none => put s (fun x => { x with place := .route, path := none, hdr := r.hdr })
  | some p =>
    if hp : p < 256 then
      let port : PortId := ⟨p, hp⟩
      let (quad, inEnd, ingress) := match r.sender with
        | .port a => (portQuad a.val, portEnd a.val, some a)
        | .trunk a => (portQuad a.val, portEnd a.val, some a)
        | .companion => (0, 31, none)
        | .tine t _ => (t.val / 64, 30, none)
        | .unit ep cid _ => (s.unitQuad ep, s.unitEnd ep cid, none)
        | .coll c => (c / 4096, s.unitFor (c / 4096) (match r.op with | .coll _ h => h.chunk.toNat | _ => 0), none)
        | .home q => (q % 4, 28, none)
      (put s (fun x => { x with place := .queue, path := some port, hdr := r.hdr })).enqueue quad inEnd ingress [port] r.body
    else s

/-- Reissue a request on another path with RTX 1 (R86). -/
def State.reissue (s : State) (r : Req) : State := s.forward { r with hdr := { r.hdr with rtx := true } }

/-- The A9 that a request travels to. -/
def State.destOf (s : State) (r : Req) : Nat := (s.locate r.dest).getD 0xFF

/-- Requests that wait for a route or a hold toward destinations that are open again, in order. -/
def State.resend (s : State) : State :=
  (s.tr.outstanding.filter (fun r => r.place == .route)).foldl (fun s r =>
    match s.pathTo r.dest with
    | none => s
    | some p =>
      if s.routeHeld (s.destOf r) then s
      else if s.trunkBarred p r.hdr.herd.toNat (match r.op with | .coll .part h => s.ctxAgg h.ctx.toNat | _ => false) then
        s.answer r eSealed 0 []
      else s.forward r) s

/-- A destination goes to its lowest usable slot, unless an up record holds it (R334, R339). -/
def State.preferRoute (s : State) (d : Nat) : State :=
  if s.ports.holds.any (fun h => h.dest == d && h.drain) then s.moveRoute d else s.wr od2130_IN_USE d (s.bestSlot d)

/-- Holds of R339 whose SWITCH has passed and whose requests have all been answered end. -/
def State.endHolds (s : State) : State :=
  let sent := fun (d : Nat) => s.tr.outstanding.any (fun r => r.place == .queue && s.destOf r == d)
  let keep := s.ports.holds.filter (fun h => !(h.drain && decide (h.until_ ≤ s.ft 0) && !sent h.dest))
  if keep.length = s.ports.holds.length then s
  else ({ s with ports := { s.ports with holds := keep } }).resend

/-! ## Discards at a failed port (Table 13.7) -/

/-- An output endpoint of a quadrant's crossbar leads to a port (R285, R290). -/
def outServes (quad o p : Nat) : Bool :=
  if portQuad p = quad then o == portEnd p else decide (16 ≤ o) && decide ((quad + 1 + (o - 16) / 4) % 4 = portQuad p)

/-- Return the credit of a frame of the switch core to the port that it came by. -/
def State.payFrame (s : State) (f : SwFrame) : State :=
  match f.owes, f.ingress with
  | true, some i => s.creditBack i f.cls f.cells
  | _, _ => s

/-- Drop the frames queued for a port and those sent and not acknowledged on it. -/
def State.dropFrames (s : State) (p : PortId) : State :=
  let gone := s.sw.tx.filter (fun f => f.port == p)
  let s1 := gone.foldl (fun s f =>
    let s1 := s.charge (portQuad p.val) (bodyHerd f.body) f.source f.cells false
    match f.ingress with | some i => s1.creditBack i (bodyClass f.body) f.cells | none => s1) s
  let cut := fun (f : SwFrame) =>
    let ports := f.ports.filter (· != p)
    { f with ports := ports, left := f.left.filter (fun x => ports.any (fun k => outServes f.quad x.1 k.val)) }
  let voq := s1.sw.voq.map cut
  let empty := voq.filter (fun f => f.left.isEmpty)
  let s2 := { s1 with sw := { s1.sw with tx := s1.sw.tx.filter (fun f => f.port != p), voq := voq.filter (fun f => !f.left.isEmpty) } }
  let s3 := empty.foldl (fun s f => (s.charge f.quad f.herd f.source f.cells false).payFrame f) s2
  s3.setLink p.val { s3.link p.val with unacked := [], replays := 0 }

/-! ## Link-state records (R337) -/

def knownNone : LinkKnown := ⟨0, false, none, 0⟩

/-- The words of a record about a link of this A9. -/
def State.linkRecord (s : State) (p : Nat) (down : Bool) : List Nat :=
  let me := s.rd od2100_A9_NUMBER 0
  let det := s.ft 0
  [s.ports.ownSeq * 2 ^ 32 + (if down then 1 else 2) * 2 ^ 30,
   linkId me p * 2 ^ 48 + linkId (s.rd od2118_FAR_A9 p) (s.rd od2118_FAR_PORT p) * 2 ^ 32, det,
   det + nsToFt (s.rd od2100_FAIL_WINDOW 0 * 1000), 0, 0, 0, 0]

/-- The other A9s of the pod that this A9 knows an endpoint of. -/
def State.otherA9s (s : State) : List Nat :=
  ((odListed s.od od2120_LOCATION).map (·.2)).eraseDups.filter (fun m => decide (m < 64) && m != s.rd od2100_A9_NUMBER 0)

/-- Send a record to every other A9: a STORE of herd 0x000 to its board where the extent map holds one. -/
def State.sendRecords (s : State) (p : Nat) (down : Bool) : State :=
  let ws := s.linkRecord p down
  let s1 := { s with ports := { s.ports with ownSeq := (s.ports.ownSeq + 1) % 2 ^ 32 } }
  foldState s1 s1.otherA9s (fun s m =>
    let s2 := (s.send (.linkRecord m ws)).bump od2100_RECORDS_SENT 0 64 1
    let addr := s.rd od2100_BOARD_BASE 0 + 4096 * m + 64 * s.rd od2100_A9_NUMBER 0
    match s2.extAt 0 addr with
    | none => s2
    | some e =>
      let dst := s2.rd od2820_HOME e
      let src := s2.rd od1100_UNIT_BASE 0 + 4
      let id := s2.tr.nextId
      let (psn, s3) := s2.takePsn src dst
      let h := { hdrFor 0 0 src dst id psn with len := 7, addr := BitVec.ofNat 57 addr }
      let r : Req := { id := id, sender := .home 0, op := .store, hdr := h, payload := bytesOfWords ws, ext := e, born := s.clk,
                       place := .queue, path := none, dest := dst }
      ({ s3 with tr := { s3.tr with nextId := id + 1, outstanding := s3.tr.outstanding ++ [r] } }).forward r)

/-! ## Down events (R328, R336–R340) -/

/-- Links enter the down set. -/
def State.addDown (s : State) (ls : List Nat) : State :=
  { s with ports := { s.ports with downSet := s.ports.downSet ++ ls.filter (fun l => !s.ports.downSet.contains l) } }

/-- Drop the registered readers with an endpoint that `gone` names; a round waits for them no more (R133). -/
def State.dropReaders (s : State) (gone : Nat → Bool) : State :=
  ((odListed s.od od3010_STATE).filter (fun kv => kv.2 == 1 && gone (s.rd od3010_ENDPOINT kv.1))).foldl (fun s kv =>
    let e := s.rd od3010_EXTENT kv.1
    (s.dropReader e kv.1).readerDone e kv.1) s

/-- Move every destination whose slot in use names the links or the port, reissue what was sent by such a slot, and (where
`until_` is given) hold the other new requests toward it (R338). Readers on an A9 that no slot reaches any more are dropped. Destinations moved are named in a window of R340. -/
def State.bypass (s : State) (links : List Nat) (port : Option Nat) (until_ : Option Nat) (window : Option Nat) : State :=
  let hit := (List.range 64).filter (fun d => s.rd od2130_IN_USE d != 0 && s.slotNames (s.routeSlot d (s.rd od2130_IN_USE d)) links port)
  let sent := s.tr.outstanding.filter (fun r => r.place == .queue &&
    (match port with | some p => (r.path.map (·.val)) == some p | none => hit.contains (s.destOf r)))
  let s0 := foldState s hit State.moveRoute
  let cut := hit.filter (fun d => s0.rd od2130_IN_USE d == 0)
  let s1 := s0.dropReaders (fun ep => match s0.locate ep with | some d => cut.contains d | none => false)
  let s2 := sent.foldl State.reissue s1
  let s3 := match until_ with
    | some t => { s2 with ports := { s2.ports with holds := s2.ports.holds ++ hit.map (fun d => RouteHold.mk d t false) } }
    | none => s2
  match window with
  | some t => { s3 with ports := { s3.ports with windows := s3.ports.windows ++ hit.map (fun d => (d, t, links.headD 0)) } }
  | none => s3

/-- The consequences of a port that leaves STATE 3 for what runs over it. -/
def State.portGone (s : State) (p : PortId) : State :=
  let role := s.rd od2810_ROLE p.val
  let s1 := (s.dropFrames p)
  let s2 := if s1.ports.failed.contains p.val then s1 else { s1 with ports := { s1.ports with failed := s1.ports.failed ++ [p.val] } }
  if role = 2 then
    let ls := s2.linksOf p.val
    let t := s2.ft 0 + nsToFt (s2.rd od2100_FAIL_WINDOW 0 * 1000)
    let known := ls.foldl (fun m l => sparseSet knownNone m l (LinkKnown.mk (s2.ft 0) true none (s2.rd od2100_A9_NUMBER 0))) s2.ports.known
    let s3 := ({ s2 with ports := { s2.ports with known := known } }).addDown ls
    ((s3.bypass ls (some p.val) none (some t))).sendRecords p.val true
  else s2.dropReaders (fun ep => ep != 0xFFFF && ep == s2.rd od2810_ENDPOINT p.val)

/-- The life ledger counts a retrain of any cause (R67). -/
def State.countRetrain (s : State) : State := s.bump od5000_LINK_RETRAINS 0 64 1

/-- A fast retrain at the first of some widths that has good lanes and is at least MIN_WIDTH; without one the port stays in
STATE 1. -/
def State.retrainAt (s : State) (p : Nat) (widths : List Nat) : State :=
  let (base, lanes) := (s.portLanes p).getD (0, 0)
  match narrower (s.rd od2118_BAD_LANES p) base lanes (max 2 (s.rd od2118_MIN_WIDTH p)) widths with
  | some (w, a) =>
    ({ s with ports := { s.ports with laneAt := sparseSet 0 s.ports.laneAt p a } }.wr od2118_WIDTH p w).startTraining p w true
  | none => ((s.wr od2118_STATE p 1).wr od2118_WIDTH p 0).setTraining p trainNew

/-- Full training at the width of the mode, with every lane good again (R329). -/
def State.trainFull (s : State) (p : Nat) : State :=
  match s.portLanes p with
  | none => s
  | some (base, lanes) =>
    (({ s with ports := { s.ports with laneAt := sparseSet 0 s.ports.laneAt p base } }.wr od2118_BAD_LANES p 0).wr od2118_WIDTH p
      lanes).startTraining p lanes false

/-- A port with a role starts to train once the device lets ports come up (R488); none does in isolation hold (R417), or while
its SerDes reference is lost (Table 19.4). -/
def State.startPort (s : State) (p : Nat) : State :=
  if s.rd od2810_ROLE p ≠ 0 ∧ s.rd od2118_STATE p = 1 ∧ 4 ≤ s.rd od4C40_BOOT_STAGE 0 ∧ s.mode ≠ 2 ∧ s.rd od4C00_STATE 0 < 3 ∧
      !s.pwr.refLost.contains (2 + portQuad p) ∧ !s.flt.quadsLost.contains (portQuad p) then s.trainFull p
  else s

/-- The credit of a shaped queue in 1/25,600 B: a cycle of the time clock at 1 Mb/s is 2. -/
def State.shaperNow (s : State) (q : Nat) : Int :=
  let (c, t, e) := sparseGet ((0 : Int), 0, 0) s.tm.credit q
  let idle := s.rd od2400_IDLE_SLOPE q
  let send : Int := if s.rd od2400_SEND_SLOPE q = 0 then (s.portRate (s.rd od2400_PORT q) : Int) - idle else s.rd od2400_SEND_SLOPE q
  let top : Int := s.rd od2400_BURST q * 25600
  let falling : Nat := min s.up e - t
  let rising : Nat := s.up - max t e
  let c1 := min top (c - 2 * send * falling)
  min top (c1 + 2 * idle * rising)

/-- Note a queue's credit up to now, with a sending that lasts until `e`. -/
def State.setShaper (s : State) (q : Nat) (c : Int) (e : Nat) : State :=
  { s with tm := { s.tm with credit := sparseSet ((0 : Int), 0, 0) s.tm.credit q (c, s.up, e) } }

/-- Keep the credit up to now before a slope or the burst changes (R306). -/
def State.freezeShaper (s : State) (q : Nat) : State :=
  s.setShaper q (s.shaperNow q) (max s.up (sparseGet ((0 : Int), 0, 0) s.tm.credit q).2.2)

/-- The credits of a port's queues are kept up to now before its rate changes (R307). -/
def State.freezePort (s : State) (p : Nat) : State :=
  (s.tm.credit.filter (fun kv => s.rd od2400_PORT kv.1 == p)).foldl (fun s kv => s.freezeShaper kv.1) s

/-- A down event of a TMT port in STATE 3 (R328): count, penalise, `next` as the port goes on, fail over, and say so. -/
def State.downEvent (s : State) (p : PortId) (next : State → State) : State :=
  if s.rd od2118_STATE p.val ≠ 3 then s
  else
    let s1 := (((s.freezePort p.val).bump od2118_DOWNS p.val 64 1).countRetrain.penalize p.val)
    let s2 := next (s1.wr od2118_STATE p.val 1)
    (s2.portGone p).emit (portQuad p.val) evPortDown 0 1 p.val 0 [p.val, s2.rd od2118_WIDTH p.val]

/-- A down event that retrains narrower or stays down (R328). -/
def State.portDown (s : State) (p : PortId) : State :=
  let now := s.rd od2118_WIDTH p.val
  s.downEvent p (fun s => s.retrainAt p.val [now / 2, now / 4, now / 8])

/-- The lowest slot of a destination that is usable once some links have left the down set. -/
def State.slotWithout (s : State) (d : Nat) (links : List Nat) : Nat :=
  ({ s with ports := { s.ports with downSet := s.ports.downSet.filter (fun l => !links.contains l) } }).bestSlot d

/-- An up record of a link is accepted: it leaves the down set at SWITCH, and until then new requests are held toward each
destination that gets a more preferred slot (R337, R339). -/
def State.noteUp (s : State) (links : List Nat) (detected switch_ by_ : Nat) : State :=
  let known := links.foldl (fun m l => sparseSet knownNone m l (LinkKnown.mk detected false (some switch_) by_)) s.ports.known
  let better := (List.range 64).filter (fun d =>
    let b := s.slotWithout d links
    b != 0 && (s.rd od2130_IN_USE d == 0 || decide (b < s.rd od2130_IN_USE d)))
  let keep := s.ports.holds.filter (fun h => !(h.drain && better.contains h.dest))
  { s with ports := { s.ports with known := known, holds := keep ++ better.map (fun d => RouteHold.mk d switch_ true) } }

/-- A record that is not from the reporter's past and stands against what is known of the link (R337). -/
def State.recordStands (s : State) (r : LinkRecord) (names : List Nat) : Bool :=
  names.all (fun l =>
    let k := sparseGet knownNone s.ports.known l
    k == knownNone || k.by_ == r.reporter.val || decide (k.detected < r.detected.toNat) ||
    (k.detected == r.detected.toNat && (r.st == 1 || !k.down)))

/-- A down record: the links are down, and requests toward the destinations that used them are held to SWITCH (R338). -/
def State.noteDown (s : State) (names : List Nat) (r : LinkRecord) : State :=
  let known := names.foldl (fun m l => sparseSet knownNone m l (LinkKnown.mk r.detected.toNat true none r.reporter.val)) s.ports.known
  (({ s with ports := { s.ports with known := known } }).addDown names).bypass names none (some r.switch.toNat) none

/-- A link-state record on this A9's board. -/
def State.recordIn (s : State) (r : LinkRecord) : State :=
  let n := r.reporter.val
  let last := sparseGet 0 s.ports.lastSeq n
  let later := last = 0 ∨ 0 < signed 32 (r.seq.toNat + 2 ^ 32 - (last - 1))
  let names := (([r.near.toNat, r.far.toNat].filter (fun l => bitAt l 15)).flatMap (fun l => l :: s.linkAlias l)).eraseDups
  if ¬later ∨ (r.st ≠ 1 ∧ r.st ≠ 2) ∨ n = s.rd od2100_A9_NUMBER 0 then s
  else
    let s1 := { s with ports := { s.ports with lastSeq := sparseSet 0 s.ports.lastSeq n (r.seq.toNat + 1) } }
    if !s1.recordStands r names then s1
    else if r.st = 1 then s1.noteDown names r
    else s1.noteUp names r.detected.toNat r.switch.toNat n

/-- The link-state records that have come to this A9's board are taken, the oldest first. -/
def State.takeBoard (s : State) : State :=
  s.ports.board.foldl State.recordIn { s with ports := { s.ports with board := [] } }

end Sys2Proof.Machine
end

