-- ==== Sys2Proof/Machine/CollOps.lean ====
section
/-! DEFINITION. Collective contexts (chapter 8): steps, chunks, accumulation, the fused optimizer pass and aggregation
groups. -/

namespace Sys2Proof.Machine

/-! ## Contexts -/

def ctxQuad (c : Nat) : Nat := c / 4096

def State.reduceEp (s : State) (c : Nat) : Nat := s.rd (odReduceEp (ctxQuad c)) 0

def ctxNew : CollCtx := ⟨[], [], []⟩
def State.ctx (s : State) (c : Nat) : CollCtx := sparseGet ctxNew s.co.ctxs c
def State.setCtx (s : State) (c : Nat) (x : CollCtx) : State :=
  { s with co := { s.co with ctxs := sparseSet ctxNew s.co.ctxs c x } }

/-- The active member entries of a context, by rising element. -/
def State.membersOf (s : State) (c : Nat) : List Nat :=
  ((odListed s.od od3810_STATE).filter (fun kv => kv.2 == 1 && s.rd od3810_CONTEXT kv.1 == c)).map (·.1)

/-- Chunks of a context, elements of chunk i, and bytes of its payload in a format (R207). -/
def State.chunkCount (s : State) (c : Nat) : Nat := ceilDiv (s.rd od3800_ELEMENTS c) 512
def State.chunkElems (s : State) (c i : Nat) : Nat := min 512 (s.rd od3800_ELEMENTS c - 512 * i)
def fmtBytes (f : Nat) : Nat := fmtWidth f / 8
def State.chunkPayload (s : State) (c i f : Nat) : Nat := ceilDiv (s.chunkElems c i * fmtBytes f) 8 * 8

def stepNew (n : Nat) : CollStep :=
  { step := n, first := none, fired := none, chunks := [], parties := [], noParty := [], done := 0, sumsq := 0,
    unacked := 0, summed := 0, poison := false, consts := none }

def State.stepOf (s : State) (c n : Nat) : CollStep :=
  ((s.ctx c).steps.find? (fun x => x.step == n)).getD (stepNew n)

def State.setStep (s : State) (c : Nat) (x : CollStep) : State :=
  let k := s.ctx c
  let steps := if k.steps.any (fun y => y.step == x.step) then k.steps.map (fun y => if y.step = x.step then x else y)
    else k.steps ++ [x]
  s.setCtx c { k with steps := steps }

def State.openStep (s : State) (c : Nat) : Nat := s.rd od3800_OPEN_STEP c

/-- The chunk of a step, as held so far. -/
def CollStep.chunkOf (x : CollStep) (i : Nat) : Option CollChunk := x.chunks.find? (fun k => k.chunk == i)

def CollStep.setChunk (x : CollStep) (k : CollChunk) : CollStep :=
  if x.chunks.any (fun y => y.chunk == k.chunk) then
    { x with chunks := x.chunks.map (fun y => if y.chunk = k.chunk then k else y) }
  else { x with chunks := x.chunks ++ [k] }

/-- Slots of a quadrant's reduce buffer in use by open steps (`later` false) or by the steps after them (R215). -/
def State.slotsUsed (s : State) (q : Nat) (later : Bool) : Nat :=
  (s.co.ctxs.filter (fun kv => ctxQuad kv.1 == q)).foldl (fun a kv =>
    (kv.2.steps.filter (fun x => decide (s.openStep kv.1 < x.step) == later)).foldl (fun a x =>
      a + (x.chunks.filter (fun k => k.phase != .done && !(k.phase == .sent && s.ctxRoot kv.1))).length) a) 0

/-! ## Frames that a reduce unit sends -/

/-- A collective header (Table 8.5) with the fields that a reduce unit writes. -/
def collHdr (herd src dst tag psn step c chunk : Nat) (payload aux : Nat) : CollHdr :=
  { cls := 0, rlx := false, rtx := false, res0 := false, herd := BitVec.ofNat 12 herd, src := BitVec.ofNat 16 src,
    dst := BitVec.ofNat 16 dst, len := BitVec.ofNat 8 (payload / 8 - 1), tag := BitVec.ofNat 16 tag, res1 := 0,
    step := BitVec.ofNat 32 step, ctx := BitVec.ofNat 14 c, res2 := 0, chunk := BitVec.ofNat 24 chunk, res2b := 0,
    member := 0, aux := BitVec.ofNat 64 aux, psn := BitVec.ofNat 32 psn, res4 := 0 }

/-- The part of a collective header that the request header shares. -/
def sharedHdr (h : CollHdr) : ReqHdr :=
  { hdrFor h.cls.toNat h.herd.toNat h.src.toNat h.dst.toNat h.tag.toNat h.psn.toNat with
    rtx := h.rtx, rlx := h.rlx, res0 := h.res0, len := h.len, res4 := h.res4 }

/-- A collective frame as a request that waits for its answer. -/
def State.collReq (s : State) (c id : Nat) (op : CollOp) (h : CollHdr) (dst : Nat) (payload : List Byte) : Req :=
  { id := id, sender := .coll c, op := .coll op h, hdr := sharedHdr h, payload := payload, ext := 0, born := s.clk,
    place := .rate, path := none, dest := dst }

/-- Note a copy of a collective frame that leaves on a port as outstanding. -/
def State.trackColl (s : State) (c id : Nat) (op : CollOp) (h : CollHdr) (p : PortId) (dst : Nat) (payload : List Byte) : State :=
  let r := { s.collReq c id op h dst payload with place := .queue, path := some p }
  { s with tr := { s.tr with nextId := id + 1, outstanding := s.tr.outstanding ++ [r] } }

/-- Send a collective frame of a context to an endpoint, within the reduce unit's window (R89); it waits at its ingress while
the window is full or no path is there (R334). -/
def State.sendColl (s : State) (c n dst : Nat) (op : CollOp) (chunk aux : Nat) (payload : List Byte) : State :=
  let src := s.reduceEp c
  let id := s.tr.nextId
  let (psn, s1) := s.takePsn src dst
  let r := s.collReq c id op (collHdr (s.rd od3800_HERD c) src dst id psn n c chunk payload.length aux) dst payload
  let mine := s.tr.outstanding.filter (fun x => x.hdr.src == r.hdr.src && x.dest == dst)
  let s2 := { s1 with tr := { s1.tr with nextId := id + 1, outstanding := s1.tr.outstanding ++ [r] } }
  if !mine.any Req.atRate && decide (mine.length < s.windowOf src dst) then s2.forward r else s2

/-- The ports that a multicast group serves for a herd, less the port of arrival (R291, R293). -/
def State.groupPorts (s : State) (g herd : Nat) (arrived : Option PortId) : List PortId :=
  if s.rd od2320_STATE g = 1 ∧ s.rd od2320_HERD g = herd then
    (List.finRange 256).filter (fun p => bitAt (s.rd od2320_PORTS g) p.val && arrived != some p)
  else []

/-- A copy for this port is not discarded: a trunk, or an endpoint port still bound to the group's herd (R293). -/
def State.copyOk (s : State) (herd : Nat) (p : PortId) : Bool :=
  s.rd od2810_ROLE p.val == 2 || (s.rd od2810_ROLE p.val == 1 && s.rd od2810_HERD p.val == herd)

def odDiscards : Ent := od2300_FRAMES_LOST

/-- Replicate a RESULT or ABORT to a group: the copies go out, those of other bindings are discarded. -/
def State.multicast (s : State) (g herd quad inEnd : Nat) (arrived : Option PortId) (b : FrameBody) : State × List PortId :=
  let ports := s.groupPorts g herd arrived
  let ok := ports.filter (fun p => s.copyOk herd p && !s.trunkBarred p.val herd false)
  let s1 := s.bump odDiscards 0 64 (ports.length - ok.length)
  let s2 := (s1.bump od2320_COPIES g 64 ok.length).tally herd (0x6C0 + 16 * quad + 13) ok.length
  (if ok.isEmpty then s2 else s2.enqueue quad inEnd arrived ok b, ok)

/-- An endpoint has not answered a RESULT of a step: one event for each endpoint and step (R222). -/
def State.deafEvent (s : State) (c n ep : Nat) : State :=
  let k := s.ctx c
  if k.deaf.contains (n, ep) then s
  else (s.setCtx c { k with deaf := k.deaf ++ [(n, ep)] }).emit (ctxQuad c) evResultUnacked (s.rd od3800_HERD c) 5 (16 * ctxQuad c) 0
    [c, ep]

/-- A RESULT copy was not answered: counted in its step, if that is open yet. -/
def State.resultLost (s : State) (c n ep : Nat) : State :=
  let x := s.stepOf c n
  (if (s.ctx c).steps.any (fun y => y.step == n) then s.setStep c { x with unacked := x.unacked + 1 } else s).deafEvent c n ep

/-- The endpoint that a copy on a port is for; none has a number on a trunk. -/
def State.copyEp (s : State) (p : PortId) : Nat := if s.rd od2810_ROLE p.val = 1 then s.rd od2810_ENDPOINT p.val else 0xFFFF

/-- The ports of a group to which no copy went: each counts as a copy without an answer (R222, R293). -/
def State.notSent (s : State) (g : Nat) (sent : List PortId) : List PortId :=
  (List.finRange 256).filter (fun p => bitAt (s.rd od2320_PORTS g) p.val && !sent.contains p)

/-- Send a RESULT or ABORT of a context to its multicast group, and note each copy (R222). The copies share TAG and PSN. -/
def State.sendGroup (s : State) (c n : Nat) (op : CollOp) (chunk aux : Nat) (payload : List Byte) : State :=
  let g := s.rd od3800_MCGROUP c
  if g = 0xFFFF then s
  else
    let herd := s.rd od3800_HERD c
    let src := s.reduceEp c
    let tag := s.tr.nextId
    let (psn, s1) := s.takePsn src 0xFFFF
    let h := collHdr herd src 0xFFFF tag psn n c chunk payload.length aux
    let (s2, ports) := s1.multicast g herd (ctxQuad c) (s.unitFor (ctxQuad c) chunk) none (.coll op h payload)
    let s3 := ports.foldl (fun s p =>
      s.trackColl c s.tr.nextId op h p (s.copyEp p) payload) s2
    if op = .result then (s3.notSent g ports).foldl (fun s p => s.resultLost c n (s.copyEp p)) s3 else s3

/-! ## Values in the pool -/

/-- Read binary32 values of a herd's local extent; poisoned lines read as the poison word (R83). -/
def State.readVals (s : State) (herd addr n : Nat) : List Nat :=
  match s.extCheck herd addr (4 * n) with
  | some e =>
    let off := addr - s.extBase e
    if s.poisoned e off (4 * n) then List.replicate n poisonWord else words32 n (s.readPool e off (4 * n))
  | none => List.replicate n poisonWord

/-- Write bytes to a herd's local extent, allocating granules; none where the extent or its quota bars it. -/
def State.writeVals (s : State) (herd addr : Nat) (bs : List Byte) : Option State :=
  match s.extCheck herd addr bs.length with
  | none => none
  | some e =>
    let off := addr - s.extBase e
    if s.fenced e herd off bs.length then none
    else
      match s.allocate e (off / granuleBytes) with
      | none => none
      | some s1 =>
        match s1.allocate e ((off + bs.length - 1) / granuleBytes) with
        | none => none
        | some s2 => some ((s2.writePool e off bs).liftPoison e off bs.length)

/-- As `writeVals`; a write that is barred changes nothing. -/
def State.putVals (s : State) (herd addr : Nat) (bs : List Byte) : State := (s.writeVals herd addr bs).getD s

/-! ## Step records and closing (R217–R220) -/

def msQuality (s : State) (q : Nat) : Nat × Nat := (s.ft q, s.qual q)

/-- The step record (Tables 6.8 and 8.7). -/
def State.stepRecord (s : State) (c : Nat) (x : CollStep) (code : Nat) : List Byte :=
  let q := ctxQuad c
  let st := match x.fired, x.first with
    | some f, _ => f
    | none, some f => f
    | none, none => (0, 0, 0)
  let sums := x.chunks.foldl (fun a k => max a k.count) 0
  let w6 := if s.ctxRoot c && !s.ctxAgg c && (s.rd od3800_OP c == 0 || s.rd od3800_OP c == 3) then x.sumsq else 0
  bytesOfWords [0x1F * 2 ^ 56 + code * 2 ^ 48 + st.2.2 % 4 * 2 ^ 46 + s.qual q * 2 ^ 44 + c, x.step * 2 ^ 32,
    st.2.1, s.ft q, x.done, sums % 2 ^ 32 * 2 ^ 32 + x.unacked % 2 ^ 32, w6, 0]

/-- β^t, rounded once to binary64 (R224). -/
def pow64 (b t : Nat) : Nat :=
  match dec32 b with
  | .fin s m e => enc64 (.fin (s && t % 2 == 1) (m ^ t) (e * t))
  | v => enc64 v

/-- round32(1 − x) of a binary64 pattern. -/
def oneMinus (x : Nat) : Nat := enc32 (fpAdd (dec32 one32) (fpNeg (dec64 x)))

/-- The constants of a step (R224). -/
def State.stepConsts (s : State) (c : Nat) : StepConsts :=
  let t := (s.rd od3820_T c + 1) % 2 ^ 32
  let b1 := s.rd od3820_BETA1 c
  let b2 := s.rd od3820_BETA2 c
  let lr := s.rd od3820_LR c
  let wd := s.rd od3820_WDECAY c
  let c1 := oneMinus (pow64 b1 t)
  { t := t, lr := lr, wdecay := wd, gscale := s.rd od3820_GSCALE c, a1 := sub32 one32 b1, a2 := sub32 one32 b2, c1 := c1,
    c2 := oneMinus (pow64 b2 t), size := div32 lr c1, decay := sub32 one32 (mul32 lr wd) }

/-- Open the step that OPEN_STEP names: the root takes its constants, and an aggregation group reseeds (R224, R232). -/
def State.beginStep (s : State) (c : Nat) : State :=
  let x := s.stepOf c (s.openStep c)
  let s1 := s.setStep c { x with consts := if s.ctxRoot c && s.rd od3800_KIND c == 1 then some (s.stepConsts c) else none }
  if s.ctxAgg c then { s1 with co := { s1.co with drbg := quadSet s1.co.drbg (ctxQuad c) 0 } } else s1

/-- Close the open step with a code: record, counts, and the next step opens. -/
def State.closeStep (s : State) (c code : Nat) : State :=
  let n := s.openStep c
  let x := s.stepOf c n
  let present := ((x.chunks.flatMap (·.members)) ++ x.parties.map (fun p => s.rd od3810_INDEX p.entry)).eraseDups.length
  let s0 := s.trace (ctxQuad c) ⟨6, s.rd od3800_HERD c, 5, 16 * ctxQuad c, c, n * 2 ^ 32 + code, present, none⟩ []
  let s1 := s0.postOrOwe (s.rd od3800_EVENT c) 0 (s.stepRecord c x code)
  let s2 := if code = eOk then s1.bump od3800_STEPS_DONE c 64 1 else s1.bump od3800_STEPS_ABORTED c 64 1
  let k := s2.ctx c
  let s3 := s2.setCtx c { k with steps := k.steps.filter (fun y => y.step != n) }
  let s4 := s3.wr od3800_OPEN_STEP c ((n + 1) % 2 ^ 32)
  let dual := fun (d : DualHold) => !(d.ctx == c && d.step == n)
  let s5 := { s4 with flt := { s4.flt with dual := s4.flt.dual.filter dual } }
  s5.beginStep c

/-- Close the open step with OK, or with E_POISON under R226: at the root of a fused pass T moves on (R224). -/
def State.passStep (s : State) (c code : Nat) : State :=
  (match (s.stepOf c (s.openStep c)).consts with
   | some w => s.wr od3820_T c w.t
   | none => s).closeStep c code

/-- Send ABORT with a code to the children that are known and to the multicast group, or also to the parent. -/
def State.sendAborts (s : State) (c n code : Nat) (up : Bool) : State :=
  let z := List.replicate 8 (0 : Byte)
  let s1 := (s.ctx c).kids.foldl (fun s k => s.sendColl c n k .abort 0 code z) s
  let s2 := if s.ctxRoot c && !s.ctxAgg c then s1.sendGroup c n .abort 0 code z else s1
  if up && !s.ctxRoot c then s2.sendColl c n (s.rd od3800_PARENT c) .abort 0 code z else s2

/-- Abort the open step at the root (R218). -/
def State.abortStep (s : State) (c code : Nat) : State :=
  (s.sendAborts c (s.openStep c) code false).closeStep c code

/-! ## The optimizer (R225, R226) -/

def notFinite (v : Nat) : Bool := !(dec32 v).isFinite

/-- sign() of R225: +1, −1, a zero for a zero, a NaN for a NaN. -/
def sign32 (v : Nat) : Nat :=
  match dec32 v with
  | .nan s p => enc32 (.nan s p)
  | .inf s => if s then one32 + 2 ^ 31 else one32
  | .fin s m _ => if m = 0 then 0 else if s then one32 + 2 ^ 31 else one32

/-- One element of AdamW: w, m and v after it. -/
def adamw (k : StepConsts) (b1 b2 eps x w m v : Nat) : Nat × Nat × Nat :=
  let g := mul32 x k.gscale
  let m1 := add32 (mul32 b1 m) (mul32 k.a1 g)
  let v1 := add32 (mul32 b2 v) (mul32 k.a2 (mul32 g g))
  let d := add32 (sqrt32 (div32 v1 k.c2)) eps
  (sub32 (mul32 w k.decay) (mul32 k.size (div32 m1 d)), m1, v1)

/-- One element of Lion: w and m after it. -/
def lion (k : StepConsts) (b1 b2 x w m : Nat) : Nat × Nat :=
  let g := mul32 x k.gscale
  let u := sign32 (add32 (mul32 b1 m) (mul32 k.a1 g))
  (sub32 (mul32 w k.decay) (mul32 k.lr u), add32 (mul32 b2 m) (mul32 k.a2 g))

/-- The address of chunk i's elements in an array of binary32. -/
def chunkAt (base i : Nat) : Nat := base + 2048 * i

/-- Send a chunk of the result in FMT_OUT (R222). -/
def State.sendResult (s : State) (c n i : Nat) (vals : List Nat) : State :=
  let f := s.rd od3800_FMT_OUT c
  let body := vals.flatMap (fun v => toLe (fmtBytes f) (encodeScalar f (dec32 v) none))
  let pad := body ++ List.replicate (s.chunkPayload c i f - body.length) 0
  let addr := s.rd od3800_RBASE c + n % 2 * s.rd od3800_ALT_STRIDE c + 512 * i * fmtBytes f
  s.sendGroup c n .result i (addr % 2 ^ 57) pad

/-- Apply the optimizer to a chunk of the reduced gradient, and send the new weights; NONFINITE 1 leaves the chunk
unchanged and marks the step (R223–R226). -/
def State.updateChunk (s : State) (c n i : Nat) (xs : List Nat) : State :=
  let herd := s.rd od3800_HERD c
  let x := s.stepOf c n
  match x.consts with
  | none => s
  | some k =>
    let wa := chunkAt (s.rd od3820_W_ADDR c) i
    let ma := chunkAt (s.rd od3820_M_ADDR c) i
    let va := chunkAt (s.rd od3820_V_ADDR c) i
    let ws := s.readVals herd wa xs.length
    if xs.any notFinite && s.rd od3820_NONFINITE c != 0 then
      (s.setStep c { x with poison := true }).sendResult c n i ws
    else
      let b1 := s.rd od3820_BETA1 c
      let b2 := s.rd od3820_BETA2 c
      let ms := s.readVals herd ma xs.length
      let at_ := fun (l : List Nat) (j : Nat) => l.getD j 0
      let js := List.range xs.length
      if s.rd od3820_OPTIMIZER c = 0 then
        let vs := s.readVals herd va xs.length
        let rs := js.map (fun j => adamw k b1 b2 (s.rd od3820_EPS c) (at_ xs j) (at_ ws j) (at_ ms j) (at_ vs j))
        (((s.putVals herd wa (bytes32 (rs.map (·.1)))).putVals herd ma (bytes32 (rs.map (·.2.1)))).putVals herd va
          (bytes32 (rs.map (·.2.2)))).sendResult c n i (rs.map (·.1))
      else
        let rs := js.map (fun j => lion k b1 b2 (at_ xs j) (at_ ws j) (at_ ms j))
        ((s.putVals herd wa (bytes32 (rs.map (·.1)))).putVals herd ma (bytes32 (rs.map (·.2)))).sendResult c n i (rs.map (·.1))

/-- Add 1 to the PI of KRING, as a ring-kick trigger does (R169, R227). -/
def State.kickRing (s : State) (ring herd : Nat) : State :=
  if s.rd od2400_TYPE ring = 2 ∧ s.rd od3410_HERD ring = herd ∧ (s.rd od3410_STATE ring = 1 ∨ s.rd od3410_STATE ring = 2) then
    (s.setRingIndex ring 0 ((s.ringIndex ring 0 + 1) % 2 ^ 32)).doorbell ring
  else s

/-! ## Finishing chunks (R216, R222, R223, R231) -/

/-- π in units of 2^-96. -/
def piFix : Nat := 248902613312231085230521944622

/-- The sine of a turn of w / 2^32 below an eighth, in units of 2^-96, by its series; and the cosine. -/
def sinFix (w : Nat) : Nat :=
  let x := piFix * w / 2 ^ 31
  ((List.range 14).foldl (fun (a : Int × Nat) i =>
    (if i % 2 = 0 then a.1 + a.2 else a.1 - a.2, a.2 * x / 2 ^ 96 * x / 2 ^ 96 / ((2 * i + 2) * (2 * i + 3)))) ((0 : Int), x)).1.toNat
def cosFix (w : Nat) : Nat :=
  let x := piFix * w / 2 ^ 31
  ((List.range 14).foldl (fun (a : Int × Nat) i =>
    (if i % 2 = 0 then a.1 + a.2 else a.1 - a.2, a.2 * x / 2 ^ 96 * x / 2 ^ 96 / ((2 * i + 1) * (2 * i + 2)))) ((0 : Int), 2 ^ 96)).1.toNat

/-- The cosine of a turn of w / 2^32: whether it is negative, and its magnitude in units of 2^-96. -/
def cosTurn (w : Nat) : Bool × Nat :=
  let r := w % 2 ^ 30
  let up := if r ≤ 2 ^ 29 then sinFix r else cosFix (2 ^ 30 - r)
  let down := if r ≤ 2 ^ 29 then cosFix r else sinFix (2 ^ 30 - r)
  let k := w / 2 ^ 30 % 4
  (k == 1 || k == 2, if k % 2 = 0 then down else up)

/-- A value in units of 2^-96 as a binary64 pattern: itself where it is one, or one of the two around it, of which `pick` takes
the greater. -/
def near64 (s : Bool) (m pick : Nat) : Nat :=
  let d := encodeDown f64 s m (-96)
  if enc64 (.fin s m (-96)) = d ∧ dec64 d = .fin s m (-96) then d else d + pick % 2

/-- The variate of R232 from two outputs of the DRBG, in binary64; the rounding of its logarithm and of its cosine is free. -/
def gauss (w1 w2 : Nat) : Nat :=
  let ln := lnFix (2 * w1 + 1) (-33)
  let c := cosTurn w2
  let cosine := if w2 % 2 ^ 30 = 0 then enc64 (.fin c.1 (c.2 / 2 ^ 96) 0) else near64 c.1 c.2 (Config.gaussRound 1 w2)
  mul64 (enc64 (fpSqrt (fpMul (.fin true 2 0) (dec64 (near64 true ln.natAbs (Config.gaussRound 0 w1)))))) cosine

/-- Noise for one element: two outputs of the DRBG, a variate, and its scaling (R232). -/
def State.noise (s : State) (c : Nat) : Nat × State :=
  let q := ctxQuad c
  let z := gauss (Config.drbgWord s.freeN) (Config.drbgWord (s.freeN + 1))
  let k := mul64 (enc64 (dec32 (s.rd od3820_SIGMA c))) (enc64 (dec32 (s.rd od3820_CLIP c)))
  let n := quadGet s.co.drbg q + 1
  let n1 := if s.rd od3840_RESEED 0 ≤ n then 0 else n
  (enc32 (dec64 (mul64 k z)),
   { s with freeN := s.freeN + 2, co := { s.co with drbg := quadSet s.co.drbg q n1 } })

/-- The output of one element of an aggregation group (R231). -/
def State.aggElem (s : State) (c n sum : Nat) : Nat × State :=
  let (z, s1) := if (s.rd od3820_SIGMA c) % 2 ^ 31 = 0 then (0, s) else s.noise c
  let y := add32 sum z
  (if s.rd od3800_OP c = 3 then div32 y (natTo32 n) else y, s1)

def State.aggVals (s : State) (c n : Nat) : List Nat → List Nat × State
  | [] => ([], s)
  | v :: vs =>
    let (y, s1) := s.aggElem c n v
    let (ys, s2) := s1.aggVals c n vs
    (y :: ys, s2)

/-- Mark a chunk done and free its slot. -/
def State.chunkDone (s : State) (c n i : Nat) : State :=
  let x := s.stepOf c n
  match x.chunkOf i with
  | some k => s.setStep c (x.setChunk { k with phase := .done, acc := [] })
  | none => s

/-- What a finished chunk of a context without AGG does at the root. -/
def State.rootChunk (s : State) (c n i : Nat) (k : CollChunk) : State :=
  let x := s.stepOf c n
  let vals := if s.rd od3800_OP c = 3 then k.acc.map (fun v => div32 v (natTo32 k.count)) else k.acc
  let sq := vals.foldl (fun a v => enc64 (fpAdd (dec64 a) (fpMul (dec32 v) (dec32 v)))) x.sumsq
  let s1 := s.setStep c { x with sumsq := sq }
  let herd := s.rd od3800_HERD c
  let g := chunkAt (s.rd od3820_G_ADDR c) i
  let s2 :=
    if s.rd od3800_KIND c = 0 then s1.sendResult c n i vals
    else if s.rd od3820_OPTIMIZER c = 2 ∨ s.rd od3800_CLOSE c = 1 then s1.putVals herd g (bytes32 vals)
    else s1.updateChunk c n i vals
  s2.chunkDone c n i

/-- Send a node's PARTIAL for a chunk to its parent. -/
def State.sendPart (s : State) (c n i : Nat) (x : CollStep) (k : CollChunk) : State :=
  (s.setStep c (x.setChunk { k with phase := .sent })).sendColl c n (s.rd od3800_PARENT c) .part i (k.count * 2 ^ 51)
    (bytes32 k.acc ++ List.replicate (s.chunkPayload c i 0 - 4 * k.acc.length) 0)

/-- The step that is open aborts with E_SEALED: its PARTIAL may not leave on the trunk toward the parent (R229). -/
def State.sealedStep (s : State) (c : Nat) : State := (s.sendAborts c (s.openStep c) eSealed true).closeStep c eSealed

/-- The trunk toward the parent bars the context's PARTIALs. -/
def State.parentBarred (s : State) (c : Nat) : Bool :=
  match s.pathTo (s.rd od3800_PARENT c) with
  | some p => s.trunkBarred p (s.rd od3800_HERD c) (s.ctxAgg c)
  | none => false

/-- Release a combined chunk from its reduce unit: to the parent, or to what the root does with it. -/
def State.releaseChunk (s : State) (c n i : Nat) : State :=
  let x := s.stepOf c n
  match x.chunkOf i with
  | none => s
  | some k =>
    if s.ctxRoot c then
      if s.ctxAgg c then s.setStep c (x.setChunk { k with phase := .sent }) else s.rootChunk c n i k
    else if s.parentBarred c then (if n = s.openStep c then s.sealedStep c else s)
    else s.sendPart c n i x k

/-- The reserved tines of sealed herds in time-gated mode (R421), as a mask. -/
def State.reservedTines (s : State) (only : Option Nat) : Nat :=
  (odListed s.od od3410_STATE).foldl (fun a kv =>
    let h := s.rd od3410_HERD kv.1
    if kv.2 = 1 ∧ s.rd od2400_TYPE kv.1 = 2 ∧ s.timeGated h ∧ (only = none ∨ only = some h)
    then a ||| s.rd od3410_TINES kv.1 else a) 0

/-- A tine that may repeat a sampled chunk of a herd (R425): working, idle, and on the right side of R421. -/
def State.dualTine (s : State) (herd : Nat) (not_ : List Nat) : Option Nat :=
  let mask := if s.timeGated herd then s.reservedTines (some herd) else s.reservedTines none
  (List.range 256).find? (fun t => decide (s.rd od3400_STATE t ≤ 1) && (s.liveThreads t).isEmpty && !not_.contains t &&
    bitAt mask t == s.timeGated herd && !s.flt.canaries.any (fun k => k.tine == t) &&
    !s.flt.dual.any (fun d => d.tines.contains t))

/-- A chunk has all that it waits for: it is combined, counted, and sampled or released (R216, R425). -/
def State.finishChunk (s : State) (c n i : Nat) : State :=
  let q := ctxQuad c
  let u := s.unitFor q i
  let herd := s.rd od3800_HERD c
  let y := s.stepOf c n
  let s1 := ((s.setStep c { y with done := y.done + 1 }).bump od3840_CHUNKS_REDUCED 0 64 1).tally herd (0x640 + 16 * q + u) 1
  let d := s.rd od4400_DUAL_INTERVAL 0
  let k := quadGet s.flt.chunks q + 1
  let s2 := { s1 with flt := { s1.flt with chunks := quadSet s1.flt.chunks q k } }
  if d = 0 ∨ k % d ≠ 0 then s2.releaseChunk c n i
  else
    match s2.dualTine herd [] with
    | none => (s2.bump od4400_DUAL_SKIPPED 0 64 1).releaseChunk c n i
    | some t =>
      let x := s2.stepOf c n
      match x.chunkOf i with
      | none => s2
      | some ch =>
        let h : DualHold := { unit := 16 * q + u, ctx := c, step := n, chunk := i, tines := [t], agreed := [], started := s2.clk }
        let s3 := { s2 with flt := { s2.flt with dual := s2.flt.dual ++ [h] } }
        s3.setStep c (x.setChunk { ch with phase := .held })

/-- The chunk has a contribution from each local member and a PARTIAL from each child. -/
def State.chunkFull (s : State) (c : Nat) (x : CollStep) (k : CollChunk) : Bool :=
  let kids := (k.kids ++ x.noParty).eraseDups.length
  kids == s.rd od3800_CHILDREN c &&
  (if s.ctxAgg c then x.fired.isSome && decide (k.chunk < x.summed) else k.members.length == s.rd od3800_LOCAL c)

/-- The root of a fused pass finishes the chunks of a step only once it is open: its constants stand then, and G_ADDR is free
for it (R223, R224). -/
def State.mayFinish (s : State) (c n : Nat) : Bool :=
  !(s.ctxRoot c && s.rd od3800_KIND c == 1) || n == s.openStep c

/-- Finish a chunk of a step if it has all it waits for. -/
def State.tryChunk (s : State) (c n i : Nat) : State :=
  let x := s.stepOf c n
  match x.chunkOf i with
  | some k => if k.phase = .gather ∧ s.chunkFull c x k ∧ s.mayFinish c n then s.finishChunk c n i else s
  | none => s

/-- Finish the chunks of a step that have all they wait for. -/
def State.tryChunks (s : State) (c n : Nat) : State := (s.stepOf c n).chunks.foldl (fun s k => s.tryChunk c n k.chunk) s

/-- Chunks of the open step that an aggregation root still owes. -/
def State.aggRootDone (s : State) (c : Nat) (x : CollStep) : Bool :=
  x.fired.isSome && (List.range (s.chunkCount c)).all (fun i => match x.chunkOf i with
    | some k => k.phase == .sent
    | none => false)

/-- The release of an aggregation group at its root, once every chunk is combined (R231). -/
def State.aggRelease (s : State) (c n : Nat) : State :=
  let x := s.stepOf c n
  let cnt := x.chunks.foldl (fun a k => max a k.count) 0
  let herd := s.rd od3800_HERD c
  if cnt < s.rd od3820_K c then s.abortStep c eQuorum
  else if (s.rd od3820_SIGMA c) % 2 ^ 31 ≠ 0 ∧ quadGet s.co.noEntropy (ctxQuad c) then s.abortStep c eDegraded
  else
    (List.range (s.chunkCount c)).foldl (fun s i =>
      match (s.stepOf c n).chunkOf i with
      | none => s
      | some k =>
        let (ys, s1) := s.aggVals c cnt k.acc
        let f := s.rd od3800_FMT_OUT c
        let s2 :=
          if s.rd od3800_KIND c = 0 then
            s1.putVals herd (s.rd od3820_OUT_ADDR c + 512 * i * fmtBytes f)
              (ys.flatMap (fun v => toLe (fmtBytes f) (encodeScalar f (dec32 v) none)))
          else s1.putVals herd (chunkAt (s.rd od3820_G_ADDR c) i) (bytes32 ys)
        s2.chunkDone c n i) s

/-- Update the chunks of a CLOSE 1 fused pass in ascending order, at close (R223, R226). The code of the step. -/
def State.closePass (s : State) (c n : Nat) : State × Nat :=
  let herd := s.rd od3800_HERD c
  let xs := fun (s : State) (i : Nat) => s.readVals herd (chunkAt (s.rd od3820_G_ADDR c) i) (s.chunkElems c i)
  let is := List.range (s.chunkCount c)
  if s.rd od3820_NONFINITE c = 2 ∧ is.any (fun i => (xs s i).any notFinite) then (s, ePoison)
  else
    let s1 := is.foldl (fun s i => s.updateChunk c n i (xs s i)) s
    (s1, if (s1.stepOf c n).poison then ePoison else eOk)

/-- Copies of a step's RESULT frames, or PARTIALs, that are still unanswered. -/
def State.collOwed (s : State) (c n : Nat) (op : CollOp) : Bool :=
  s.tr.outstanding.any (fun r => r.sender == .coll c && (match r.op with
    | .coll o h => o == op && h.step.toNat == n
    | _ => false))

/-- Every chunk of the step has finished. -/
def State.allDone (s : State) (c : Nat) (x : CollStep) : Bool :=
  x.chunks.length == s.chunkCount c && x.chunks.all (fun k => k.phase == .done)

/-- Close the open step if R217 lets it close. A node below the root closes a CLOSE 1 step only after its trigger. -/
def State.closeIfDone (s : State) (c : Nat) : State :=
  let n := s.openStep c
  let x := s.stepOf c n
  if !s.ctxRunning c then s
  else if s.ctxRoot c && s.ctxAgg c && s.aggRootDone c x then
    let s1 := s.aggRelease c n
    if s1.openStep c ≠ n then s1
    else if s.rd od3800_KIND c = 1 then
      if s.rd od3820_OPTIMIZER c = 2 then (s1.kickRing (s.rd od3820_KRING c) (s.rd od3800_HERD c)).passStep c eOk
      else
        let (s2, code) := s1.closePass c n
        s2.passStep c code
    else s1.passStep c eOk
  else if !s.allDone c x then s
  else if !s.ctxRoot c then
    if s.rd od3800_CLOSE c = 1 ∧ x.fired.isNone then s else s.passStep c eOk
  else if s.rd od3800_CLOSE c = 0 then
    if s.collOwed c n .result then s
    else if s.rd od3800_KIND c = 1 ∧ s.rd od3820_OPTIMIZER c = 2 then
      (s.kickRing (s.rd od3820_KRING c) (s.rd od3800_HERD c)).passStep c eOk
    else s.passStep c (if x.poison then ePoison else eOk)
  else if x.fired.isNone then s
  else if s.rd od3800_KIND c = 1 ∧ s.rd od3820_OPTIMIZER c ≠ 2 then
    let (s1, code) := s.closePass c n
    s1.passStep c code
  else if s.rd od3800_KIND c = 1 then (s.kickRing (s.rd od3820_KRING c) (s.rd od3800_HERD c)).passStep c eOk
  else s.passStep c eOk

/-! ## Local sums (R221, R230) -/

/-- Combine a slot with one more vector (R221): the slot is [RA]. -/
def combine (op : Nat) (acc xs : List Nat) : List Nat :=
  if acc.isEmpty then xs
  else (acc.zip xs).map (fun p => if op = 1 then max32 p.1 p.2 else if op = 2 then min32 p.1 p.2 else add32 p.1 p.2)

/-- The first accepted arrival of a step starts its clock. -/
def State.noteFirst (s : State) (c n : Nat) : State :=
  let x := s.stepOf c n
  s.setStep c { x with first := x.first.or (some (s.clk, s.ft (ctxQuad c), s.qual (ctxQuad c))) }

/-- A slot of the 8,192 is free for a chunk of step n that holds none yet (R215, Table 8.9). -/
def State.slotFree (s : State) (c n : Nat) : Bool :=
  let q := ctxQuad c
  decide (s.slotsUsed q false + s.slotsUsed q true < 8192) && (decide (n ≤ s.openStep c) || decide (s.slotsUsed q true < 4096))

/-- Add values to a chunk: `count` contributions from `member` or from child `kid`. -/
def State.addToChunk (s : State) (c n i : Nat) (xs : List Nat) (count : Nat) (member kid : Option Nat) : State :=
  let x := s.stepOf c n
  let k := (x.chunkOf i).getD ⟨i, .gather, [], 0, [], []⟩
  let k1 := { k with acc := combine (s.rd od3800_OP c) k.acc xs, count := k.count + count,
                     members := k.members ++ member.toList, kids := k.kids ++ kid.toList }
  (s.setStep c (x.setChunk k1)).noteFirst c n

/-- The chunk of a party as it stands in STAGE, decoded. -/
def State.stagedChunk (s : State) (c entry i : Nat) : List Nat :=
  let f := s.rd od3800_FMT_IN c
  let n := s.chunkElems c i
  match s.extCheck (s.rd od3810_HERD entry) (s.rd od3810_STAGE entry + 512 * i * fmtBytes f) (n * fmtBytes f) with
  | some e => arrayTo32 f n (s.readPool e (s.rd od3810_STAGE entry + 512 * i * fmtBytes f - s.extBase e) (n * fmtBytes f))
  | none => List.replicate n poisonWord

/-- Scale of a present party (R230). -/
def partyScale (clip ss : Nat) : Nat :=
  let norm := enc32 (fpSqrt (dec64 ss))
  if fpLt (dec32 clip) (dec32 norm) then div32 clip norm else one32

/-- Insert by ascending member index. -/
def insertParty (key : Party → Nat) (p : Party) : List Party → List Party
  | [] => [p]
  | x :: xs => if key x < key p then x :: insertParty key p xs else p :: x :: xs

/-- The parties present at the trigger: every chunk has come, with no NaN and no infinity. -/
def State.presentParties (s : State) (c n : Nat) : List Party :=
  let x := s.stepOf c n
  (x.parties.filter (fun p => p.chunks.eraseDups.length == s.chunkCount c && !p.bad)).foldr
    (insertParty (fun p => s.rd od3810_INDEX p.entry)) []

/-- The local sum of a chunk over the present parties, in ascending member index. -/
def State.localSum (s : State) (c i : Nat) (ps : List Party) : List Nat :=
  ps.foldl (fun acc p =>
    let k := partyScale (s.rd od3820_CLIP c) p.ss
    combine 0 acc ((s.stagedChunk c p.entry i).map (fun v => mul32 v k))) []

/-- Take the local sums of an aggregation group's chunks in ascending order, from the one that it has come to, while there is a
slot for each (R215, R230). -/
def State.sumFrom (s : State) (c n : Nat) (ps : List Party) : Nat → State
  | 0 => s
  | k + 1 =>
    let x := s.stepOf c n
    let i := x.summed
    if s.chunkCount c ≤ i ∨ ((x.chunkOf i).isNone && !s.slotFree c n) then s
    else
      let s1 := s.setStep c { x with summed := i + 1 }
      ((s1.addToChunk c n i (s1.localSum c i ps) ps.length none none).tryChunk c n i).sumFrom c n ps k

/-- The local sums of the open step of an aggregation group whose trigger has fired. -/
def State.sumChunks (s : State) (c n : Nat) : State :=
  let x := s.stepOf c n
  if s.ctxRunning c && s.ctxAgg c && x.fired.isSome && decide (x.summed < s.chunkCount c) then
    s.sumFrom c n (s.presentParties c n) (s.chunkCount c - x.summed)
  else s

/-- Finish the chunks of the open step that have all they wait for, and the local sums that slots are free for, and close it if
R217 lets it close. -/
def State.tryOpen (s : State) (c : Nat) : State :=
  let n := s.openStep c
  ((s.sumChunks c n).tryChunks c n).closeIfDone c

/-- Close the open step if R217 lets it close, and the next one where its chunks had all arrived already (R215). -/
def State.tryClose (s : State) (c : Nat) : State :=
  let s1 := s.closeIfDone c
  if s1.openStep c = s.openStep c then s1 else s1.tryOpen c

/-- The contexts now running. -/
def State.runningCtxs (s : State) : List Nat := ((odListed s.od od3800_STATE).filter (fun kv => kv.2 == 1)).map (·.1)

/-! ## Contributions (R213, R215, R221, R230) -/

/-- What becomes of a contribution (Table 8.6): it waits, or it has an outcome. -/
inductive Outcome8 where
  | wait
  | code (code detail : Nat) (s : State)

/-- Stage a party's chunk (R230). -/
def State.stageChunk (s : State) (c n i entry : Nat) (payload : List Byte) : Option State :=
  let f := s.rd od3800_FMT_IN c
  let len := s.chunkElems c i
  match s.writeVals (s.rd od3810_HERD entry) (s.rd od3810_STAGE entry + 512 * i * fmtBytes f) (payload.take (len * fmtBytes f)) with
  | none => none
  | some s1 =>
    let x := s1.stepOf c n
    let vs := decodeArray f len payload
    let p := (x.parties.find? (fun p => p.entry == entry)).getD ⟨entry, [], 0, false⟩
    let bad := vs.any (fun v => !v.isFinite)
    let ss := vs.foldl (fun a v => enc64 (fpAdd (dec64 a) (fpMul v v))) p.ss
    let p1 := { p with chunks := p.chunks ++ [i], ss := ss, bad := p.bad || bad }
    let ps := if x.parties.any (fun y => y.entry == entry) then x.parties.map (fun y => if y.entry = entry then p1 else y)
      else x.parties ++ [p1]
    let s2 := (s1.setStep c { x with parties := ps }).noteFirst c n
    some (if bad && !p.bad then
      s2.emit (ctxQuad c) evPartyRejected (s.rd od3800_HERD c) 5 (16 * ctxQuad c + s.unitFor (ctxQuad c) i) 0
        [c, s.rd od3810_INDEX entry]
    else s2)

/-- The rows of Table 8.6 that follow the membership check, for member entry `entry`. -/
def State.contribute (s : State) (c entry n i : Nat) (payload : List Byte) : Outcome8 :=
  let f := s.rd od3800_FMT_IN c
  let index := s.rd od3810_INDEX entry
  let o := s.openStep c
  let x := s.stepOf c n
  let given := (match x.chunkOf i with | some k => k.members.contains index | none => false) ||
    x.parties.any (fun p => p.entry == entry && p.chunks.contains i)
  if s.chunkCount c ≤ i ∨ payload.length ≠ s.chunkPayload c i f then .code eFormat 0 s
  else if n < o ∨ given ∨ (n = o ∧ x.fired.isSome) then .code eStale o s
  else if s.mode ≠ 0 then .code eDegraded 0 s
  else if s.flushMode ∨ o + 1 < n then .wait
  else if s.ctxAgg c then
    match s.stageChunk c n i entry payload with
    | some s1 => .code eOk 0 s1
    | none => .code eQuota 0 s
  else if (x.chunkOf i).isNone && !s.slotFree c n then .wait
  else
    let xs := (decodeArray f (s.chunkElems c i) payload).map enc32
    .code eOk 0 (((s.addToChunk c n i xs 1 (some index) none).tryChunk c n i).tryClose c)

/-- The member entry that a CONTRIB on a port may use (R213). -/
def State.memberFor (s : State) (c index src herd : Nat) : Option Nat :=
  (s.membersOf c).find? (fun m => s.rd od3810_INDEX m == index && s.rd od3810_ENDPOINT m == src && s.rd od3810_HERD m == herd
    && s.rd od3810_RING m == 0xFFFFFFFF)

/-- Reserved bits of a collective header are 0 and RLX is 0 (R212). -/
def collReserved (op : CollOp) (h : CollHdr) : Bool :=
  !h.rlx && !h.res0 && h.res1 == 0 && h.res2 == 0 && h.res2b == 0 && h.res4 == 0 &&
  (match op with
   | .contrib => h.aux == 0
   | .part => bitsOf h.aux.toNat 50 0 == 0 && h.member == 0
   | .result => bitsOf h.aux.toNat 63 57 == 0 && h.member == 0
   | .abort => bitsOf h.aux.toNat 63 8 == 0 && h.member == 0)

/-- A CONTRIB that has passed its membership check (Table 8.6). -/
def State.serveContrib (s : State) (r : Req) (h : CollHdr) : Outcome8 :=
  let c := h.ctx.toNat
  match s.memberFor c h.member.toNat r.hdr.src.toNat r.hdr.herd.toNat with
  | some m =>
    if !s.ctxRunning c then .code eAccess 0 s
    else if !collReserved .contrib h || (h.len.toNat + 1) * 8 != r.payload.length then .code eFormat 0 s
    else s.contribute c m h.step.toNat h.chunk.toNat r.payload
  | none => .code eAccess 0 s

/-- Answer a contribution, or let it wait. -/
def State.contribAnswer (s : State) (r : Req) (o : Outcome8) : State :=
  match o with
  | .code code detail s1 =>
    ({ s1 with co := { s1.co with waiting := s1.co.waiting.filter (· != r.id) } }).complete r code detail []
  | .wait => if s.co.waiting.contains r.id then s else { s with co := { s.co with waiting := s.co.waiting ++ [r.id] } }

/-! ## PARTIAL at a reduce unit (R213, R216) -/

/-- An aggregation node whose trigger has fired and whose whole subtree has no present party: the root aborts with
E_QUORUM, another node tells its parent (R230, R231). -/
def State.noParty (s : State) (c n : Nat) : State :=
  let x := s.stepOf c n
  if s.ctxAgg c && x.fired.isSome && x.chunks.isEmpty && x.noParty.length == s.rd od3800_CHILDREN c then
    if s.ctxRoot c then s.abortStep c eQuorum
    else if s.parentBarred c then s.sealedStep c
    else s.sendColl c n (s.rd od3800_PARENT c) .part 0xFFFFFF 0 (List.replicate 8 0)
  else s

/-- A PARTIAL that has reached the reduce unit of a context. -/
def State.servePartial (s : State) (r : Req) (h : CollHdr) : Outcome8 :=
  let c := h.ctx.toNat
  let n := h.step.toNat
  let i := h.chunk.toNat
  let src := r.hdr.src.toNat
  let count := bitsOf h.aux.toNat 63 51
  let k := s.ctx c
  let x := s.stepOf c n
  let none_ := decide (i = 0xFFFFFF) && decide (count = 0)
  if !s.ctxRunning c ∨ s.rd od3800_CHILDREN c = 0 ∨ (!k.kids.contains src ∧ s.rd od3800_CHILDREN c ≤ k.kids.length) then .code eAccess 0 s
  else if !collReserved .part h ∨ (h.len.toNat + 1) * 8 ≠ r.payload.length ∨
      (if none_ then r.payload.length ≠ 8 else s.chunkCount c ≤ i ∨ r.payload.length ≠ s.chunkPayload c i 0) then .code eFormat 0 s
  else if n < s.openStep c ∨ x.noParty.contains src ∨ ((x.chunkOf i).any (fun y => y.kids.contains src)) then
    .code eStale (s.openStep c) s
  else if s.mode ≠ 0 then .code eDegraded 0 s
  else if s.flushMode ∨ s.openStep c + 1 < n then .wait
  else
    let s1 := if k.kids.contains src then s else s.setCtx c { k with kids := k.kids ++ [src] }
    if none_ then
      let s2 := (s1.setStep c { x with noParty := x.noParty ++ [src] }).noteFirst c n
      .code eOk 0 (((s2.tryChunks c n).noParty c n).tryClose c)
    else if (x.chunkOf i).isNone && !s.slotFree c n then .wait
    else
      let xs := words32 (s.chunkElems c i) r.payload
      .code eOk 0 (((s1.addToChunk c n i xs count none (some src)).tryChunk c n i).tryClose c)

/-- Answer a PARTIAL from a trunk, or let it wait among the requests of this A9. -/
def State.partialAnswer (s : State) (r : Req) (o : Outcome8) : State :=
  match o with
  | .code code detail s1 =>
    let s2 := { s1 with co := { s1.co with waiting := s1.co.waiting.filter (· != r.id) },
                        tr := { s1.tr with outstanding := s1.tr.outstanding.filter (fun x => x.id != r.id) } }
    s2.complete r code detail []
  | .wait =>
    if s.co.waiting.contains r.id then s
    else { s with co := { s.co with waiting := s.co.waiting ++ [r.id] },
                  tr := { s.tr with outstanding := s.tr.outstanding ++ [r] } }

/-- A reissue that waited beside its original, which has been applied meanwhile, is acknowledged (R214). -/
def State.waitedApplied (s : State) (r : Req) : State :=
  let held := match r.sender with | .trunk _ => s.tr.outstanding.filter (fun x => x.id != r.id) | _ => s.tr.outstanding
  ({ s with co := { s.co with waiting := s.co.waiting.filter (· != r.id) }, tr := { s.tr with outstanding := held } }).answerAgain r

/-- Try the contributions that wait, in order of arrival. -/
def State.retryContribs (s0 : State) : State :=
  let s := foldState s0 s0.runningCtxs State.tryOpen
  s.co.waiting.foldl (fun s id =>
    match s.tr.outstanding.find? (fun r => r.id == id) with
    | some r => if s.psnApplied r then s.waitedApplied r else (match r.op with
      | .coll .contrib h => s.contribAnswer r (s.serveContrib r h)
      | .coll .part h => s.partialAnswer r (s.servePartial r h)
      | _ => s)
    | none => { s with co := { s.co with waiting := s.co.waiting.filter (· != id) } }) s

end Sys2Proof.Machine
end

