-- ==== Sys2Proof/Machine/Degrade.lean ====
section
/-! DEFINITION. Losing units, basic mode, isolation hold and the handler stack (chapter 17), and the end of every
meaning: the errors that it raised are handled. -/

namespace Sys2Proof.Machine

/-! ## Tines (R143, R155, R180) -/

/-- Write back every M line of an agent and drop every line it holds (Table 5.7). -/
def State.dropLines (s : State) (a : Nat) : State :=
  (s.linesHeld a).foldl (fun s l =>
    match s.held a l with
    | none => s
    | some x =>
      let s1 := s.setHeld a l none
      if x.state = .m && !s.owns a l then s1
      else if x.state = .m then
        if s.lineBusy l then s1.writeBack l x.data else (s1.writeBack l x.data).setDir l dirNew
      else if s.lineBusy l then s1 else s1.setDir l ((s.dirOf l).drop a)) s

/-- The lines that a failed tine held in M become P, its S copies leave the directory, and its own requests end (R143). -/
def State.poisonLines (s : State) (a : Nat) : State :=
  let s1 := (s.linesHeld a).foldl (fun s l =>
    match s.held a l with
    | none => s
    | some x =>
      let s1 := s.setHeld a l none
      if x.state = .m then (if s.owns a l then s1.setDir l dirPoison else s1) else s1.setDir l ((s.dirOf l).drop a)) s
  let mine := s1.coh.txns.filter (fun t => t.agent == some a)
  let s2 := { s1 with coh := { s1.coh with
    txns := s1.coh.txns.filter (fun t => t.agent != some a), waits := s1.coh.waits.filter (fun w => w.agent != some a),
    ops := s1.coh.ops.filter (fun o => o.agent != a),
    msgs := s1.coh.msgs.filter (fun m => !(m.agent == a && (m.kind == .data || m.kind == .compack || m.kind == .invack))) } }
  mine.foldl (fun s t => (if (s.dirOf t.line).state == DirStateCode.m then s.setDir t.line dirPoison else s).freeLine t.line) s2

/-- Make a tine ready for a herd: nothing of the last one is left (R155). -/
def State.takeTine (s : State) (t herd : Nat) : State :=
  if s.rd od3400_LAST_HERD t = herd then s
  else
    let s1 := s.dropLines t
    let s2 := { s1 with cpu := { s1.cpu with sram := sparseDrop s1.cpu.sram (sramKey t 0) (sramKey (t + 1) 0) } }
    (s2.setTine t { s2.tine t with icache := [] }).wr od3400_LAST_HERD t herd

/-- End the threads of the commands on a failed tine; reissue the idempotent ones within their limit (R180). -/
def State.failTine (s : State) (t : Nat) : State :=
  if s.rd od3400_STATE t = 3 then s
  else
    let s1 := (s.wr od3400_STATE t 3).poisonLines t
    let hit := s1.cpu.cmds.filter (fun c => c.tines.contains t && !c.finished)
    let s2 := hit.foldl (fun s c =>
      let s1 := (s.dropRemote c.cid).dropThreads c.cid
      if bitAt (c.desc.getD 0 0) 48 && decide (c.reissued < s.rd od3408_REISSUE_LIMIT 0) && s.mode == 0 then
        let x := s1.ring c.ring
        ({ s1 with cpu := { s1.cpu with cmds := s1.cpu.cmds.filter (fun y => y.cid != c.cid) } }).setRing c.ring
          { x with reissue := x.reissue ++ [{ c with reissued := c.reissued + 1 }] }
      else s1.finishCmd c.cid eTargetLost) s1
    let s3 := { s2 with flt := { s2.flt with canaries := s2.flt.canaries.filter (fun k => k.tine != t) } }
    s3.tineCounts t

/-! ## Quadrants (R427) -/

/-- Ports of a quadrant. -/
def quadPorts (q : Nat) : List Nat := (List.range 256).filter (fun p => portQuad p == q)

/-- A port goes down with its quadrant (R427), and its paths are gone. -/
def State.portLost (s : State) (p : Nat) : State :=
  if hp : p < 256 then
    if (s.portLanes p).isNone then s
    else ((((s.freezePort p).wr od2118_STATE p 1).wr od2118_WIDTH p 0).setTraining p trainNew).portGone ⟨p, hp⟩
  else s

/-- The rings whose control block is homed in a quadrant. -/
def State.ringsOf (s : State) (q : Nat) : List Nat :=
  ((odListed s.od od3410_STATE).map (·.1)).filter (fun r => match s.ringAt r (s.rd od3410_CTRL r) with
    | some (e, _) => s.extSlice e == some q
    | none => false)

/-- Requests at a home that is lost are not served: they complete by their load timeout (R91, R427). -/
def State.dropHome (s : State) (q : Nat) : State :=
  let c := s.coh
  let here := fun (e : Nat) => s.extSlice e != some q
  { s with
    pool := { s.pool with held := s.pool.held.filter (fun h => here h.req.ext), moves := s.pool.moves.filter (fun m => here m.ext) },
    coh := { c with
      rounds := c.rounds.filter (fun x => here x.ext), ops := c.ops.filter (fun x => here x.req.ext),
      txns := c.txns.filter (fun t => here (lineExt t.line)), waits := c.waits.filter (fun w => here (lineExt w.line)),
      msgs := c.msgs.filter (fun m => here (lineExt m.line)), rut := c.rut.filter (fun l => here (lineExt l.line)) } }

/-- A lost home slice: its requests, and the rings whose control block it homes. -/
def State.loseSlice (s : State) (q : Nat) : State :=
  foldState (s.dropHome q) (s.ringsOf q) (fun s r => s.wr od3410_STATE r 3)

/-- Lose a quadrant: tines, ports, home slice, reduce units, rings, and open steps of its contexts. -/
def State.loseQuadrant (s : State) (q : Nat) : State :=
  if s.flt.quadsLost.contains q then s
  else
    let s1 := foldState s ((List.range 64).map (64 * q + ·)) State.failTine
    let s2 := foldState s1 (quadPorts q) State.portLost
    let s3 := s2.loseSlice q
    let s4 := foldState s3 (s3.runningCtxs.filter (fun c => ctxQuad c == q)) (fun s c => s.closeStep c eTargetLost)
    let f := s4.flt
    { s4 with flt := { f with quadsLost := f.quadsLost ++ [q],
                              stacksLost := (f.stacksLost ++ [2 * q, 2 * q + 1]).eraseDups } }

/-! ## Stopping work -/

/-- Complete requests held at the homes with a code: those that `p` selects. -/
def State.failHeld (s : State) (code : Nat) (p : Req → Bool) : State :=
  let rs := s.homeReqs.filter p
  let keep := fun (r : Req) => !p r
  let c := s.coh
  let s1 := { s with
    pool := { s.pool with held := s.pool.held.filter (fun h => keep h.req) },
    coh := { c with
      rounds := c.rounds.filter (fun x => keep x.req), ops := c.ops.filter (fun x => keep x.req),
      txns := c.txns.filter (fun t => match t.req with | some r => keep r | none => true),
      waits := c.waits.filter (fun w => match w.req with | some r => keep r | none => true),
      rut := c.rut.map (fun l => { l with admitted := l.admitted.filter (fun q => keep q.req),
                                          waiting := l.waiting.filter (fun q => keep q.req) }) } }
  (rs.foldl (fun s r => if s.tr.resps.any (fun m => m.hdr.tag == r.hdr.tag && m.hdr.psn == r.hdr.psn && m.hdr.dst == r.hdr.src)
    then s else s.answer r code 0 []) s1)

/-- Every open step closes with a code, and ABORT goes out on every path of its tree (R219). -/
def State.stopSteps (s : State) (code : Nat) : State :=
  foldState s s.runningCtxs (fun s c => (s.sendAborts c (s.openStep c) code true).closeStep c code)

/-- End every command in flight and every thread, and drop the lines of the tines (Table 17.7). -/
def State.stopTines (s : State) : State :=
  let s1 := foldState s (s.cpu.cmds.map (·.cid)) (fun s cid => s.finishCmd cid eDegraded)
  foldState s1 (s1.cpu.tines.map (·.1)) State.dropLines

/-- The lowest-numbered working management core. -/
def State.deviceCore (s : State) : Nat := ([0, 1, 2, 3].find? (fun q => !s.flt.coresFailed.contains q && !s.flt.quadsLost.contains q)).getD 0

/-- Push a frame on the handler stack; only a frame of a higher class stands above another (Table 17.6). -/
def State.push (s : State) (f : HandlerFrame) : State :=
  let stack := match s.flt.stack with
    | [] => [f]
    | g :: gs => if g.cls < f.cls then f :: { g with ran := g.ran + (s.clk - g.top) } :: gs else g :: gs
  (({ s with flt := { s.flt with stack := stack } }).wr od4400_DEPTH 0 stack.length).tally 0 (0x740 + 8 * f.core + 1) 1

/-- The core that runs the frame of an error (R409); the lowest working one has taken over the duties of a failed one. -/
def State.coreFor (s : State) (r : Raised) : Nat :=
  if r.cls = 3 ∨ s.flt.coresFailed.contains r.quad ∨ s.flt.quadsLost.contains r.quad then s.deviceCore else r.quad

/-- Tines that are switched off: in P2 to P4, and in a gated quadrant (R467, R468). -/
def State.tineOff (s : State) (t : Nat) : Bool :=
  decide (2 ≤ max s.pwr.request (s.rd od4C00_STATE 0)) || s.rd od4C08_GATE (t / 64) == 1

/-- Tines read STATE 4 while they are off, and take back the state they held before; an off tine's lines are written back and
dropped. -/
def State.syncTines (s : State) : State :=
  foldState s (List.range 256) (fun s t =>
    let st := s.rd od3400_STATE t
    if s.tineOff t then
      if st = 4 then s
      else
        let s1 := s.dropLines t
        { s1 with pwr := { s1.pwr with kept := sparseSet 0 s1.pwr.kept t st } }.wr od3400_STATE t 4
    else if st = 4 then
      { s with pwr := { s.pwr with kept := sparseSet 0 s.pwr.kept t 0 } }.wr od3400_STATE t (sparseGet 0 s.pwr.kept t)
    else s)

/-- A stot event, basic mode or isolation hold ends a running transition at its current step, and so does PFW_N an entry to P3 or
P4: STATE keeps the state being left (R470). -/
def State.endTransition (s : State) : State :=
  match s.pwr.trans with
  | none => s
  | some (target, _) =>
    let back := if s.rd od4C00_STATE 0 = 1 then 0 else s.rd od4C00_STATE 0
    let s1 := { s with pwr := { s.pwr with trans := none } }.wr od4C00_TRANSITION 0 0
    let q := target % 4
    let s2 := if 32 ≤ target then
        let mine := fun (t : Nat) => t / 64 == q
        { s1 with flt := { s1.flt with
          canaries := s1.flt.canaries.filter (fun k => !(mine k.tine && k.why == CanaryWhy.ungate)),
          fourDue := s1.flt.fourDue.filter (fun x => !(mine x.1 && x.2 == CanaryWhy.ungate)) } }.wr od4C08_GATE q 1
      else if 16 ≤ target then { s1 with sec := { s1.sec with noWork := quadSet s1.sec.noWork q false } }.wr od4C08_GATE q 0
      else { s1 with pwr := { s1.pwr with request := back } }
    let s3 := s2.syncTines
    if target = 3 ∨ target = 4 then foldState s3 ((odListed s3.od od2118_STATE).map (·.1)) State.startPort else s3

/-- Enter basic mode on an error (R415, Table 17.7). -/
def State.enterBasic (s : State) (r : Raised) : State :=
  let s1 := (s.wr od4400_MODE 0 1).emit s.deviceCore evBasicEntered 0 7 s.deviceCore 0 [r.event]
  let s2 := s1.push ⟨4, r.kind, r.unit, s1.deviceCore, 0, s1.clk⟩
  let s3 := { s2 with flt := { s2.flt with canaries := [], dual := [], recovering := false } }
  (s3.endTransition.stopTines.stopSteps eDegraded).failHeld eDegraded (fun q => s3.pool.held.any (fun h => h.req.id == q.id && h.why == .expand))

/-- Every dirty chunk of a PERSIST extent is written to flash (R108). -/
def State.flushAll (s : State) : State :=
  s.pool.gran.foldl (fun s kv =>
    let e := kv.1 / 2 ^ 32
    let g := kv.1 % 2 ^ 32
    if s.extPersist e then foldState s (List.range 32) (fun s c => s.cleanChunk e g c) else s) s

/-- Idle the ports of the roles that `p` selects: they are down and start no training (R417). -/
def State.idlePorts (s : State) (p : Nat → Bool) : State :=
  foldState s ((odListed s.od od2118_STATE).map (·.1)) (fun s x =>
    if p (s.rd od2810_ROLE x) then
      if hx : x < 256 then ((s.wr od2118_STATE x 1).setTraining x trainNew).dropFrames ⟨x, hx⟩ else s
    else s)

/-- A request is held in the A9 away from a home: at the ingress, at the management core, or in a transmit queue. -/
def State.heldHere (s : State) (r : Req) : Bool :=
  match r.place with
  | .rate | .order | .route | .mgmt => true
  | .queue => s.sw.tx.any (fun f => match f.body with
      | .req _ h _ => h.src == r.hdr.src && h.tag == r.hdr.tag && h.psn == r.hdr.psn
      | _ => false)
  | .home | .merged _ | .answered => false

/-- Enter isolation hold (R417): nothing is applied, everything held is answered, and the flush runs. -/
def State.enterIsolation (s : State) (q event cause : Nat) : State :=
  if s.mode = 2 then s
  else
    let s1 := (s.endTransition.wr od4400_MODE 0 2).emit q evIsolationHold 0 14 q 0 [event, cause]
    let s2 := s1.failHeld eDegraded (fun _ => true)
    let s3 := (s2.tr.outstanding.filter s2.heldHere).foldl (fun s r => s.answer r eDegraded 0 []) s2
    ((s3.stopSteps eDegraded).idlePorts (fun x => x != 3)).flushAll.idlePorts (fun x => x == 3)

/-! ## Nesting (R409–R412, Table 17.6) -/

def sameSource (cls kind unit : Nat) (r : Raised) : Bool := cls == r.cls && kind == r.kind && unit == r.unit

/-- The immediate action of a running or queued handler covers the error (a unit of a quadrant already lost), or it has the same
class and source. -/
def State.merged (s : State) (r : Raised) : Bool :=
  ([1, 2, 3, 4, 5, 6, 12, 13].contains r.kind && r.event != evQuadrantLost && s.flt.quadsLost.contains r.quad) ||
  s.flt.stack.any (fun f => sameSource f.cls f.kind f.unit r) ||
  (r.cls == 2 && s.flt.contained.any (fun x => x.1 == r.kind && x.2.1 == r.unit)) ||
  (r.cls == 1 && s.flt.correctable.any (fun x => x.1 == r.kind && x.2.1 == r.unit))

/-- Write the counts of OD 4400.06. -/
def State.queued (s : State) : State :=
  s.wr od4400_QUEUED 0 (min 255 s.flt.contained.length * 256 + min 255 s.flt.correctable.length)

/-- Handle a new error under Table 17.6, taking the first row that applies; the queues of R412. -/
def State.nest (s : State) (r : Raised) : State :=
  if s.mode = 2 then s
  else if s.mode = 1 ∧ r.cls = 3 then s.enterIsolation 0 r.event 1
  else if s.merged r then s
  else
    let f : HandlerFrame := ⟨r.cls, r.kind, r.unit, s.coreFor r, 0, s.clk⟩
    match s.flt.stack with
    | [] => s.push f
    | top :: _ =>
      if top.cls = 3 ∧ r.cls = 3 ∧ s.mode = 0 then s.enterBasic r
      else if top.cls < r.cls then s.push f
      else if r.cls = 2 then
        if s.flt.contained.length < 64 then
          ({ s with flt := { s.flt with contained := s.flt.contained ++ [(r.kind, r.unit, r.quad)] } }).queued
        else
          let s1 := s.emit r.quad evQueueOverflow 0 r.kind r.unit 0 []
          let r3 : Raised := ⟨3, r.kind, r.unit, evQueueOverflow, r.quad⟩
          let s2 := { s1 with flt := { s1.flt with raised := s1.flt.raised.filter (fun x => x != r3) } }
          if s2.mode = 1 then s2.enterIsolation 0 evQueueOverflow 1
          else if top.cls = 3 then s2.enterBasic r3
          else s2.push ⟨3, r.kind, r.unit, s2.deviceCore, 0, s2.clk⟩
      else if s.flt.correctable.length < 64 then
        ({ s with flt := { s.flt with correctable := s.flt.correctable ++ [(r.kind, r.unit, r.quad)] } }).queued
      else s.bump od4400_DROPPED 0 32 1

/-- R414: descending class, then ascending KIND, then ascending UNIT. -/
def raisedBefore (a b : Raised) : Bool :=
  decide (b.cls < a.cls) || (a.cls == b.cls && (decide (a.kind < b.kind) || (a.kind == b.kind && decide (a.unit ≤ b.unit))))

def insertRaised (r : Raised) : List Raised → List Raised
  | [] => [r]
  | x :: xs => if raisedBefore x r then x :: insertRaised r xs else r :: x :: xs

/-- Handle every error raised, in the order of R414; errors that this raises in turn follow. -/
def State.settle (s : State) : Nat → State
  | 0 => s
  | n + 1 =>
    if s.flt.raised.isEmpty then s
    else
      let rs := s.flt.raised.foldr insertRaised []
      (rs.foldl State.nest { s with flt := { s.flt with raised := [] } }).settle n

/-! ## Canaries of the canary ring (R419–R421) -/

/-- Start a canary of the next class of a tine; `after` counts canaries of the same request that run before it. -/
def State.startCanary (s : State) (t : Nat) (why : CanaryWhy) (after : Nat) : State :=
  let cls := sparseGet 0 s.flt.turn t
  let s1 := s.takeTine t 0
  { s1 with flt := { s1.flt with
    turn := sparseSet 0 s1.flt.turn t ((cls + 1) % 4),
    canaries := s1.flt.canaries ++ [Canary.mk t cls why (s.clk + nsClk (40000 * after)) (s.rd od4410_TEMP t)] } }

/-- One canary of each class on a tine (R416, R420, R424). -/
def State.startFour (s : State) (t : Nat) (why : CanaryWhy) : State :=
  foldState s [0, 1, 2, 3] (fun s k => s.startCanary t why k)

/-- A canary may start on a tine: STATE 0 or 1, nothing running, nothing of chapter 17 on it. -/
def State.canaryFits (s : State) (t : Nat) : Bool :=
  decide (s.rd od3400_STATE t ≤ 1) && (s.liveThreads t).isEmpty &&
  !s.cpu.cmds.any (fun c => c.work.tasks.any (fun k => k.tine == some t && k.code.isNone)) &&
  !s.flt.canaries.any (fun k => k.tine == t) && !s.flt.dual.any (fun d => d.tines.contains t)

/-- A doorbell's canary goes to the next tine that qualifies, or is skipped. -/
def State.ringCanary (s : State) : State :=
  let from_ := s.flt.nextCanary
  match ((List.range 256).map (fun i => (from_ + i) % 256)).find? (fun t => s.canaryFits t && !bitAt (s.reservedTines none) t) with
  | none => s.bump od4400_CANARY_SKIPPED 0 64 1
  | some t =>
    let s1 := s.startCanary t .ring 0
    { s1 with flt := { s1.flt with nextCanary := (t + 1) % 256 } }

/-- The canaries that doorbells have asked for, unless they are stopped or wait for P2 to end (R468). -/
def State.dueCanaries (s : State) : Nat → State
  | 0 => { s with flt := { s.flt with canaryDue := 0 } }
  | n + 1 => s.ringCanary.dueCanaries n

/-- The canaries of tines that are to run one of each class, once the tine is idle. -/
def State.startDue (s : State) : State :=
  s.flt.fourDue.foldl (fun s x =>
    if decide (s.rd od3400_STATE x.1 ≤ 2) && (s.liveThreads x.1).isEmpty && !s.flt.canaries.any (fun k => k.tine == x.1) &&
        !s.cpu.cmds.any (fun c => c.work.tasks.any (fun k => k.tine == some x.1 && k.code.isNone)) &&
        !s.flt.dual.any (fun d => d.tines.contains x.1) then
      ({ s with flt := { s.flt with fourDue := s.flt.fourDue.erase x } }).startFour x.1 x.2
    else if s.rd od3400_STATE x.1 = 3 then { s with flt := { s.flt with fourDue := s.flt.fourDue.erase x } }
    else s) s

/-- Canaries run now: not in P2, and not while the A9 is still. -/
def State.canariesRun (s : State) : Bool := s.pwr.request != 2 && !s.halted

/-- The state once the errors that a meaning raised are handled and the canaries it asked for have started. -/
def State.settled (s : State) : State :=
  let s0 := s.takeBoard.bandwidth.settle 4
  let s1 := if s0.flt.fourDue.isEmpty ∨ !s0.canariesRun ∨ s0.mode ≠ 0 ∧ !s0.flt.recovering then s0 else s0.startDue
  if s1.flt.canaryDue = 0 ∨ !s1.canariesRun then s1
  else if s1.mode ≠ 0 then { s1 with flt := { s1.flt with canaryDue := 0 } }
  else s1.dueCanaries s1.flt.canaryDue

/-- The end of a meaning: the settled state is the next one. -/
def State.done (s : State) : Host.Outcome State Fault Refusal := .next s.settled

end Sys2Proof.Machine
end

