-- ==== Sys2Proof/Machine/Ingress.lean ====
section
/-! DEFINITION. Requests at their ingress A9 (R25–R29, R72–R79, R85, R87, R316) and on trunk ports (R27, R340). -/

namespace Sys2Proof.Machine

/-! ## Cells and senders -/

/-- Return the credit of the cells that a request held while it waited at its ingress (R296, R316). -/
def State.freeCells (s : State) (r : Req) : State :=
  match r.sender, r.place with
  | .port p, .rate => s.creditBack p r.hdr.cls.toNat (cellsOf (reqBytes r.payload))
  | .port p, .order => s.creditBack p r.hdr.cls.toNat (cellsOf (reqBytes r.payload))
  | .port p, .route => s.creditBack p r.hdr.cls.toNat (cellsOf (reqBytes r.payload))
  | _, _ => s

/-- KIND and UNIT of a sender (Table 17.5a). -/
def State.senderUnit (s : State) : Sender → Nat × Nat
  | .port p => (1, p.val)
  | .trunk p => (1, p.val)
  | .companion => (7, 0)
  | .tine t _ => (3, t.val)
  | .unit ep _ _ => if [0, 1, 2, 3].any (fun q => s.rd (odReduceEp q) 0 == ep) then (5, 16 * s.unitQuad ep) else (12, s.unitQuad ep)
  | .coll c => (5, 16 * ctxQuad c)
  | .home q => (4, q % 4)

/-- The quadrant at which a sender's events are detected. -/
def State.senderQuad (s : State) : Sender → Nat
  | .port p => portQuad p.val
  | .trunk p => portQuad p.val
  | .companion => 0
  | .tine t _ => t.val / 64
  | .unit ep _ _ => s.unitQuad ep
  | .coll c => ctxQuad c
  | .home q => q % 4

def State.dropReq (s : State) (id : Nat) : State :=
  { s with tr := { s.tr with outstanding := s.tr.outstanding.filter (fun x => x.id != id) } }

def State.mapReq (s : State) (id : Nat) (f : Req → Req) : State :=
  { s with tr := { s.tr with outstanding := s.tr.outstanding.map (fun x => if x.id = id then f x else x) } }

def State.setPlace (s : State) (id : Nat) (pl : ReqPlace) : State := s.mapReq id (fun r => { r with place := pl })

/-- Answer a request at its ingress, freeing its cells. -/
def State.answerHere (s : State) (r : Req) (code detail : Nat) : State := (s.freeCells r).answer r code detail []

/-- Requests of an endpoint port that count against CAP (R316, OD 2440.04). -/
def State.portOutstanding (s : State) (p : PortId) : Nat :=
  (s.tr.outstanding.filter (fun r => r.sender == .port p)).length

/-! ## Limits on senders (R89, R316, R317, R415) -/

/-- Units in which a token bucket falls: a byte is 12,800, and a cycle of the time clock gives back RATE in Mb/s. -/
def tokenUnit : Nat := 12800

/-- The request rate of an endpoint port in Mb/s, 0 unlimited: RATE, or BASIC_RATE of the port's rate in basic mode and
in flush mode (R415, R472), less 5 % of the port's rate for each step of the power governor, down to 5 % (R455). -/
def State.requestRate (s : State) (p : PortId) : Nat :=
  let full := s.portRate p.val
  let base := if s.mode = 1 ∨ s.flushMode then max 1 (full * s.rd od4400_BASIC_RATE 0 / 100) else s.rd od2440_RATE p.val
  let steps := (s.pwr.actions.filter (·.1 == 4)).length
  if steps = 0 then base
  else max 1 (max (full * 5 / 100) ((if base = 0 then full else min base full) - steps * full * 5 / 100))

/-- What a port's token bucket lacks of being full, now. -/
def State.tokenDebt (s : State) (p : PortId) : Nat :=
  let x := sparseGet (0, 0) s.tm.bucket p.val
  x.1 - s.requestRate p * (s.up - x.2)

/-- A request may leave its endpoint port's rate limit. -/
def State.rateOk (s : State) (p : PortId) (r : Req) : Bool :=
  s.requestRate p == 0 || r.op == .fence || r.op == .mgmtRead || r.op == .mgmtWrite ||
  decide (s.tokenDebt p + reqBytes r.payload * tokenUnit ≤ s.rd od2440_BUCKET p.val * tokenUnit)

def State.takeTokens (s : State) (p : PortId) (r : Req) : State :=
  if s.requestRate p = 0 ∨ r.op = .fence ∨ r.op = .mgmtRead ∨ r.op = .mgmtWrite then s
  else
    let x := (s.tokenDebt p + reqBytes r.payload * tokenUnit, s.up)
    { s with tm := { s.tm with bucket := sparseSet (0, 0) s.tm.bucket p.val x } }

/-- A request may leave the first stage of its ingress: rate limit, outstanding cap, or window. -/
def State.mayLeave (s : State) (r : Req) : Bool :=
  match r.sender with
  | .port p =>
    let gone := (s.tr.outstanding.filter (fun x => x.sender == .port p && !x.atRate)).length
    decide (gone + 1 ≤ s.rd od2440_CAP p.val) && s.rateOk p r
  | .companion | .trunk _ | .home _ => true
  | .tine _ _ | .unit _ _ _ | .coll _ =>
    let gone := (s.tr.outstanding.filter (fun x => x.hdr.src == r.hdr.src && x.dest == r.dest && !x.atRate)).length
    decide (gone + 1 ≤ s.windowOf r.hdr.src.toNat r.dest)

/-! ## Ordering at the ingress (Table 3.7) -/

def isMgmt (op : ReqOp) : Bool := op == .mgmtRead || op == .mgmtWrite

def isAtomic : ReqOp → Bool
  | .atomic _ => true
  | _ => false

/-- An earlier request of the same sender holds a later one at the ingress. -/
def holdsBack (x r : Req) : Bool :=
  x.op == .fence || r.op == .fence ||
  ((r.op == .kick || r.op == .complete) && (x.op == .store || x.op == .pstore || isAtomic x.op || x.op == .publish)) ||
  (r.op == .publish && (x.op == .store || x.op == .pstore) && x.hdr.herd == r.hdr.herd && overlap x r) ||
  ((x.place == .order || x.place == .route) && x.hdr.cls == r.hdr.cls && x.hdr.herd == r.hdr.herd &&
    (overlap x r || (!x.hdr.rlx && !r.hdr.rlx && x.dest == r.dest)))

/-- A response to an endpoint is still in the switch core. -/
def State.respOnWay (s : State) (ep : Half) : Bool :=
  (s.sw.voq.map (·.body) ++ s.sw.tx.map (·.body)).any (fun b => match b with | .resp _ h _ => h.dst == ep | _ => false)

/-- Nothing that the same sender sent earlier holds a request; the answer of a FENCE also follows the responses that are
still on their way to its sender. -/
def State.inTurn (s : State) (r : Req) : Bool :=
  !(r.op == .fence && s.respOnWay r.hdr.src) && !s.tr.outstanding.any (fun x => decide (x.id < r.id) && x.hdr.src == r.hdr.src && x.hdr.herd == r.hdr.herd && holdsBack x r)

/-! ## The trace region (R440) -/

/-- The number that a load of the trace region carries in place of an extent's: no extent has it. -/
def traceExt : Nat := 0xFFFFFFFF

/-- The companion loads bytes of the trace region, herd 0x000 from BASE (Table 18.5). -/
def State.traceLoad (s : State) (r : Req) : Bool :=
  let b := Config.device 0x4880 5 0
  r.sender == .companion && r.op == .load && r.hdr.herd == 0 && decide (b ≤ r.hdr.addr.toNat) &&
    decide (r.hdr.addr.toNat + lenBytes r.hdr ≤ b + 4 * s.quarterBytes)

/-- Byte `a` of the trace region: the records of each quadrant stand in its quarter. -/
def State.traceByte (s : State) (a : Nat) : Byte :=
  let o := a % max 1 s.quarterBytes
  BitVec.ofNat 8 (sparseGet 0 s.dbg.trace (a / max 1 s.quarterBytes * 2 ^ 40 + o / 32) / 2 ^ (8 * (o % 32)))

/-- The bytes of a load of the trace region. -/
def State.traceBytes (s : State) (r : Req) : List Byte :=
  (List.range (lenBytes r.hdr)).map (fun i => s.traceByte (r.hdr.addr.toNat - Config.device 0x4880 5 0 + i))

/-- The endpoint that answers a load of the trace region: the home of the quarter's quadrant. -/
def State.traceTo (s : State) (r : Req) : Nat :=
  let b := s.rd od1100_UNIT_BASE 0
  if b = 0xFFFF then 0xFFFF else b + (r.hdr.addr.toNat - Config.device 0x4880 5 0) / max 1 s.quarterBytes

/-! ## Leaving the ingress -/

/-- A request of herd `herd` toward an endpoint of another A9 may not leave: R314, R312 or R395. -/
def State.egressBar (s : State) (r : Req) (p : Nat) : Option Nat :=
  let b := r.body
  let ingress := match r.sender with | .port x => some x | _ => none
  let q := (s.classify b ingress p).1
  let most := s.rd (odMaxframe r.hdr.cls.toNat) p
  if most < reqBytes r.payload ∨ most < largestResp r.op r.hdr then some eFormat
  else if s.gateBreak b q p then some eAccess
  else if s.trunkBarred p r.hdr.herd.toNat false then some eSealed
  else none

/-- Two KICKs of one sender to one doorbell. -/
def sameBell (x r : Req) : Bool :=
  x.op == .kick && r.op == .kick && x.hdr.src == r.hdr.src && x.hdr.herd == r.hdr.herd && x.hdr.addr == r.hdr.addr

/-- The later KICKs at the ingress that a KICK takes along: nothing but KICKs to that doorbell holds them back (R77). -/
def State.kicksAfter (s : State) (r : Req) : List Req :=
  s.tr.outstanding.filter (fun k => sameBell k r && decide (r.id < k.id) && (k.place == .order || k.atRate) &&
    !s.tr.outstanding.any (fun x => decide (x.id < k.id) && x.hdr.src == k.hdr.src && x.hdr.herd == k.hdr.herd &&
      !sameBell x k && holdsBack x k))

/-- Queued KICKs of one sender to one doorbell merge into the later index; each still has its own answer (R77). -/
def State.mergeKicks (s : State) (r : Req) : Req × State :=
  let ks := s.kicksAfter r
  match ks.getLast? with
  | none => (r, s)
  | some k =>
    let s1 := ks.foldl (fun s x => (s.freeCells x).setPlace x.id (.merged r.id)) s
    ({ r with payload := k.payload }, s1.mapReq r.id (fun x => { x with payload := k.payload }))

/-- The largest response to a request exceeds MAXFRAME of its class at the port by which it is to leave this A9 (R312). -/
def State.respTooLong (s : State) (r : Req) : Bool :=
  match r.sender with
  | .port a => decide (s.rd (odMaxframe r.hdr.cls.toNat) a.val < largestResp r.op r.hdr)
  | _ => false

/-- Send a request on from the last stage of its ingress. -/
def State.goOn (s0 : State) (r0 : Req) : State :=
  let (r, s) := if r0.op = .kick then s0.mergeKicks r0 else (r0, s0)
  if s.respTooLong r then s.answerHere r eFormat 0 else
  match r.op with
  | .fence => s.answerHere r eOk 0
  | .mgmtRead | .mgmtWrite => (s.freeCells r).setPlace r.id .mgmt
  | .coll .part _ | .coll .result _ | .coll .abort _ =>
    match s.pathTo r.dest with
    | none => s.forward r
    | some _ => if s.routeHeld (s.destOf r) then s.setPlace r.id .route else s.forward r
  | .coll .contrib h =>
    if r.dest = s.reduceEp h.ctx.toNat then
      let s1 := (s.freeCells r).setPlace r.id .home
      s1.contribAnswer { r with place := .home } (s1.serveContrib r h)
    else match s.pathTo r.dest with
      | none => s.forward r
      | some p => match s.egressBar r p with
        | some c => s.answerHere r c 0
        | none => s.forward r
  | _ =>
    if r.ext = traceExt then (s.freeCells r).answer r eOk 0 (s.traceBytes r)
    else if (s.homeSlice r.dest).isSome then ((s.freeCells r).setPlace r.id .home).homeArrive { r with place := .home }
    else match s.pathTo r.dest with
      | none => s.forward r
      | some p => match s.egressBar r p with
        | some c => s.answerHere r c 0
        | none => if s.routeHeld (s.destOf r) then s.setPlace r.id .route else s.forward r

/-- Take a request out of the ordering stage if its turn has come. -/
def State.tryOrder (s : State) (id : Nat) : State :=
  match s.tr.outstanding.find? (fun r => r.id == id) with
  | none => s
  | some r => if r.place == .order && s.inTurn r then s.goOn r else s

/-- Take a request past the limits of its sender if it is the first that waits and they allow it. -/
def State.tryRate (s : State) (id : Nat) : State :=
  match s.tr.outstanding.find? (fun r => r.id == id) with
  | none => s
  | some r =>
    let first := !s.tr.outstanding.any (fun x => decide (x.id < id) && x.sender == r.sender && x.atRate)
    if r.atRate && first && s.mayLeave r then
      let s1 := match r.sender with | .port p => s.takeTokens p r | _ => s
      s1.setPlace id .order
    else s

/-- Let the requests of a source that wait at the ingress go on, in their order. -/
def State.advance (s : State) (src : Half) : State :=
  let ids := (s.tr.outstanding.filter (fun r => r.hdr.src == src && (r.atRate || r.place == .order))).map (·.id)
  ids.foldl (fun s id => (s.tryRate id).tryOrder id) s

/-- FENCEs that waited for a response to leave the switch core go on. -/
def State.fencesGo (s : State) : State :=
  (((s.tr.outstanding.filter (fun r => r.op == .fence && r.place == .order)).map (·.hdr.src)).eraseDups).foldl State.advance s

/-! ## Admission (R25–R29, R72–R79) -/

/-- The 1-per-port-per-millisecond event of R29, with the requests refused since the last one. -/
def State.unboundEvent (s : State) (p : PortId) : State :=
  let x := sparseGet (0, 0) s.tr.unbound p.val
  let now := s.ft (portQuad p.val)
  let put := fun (s : State) (v : Nat × Nat) => { s with tr := { s.tr with unbound := sparseSet (0, 0) s.tr.unbound p.val v } }
  if x.1 = 0 ∨ x.1 - 1 + nsToFt 1000000 ≤ now then
    (put s (now + 1, 0)).emit (portQuad p.val) evAccessUnbound (s.rd od2810_HERD p.val) 1 p.val eAccess [x.2 + 1]
  else put s (x.1, x.2 + 1)

/-- The herd and source that the A9 stamps at an edge (R25, R28). -/
def State.stamp (s : State) : Sender → Nat × Nat
  | .port p => (s.rd od2810_HERD p.val, s.rd od2810_ENDPOINT p.val)
  | .companion => (0, s.rd od1100_COMPANION_EP 0)
  | _ => (0xFFF, 0xFFFF)

/-- A management request that R23 accepts. -/
def State.mgmtOk (s : State) (r : Req) : Bool :=
  match r.sender with
  | .port p => s.rd od2810_HERD p.val == 0 && s.rd od1100_FM_ENDPOINT 0 != 0xFFFF
      && s.rd od2810_ENDPOINT p.val == s.rd od1100_FM_ENDPOINT 0
      && decide (mgmtBase ≤ r.hdr.addr.toNat) && decide (r.hdr.addr.toNat < mgmtBase + 2 ^ 48)
  | _ => false

/-- What a request fails at its ingress, in the order of R72–R79 and R25–R26; none where it passes, with its extent and
the endpoint that it goes to. -/
def State.checkIn (s : State) (r : Req) : Nat ⊕ (Nat × Nat) :=
  match r.op with
  | .coll .contrib h =>
    if (s.rd od3800_STATE h.ctx.toNat) = 0 then .inl eAccess
    else
      match (s.membersOf h.ctx.toNat).find? (fun m => s.rd od3810_INDEX m == h.member.toNat &&
          s.rd od3810_ENDPOINT m == r.hdr.src.toNat && s.rd od3810_HERD m == r.hdr.herd.toNat && s.rd od3810_RING m == 0xFFFFFFFF) with
      | none => .inl eAccess
      | some _ => .inr (0, s.reduceEp h.ctx.toNat)
  | .coll _ _ => .inl eAccess
  | op =>
    if !formatOk op r.hdr r.payload then .inl eFormat
    else if op = .fence then .inr (0, 0xFFFF)
    else if isMgmt op then (if s.mgmtOk r then .inr (0, 0xFFFF) else .inl eAccess)
    else if op = .invalidate then .inl eAccess
    else
      match s.extCheck r.hdr.herd.toNat r.hdr.addr.toNat (spanOf op r.hdr) with
      | none => if s.traceLoad r then .inr (traceExt, s.traceTo r) else .inl eAccess
      | some e =>
        if s.fenced e r.hdr.herd.toNat (r.hdr.addr.toNat - s.extBase e) (spanOf op r.hdr) then .inl eRevoked
        else if s.mode = 2 then .inl eDegraded
        else .inr (e, s.rd od2820_HOME e)

/-- Note a new request as outstanding. -/
def State.track (s : State) (r : Req) : State :=
  { s with tr := { s.tr with nextId := r.id + 1, outstanding := s.tr.outstanding ++ [r] } }

/-- A request that starts or arrives at this A9, already stamped: check it, number it, and let it go on if it may. -/
def State.enter (s : State) (r0 : Req) : State :=
  let s0 := s.track r0
  match s0.checkIn r0 with
  | .inl c => s0.answerHere r0 c 0
  | .inr (e, dst) =>
    let plain := !(r0.op == .fence || isMgmt r0.op)
    let (psn, s1) := if plain then s0.takePsn r0.hdr.src.toNat dst else (0, s0)
    let h := { r0.hdr with rtx := false, dst := if plain then BitVec.ofNat 16 dst else r0.hdr.dst, psn := BitVec.ofNat 32 psn }
    let s2 := s1.mapReq r0.id (fun r => { r with hdr := h, ext := e, dest := dst })
    let s3 := s2.advance r0.hdr.src
    match r0.sender with
    | .port p =>
      if s3.tr.outstanding.any (fun r => r.id == r0.id && r.atRate) then s3.bump od2440_HELD p.val 64 1 else s3
    | _ => s3

/-- A whole request frame at an endpoint port, or from the companion. -/
def State.ingress (s : State) (sender : Sender) (op : ReqOp) (h : ReqHdr) (payload : List Byte) : State :=
  let (herd, src) := s.stamp sender
  let hdr := { h with herd := BitVec.ofNat 12 herd, src := BitVec.ofNat 16 src }
  let r : Req := { id := s.tr.nextId, sender := sender, op := op, hdr := hdr, payload := payload, ext := 0, born := s.clk,
                   place := .rate, path := none, dest := 0xFFFF }
  if s.tr.outstanding.any (fun x => x.sender == sender && x.hdr.tag == h.tag) then
    let u := match sender with | .port p => (portQuad p.val, 1, p.val) | _ => (0, 7, 0)
    (s.freeCells r).emit u.1 evTagDuplicate herd u.2.1 u.2.2 0 [src * 65536 + h.tag.toNat]
  else
    match sender with
    | .port p =>
      if s.rd od2810_ROLE p.val ≠ 1 ∨ herd = 0xFFF ∨ !s.herdActive herd then
        ((s.track r).unboundEvent p).answerHere r eAccess 0
      else s.enter r
    | _ => s.enter r

/-! ## Trunk and tray ports (R27, R340) -/

/-- Lose a frame at an A9 that is not its ingress: its cells are free again (R334). -/
def State.loseFrame (s : State) (p : PortId) (herd cls n : Nat) : State :=
  ((s.bump od2300_FRAMES_LOST 0 64 1).tally herd (0x6C0 + 16 * portQuad p.val + 15) 1).creditBack p cls n

/-- A request that arrives on a trunk was sent by a route that failed here, within its window (R340). -/
def State.stale (s : State) (h : ReqHdr) : Bool :=
  !h.rtx && (match s.locate h.dst.toNat with
    | some d => s.ports.windows.any (fun w => w.1 == d && decide (s.ft 0 < w.2.1))
    | none => false)

/-- Send a frame that arrived on a trunk on its way to another endpoint; none where it cannot go. -/
def State.passOn (s : State) (p : PortId) (b : FrameBody) : State :=
  let n := cellsOf (bodyBytes b)
  match s.pathTo (bodyDst b) with
  | none => s.loseFrame p (bodyHerd b) (bodyClass b) n
  | some x =>
    if hx : x < 256 then
      let c := s.classify b (some p) x
      if s.trunkBarred x (bodyHerd b) (match b with | .coll .part h _ => s.ctxAgg h.ctx.toNat | _ => false) then
        s.loseFrame p (bodyHerd b) (bodyClass b) n
      else if s.gateBreak b c.1 x then (s.bump od2408_TM_DISCARDS 0 64 1).creditBack p (bodyClass b) n
      else s.enqueue (portQuad p.val) (portEnd p.val) (some p) [⟨x, hx⟩] b
    else s.loseFrame p (bodyHerd b) (bodyClass b) n

/-- A home slice serves an extent, or still forwards its requests to the new one until the composition deadline has passed
again since the switch (R119). -/
def State.servedHere (s : State) (e home : Nat) : Bool :=
  s.rd od2820_HOME e == home ||
  s.pool.forward.any (fun x => x.1 == e && x.2.1 == home && !s.past x.2.2 (s.rd od2840_COMPOSITION_DEADLINE 0 * 1000))

/-- A request on a trunk port: to a home of this A9, to an endpoint here, or on. The home finds the extent of the address in
the herd's map and does not check the request again (R27); where no extent stands there, the request completes with E_ACCESS
(log entry 65). -/
def State.transit (s : State) (p : PortId) (op : ReqOp) (h : ReqHdr) (payload : List Byte) : State :=
  let n := cellsOf (reqBytes payload)
  let s0 := s.creditBack p h.cls.toNat n
  if s.stale h then s0.bump od2100_WINDOW_DISCARDS 0 64 1
  else
    match s.homeSlice h.dst.toNat with
    | some _ =>
      let r : Req := { id := s.tr.nextId, sender := .trunk p, op := op, hdr := h, payload := payload, ext := 0, born := s.clk,
                       place := .home, path := none, dest := h.dst.toNat }
      let s1 := { s0 with tr := { s0.tr with nextId := s0.tr.nextId + 1 } }
      match s1.extAt h.herd.toNat h.addr.toNat with
      | none => s1.answer r eAccess 0 []
      | some e =>
        if !s1.servedHere e h.dst.toNat then s1.answer r eAccess 0 []
        else if formatOk op h payload then s1.homeArrive { r with ext := e } else s1.answer r eFormat 0 []
    | none =>
      if h.dst.toNat = s.rd od1100_COMPANION_EP 0 ∧ h.dst.toNat ≠ 0xFFFF then s0.send (.jiythReq (.req op h payload))
      else s.passOn p (.req op h payload)

/-- A whole request frame arrives: on a port, or from the companion. Nothing arrives on a port that is not up, or over
a Jiyth link that is down. -/
def State.request (s : State) (row : ReqOp) (f : ReqFrame) : State :=
  let op := match f.other with | none => row | some k => .other k.toNat
  match f.via with
  | .companion => if s.rd od1120_JY_STATE 0 = 2 ∧ !s.halted then s.ingress .companion op f.hdr f.payload else s
  | .port p env =>
    if !s.portUp p.val then s
    else
      let (s0, ok) := s.linkReceive p env (.req op f.hdr f.payload)
      if !ok then s0.tally 0 (4 * p.val + 2) 1
      else
        let role := s0.rd od2810_ROLE p.val
        let (herd, src) := s0.stamp (.port p)
        let edge := if role = 2 ∨ role = 3 then f.hdr else { f.hdr with herd := BitVec.ofNat 12 herd, src := BitVec.ofNat 16 src }
        let s1 := s0.traceFrame p.val 0 (.req op edge f.payload)
        if role = 3 then
          (s1.creditBack p f.hdr.cls.toNat (cellsOf (reqBytes f.payload))).emit (portQuad p.val) evTrayRequest 0 1 p.val 0 [opcodeOf op]
        else if role = 2 then (s1.tally f.hdr.herd.toNat (4 * p.val) 1).transit p op f.hdr f.payload
        else (s1.tally (s1.rd od2810_HERD p.val) (4 * p.val) 1).ingress (.port p) op f.hdr f.payload

end Sys2Proof.Machine
end

