-- ==== Sys2Proof/Machine/Deliver.lean ====
section
/-! DEFINITION. Responses and timeouts: how an answer reaches the sender of its request (R80, R81, R87–R92). -/

namespace Sys2Proof.Machine

/-! ## Load feedback (R88, R89, R315) -/

/-- Cells queued in a transmit queue. -/
def State.queueCells (s : State) (q : Nat) : Nat :=
  (s.sw.tx.filter (fun f => f.queue == q)).foldl (fun a f => a + f.cells) 0

/-- Depth of the transmit queue that a request of this herd and class toward a home takes. -/
def State.towardHome (s : State) (cls herd src dst : Nat) : Nat :=
  match s.pathTo dst with
  | none => 0
  | some p => s.queueCells (s.classify (.req .load (hdrFor cls herd src dst 0 0) []) none p).1

/-- LF of a response at an A9 on its path: the larger of its own and the one it carries. -/
def State.newLf (s : State) (h : RespHdr) : RespHdr :=
  let own := s.feedback (s.towardHome h.cls.toNat h.herd.toNat h.dst.toNat h.src.toNat)
  { h with lf := BitVec.ofNat 4 (max h.lf.toNat own) }

/-- The window of an internal sender after a response (R89). -/
def State.setWindow (s : State) (src dst lf : Nat) : State :=
  let w := s.rd od2408_INTERNAL_CAP 0
  { s with tr := { s.tr with window := sparseSet 0 s.tr.window (src * 65536 + dst) (max 1 (ceilDiv (w * (16 - lf)) 16)) } }

/-! ## What an answer does at its sender -/

/-- Add to one of the command-scope counts of a command (Table 18.3). -/
def State.scopeAdd (s : State) (cid ev k : Nat) : State :=
  match s.cmd cid with
  | some c => s.setCmd { c with scope := c.scope.set ev (c.scope.getD ev 0 + k) }
  | none => s

/-- Words that an instruction cache holds: 64 KiB (Table 6.1). -/
def icacheWords : Nat := 8192

/-- A fill of a tine's instruction cache ends: its word takes the place of the oldest, and its thread is ready; or the thread
ends with the fill's CODE (R176). -/
def State.fillAnswer (s : State) (t h tag code : Nat) (data : List Byte) : State :=
  let x := s.thread t h
  if !(x.live && x.wait == .fill tag) then s
  else if code ≠ 0 then s.endThread t h code
  else
    let u := s.tine t
    let c := u.icache.filter (fun y => y.1 != x.pc) ++ [(x.pc, leNat (data.take 8))]
    let idle := !u.threads.any (fun kv => kv.2.live && kv.2.wait == .ready)
    (s.setTine t { u with icache := c.drop (c.length - icacheWords), issued := if idle then s.clk else u.issued }).setThread t h
      { x with wait := .ready }

/-- A remote operation of a tine ends: its entry is free, its data is in SRAM, and its thread knows the code (R160–R162). -/
def State.tineAnswer (s : State) (t h tag code : Nat) (data : List Byte) : State :=
  let u := s.tine t
  match u.sb.find? (fun e => e.tag == tag && e.thread == h) with
  | none => s.fillAnswer t h tag code data
  | some e =>
    let x := s.thread t h
    let s1 := s.setTine t { u with sb := u.sb.erase e }
    let s2 := s1.writeSram t e.sram (match respKind e.op with | .data => data | _ => [])
    let s3 := if code ≠ 0 ∧ x.err = 0 then s2.setThread t h { x with err := code } else s2
    let s4 := if code ≠ 0 then s3.scopeAdd x.cid 4 1 else s3
    (s4.wakeTine t).tineCounts t

/-- An access of a unit for a command is answered. -/
def State.unitAnswer (s : State) (cid addr code : Nat) (store : Bool) (data : List Byte) : State :=
  match s.cmd cid with
  | none => s
  | some c =>
    let w := c.work
    let io := w.io.map (fun i => if i.addr = addr ∧ i.store = store ∧ i.code = none then { i with code := some code, data := data } else i)
    s.setCmd { c with work := { w with io := io } }

/-- The quadrant and input endpoint from which the response to a request of a port starts (Table 11.1): the home's, those of
the port by which another A9 answered, the management core's, the reduce unit's, or the ingress port's own. -/
def State.respFrom (s : State) (r : Req) (p : PortId) : Nat × Nat :=
  match r.op with
  | .mgmtRead | .mgmtWrite => (portQuad p.val, 31)
  | .coll _ h => if r.dest = s.reduceEp h.ctx.toNat then (h.ctx.toNat / 4096, s.unitFor (h.ctx.toNat / 4096) h.chunk.toNat)
    else (portQuad (r.path.getD p).val, portEnd (r.path.getD p).val)
  | _ => match s.homeSlice r.dest with
    | some q => (q, 28)
    | none => (portQuad (r.path.getD p).val, portEnd (r.path.getD p).val)

/-- A request whose response is lost waits on for its load timeout (R284). -/
def State.reopen (s : State) (r : Option Req) : State :=
  match r with
  | some x => { s with tr := { s.tr with outstanding := s.tr.outstanding ++ [{ x with place := .answered }] } }
  | none => s

/-- The companion or a port receives a response. -/
def State.respOut (s : State) (r : Req) (p : PortId) (m : RespMsg) : State :=
  let (q, e) := s.respFrom r p
  let s1 := s.sendResp q e p (.resp m.op m.hdr m.payload)
  let mark := fun (f : SwFrame) => if s.sw.nextId ≤ f.id then { f with answers := some r } else f
  match r.sender with
  | .port _ => if s1.sw.nextId = s.sw.nextId then s1.reopen (some r) else { s1 with sw := { s1.sw with voq := s1.sw.voq.map mark } }
  | _ => s1

/-- A collective frame that this A9 sent is answered: `none` is the load timeout. -/
def State.collAnswer (s : State) (r : Req) (code : Option Nat) : State :=
  match r.sender, r.op with
  | .coll c, .coll .part h =>
    if code = some eOk then
      let n := h.step.toNat
      let x := s.stepOf c n
      if h.chunk = 0xFFFFFF then s.tryClose c
      else match x.chunkOf h.chunk.toNat with
        | some k => if k.phase = .sent then (s.chunkDone c n h.chunk.toNat).tryClose c else s
        | none => s
    else if code = some eSealed ∧ s.ctxRunning c ∧ h.step.toNat = s.openStep c then s.sealedStep c
    else s
  | .coll c, .coll .result h =>
    let s1 := if code.isNone then s.resultLost c h.step.toNat r.dest else s
    s1.tryClose c
  | _, _ => s

/-- Give an answer to the sender of one request. -/
def State.giveOne (s : State) (r : Req) (m : RespMsg) : State :=
  let s1 := (s.freeCells r).dropReq r.id
  let code := m.hdr.code.toNat
  match r.sender with
    | .port p => s1.respOut r p m
    | .trunk p => s1.respOut r p m
    | .companion => s1.send (.jiyth m)
    | .tine t h => (s1.setWindow r.hdr.src.toNat r.dest m.hdr.lf.toNat).tineAnswer t.val h.val r.hdr.tag.toNat code m.payload
    | .unit _ cid addr => (s1.setWindow r.hdr.src.toNat r.dest m.hdr.lf.toNat).unitAnswer cid addr code (writes r.op) m.payload
    | .coll _ => (s1.setWindow r.hdr.src.toNat r.dest m.hdr.lf.toNat).collAnswer r (some code)
    | .home _ =>
      match s1.coh.rounds.find? (fun (x : PubRound) => x.left.any (fun (l : Nat × Nat) => l.2 == r.id)) with
      | some x => (match x.left.find? (fun (l : Nat × Nat) => l.2 == r.id) with
        | some l => s1.readerDone x.ext l.1
        | none => s1)
      | none => s1

/-- The KICKs that went with another one (R77). -/
def State.mergedInto (s : State) (id : Nat) : List Req := s.tr.outstanding.filter (fun x => x.place == .merged id)

/-- Give an answer to the sender of a request, and to the KICKs that went with it, and let what waits behind the request go
on. -/
def State.giveAnswer (s : State) (r : Req) (m : RespMsg) : State :=
  let s2 := (s.mergedInto r.id).foldl (fun s k => s.giveOne k { m with sender := k.sender, hdr := { m.hdr with tag := k.hdr.tag, psn := k.hdr.psn } })
    (s.giveOne r m)
  (s2.advance r.hdr.src).retryContribs.release.endHolds

/-! ## Matching (R81) -/

/-- The outstanding request that a response answers. -/
def State.requestOf (s : State) (h : RespHdr) (port : Option PortId) : Option Req :=
  let fits := fun (r : Req) => r.hdr.tag == h.tag && r.hdr.psn == h.psn && r.hdr.src == h.dst
  match s.tr.outstanding.find? (fun r => fits r && r.dest == h.src.toNat) with
  | some r => some r
  | none => s.tr.outstanding.find? (fun r => fits r && r.dest == 0xFFFF && (r.path == port || port.isNone))

/-- A late response is dropped and counted (R81). -/
def State.late (s : State) (herd : Nat) : State := s.tally herd 0x7C0 1

/-- A response of a home of this A9 comes to its requester, or leaves on the trunk that the request came by. -/
def State.deliverHome (s : State) (i : Nat) (op : RespOp) : State :=
  match s.tr.resps[i]? with
  | none => s
  | some m =>
    if m.op ≠ op then s
    else
      let s1 := { s with tr := { s.tr with resps := s.tr.resps.eraseIdx i } }
      match m.sender with
      | .trunk p =>
        match s1.pathTo m.hdr.dst.toNat with
        | none => s1.bump od2300_FRAMES_LOST 0 64 1
        | some x =>
          if hx : x < 256 then
            if s1.trunkBarred x m.hdr.herd.toNat false then s1.bump od2300_FRAMES_LOST 0 64 1
            else s1.sendResp (portQuad p.val) (portEnd p.val) ⟨x, hx⟩ (.resp m.op m.hdr m.payload)
          else s1
      | _ =>
        match s1.tr.outstanding.find? (fun r => r.sender == m.sender && r.hdr.tag == m.hdr.tag &&
            r.hdr.psn == m.hdr.psn) with
        | some r => s1.giveAnswer r { m with hdr := s1.newLf m.hdr }
        | none => s1.late m.hdr.herd.toNat

/-- A response arrives on a port: for a request of this A9, or on its way to another one. -/
def State.deliverPort (s : State) (p : PortId) (op : RespOp) (h0 : RespHdr) (payload : List Byte) : State :=
  let h := s.newLf h0
  let b := FrameBody.resp op h payload
  let n := cellsOf (bodyBytes b)
  match s.requestOf h (some p) with
  | some r => (s.creditBack p h.cls.toNat n).giveAnswer r { sender := r.sender, op := op, hdr := h, payload := payload }
  | none =>
    if (s.boundPort h.dst.toNat).isSome ∨ s.isHere h.dst.toNat ∨ s.internalEp h.dst.toNat then
      (s.creditBack p h.cls.toNat n).late h.herd.toNat
    else s.passOn p b

/-- A response comes in (R81). -/
def State.response (s : State) (op : RespOp) (src : RespSource) : State :=
  match src with
  | .home i => s.deliverHome i op
  | .port p env h payload =>
    if !s.portUp p.val then s
    else
      let (s1, ok) := s.linkReceive p env (.resp op h payload)
      if !ok then s1.tally 0 (4 * p.val + 2) 1
      else ((s1.tally h.herd.toNat (4 * p.val) 1).traceFrame p.val 0 (.resp op h payload)).deliverPort p op h payload

/-! ## The load timeout (R91, R92) -/

/-- The home of a request is failed, or no path to it remains. -/
def State.homeLost (s : State) (r : Req) : Bool :=
  match s.homeSlice r.dest with
  | some q => s.sliceLost q || s.homeGone r
  | none => if r.dest = 0xFFFF then (match r.path with | some p => !s.portUp p.val | none => false) else (s.pathTo r.dest).isNone

/-- The event of R91: the first E_TARGET_LOST to a home, then at most one per millisecond, with a count. -/
def State.lostEvent (s : State) (r : Req) : State :=
  let x := sparseGet (0, 0) s.tr.lost r.dest
  let put := fun (s : State) (v : Nat × Nat) => { s with tr := { s.tr with lost := sparseSet (0, 0) s.tr.lost r.dest v } }
  let u := s.senderUnit r.sender
  if x.1 = 0 ∨ s.past (x.1 - 1) 1000000 then
    let s1 := (put s (s.clk + 1, 0)).record
      { time := s.ft (s.senderQuad r.sender), quality := s.qual (s.senderQuad r.sender), cls := 2, herd := r.hdr.herd.toNat,
        kind := u.1, unit := u.2 % 4096, event := evTargetLost, code := eTargetLost, quad := s.senderQuad r.sender, seq := 0,
        count := x.2 + 1, details := [r.dest] }
    s1.raise (s.senderQuad r.sender) 2 evTargetLost u.1 u.2
  else put s (x.1, x.2 + 1)

/-- Complete a request by timeout. -/
def State.timeOut (s : State) (r : Req) : State :=
  let lost := s.homeLost r
  let code := if lost then eTargetLost else eTimeout
  let s1 := if lost then s.lostEvent r else s
  let s2 := { s1 with
                      co := { s1.co with waiting := s1.co.waiting.filter (· != r.id) } }
  let s3 := match r.sender with
    | .tine t h => s2.scopeAdd (s2.thread t.val h.val).cid 8 1
    | .unit _ cid _ =>
      let s3 := s2.scopeAdd cid 8 1
      match r.op with
      | .coll .result h => s3.deafEvent h.ctx.toNat h.step.toNat r.dest
      | _ => s3
    | _ => s2
  match r.sender with
  | .coll _ => ((((s3.freeCells r).dropReq r.id).collAnswer r none).advance r.hdr.src).endHolds
  | _ =>
    let m := mkResp r code 0 0 []
    s3.giveAnswer r { m with hdr := s3.newLf { m.hdr with src := BitVec.ofNat 16 r.dest } }

/-- The load timeout of a request expires, once it has run its time from the extent check (R91); a real response from a home
here that is on its way comes before it (R92). -/
def State.loadTimeout (s : State) (id : Nat) : State :=
  match s.tr.outstanding.find? (fun r => r.id == id) with
  | none => s
  | some r =>
    match r.sender with
    | .trunk _ => s
    | _ =>
      if s.past r.born (s.rd od2200_LOAD_TIMEOUT 0 * 1000) then
        match s.tr.resps.findIdx? (fun m => m.sender == r.sender && m.hdr.tag == r.hdr.tag && m.hdr.psn == r.hdr.psn) with
        | some i => s.deliverHome i (respKind r.op)
        | none => s.timeOut r
      else s

end Sys2Proof.Machine
end

