-- ==== Sys2Proof/Machine/TineExec.lean ====
section
/-! DEFINITION. Instructions of the tines (R156–R164, R176–R179): one thread issues one instruction, whose operand fields
the command carries as the fetch delivered them. -/

namespace Sys2Proof.Machine

/-! ## Issue -/

/-- The thread after an instruction that goes on to the next word. -/
def Thread.next (x : Thread) : Thread := { x with pc := (x.pc + 8) % 2 ^ 64 }

/-- The thread after a branch to pc + 8 × sext(IMM) (R177). -/
def Thread.branch (x : Thread) (imm : Word) : Thread := { x with pc := (x.pc + 8 * sext32 imm.toNat) % 2 ^ 64 }

/-- A tine can issue: its quadrant runs, no flush is under way (R472), and the tine has not failed and is not gated or off. -/
def State.tineRuns (s : State) (t : Nat) : Bool :=
  !s.halted && !s.flushMode && s.rd od4C00_STATE 0 != 2 && decide (s.rd od3400_STATE t ≤ 2) && !s.flt.quadsLost.contains (t / 64)

/-- The word of an instruction (Table 6.9). -/
def wordOf (op : Nat) (w : TineWord) : Nat :=
  op * 2 ^ 56 + w.fmt.toNat * 2 ^ 52 + w.rd.toNat * 2 ^ 47 + w.ra.toNat * 2 ^ 42 + w.rb.toNat * 2 ^ 37 + w.rc.toNat * 2 ^ 32 + w.imm.toNat

/-- The opcodes of Table 6.6; any other is reserved (R177). -/
def opKnown (op : Nat) : Bool :=
  decide (op ≤ 0x0D) || (decide (0x10 ≤ op) && decide (op ≤ 0x15)) || op == 0x18 || op == 0x19 ||
  (decide (0x1C ≤ op) && decide (op ≤ 0x29)) || (decide (0x30 ≤ op) && decide (op ≤ 0x38)) || op == 0x40 || op == 0x41

/-- The tine cycles from the issue of an instruction to the earliest next one of its thread (Table 6.6). -/
def latency (op : Nat) : Nat :=
  if op = 0x03 then 3 else if (0x10 ≤ op ∧ op ≤ 0x15) ∨ op = 0x1F then 2 else if op = 0x18 then 4 else 1

/-- A ready thread that its last instruction holds back no more, whatever the time: since then the tine has issued as many
instructions, one to a cycle, as that one has cycles. -/
def Tine.due (u : Tine) (x : Thread) : Bool := x.live && x.wait == .ready && decide (x.due ≤ u.count)

/-- It is the turn of thread h: in thread-number order from the one that issued last, none before it is due (R157). -/
def State.threadTurn (s : State) (t h : Nat) : Bool :=
  let u := s.tine t
  nextInTurn (h :: ((u.threads.filter (fun kv => u.due kv.2)).map (·.1))) u.turn == some h

/-- The word at an address in a tine's instruction cache. -/
def State.icached (s : State) (t pc : Nat) : Option Nat := ((s.tine t).icache.find? (fun x => x.1 == pc)).map (·.2)

/-- The first free TAG of a tine, from its next one. -/
def Tine.freeTag (u : Tine) : Nat :=
  (((List.range 2200).map (fun i => (u.nextTag + i) % 65536)).find? (fun k =>
    !u.sb.any (fun e => e.tag == k) && !u.threads.any (fun kv => kv.2.wait == .fill k))).getD u.nextTag

/-- Ask for the instruction at a thread's pc, stamped and checked as a remote load; the thread waits for the fill (R157, R176). -/
def State.fetch (s : State) (t : TineId) (h : ThreadId) (x : Thread) (c : Cmd) : State :=
  let u := s.tine t.val
  let tag := u.freeTag
  let s1 := (s.setTine t.val { u with nextTag := (tag + 1) % 65536 }).setThread t.val h.val { x with wait := .fill tag }
  let hdr := { hdrFor (bitsOf (c.desc.getD 0 0) 34 32) c.herd (s.rd od1100_TINE_BASE 0 + t.val) 0 tag 0 with
    len := 0, res2 := BitVec.ofNat 7 (x.pc / 2 ^ 57), addr := BitVec.ofNat 57 x.pc }
  s1.enter { id := s1.tr.nextId, sender := .tine t h, op := .load, hdr := hdr, payload := [], ext := 0, born := s1.clk,
             place := .rate, path := none, dest := 0xFFFF }

/-- The issue of an instruction is noted and counted, and its thread as it stands then. -/
def State.noteIssue (s : State) (t h herd op : Nat) : State × Thread :=
  let u := s.tine t
  let x := s.thread t h
  let s1 := (s.setTine t { u with issued := s.clk, count := u.count + 1, turn := h }).tally herd (0x400 + 2 * t) 1
  ((s1.scopeAdd x.cid 0 1).scopeAdd x.cid 1 1, { x with due := u.count + latency op })

/-- A ready thread whose turn it is issues the instruction at its pc, `k` being its effect on the thread as it stood: a word
that the instruction cache lacks is asked for first, one with a reserved opcode ends the thread (R173), and where the word is
another instruction than this one nothing happens. -/
def State.issueIf (s : State) (t : TineId) (h : ThreadId) (op : Nat) (w : TineWord) (ok : Bool) (k : State → Thread → State) : State :=
  let x := s.thread t.val h.val
  if !(x.live && x.wait == .ready && s.tineRuns t.val && s.threadTurn t.val h.val) then s
  else
    match s.cmd x.cid, s.icached t.val x.pc with
    | none, _ => s
    | some c, none => s.fetch t h x c
    | some c, some v =>
      let (s1, x1) := s.noteIssue t.val h.val c.herd op
      if !opKnown (v / 2 ^ 56) then s1.endThread t.val h.val eFormat
      else if v = wordOf op w && ok then k s1 x1
      else s

/-- The same for an instruction that any fields suit. -/
def State.issue (s : State) (t : TineId) (h : ThreadId) (op : Nat) (w : TineWord) (k : State → Thread → State) : State :=
  s.issueIf t h op w true k

/-- [RD] := v, and on to the next word. -/
def State.setRd (s : State) (t : TineId) (h : ThreadId) (w : TineWord) (x : Thread) (v : Nat) : State :=
  s.setThread t.val h.val (x.setReg w.rd.toNat v).next

def Thread.ra (x : Thread) (w : TineWord) : Nat := x.reg w.ra.toNat
def Thread.rb (x : Thread) (w : TineWord) : Nat := x.reg w.rb.toNat
def Thread.rc (x : Thread) (w : TineWord) : Nat := x.reg w.rc.toNat
def Thread.rdVal (x : Thread) (w : TineWord) : Nat := x.reg w.rd.toNat

/-- An instruction that writes [RD] with a value computed from the registers. -/
def State.alu (s : State) (t : TineId) (h : ThreadId) (op : Nat) (w : TineWord) (f : Thread → Nat) : State :=
  s.issue t h op w (fun s x => s.setRd t h w x (f x))

/-- A branch taken where `f` holds. -/
def State.branchIf (s : State) (t : TineId) (h : ThreadId) (op : Nat) (w : TineWord) (f : Thread → Bool) : State :=
  s.issue t h op w (fun s x => s.setThread t.val h.val (if f x then x.branch w.imm else x.next))

/-- The SRAM address [RA] + sext(IMM). -/
def sramAddr (x : Thread) (w : TineWord) : Nat := (x.ra w + sext32 w.imm.toNat) % 2 ^ 64

/-! ## Scalar instructions (Table 6.6) -/

def execTNop (t : TineId) (h : ThreadId) (w : TineWord) (s : State) : Host.Outcome State Fault Refusal :=
  .next (s.issue t h 0x00 w (fun s x => s.setThread t.val h.val x.next))

def execTAdd (t : TineId) (h : ThreadId) (w : TineWord) (s : State) : Host.Outcome State Fault Refusal :=
  .next (s.alu t h 0x01 w (fun x => (x.ra w + x.rb w) % 2 ^ 64))

def execTSub (t : TineId) (h : ThreadId) (w : TineWord) (s : State) : Host.Outcome State Fault Refusal :=
  .next (s.alu t h 0x02 w (fun x => (x.ra w + (2 ^ 64 - x.rb w % 2 ^ 64)) % 2 ^ 64))

def execTMul (t : TineId) (h : ThreadId) (w : TineWord) (s : State) : Host.Outcome State Fault Refusal :=
  .next (s.alu t h 0x03 w (fun x => x.ra w * x.rb w % 2 ^ 64))

def execTAnd (t : TineId) (h : ThreadId) (w : TineWord) (s : State) : Host.Outcome State Fault Refusal :=
  .next (s.alu t h 0x04 w (fun x => x.ra w &&& x.rb w))

def execTOr (t : TineId) (h : ThreadId) (w : TineWord) (s : State) : Host.Outcome State Fault Refusal :=
  .next (s.alu t h 0x05 w (fun x => x.ra w ||| x.rb w))

def execTXor (t : TineId) (h : ThreadId) (w : TineWord) (s : State) : Host.Outcome State Fault Refusal :=
  .next (s.alu t h 0x06 w (fun x => x.ra w ^^^ x.rb w))

def execTShl (t : TineId) (h : ThreadId) (w : TineWord) (s : State) : Host.Outcome State Fault Refusal :=
  .next (s.alu t h 0x07 w (fun x => x.ra w * 2 ^ (x.rb w % 64) % 2 ^ 64))

def execTShr (t : TineId) (h : ThreadId) (w : TineWord) (s : State) : Host.Outcome State Fault Refusal :=
  .next (s.alu t h 0x08 w (fun x => x.ra w / 2 ^ (x.rb w % 64)))

def execTSra (t : TineId) (h : ThreadId) (w : TineWord) (s : State) : Host.Outcome State Fault Refusal :=
  .next (s.alu t h 0x09 w (fun x => unsigned 64 (signed 64 (x.ra w) / (2 ^ (x.rb w % 64) : Nat))))

def execTSlt (t : TineId) (h : ThreadId) (w : TineWord) (s : State) : Host.Outcome State Fault Refusal :=
  .next (s.alu t h 0x0A w (fun x => if signed 64 (x.ra w) < signed 64 (x.rb w) then 1 else 0))

def execTSltu (t : TineId) (h : ThreadId) (w : TineWord) (s : State) : Host.Outcome State Fault Refusal :=
  .next (s.alu t h 0x0B w (fun x => if x.ra w < x.rb w then 1 else 0))

def execTAddi (t : TineId) (h : ThreadId) (w : TineWord) (s : State) : Host.Outcome State Fault Refusal :=
  .next (s.alu t h 0x0C w (fun x => (x.ra w + sext32 w.imm.toNat) % 2 ^ 64))

def execTLih (t : TineId) (h : ThreadId) (w : TineWord) (s : State) : Host.Outcome State Fault Refusal :=
  .next (s.alu t h 0x0D w (fun x => w.imm.toNat * 2 ^ 32 + x.rdVal w % 2 ^ 32))

def execTBeq (t : TineId) (h : ThreadId) (w : TineWord) (s : State) : Host.Outcome State Fault Refusal :=
  .next (s.branchIf t h 0x10 w (fun x => x.ra w == x.rb w))

def execTBne (t : TineId) (h : ThreadId) (w : TineWord) (s : State) : Host.Outcome State Fault Refusal :=
  .next (s.branchIf t h 0x11 w (fun x => x.ra w != x.rb w))

def execTBlt (t : TineId) (h : ThreadId) (w : TineWord) (s : State) : Host.Outcome State Fault Refusal :=
  .next (s.branchIf t h 0x12 w (fun x => decide (signed 64 (x.ra w) < signed 64 (x.rb w))))

def execTBge (t : TineId) (h : ThreadId) (w : TineWord) (s : State) : Host.Outcome State Fault Refusal :=
  .next (s.branchIf t h 0x13 w (fun x => decide (signed 64 (x.rb w) ≤ signed 64 (x.ra w))))

def execTJal (t : TineId) (h : ThreadId) (w : TineWord) (s : State) : Host.Outcome State Fault Refusal :=
  .next (s.issue t h 0x14 w (fun s x => s.setThread t.val h.val ((x.setReg w.rd.toNat (x.pc + 8)).branch w.imm)))

def execTJr (t : TineId) (h : ThreadId) (w : TineWord) (s : State) : Host.Outcome State Fault Refusal :=
  .next (s.issue t h 0x15 w (fun s x => s.setThread t.val h.val { x with pc := x.ra w }))

def execTLds (t : TineId) (h : ThreadId) (w : TineWord) (s : State) : Host.Outcome State Fault Refusal :=
  .next (s.issue t h 0x18 w (fun s x =>
    if s.inWindow x.cid t.val (sramAddr x w) 8 then s.setRd t h w x (leNat (s.readSram t.val (sramAddr x w) 8))
    else s.endThread t.val h.val eAccess))

def execTSts (t : TineId) (h : ThreadId) (w : TineWord) (s : State) : Host.Outcome State Fault Refusal :=
  .next (s.issue t h 0x19 w (fun s x =>
    if s.inWindow x.cid t.val (sramAddr x w) 8 then
      (s.writeSram t.val (sramAddr x w) (toLe 8 (x.rb w))).setThread t.val h.val x.next
    else s.endThread t.val h.val eAccess))

def execTWait (t : TineId) (h : ThreadId) (w : TineWord) (s : State) : Host.Outcome State Fault Refusal :=
  .next (s.issue t h 0x1C w (fun s x =>
    (s.setThread t.val h.val { x.next with wait := .entries (w.imm.toNat % 2048) }).wakeTine t.val))

def execTBar (t : TineId) (h : ThreadId) (w : TineWord) (s : State) : Host.Outcome State Fault Refusal :=
  .next (s.issue t h 0x1D w (fun s x => (s.setThread t.val h.val { x.next with wait := .bar }).wakeTine t.val))

def execTExit (t : TineId) (h : ThreadId) (w : TineWord) (s : State) : Host.Outcome State Fault Refusal :=
  .next (s.issue t h 0x1E w (fun s x => s.endThread t.val h.val (x.ra w % 256)))

/-- SYS with IMM `n`. An IMM that R177 does not list gives a free value: the row of any listed one stands for it. -/
def State.sys (s : State) (t : TineId) (h : ThreadId) (w : TineWord) (n : Nat) (k : State → Thread → State) : State :=
  s.issueIf t h 0x1F w (w.imm.toNat == n || decide (4 < w.imm.toNat)) (fun s x =>
    if w.imm.toNat = n then k s x else s.fresh.setRd t h w x (Config.sysOther s.freeN))

def execTSysFabricTime (t : TineId) (h : ThreadId) (w : TineWord) (s : State) : Host.Outcome State Fault Refusal :=
  .next (s.sys t h w 0 (fun s x => s.setRd t h w x (s.ft (t.val / 64))))

def execTSysQuality (t : TineId) (h : ThreadId) (w : TineWord) (s : State) : Host.Outcome State Fault Refusal :=
  .next (s.sys t h w 1 (fun s x => s.setRd t h w x (s.qual (t.val / 64))))

def execTSysTineNumber (t : TineId) (h : ThreadId) (w : TineWord) (s : State) : Host.Outcome State Fault Refusal :=
  .next (s.sys t h w 2 (fun s x => s.setRd t h w x t.val))

def execTSysErr (t : TineId) (h : ThreadId) (w : TineWord) (s : State) : Host.Outcome State Fault Refusal :=
  .next (s.sys t h w 3 (fun s x => s.setRd t h w { x with err := 0 } x.err))

def execTSysCycleCount (t : TineId) (h : ThreadId) (w : TineWord) (s : State) : Host.Outcome State Fault Refusal :=
  .next (s.sys t h w 4 (fun s x => s.setRd t h w x (quadGet s.cpu.cycles (t.val / 64) / 16 % 2 ^ 64)))

/-! ## Remote operations (R159–R163) -/

/-- What a remote operation asks for: the request, the fields of its header, its payload, and where in SRAM its answer
goes, with the bytes. -/
structure RemoteOp where
  op      : ReqOp
  addr    : Nat
  len     : Nat
  attr    : Nat
  val     : Nat
  aux     : Nat
  payload : List Byte
  sram    : Nat

/-- The header of a remote operation (R28, R159). -/
def State.remoteHdr (s : State) (t : Nat) (c : Cmd) (w : TineWord) (tag : Nat) (o : RemoteOp) : ReqHdr :=
  { hdrFor (bitsOf (c.desc.getD 0 0) 34 32) c.herd (s.rd od1100_TINE_BASE 0 + t) 0 tag 0 with
    rlx := bitAt w.imm.toNat 28, len := BitVec.ofNat 8 (o.len / 8 - 1), attr := BitVec.ofNat 8 o.attr,
    val := BitVec.ofNat 32 o.val, res2 := BitVec.ofNat 7 (o.addr / 2 ^ 57), addr := BitVec.ofNat 57 o.addr,
    aux := BitVec.ofNat 64 o.aux }

/-- The home that an address of a herd leads to. -/
def State.homeOf (s : State) (herd addr : Nat) : Nat := ((s.extAt herd addr).map (fun e => s.rd od2820_HOME e)).getD 0xFFFF

/-- No limit of R160 bars one more remote operation of a thread. -/
def State.sbRoom (s : State) (t h : Nat) (c : Cmd) (addr : Nat) : Bool :=
  let src := s.rd od1100_TINE_BASE 0 + t
  let dst := s.homeOf c.herd addr
  let out := (s.tr.outstanding.filter (fun r => r.hdr.src.toNat == src && r.dest == dst)).length
  decide (s.sbCount t h < 64) && decide ((s.tine t).sb.length < 2048) && decide (out < s.windowOf src dst)

/-- Issue a remote operation (R159, R160), or have the thread wait for an entry. -/
def State.remote (s : State) (t : TineId) (h : ThreadId) (w : TineWord) (x : Thread) (o : RemoteOp) : State :=
  match s.cmd x.cid with
  | none => s
  | some c =>
    if !s.sbRoom t.val h.val c o.addr then
      (s.setThread t.val h.val { x with wait := .scoreboard }).scopeAdd x.cid 5 1
    else
      let u := s.tine t.val
      let tag := u.freeTag
      let q := t.val / 64
      let e : SbEntry := { thread := h.val, op := o.op, herd := c.herd, dst := s.homeOf c.herd o.addr, addr := o.addr, tag := tag,
                           psn := sparseGet 0 s.tr.psn ((s.rd od1100_TINE_BASE 0 + t.val) % 65536 * 65536 + s.homeOf c.herd o.addr),
                           time := s.ft q, quality := s.qual q, sram := o.sram }
      let s1 := (s.setTine t.val { u with sb := u.sb ++ [e], nextTag := (tag + 1) % 65536 }).setThread t.val h.val x.next
      let s2 := ((s1.tineCounts t.val).tally c.herd (0x400 + 2 * t.val + 1) 1).scopeAdd x.cid 2 1
      let r : Req := { id := s2.tr.nextId, sender := .tine t h, op := o.op, hdr := s2.remoteHdr t.val c w tag o,
                       payload := o.payload, ext := 0, born := s2.clk, place := .rate, path := none, dest := 0xFFFF }
      (s2.scopeAdd x.cid 3 o.payload.length).enter r

/-- A remote operation that reads `n` bytes of SRAM at `a` and writes `m` at `b`, for a length that `ok` allows. -/
def State.remoteIf (s : State) (t : TineId) (h : ThreadId) (opc : Nat) (w : TineWord) (ok : Thread → Bool)
    (a n b m : Thread → Nat) (o : State → Thread → RemoteOp) : State :=
  s.issue t h opc w (fun s x =>
    if !ok x then s.endThread t.val h.val eFormat
    else if (n x = 0 ∨ s.inWindow x.cid t.val (a x) (n x)) ∧ (m x = 0 ∨ s.inWindow x.cid t.val (b x) (m x)) then
      s.remote t h w x (o s x)
    else s.endThread t.val h.val eAccess)

/-- A remote length is a multiple of 8 B from 8 to 2,048 (R177). -/
def remoteLen (n : Nat) : Bool := n % 8 == 0 && decide (8 ≤ n) && decide (n ≤ 2048)

def execTRld (t : TineId) (h : ThreadId) (w : TineWord) (s : State) : Host.Outcome State Fault Refusal :=
  (s.remoteIf t h 0x20 w (fun x => remoteLen (x.rc w)) (fun _ => 0) (fun _ => 0) (fun x => x.rb w) (fun x => x.rc w)
    (fun _ x => { op := .load, addr := x.ra w, len := x.rc w, attr := 0, val := 0, aux := 0, payload := [], sram := x.rb w })).done

def execTRst (t : TineId) (h : ThreadId) (w : TineWord) (s : State) : Host.Outcome State Fault Refusal :=
  (s.remoteIf t h 0x21 w (fun x => remoteLen (x.rc w)) (fun x => x.rb w) (fun x => x.rc w) (fun _ => 0) (fun _ => 0)
    (fun s x => { op := .store, addr := x.ra w, len := x.rc w, attr := 0, val := 0, aux := 0,
                  payload := s.readSram t.val (x.rb w) (x.rc w), sram := 0 })).done

def execTRpst (t : TineId) (h : ThreadId) (w : TineWord) (s : State) : Host.Outcome State Fault Refusal :=
  (s.remoteIf t h 0x22 w (fun _ => true) (fun x => x.rb w) (fun _ => 64) (fun _ => 0) (fun _ => 0)
    (fun s x => { op := .pstore, addr := x.ra w, len := 64, attr := 0, val := 0, aux := x.rc w,
                  payload := s.readSram t.val (x.rb w) 64, sram := 0 })).done

/-- The operation of Table 3.5 that IMM[7:4] names. -/
def aopNamed (n : Nat) : Option AtomicOp :=
  [AtomicOp.swap, .cas, .add, .and, .or, .xor, .smax, .smin, .umax, .umin, .fadd][n]?

/-- RATOM. An AOP or ASIZE that R75 reserves makes a request that completes with E_FORMAT. -/
def execTRatom (t : TineId) (h : ThreadId) (w : TineWord) (s : State) : Host.Outcome State Fault Refusal :=
  let aop := aopNamed (bitsOf w.imm.toNat 7 4)
  let size := bitsOf w.imm.toNat 3 2
  let n := (aop.bind (fun a => atomicPayload a size)).getD 0
  (s.remoteIf t h 0x23 w (fun _ => true) (fun x => x.rb w) (fun _ => n) (fun x => x.rc w) (fun _ => if size = 2 then 16 else 8)
    (fun s x => { op := .atomic (aop.getD .swap), addr := x.ra w, len := n, attr := bitsOf w.imm.toNat 7 4 * 16 + size * 4, val := 0, aux := 0,
                  payload := s.readSram t.val (x.rb w) n, sram := x.rc w })).done

def execTRpub (t : TineId) (h : ThreadId) (w : TineWord) (s : State) : Host.Outcome State Fault Refusal :=
  (s.remoteIf t h 0x24 w (fun _ => true) (fun _ => 0) (fun _ => 0) (fun _ => 0) (fun _ => 0)
    (fun _ x => { op := .publish, addr := x.ra w, len := 8, attr := 0, val := x.rc w % 2 ^ 32, aux := x.rb w, payload := [],
                  sram := 0 })).done

def execTRflush (t : TineId) (h : ThreadId) (w : TineWord) (s : State) : Host.Outcome State Fault Refusal :=
  (s.remoteIf t h 0x25 w (fun _ => true) (fun _ => 0) (fun _ => 0) (fun _ => 0) (fun _ => 0)
    (fun _ x => { op := .flush, addr := x.ra w, len := 8, attr := w.imm.toNat % 2 * 64, val := 0, aux := x.rb w, payload := [],
                  sram := 0 })).done

def execTRfence (t : TineId) (h : ThreadId) (w : TineWord) (s : State) : Host.Outcome State Fault Refusal :=
  (s.remoteIf t h 0x26 w (fun _ => true) (fun _ => 0) (fun _ => 0) (fun _ => 0) (fun _ => 0)
    (fun _ _ => { op := .fence, addr := 0, len := 8, attr := 0, val := 0, aux := 0, payload := [], sram := 0 })).done

def execTRkick (t : TineId) (h : ThreadId) (w : TineWord) (s : State) : Host.Outcome State Fault Refusal :=
  (s.remoteIf t h 0x27 w (fun _ => true) (fun _ => 0) (fun _ => 0) (fun _ => 0) (fun _ => 0)
    (fun _ x => { op := .kick, addr := x.ra w, len := 8, attr := 0, val := 0, aux := 0, payload := toLe 8 (x.rb w),
                  sram := 0 })).done

def execTRcompl (t : TineId) (h : ThreadId) (w : TineWord) (s : State) : Host.Outcome State Fault Refusal :=
  (s.remoteIf t h 0x28 w (fun _ => true) (fun x => x.rb w) (fun _ => 64) (fun _ => 0) (fun _ => 0)
    (fun s x => { op := .complete, addr := x.ra w, len := 64, attr := 0, val := 0, aux := 0,
                  payload := s.readSram t.val (x.rb w) 64, sram := 0 })).done

def execTRldc (t : TineId) (h : ThreadId) (w : TineWord) (s : State) : Host.Outcome State Fault Refusal :=
  (s.remoteIf t h 0x29 w (fun x => remoteLen (x.rc w)) (fun _ => 0) (fun _ => 0) (fun x => x.rb w) (fun x => x.rc w)
    (fun _ x => { op := .loadc, addr := x.ra w, len := x.rc w, attr := 0, val := 0, aux := 0, payload := [], sram := x.rb w })).done

/-! ## The vector unit (R158, R193–R200) -/

/-- The element count of a vector instruction and its format are ones that the unit takes (R177, R196). -/
def vectorOk (f n : Nat) : Bool :=
  decide (1 ≤ n) && decide (n ≤ 65536) && fmtKnown f && (!fmtBlock f || n % 32 == 0)

/-- A thread has given an instruction to the vector unit, which is busy for some tine cycles. -/
def State.toVector (s : State) (t : TineId) (h : ThreadId) (x : Thread) (busy : Nat) : State :=
  let s1 := s.setThread t.val h.val { x.next with wait := .vector }
  let u := s1.tine t.val
  (s1.setTine t.val { u with vec := u.vec ++ [h.val] }).scopeAdd x.cid 7 busy

/-- A vector instruction over one input array, or two, that writes binary32 values: `f` gives them from the inputs and
what stood at [RD]. -/
def State.vector (s : State) (t : TineId) (h : ThreadId) (op : Nat) (w : TineWord) (two : Bool) (busy : Nat → Nat) (out : Nat → Nat)
    (f : List Nat → List Nat → List Nat → List Nat) : State :=
  s.issue t h op w (fun s x =>
    let n := x.rc w
    let fmt := w.fmt.toNat
    if !vectorOk fmt n then s.endThread t.val h.val eFormat
    else
      let bytes := arrayBytes fmt n
      if !(s.inWindow x.cid t.val (x.ra w) bytes && (!two || s.inWindow x.cid t.val (x.rb w) bytes) &&
          s.inWindow x.cid t.val (x.rdVal w) (4 * out n)) then s.endThread t.val h.val eAccess
      else
        let a := arrayTo32 fmt n (s.readSram t.val (x.ra w) bytes)
        let b := if two then arrayTo32 fmt n (s.readSram t.val (x.rb w) bytes) else []
        let d := words32 (out n) (s.readSram t.val (x.rdVal w) (4 * out n))
        (s.writeSram t.val (x.rdVal w) (bytes32 (f a b d))).toVector t h x (busy n))

def busy8 (n : Nat) : Nat := 8 + ceilDiv n 128
def busy12 (n : Nat) : Nat := 12 + ceilDiv n 32

/-- Element by element over two inputs. -/
def zip2 (f : Nat → Nat → Nat) (a b _d : List Nat) : List Nat := (a.zip b).map (fun p => f p.1 p.2)

def execTVadd (t : TineId) (h : ThreadId) (w : TineWord) (s : State) : Host.Outcome State Fault Refusal :=
  .next (s.vector t h 0x30 w true busy8 id (zip2 add32))

def execTVmul (t : TineId) (h : ThreadId) (w : TineWord) (s : State) : Host.Outcome State Fault Refusal :=
  .next (s.vector t h 0x31 w true busy8 id (zip2 mul32))

def execTVfma (t : TineId) (h : ThreadId) (w : TineWord) (s : State) : Host.Outcome State Fault Refusal :=
  .next (s.vector t h 0x32 w true busy8 id (fun a b d => ((a.zip b).zip d).map (fun p => fma32 p.1.1 p.1.2 p.2)))

def execTVmax (t : TineId) (h : ThreadId) (w : TineWord) (s : State) : Host.Outcome State Fault Refusal :=
  .next (s.vector t h 0x33 w true busy8 id (zip2 max32))

def execTVmin (t : TineId) (h : ThreadId) (w : TineWord) (s : State) : Host.Outcome State Fault Refusal :=
  .next (s.vector t h 0x34 w true busy8 id (zip2 min32))

/-- 2 to the power m × 2^e for an integer power, or none. -/
def wholePower (m : Nat) (e : Int) : Option Nat :=
  if 0 ≤ e then some (m * 2 ^ e.toNat)
  else if m % 2 ^ (-e).toNat = 0 then some (m / 2 ^ (-e).toNat) else none

/-- Binary places of the fixed-point numbers of `exp2Frac`. -/
def fracBits : Nat := 96

/-- The fraction of a value that is no integer, above its floor, in units of 2^-96. -/
def fracOf (s : Bool) (m : Nat) (e : Int) : Nat :=
  let k := (-e).toNat
  let r := m % 2 ^ k
  (if s then 2 ^ k - r else r) * 2 ^ fracBits / 2 ^ k

/-- 2 to the power of a fraction below 1, in units of 2^-96: the product of the roots of 2 that its bits name, from the
first; `root` is 2^(2^-j). -/
def exp2Bits : Nat → Nat → Nat → Nat → Nat
  | 0, _, _, acc => acc
  | k + 1, frac, root, acc =>
    let r := isqrt (root * 2 ^ fracBits)
    exp2Bits k frac r (if bitAt frac k then acc * r / 2 ^ fracBits else acc)

def exp2Frac (frac : Nat) : Nat := exp2Bits fracBits frac (2 * 2 ^ fracBits) (2 ^ fracBits)

/-- The place of a binary32 pattern in the order of the numbers. -/
def place32 (x : Nat) : Nat := if bitAt x 31 then 2 ^ 31 - 1 - x % 2 ^ 31 else 2 ^ 31 + x

/-- The last of the four patterns from `v` on that the result reaches, or else `v`. -/
def atLeast (reached : Nat → Bool) (v : Nat) : Nat :=
  if reached (v + 3) then v + 3 else if reached (v + 2) then v + 2 else if reached (v + 1) then v + 1 else v

/-- VEXP2 (R199): the special cases, the exact results, and otherwise one of the four patterns within two units in the last
place, between the two powers of two around it, as a result that never falls where its input rises. -/
def exp2Of (x : Nat) : Nat :=
  match dec32 x with
  | .nan s p => enc32 (.nan s p)
  | .inf s => if s then 0 else 0x7F800000
  | .fin s m e =>
    let lo : Int := if 0 ≤ e then (if s then -(m * 2 ^ e.toNat : Nat) else (m * 2 ^ e.toNat : Nat))
      else (if s then -(m : Int) else m) / ((2 ^ (-e).toNat : Nat) : Int)
    if fpLt (.fin false 128 0) (.fin s m e) then 0x7F800000
    else if fpLt (.fin s m e) (.fin true 150 0) then 0
    else if (wholePower m e).isSome then enc32 (.fin false 1 lo)
    else
      let y := encodeDown f32 false (exp2Frac (fracOf s m e)) (lo - fracBits)
      max (enc32 (.fin false 1 lo)) (min (enc32 (.fin false 1 (lo + 1))) (atLeast (fun v => decide (Config.exp2From v ≤ place32 x)) (y - 1)))

/-- VRCP (R199): the special cases, exact reciprocals, and otherwise one of the two patterns around the quotient: those
within the bound of one unit in the last place, as a result whose magnitude never rises where its input's does. -/
def rcpOf (x : Nat) : Nat :=
  match dec32 x with
  | .nan s p => enc32 (.nan s p)
  | .inf s => enc32 (.fin s 0 0)
  | .fin s m e =>
    if m = 0 ∨ fpLt (Fp.fin false m e) (.fin false 1 (-128)) then enc32 (.inf s)
    else
      if m &&& (m - 1) = 0 then div32 one32 x
      else
        match fpDiv (dec32 one32) (dec32 x) with
        | .fin t n g =>
          let d := encodeDown f32 t n g
          if x % 2 ^ 31 ≤ Config.rcpFrom (d + 1) then d + 1 else d
        | w => enc32 w

def execTVexp2 (t : TineId) (h : ThreadId) (w : TineWord) (s : State) : Host.Outcome State Fault Refusal :=
  .next (s.vector t h 0x35 w false busy12 id (fun a _ _ => a.map exp2Of))

def execTVrcp (t : TineId) (h : ThreadId) (w : TineWord) (s : State) : Host.Outcome State Fault Refusal :=
  .next (s.vector t h 0x36 w false busy12 id (fun a _ _ => a.map rcpOf))

/-- One halving of the lanes (R200). -/
def foldPairs : List Nat → List Nat
  | a :: b :: rest => add32 a b :: foldPairs rest
  | l => l

/-- VSUM (R200): the lanes, then the tree; a NaN input gives the first one, quieted. -/
def vsum (xs : List Nat) : Nat :=
  match xs.find? (fun v => (dec32 v).isNan) with
  | some v => enc32 (dec32 v)
  | none =>
    let lane := fun (l : Nat) => (xs.zipIdx.filter (fun p => p.2 % 128 == l)).foldl (fun a p => add32 a p.1) 0
    ((List.range 7).foldl (fun l _ => foldPairs l) ((List.range 128).map lane)).headD 0

def execTVsum (t : TineId) (h : ThreadId) (w : TineWord) (s : State) : Host.Outcome State Fault Refusal :=
  .next (s.vector t h 0x38 w false busy8 (fun _ => 1) (fun a _ _ => [vsum a]))

/-- A times x over the two-element field, modulo the polynomial x^64 + p. -/
def gfX (p a : Nat) : Nat := (a * 2 % 2 ^ 64) ^^^ (if bitAt a 63 then p % 2 ^ 64 else 0)

/-- A product there: by the bits of `b` below the `n`-th, from the highest. -/
def gfMul (p a b : Nat) : Nat → Nat → Nat
  | 0, r => r
  | n + 1, r => gfMul p a b n (gfX p r ^^^ (if bitAt b n then a else 0))

/-- x to the power of the bits of `e` below the `n`-th, from the highest. -/
def gfPow (p e : Nat) : Nat → Nat → Nat
  | 0, r => r
  | n + 1, r => gfPow p e n (let q := gfMul p r r 64 0; if bitAt e n then gfX p q else q)

/-- A polynomial gives a register of 64 bits its maximal length: x has the order 2^64 - 1, whose prime factors these are. -/
def maximalLength (p : Nat) : Bool :=
  gfPow p (2 ^ 64 - 1) 64 1 == 1 &&
  [3, 5, 17, 257, 641, 65537, 6700417].all (fun q => gfPow p ((2 ^ 64 - 1) / q) 64 1 != 1)

/-- The polynomial of the generator: a free one of those of maximal length (log entry 38). -/
def lfsrPoly : Nat := if maximalLength (Config.lfsr 0) then Config.lfsr 0 % 2 ^ 64 else 0x1B

/-- The exclusive or of the bits of a word. -/
def parity64 (v : Nat) : Nat := ((List.range 64).filter (bitAt v)).length % 2

/-- One step of the generator (R190), in the form that is free: the feedback goes into the register's bits or is taken from
them, and the bits move up or down. -/
def lfsrStep (form p g : Nat) : Nat :=
  let mirror := fun (v : Nat) => (List.range 64).foldl (fun a i => if bitAt v i then a + 2 ^ (63 - i) else a) 0
  if form = 0 then gfX p g
  else if form = 1 then (g / 2) ^^^ (if bitAt g 0 then (p + 2 ^ 64) / 2 else 0)
  else if form = 2 then g / 2 + parity64 (g &&& p) * 2 ^ 63
  else g * 2 % 2 ^ 64 + parity64 (g &&& mirror p)

/-- A draw advances the generator by 16 steps. -/
def lfsrNext (g : Nat) : Nat := (List.range 16).foldl (fun g _ => lfsrStep (Config.lfsr 1 % 4) lfsrPoly g) g

/-- The draws of a tine's generator for a row of elements, one for each that is rounded (R190). -/
def drawsFrom : List Bool → Nat → List Nat × Nat
  | [], g => ([], g)
  | r :: rest, g =>
    let g1 := if r then lfsrNext g else g
    let (l, g2) := drawsFrom rest g1
    (g1 % 65536 :: l, g2)

/-- VCVT (R193). -/
def State.convert (s : State) (t : TineId) (h : ThreadId) (w : TineWord) : State :=
  s.issue t h 0x37 w (fun s x =>
    let n := x.rc w
    let src := w.fmt.toNat
    let dst := w.imm.toNat % 16
    let sr := bitAt w.imm.toNat 4
    let a := x.ra w
    let d := x.rdVal w
    let na := arrayBytes src n
    let nd := arrayBytes dst n
    let overlap := decide (a < d + nd) && decide (d < a + na) && !(a == d && decide (fmtWidth dst ≤ fmtWidth src))
    if !(vectorOk src n && vectorOk dst n) ∨ bitsOf w.imm.toNat 15 5 ≠ 0 ∨ overlap then s.endThread t.val h.val eFormat
    else if !(s.inWindow x.cid t.val a na && s.inWindow x.cid t.val d nd) then s.endThread t.val h.val eAccess
    else
      let vs := decodeArray src n (s.readSram t.val a na)
      let u := s.tine t.val
      let (draws, g) := if sr then drawsFrom (roundedElems dst vs) u.sr else ([], u.sr)
      let q := encodeArray dst vs draws
      let s1 := (s.setTine t.val { u with sr := g }).writeSram t.val d q.bytes
      ((s1.bump od3440_SATURATED 0 64 q.sat).bump od3440_NAN_BLOCKS 0 64 q.nans).toVector t h x (busy8 n))

def execTVcvt (t : TineId) (h : ThreadId) (w : TineWord) (s : State) : Host.Outcome State Fault Refusal :=
  .next (s.convert t h w)

/-! ## The matrix unit (R179, R201, R202) -/

/-- Multiply-accumulates per tine cycle (Table 6.11). -/
def matrixRate (f : Nat) : Nat := if f = 7 then 6144 else if f = 1 ∨ f = 2 then 1536 else 3072

/-- The exact product sum of one block. -/
def dot (a b : List Fp) : Fp := (a.zip b).foldl (fun p v => fpAdd p (fpMul v.1 v.2)) fpZero

/-- d after a block product: rounded once; the unit keeps no NaN payload. -/
def mmaStep (d : Nat) (p : Fp) : Nat :=
  let r := fpAdd (dec32 d) p
  if r.isNan then 0x7FC00000 else enc32 r

/-- One tile element: the blocks in order. -/
def mmaElem : Nat → Nat → List Fp → List Fp → Nat
  | 0, d, _, _ => d
  | k + 1, d, a, b => mmaElem k (mmaStep d (dot (a.take 32) (b.take 32))) (a.drop 32) (b.drop 32)

/-- MMA, or MMAZ with `zero`. -/
def State.matrix (s : State) (t : TineId) (h : ThreadId) (w : TineWord) (zero : Bool) : State :=
  s.issue t h (if zero then 0x41 else 0x40) w (fun s x =>
    let k := x.rc w
    let f := w.fmt.toNat
    if !(decide (32 ≤ k) && decide (k ≤ 8192) && k % 32 == 0 && decide (f ≠ 0) && fmtKnown f) then s.endThread t.val h.val eFormat
    else
      let a := arrayBytes f k
      if !(s.inWindow x.cid t.val (x.ra w) (32 * a) && s.inWindow x.cid t.val (x.rb w) (32 * a) &&
          s.inWindow x.cid t.val (x.rdVal w) 4096) then s.endThread t.val h.val eAccess
      else
        let row := fun (base i : Nat) => decodeArray f k (s.readSram t.val (base + i * a) a)
        let as := (List.range 32).map (row (x.ra w))
        let bs := (List.range 32).map (row (x.rb w))
        let old := words32 1024 (s.readSram t.val (x.rdVal w) 4096)
        let tile := as.zipIdx.flatMap (fun p => bs.zipIdx.map (fun c =>
          mmaElem (k / 32) (if zero then 0 else old.getD (32 * p.2 + c.2) 0) p.1 c.1))
        let s1 := (s.writeSram t.val (x.rdVal w) (bytes32 tile)).setThread t.val h.val { x.next with wait := .matrix }
        let u := s1.tine t.val
        (s1.setTine t.val { u with mat := u.mat ++ [h.val] }).scopeAdd x.cid 6 (16 + ceilDiv (1024 * k) (matrixRate f)))

def execTMma (t : TineId) (h : ThreadId) (w : TineWord) (s : State) : Host.Outcome State Fault Refusal :=
  .next (s.matrix t h w false)

def execTMmaz (t : TineId) (h : ThreadId) (w : TineWord) (s : State) : Host.Outcome State Fault Refusal :=
  .next (s.matrix t h w true)

/-! ## Units that end (R158) -/

/-- The oldest instruction of a unit is complete: its thread may issue again. -/
def State.unitDone (s : State) (t : Nat) (vec : Bool) : State :=
  let u := s.tine t
  match (if vec then u.vec else u.mat) with
  | [] => s
  | h :: rest =>
    let idle := !u.threads.any (fun (kv : Nat × Thread) => kv.2.live && kv.2.wait == ThreadWait.ready)
    let v := if idle then { u with issued := s.clk } else u
    let s1 := s.setTine t (if vec then { v with vec := rest } else { v with mat := rest })
    let x := s1.thread t h
    if x.live && (x.wait == (if vec then ThreadWait.vector else ThreadWait.matrix)) then s1.setThread t h { x with wait := .ready } else s1

def execVectorUnitDone (t : TineId) (s : State) : Host.Outcome State Fault Refusal := .next (s.unitDone t.val true)

def execMatrixUnitDone (t : TineId) (s : State) : Host.Outcome State Fault Refusal := .next (s.unitDone t.val false)

end Sys2Proof.Machine
end

