-- ==== Sys2Proof/Machine/UnitOps.lean ====
section
/-! DEFINITION. Accesses that a unit makes for a command (R28, R234, R249): to a local home in the same step where nothing
holds them there, and otherwise as requests of their own, whose answers the command's event takes up when it comes
again. -/

namespace Sys2Proof.Machine

/-- What an access has brought so far. -/
inductive Got where
  | wait
  | got (code : Nat) (data : List Byte)

def State.setWork (s : State) (cid : Nat) (f : CmdWork → CmdWork) : State :=
  match s.cmd cid with
  | some c => s.setCmd { c with work := f c.work }
  | none => s

def State.addIo (s : State) (cid : Nat) (i : UnitIo) : State := s.setWork cid (fun w => { w with io := w.io ++ [i] })

/-- Keys of the stores of profile records (R436), which stay with the command to its end. -/
def profKey : Nat := 2 ^ 62

/-- Forget the accesses of a command that are answered, before it makes them anew. -/
def State.clearIo (s : State) (cid : Nat) : State :=
  s.setWork cid (fun w => { w with io := w.io.filter (fun i => decide (profKey ≤ i.addr)) })

def State.ioOf (s : State) (cid key : Nat) (store : Bool) : Option UnitIo :=
  match s.cmd cid with
  | some c => c.work.io.find? (fun i => i.addr == key && i.store == store)
  | none => none

/-- No access of a command is still on its way. -/
def State.ioSettled (s : State) (cid : Nat) : Bool :=
  match s.cmd cid with
  | some c => c.work.io.all (fun i => i.code.isSome)
  | none => true

/-- The lines of an access are untouched by the directory and not in rut. -/
def State.linesPlain (s : State) (e off n : Nat) : Bool :=
  (State.linesOf e off n).all (fun l => !s.inRut l && (s.extClass e != 2 || (s.dirOf l == dirNew && !s.lineBusy l)))

/-- A load that a local home answers at once: its code and data. None: it must go as a request. -/
def State.directLoad (s : State) (herd addr n : Nat) : Option (Nat × List Byte × State) :=
  match s.extCheck herd addr n with
  | none => some (eAccess, poisonBytes n, s)
  | some e =>
    let off := addr - s.extBase e
    if s.fenced e herd off n then some (eRevoked, poisonBytes n, s)
    else if s.mode = 2 then some (eDegraded, poisonBytes n, s)
    else if (s.extSlice e).isNone ∨ !s.linesPlain e off n ∨ (s.extCmp e && s.rd od2820_CSTATE e == 2) then none
    else if s.keyless e then some (eSealed, poisonBytes n, s)
    else
      let s1 := (s.touch e (off / granuleBytes)).homeCount e 1 1
      if s1.poisoned e off n then some (ePoison, poisonBytes n, s1) else some (eOk, s1.readPool e off n, s1)

/-- A store that a local home applies at once: its code. None: it must go as a request. -/
def State.directStore (s : State) (herd addr : Nat) (bs : List Byte) : Option (Nat × State) :=
  match s.extCheck herd addr bs.length with
  | none => some (eAccess, s)
  | some e =>
    let off := addr - s.extBase e
    if s.fenced e herd off bs.length then some (eRevoked, s)
    else if s.mode = 2 then some (eDegraded, s)
    else if (s.extSlice e).isNone ∨ !s.linesPlain e off bs.length then none
    else if s.keyless e then some (eSealed, s)
    else if s.extRo e ∨ s.rd od3020_FROZEN e = 1 ∨ (s.extCmp e ∧ s.rd od2820_CSTATE e = 2) then some (eAccess, s)
    else
      let r : Req := { id := 0, sender := .home 0, op := .store, hdr := { hdrFor 0 herd 0 0 0 0 with addr := BitVec.ofNat 57 addr },
                       payload := bs, ext := e, born := s.clk, place := .home, path := none, dest := 0 }
      if (State.linesOf e off bs.length).any (fun k => s.pool.poison.contains k &&
          !(decide (off ≤ (k - lineKey e 0) * 128) && decide ((k - lineKey e 0) * 128 + 128 ≤ off + bs.length))) then some (ePoison, s)
      else match s.prepareWrite r with
        | none => some (eQuota, s)
        | some (_, some _) => none
        | some (s1, none) =>
          some (eOk, ((((s1.writePool e off bs).liftPoison e off bs.length).homeCount e 2 1).doorbells e off bs.length))

/-- Send a request of a unit for a command; its answer is the io entry under `key`. -/
def State.unitSend (s : State) (cid ep herd key : Nat) (store : Bool) (op : ReqOp) (addr len aux attr : Nat) (payload : List Byte) : State :=
  let id := s.tr.nextId
  let cls := match s.cmd cid with | some c => bitsOf (c.desc.getD 0 0) 34 32 | none => 0
  let h := { hdrFor cls herd ep 0 (id % 65536) 0 with
    len := BitVec.ofNat 8 (len / 8 - 1), addr := BitVec.ofNat 57 addr, aux := BitVec.ofNat 64 aux, attr := BitVec.ofNat 8 attr }
  let r : Req := { id := id, sender := .unit ep cid key, op := op, hdr := h, payload := payload, ext := 0, born := s.clk,
                   place := .rate, path := none, dest := 0xFFFF }
  (s.addIo cid ⟨key, store, none, []⟩).enter r

/-- Cut an access into pieces that a frame can carry: they do not cross a multiple of `unit` (R74). -/
def piecesFrom (unit : Nat) : Nat → Nat → Nat → List (Nat × Nat)
  | 0, _, _ => []
  | k + 1, a, n =>
    if n = 0 then []
    else
      let m := min n (unit - a % unit)
      (a, m) :: piecesFrom unit k (a + m) (n - m)

def pieces (unit a n : Nat) : List (Nat × Nat) := piecesFrom unit (n / unit + 2) a n

/-- A load of one piece. -/
def State.unitPiece (s : State) (cid ep herd a n : Nat) : Got × State :=
  let a8 := a / 8 * 8
  let n8 := ceilDiv (a + n) 8 * 8 - a8
  match s.ioOf cid a8 false with
  | some i => match i.code with
    | some c => (.got c ((i.data.drop (a - a8)).take n), s)
    | none => (.wait, s)
  | none => match s.directLoad herd a n with
    | some (c, d, s1) => (.got c d, s1)
    | none => (.wait, s.unitSend cid ep herd a8 false .load a8 n8 0 0 [])

/-- A load of any length: all its pieces, or `wait` while one is missing. The code is the first that is not OK. -/
def State.unitPieces (s : State) (cid ep herd : Nat) : List (Nat × Nat) → Got × State
  | [] => (.got eOk [], s)
  | (a, n) :: rest =>
    let (g, s1) := s.unitPiece cid ep herd a n
    let (gs, s2) := s1.unitPieces cid ep herd rest
    match g, gs with
    | .got c d, .got cs ds => (.got (if c ≠ 0 then c else cs) (d ++ ds), s2)
    | _, _ => (.wait, s2)

def State.unitLoad (s : State) (cid ep herd a n : Nat) : Got × State :=
  if n = 0 then (.got eOk [], s) else s.unitPieces cid ep herd (pieces 2048 a n)

/-- A store of one piece; what has failed at once is noted as an answer. -/
def State.unitStorePiece (s : State) (cid ep herd key a : Nat) (bs : List Byte) : State :=
  match s.directStore herd a bs with
  | some (c, s1) => if c = eOk then s1 else s1.addIo cid ⟨key, true, some c, []⟩
  | none =>
    if a % 8 = 0 ∧ bs.length % 8 = 0 then s.unitSend cid ep herd key true .store a bs.length 0 0 bs
    else
      let w := a / 64 * 64
      let body := List.replicate (a - w) (0 : Byte) ++ bs ++ List.replicate (64 - (a - w) - bs.length) 0
      s.unitSend cid ep herd key true .pstore w 64 ((2 ^ bs.length - 1) * 2 ^ (a - w)) 0 body

/-- A store of any length; its codes are those of the io entries with store keys. -/
def State.unitStore (s : State) (cid ep herd a : Nat) (bs : List Byte) : State :=
  let unit := if a % 8 = 0 ∧ bs.length % 8 = 0 then 2048 else 64
  (pieces unit a bs.length).foldl (fun s p =>
    s.unitStorePiece cid ep herd p.1 p.1 ((bs.drop (p.1 - a)).take p.2)) s

/-- The first code other than OK among the answered stores of a command. -/
def State.storeCode (s : State) (cid : Nat) : Nat :=
  match s.cmd cid with
  | some c => ((c.work.io.filterMap (fun i => if i.store then i.code else none)).find? (· != 0)).getD 0
  | none => 0

/-- A number that a command keeps between its events. -/
def Cmd.num (c : Cmd) (i : Nat) : Nat := c.work.nums.getD i 0

def State.setNums (s : State) (cid : Nat) (l : List Nat) : State := s.setWork cid (fun w => { w with nums := l })
def State.setPhase (s : State) (cid p : Nat) : State := s.setWork cid (fun w => { w with phase := p })

/-- Keep the first code that is not OK. -/
def firstCode (a b : Nat) : Nat := if a ≠ 0 then a else b

/-- One local extent that a herd owns holds a range, with CLASS P and PLACE 0. -/
def State.ownLocal (s : State) (herd a n : Nat) : Option Nat :=
  match s.extCheck herd a n with
  | some e => if s.extHerd e = herd ∧ (s.extSlice e).isSome ∧ s.extClass e = 0 ∧ s.extPlace e = 0 then some e else none
  | none => none

end Sys2Proof.Machine
end

