-- ==== Sys2Proof/Machine/CollCmds.lean ====
section
/-! DEFINITION. Contexts, members, collective frames, triggers and timeouts of collectives, and the table commands
(chapter 8). -/

namespace Sys2Proof.Machine

/-! ## Starting and stopping (R208–R210, R229) -/

/-- A ring is a running event ring of a herd. -/
def State.eventRing (s : State) (ring herd : Nat) : Bool := s.eventRingOf ring herd

/-- The arrays of a fused pass at its root lie where R209 wants them. -/
def State.passArrays (s : State) (c : Nat) : Bool :=
  let herd := s.rd od3800_HERD c
  let n := s.rd od3800_ELEMENTS c * 4
  let ok := fun (a : Nat) => match s.ownLocal herd a n with
    | some e => s.extSlice e == some (ctxQuad c)
    | none => false
  ok (s.rd od3820_W_ADDR c) && ok (s.rd od3820_M_ADDR c) &&
  (s.rd od3820_OPTIMIZER c != 0 || ok (s.rd od3820_V_ADDR c)) && (s.rd od3800_CLOSE c != 1 || ok (s.rd od3820_G_ADDR c))

/-- The conditions of an aggregation group (R229). -/
def State.aggOk (s : State) (c : Nat) : Bool :=
  let herd := s.rd od3800_HERD c
  let ms := s.membersOf c
  let hs := ms.map (fun m => s.rd od3810_HERD m)
  !s.openHerd herd && hs.all (fun h => s.sealedHerd h && h != herd) && hs.eraseDups.length == hs.length &&
  s.rd od3800_CLOSE c == 1 && (s.rd od3800_OP c == 0 || s.rd od3800_OP c == 3) && s.rd od3800_MCGROUP c == 0xFFFF &&
  ms.all (fun m => (s.ownLocal (s.rd od3810_HERD m) (s.rd od3810_STAGE m) (s.rd od3800_ELEMENTS c * fmtBytes (s.rd od3800_FMT_IN c))).isSome) &&
  (!(s.ctxRoot c && s.rd od3800_KIND c == 0) ||
    (s.ownLocal herd (s.rd od3820_OUT_ADDR c) (s.rd od3800_ELEMENTS c * fmtBytes (s.rd od3800_FMT_OUT c))).isSome)

/-- R209. -/
def State.ctxStartOk (s : State) (c : Nat) : Bool :=
  let herd := s.rd od3800_HERD c
  let op := s.rd od3800_OP c
  let agg := s.ctxAgg c
  let kind := s.rd od3800_KIND c
  s.herdActive herd && s.eventRing (s.rd od3800_EVENT c) herd && (s.membersOf c).length == s.rd od3800_LOCAL c &&
  s.reduceEp c != 0xFFFF && (agg || (s.membersOf c).all (fun m => s.rd od3810_HERD m == herd)) &&
  (!(op == 1 || op == 2) || (kind == 0 && !agg)) && (s.rd od3800_CLOSE c != 1 || kind == 1 || agg) &&
  (s.rd od3800_MISSING c != 1 || agg) && (!agg || s.aggOk c) &&
  (!(s.ctxRoot c && kind == 1) || s.passArrays c) &&
  (s.rd od3820_NONFINITE c != 2 || s.rd od3800_CLOSE c == 1 || kind == 0)

/-- A write to a context's STATE (R210): the abort code and the state. -/
def State.ctxWrite (s : State) (c v : Nat) : Nat × State :=
  let st := s.rd od3800_STATE c
  if v = 1 ∧ st = 0 then
    if s.ctxStartOk c then (abOk, ((s.setCtx c ctxNew).wr od3800_STATE c 1).beginStep c) else (abDenied, s)
  else if v = 2 ∧ st = 1 then
    let s1 := (s.closeStep c eAccess).wr od3800_STATE c 2
    (abOk, (s1.setCtx c ctxNew).retryContribs)
  else if v = 1 ∧ st = 2 then (abOk, ((s.setCtx c ctxNew).wr od3800_STATE c 1).beginStep c)
  else if v = 0 ∧ (st = 2 ∨ st = 3) then (abOk, (s.wr od3800_STATE c 0).setCtx c ctxNew)
  else (abInUse, s)

/-- A write to a member entry's STATE (R208). -/
def State.memberWrite (s : State) (i v : Nat) : Nat × State :=
  let c := s.rd od3810_CONTEXT i
  if v = 0 then (abOk, s.wr od3810_STATE i 0)
  else if s.rd od3800_STATE c ≠ 0 then (abInUse, s)
  else
    let ep := s.rd od3810_ENDPOINT i
    let ring := s.rd od3810_RING i
    let twin := (s.membersOf c).any (fun m => m != i &&
      (s.rd od3810_INDEX m == s.rd od3810_INDEX i || (ep != 0xFFFF && s.rd od3810_ENDPOINT m == ep)))
    if decide (ep ≠ 0xFFFF) == decide (ring ≠ 0xFFFFFFFF) ∨ twin then (abRange, s) else (abOk, s.wr od3810_STATE i 1)

/-! ## Triggers (R217, R230) -/

/-- A slot with ACTION 4 fires on a context: its open step takes no more contributions (R217). -/
def State.triggerStep (s : State) (c : Nat) : State :=
  let n := s.openStep c
  let q := ctxQuad c
  let x := s.stepOf c n
  if x.fired.isSome then s
  else
    let s1 := s.setStep c { x with fired := some (s.clk, s.ft q, s.qual q) }
    if s.ctxAgg c then
      let ps := s1.presentParties c n
      let absent := (s1.membersOf c).filter (fun m => !ps.any (fun p => p.entry == m))
      let s2 := foldState s1 absent (fun s m => s.bump od3810_MISSED m 32 1)
      if !absent.isEmpty && s2.rd od3800_MISSING c == 0 then
        if s2.ctxRoot c then s2.abortStep c eTimeout
        else s2.sendColl c n (s2.rd od3800_PARENT c) .abort 0 eTimeout (List.replicate 8 0)
      else if ps.isEmpty then
        (((s2.setStep c { s2.stepOf c n with summed := s2.chunkCount c }).tryChunks c n).noParty c n).tryClose c
      else s2.tryOpen c
    else
      let absent := (s1.membersOf c).filter (fun m => !(List.range (s1.chunkCount c)).all (fun i =>
        match x.chunkOf i with
        | some k => k.members.contains (s1.rd od3810_INDEX m)
        | none => false))
      if !absent.isEmpty then
        let s2 := foldState s1 absent (fun s m => s.bump od3810_MISSED m 32 1)
        if s2.ctxRoot c then s2.abortStep c eTimeout
        else s2.sendColl c n (s2.rd od3800_PARENT c) .abort 0 eTimeout (List.replicate 8 0)
      else s1.tryClose c

/-! ## Frames (R211–R213, R218, R291) -/

/-- An ABORT reaches a reduce unit: the open step ends here too, and the rest of the tree is told (R218). -/
def State.takeAbort (s : State) (c n src code : Nat) : State :=
  if !s.ctxRunning c ∨ s.openStep c ≠ n then s
  else if s.ctxRoot c then s.abortStep c code
  else (s.sendAborts c n code (decide (s.rd od3800_PARENT c ≠ src))).closeStep c code

/-- A collective frame that this A9's reduce units or multicast take from a trunk; for a stopped context it completes with
E_ACCESS (R210). -/
def State.collTrunk (s : State) (p : PortId) (op : CollOp) (h : CollHdr) (payload : List Byte) : State :=
  let c := h.ctx.toNat
  let b := FrameBody.coll op h payload
  let n := cellsOf (bodyBytes b)
  let here := h.dst.toNat == s.reduceEp c && h.dst != 0xFFFF
  let s0 := s.creditBack p h.cls.toNat n
  let r : Req := { id := s.tr.nextId, sender := .trunk p, op := .coll op h, hdr := sharedHdr h, payload := payload, ext := 0,
                   born := s.clk, place := .home, path := none, dest := h.dst.toNat }
  let s1 := { s0 with tr := { s0.tr with nextId := s0.tr.nextId + 1 } }
  let reject := fun (code : Nat) => s1.answer r code 0 []
  let replicate :=
    ((s1.multicast (s.rd od3800_MCGROUP c) (s.rd od3800_HERD c) (portQuad p.val) (portEnd p.val) (some p) b).1).noteApplied r
      (mkResp r eOk 0 0 [])
  let stopped := decide (2 ≤ s.rd od3800_STATE c)
  match op with
  | .contrib => s.passOn p b
  | .part =>
    if !here then s.passOn p b
    else if h.rlx then reject eFormat
    else if s.psnApplied r then reject eOk
    else s1.partialAnswer r (s1.servePartial r h)
  | .abort =>
    if here then
      if h.rlx ∨ !collReserved .abort h then reject eFormat
      else if s.psnApplied r then reject eOk
      else if !s.ctxRunning c then reject eAccess
      else (s1.complete r eOk 0 []).takeAbort c h.step.toNat h.src.toNat (bitsOf h.aux.toNat 7 0)
    else if h.dst = 0xFFFF then
      if h.rlx then reject eFormat
      else if s.psnApplied r then reject eOk
      else if stopped then reject eAccess
      else replicate
    else s.passOn p b
  | .result =>
    if h.dst ≠ 0xFFFF then s.passOn p b
    else if h.rlx then reject eFormat
    else if s.psnApplied r then reject eOk
    else if stopped then reject eAccess
    else replicate

/-- A collective frame arrives on a port. -/
def State.collFrame (s : State) (op : CollOp) (f : CollFrame) : State :=
  let p := f.port
  if !s.portUp p.val then s
  else
    let (s0, ok) := s.linkReceive p f.env (.coll op f.hdr f.payload)
    if !ok then s0.tally 0 (4 * p.val + 2) 1
    else
      let role := s0.rd od2810_ROLE p.val
      let (herd, src) := s0.stamp (.port p)
      let edge := if role = 2 ∨ role = 3 then f.hdr else { f.hdr with herd := BitVec.ofNat 12 herd, src := BitVec.ofNat 16 src }
      let s1 := s0.traceFrame p.val 0 (.coll op edge f.payload)
      if role = 3 then
        (s1.creditBack p f.hdr.cls.toNat (cellsOf (56 + f.payload.length))).emit (portQuad p.val) evTrayRequest 0 1 p.val 0
          [opcodeOf (.coll op f.hdr)]
      else if role = 2 then (s1.tally f.hdr.herd.toNat (4 * p.val) 1).collTrunk p op f.hdr f.payload
      else (s1.tally (s1.rd od2810_HERD p.val) (4 * p.val) 1).ingress (.port p) (.coll op f.hdr) (sharedHdr f.hdr) f.payload

def execCollContrib (f : CollFrame) (s : State) : Host.Outcome State Fault Refusal := (s.collFrame .contrib f).retryContribs.done

def execCollPartial (f : CollFrame) (s : State) : Host.Outcome State Fault Refusal := (s.collFrame .part f).retryContribs.done

def execCollResult (f : CollFrame) (s : State) : Host.Outcome State Fault Refusal := (s.collFrame .result f).done

def execCollAbort (f : CollFrame) (s : State) : Host.Outcome State Fault Refusal := (s.collFrame .abort f).retryContribs.done

/-! ## Timeouts (R218, R219) -/

/-- A child's PARTIAL frames of the open step are incomplete. -/
def State.kidsLacking (s : State) (c : Nat) (x : CollStep) : Bool :=
  (List.range (s.chunkCount c)).any (fun i =>
    let kids := (match x.chunkOf i with | some k => k.kids | none => []) ++ x.noParty
    decide (kids.eraseDups.length < s.rd od3800_CHILDREN c))

def State.stepTimeout (s : State) (c : Nat) : State :=
  let x := s.stepOf c (s.openStep c)
  let start := if s.rd od3800_CLOSE c = 0 then x.first else x.fired
  match start with
  | none => s
  | some (t, _, _) =>
    if s.ctxRunning c ∧ s.ctxRoot c ∧ s.past t (s.rd od3800_STEP_TIMEOUT c * 1000) ∧
        (s.rd od3800_MISSING c = 0 ∨ s.kidsLacking c x) then (s.abortStep c eTimeout).retryContribs
    else s

def execStepTimeoutExpiry (c : CtxId) (s : State) : Host.Outcome State Fault Refusal := (s.stepTimeout c.val).done

def State.nodeTimeout (s : State) (c : Nat) : State :=
  match (s.stepOf c (s.openStep c)).first with
  | none => s
  | some (t, _, _) =>
    if s.ctxRunning c ∧ !s.ctxRoot c ∧ s.past t (2 * s.rd od3800_STEP_TIMEOUT c * 1000) then
      (s.closeStep c eTargetLost).retryContribs
    else s

def execNodeStepTimeout (c : CtxId) (s : State) : Host.Outcome State Fault Refusal := (s.nodeTimeout c.val).done

/-- The entropy source of a quadrant fails its health tests (R232). -/
def execEntropyHealthFail (q : QuadId) (s : State) : Host.Outcome State Fault Refusal :=
  let s1 := { s with co := { s.co with noEntropy := quadSet s.co.noEntropy q.val true } }
  let s2 := s1.emit q.val evEntropyFault 0 7 q.val 0 [q.val]
  (foldState s2 (s2.runningCtxs.filter (fun c => ctxQuad c == q.val && s2.ctxRoot c && s2.ctxAgg c &&
    s2.rd od3820_SIGMA c % 2 ^ 31 != 0 && (s2.stepOf c (s2.openStep c)).fired.isSome)) (fun s c => s.abortStep c eDegraded)).done

/-! ## Table commands (R234–R237) -/

def Cmd.word (c : Cmd) (i : Nat) : Nat := c.desc.getD i 0
def Cmd.kind (c : Cmd) : Nat := bitsOf (c.word 0) 63 56

/-- Fields of a collective descriptor that lie outside their range (Table 8.10). -/
def collDescOk (d : List Nat) : Bool :=
  let k := bitsOf (d.getD 0 0) 63 56
  let w := fun (i : Nat) => d.getD i 0
  let row := w 3 % 2 ^ 32
  let count := w 3 / 2 ^ 32
  let rowOk := decide (8 ≤ row) && decide (row ≤ 65536) && row % 8 == 0
  if k = 0x10 then bitsOf (w 2) 49 32 == 0 && count == 0 && decide (row < 4096) && w 5 == 0 && w 6 == 0 && w 7 == 0
  else if k = 0x11 then bitsOf (w 2) 49 32 == 0 && w 3 == 0 && w 5 == 0 && w 6 == 0 && w 7 == 0
  else if k = 0x12 then decide (1 ≤ count) && rowOk && w 6 / 2 ^ 32 == 0 && w 7 == 0
  else if k = 0x13 then decide (1 ≤ count) && rowOk && w 6 / 2 ^ 32 == 0 && decide (w 7 ≤ 1)
  else if k = 0x14 then
    w 2 == 0 && decide (1 ≤ count) && rowOk && w 6 / 2 ^ 49 == 0 && w 7 == 0 && w 6 % 2 ^ 32 % 4 == 0 &&
    decide (w 6 % 2 ^ 32 + 20 ≤ row)
  else false

/-- Run a launched command of a kind; a command that is not in flight, is finished, or is of another kind is left alone, and in
flush mode walkers and reduce units start no work (R472). -/
def State.runCmd (s : State) (cid kind : Nat) (f : State → Cmd → State) : State :=
  match s.cmd cid with
  | some c => if c.finished ∨ c.kind ≠ kind ∨ s.halted ∨ s.flushMode then s else f s c
  | none => s

/-- The quadrant and reduce endpoint that execute a table command. -/
def State.tableEp (s : State) (c : Cmd) : Nat := s.rd (odReduceEp (s.cmdQuad c)) 0

/-- CONTRIBUTE, chunk by chunk from the one that it has come to; `nums` are the next chunk, the code so far, and since when (from
1) the chunk is held, whose load timeout runs (Table 8.6). -/
def State.contributeFrom (s : State) (cid c m n : Nat) : Nat → State
  | 0 => s
  | k + 1 =>
    match s.cmd cid with
    | none => s
    | some cmd =>
      let i := cmd.num 0
      let f := s.rd od3800_FMT_IN c
      if s.chunkCount c ≤ i then s.finishWith cid (cmd.num 1) [0, 0, 0]
      else
        let bytes := s.chunkElems c i * fmtBytes f
        match s.unitLoad cid (s.tableEp cmd) cmd.herd (cmd.word 1 + 512 * i * fmtBytes f) bytes with
        | (.wait, s1) => s1
        | (.got code data, s1) =>
          let put := fun (s : State) (o : Nat) =>
            (((s.setNums cid [i + 1, firstCode (cmd.num 1) o, 0]).clearIo cid).scopeAdd cid 10 1).contributeFrom cid c m n k
          if code ≠ 0 then put s1 code
          else if !s1.ctxRunning c then put s1 eAccess
          else match s1.contribute c m n i (data ++ List.replicate (s1.chunkPayload c i f - bytes) 0) with
            | .wait =>
              if cmd.num 2 = 0 then s1.setNums cid [i, cmd.num 1, s1.clk + 1]
              else if s1.past (cmd.num 2 - 1) (s1.rd od2200_LOAD_TIMEOUT 0 * 1000) then put s1 eTimeout
              else s1
            | .code o _ s2 => put s2 o

def execCollContribute (cid : Nat) (s : State) : Host.Outcome State Fault Refusal :=
  (s.runCmd cid 0x10 (fun s cmd =>
    let c := cmd.word 2 / 2 ^ 50 % 16384
    match (s.membersOf c).find? (fun m => s.rd od3810_INDEX m == cmd.word 3 % 4096 && s.rd od3810_RING m == cmd.ring
        && s.rd od3810_HERD m == cmd.herd) with
    | none => s.finishWith cid eAccess [0, 0, 0]
    | some m => s.contributeFrom cid c m (cmd.word 2 % 2 ^ 32) (s.chunkCount c + 1))).done

/-- Send one chunk of a BROADCAST: each copy is an access of the command, under a key of its own (R222, R236). -/
def State.broadcastChunk (s : State) (cid : Nat) (cmd : Cmd) (c n i : Nat) (data : List Byte) : State :=
  let g := s.rd od3800_MCGROUP c
  let herd := s.rd od3800_HERD c
  let f := s.rd od3800_FMT_OUT c
  let addr := s.rd od3800_RBASE c + n % 2 * s.rd od3800_ALT_STRIDE c + 512 * i * fmtBytes f
  let body := data ++ List.replicate (s.chunkPayload c i f - data.length) 0
  let src := s.reduceEp c
  let tag := s.tr.nextId
  let (psn, s1) := s.takePsn src 0xFFFF
  let h := collHdr herd src 0xFFFF tag psn n c i body.length (addr % 2 ^ 57)
  let (s2, ports) := s1.multicast g herd (ctxQuad c) (s.unitFor (ctxQuad c) i) none (.coll .result h body)
  if g = 0xFFFF then s else
  let s3 := (s2.notSent g ports).foldl (fun s p => (s.addIo cid ⟨i, true, some eAccess, []⟩).deafEvent c n (s.copyEp p)) s2
  ports.foldl (fun s p =>
    let id := s.tr.nextId
    let key := 2 ^ 32 + id
    let dst := s.copyEp p
    let r : Req := { id := id, sender := .unit (s.tableEp cmd) cid key, op := .coll .result h, hdr := sharedHdr h, payload := [],
                     ext := 0, born := s.clk, place := .queue, path := some p, dest := dst }
    ({ s with tr := { s.tr with nextId := id + 1, outstanding := s.tr.outstanding ++ [r] } }).addIo cid ⟨key, false, none, []⟩) s3

def State.broadcastFrom (s : State) (cid c n : Nat) : Nat → State
  | 0 => s
  | k + 1 =>
    match s.cmd cid with
    | none => s
    | some cmd =>
      let i := cmd.num 0
      let f := s.rd od3800_FMT_OUT c
      if s.chunkCount c ≤ i then
        if s.ioSettled cid then
          s.finishWith cid (cmd.num 1) [(cmd.work.io.filter (fun x => decide ((2 ^ 32 ≤ x.addr ∨ x.store = true) ∧ x.addr < profKey) && (x.code == some eAccess ||
            x.code == some eTimeout || x.code == some eTargetLost))).length, 0, 0]
        else s
      else
        let bytes := s.chunkElems c i * fmtBytes f
        match s.unitLoad cid (s.tableEp cmd) cmd.herd (cmd.word 1 + 512 * i * fmtBytes f) bytes with
        | (.wait, s1) => s1
        | (.got code data, s1) =>
          ((s1.broadcastChunk cid cmd c n i data).setNums cid [i + 1, firstCode (cmd.num 1) code]).broadcastFrom cid c n k

def execCollBroadcast (cid : Nat) (s : State) : Host.Outcome State Fault Refusal :=
  (s.runCmd cid 0x11 (fun s cmd =>
    let c := cmd.word 2 / 2 ^ 50 % 16384
    if !s.ctxRunning c ∨ s.rd od3800_HERD c ≠ cmd.herd ∨ s.ctxAgg c then s.finishWith cid eAccess [0, 0, 0]
    else s.broadcastFrom cid c (cmd.word 2 % 2 ^ 32) (s.chunkCount c + 1))).done

/-- The index list of a GATHER or SCATTER_ADD, read whole first (R237). -/
def State.indexList (s : State) (cid : Nat) (cmd : Cmd) : Option (Nat × List Nat) × State :=
  let n := cmd.word 3 / 2 ^ 32
  match s.unitLoad cid (s.tableEp cmd) cmd.herd (cmd.word 2) (4 * n) with
  | (.wait, s1) => (none, s1)
  | (.got code data, s1) => (some (code, words32 n data), s1)

/-- GATHER from the row that it has come to; `nums` are that row, the code so far, and then the indexes. -/
def State.gatherFrom (s : State) (cid : Nat) : Nat → State
  | 0 => s
  | k + 1 =>
    match s.cmd cid with
    | none => s
    | some cmd =>
      let r := cmd.num 0
      let row := cmd.word 3 % 2 ^ 32
      if cmd.word 3 / 2 ^ 32 ≤ r then
        if s.ioSettled cid then s.finishWith cid (firstCode (cmd.num 1) (s.storeCode cid)) [0, 0, 0] else s
      else
        match s.unitLoad cid (s.tableEp cmd) cmd.herd (cmd.word 1 + cmd.num (2 + r) * row) row with
        | (.wait, s1) => s1
        | (.got code data, s1) =>
          let bs := if code ≠ 0 then poisonBytes row else data
          let s2 := s1.unitStore cid (s1.tableEp cmd) cmd.herd (cmd.word 5 + r * row) bs
          (s2.setNums cid ([r + 1, firstCode (cmd.num 1) code] ++ cmd.work.nums.drop 2)).gatherFrom cid k

/-- Read and check the index list, then go on row by row. -/
def State.indexed (s : State) (cid : Nat) (cmd : Cmd) (go : State → State) : State :=
  if cmd.work.phase = 0 then
    match s.indexList cid cmd with
    | (none, s1) => s1
    | (some (code, is), s1) =>
      if code ≠ 0 then s1.finishWith cid code [0, 0, 0]
      else if is.any (fun i => decide (cmd.word 6 % 2 ^ 32 ≤ i)) then s1.finishWith cid eFormat [0, 0, 0]
      else go (((s1.setNums cid ([0, 0] ++ is)).setPhase cid 1).clearIo cid)
  else go s

def execTableGather (cid : Nat) (s : State) : Host.Outcome State Fault Refusal :=
  (s.runCmd cid 0x12 (fun s cmd => s.indexed cid cmd (fun s => s.gatherFrom cid (cmd.word 3 / 2 ^ 32 + 1)))).done

/-- Add one value to an element of the table at its local home; none where it must go as a request. -/
def State.addElem (s : State) (herd a : Nat) (v : List Byte) : Option (Nat × State) :=
  match s.directLoad herd a v.length with
  | none => none
  | some (c, old, s1) =>
    if c ≠ 0 then some (c, s1)
    else
      let x := leNat old
      let y := leNat v
      let new := if v.length = 4 then add32 x y else encodeF bf16 (dec32 (add32 (x * 65536) (y * 65536)))
      s1.directStore herd a (toLe v.length new)

/-- The 8 B around a bfloat16 element after the addition of `v` to it (R237). -/
def halfAdded (addr v old : Nat) : Nat :=
  let k := 2 ^ (8 * (addr % 8))
  let x := old / k % 65536
  old - x * k + encodeF bf16 (dec32 (add32 (x * 65536) (v * 65536))) * k

/-- Have a home add to a bfloat16 element: what stands there is read, and swapped for the sum if nothing else has changed it. -/
def State.startAdd (s : State) (cid : Nat) (cmd : Cmd) (a v : Nat) : State :=
  let key := 2 ^ 61 + s.tr.nextId
  let s1 := s.setWork cid (fun w => { w with adds := w.adds ++ [⟨key, a, v, none⟩] })
  s1.unitSend cid (s1.tableEp cmd) cmd.herd key false .load (a / 8 * 8) 8 0 0 []

/-- Swap the 8 B around an element, last seen as `old`, for those with the sum. -/
def State.swapAdd (s : State) (cid : Nat) (cmd : Cmd) (x : HalfAdd) (old : Nat) : State :=
  let key := 2 ^ 61 + s.tr.nextId
  let s1 := s.setWork cid (fun w => { w with adds := w.adds.map (fun y => if y.key = x.key then ⟨key, x.addr, x.v, some old⟩ else y) })
  s1.unitSend cid (s1.tableEp cmd) cmd.herd key true (.atomic .cas) (x.addr / 8 * 8) 16 0 (aopOf .cas * 16 + 4) (toLe 8 old ++ toLe 8 (halfAdded x.addr x.v old))

/-- Go on with one such addition once its access is answered. -/
def State.goAdd (s : State) (cid : Nat) (cmd : Cmd) (x : HalfAdd) : State :=
  match cmd.work.io.find? (fun i => i.addr == x.key) with
  | none => s
  | some i =>
    let gone := s.setWork cid (fun w => { w with adds := w.adds.filter (fun y => y.key != x.key) })
    match i.code with
    | none => s
    | some code =>
      if code ≠ 0 then (if i.store then gone else gone.addIo cid ⟨x.key, true, some code, []⟩)
      else if x.seen = some (leNat (i.data.take 8)) then gone
      else s.swapAdd cid cmd x (leNat (i.data.take 8))

def State.goAdds (s : State) (cid : Nat) : State :=
  match s.cmd cid with
  | some cmd => cmd.work.adds.foldl (fun s x => s.goAdd cid cmd x) s
  | none => s

/-- Add a source row into its table row, element by element. A binary32 element of another A9's home goes as an ATOMIC
FADD. -/
def State.scatterRow (s : State) (cid : Nat) (cmd : Cmd) (a r : Nat) (w : Nat) (data : List Byte) : State :=
  (List.range (data.length / w)).foldl (fun s i =>
    let v := (data.drop (w * i)).take w
    let key := 2 ^ 60 + r * 65536 + i
    match s.addElem cmd.herd (a + w * i) v with
    | some (c, s1) => if c = eOk then s1 else s1.addIo cid ⟨key, true, some c, []⟩
    | none =>
      if w = 4 then s.unitSend cid (s.tableEp cmd) cmd.herd key true (.atomic .fadd) (a + w * i) 8 0 (aopOf .fadd * 16) (v ++ List.replicate 4 0)
      else s.startAdd cid cmd (a + w * i) (leNat v)) s

def State.scatterFrom (s : State) (cid : Nat) : Nat → State
  | 0 => s
  | k + 1 =>
    match s.cmd cid with
    | none => s
    | some cmd =>
      let r := cmd.num 0
      let row := cmd.word 3 % 2 ^ 32
      if cmd.word 3 / 2 ^ 32 ≤ r then
        let s0 := s.goAdds cid
        if s0.ioSettled cid then s0.finishWith cid (firstCode (cmd.num 1) (s0.storeCode cid)) [0, 0, 0] else s0
      else
        match s.unitLoad cid (s.tableEp cmd) cmd.herd (cmd.word 5 + r * row) row with
        | (.wait, s1) => s1
        | (.got code data, s1) =>
          let s2 := if code ≠ 0 then s1
            else s1.scatterRow cid cmd (cmd.word 1 + cmd.num (2 + r) * row) r (if cmd.word 7 = 0 then 4 else 2) data
          (s2.setNums cid ([r + 1, firstCode (cmd.num 1) code] ++ cmd.work.nums.drop 2)).scatterFrom cid k

def execTableScatterAdd (cid : Nat) (s : State) : Host.Outcome State Fault Refusal :=
  (s.runCmd cid 0x13 (fun s cmd => s.indexed cid cmd (fun s => s.scatterFrom cid (cmd.word 3 / 2 ^ 32 + 1)))).done

/-! ## Searches (R276, R279, R281) -/

/-- Search a set for a command: counted, and an entry that cannot be corrected is taken out of the set (R279). -/
def State.search (s : State) (cid herd r key : Nat) (after : Option (Nat × Nat)) : Answer × State :=
  let a := s.searchSet r key after
  (a, (s.searched herd r a).scopeAdd cid 11 1)

/-! ## FILTER (R237) -/

/-- FILTER from the row that it has come to; `nums` are that row, the code, the rows passed and those with no match. -/
def State.filterFrom (s : State) (cid : Nat) : Nat → State
  | 0 => s
  | k + 1 =>
    match s.cmd cid with
    | none => s
    | some cmd =>
      let r := cmd.num 0
      let row := cmd.word 3 % 2 ^ 32
      let set := bitsOf (cmd.word 6) 47 32
      if cmd.word 3 / 2 ^ 32 ≤ r then
        if s.ioSettled cid then s.finishWith cid (firstCode (cmd.num 1) (s.storeCode cid)) [cmd.num 2, cmd.num 3, 0] else s
      else
        match s.unitLoad cid (s.tableEp cmd) cmd.herd (cmd.word 1 + r * row) row with
        | (.wait, s1) => s1
        | (.got code data, s1) =>
          let key := leNat ((data.drop (cmd.word 6 % 2 ^ 32)).take 20)
          let (a, s2) := if code ≠ 0 then (Answer.mk none false [], s1) else s1.search cid cmd.herd set key none
          let bad := !a.bad.isEmpty
          let pass := code == 0 && !bad && (match a.hit with | some x => bitAt (entryResult x.2) 0 | none => bitAt (cmd.word 6) 48)
          let miss := if code = 0 ∧ !bad ∧ a.hit.isNone then 1 else 0
          let s3 := if pass then s2.unitStore cid (s2.tableEp cmd) cmd.herd (cmd.word 5 + cmd.num 2 * row) data else s2
          (s3.setNums cid [r + 1, firstCode (cmd.num 1) (if code ≠ 0 then code else if bad then ePoison else 0),
            cmd.num 2 + (if pass then 1 else 0), cmd.num 3 + miss]).filterFrom cid k

def execTableFilter (cid : Nat) (s : State) : Host.Outcome State Fault Refusal :=
  (s.runCmd cid 0x14 (fun s cmd =>
    let set := bitsOf (cmd.word 6) 47 32
    if 4096 ≤ set ∨ s.rd od4010_STATE set ≠ 1 ∨ s.rd od4010_HERD set ≠ cmd.herd then s.finishWith cid eAccess [0, 0, 0]
    else s.filterFrom cid (cmd.word 3 / 2 ^ 32 + 1))).done

end Sys2Proof.Machine
end

