-- ==== Sys2Proof/Machine/Place.lean ====
section
/-! DEFINITION. Placing work on tines (R155, R171, R258, R421–R423): which tines may take work, and windows and threads. -/

namespace Sys2Proof.Machine

/-! ## Temperature bins (R422, R423, Table 2.8) -/

/-- Lower edges of the temperature bins 1 to 7, in °C. -/
def binEdges : List Int := [35, 50, 60, 70, 80, 90, 100]

/-- The temperature bin of a reading in 0.1 °C. -/
def tempBin (t : Int) : Nat := (binEdges.filter (fun e => decide (e * 10 ≤ t))).length

/-- A reading in 0.1 °C lies within 2 °C of a bin. -/
def nearBin (t : Int) (b : Nat) : Bool :=
  (b == 0 || decide (binEdges.getD (b - 1) 0 * 10 - 20 ≤ t)) && (b == 7 || decide (t ≤ binEdges.getD b 0 * 10 + 20))

/-- The reading of a tine's sensor. -/
def State.tineTemp (s : State) (t : Nat) : Int := signed 32 (s.rd od4410_TEMP t)

/-- R423 bars a tine in STATE 1 from work at its temperature. -/
def State.tineBarred (s : State) (t : Nat) : Bool :=
  s.rd od3400_STATE t == 1 &&
  (List.range 8).any (fun b => bitsOf (s.rd od4410_FAIL_BINS t) (4 * b + 3) (4 * b) != 0 && nearBin (s.tineTemp t) b)

/-! ## What a tine runs -/

/-- The page tasks that run on a tine, as commands with their tasks. -/
def State.tasksOn (s : State) (t : Nat) : List PageTask :=
  s.cpu.cmds.flatMap (fun c => c.work.tasks.filter (fun k => k.tine == some t && k.code.isNone))

/-- The unfinished KERNEL commands with threads on a tine. -/
def State.kernelsOn (s : State) (t : Nat) : List Cmd :=
  s.cpu.cmds.filter (fun c => c.kind == 1 && c.tines.contains t && c.launched)

/-- The herds whose commands hold a tine. -/
def State.herdsOn (s : State) (t : Nat) : List Nat :=
  (s.cpu.cmds.filter (fun c => c.launched && (c.tines.contains t || c.work.tasks.any (fun k => k.tine == some t && k.code.isNone)))).map (·.herd)

/-- Hardware threads of a tine that commands hold. -/
def State.threadsHeld (s : State) (t : Nat) : Nat :=
  (s.kernelsOn t).foldl (fun a c => a + bitsOf (c.word 3) 55 48) (s.tasksOn t).length

/-- The parts of a tine's window space that are taken, as first KiB and KiB. -/
def State.windowsHeld (s : State) (t : Nat) : List (Nat × Nat) :=
  (s.kernelsOn t).map (fun c => ((c.window t).1 / 1024, bitsOf (c.word 3) 47 32)) ++ (s.tasksOn t).map (fun k => (k.base, 80))

/-- The lowest free place for a window of `n` KiB in the 1,792 KiB of a tine (R154). -/
def State.windowAt (s : State) (t n : Nat) : Option Nat :=
  let held := (s.windowsHeld t).filter (fun w => w.2 != 0)
  let ends := 0 :: held.map (fun w => w.1 + w.2)
  let ok := ends.filter (fun b => decide (b + n ≤ 1792) && held.all (fun w => decide (b + n ≤ w.1) || decide (w.1 + w.2 ≤ b)))
  ok.foldl (fun best b => match best with | none => some b | some x => some (min x b)) none

/-- A tine is available for placement, whatever it runs now: it works, and no rule of chapters 17 and 19 bars it. -/
def State.tineOpen (s : State) (t : Nat) : Bool :=
  s.tineRuns t && decide (s.rd od3400_STATE t ≤ 1) && !s.tineBarred t && !quadGet s.pwr.hot105 (t / 64) && !quadGet s.pwr.apart30 (t / 64) &&
  s.pwr.request != 2

/-- A tine can take a command of a herd with some threads and a window in KiB. -/
def State.tineFits (s : State) (t herd threads window : Nat) : Bool :=
  s.tineOpen t && (s.herdsOn t).all (· == herd) && !s.flt.fourDue.any (fun x => x.1 == t) && !s.flt.canaries.any (fun k => k.tine == t) &&
  !s.flt.dual.any (fun d => d.tines.contains t) && decide (s.threadsHeld t + threads ≤ 128) && (s.windowAt t window).isSome

/-- Tines in the order of preference of R171: last herd, then quadrant, then number. -/
def State.preferred (s : State) (herd q : Nat) (ts : List Nat) : List Nat :=
  let last := fun (t : Nat) => s.rd od3400_LAST_HERD t == herd
  let near := fun (t : Nat) => t / 64 == q
  ts.filter (fun t => last t && near t) ++ ts.filter (fun t => last t && !near t) ++
  ts.filter (fun t => !last t && near t) ++ ts.filter (fun t => !last t && !near t)

/-- The tines of a ring's mask. -/
def State.maskTines (s : State) (ring : Nat) : List Nat := (List.range 256).filter (fun t => bitAt (s.rd od3410_TINES ring) t)

/-- The generator's state at a launch (R190). -/
def State.srStart (s : State) (seq ordinal : Nat) : Nat :=
  let g := s.rd od3440_SR_SEED 0 ^^^ (seq % 2 ^ 32 * 2 ^ 32) ^^^ ordinal
  if g = 0 then 1 else g

/-- Place a command on a tine: R155, and the generator of R190. -/
def State.placeOn (s : State) (t herd seq ordinal : Nat) : State :=
  let s1 := s.takeTine t herd
  s1.setTine t { s1.tine t with sr := s1.srStart seq ordinal }

end Sys2Proof.Machine
end

