-- ==== Sys2Proof/Machine/Attention.lean ====
section
/-! DEFINITION. The attention engine (chapter 9): page lists, DECODE with its page tasks, the quantizing APPEND, and the
ownership of page lists. -/

namespace Sys2Proof.Machine

/-! ## Page lists (R240–R244) -/

def headDim (dim : Nat) : Nat := 64 * 2 ^ dim

/-- A format that a page stores (R240). -/
def pageFmt (f : Nat) : Bool := f == 9 || f == 7 || f == 3 || f == 1

/-- Bytes of a row's elements and of its scales (R241). -/
def rowBytes (f d : Nat) : Nat := d * fmtWidth f / 8
def rowScales (f d : Nat) : Nat := if fmtBlock f then d / 32 else 0

/-- Bytes of a section of 256 rows (Table 9.1). -/
def sectionBytes (f d : Nat) : Nat := 256 * (rowBytes f d + rowScales f d)

/-- Fields of the header, as a list of its 16 words (Table 9.2). -/
def hdrCapacity (h : List Nat) : Nat := h.getD 1 0 / 2 ^ 32
def hdrSegs (h : List Nat) : Nat := bitsOf (h.getD 1 0) 23 16
def hdrDim (h : List Nat) : Nat := bitsOf (h.getD 1 0) 15 8
def hdrHeads (h : List Nat) : Nat := h.getD 1 0 % 256
def hdrSeg (h : List Nat) (k : Nat) : Nat := h.getD (6 + k) 0
def segFirst (w : Nat) : Nat := w / 2 ^ 32
def segK (w : Nat) : Nat := bitsOf w 15 12
def segV (w : Nat) : Nat := bitsOf w 11 8

/-- Every segment in use is well formed: formats, sections that are supported, and ascending first blocks (R241, R244). -/
def segsOk (h : List Nat) : Bool :=
  let d := headDim (hdrDim h)
  let ws := (List.range (hdrSegs h)).map (hdrSeg h)
  ws.all (fun w => pageFmt (segK w) && pageFmt (segV w) && bitsOf w 31 16 == 0 && w % 256 == 0 &&
    decide (sectionBytes (segK w) d ≤ 65536) && decide (sectionBytes (segV w) d ≤ 65536)) &&
  segFirst (hdrSeg h 0) == 0 &&
  (List.range (hdrSegs h - 1)).all (fun k => decide (segFirst (hdrSeg h k) < segFirst (hdrSeg h (k + 1))))

/-- The header keeps R241, R242 and R244. -/
def headerOk (h : List Nat) : Bool :=
  decide (1 ≤ hdrCapacity h) && decide (hdrCapacity h ≤ 16777216) && bitsOf (h.getD 1 0) 31 24 == 0 &&
  decide (1 ≤ hdrSegs h) && decide (hdrSegs h ≤ 10) && decide (hdrDim h ≤ 2) && decide (1 ≤ hdrHeads h) &&
  decide (hdrHeads h ≤ 128) &&
  (List.range 4).all (fun q => h.getD (2 + q) 0 % 65536 == 0 && decide (h.getD (2 + q) 0 < 2 ^ 57)) && segsOk h

/-- Bytes of a page list (R242). -/
def listBytes (h : List Nat) : Nat := 128 + 8 * hdrHeads h * hdrCapacity h

/-- The segment of a block. -/
def segOf (h : List Nat) (b : Nat) : Nat :=
  (((List.range (hdrSegs h)).map (hdrSeg h)).filter (fun w => decide (segFirst w ≤ b))).getLastD (hdrSeg h 0)

/-- Address of the entry word of a head and block (R242). -/
def entryAddr (list : Nat) (h : List Nat) (head b : Nat) : Nat := list + 128 + 8 * (head * hdrCapacity h + b)

/-- Address of frame `p`, if it lies wholly in the extent that its quadrant's PBASE starts (R243). -/
def State.frameAddr (s : State) (herd : Nat) (h : List Nat) (p : Nat) : Option Nat :=
  let q := p % 4
  let base := h.getD (2 + q) 0
  let a := base + p / 4 * 65536
  match s.extCheck herd a 65536 with
  | some e =>
    if p ≠ 0xFFFFFFFF ∧ s.extBase e = base ∧ s.extSlice e = some q ∧ s.extClass e = 0 ∧ s.extPlace e = 0 then some a else none
  | none => none

/-- Addresses of the key and value sections of a page (R241). -/
def State.sectionAddrs (s : State) (herd : Nat) (h : List Nat) (b entry : Nat) : Option Nat × Option Nat :=
  let w := segOf h b
  let d := headDim (hdrDim h)
  let k := s.frameAddr herd h (entry % 2 ^ 32)
  if sectionBytes (segK w) d + sectionBytes (segV w) d ≤ 65536 then (k, k.map (· + sectionBytes (segK w) d))
  else (k, s.frameAddr herd h (entry / 2 ^ 32 % 2 ^ 32))

/-- The place of a list: code 0 and its extent, where it starts on a 128-B boundary in a local extent of CLASS P and
PLACE 0 that the herd reaches (R242). -/
def State.listPlace (s : State) (herd list : Nat) : Nat × Nat :=
  match s.extCheck herd list 128 with
  | none => (eAccess, 0)
  | some e =>
    if s.fenced e herd (list - s.extBase e) 128 then (eRevoked, e)
    else if list % 128 ≠ 0 ∨ (s.extSlice e).isNone ∨ s.extClass e ≠ 0 ∨ s.extPlace e ≠ 0 then (eFormat, e)
    else (eOk, e)

/-- The header keeps R242 to R244, its list lying within its extent. -/
def State.listOk (s : State) (e list : Nat) (h : List Nat) : Bool :=
  headerOk h && decide (list - s.extBase e + listBytes h ≤ s.extBytes e)

/-! ## Counting -/

/-- Count the codes of attention commands (Table 9.10). -/
def State.attnCount (s : State) (code : Nat) : State :=
  if code = eListChanged then s.bump od3C00_LIST_CHANGED 0 64 1
  else if code = eKeyFormat then s.bump od3C00_KEY_FORMAT 0 64 1
  else if code = eNotOwner then s.bump od3C00_NOT_OWNER 0 64 1
  else s

/-- Finish an attention command. -/
def State.attnFinish (s : State) (cid code : Nat) (res : List Nat) : State := (s.attnCount code).finishWith cid code res

/-- Count an event of the walker of a quadrant (Table 18.1). -/
def State.walkCount (s : State) (herd q j k : Nat) : State := s.tally herd (0x700 + 8 * q + j) k

/-- The quadrant and endpoint of the walker of a command: those of its list's home. -/
def State.listQuad (s : State) (c : Cmd) : Nat :=
  match s.extCheck c.herd (c.word 1) 128 with
  | some e => s.extQuad e
  | none => 0

def State.walker (s : State) (q : Nat) : Nat := s.rd od1100_UNIT_BASE 0 + 8 + q

/-- A load for a command by the walker of a quadrant, and what follows once it is there. -/
def State.walkLoad (s : State) (c : Cmd) (q a n : Nat) (k : State → Nat → List Byte → State) : State :=
  match s.unitLoad c.cid (s.walker q) c.herd a n with
  | (.wait, s1) => s1
  | (.got code data, s1) => k s1 code data

/-! ## Descriptors (R245) -/

/-- A field of an attention descriptor is reserved and not 0, unused and not 0, or outside its range (Table 9.3). QHEADS
and HEAD of a DECODE are judged by the walk (R250). -/
def attnDescOk (d : List Nat) : Bool :=
  let k := bitsOf (d.getD 0 0) 63 56
  let w := fun (i : Nat) => d.getD i 0
  if k = 0x20 then
    w 3 % 2 ^ 37 == 0 && bitAt (w 3) 37 == false && (bitsOf (w 3) 47 44 == 3 || bitsOf (w 3) 47 44 == 1) &&
    (if bitAt (w 3) 43 then decide (1 ≤ bitsOf (w 3) 42 40 ∧ bitsOf (w 3) 42 40 ≤ 3) else bitsOf (w 3) 42 40 == 0) &&
    w 5 % 8 == 0 &&
    (if bitAt (w 3) 38 then (dec32 (w 7 % 2 ^ 32)).isFinite && fpLt fpZero (dec32 (w 7 % 2 ^ 32)) && !(dec32 (w 7 % 2 ^ 32)).isZero
     else w 7 % 2 ^ 32 == 0)
  else if k = 0x21 then
    bitsOf (w 3) 63 38 == 0 && bitsOf (w 3) 36 24 == 0 && bitsOf (w 3) 19 16 == 0 &&
    (bitsOf (w 3) 23 20 == 1 || bitsOf (w 3) 23 20 == 3 || bitsOf (w 3) 23 20 == 4) &&
    decide (1 ≤ w 3 % 65536) && decide (w 3 % 65536 ≤ 4096) && w 5 / 2 ^ 32 == 0 && w 6 == 0 && w 7 == 0
  else if k = 0x22 then
    w 2 == 0 && bitsOf (w 3) 63 32 == 0 && w 3 % 2 ^ 24 == 0 && decide (1 ≤ bitsOf (w 3) 31 24) &&
    decide (bitsOf (w 3) 31 24 ≤ 8) && w 5 / 2 ^ 48 != 0xFFFF && w 6 == 0 && w 7 == 0
  else false

/-! ## Rows (R247, R253) -/

/-- Bounds of a stored scale (Table 9.4). -/
def scaleMin (f : Nat) : Nat := if f = 3 then 3 else 0
def scaleMax (f : Nat) : Nat := if f = 9 then 251 else if f = 7 then 252 else 246

/-- Rank of a key format (Table 9.4). -/
def fmtRank (f : Nat) : Nat := if f = 1 then 3 else if f = 3 then 2 else 1

/-- A stored row as exact values, with the blocks whose scale lies outside the bounds (R253): elements as a number, and
its scale bytes. -/
def decodeRow (f d : Nat) (elems : Nat) (scales : List Byte) : List Fp × Nat :=
  if f = 1 then ((List.range d).map (fun i => decodeF bf16 (packedElem 1 elems i)), 0)
  else
    let xs := scales.map (fun b => if b.toNat < scaleMin f ∨ scaleMax f < b.toNat then 255 else b.toNat)
    ((List.range d).map (fun i => scaleElem f (xs.getD (i / 32) 255) (decodeElem f (packedElem f elems i))),
     (xs.filter (· == 255)).length)

/-- The scale byte of a stored block (R247). -/
def storedScale (f : Nat) (vs : List Fp) : Nat := min (max (blockScale f vs) (scaleMin f)) (scaleMax f)

/-- A stored row from the values of an input row: elements, scales, and the blocks for the counts of R192. -/
def quantizeRow (f : Nat) (vs : List Fp) (draws : List Nat) : List QBlock :=
  (blocksOf (vs.length / 32) vs).zipIdx.map (fun bi => quantizeAt f (storedScale f bi.1) bi.1 ((draws.drop (32 * bi.2)).take 32))

/-- The bytes of a row's elements (R187). -/
def rowElems (f d : Nat) (bs : List QBlock) : List Byte := toLe (rowBytes f d) (packElems (fmtWidth f) (bs.flatMap (·.elems)))

/-- Count what a quantizer has done (R192). -/
def State.countBlocks (s : State) (bs : List QBlock) : State :=
  (s.bump od3440_SATURATED 0 64 (bs.foldl (fun a b => a + b.sat) 0)).bump od3440_NAN_BLOCKS 0 64 (bs.filter (·.scale == 255)).length

/-- The values of a quantized block. -/
def blockVals (f : Nat) (b : QBlock) : List Fp := b.elems.map (fun e => scaleElem f b.scale (decodeElem f e))

/-- Values converted to a working format, E4M3 or bfloat16 (R253, R255). -/
def toWorking (f : Nat) (vs : List Fp) : List Fp × List QBlock :=
  if f = 1 then (vs.map (fun v => decodeF bf16 (encodeF bf16 v)), [])
  else
    let bs := (blocksOf (vs.length / 32) vs).map (fun b => quantizeBlock 3 b [])
    (bs.flatMap (blockVals 3), bs)

/-! ## Arithmetic of a page (R255) -/

def log2e : Nat := 0x3FB8AA3B
def minusTwo : Nat := 0xC0000000
def negInf : Nat := 0xFF800000

def copysign32 (a b : Nat) : Nat := a % 2 ^ 31 + b / 2 ^ 31 % 2 * 2 ^ 31

/-- The score of a key for a query (R255, step 2); `cap` is none without CAPEN. -/
def score (scale : Nat) (cap : Option Nat) (q k : List Fp) : Nat :=
  let x := mul32 (mmaElem (q.length / 32) 0 q k) scale
  match cap with
  | none => x
  | some c =>
    let u := div32 x c
    let z := exp2Of (mul32 (mul32 minusTwo (u % 2 ^ 31)) log2e)
    mul32 c (copysign32 (mul32 (sub32 one32 z) (rcpOf (add32 one32 z))) u)

/-- The partial of one query head: m, l, and o (R255, step 3). `ks` and `vs` are the 256 rows of the page, none where
masked off. -/
def partialOf (vwf d scale : Nat) (cap : Option Nat) (q : List Fp) (ks vs : List (Option (List Fp))) : List Nat × List QBlock :=
  let sc := ks.map (fun k => k.map (score scale cap q))
  let m := sc.foldl (fun a x => match x with | some v => max32 a v | none => a) negInf
  let p := sc.map (fun x => match x with | some v => exp2Of (mul32 (sub32 v m) log2e) | none => 0)
  let (pv, bs) := toWorking vwf (p.map dec32)
  let o := (List.range d).map (fun j => mmaElem 8 0 pv (vs.map (fun v => (v.getD []).getD j fpZero)))
  ([m, vsum p] ++ o, bs)

/-- The partials of every query head, one after the other, and the blocks that the quantizer of p wrote. The queries are
in the key working format. -/
def pagePartials (vwf d scale : Nat) (cap : Option Nat) (qs : List (List Fp)) (ks vs : List (Option (List Fp))) :
    List Nat × List QBlock :=
  qs.foldl (fun a q =>
    let (x, bs) := partialOf vwf d scale cap q ks vs
    (a.1 ++ x, a.2 ++ bs)) ([], [])

/-! ## Combining (R256) -/

/-- Combine the partials of two runs of pages for one query head. -/
def combinePartials (x y : List Nat) : List Nat :=
  let m1 := x.getD 0 0
  let m2 := y.getD 0 0
  let m := max32 m1 m2
  let a1 := if m1 = negInf then 0 else exp2Of (mul32 (sub32 m1 m) log2e)
  let a2 := if m2 = negInf then 0 else exp2Of (mul32 (sub32 m2 m) log2e)
  let f := fun (p : Nat × Nat) => add32 (mul32 a1 p.1) (mul32 a2 p.2)
  m :: ((x.drop 1).zip (y.drop 1)).map f

/-- ln of a binary32 pattern (R256): special values as R197 has them for the other functions, an exact 0, and otherwise
a pattern within the bound of two units in the last place. -/
def ln32 (x : Nat) : Nat :=
  match dec32 x with
  | .nan s p => enc32 (.nan s p)
  | .inf s => if s then 0x7FC00000 else 0x7F800000
  | .fin s m e =>
    if m = 0 then negInf
    else if s then 0x7FC00000
    else
      let v := lnFix m e
      if v = 0 then 0 else encodeDown f32 (decide (v < 0)) v.natAbs (-96) + Config.ln x % 4 - 1

/-- Final values of one query head from its combined partial: o and lse. -/
def finalHead (d : Nat) (x : Option (List Nat)) : List Nat × Nat :=
  match x with
  | none => (List.replicate d 0, negInf)
  | some p =>
    let l := p.getD 1 0
    ((p.drop 2).map (fun o => mul32 o (rcpOf l)), add32 (p.getD 0 0) (ln32 l))

/-- The partial of query head i in the list of a page task. -/
def headPart (d i : Nat) (part : List Nat) : List Nat := (part.drop (i * (d + 2))).take (d + 2)

/-- OUT from the partials of the pages in ascending block order (R256, R257). -/
def outBytes (d heads : Nat) (parts : List (List Nat)) : List Byte :=
  let fs := (List.range heads).map (fun i =>
    let hs := parts.map (headPart d i)
    finalHead d (match hs with | [] => none | p :: ps => some (ps.foldl combinePartials p)))
  let bs := bytes32 (fs.flatMap (·.1)) ++ bytes32 (fs.map (·.2))
  bs ++ List.replicate (ceilDiv bs.length 8 * 8 - bs.length) 0

def outLen (d heads : Nat) : Nat := ceilDiv (heads * (d + 1) * 4) 8 * 8

/-! ## DECODE (R250)

`work.nums` of a DECODE is [LENGTH, EPOCH, time of the last read of H0, pages, d, CODE, W4, W5, 1 once the query is counted];
the phases are 0 new, 1 H0 under way, 2 H0 was odd, 3 header and entry words, 4 page tasks, 5 final H0, 6 stores of OUT,
7 stores of its poison after a store failed. -/

def qheadsOf (c : Cmd) : Nat := bitsOf (c.word 3) 63 56

def State.setNum (s : State) (cid i v : Nat) : State :=
  s.setWork cid (fun w => { w with nums := (w.nums ++ List.replicate (9 - w.nums.length) 0).set i v })

/-- W5 of a DECODE (Table 9.5). -/
def decodeW5 (c : Cmd) (cause : Nat) : Nat := c.num 1 % 2 ^ 32 * 2 ^ 32 + c.work.try_ * 16 + cause

/-- Store OUT and end once the stores are acknowledged. -/
def State.decodeOut (s : State) (c : Cmd) (code w4 w5 : Nat) (out : List Byte) : State :=
  let s1 := s.clearIo c.cid
  let s2 := ((s1.unitStore c.cid (s1.walker (s1.listQuad c)) c.herd (c.word 5) out).setNum c.cid 5 code).setNum c.cid 6 w4
  (s2.setNum c.cid 7 w5).setPhase c.cid (if c.work.phase = 6 then 7 else 6)

/-- fail of R250: every word of OUT becomes poison. Before DIM has been read, and where it is no value of Table 9.2, those are
the words that every d gives OUT (log entry 96). -/
def State.decodeFail (s : State) (c : Cmd) (code cause : Nat) : State :=
  s.decodeOut c code 0 (decodeW5 c cause) (poisonBytes (outLen (if c.num 4 = 0 then headDim 0 else c.num 4) (qheadsOf c)))

/-- The pages of a block, as a task. -/
def State.pageTask (s : State) (c : Cmd) (h : List Nat) (first len b entry : Nat) : PageTask :=
  let a := s.sectionAddrs c.herd h b entry
  { block := b, frame := entry % 2 ^ 32, kaddr := a.1, vaddr := a.2, kf := segK (segOf h b), vf := segV (segOf h b),
    lo := max first (256 * b) - 256 * b, hi := min len (256 * b + 256) - 256 * b, tine := none, base := 0, code := none, part := [] }

/-- The attended blocks of a snapshot. -/
def attended (first len : Nat) : List Nat := if len ≤ first then [] else (List.range ((len - 1) / 256 + 1)).drop (first / 256)

/-- The first attended token of the list. -/
def firstToken (c : Cmd) : Nat := c.word 6 % 2 ^ 32 - c.word 6 / 2 ^ 32

/-- Bytes of the entry words of some blocks of the command's head, from the first to the last. -/
def entrySpan (c : Cmd) (h : List Nat) (bs : List Nat) : Nat × Nat :=
  match bs with
  | [] => (c.word 1, 0)
  | b :: _ => (entryAddr (c.word 1) h (bitsOf (c.word 3) 55 48) b, 8 * bs.length)

/-- Header, checks, entry words, page tasks. -/
def State.decodeHeader (s : State) (c : Cmd) : State :=
  let q := s.listQuad c
  s.walkLoad c q (c.word 1) 128 (fun s code data =>
    let h := wordsOf 16 data
    let (pc, e) := s.listPlace c.herd (c.word 1)
    let first := firstToken c
    let len := c.num 0
    if code ≠ 0 then s.decodeFail c code 0
    else if pc ≠ 0 ∨ !s.listOk e (c.word 1) h ∨ hdrHeads h ≤ bitsOf (c.word 3) 55 48 ∨ qheadsOf c = 0 ∨ 64 < qheadsOf c then
      s.decodeFail c (if pc ≠ 0 then pc else eFormat) 0
    else
      let bs := attended first len
      if bitAt (c.word 3) 43 && bs.any (fun b => decide (fmtRank (segK (segOf h b)) < bitsOf (c.word 3) 42 40)) then
        s.decodeFail c eKeyFormat 0
      else
        let (a, n) := entrySpan c h bs
        s.walkLoad c q a n (fun s code data =>
          let tasks := bs.zipIdx.map (fun x =>
            let t := s.pageTask c h first len x.1 (leNat ((data.drop (8 * x.2)).take 8))
            if code ≠ 0 then { t with code := some code } else t)
          (((s.setWork c.cid (fun w => { w with tasks := tasks })).setNum c.cid 4 (headDim (hdrDim h))).clearIo c.cid).setPhase c.cid 4))

/-- Start the page tasks that wait, while a tine has room (R258). -/
def State.startTask (s : State) (cid i : Nat) : State :=
  match s.cmd cid with
  | none => s
  | some c =>
    match c.work.tasks[i]? with
    | none => s
    | some k =>
      if k.tine.isSome ∨ k.code.isSome then s
      else
        let home := s.listQuad c
        let mask := s.maskTines c.ring
        let near := mask.filter (fun t => t / 64 == k.frame % 4 && s.tineOpen t)
        let pool := if near.isEmpty then mask.filter (fun t => t / 64 == home) else near
        let fits := pool.filter (fun t => s.tineFits t c.herd 1 80 && decide ((s.tasksOn t).length < 8))
        match s.preferred c.herd home fits with
        | [] => s
        | t :: _ =>
          let base := (s.windowAt t 80).getD 0
          let s1 := s.takeTine t c.herd
          let s2 := match s1.cmd cid with
            | some c1 => s1.setCmd { c1 with tines := if c1.tines.contains t then c1.tines else c1.tines ++ [t] }
            | none => s1
          s2.setWork cid (fun w => { w with tasks := w.tasks.set i { k with tine := some t, base := base } })

def State.startTasks (s : State) (cid : Nat) : State :=
  match s.cmd cid with
  | some c => foldState s (List.range c.work.tasks.length) (fun s i => s.startTask cid i)
  | none => s

/-- The read of H0: of the snapshot (phases 1 and 2), and H1 with it for DIM, or the final one (phase 5). -/
def State.decodeH0 (s : State) (c : Cmd) : State :=
  s.walkLoad c (s.listQuad c) (c.word 1) 16 (fun s code data =>
    let s := s.clearIo c.cid
    let len := leNat (data.take 4)
    let ep := leNat ((data.drop 4).take 4)
    let dim := hdrDim (wordsOf 2 data)
    let d := if dim ≤ 2 then headDim dim else 0
    if code ≠ 0 then s.decodeFail c code 0
    else if c.work.phase = 5 then
      if ep = c.num 1 then
        let first := firstToken c
        let s1 := s.setWork c.cid (fun w => { w with tasks := [] })
        s1.decodeOut c eOk (c.num 0 * 2 ^ 32 + (c.num 0 - first)) (decodeW5 c 0)
          (outBytes (c.num 4) (qheadsOf c) (c.work.tasks.map (·.part)))
      else if !bitAt (c.word 3) 39 ∨ c.work.try_ = 2 then s.decodeFail c eListChanged 2
      else
        (s.walkCount c.herd (s.listQuad c) 7 1).setWork c.cid (fun w => { w with phase := 1, since := s.clk, try_ := 2, tasks := [] })
    else
      let s1 := ((s.setNum c.cid 0 len).setNum c.cid 1 ep).setNum c.cid 4 d
      if ep % 2 = 1 then
        if s.past c.work.since (s.rd od3C00_EDIT_TIMEOUT 0 * 1000) then
          s1.decodeFail { c with work := { c.work with nums := [len, ep, 0, 0, d] } } eListChanged 1
        else (s1.setNum c.cid 2 s.clk).setPhase c.cid 2
      else s1.setPhase c.cid 3)

/-- Every page task has ended: the first failure in block order, or the final read. -/
def State.decodeTasks (s : State) (c : Cmd) : State :=
  if c.work.tasks.all (fun k => k.code.isSome) then
    match c.work.tasks.find? (fun k => k.code != some 0) with
    | some k => (s.setWork c.cid (fun w => { w with tasks := [] })).decodeFail c (k.code.getD eAccess) 0
    | none => s.setPhase c.cid 5
  else s.startTasks c.cid

/-- The command has its answers: it is complete. A result of which a store failed is poisoned first: a command that fails
leaves nothing but poison. -/
def State.decodeEnd (s : State) (c : Cmd) : State :=
  if !s.ioSettled c.cid then s
  else if c.num 5 = eOk ∧ s.storeCode c.cid ≠ eOk then s.decodeFail c (s.storeCode c.cid) 0
  else s.attnFinish c.cid (c.num 5) [c.num 6, c.num 7, c.num 3 * 2 ^ 32]

/-- One phase. -/
def State.decodePhase (s : State) (c : Cmd) : State :=
  match c.work.phase with
  | 0 =>
    let (pc, _) := s.listPlace c.herd (c.word 1)
    let s1 := s.walkCount c.herd (s.listQuad c) 2 1
    let c1 := { c with work := { c.work with since := s.clk, try_ := 1 } }
    if pc ≠ 0 then (s1.setCmd c1).decodeFail c1 pc 0
    else s1.setCmd { c1 with work := { c1.work with phase := 1 } }
  | 1 => s.decodeH0 c
  | 3 => s.decodeHeader c
  | 4 => s.decodeTasks c
  | 5 => s.decodeH0 c
  | 6 => s.decodeEnd c
  | 7 => s.decodeEnd c
  | _ => s

/-- Go on until a phase waits. -/
def State.decodeGo (s : State) (cid : Nat) : Nat → State
  | 0 => s
  | k + 1 =>
    match s.cmd cid with
    | none => s
    | some c =>
      if c.finished then s
      else
        let s1 := s.decodePhase c
        match s1.cmd cid with
        | some d => if d.work.phase = c.work.phase then s1 else s1.decodeGo cid k
        | none => s1

/-- DECODE starts, or takes up the answers that have come since. -/
def execAttnDecode (cid : Nat) (s : State) : Host.Outcome State Fault Refusal :=
  (s.runCmd cid 0x20 (fun s _ => s.decodeGo cid 16)).done

/-- The rows lo to hi − 1 of a section: their elements, then their scales. -/
def State.sectionLoad (s : State) (c : Cmd) (q a f d lo hi : Nat) (k : State → Nat → List Byte → List Byte → State) : State :=
  s.walkLoad c q (a + lo * rowBytes f d) ((hi - lo) * rowBytes f d) (fun s code elems =>
    s.walkLoad c q (a + 256 * rowBytes f d + lo * rowScales f d) ((hi - lo) * rowScales f d) (fun s code2 scales =>
      k s (firstCode code code2) elems scales))

/-- The 256 rows of a section, none outside lo to hi − 1, with the blocks out of bounds. -/
def rowsOf (f d lo hi : Nat) (elems scales : List Byte) : List (Option (List Fp)) × Nat :=
  let one := fun (t : Nat) =>
    decodeRow f d (leNat ((elems.drop ((t - lo) * rowBytes f d)).take (rowBytes f d))) ((scales.drop ((t - lo) * rowScales f d)).take (rowScales f d))
  ((List.range 256).map (fun t => if lo ≤ t ∧ t < hi then some (one t).1 else none),
   ((List.range (hi - lo)).map (fun i => (one (lo + i)).2)).foldl (· + ·) 0)

/-- End a page task. -/
def State.endTask (s : State) (cid i code : Nat) (part : List Nat) : State :=
  (s.setWork cid (fun w => { w with tasks := w.tasks.modify i (fun k => { k with code := some code, part := part }) })).decodeGo cid 16

/-- The bytes that a copy of a page leaves in the window of its task: R258 gives their number and no order. -/
def State.copyRows (s : State) (t base : Nat) (rows : List Byte) : State :=
  let old := s.readSram t (base * 1024) 81920
  s.writeSram t (base * 1024) (old.zipIdx.map (fun x => ((Config.taskRow rows.length x.2).bind (rows[·]?)).getD x.1))

/-- Run a page task (R255, R258, R259). The query is converted, and what that conversion did is counted, once per command. -/
def State.runTask (s : State) (c : Cmd) (i : Nat) (k : PageTask) : State :=
  let q := k.frame % 4
  let d := c.num 4
  match k.kaddr, k.vaddr with
  | some ka, some va =>
    s.walkLoad c (s.listQuad c) (c.word 2) (qheadsOf c * d * 2) (fun s qcode qs =>
      s.sectionLoad c q ka k.kf d k.lo k.hi (fun s kcode ke ks =>
        s.sectionLoad c q va k.vf d k.lo k.hi (fun s vcode ve vs =>
          let code := firstCode qcode (firstCode kcode vcode)
          let bytes := ke.length + ks.length + ve.length + vs.length
          let s0 := s.copyRows (k.tine.getD 0) k.base (ke ++ ks ++ ve ++ vs)
          let s1 := (((s0.walkCount c.herd q 0 1).walkCount c.herd q 1 (ceilDiv bytes 64)).scopeAdd c.cid 9 1).setNum c.cid 3 (c.num 3 + 1)
          if code ≠ 0 then s1.endTask c.cid i code []
          else
            let kr := rowsOf k.kf d k.lo k.hi ke ks
            let vr := rowsOf k.vf d k.lo k.hi ve vs
            let wf := bitsOf (c.word 3) 47 44
            let kwf := if wf = 1 ∨ k.kf = 1 then 1 else 3
            let vwf := if wf = 1 ∨ k.vf = 1 then 1 else 3
            let heads := (List.range (qheadsOf c)).map (fun h =>
              (List.range d).map (fun j => decodeF bf16 (leNat ((qs.drop (2 * (h * d + j))).take 2))))
            let qw := heads.map (toWorking kwf)
            let r := pagePartials vwf d (c.word 7 / 2 ^ 32) (if bitAt (c.word 3) 38 then some (c.word 7 % 2 ^ 32) else none)
              (qw.map (·.1)) kr.1 vr.1
            let s2 := if kwf = 3 ∧ c.num 8 = 0 then (s1.countBlocks (qw.flatMap (·.2))).setNum c.cid 8 1 else s1
            ((s2.bump od3C00_SCALE_BOUNDS 0 64 (kr.2 + vr.2)).countBlocks r.2).endTask c.cid i 0 r.1)))
  | _, _ => s.endTask c.cid i eAccess []

/-- A page task ends; the last one lets the command go on. -/
def execPageTaskDone (cid task : Nat) (s : State) : Host.Outcome State Fault Refusal :=
  (s.runCmd cid 0x20 (fun s c =>
    match c.work.tasks[task]? with
    | some k => if c.work.phase = 4 ∧ k.tine.isSome ∧ k.code.isNone then s.runTask c task k else s
    | none => s)).done

/-! ## Ownership records (R260–R263) -/

def State.ownRec (s : State) (e list : Nat) : Option OwnRec := s.own.find? (fun r => r.ext == e && r.list == list)

/-- Records of one home slice. -/
def State.ownsOf (s : State) (q : Option Nat) : List OwnRec := s.own.filter (fun r => s.extSlice r.ext == q)

def State.putOwn (s : State) (r : OwnRec) : State :=
  if (s.ownRec r.ext r.list).isSome then
    { s with own := s.own.map (fun x => if x.ext = r.ext ∧ x.list = r.list then r else x) }
  else ({ s with own := s.own ++ [r] }).ownKept

/-- Words W0 to W2 of a record (Table 9.7). -/
def ownWords (r : Option OwnRec) : List Nat :=
  match r with
  | some r => [r.state * 2 ^ 62 + r.owner * 2 ^ 32 + r.succ * 2 ^ 16, r.epoch * 2 ^ 32, r.prep]
  | none => [0xFFFF * 2 ^ 32 + 0xFFFF * 2 ^ 16, 0, 0]

/-- A record created by CLAIM, before the claim applies. -/
def ownNew (e list : Nat) : OwnRec := ⟨e, list, 0, 0xFFFF, 0xFFFF, 0, 0⟩

/-- What an ownership operation comes to. -/
inductive OwnResult where
  | refuse
  | overflow
  | quota
  | keep
  | put (r : OwnRec)
  | drop

/-- The home runs one ownership operation on the record of LIST, in one core cycle; `f` gets the caller, the successor,
EXPECT and the record. -/
def State.ownOp (s : State) (cid op : Nat) (f : Nat → Nat → Nat → Option OwnRec → Nat → OwnResult) : State :=
  s.runCmd cid 0x22 (fun s c =>
    if bitsOf (c.word 3) 31 24 ≠ op then s
    else
      let list := c.word 1
      let (pc, e) := s.listPlace c.herd list
      let fail := fun (s : State) (code : Nat) => s.attnFinish cid code (ownWords (if pc = eOk then s.ownRec e list else none))
      if pc ≠ 0 then fail s pc
      else if s.mode = 2 then fail s eDegraded
      else
        s.walkLoad c (s.listQuad c) list 128 (fun s code data =>
          if code ≠ 0 then fail s code
          else if !s.listOk e list (wordsOf 16 data) then fail s eFormat
          else
            let w := c.word 5
            match f (w / 2 ^ 48) (bitsOf w 47 32) (w % 2 ^ 32) (s.ownRec e list) e with
            | .refuse => fail s eNotOwner
            | .overflow => fail s eFormat
            | .quota => fail s eQuota
            | .keep => fail s eOk
            | .put r => fail (s.putOwn r) eOk
            | .drop => fail (s.dropOwn (fun r => r.ext == e && r.list == list)) eOk))

/-- Raise EPOCH by 1, unless that would pass its range. -/
def raiseEpoch (r : OwnRec) : OwnResult := if r.epoch = 0xFFFFFFFF then .overflow else .put { r with epoch := r.epoch + 1 }

def execOwnClaim (cid : Nat) (s : State) : Host.Outcome State Fault Refusal :=
  (s.ownOp cid 1 (fun caller _ expect r e =>
    match r with
    | none =>
      if expect ≠ 0 then .refuse
      else if 262144 ≤ (s.ownsOf (s.extSlice e)).length then .quota
      else raiseEpoch { ownNew e (match s.cmd cid with | some c => c.word 1 | none => 0) with state := 1, owner := caller }
    | some r => if r.state = 0 ∧ r.epoch = expect then raiseEpoch { r with state := 1, owner := caller } else .refuse)).done

def execOwnPrepare (cid : Nat) (s : State) : Host.Outcome State Fault Refusal :=
  (s.ownOp cid 2 (fun caller succ expect r e =>
    match r with
    | some r =>
      if r.state = 1 ∧ r.owner = caller ∧ r.epoch = expect ∧ succ ≠ caller ∧ succ ≠ 0xFFFF then
        .put { r with state := 2, succ := succ, prep := s.ft (s.extQuad e) % 2 ^ 64 }
      else .refuse
    | none => .refuse)).done

def execOwnCommit (cid : Nat) (s : State) : Host.Outcome State Fault Refusal :=
  (s.ownOp cid 3 (fun caller _ expect r _ =>
    match r with
    | some r =>
      if r.state = 2 ∧ r.succ = caller ∧ r.epoch = expect then raiseEpoch { r with state := 1, owner := caller, succ := 0xFFFF }
      else if r.state = 1 ∧ r.owner = caller ∧ r.epoch = expect + 1 then .keep
      else .refuse
    | none => .refuse)).done

def execOwnAbort (cid : Nat) (s : State) : Host.Outcome State Fault Refusal :=
  (s.ownOp cid 4 (fun caller _ expect r _ =>
    match r with
    | some r => if r.state = 2 ∧ r.owner = caller ∧ r.epoch = expect then .put { r with state := 1, succ := 0xFFFF } else .refuse
    | none => .refuse)).done

def execOwnRelease (cid : Nat) (s : State) : Host.Outcome State Fault Refusal :=
  (s.ownOp cid 5 (fun caller _ expect r _ =>
    match r with
    | some r => if r.state = 1 ∧ r.owner = caller ∧ r.epoch = expect then raiseEpoch { r with state := 0, owner := 0xFFFF } else .refuse
    | none => .refuse)).done

def execOwnForce (cid : Nat) (s : State) : Host.Outcome State Fault Refusal :=
  (s.ownOp cid 6 (fun caller _ expect r _ =>
    match r with
    | some r => if r.epoch = expect then raiseEpoch { r with state := 1, owner := caller, succ := 0xFFFF } else .refuse
    | none => .refuse)).done

def execOwnQuery (cid : Nat) (s : State) : Host.Outcome State Fault Refusal :=
  (s.ownOp cid 7 (fun _ _ _ _ _ => .keep)).done

def execOwnDrop (cid : Nat) (s : State) : Host.Outcome State Fault Refusal :=
  (s.ownOp cid 8 (fun _ _ expect r _ =>
    match r with
    | some r => if r.state = 0 ∧ r.epoch = expect then .drop else .refuse
    | none => .refuse)).done

/-- Microseconds of fabric time, in its units; what has reached it has passed the exact time. -/
def usToFt (us : Nat) : Nat := ceilDiv (us * 4294967296) 1000000

/-- The hand-off timeout of a record (R263). -/
def State.handoffExpiry (s : State) (i : Nat) : State :=
  match s.own[i]? with
  | none => s
  | some r =>
    let q := s.extQuad r.ext
    if r.state = 2 ∧ r.prep + usToFt (s.rd od3C20_HANDOFF_TIMEOUT 0) ≤ s.ft q then
      ((s.putOwn { r with state := 1, succ := 0xFFFF }).bump od3C00_REVERTS 0 64 1).emit q evHandoffReverted
        (s.extHerd r.ext) 4 q 0 [r.list, r.owner, r.succ]
    else s

/-! ## APPEND (R247, R248)

`work.nums` of an APPEND is [LENGTH, EPOCH, time of the last read of H0, next row, tine]; the phases are 0 new,
1 H0 under way, 2 H0 was odd, 3 header and checks, 4 rows, 5 stores under way. -/

/-- The record lets a command append (R248, R262). -/
def State.mayAppend (s : State) (c : Cmd) : Bool :=
  let (_, e) := s.listPlace c.herd (c.word 1)
  match s.ownRec e (c.word 1) with
  | some r => (r.state == 1 || r.state == 2) && r.epoch == c.word 5 % 2 ^ 32
  | none => false

/-- End an APPEND: LENGTH and the record's EPOCH after the command. Where H0 can no longer be read, LENGTH is that of its last
read. -/
def State.appendFail (s : State) (c : Cmd) (code : Nat) : State :=
  let (_, e) := s.listPlace c.herd (c.word 1)
  let kept := match s.cmd c.cid with | some c1 => c1.num 0 | none => c.num 0
  let len := match s.directLoad c.herd (c.word 1) 4 with | some (0, d, _) => leNat d | _ => kept
  s.attnFinish c.cid code [len * 2 ^ 32 + ((s.ownRec e (c.word 1)).map (·.epoch)).getD 0, 0, 0]

/-- Step 1: H0, and with it the record (step 2). -/
def State.appendH0 (s : State) (c : Cmd) : State :=
  s.walkLoad c (s.listQuad c) (c.word 1) 8 (fun s code data =>
    let s := s.clearIo c.cid
    let ep := leNat (data.drop 4)
    let s1 := (s.setNum c.cid 0 (leNat (data.take 4))).setNum c.cid 1 ep
    if code ≠ 0 then s.appendFail c code
    else if ep % 2 = 1 then
      if s.past c.work.since (s.rd od3C00_EDIT_TIMEOUT 0 * 1000) then s1.appendFail c eListChanged
      else (s1.setNum c.cid 2 s.clk).setPhase c.cid 2
    else if !s.mayAppend c then s1.appendFail c eNotOwner
    else s1.setPhase c.cid 3)

/-- The frames that a block needs are there (step 3). -/
def framesThere (h : List Nat) (b entry : Nat) : Bool :=
  let w := segOf h b
  let d := headDim (hdrDim h)
  entry % 2 ^ 32 != 0xFFFFFFFF &&
  (decide (sectionBytes (segK w) d + sectionBytes (segV w) d ≤ 65536) || entry / 2 ^ 32 % 2 ^ 32 != 0xFFFFFFFF)

/-- The blocks that an append of `n` tokens at `len` fills. -/
def appendBlocks (len n : Nat) : List Nat := (List.range ((len + n - 1) / 256 + 1)).drop (len / 256)

/-- Read the entry words of some blocks for some heads; the code is the first that is not OK. -/
def State.entryWords (s : State) (c : Cmd) (h : List Nat) (b n : Nat) : List Nat → List Byte → Nat →
    (State → Nat → List Byte → State) → State
  | [], acc, code, k => k s code acc
  | head :: rest, acc, code, k =>
    s.walkLoad c (s.listQuad c) (entryAddr (c.word 1) h head b) (8 * n) (fun s cd data =>
      s.entryWords c h b n rest (acc ++ data) (firstCode code cd) k)

/-- Step 3. -/
def State.appendCheck (s : State) (c : Cmd) : State :=
  s.walkLoad c (s.listQuad c) (c.word 1) 128 (fun s code data =>
    let h := wordsOf 16 data
    let (pc, e) := s.listPlace c.herd (c.word 1)
    let n := c.word 3 % 65536
    if code ≠ 0 ∨ pc ≠ 0 then s.appendFail c (firstCode code pc)
    else if !s.listOk e (c.word 1) h ∨ 256 * hdrCapacity h < c.num 0 + n then s.appendFail c eFormat
    else
      let bs := appendBlocks (c.num 0) n
      s.entryWords c h (bs.headD 0) bs.length (List.range (hdrHeads h)) [] 0 (fun s code words =>
        let ok := (List.range (hdrHeads h)).all (fun head => bs.zipIdx.all (fun x =>
          framesThere h x.1 (leNat ((words.drop (8 * (head * bs.length + x.2))).take 8))))
        if code ≠ 0 then s.appendFail c code
        else if !ok then s.appendFail c eFormat
        else (s.clearIo c.cid).setPhase c.cid 4))

/-- Bytes of an input element. -/
def inBytes (f : Nat) : Nat := if f = 1 then 2 else 1

/-- Values of an input row. -/
def inputRow (f d : Nat) (bs : List Byte) : List Fp :=
  (List.range d).map (fun i =>
    let v := leNat ((bs.drop (i * inBytes f)).take (inBytes f))
    if f = 1 then decodeF bf16 v else decodeElem f v)

/-- Quantize and store one row (step 4): its elements and its scales. -/
def State.storeRow (s : State) (c : Cmd) (t f d key sec tok : Nat) (input : List Byte) : State :=
  let fin := bitsOf (c.word 3) 23 20
  if f = 1 then
    let bs := if fin = 1 then input else (inputRow fin d input).flatMap (fun v => toLe 2 (encodeF bf16 v))
    s.unitStore c.cid (s.walker (s.listQuad c)) c.herd (sec + tok * rowBytes f d) bs
  else
    let u := s.tine t
    let sr := bitAt (c.word 3) 37
    let (draws, g) := if sr then drawsFrom (roundedElems f (inputRow fin d input)) u.sr else ([], u.sr)
    let qb := quantizeRow f (inputRow fin d input) draws
    let s1 := (s.setTine t { u with sr := g }).countBlocks qb
    let w := s1.walker (s1.listQuad c)
    let s2 := s1.unitStore c.cid w c.herd (sec + tok * rowBytes f d) (rowElems f d qb)
    s2.unitStorePiece c.cid w c.herd key (sec + 256 * rowBytes f d + tok * rowScales f d) (toLe (rowScales f d) (packElems 8 (qb.map (·.scale))))

/-- The rows in order: token, head, then key before value. -/
def State.appendRows (s : State) (cid : Nat) : Nat → State
  | 0 => s
  | k + 1 =>
    match s.cmd cid with
    | none => s
    | some c =>
      s.walkLoad c (s.listQuad c) (c.word 1) 128 (fun s code hd =>
        let h := wordsOf 16 hd
        let d := headDim (hdrDim h)
        let i := c.num 3
        let heads := hdrHeads h
        let n := i / (2 * heads)
        let head := i / 2 % heads
        let kv := i % 2
        let b := (c.num 0 + n) / 256
        let tok := (c.num 0 + n) % 256
        let sz := d * inBytes (bitsOf (c.word 3) 23 20)
        if code ≠ 0 then s.appendFail c code
        else if 2 * heads * (c.word 3 % 65536) ≤ i then s.setPhase cid 5
        else
          s.walkLoad c (s.listQuad c) (entryAddr (c.word 1) h head b) 8 (fun s code ew =>
            s.walkLoad c (s.listQuad c) (c.word 2 + ((n * heads + head) * 2 + kv) * sz) sz (fun s code2 input =>
              let a := s.sectionAddrs c.herd h b (leNat ew)
              let f := if kv = 0 then segK (segOf h b) else segV (segOf h b)
              let bad := firstCode code code2
              if bad ≠ 0 then s.appendFail c bad
              else match (if kv = 0 then a.1 else a.2) with
                | none => s.appendFail c eAccess
                | some sec =>
                  ((s.storeRow c (c.num 4) f d (2 ^ 60 + i) sec tok input).setNum cid 3 (i + 1)).appendRows cid k)))

/-- The tine that runs an APPEND: one of the ring's mask in the quadrant of the list's home (R248). -/
def State.appendTine (s : State) (c : Cmd) : Option Nat :=
  let q := s.listQuad c
  (s.preferred c.herd q ((s.maskTines c.ring).filter (fun t => t / 64 == q && s.tineFits t c.herd 1 0))).head?

/-- One phase. -/
def State.appendPhase (s : State) (c : Cmd) : State :=
  match c.work.phase with
  | 0 =>
    let (pc, _) := s.listPlace c.herd (c.word 1)
    if pc ≠ 0 then (s.walkCount c.herd (s.listQuad c) 3 1).appendFail c pc
    else match s.appendTine c with
      | none => s
      | some t =>
        let s1 := (s.walkCount c.herd (s.listQuad c) 3 1).placeOn t c.herd (c.word 0) 0
        (s1.setCmd { c with tines := [t], work := { c.work with phase := 1, since := s.clk, try_ := 1 } }).setNum c.cid 4 t
  | 1 => s.appendH0 c
  | 3 => s.appendCheck c
  | 4 => s.appendRows c.cid (2 * 128 * 4096 + 1)
  | _ => s

def State.appendGo (s : State) (cid : Nat) : Nat → State
  | 0 => s
  | k + 1 =>
    match s.cmd cid with
    | none => s
    | some c =>
      if c.finished then s
      else
        let s1 := s.appendPhase c
        match s1.cmd cid with
        | some d => if d.work.phase = c.work.phase then s1 else s1.appendGo cid k
        | none => s1

def execAttnAppend (cid : Nat) (s : State) : Host.Outcome State Fault Refusal :=
  (s.runCmd cid 0x21 (fun s _ => s.appendGo cid 8)).done

/-- Step 5: the publication, in one core cycle at the home. -/
def State.publishAppend (s : State) (c : Cmd) : State :=
  if c.work.phase ≠ 5 ∨ !s.ioSettled c.cid then s
  else
    let bad := s.storeCode c.cid
    let list := c.word 1
    if bad ≠ 0 then s.appendFail c bad
    else match s.directLoad c.herd list 8 with
      | none => s
      | some (code, data, s1) =>
        if code ≠ 0 then s1.appendFail c code
        else if s1.mode = 2 then s1.appendFail c eDegraded
        else if !s1.mayAppend c then s1.appendFail c eNotOwner
        else if leNat (data.take 4) ≠ c.num 0 ∨ leNat (data.drop 4) ≠ c.num 1 then s1.appendFail c eListChanged
        else match s1.directStore c.herd list (toLe 4 (c.num 0 + c.word 3 % 65536)) with
          | none => s1
          | some (code, s2) => s2.appendFail c code

def execAppendPublication (cid : Nat) (s : State) : Host.Outcome State Fault Refusal :=
  (s.runCmd cid 0x21 (fun s c => s.publishAppend c)).done

/-! ## Waiting for an edit (R248, R250) -/

/-- Read H0 again, from phase 2. -/
def State.reread (s : State) (c : Cmd) : State :=
  let s1 := s.setPhase c.cid 1
  if c.kind = 0x20 then s1.decodeGo c.cid 16 else s1.appendGo c.cid 8

/-- The command waits on an odd EPOCH. -/
def editing (c : Cmd) : Bool := (c.kind == 0x20 || c.kind == 0x21) && !c.finished && c.work.phase == 2

def execEpochReread (cid : Nat) (s : State) : Host.Outcome State Fault Refusal :=
  (match s.cmd cid with
   | some c => if editing c && s.past (c.num 2) 1000 && !s.halted then s.reread c else s
   | none => s).done

/-- The edit timeout is over: the read that finds EPOCH still odd ends the command. -/
def execEditTimeoutExpiry (cid : Nat) (s : State) : Host.Outcome State Fault Refusal :=
  (match s.cmd cid with
   | some c => if editing c && s.past c.work.since (s.rd od3C00_EDIT_TIMEOUT 0 * 1000) && !s.halted then s.reread c else s
   | none => s).done

def execHandoffTimeoutExpiry (rec : Nat) (s : State) : Host.Outcome State Fault Refusal := (s.handoffExpiry rec).done

end Sys2Proof.Machine
end

