-- ==== Sys2Proof/Machine/Egress.lean ====
section
/-! DEFINITION. The traffic manager at the egress ports (chapter 12): gates, shapers, fair queueing, and the transmit
queues' entry and exit. -/

namespace Sys2Proof.Machine

/-! ## Gate lists (R308–R311, R313) -/

def State.gateWord (s : State) (p i : Nat) : Nat := s.rd od2460_GATE_ENTRY (1024 * p + i)
def gateOpens (w c : Nat) : Bool := bitAt w (56 + c)
def gateEnds (w : Nat) : Bool := bitAt w 55
def gateNs (w : Nat) : Nat := w % 2 ^ 32

/-- The entries of the segment that begins at entry i: up to the first with END, or entry 1,023. -/
def State.segment (s : State) (p : Nat) : Nat → Nat → List Nat
  | 0, _ => []
  | n + 1, i => if gateEnds (s.gateWord p i) ∨ 1023 ≤ i then [i] else i :: s.segment p n (i + 1)

def State.segOf (s : State) (p first : Nat) : List Nat := s.segment p 1024 first

/-- The time-gated herds that have a transmit queue on a port. -/
def State.gatedHerds (s : State) (p : Nat) : List Nat :=
  ((odListed s.od od2800_TIME_GATED).map (·.1)).filter (fun h => s.timeGated h &&
    (odListed s.od od2400_HERD).any (fun kv => kv.2 == h && s.rd od2400_TYPE kv.1 == 1 && s.rd od2400_PORT kv.1 == p))

/-- A segment may run: intervals in range, reserved bits 0, and each time-gated herd's class open on its own (R309, R313). -/
def State.segValid (s : State) (p first : Nat) : Bool :=
  (s.segOf p first).all (fun i =>
    let w := s.gateWord p i
    decide (32 ≤ gateNs w) && decide (gateNs w ≤ 1000000000) && bitsOf w 54 32 == 0 &&
    (s.gatedHerds p).all (fun h => !gateOpens w (s.rd od2470_TG_CLASS h) ||
      bitsOf w 63 56 == 2 ^ s.rd od2470_TG_CLASS h))

/-- Cycle time of a segment in ns. -/
def State.cycleNs (s : State) (p first : Nat) : Nat := (s.segOf p first).foldl (fun a i => a + gateNs (s.gateWord p i)) 0

def gateNone : GateRun := ⟨0, 0, 0, false⟩
def State.gateRun (s : State) (p : Nat) : GateRun := sparseGet gateNone s.tm.gates p
def State.setGate (s : State) (p : Nat) (g : GateRun) : State :=
  { s with tm := { s.tm with gates := sparseSet gateNone s.tm.gates p g } }

/-- The gates of a port are in force: running, and not waiting for a start. -/
def State.gated (s : State) (p : Nat) : Bool := s.rd od2450_STATE p == 1 && !(s.gateRun p).waits

/-- The gate of a class is open. -/
def State.gateOpen (s : State) (p c : Nat) : Bool := !s.gated p || gateOpens (s.gateWord p (s.rd od2450_CURRENT p)) c

/-- The entry after one of a segment. -/
def State.nextEntry (s : State) (p seg i : Nat) : Nat :=
  if gateEnds (s.gateWord p i) ∨ 1023 ≤ i then seg else i + 1

/-- An instant that lies whole ns after one of fabric time, exactly: 10^9 of these units are one of fabric time. -/
def gateAt (began off : Nat) : Nat := began * 1000000000 + off * 4294967296

/-- Fabric time of a port's quadrant in the units of `gateAt`. -/
def State.gateNow (s : State) (p : Nat) : Nat := s.ft (portQuad p) * 1000000000

/-- The ns at which class c is first shut, at or after `off`, when entry i takes effect; none within a whole cycle. -/
def State.shutAfter (s : State) (p c seg : Nat) : Nat → Nat → Nat → Option Nat
  | 0, _, _ => none
  | n + 1, i, off =>
    if gateOpens (s.gateWord p i) c then s.shutAfter p c seg n (s.nextEntry p seg i) (off + gateNs (s.gateWord p i))
    else some off

/-- The gate-change slots armed on a port, as time and entry. -/
def State.gateTriggers (s : State) (p : Nat) : List (Nat × Nat) :=
  ((odListed s.od od2010_STATE).filter (fun kv =>
    (kv.2 == 1 || (kv.2 == 3 && s.rd od2010_PERIOD kv.1 != 0)) && s.rd od2010_ACTION kv.1 == 1 &&
    bitsOf (s.rd od2010_TARGET kv.1) 23 16 == p)).map (fun kv => (s.rd od2010_TIME kv.1, s.rd od2010_TARGET kv.1 % 1024))

/-- The next closing of a class on a port, in the units of `gateAt` (R311). -/
def State.nextShut (s : State) (p c : Nat) : Option Nat :=
  let g := s.gateRun p
  let cur := s.rd od2450_CURRENT p
  let own :=
    if s.rd od2450_STATE p = 0 then none
    else if g.waits then s.shutAfter p c g.seg 1025 g.seg g.off
    else s.shutAfter p c g.seg 1025 (s.nextEntry p g.seg cur) (g.off + gateNs (s.gateWord p cur))
  let trig := (s.gateTriggers p).filterMap (fun x => (s.shutAfter p c x.2 1025 x.2 0).map (gateAt x.1))
  ((own.map (gateAt g.began)).toList ++ trig).foldl (fun b t => match b with | none => some t | some x => some (min x t)) none

/-- GUARD of a class in ns (R311). -/
def State.guardNs (s : State) (p c : Nat) : Nat := ceilDiv (s.rd (odMaxframe c) p * 8000) (max 1 (s.portRate p))

/-- A frame of class c may start on port p (R304, R311). -/
def State.gatePasses (s : State) (p c : Nat) : Bool :=
  s.gateOpen p c && (match s.nextShut p c with
    | none => true
    | some t => decide (s.gateNow p + gateAt 0 (s.guardNs p c) ≤ t))

/-- Frames of a class that are still being sent when its gate closes are counted (R312). -/
def State.gateOverrun (s : State) (p : Nat) (was : Nat → Bool) : State :=
  match sparseGet (0, 0) s.tm.sending p with
  | (e, c) => if s.up < e ∧ was c ∧ !s.gateOpen p c then s.bump od2450_OVERRUNS p 32 1 else s

/-- Put an entry of a port's list in force. -/
def State.enterGate (s : State) (p seg i began off : Nat) : State :=
  let was := fun c => s.gateOpen p c
  (((s.wr od2450_CURRENT p i).wr od2450_STATE p 1).setGate p ⟨seg, began, off, false⟩).gateOverrun p was

/-- Restart a port's list at an entry (R310); none where the segment may not run. -/
def State.gateChange (s : State) (p i at_ : Nat) : Option State :=
  if s.segValid p i then some (s.enterGate p i i at_ 0) else none

/-- The gate boundary of a port, if it is reached (R309). -/
def State.gateBoundary (s : State) (p : Nat) : State :=
  let g := s.gateRun p
  let cur := s.rd od2450_CURRENT p
  let off := if g.waits then g.off else g.off + gateNs (s.gateWord p cur)
  if s.rd od2450_STATE p = 0 ∨ s.gateNow p < gateAt g.began off then s
  else s.enterGate p g.seg (if g.waits then g.seg else s.nextEntry p g.seg cur) g.began off

/-- A write of 1 to a port's gate STATE (R309). -/
def State.gateStartWrite (s : State) (p : Nat) : Nat × State :=
  let first := s.rd od2450_FIRST p
  if !s.segValid p first then (abRange, s)
  else
    let start := s.rd od2450_START p
    let cyc := s.cycleNs p first
    let off := ceilDiv (s.gateNow p - gateAt start 0) (gateAt 0 cyc) * cyc
    let s1 := ((s.wr od2450_STATE p 1).wr od2450_CURRENT p first).setGate p ⟨first, start, off, true⟩
    (abOk, if gateAt start off ≤ s.gateNow p then s1.enterGate p first first start off else s1)

/-- A write of 0: every gate opens at once. -/
def State.gateStopWrite (s : State) (p : Nat) : State := (s.wr od2450_STATE p 0).setGate p gateNone

/-! ## The credit shaper (R306, R307) -/

/-- CREDIT as it reads: whole bytes, rounded toward zero. -/
def State.creditBytes (s : State) (q : Nat) : Int := if s.rd od2400_SHAPED q = 1 then (s.shaperNow q).tdiv 25600 else 0

/-! ## Transmit queues (R288, R304, R305) -/

/-- The sign of the difference of two tags modulo 2^64: `a` comes before `b`. -/
def tagBefore (a b : Nat) : Bool := decide (0 < signed 64 (b + 2 ^ 64 - a % 2 ^ 64))

/-- The head frame of a queue. -/
def State.headOf (s : State) (q : Nat) : Option TxFrame := s.sw.tx.find? (fun f => f.queue == q)

def State.mapTx (s : State) (id : Nat) (f : TxFrame → TxFrame) : State :=
  { s with sw := { s.sw with tx := s.sw.tx.map (fun x => if x.id = id then f x else x) } }

/-- Tag the head of a queue if it has none yet (R305). -/
def State.tagHead (s : State) (q : Nat) : State :=
  match s.headOf q with
  | none => s
  | some f =>
    if f.tag.isSome then s
    else
      let v := sparseGet 0 s.tm.vtime f.port.val
      let last := sparseGet 0 s.tm.ftag q
      let st := if tagBefore v last then last else v
      let tag := (st + ceilDiv (f.bytes * 65536) (s.rd od2400_WEIGHT q)) % 2 ^ 64
      ({ s with tm := { s.tm with ftag := sparseSet 0 s.tm.ftag q tag } }).mapTx f.id (fun x => { x with tag := some tag })

/-- A frame comes to its transmit queue at a port, or is discarded there (R288, R301, R312, R314). -/
def State.enterTx (s : State) (f : SwFrame) (p : PortId) : State :=
  let b := match f.body with
    | .coll op h pl => if f.ports.length ≠ 1 ∨ op == .result ∨ op == .abort then
        (if s.rd od2810_ROLE p.val = 1 then FrameBody.coll op { h with dst := BitVec.ofNat 16 (s.rd od2810_ENDPOINT p.val) } pl
         else f.body)
      else f.body
    | _ => f.body
  let (q, dflt) := s.classify b f.ingress p.val
  let s00 := s.classifySearch b f.ingress p.val
  let s0 := if dflt then s00.bump od2408_DEFAULTED 0 64 1 else s00
  if s0.rd (odMaxframe f.cls) p.val < bodyBytes b ∨ s0.gateBreak b q p.val then
    let s1 := (s0.charge f.quad f.herd f.source f.cells false).bump od2408_TM_DISCARDS 0 64 1
    match f.owes, f.ingress with
    | true, some i => (s1.creditBack i f.cls f.cells).reopen f.answers
    | _, _ => s1.reopen f.answers
  else
    let onDie := f.source = 4 ∧ (s0.headOf q).isNone
    let s0 := if onDie then (s0.charge f.quad f.herd 4 f.cells false).charge f.quad f.herd 3 f.cells true else s0
    let x : TxFrame := { id := s0.sw.nextId, queue := q, port := p, cells := f.cells, bytes := bodyBytes b,
                         source := if onDie then 3 else f.source, spilled := decide (f.source = 4 ∧ ¬ onDie), entered := s0.ft (portQuad p.val), tag := none,
                         ingress := if f.owes then f.ingress else none,
                         body := b, answers := f.answers }
    ({ s0 with sw := { s0.sw with tx := s0.sw.tx ++ [x], nextId := s0.sw.nextId + 1 } }).tagHead q

/-- The queue may send its head frame (R304). -/
def State.eligible (s : State) (f : TxFrame) : Bool :=
  let c := bodyClass f.body
  !f.spilled && f.tag.isSome && s.gatePasses f.port.val c &&
  (s.rd od2400_SHAPED f.queue == 0 || decide (0 ≤ s.shaperNow f.queue)) &&
  decide (f.cells ≤ listGet (s.link f.port.val).credits c)

/-- The heads of a port's queues. -/
def State.heads (s : State) (p : PortId) : List TxFrame :=
  (((s.sw.tx.filter (fun f => f.port == p)).map (·.queue)).eraseDups).filterMap s.headOf

/-- The eligible head with the smallest tag, the lower queue on a tie. -/
def State.chosen (s : State) (p : PortId) : Option TxFrame :=
  ((s.heads p).filter s.eligible).foldl (fun b f => match b with
    | none => some f
    | some g =>
      let x := f.tag.getD 0; let y := g.tag.getD 0
      if tagBefore x y ∨ (x = y ∧ f.queue < g.queue) then some f else some g) none

/-- The class whose freed cells the next envelope returns: the lowest that has any. -/
def owedClass (l : LinkState) : Option Nat := (List.range 8).find? (fun c => decide (0 < listGet l.owed c))

/-- Give a frame to the link (R71): its SEQ, its copy until it is acknowledged, and the credits that its envelope returns. -/
def State.linkSend (s : State) (p : PortId) (c cells : Nat) (b : FrameBody) : State :=
  let l := s.link p.val
  let back := match owedClass l with | some k => [k, min 65535 (listGet l.owed k)] | none => [0, 0]
  let l1 := { l with
    txSeq := (l.txSeq + 1) % 65536
    unacked := l.unacked ++ [SentFrame.mk l.txSeq b]
    timer := if l.unacked.isEmpty then s.clk else l.timer
    credits := listSet l.credits c (listGet l.credits c - cells)
    owed := listSet l.owed (back.getD 0 0) (listGet l.owed (back.getD 0 0) - back.getD 1 0)
    out := listSet l.out (back.getD 0 0) (listGet l.out (back.getD 0 0) + back.getD 1 0) }
  (((s.setLink p.val l1).sendOn p (s.wire p l.txSeq (back.getD 0 0) (back.getD 1 0) b)).tally (bodyHerd b) (4 * p.val + 1) 1).traceFrame p.val 1 b

/-- A port's frame boundary: the chosen frame is sent (R304, R305). -/
def State.transmit (s : State) (p : PortId) : State :=
  if !s.portUp p.val ∨ s.up < (sparseGet (0, 0) s.tm.sending p.val).1 then s
  else
    match s.chosen p with
    | none => s
    | some f =>
      let c := bodyClass f.body
      let ends := s.up + ceilDiv (f.bytes * 12800) (max 1 (s.portRate p.val))
      let s1 := { s with sw := { s.sw with tx := s.sw.tx.filter (fun x => x.id != f.id) },
                         tm := { s.tm with vtime := sparseSet 0 s.tm.vtime p.val (f.tag.getD 0),
                                           sending := sparseSet (0, 0) s.tm.sending p.val (ends, c) } }
      let s2 := if s.rd od2400_SHAPED f.queue = 1 then s1.setShaper f.queue (s.shaperNow f.queue) ends else s1
      let s3 := (s2.bump od2400_FRAMES f.queue 64 1).charge (portQuad p.val) (bodyHerd f.body) f.source f.cells false
      let s4 := match f.ingress with
        | some i => s3.creditBack i c f.cells
        | none => s3
      (s4.linkSend p c f.cells f.body).tagHead f.queue

/-! ## Sampling (R318) -/

/-- The bin of a value: 0 for 0, k for 2^(k−1) up to 2^k − 1, at most 15. -/
def histBin (v : Nat) : Nat := if v = 0 then 0 else min 15 (Nat.log2 v + 1)

/-- The bin of a delay in ns. -/
def delayBin (ns : Nat) : Nat := if ns < 16 then 1 else min 15 (Nat.log2 (ns / 8) + 1)

/-- Add 1 to a bin of a histogram of 16 little-endian 32-bit counters, saturating. -/
def histAdd (h bin : Nat) : Nat := if bitsOf h (32 * bin + 31) (32 * bin) = 2 ^ 32 - 1 then h else h + 2 ^ (32 * bin)

/-- Depth and delay of a queue at a sampling instant in 1/1024 ns; none for a delay of an empty queue. -/
def State.queueLook (s : State) (q at_ : Nat) : Nat × Option Nat :=
  let ty := s.rd od2400_TYPE q
  if ty = 1 then (s.queueCells q, (s.headOf q).map (fun f => (at_ - f.entered * 1024000000000 / 4294967296) / 1024))
  else if ty = 2 then
    let d := (s.ring q).reissue.length + ((s.ring q).pi + 2 ^ 32 - s.rd od3410_CONSUMED q) % 2 ^ 32
    (d, if d = 0 then none else some (s.nsSince (s.ring q).since))
  else ((s.ringIndex q 0 + 2 ^ 32 - s.ringIndex q 1) % 2 ^ 32, none)

/-- The quadrant whose counter times a queue's samples. -/
def State.queueQuad (s : State) (q : Nat) : Nat :=
  if s.rd od2400_TYPE q = 1 then portQuad (s.rd od2400_PORT q)
  else match s.ringAt q (s.rd od3410_CTRL q) with
    | some (e, _) => s.extQuad e
    | none => 0

/-- The last sampling instant of a queue up to `now`, both in 1/1024 ns, and none before the first. -/
def lastSample (period q now : Nat) : Option Nat :=
  let off := q % 1024 * period
  if now < off then none else some (now - (now - off) % (1024 * period))

/-- The sampling instant that a queue has come to: by the period in force, or by the one before it while the next multiple of a
period newly written lies ahead (R319), none where it has been taken. -/
def State.sampleDue (s : State) (q quad : Nat) : Option Nat :=
  let now := s.ft quad * 1024000000000 / 4294967296
  let (old, turn) := s.tm.periods
  let last := match (lastSample (s.rd od2408_SAMPLE_PERIOD 0) q now).filter (fun t => decide (turn ≤ t)) with
    | some t => some t
    | none => lastSample old q (min now (turn - 1))
  last.filter (fun t => decide (sparseGet 0 s.tm.sampled q ≤ t))

/-- A write to SAMPLE_PERIOD takes effect at the next multiple of the new period (R319). -/
def State.periodWrite (s : State) (v : Nat) : State :=
  let now := s.ft 0 * 1024000000000 / 4294967296
  { s.wr od2408_SAMPLE_PERIOD 0 v with tm := { s.tm with
    periods := (if now < s.tm.periods.2 then s.tm.periods.1 else s.rd od2408_SAMPLE_PERIOD 0, ceilDiv now (1024 * v) * (1024 * v)) } }

/-- Sample a queue at its instant, if one has come since the last sample. -/
def State.sampleQueue (s : State) (q : Nat) : State :=
  if s.rd od2400_TYPE q = 0 then s
  else
    match s.sampleDue q (s.queueQuad q) with
    | none => s
    | some t =>
      let (d, w) := s.queueLook q t
      let s1 := { s with tm := { s.tm with sampled := sparseSet 0 s.tm.sampled q (t + 1) } }
      (s1.wr od2400_DEPTH_HIST q (histAdd (s.rd od2400_DEPTH_HIST q) (histBin d))).wr od2400_DELAY_HIST q
        (histAdd (s.rd od2400_DELAY_HIST q) (match w with | none => 0 | some ns => delayBin ns))

/-- A write of HIST_CLEAR. -/
def State.clearHist (s : State) (q : Nat) : State := (s.wr od2400_DEPTH_HIST q 0).wr od2400_DELAY_HIST q 0

/-! ## Held credits (R296) -/

/-- Return the held credits of a class of a port, if a source can supply the cells. -/
def State.creditRelease (s : State) (p : PortId) (c : Nat) : State :=
  s.sw.heldCr.foldl (fun s h =>
    if h.port = p ∧ h.cls = c ∧ s.canSupply p.val h.cells then
      let l := s.link p.val
      ({ s with sw := { s.sw with heldCr := s.sw.heldCr.erase h } }).setLink p.val
        { l with owed := listSet l.owed c (listGet l.owed c + h.cells) }
    else s) s

/-- A spilled frame is read back on die (R295). -/
def State.readBack (s : State) (id : Nat) : State :=
  match s.sw.tx.find? (fun f => f.id == id) with
  | none => s
  | some f =>
    if !f.spilled then s
    else
      let q := portQuad f.port.val
      let h := bodyHerd f.body
      ((((s.charge q h 4 f.cells false).charge q h 3 f.cells true).mapTx id (fun x => { x with spilled := false, source := 3 })).tally h
        (0x6C0 + 16 * q + 4) f.cells)

/-- Discard a frame on die: its cells and its credit are free. -/
def State.dropTx (s : State) (id : Nat) : State :=
  match s.sw.tx.find? (fun f => f.id == id), s.sw.voq.find? (fun f => f.id == id) with
  | some f, _ =>
    let s1 := ({ s with sw := { s.sw with tx := s.sw.tx.filter (fun x => x.id != id) } }).charge (portQuad f.port.val) (bodyHerd f.body)
      f.source f.cells false
    (match f.ingress with | some i => s1.creditBack i (bodyClass f.body) f.cells | none => s1).tagHead f.queue
  | none, some f =>
    let s1 := ({ s with sw := { s.sw with voq := s.sw.voq.filter (fun x => x.id != id) } }).charge f.quad f.herd f.source f.cells false
    match f.owes, f.ingress with | true, some i => s1.creditBack i f.cls f.cells | _, _ => s1
  | none, none => s

/-- The packet buffer holds a frame: it is queued for a port, or stands in a queue of the crossbar outside a landing store. -/
def State.bufferHolds (s : State) (id : Nat) : Bool :=
  s.sw.tx.any (fun f => f.id == id) || s.sw.voq.any (fun f => f.id == id && !f.express)

/-- Lose the frame whose cell cannot be corrected (R284). -/
def State.loseTx (s : State) (id : Nat) : State :=
  match s.sw.tx.find? (fun f => f.id == id), s.sw.voq.find? (fun f => f.id == id && !f.express) with
  | some f, _ =>
    let q := portQuad f.port.val
    (((((s.dropTx id).reopen f.answers).bump od2300_FRAMES_LOST 0 64 1).tally (bodyHerd f.body) (0x6C0 + 16 * q + 14) 1).emit q evFrameLost 0 1 f.port.val 0 [f.queue])
  | none, some f =>
    ((((s.dropTx id).reopen f.answers).bump od2300_FRAMES_LOST 0 64 1).tally f.herd (0x6C0 + 16 * f.quad + 14) 1).emit f.quad evFrameLost 0 1 ((f.ports.map (·.val)).headD 0) 0
      [(f.ports.map (fun p => (s.classify f.body f.ingress p.val).1)).headD 0]
  | none, none => s

end Sys2Proof.Machine
end

