-- ==== Sys2Proof/Machine/Debug.lean ====
section
/-! DEFINITION. Counters as they are read, counter profiles, trace control and stot (R430–R450). A handler of a write to
the object dictionary answers with the abort code and the state. -/

namespace Sys2Proof.Machine

/-! ## Counters (R430) -/

/-- A counter of an HBM stack's own accesses, refresh or throttling, whose events no rule numbers. -/
def hbmOwn (i : Nat) : Bool := decide (0x680 ≤ i ∧ i < 0x6C0) && i % 8 != 2 && i % 8 != 3

/-- The value of a counter. -/
def State.counter (s : State) (i : Nat) : Nat := if hbmOwn i then Config.hbmCounter i s.up % 2 ^ 64 else s.rd od4800_COUNTER i

/-- A counter ID that Table 18.1 reserves. -/
def counterReserved (i : Nat) : Bool := decide (0x760 ≤ i ∧ i < 0x7C0) || decide (0x7C8 ≤ i)

/-! ## Profiles (R433–R438) -/

def profNew : Profile := ⟨none, 0, 0, false, false, []⟩
def State.prof (s : State) (p : Nat) : Profile := sparseGet profNew s.dbg.profs p
def State.setProf (s : State) (p : Nat) (x : Profile) : State := { s with dbg := { s.dbg with profs := sparseSet profNew s.dbg.profs p x } }

/-- Selector k of a profile. -/
def State.selector (s : State) (p k : Nat) : Nat := bitsOf (s.rd od4810_SLOTS p) (16 * k + 15) (16 * k)

/-- A selector is one that R434 takes. -/
def selectorOk (v : Nat) : Bool :=
  bitsOf v 14 11 == 0 && (if bitAt v 15 then decide (v % 2048 < 12) else !counterReserved (v % 2048))

/-- A command in flight, one that waits to be launched again (R180) included. -/
def State.anyCmd (s : State) (cid : Nat) : Option Cmd :=
  match s.cmd cid with
  | some c => some c
  | none => s.cpu.rings.findSome? (fun kv => kv.2.reissue.find? (fun c => c.cid == cid))

/-- The value that a selector gives now. -/
def State.selected (s : State) (p k : Nat) : Nat :=
  let v := s.selector p k
  let x := s.prof p
  if bitAt v 15 then
    (match x.holder.bind s.anyCmd with | some c => c.scope | none => x.vals).getD (v % 2048) 0
  else s.counter (v % 2048)

/-- A profile record (Table 18.4). -/
def State.profRecord (s : State) (p ty code : Nat) : List Byte :=
  let x := s.prof p
  let q := p / 1024
  let b := fun (c : Bool) => if c then 1 else 0
  bytesOfWords ([ty * 2 ^ 56 + code * 2 ^ 48 + s.qual q * 2 ^ 46 + b x.bound * 2 ^ 45 + b x.ended * 2 ^ 44 + p * 2 ^ 18
      + (if x.bound then x.ring else 0), (if x.bound then x.seq else 0) * 2 ^ 32, s.ft q % 2 ^ 64, 0, 0, 0, 0, 0]
    ++ (List.range 8).map (s.selected p))

/-- A write to a profile's STATE (R434). -/
def State.profileWrite (s : State) (p v : Nat) : Nat × State :=
  if v = 0 then
    if (s.prof p).holder.isSome then (abInUse, s) else (abOk, s.wr od4810_STATE p 0)
  else
    let herd := s.rd od4810_HERD p
    let addr := s.rd od4810_LATCH_ADDR p
    if (List.range 8).any (fun k => !selectorOk (s.selector p k)) then (abRange, s)
    else if !s.herdActive herd ∨ (addr ≠ 0 ∧ (s.ownLocal herd addr (128 * s.rd od4810_LATCH_SLOTS p)).isNone) then (abDenied, s)
    else (abOk, s.wr od4810_STATE p 1)

/-- Store bytes of the A9 in a herd's extent: at once, or as a store of the home slice of a quadrant. -/
def State.storeBy (s : State) (q herd a : Nat) (bs : List Byte) : State :=
  match s.directStore herd a bs with
  | some (_, s1) => s1
  | none =>
    let id := s.tr.nextId
    let h := { hdrFor 0 herd (s.rd od1100_UNIT_BASE 0 + q) 0 (id % 65536) 0 with
      len := BitVec.ofNat 8 (bs.length / 8 - 1), addr := BitVec.ofNat 57 a }
    s.enter { id := id, sender := .home q, op := .store, hdr := h, payload := bs, ext := 0, born := s.clk, place := .rate,
              path := none, dest := 0xFFFF }

/-- A trigger latches a profile (R438); none with LATCH_ADDR 0. -/
def State.latchProfile (s : State) (p : Nat) : Option State :=
  let addr := s.rd od4810_LATCH_ADDR p
  if addr = 0 then none
  else
    let n := s.rd od4810_LATCHES p
    let s1 := s.storeBy (p / 1024) (s.rd od4810_HERD p) (addr + 128 * (n % s.rd od4810_LATCH_SLOTS p)) (s.profRecord p 3 0)
    some ((s1.wr od4810_LATCHES p ((n + 1) % 2 ^ 32)).count 0x7C6 1)

/-- The profiles of a herd are freed once its rings have stopped (R434). -/
def State.freeProfiles (s : State) (herd : Nat) : State :=
  foldState s (((odListed s.od od4810_STATE).map (·.1)).filter (fun p => s.rd od4810_HERD p == herd))
    (fun s p => s.wr od4810_STATE p 0)

/-! ## Trace (R440, R441) -/

/-- A write to trace's STATE. -/
def State.traceWrite (s : State) (v : Nat) : Nat × State :=
  if v = 0 then (abOk, s.wr od4880_STATE 0 0)
  else if s.rd od4100_DEBUG_EFFECTIVE 0 < 2 then (abDenied, s)
  else if s.rd od4880_TRACE_SIZE 0 = 0 then (abRange, s)
  else (abOk, foldState (s.wr od4880_STATE 0 1) [0, 1, 2, 3] (fun s q => s.wr (odWriteOffset q) 0 0))

/-- A write to a filter's STATE. -/
def State.filterWrite (s : State) (f v : Nat) : Nat × State :=
  if v = 1 ∧ s.sealedHerd (s.rd od4890_HERD f) then (abDenied, s) else (abOk, s.wr od4890_STATE f v)

/-! ## Stot (R445–R448, R450) -/

/-- The debug level that a mode needs. -/
def modeLevel (m : Nat) : Nat := if m = 1 then 3 else if m = 2 then 2 else 0

/-- STOT_MODE as it acts at the level in force. -/
def State.stotMode (s : State) : Nat :=
  let m := s.rd od48A0_STOT_MODE 0
  if modeLevel m ≤ s.rd od4100_DEBUG_EFFECTIVE 0 then m else 0

/-- The A9 drives STOT_N low (R446). -/
def State.stotDriven (s : State) : Bool := s.rd od48A0_STATE 0 != 0 || s.dbg.stotDue.isSome

/-- A write of STOT_MODE (R445). -/
def State.stotModeWrite (s : State) (m : Nat) : Nat × State :=
  if s.rd od4100_DEBUG_EFFECTIVE 0 < modeLevel m then (abDenied, s)
  else if m = 2 ∧ s.rd od2300_OVERFLOW_SIZE 0 = 0 ∧ s.rd od4880_TRACE_SIZE 0 = 0 then (abRange, s)
  else (abOk, s.wr od48A0_STOT_MODE 0 m)

/-- A build of the wait-for graph starts, unless one runs. -/
def State.startBuild (s : State) (dump : Bool) : State :=
  if s.dbg.building.isSome then { s with dbg := { s.dbg with buildDump := s.dbg.buildDump || dump } }
  else { s with dbg := { s.dbg with building := some s.clk, buildDump := dump } }.wr od48B0_STATE 0 1

/-- The stop takes hold (R447): trace stops, and in mode 2 a build and a dump begin. -/
def State.stopNow (s : State) (cause : Nat) : State :=
  let m := s.stotMode
  let s1 := { s with dbg := { s.dbg with stotDue := none } }
  if m = 0 then s1
  else
    let s2 := (((s1.endTransition.wr od48A0_STATE 0 (if m = 1 then 1 else 2)).wr od48A0_CAUSE 0 cause).wr od48A0_STOT_TIME 0 (s.ft 0)).wr od4880_STATE 0 0
    if m = 2 then s2.startBuild true else s2

/-- The flush of R108 that PFW_N has started is still running. -/
def State.flushing (s : State) : Bool := s.rd od4C00_FLUSH_STATE 0 == 1

/-- A stot event (R446, R450). An always-on cycle is 16 cycles of the time clock. -/
def State.stotEvent (s : State) (cause : Nat) : State :=
  let s1 := s.count 0x7C4 1
  let same := decide (s.up / 16 = s.dbg.stotUp / 16)
  if s1.stotMode = 0 then s1
  else if s1.rd od48A0_STATE 0 ≠ 0 then
    if same && decide (cause < s1.rd od48A0_CAUSE 0) then s1.wr od48A0_CAUSE 0 cause else s1
  else
    let old := s1.dbg.stotDue
    let s2 := { s1 with dbg := { s1.dbg with stotUp := if old.isSome then s1.dbg.stotUp else s.up } }
    if s2.flushing then
      { s2 with dbg := { s2.dbg with stotDue := match old with
        | some c => if same then some (min c cause) else some c
        | none => some cause } }
    else s2.stopNow cause

/-- The flush has ended: a stop that waited for it takes hold (R450). -/
def State.flushEnded (s : State) : State :=
  match s.dbg.stotDue with
  | some c => s.stopNow c
  | none => s

/-- Bytes of a dump: an open length, at most 256 MiB (R448). -/
def dumpLength (n : Nat) : Nat := Config.dumpLength n % (268435456 + 1)

/-- Bytes k × 1,024 and on of the dump (OD 48A8); what lies in its header and sections is laid out nowhere. -/
def State.dumpBlock (s : State) (k : Nat) : List Byte :=
  (List.range 1024).map (fun i =>
    if 1024 * k + i < s.rd od48A0_DUMP_LENGTH 0 then BitVec.ofNat 8 (Config.dumpByte s.dbg.dump (1024 * k + i)) else 0)

end Sys2Proof.Machine
end

