-- ==== Sys2Proof/Machine/Coherence.lean ====
section
/-! DEFINITION. The messages of the directory protocol, probes that time out, rut, and readers (R129–R152). -/

namespace Sys2Proof.Machine

/-! ## Lines and messages -/

/-- The line `n` of an extent is a line of a local H extent that is in the map. -/
def State.hLine (s : State) (e n : Nat) : Bool :=
  s.extInForce e && s.extClass e == 2 && (s.extSlice e).isSome && decide (n * 128 < s.extBytes e) && !s.halted

/-- The key of line `n` of an extent. -/
def lineNo (e n : Nat) : Nat := lineKey e (n * 128)

/-- An agent that works: the companion over a Jiyth link that is up, or a tine that neither failed nor is off. -/
def State.agentWorks (s : State) (a : Nat) : Bool :=
  if a = 256 then s.rd od1120_JY_STATE 0 == 2 else decide (a < 256) && decide (s.rd od3400_STATE a < 3)

/-- Take a message off the internal network. -/
def State.takeMsg (s : State) (k : CohKind) (a l : Nat) : Option (CohMsg × State) :=
  match s.coh.msgs.find? (fun m => m.kind == k && m.agent == a && m.line == l) with
  | some m => some (m, { s with coh := { s.coh with msgs := s.coh.msgs.erase m } })
  | none => none

/-- The data of a line that an agent holds in M as it gives it back. What the companion did to its copy is outside. -/
def State.ownedData (s : State) (a : Nat) (x : AgentLine) : List Byte × State :=
  if a = 256 then ((List.range 128).map (fun i => BitVec.ofNat 8 (Config.companionByte s.freeN i)), s.fresh) else (x.data, s)

/-- Send DATA. -/
def State.sendData (s : State) (to_ from_ l : Nat) (bs : List Byte) (g : Option AgentLineState) : State :=
  s.post' { kind := .data, agent := to_, other := from_, line := l, data := bs, acks := 0, grant := g, sent := s.clk }

/-! ## Requests of agents (R140–R142, R150) -/

/-- A GETS or GETM of an agent reaches the home. -/
def State.agentGet (s : State) (a e n : Nat) (excl : Bool) : State :=
  let l := lineNo e n
  let enough := match s.held a l with | some x => !excl || x.state == .m | none => false
  if !s.hLine e n || !s.agentWorks a || enough then s
  else if (s.rutCount l).inRut l then
    let s1 := s.rutCount l
    let r := s1.bareReq a l
    (({ s1 with tr := { s1.tr with nextId := s1.tr.nextId + 1 } }).traceCoh (if excl then 1 else 0) a 257 l).rutArrive l
      ⟨65536 + a, some a, excl, r⟩
  else let s := s.rutCount l
  if (s.dirOf l).state == DirStateCode.p then
    (s.traceCoh (if excl then 1 else 0) a 257 l).sendData a 257 l (poisonBytes 128) none
  else s.askLine a l excl

def execGets (a : AgentId) (e : ExtentId) (line : Nat) (s : State) : Host.Outcome State Fault Refusal :=
  (s.agentGet a.val e.val line false).release.done

def execGetm (a : AgentId) (e : ExtentId) (line : Nat) (s : State) : Host.Outcome State Fault Refusal :=
  (s.agentGet a.val e.val line true).release.done

/-- An agent drops an S copy. -/
def State.agentPuts (s : State) (a e n : Nat) : State :=
  let l := lineNo e n
  if !s.hLine e n then s
  else match s.held a l with
    | some x =>
      if x.state = .s then
        let s1 := ((s.traceCoh 2 a 257 l).setHeld a l none).dirTouch l
        if (s1.dirOf l).state == DirStateCode.s then s1.setDir l ((s1.dirOf l).drop a) else s1
      else s
    | none => s

/-- An agent writes back and drops an M line; a probe of it that is out is answered from the data (R142). A copy that a probe
timeout has left behind is dropped, with no effect on its line (R143). -/
def State.agentPutm (s : State) (a e n : Nat) : State :=
  let l := lineNo e n
  if !s.hLine e n then s
  else match s.held a l with
    | some x =>
      if x.state = .m ∧ !s.owns a l then (s.traceCoh 3 a 257 l).setHeld a l none
      else if x.state = .m then
        let (bs, s0) := s.ownedData a x
        let s1 := (((s0.traceCoh 3 a 257 l).setHeld a l none).dirTouch l).writeBack l bs
        match s1.coh.msgs.find? (fun m => m.agent == a && m.line == l && (m.kind == .fwds || m.kind == .fwdm || m.kind == .fwdr)) with
        | some m =>
          let s2 := { s1 with coh := { s1.coh with msgs := s1.coh.msgs.erase m } }
          (s2.setDir l dirNew).sendData m.other 257 l bs (some (if m.kind == .fwdm then .m else .s))
        | none => if s1.lineBusy l then s1 else s1.setDir l dirNew
      else s
    | none => s

def execPuts (a : AgentId) (e : ExtentId) (line : Nat) (s : State) : Host.Outcome State Fault Refusal :=
  (s.agentPuts a.val e.val line).release.done

def execPutm (a : AgentId) (e : ExtentId) (line : Nat) (s : State) : Host.Outcome State Fault Refusal :=
  (s.agentPutm a.val e.val line).release.done

/-! ## Probes and answers (Table 5.6) -/

/-- The owner answers a FWDS, FWDM or FWDR: DATA to the requester or the home, a write-back unless the line moves on in M,
and its own next state. -/
def State.answerForward (s : State) (k : CohKind) (a e n : Nat) : State :=
  let l := lineNo e n
  if !s.hLine e n || !s.agentWorks a then s
  else match s.held a l, s.takeMsg k a l with
    | some x, some (m, s1) =>
      let (bs, s2) := s1.ownedData a x
      let keep := k != .fwdm
      let s3 := s2.setHeld a l (if keep then some ⟨.s, bs⟩ else none)
      (if keep then s3.writeBack l bs else s3).sendData m.other a l bs (some (if keep then .s else .m))
    | _, _ => s

def execFwds (a : AgentId) (e : ExtentId) (line : Nat) (s : State) : Host.Outcome State Fault Refusal :=
  (s.answerForward .fwds a.val e.val line).done

def execFwdm (a : AgentId) (e : ExtentId) (line : Nat) (s : State) : Host.Outcome State Fault Refusal :=
  (s.answerForward .fwdm a.val e.val line).done

def execFwdr (a : AgentId) (e : ExtentId) (line : Nat) (s : State) : Host.Outcome State Fault Refusal :=
  (s.answerForward .fwdr a.val e.val line).done

/-- A sharer drops its copy and answers; one that holds none answers at once. -/
def State.answerInv (s : State) (a e n : Nat) : State :=
  let l := lineNo e n
  if !s.hLine e n || !s.agentWorks a then s
  else match s.takeMsg .inv a l with
    | some (m, s1) => (s1.setHeld a l none).post'
        { kind := .invack, agent := m.other, other := a, line := l, data := [], acks := 0, grant := none, sent := s.clk }
    | none => s

def execCohInv (a : AgentId) (e : ExtentId) (line : Nat) (s : State) : Host.Outcome State Fault Refusal :=
  (s.answerInv a.val e.val line).done

/-- A sharer counts as answered. -/
def State.countAck (s : State) (l : Nat) : State :=
  match s.txnOf l with
  | some t => (s.setTxn { t with got := t.got + 1 }).txnStep l
  | none => s

def State.takeInvack (s : State) (a e n : Nat) : State :=
  let l := lineNo e n
  if !s.hLine e n then s
  else match s.takeMsg .invack a l with
    | some (_, s1) => s1.countAck l
    | none => s

def execInvack (a : AgentId) (e : ExtentId) (line : Nat) (s : State) : Host.Outcome State Fault Refusal :=
  (s.takeInvack a.val e.val line).release.done

/-- DATA reaches its receiver; without a grant it ends nothing (R150). -/
def State.takeData (s : State) (a e n : Nat) : State :=
  let l := lineNo e n
  if !s.hLine e n then s
  else match s.takeMsg .data a l with
    | some (m, s1) =>
      if m.grant.isNone then s1
      else match s1.txnOf l with
        | some t => (s1.setTxn { t with data := some m.data, due := some (t.due.getD m.acks), probe := false }).txnStep l
        | none => s1
    | none => s

def execCohData (a : AgentId) (e : ExtentId) (line : Nat) (s : State) : Host.Outcome State Fault Refusal :=
  (s.takeData a.val e.val line).release.done

/-- COMPACK reaches the home: the directory takes its next state (Table 5.7), and the line is free. -/
def State.takeCompack (s : State) (a e n : Nat) : State :=
  let l := lineNo e n
  if !s.hLine e n then s
  else match s.takeMsg .compack a l, s.txnOf l with
    | some (_, s1), some t =>
      let d := s1.dirOf l
      let d1 :=
        if t.excl then (if (s1.held a l).isSome then dirOwned a else dirNew)
        else match d.state with
          | .m => (dirShared [d.owner]).add a
          | .s => d.add a
          | _ => dirShared [a]
      ((s1.setDir l d1).dropTxn l).freeLine l
    | _, _ => s

def execCompack (a : AgentId) (e : ExtentId) (line : Nat) (s : State) : Host.Outcome State Fault Refusal :=
  (s.takeCompack a.val e.val line).release.done

/-! ## Probe timeouts (R143) -/

/-- The waiting transaction of a line that has become P: its agent receives poison, its request completes with E_POISON. -/
def State.poisonTxn (s : State) (l : Nat) : State :=
  match s.txnOf l with
  | none => s
  | some t =>
    match t.agent, t.req with
    | some a, _ =>
      let s1 := s.dropTxn l
      (if a = 256 then s1.sendData a 257 l (poisonBytes 128) none else s1.agentTry a).freeLine l
    | none, some r =>
      let ls := (s.coh.txns.filter (fun (x : LineTxn) => (x.req.map Req.id) == some r.id)).map LineTxn.line
      let s1 := { s with coh := { s.coh with txns := s.coh.txns.filter (fun (x : LineTxn) => (x.req.map Req.id) != some r.id) } }
      foldState (s1.complete r ePoison 0 []) ls State.freeLine
    | none, none => (s.dropTxn l).freeLine l

/-- The event of R143: at the home slice, naming the line's address and the agent. -/
def State.probeEvent (s : State) (a e l : Nat) : State :=
  s.emit (s.extQuad e) evProbeTimeout (s.extHerd e) 4 (s.extQuad e) 0 [s.extBase e + lineOff l, a]

/-- An agent has not answered a probe in time. -/
def State.probeTimeout (s : State) (a e n : Nat) : State :=
  let l := lineNo e n
  let probe := fun (m : CohMsg) => m.kind == .inv || m.kind == .fwds || m.kind == .fwdm || m.kind == .fwdr
  if !s.hLine e n then s
  else match s.coh.msgs.find? (fun m => m.agent == a && m.line == l && probe m) with
    | none => s
    | some m =>
      if !s.past m.sent (s.rd od3000_PROBE_TIMEOUT 0 * 1000) then s
      else
        let s1 := ({ s with coh := { s.coh with msgs := s.coh.msgs.erase m } }).probeEvent a e l
        if m.kind = .inv then s1.countAck l
        else (s1.setDir l dirPoison).poisonTxn l

def execProbeTimeoutExpiry (a : AgentId) (e : ExtentId) (line : Nat) (s : State) : Host.Outcome State Fault Refusal :=
  (s.probeTimeout a.val e.val line).release.done

/-! ## Rut (R148–R152) -/

/-- Step 4 of R149 may run: nothing blocks the line, an H line has been recalled, and its granule stands in T1. -/
def State.rutReady (s : State) (l : Nat) : Bool :=
  let e := lineExt l
  let g := lineOff l / granuleBytes
  let d := s.gran e g
  !s.lineBusy l && (s.extClass e != 2 || (s.dirOf l).state == DirStateCode.u || (s.dirOf l).state == DirStateCode.p) &&
  (decide (d.tier ≤ 1) || (d.cached && !s.chunkPending e g (lineOff l / chunkBytes % 32)))

/-- Step 5 of R149: the requests that wait are admitted in the order of arrival, within the credit. -/
def State.admitFirst (s : State) (l : Nat) : List RutReq → State
  | [] => s
  | q :: qs =>
    match s.coh.rut.find? (fun x => x.line == l) with
    | none => s
    | some x =>
      let full := decide (s.rd od3000_RUT_CREDIT 0 ≤ (x.admitted.filter (fun y => y.source == q.source)).length)
      if full then s.admitFirst l qs
      else if s.barred q.req then
        ((s.setRut { x with waiting := x.waiting.erase q }).complete q.req eAccess 0 []).admitFirst l qs
      else (s.setRut { x with waiting := x.waiting.erase q, admitted := x.admitted ++ [q] }).admitFirst l qs

/-- The rut buffer of a line is loaded. -/
def State.rutLoad (s : State) (l : Nat) : State :=
  match s.coh.rut.find? (fun x => x.line == l) with
  | none => s
  | some x =>
    if x.loaded then s
    else if s.rutReady l then (s.setRut { x with loaded := true }).admitFirst l x.waiting
    else if decide (2 ≤ (s.gran (lineExt l) (lineOff l / granuleBytes)).tier) && !(s.gran (lineExt l) (lineOff l / granuleBytes)).cached then
      s.touch (lineExt l) (lineOff l / granuleBytes)
    else if s.extClass (lineExt l) = 2 then s.rutRecall l
    else s

def execRutBufferLoaded (e : ExtentId) (line : Nat) (s : State) : Host.Outcome State Fault Refusal :=
  (if s.halted then s else s.rutLoad (lineNo e.val line)).release.done

/-- A line leaves rut once nothing is left of it, and what waited at it goes on (R152). -/
def State.rutLeave (s : State) (l : Nat) : State :=
  match s.coh.rut.find? (fun x => x.line == l) with
  | none => s
  | some x =>
    if x.leaving && x.admitted.isEmpty && x.waiting.isEmpty && !s.lineBusy l then
      (({ s with coh := { s.coh with rut := s.coh.rut.filter (fun y => y.line != l) } }).rutLines).freeLine l
    else s

/-- The requests that the next core cycle executes: up to four stores, or one other request. -/
def rutGroup (l : List RutReq) : List RutReq :=
  let store := fun (q : RutReq) => q.agent.isNone && (q.req.op == .store || q.req.op == .pstore)
  match (l.takeWhile store).take 4 with
  | [] => l.take 1
  | g => g

/-- Execute a request of a line in rut: a GETS or GETM is answered with DATA and no grant. -/
def State.rutExec (s : State) (l : Nat) (q : RutReq) : State :=
  match q.agent with
  | some a => s.sendData a 257 l (s.lineData l) none
  | none => if s.psnApplied q.req && recorded q.req.op then s.answerAgain q.req
    else if s.extClass q.req.ext = 2 then s.uncached q.req else s.execMem q.req

/-- One core cycle of a line in rut (R150). -/
def State.rutCycle (s : State) (l : Nat) : State :=
  match s.coh.rut.find? (fun x => x.line == l) with
  | none => s
  | some x =>
    if !x.loaded || s.lineBusy l || !s.mayStart l then s
    else if x.admitted.isEmpty then s.rutLeave l
    else
      let g := rutGroup x.admitted
      let s1 := (s.setRut { x with admitted := x.admitted.drop g.length }).homeCount (lineExt l) 9 1
      let s2 := g.foldl (fun s q => s.rutExec l q) s1
      (s2.rutAdmit l (x.waiting.length + 1)).rutLeave l

def execRutExecute (e : ExtentId) (line : Nat) (s : State) : Host.Outcome State Fault Refusal :=
  (if s.halted then s else s.rutCycle (lineNo e.val line)).release.done

/-- A counting window of a home slice ends (R148, R152). Settings written since it began take effect now. -/
def State.rutWindow (s : State) (q : Nat) : State :=
  let (_, period, least) := quadGet s.coh.rutSet q
  if !s.past (quadGet s.coh.window q) period then s
  else
    let mine := fun (l : Nat) => s.extQuad (lineExt l) == q
    let c := s.coh
    let go := c.rut.map (fun x => if x.slice = q ∧ sparseGet 0 c.counts x.line < least then { x with leaving := true } else x)
    let s1 := { s with coh := { c with
      rut := go, counts := c.counts.filter (fun kv => !mine kv.1), refused := c.refused.filter (fun l => !mine l),
      window := quadSet c.window q s.clk,
      rutSet := quadSet c.rutSet q (s.rd od3000_RUT_COUNT 0, s.rd od3000_RUT_WINDOW 0, s.rd od3000_RUT_EXIT 0) } }
    foldState s1 (go.map (·.line)) (fun s l => if s.coh.rut.any (fun x => x.line == l && x.loaded) then s.rutLeave l else s)

def execRutWindowEnd (q : QuadId) (s : State) : Host.Outcome State Fault Refusal :=
  (if s.halted then s else s.rutWindow q.val).release.done

/-! ## The core cycle of the home slices (R131, R147) -/

/-- Take a held request off its queue and start it. -/
def State.startHeld (s : State) (h : Held) : State :=
  let s1 := { s with pool := { s.pool with held := s.pool.held.filter (fun x => x.req.id != h.req.id) } }
  if s1.psnApplied h.req && recorded h.req.op then s1.answerAgain h.req else s1.homeStart h.req

/-- The requests that may start in this core cycle: in a cycle assigned to a herd, its first one at each home slice; in any
other, those of every herd without such cycles, in order of arrival. -/
def State.slotDue (s : State) : List Held :=
  let waiting := s.pool.held.filter (fun h => h.why == .slot && s.extMayStart h.ext)
  if s.residueHerd s.coh.cycle = 0 then waiting
  else (List.range 4).filterMap (fun q => waiting.find? (fun h => s.extQuad h.ext == q))

/-- A core cycle begins: the PUBLISHes accepted in the last one reach service in their order, waiting requests start, and so
does what waits at lines that nothing blocks. -/
def State.homeCycle (s : State) : State :=
  let s1 := { s with coh := { s.coh with cycle := s.coh.cycle + 1 } }
  let due := ((s1.pool.held.filter (fun h => h.why == .publish)).map (·.ext)).eraseDups
  let s2 := foldState s1 due (fun s e => s.nextPublish e (s.pool.held.length + 1))
  let s3 := s2.slotDue.foldl State.startHeld s2
  let s4 := foldState s3 ((s3.coh.waits.map (·.line)).eraseDups) (fun s l => if s.lineBusy l then s else s.freeLine l)
  if due.isEmpty && s2.slotDue.isEmpty && s3.coh.waits.isEmpty then s1 else s4.release

/-! ## Readers (R129, R130, R133) -/

/-- A write to a reader's STATE. -/
def State.readerWrite (s : State) (r v : Nat) : Nat × State :=
  if v = 0 then (abOk, s.wr od3010_STATE r 0)
  else
    let e := s.rd od3010_EXTENT r
    let ok := decide (e < 131072) && s.extInForce e && (s.extSlice e).isSome && s.extClass e == 1 &&
      s.extMapped e (s.rd od3010_HERD r) && decide (((s.readersOf e).filter (· != r)).length < 256)
    if ok then (abOk, s.wr od3010_STATE r 1) else (abRange, s)

/-- A write to THAW (Table 5.2). -/
def State.thawWrite (s : State) (e v : Nat) : Nat × State :=
  if v < s.rd od3020_VERSION e then (abRange, s)
  else if s.rd od3020_FROZEN e = 0 then (abInUse, s)
  else (abOk, ((s.wr od3020_VERSION e v).wr od3020_PUBLISHER e 0xFFFF).wr od3020_FROZEN e 0)

/-- A reader has not answered an INVALIDATE in time. -/
def State.invalTimeout (s : State) (e r : Nat) : State :=
  match s.coh.rounds.find? (fun p => p.ext == e && p.left.any (fun x => x.1 == r)) with
  | none => s
  | some p =>
    if s.past p.sentAt (s.rd od3000_INVAL_TIMEOUT 0 * 1000) then (s.dropReader e r).readerDone e r else s

def execInvalTimeoutExpiry (e : ExtentId) (r : ReaderId) (s : State) : Host.Outcome State Fault Refusal :=
  (if s.halted then s else s.invalTimeout e.val r.val).release.done

end Sys2Proof.Machine
end

