-- ==== Sys2Proof/Machine/Digest.lean ====
section
/-! DEFINITION. SHAKE256, which R386, R387 and R492 name and the spec does not define: FIPS 202 (log entry 11). -/

namespace Sys2Proof.Machine

/-! The state is five planes, y = 0 to 4, of five 64-bit lanes, x = 0 to 4. -/

/-- Rotate a 64-bit lane left. -/
def rotl (v n : Nat) : Nat := (v * 2 ^ n + v / 2 ^ (64 - n)) % 2 ^ 64

/-- Combine two planes lane by lane. -/
def xorPlane (a b : List Nat) : List Nat := List.zipWith (· ^^^ ·) a b

/-- A plane turned by k lanes, so that lane x holds lane x + k. -/
def turnPlane (p : List Nat) (k : Nat) : List Nat := p.drop k ++ p.take k

def laneAt (a : List (List Nat)) (x y : Nat) : Nat := (a.getD y []).getD x 0

/-- 25 words as planes. -/
def planesOf (w : List Nat) : List (List Nat) := (List.range 5).map (fun y => (w.drop (5 * y)).take 5)

/-- Theta: each plane takes the parity of the two columns beside each of its lanes. -/
def keccakTheta (a : List (List Nat)) : List (List Nat) :=
  let sum := a.foldl xorPlane [0, 0, 0, 0, 0]
  let mix := xorPlane (turnPlane sum 4) ((turnPlane sum 1).map (fun v => rotl v 1))
  a.map (xorPlane mix)

/-- The walk on which step t goes from lane (x, y) to (y, 2x + 3y), from (1, 0). -/
def laneWalk : Nat → Nat × Nat
  | 0 => (1, 0)
  | t + 1 => let p := laneWalk t; (p.2, (2 * p.1 + 3 * p.2) % 5)

/-- Rho and pi as one: lane t of the walk, turned by the triangular number of t + 1, goes to lane t + 1; lane (0, 0) stays. -/
def keccakRhoPi (a : List (List Nat)) : List (List Nat) :=
  (List.range 24).foldl (fun b t =>
    let src := laneWalk t
    let dst := laneWalk (t + 1)
    b.set dst.2 ((b.getD dst.2 []).set dst.1 (rotl (laneAt a src.1 src.2) ((t + 1) * (t + 2) / 2 % 64)))) a

/-- Chi, on each plane. -/
def keccakChi (a : List (List Nat)) : List (List Nat) :=
  a.map (fun p => xorPlane p (List.zipWith (fun u v => (2 ^ 64 - 1 - u) &&& v) (turnPlane p 1) (turnPlane p 2)))

/-- The register whose low bit at step t is rc(t). -/
def rcRegister : Nat → Nat
  | 0 => 1
  | t + 1 => let r := rcRegister t; if 128 ≤ r then (2 * r) ^^^ 0x171 else 2 * r

/-- The constant of a round: bit 2^j − 1 is rc(j + 7 × round), for j = 0 to 6. -/
def roundConst (round : Nat) : Nat :=
  (List.range 7).foldl (fun k j => k + rcRegister (j + 7 * round) % 2 * 2 ^ (2 ^ j - 1)) 0

/-- Iota: the round constant enters lane (0, 0). -/
def keccakIota (round : Nat) (a : List (List Nat)) : List (List Nat) :=
  a.set 0 ((a.getD 0 []).set 0 (laneAt a 0 0 ^^^ roundConst round))

/-- The permutation of 24 rounds. -/
def keccakPermute (a : List (List Nat)) : List (List Nat) :=
  (List.range 24).foldl (fun a i => keccakIota i (keccakChi (keccakRhoPi (keccakTheta a)))) a

/-- Absorb `n` blocks of 136 bytes. -/
def spongeIn : Nat → List Byte → List (List Nat) → List (List Nat)
  | 0, _, a => a
  | n + 1, bs, a =>
    let block := planesOf (wordsOf 17 (bs.take 136) ++ List.replicate 8 0)
    spongeIn n (bs.drop 136) (keccakPermute (List.zipWith xorPlane a block))

/-- SHAKE256 of bytes, 64 bytes of output as a little-endian number: the message is filled up to whole blocks, with 0x1F after
it and the top bit of the last byte set. -/
def shake256 (bs : List Byte) : Nat :=
  let blocks := bs.length / 136 + 1
  let fill := 136 * blocks - bs.length
  let tail := toLe fill (0x1F + 2 ^ (8 * fill - 1))
  leNat (bytesOfWords (((spongeIn blocks (bs ++ tail) (planesOf (List.replicate 25 0))).flatten).take 8))

end Sys2Proof.Machine
end

