-- ==== Sys2Proof/Machine/MatchCmds.lean ====
section
/-! DEFINITION. Rule sets, entry records, and the match commands (chapter 10). -/

namespace Sys2Proof.Machine

/-! ## Rule sets (R269–R273) -/

/-- A command that is launched and not completed names a set (R271). -/
def State.setInUse (s : State) (r : Nat) : Bool :=
  s.cpu.cmds.any (fun c => c.launched && ((decide (0x30 ≤ c.kind ∧ c.kind ≤ 0x32) && bitsOf (c.word 3) 31 16 == r) ||
    (c.kind == 0x14 && bitsOf (c.word 6) 47 32 == r)))

/-- The active sets of a bank. -/
def State.bankSets (s : State) (b : Nat) : List Nat :=
  ((odListed s.od od4010_STATE).map (·.1)).filter (fun r => s.rd od4010_BANK r == b)

/-- A write to a rule set's STATE (R270, R271). -/
def State.setWrite (s : State) (r v : Nat) : Nat × State :=
  let st := s.rd od4010_STATE r
  let herd := s.rd od4010_HERD r
  let first := s.rd od4010_FIRST r
  let n := s.rd od4010_COUNT r
  if v = 0 then
    if st = 0 then (abOk, s)
    else if s.setInUse r then (abInUse, s)
    else (abOk, (s.clearSet r).wr od4010_STATE r 0)
  else
    let others := s.bankSets (s.rd od4010_BANK r)
    if 65536 < first + n ∨ others.any (fun o => decide (first < s.rd od4010_FIRST o + s.rd od4010_COUNT o) &&
        decide (s.rd od4010_FIRST o < first + n)) then (abRange, s)
    else if !s.herdActive herd ∨ (s.timeGated herd ∧ others.any (fun o => s.rd od4010_HERD o != herd)) ∨
        others.any (fun o => s.timeGated (s.rd od4010_HERD o) && s.rd od4010_HERD o != herd) then (abDenied, s)
    else (abOk, ((s.clearSet r).wr od4010_STATE r 1).wr od4010_GEN r 0)

/-- Free the sets of a herd whose rings have stopped (R271). -/
def State.freeSets (s : State) (herd : Nat) : State :=
  foldState s (((odListed s.od od4010_STATE).map (·.1)).filter (fun r => s.rd od4010_HERD r == herd))
    (fun s r => (s.clearSet r).wr od4010_STATE r 0)

/-- A write of an entry record by the OD (R273). -/
def State.entryWrite (s : State) (e v : Nat) : Nat × State :=
  match s.setOfEntry e with
  | none => (abRange, s)
  | some r =>
    if !recordReservedOk v then (abRange, s)
    else (abOk, ((s.putEntry r (e - s.setFirst r) v).count (0x720 + 4 * s.rd od4010_BANK r + 1) 1))

/-- A read of an entry record: INDEX is the offset in its set. -/
def State.entryRead (s : State) (e : Nat) : Nat × Nat :=
  match s.setOfEntry e with
  | none => (abRange, 0)
  | some r =>
    if s.sealedHerd (s.rd od4010_HERD r) then (abDenied, 0)
    else (abOk, s.rd od4020_ENTRY_RECORD e + (e - s.setFirst r) * 2 ^ 448)

/-! ## Commands (R274–R278) -/

/-- Fields of a match descriptor that lie outside their range (Table 10.3). -/
def matchDescOk (d : List Nat) : Bool :=
  let k := bitsOf (d.getD 0 0) 63 56
  let w := fun (i : Nat) => d.getD i 0
  decide (1 ≤ w 3 / 2 ^ 32) && decide (w 3 / 2 ^ 32 ≤ 65536) && decide (bitsOf (w 3) 31 16 < 4096) && w 3 % 65536 == 0 &&
  w 6 == 0 && w 7 == 0 &&
  (if k = 0x30 then w 2 == 0 else if k = 0x31 then true else if k = 0x32 then w 2 == 0 && w 5 == 0 else false)

/-- The answer record (Table 10.4). -/
def State.answerRecord (s : State) (r : Nat) (a : Answer) : List Nat :=
  let gen := s.rd od4010_GEN r * 2 ^ 32
  match a.hit with
  | some (i, v) => [entryResult v, 2 ^ 63 + (if a.multi then 2 ^ 62 else 0) + gen + entryPrio v * 65536 + i]
  | none => [0, gen + 0xFFFFFFFF]

/-- SEARCH or NEXT from the key that it has come to; `nums` are that key, the code, the hits and the multiple hits. -/
def State.searchFrom (s : State) (cid r : Nat) (next : Bool) : Nat → State
  | 0 => s
  | k + 1 =>
    match s.cmd cid with
    | none => s
    | some cmd =>
      let n := cmd.num 0
      if cmd.word 3 / 2 ^ 32 ≤ n then
        if s.ioSettled cid then
          s.finishWith cid (firstCode (cmd.num 1) (s.storeCode cid)) [cmd.num 2 * 2 ^ 32 + cmd.num 3, 0, 0]
        else s
      else
        let (gk, s1) := s.unitLoad cid (s.tableEp cmd) cmd.herd (cmd.word 1 + 24 * n) 24
        let (gc, s2) := if next then s1.unitLoad cid (s.tableEp cmd) cmd.herd (cmd.word 2 + 8 * n) 8 else (.got eOk [], s1)
        match gk, gc with
        | .got ck kb, .got cc cb =>
          let code := firstCode ck cc
          if code ≠ 0 then s2.finishWith cid code [cmd.num 2 * 2 ^ 32 + cmd.num 3, 0, 0]
          else
            let key := leNat (kb.take 20)
            let cur := leNat cb
            let (a, s3) :=
              if next && !bitAt cur 63 then (Answer.mk none false [], s2)
              else s2.search cid cmd.herd r key (if next then some (bitsOf cur 31 16, cur % 65536) else none)
            let s4 := s3.unitStore cid (s3.tableEp cmd) cmd.herd (cmd.word 5 + 16 * n) (bytesOfWords (s3.answerRecord r a))
            (s4.setNums cid [n + 1, firstCode (cmd.num 1) (if !a.bad.isEmpty then ePoison else 0),
              cmd.num 2 + (if a.hit.isSome then 1 else 0), cmd.num 3 + (if a.multi then 1 else 0)]).searchFrom cid r next k
        | _, _ => s2

/-- The set of a match command, if the command may use it. -/
def State.cmdSet (s : State) (c : Cmd) : Option Nat :=
  let r := bitsOf (c.word 3) 31 16
  if s.rd od4010_STATE r = 1 ∧ s.rd od4010_HERD r = c.herd then some r else none

def State.runMatch (s : State) (cid kind : Nat) (f : State → Cmd → Nat → State) : State :=
  s.runCmd cid kind (fun s c =>
    if s.mode ≠ 0 then s.finishWith cid eDegraded [0, 0, 0]
    else match s.cmdSet c with
      | none => s.finishWith cid eAccess [0, 0, 0]
      | some r => f s c r)

def execMatchSearch (cid : Nat) (s : State) : Host.Outcome State Fault Refusal :=
  (s.runMatch cid 0x30 (fun s c r => s.searchFrom cid r false (c.word 3 / 2 ^ 32 + 1))).done

def execMatchNext (cid : Nat) (s : State) : Host.Outcome State Fault Refusal :=
  (s.runMatch cid 0x31 (fun s c r => s.searchFrom cid r true (c.word 3 / 2 ^ 32 + 1))).done

def execMatchUpdate (cid : Nat) (s : State) : Host.Outcome State Fault Refusal :=
  (s.runMatch cid 0x32 (fun s c r =>
    let n := c.word 3 / 2 ^ 32
    match s.unitLoad cid (s.tableEp c) c.herd (c.word 1) (64 * n) with
    | (.wait, s1) => s1
    | (.got code data, s1) =>
      let recs := (List.range n).map (fun i => leNat ((data.drop (64 * i)).take 64))
      if code ≠ 0 then s1.finishWith cid code [0, 0, 0]
      else if recs.any (fun v => !recordReservedOk v || decide (s.rd od4010_COUNT r ≤ recWord v 7 % 2 ^ 32)) then
        s1.finishWith cid eFormat [0, 0, 0]
      else
        let s2 := recs.foldl (fun s v => s.putEntry r (recWord v 7 % 2 ^ 32) v) s1
        (s2.tally c.herd (0x720 + 4 * s.rd od4010_BANK r + 1) n).finishWith cid eOk [n, 0, 0])).done

end Sys2Proof.Machine
end

