-- ==== Sys2Proof/Machine/Launch.lean ====
section
/-! DEFINITION. Command rings and the scheduler: starting and stopping rings, launching commands, the threads of a KERNEL,
and completion (R165–R175, R180, R435, R436). -/

namespace Sys2Proof.Machine

/-! ## Rings (R168, R172, R175) -/

/-- The command rings that are not idle. -/
def State.busyRings (s : State) : List Nat :=
  ((odListed s.od od3410_STATE).map (·.1)).filter (fun r => s.rd od2400_TYPE r == 2)

/-- R172 for the start of a ring. -/
def State.maskApart (s : State) (ring : Nat) : Bool :=
  let h := s.rd od3410_HERD ring
  s.busyRings.all (fun r =>
    let g := s.rd od3410_HERD r
    r == ring || g == h || !(s.timeGated h || s.timeGated g) || (s.rd od3410_TINES r &&& s.rd od3410_TINES ring) == 0)

/-- The conditions of R168. -/
def State.ringStartOk (s : State) (ring : Nat) : Bool :=
  let h := s.rd od3410_HERD ring
  let ty := s.rd od2400_TYPE ring
  (ty == 2 || ty == 3) && s.herdActive h && (s.ownLocal h (s.rd od3410_BASE ring) (64 * s.rd od3410_SLOTS ring)).isSome &&
  (s.ownLocal h (s.rd od3410_CTRL ring) 64).isSome &&
  (ty != 2 || (s.eventRingOf (s.rd od3410_EVENT ring) h && s.rd od3410_TINES ring != 0 && s.maskApart ring))

/-- Free the threads' places that a command holds on its tines. -/
def State.freeThreads (s : State) (c : Cmd) : State :=
  foldState s c.tines (fun s t =>
    let u := s.tine t
    (s.setTine t { u with threads := u.threads.filter (fun kv => kv.2.cid != c.cid) }).tineCounts t)

/-- Free everything that a command holds, after its record. -/
def State.freeCmd (s : State) (cid : Nat) : State :=
  match s.cmd cid with
  | none => s
  | some c =>
    let s1 := s.freeThreads c
    let s2 := { s1 with cpu := { s1.cpu with cmds := s1.cpu.cmds.filter (fun x => x.cid != cid) } }
    if c.launched then s2.wr od3410_INFLIGHT c.ring (s2.rd od3410_INFLIGHT c.ring - 1) else s2

/-- The phase of a command whose record waits for its event ring. -/
def recordedPhase : Nat := 200

/-- The record of a command waits. -/
def State.owes (s : State) (cid : Nat) : Bool := s.cpu.owed.any (fun x => x.cid == cid)

/-- Free what the commands hold whose records no longer wait. -/
def State.releaseDone (s : State) : State :=
  ((s.cpu.cmds.filter (fun c => c.work.phase == recordedPhase && !s.owes c.cid)).map (·.cid)).foldl State.freeCmd s

/-- A ring begins anew: what it keeps of an earlier run is gone. -/
def State.clearRing (s : State) (ring : Nat) : State :=
  s.setRing ring { s.ring ring with pi := 0, since := s.clk, reissue := [] }

/-- A write to a ring's STATE (R175). -/
def State.ringWrite (s : State) (ring v : Nat) : Nat × State :=
  let st := s.rd od3410_STATE ring
  if v = 1 ∧ st = 0 then
    if s.ringStartOk ring then
      let s1 := ((s.clearRing ring).wr od3410_STATE ring 1).wr od3410_CONSUMED ring 0
      let s2 := (s1.setRingIndex ring 0 0).setRingIndex ring 1 0
      (abOk, (s2.payOwed ring s2.cpu.owed.length).releaseDone)
    else (abDenied, s)
  else if v = 2 ∧ st = 1 then (abOk, s.wr od3410_STATE ring 2)
  else if v = 1 ∧ st = 2 then
    let s1 := s.wr od3410_STATE ring 1
    (abOk, (s1.payOwed ring s1.cpu.owed.length).releaseDone)
  else if v = 0 ∧ (st = 2 ∨ st = 3) ∧ s.rd od3410_INFLIGHT ring = 0 then (abOk, (s.wr od3410_STATE ring 0).clearRing ring)
  else (abInUse, s)

/-! ## Launching (R170, R171) -/

/-- A herd pool address (R93). -/
def poolAddr (a : Nat) : Bool := decide (a ≤ 0x01FFFFFFFFFFFFFF)

/-- Every field of a descriptor is within its range and every reserved bit is 0 (R170). -/
def descOk (d : List Nat) : Bool :=
  let w := fun (i : Nat) => d.getD i 0
  let k := bitsOf (w 0) 63 56
  bitsOf (w 0) 55 52 == 0 && !bitAt (w 0) 35 && (!bitAt (w 0) 51 || (w 4 % 128 == 0 && poolAddr (w 4))) &&
  (if k = 0 then w 3 % 2 ^ 32 == 0 && w 7 == 0
   else if k = 1 then
     w 1 % 8 == 0 && poolAddr (w 1) && decide (1 ≤ bitsOf (w 3) 63 56 ∧ bitsOf (w 3) 63 56 ≤ 64) &&
     decide (1 ≤ bitsOf (w 3) 55 48 ∧ bitsOf (w 3) 55 48 ≤ 128) && decide (bitsOf (w 3) 47 32 ≤ 1792) && w 3 % 2 ^ 32 == 0 && w 7 == 0
   else if 0x10 ≤ k ∧ k ≤ 0x1F then collDescOk d
   else if 0x20 ≤ k ∧ k ≤ 0x2F then attnDescOk d
   else if 0x30 ≤ k ∧ k ≤ 0x37 then matchDescOk d
   else false)

/-- The descriptors of a ring from CI to PI are eligible, those to run again first. -/
def State.eligibleRing (s : State) (ring : Nat) : Bool :=
  s.rd od3410_STATE ring == 1 && s.rd od2400_TYPE ring == 2 &&
  (!(s.ring ring).reissue.isEmpty || (s.ring ring).pi != s.rd od3410_CONSUMED ring)

/-- The slot and words of the next descriptor of a ring that is not a reissue. -/
def State.nextDesc (s : State) (ring : Nat) : Nat × List Nat :=
  let i := s.rd od3410_CONSUMED ring
  match s.ringAt ring (s.rd od3410_BASE ring + 64 * (i % s.rd od3410_SLOTS ring)) with
  | some (e, off) => (i, wordsOf 8 (if s.poisoned e off 64 then poisonBytes 64 else s.readPool e off 64))
  | none => (i, wordsOf 8 (poisonBytes 64))

/-- The scope counts of a command that starts. -/
def scopeNew : List Nat := List.replicate 12 0

/-- The first eligible command of a ring as it would launch: the one to run again, or the next descriptor. -/
def State.firstCmd (s : State) (ring : Nat) : Cmd :=
  let q := (match s.ringAt ring (s.rd od3410_CTRL ring) with | some (e, _) => s.extQuad e | none => 0)
  let work : CmdWork := { phase := 0, since := s.clk, try_ := 0, nums := [], tasks := [], io := [], adds := [] }
  match (s.ring ring).reissue with
  | c :: _ => { c with start := s.ft q % 2 ^ 64, startQ := s.qual q, tines := [], base := [], exits := [], code := none, results := [],
                       finished := false, ended := none, work := work, scope := scopeNew }
  | [] =>
    let (slot, d) := s.nextDesc ring
    { cid := s.cpu.nextCid, ring := ring, slot := slot, desc := d, herd := s.rd od3410_HERD ring, event := s.rd od3410_EVENT ring,
      start := s.ft q % 2 ^ 64, startQ := s.qual q, reissued := 0, tines := [], base := [], exits := [], code := none, results := [],
      finished := false, ended := none, launched := true, work := work, scope := scopeNew }

/-- The tines of a KERNEL, in ascending number, if enough are available. -/
def State.kernelTines (s : State) (c : Cmd) : Option (List Nat) :=
  let n := bitsOf (c.word 3) 63 56
  let fits := (s.maskTines c.ring).filter (fun t => s.tineFits t c.herd (bitsOf (c.word 3) 55 48) (bitsOf (c.word 3) 47 32))
  let picked := (s.preferred c.herd (s.cmdQuad c) fits).take n
  if picked.length < n then none else some ((List.range 256).filter (fun t => picked.contains t))

/-- The profile that a command names. -/
def Cmd.profile (c : Cmd) : Option Nat := if bitAt (c.word 0) 51 then some (bitsOf (c.word 0) 47 36) else none

/-- Another command holds a command's profile, so that it waits (R435). -/
def State.profileBusy (s : State) (c : Cmd) : Bool :=
  match c.profile with
  | some p => s.rd od4810_STATE p == 1 && s.rd od4810_HERD p == c.herd &&
      (match (s.prof p).holder with | some x => x != c.cid | none => false)
  | none => false

/-- The profile is active and the ring's herd owns it. -/
def State.profileOk (s : State) (c : Cmd) : Bool :=
  match c.profile with
  | some p => s.rd od4810_STATE p == 1 && s.rd od4810_HERD p == c.herd
  | none => true

/-- A command of a KIND that needs a tine, in P2 (R468). -/
def State.needsPower (s : State) (c : Cmd) : Bool :=
  (c.kind == 1 || c.kind == 0x20 || c.kind == 0x21) && (s.pwr.request == 2 || s.rd od4C00_STATE 0 == 2)

/-- Every earlier command of the ring has completed. -/
def State.ringClear (s : State) (ring : Nat) : Bool := !s.cpu.cmds.any (fun c => c.ring == ring)

/-- How the first eligible command of a ring launches: with a code at once, on tines, or not yet. -/
inductive LaunchWay where
  | wait
  | fail (code : Nat) (launched : Bool)
  | go (tines : List Nat)
  deriving DecidableEq, Repr

def State.launchWay (s : State) (c : Cmd) : LaunchWay :=
  if s.rd od3410_STATE c.event ≠ 1 ∨ (s.ringFree c.event = 0 ∧ c.reissued = 0) then .wait
  else if bitAt (c.word 0) 49 && !s.ringClear c.ring then .wait
  else if !descOk c.desc then .fail eFormat false
  else if s.mode ≠ 0 then .fail eDegraded true
  else if !s.profileOk c then .fail eAccess true
  else if s.profileBusy c ∨ s.needsPower c then .wait
  else if c.kind = 1 then
    match s.kernelTines c with
    | some ts => .go ts
    | none => .wait
  else .go []

/-- Trace of a command's launch or completion (Table 18.7). -/
def State.traceCmd (s : State) (c : Cmd) (ty low w3 : Nat) : State :=
  s.trace (s.cmdQuad c) ⟨ty, c.herd, 10, c.ring, c.ring, c.word 0 % 2 ^ 32 * 2 ^ 32 + low, w3, none⟩ []

/-- Take the first command of a ring from it: CI and CONSUMED advance, or the reissue is taken up (R171, R180). -/
def State.takeFirst (s : State) (c : Cmd) : State :=
  let x := s.ring c.ring
  match x.reissue with
  | _ :: rest => (s.setRing c.ring { x with reissue := rest }).bump od3410_REISSUES c.ring 32 1
  | [] =>
    let ci := (s.rd od3410_CONSUMED c.ring + 1) % 2 ^ 32
    let s1 := ((s.wr od3410_CONSUMED c.ring ci).setRingIndex c.ring 1 ci).setRing c.ring { x with since := s.clk }
    let s2 := { s1 with cpu := { s1.cpu with nextCid := s1.cpu.nextCid + 1 } }
    s2.setRing c.event { s2.ring c.event with reserved := (s2.ring c.event).reserved + 1 }

/-- The profile's start record, and its accumulators from 0 (R435–R437). -/
def State.startProfile (s : State) (c : Cmd) : State :=
  match c.profile with
  | none => s
  | some p =>
    let s1 := s.setProf p { s.prof p with holder := some c.cid, ring := c.ring, seq := c.word 0 % 2 ^ 32, bound := true, ended := false }
    s1.unitStorePiece c.cid (s1.rd od1100_UNIT_BASE 0 + 4 + s1.cmdQuad c) c.herd profKey (c.word 4) (s1.profRecord p 1 0)

/-- Launch a command. -/
def State.launch (s : State) (c : Cmd) (tines : List Nat) : State :=
  let win := bitsOf (c.word 3) 47 32
  let base := if c.kind = 1 then tines.map (fun t => (s.windowAt t win).getD 0 * 1024) else []
  let s1 := (s.takeFirst c).bump od3408_LAUNCHED 0 64 1
  let s2 := if c.reissued = 0 then s1.wr od3410_INFLIGHT c.ring (s1.rd od3410_INFLIGHT c.ring + 1) else s1
  let s3 := { s2 with cpu := { s2.cpu with cmds := s2.cpu.cmds ++ [{ c with tines := tines, base := base }] } }
  let s4 := tines.zipIdx.foldl (fun s x => s.placeOn x.1 c.herd (c.word 0) x.2) s3
  (s4.startProfile c).traceCmd c 2 c.kind 0

/-- A command that completes at its launch, or without being launched. -/
def State.launchFailed (s : State) (c : Cmd) (code : Nat) (launched : Bool) : State :=
  let s1 := s.takeFirst c
  let s2 := if launched ∧ c.reissued = 0 then (s1.bump od3408_LAUNCHED 0 64 1).wr od3410_INFLIGHT c.ring (s1.rd od3410_INFLIGHT c.ring + 1) else s1
  { s2 with cpu := { s2.cpu with cmds := s2.cpu.cmds ++ [{ s.cmdEnds c with code := some code, finished := true, launched := launched || decide (0 < c.reissued) }] } }

/-- The rings with eligible commands in the order in which they are served. -/
def State.servedRings (s : State) : List Nat :=
  let rs := ((odListed s.od od3410_STATE).map (·.1)).filter s.eligibleRing
  [7, 6, 5, 4, 3, 2, 1, 0].flatMap (fun pr =>
    let same := rs.filter (fun r => s.rd od3410_PRIORITY r == pr)
    let last := sparseGet 0 s.cpu.lastTurn pr
    same.filter (fun r => decide (last < r + 1)) ++ same.filter (fun r => decide (r + 1 ≤ last)))

/-- Count a command that waits for its profile, once. -/
def State.countWait (s : State) (c : Cmd) : State :=
  if s.profileBusy c && !s.dbg.profWait.contains (c.ring, c.slot) then
    ({ s with dbg := { s.dbg with profWait := s.dbg.profWait ++ [(c.ring, c.slot)] } }).count 0x7C7 1
  else s

/-- Serve one command: the first, in order of service, that can launch. -/
def State.serveRings (s : State) : List Nat → State
  | [] => s
  | r :: rs =>
    let c := s.firstCmd r
    let turn := fun (s : State) =>
      { s with cpu := { s.cpu with lastTurn := sparseSet 0 s.cpu.lastTurn (s.rd od3410_PRIORITY r) (r + 1) },
               dbg := { s.dbg with profWait := s.dbg.profWait.filter (· != (c.ring, c.slot)) } }
    match s.launchWay c with
    | .wait => (s.countWait c).serveRings rs
    | .fail code launched => turn (s.launchFailed c code launched)
    | .go ts => turn (s.launch c ts)

def execCommandLaunch (s : State) : Host.Outcome State Fault Refusal :=
  (if s.halted then s else s.serveRings s.servedRings).done

/-! ## NOP and KERNEL (R156, R171, R173) -/

def execNopCommand (cid : Nat) (s : State) : Host.Outcome State Fault Refusal :=
  (s.runCmd cid 0 (fun s _ => s.finishWith cid eOk [0, 0, 0])).done

/-- Registers of a thread at launch (Table 6.3). -/
def launchRegs (c : Cmd) (t idx : Nat) : List Nat :=
  [0, (c.window t).1, (c.window t).2, c.word 5, c.word 6, c.word 2, idx, c.threads] ++ List.replicate 24 0

/-- Start the threads of a KERNEL on one of its tines. -/
def State.startThreads (s : State) (c : Cmd) (t ordinal : Nat) : State :=
  let u := s.tine t
  let n := bitsOf (c.word 3) 55 48
  let free := ((List.range 128).filter (fun h => (sparseGet threadNew u.threads h).cid == 0)).take n
  let th := free.zipIdx.foldl (fun (m : Sparse Thread) (x : Nat × Nat) =>
    let idx := ordinal * n + x.2
    sparseSet threadNew m x.1 { live := true, cid := c.cid, idx := idx, pc := c.word 1, regs := launchRegs c t idx, err := 0, wait := .ready, due := 0 }) u.threads
  (s.setTine t { u with threads := th, issued := s.clk }).tineCounts t

def execKernelCommand (cid : Nat) (s : State) : Host.Outcome State Fault Refusal :=
  (s.runCmd cid 1 (fun s c =>
    if c.work.phase ≠ 0 then s
    else c.tines.zipIdx.foldl (fun s x => s.startThreads c x.1 x.2) (s.setPhase cid 1))).done

/-! ## Completion (R173, R174, R436) -/

/-- No scoreboard entry of the command is left. -/
def State.drained (s : State) (c : Cmd) : Bool :=
  c.tines.all (fun t => (s.tine t).sb.all (fun e => (s.thread t e.thread).cid != c.cid))

/-- The code of a command that is over, and none before that. -/
def State.overWith (s : State) (c : Cmd) : Option Nat :=
  if c.finished then some (c.code.getD eOk)
  else if c.kind = 1 ∧ c.work.phase ≠ 0 ∧ c.exits.length = c.threads ∧ s.drained c then some (exitCode c.exits)
  else none

/-- The command is over: its record is written or dropped, or waits for its ring, and everything that it holds is freed once the
record is gone (R173, R175). -/
def State.endCmd (s : State) (c : Cmd) (code : Nat) : State :=
  let s1 := match c.profile with
    | some p => if (s.prof p).holder = some c.cid then
        s.setProf p { s.prof p with holder := none, ended := true, vals := c.scope } else s
    | none => s
  let s2 := s1.traceCmd c 3 code c.start
  if code = eOk ∧ !bitAt (c.word 0) 50 then (s2.unreserve c.event).freeCmd c.cid
  else
    let s3 := s2.postOrOwe c.event c.cid ((s2.cmdEnds c).record code)
    if s3.owes c.cid then s3.setPhase c.cid recordedPhase else s3.freeCmd c.cid

/-- The end record of a profile, once (R436). -/
def State.endProfile (s : State) (c : Cmd) (code : Nat) : State :=
  match c.profile with
  | some p =>
    if (s.prof p).holder = some c.cid ∧ c.work.phase ≠ 100 then
      let s1 := s.setProf p { s.prof p with ended := true }
      (s1.unitStorePiece c.cid (s1.rd od1100_UNIT_BASE 0 + 4 + s1.cmdQuad c) c.herd (profKey + 1) (c.word 4 + 128) (s1.profRecord p 2 code)).setPhase c.cid 100
    else s
  | none => s

def State.completion (s : State) (cid : Nat) : State :=
  match s.cmd cid with
  | none => s
  | some c =>
    if c.work.phase = recordedPhase then s.releaseDone
    else match s.overWith c with
    | none => s
    | some code =>
      let s1 := (s.setCmd { s.cmdEnds c with code := some code, finished := true }).endProfile c code
      if s1.ioSettled cid then
        match s1.cmd cid with
        | some c1 => s1.endCmd c1 (firstCode code (s1.storeCode cid))
        | none => s1
      else s1

def execCommandCompletion (cid : Nat) (s : State) : Host.Outcome State Fault Refusal :=
  (if s.halted then s else s.completion cid).done

end Sys2Proof.Machine
end

