-- ==== Sys2Proof/Machine/Extents.lean ====
section
/-! DEFINITION. Operations on extents: creating, changing and revoking them, and the flash volumes beneath them (R93–R96,
R114–R122, R346, R347, R495, R496). -/

namespace Sys2Proof.Machine

/-! ## Events (R497) -/

/-- An event of an extent. -/
def State.extEvent (s : State) (e ev : Nat) (more : List Nat) : State :=
  let k := match s.extSlice e with | some q => (4, q) | none => (0, 0)
  s.emit k.2 ev (s.extHerd e) k.1 k.2 0 (e :: more)

/-- The end of an operation: RESULT and its event. -/
def State.opEnd (s : State) (e op code ev : Nat) : State :=
  (s.wr od2820_RESULT e code).extEvent e ev [op * 2 ^ 32 + code]

/-! ## The map with its changes under way (R94) -/

/-- Granules of an extent, with a GROW under way. -/
def State.granulesToBe (s : State) (e : Nat) : Nat :=
  s.extGranules e + (match s.changeOf e with | some c => if c.op = 2 then c.arg else 0 | none => 0)

/-- An extent is in a herd's map, or is to be. -/
def State.mappedToBe (s : State) (e h : Nat) : Bool :=
  s.extMapped e h || (match s.changeOf e with | some c => c.op == 8 && c.arg == h | none => false)

/-- The herds that an extent is mapped into. -/
def State.extHerds (s : State) (e : Nat) : List Nat :=
  s.extHerd e :: (List.range 4096).filter (fun h => s.extShared e h)

/-- No other extent of one of these herds' maps overlaps granules [BASE, BASE + n). -/
def State.noOverlap (s : State) (e n : Nat) (herds : List Nat) : Bool :=
  let lo := s.extBase e
  let hi := lo + n * granuleBytes
  s.extents.all (fun x => x == e ||
    !(decide (s.extBase x < hi) && decide (lo < s.extBase x + s.granulesToBe x * granuleBytes) &&
      herds.any (fun h => s.mappedToBe x h)))

/-- The length limits of R94. -/
def State.lengthOk (s : State) (e n : Nat) : Bool :=
  decide (1 ≤ n) && decide (n ≤ 134217728) && decide (s.extBase e + n * granuleBytes ≤ mgmtBase)

/-- Bytes of the granules of the local H extents, one apart (R136). -/
def State.hardBytes (s : State) (but : Nat) : Nat :=
  (s.extents.filter (fun x => x != but && s.extClass x == 2 && (s.extSlice x).isSome)).foldl
    (fun a x => a + s.granulesToBe x * granuleBytes) 0

/-- R136 for an extent of `n` granules. -/
def State.hardOk (s : State) (e n : Nat) : Bool :=
  !(s.extClass e == 2 && (s.extSlice e).isSome) ||
  decide (s.hardBytes e + n * granuleBytes ≤ s.rd od3000_H_CAPACITY 0 * gib)

/-! ## Checks (Table 4.13, R347) -/

/-- The reattachment of a volume by a CREATE (R347). -/
def State.volumeOk (s : State) (e : Nat) : Bool :=
  let id := s.rd od2820_VOLUME e
  let v := id % 131072
  id == 0 ||
  (s.rd od2C40_STATE v == 2 && s.rd od2C40_ID v == id && s.rd od2C40_HERD v == s.extHerd e &&
   s.rd od2C40_GRANULES v == s.extGranules e && s.rd od2C40_PERSIST v == (if s.extPersist e then 1 else 0) &&
   (!s.sealedHerd (s.extHerd e) ||
     (s.rd od2800_KEY_STATE (s.extHerd e) == 1 && sparseGet 0 s.nand.kcv v == sparseGet 0 s.sec.keys (s.extHerd e))))

/-- The combinations that R96 refuses. -/
def State.combinationOk (s : State) (e : Nat) : Bool :=
  let place := s.extPlace e
  !(s.extClass e == 2 && place != 0) && !(s.extPersist e && place != 2) &&
  !(s.extPersist e && s.rd od2C10_CEILING 0 == 0) &&
  !(s.extCmp e && (s.extPersist e || s.extClass e != 0 || s.sealedHerd (s.extHerd e)))

/-- The lowest free volume slot. -/
def State.freeVolume (s : State) : Option Nat :=
  let used := (odListed s.od od2C40_STATE).map (·.1)
  (List.range (used.length + 1)).find? (fun v => !used.contains v && decide (v < 131072))

def State.createCheck (s : State) (e : Nat) : Nat :=
  let h := s.extHerd e
  let n := s.extGranules e
  let shared := s.rd od2820_SHARED e
  let hs := s.herdState h
  if h = 0 ∨ h > 0xFFE ∨ n = 0 ∨ n > 134217728 ∨ s.rd od2820_HOME e = 0xFFFF then abRange
  else if hs ≠ 1 ∧ hs ≠ 2 then abDenied
  else if bitAt shared 0 ∨ bitAt shared 0xFFF ∨ bitAt shared h ∨ (s.extClass e = 0 ∧ shared ≠ 0) then abRange
  else if !(s.lengthOk e n && s.noOverlap e n (s.extHerds e) && s.combinationOk e && s.hardOk e n) then abRange
  else if shared ≠ 0 ∧ (s.extHerds e).any s.sealedHerd then abDenied
  else if s.extPlace e = 2 ∧ (s.extSlice e).isSome ∧ !s.volumeOk e then abDenied
  else abOk

/-- Bytes of an extent's allocated granules. -/
def State.extUsed (s : State) (e : Nat) : Nat := (s.granulesOf e).length * granuleBytes

/-- The new tier's quota can take the granules of an extent. -/
def State.placeFits (s : State) (e place : Nat) : Bool :=
  place == s.extPlace e || s.extUsed e == 0 || s.mayAllocate (s.extHerd e) (place + 1) (s.extUsed e)

/-- A home slice takes no extent: its quadrant is gated, or has not come back from it (R467). -/
def State.sliceGated (s : State) (ep : Nat) : Bool :=
  match s.homeSlice ep with
  | some q => s.rd od4C08_GATE q == 1 || (s.pwr.trans.map (·.1)) == some (32 + q)
  | none => false

/-- The checks of an operation (Table 4.13, R116, R120, R122, R467). -/
def State.opCheck (s : State) (e op arg : Nat) : Nat :=
  let st := s.extState e
  if op ≠ 1 ∧ st = 0 then abRange
  else if op = 6 then abOk
  else if op = 1 then (if st = 0 ∧ !s.sliceGated (s.rd od2820_HOME e) then s.createCheck e else abInUse)
  else if st ≠ 1 then abInUse
  else if op = 2 then
    let n := s.extGranules e + arg
    if s.lengthOk e n && s.noOverlap e n (s.extHerds e) && s.hardOk e n then abOk else abRange
  else if op = 3 then (if arg = 0 ∨ s.extGranules e ≤ arg then abRange else abOk)
  else if op = 4 then
    (if arg ≤ 2 ∧ !(s.extClass e = 2 ∧ arg ≠ 0) ∧ ((s.extSlice e).isNone ∨ s.placeFits e arg) then abOk else abRange)
  else if op = 5 then
    if s.sliceGated arg then abInUse else
    let here := (s.homeSlice arg).isSome
    if (s.extSlice e).isSome then (if here ∧ arg ≠ s.rd od2820_HOME e then abOk else abRange)
    else if here ∨ 0xFFFF ≤ arg then abRange else abOk
  else if op = 7 then
    (if s.extCmp e && s.rd od2820_CSTATE e == 1 && (s.extSlice e).isSome && s.containerOk e then abOk else abRange)
  else if op = 8 then
    if arg = 0 ∨ 0xFFF ≤ arg ∨ arg = s.extHerd e ∨ s.extClass e = 0 then abRange
    else if s.sealedHerd (s.extHerd e) ∨ s.sealedHerd arg then abDenied
    else if s.extShared e arg ∨ s.noOverlap e (s.extGranules e) [arg] then abOk
    else abRange
  else abOk

/-! ## Volumes (R346, R347) -/

/-- Trim and free a volume. -/
def State.freeVolumeOf (s : State) (v : Nat) : State :=
  let keys := (sparseSlice s.nand.map (volChunk v 0) (volChunk (v + 1) 0)).map (·.1)
  let s1 := keys.foldl (fun s k => s.nandTrim k) s
  let s2 := { s1 with
    nand := { s1.nand with lost := s1.nand.lost.filter (fun k => k / 4294967296 != v), kcv := sparseSet 0 s1.nand.kcv v 0 },
    pool := { s1.pool with flash := sparseDrop s1.pool.flash (byteKey v 0) (byteKey (v + 1) 0) } }
  ((s2.wr od2C40_STATE v 0).wr od2C40_CHUNKS v 0)

/-- A new volume for an extent, in the lowest free slot. -/
def State.newVolume (s : State) (e : Nat) : State :=
  match s.freeVolume with
  | none => s
  | some v =>
    let id := (s.rd od2C40_ID v / 131072 + 1) % 2 ^ 47 * 131072 + v
    let s1 := ((((s.wr od2C40_STATE v 1).wr od2C40_ID v id).wr od2C40_HERD v (s.extHerd e)).wr od2C40_GRANULES v
      (s.extGranules e)).wr od2C40_PERSIST v (if s.extPersist e then 1 else 0)
    let k := if s.sealedHerd (s.extHerd e) then sparseGet 0 s.sec.keys (s.extHerd e) else 0
    { s1 with pool := { s1.pool with extVol := sparseSet 0 s1.pool.extVol e v },
              nand := { s1.nand with kcv := sparseSet 0 s1.nand.kcv v k } }.wr od2820_VOLUME e id

/-- Poison the lines of a chunk of an extent. -/
def State.poisonChunk (s : State) (e g c : Nat) : State :=
  (State.linesOf e (g * granuleBytes + c * chunkBytes) chunkBytes).foldl State.addPoison s

/-- Attach a detached volume: its granules with mapped chunks are allocated, and its lost chunks are poison. -/
def State.attachVolume (s : State) (e v : Nat) : State :=
  let s1 := { s with pool := { s.pool with extVol := sparseSet 0 s.pool.extVol e v } }.wr od2C40_STATE v 1
  let chunks := (sparseSlice s.nand.map (volChunk v 0) (volChunk (v + 1) 0)).map (fun kv => kv.1 - volChunk v 0)
  let lost := (s.nand.lost.filter (fun k => k / 4294967296 == v)).map (fun k => k - volChunk v 0)
  (chunks ++ lost).foldl (fun s x =>
    let g := x / 32
    let d := s.gran e g
    let s2 := if d.tier = 0 then
        (({ s with pool := { s.pool with nextLoc := s.pool.nextLoc + 1 } }).setGran e g
          { granNew with tier := 3, loc := s.pool.nextLoc % 2 ^ 32 }).wr od2830_T3_USED (s.extHerd e)
            (s.rd od2830_T3_USED (s.extHerd e) + granuleBytes)
      else s
    let d2 := s2.gran e g
    let s3 := s2.setGran e g { d2 with zmask := d2.zmask &&& ~~~(1#32 <<< (x % 32)) }
    if lost.contains x then s3.poisonChunk e g (x % 32) else s3) s1

/-- The volume of a local extent that enters PLACE 2. -/
def State.takeVolume (s : State) (e : Nat) : State :=
  if (s.extSlice e).isNone then s
  else if s.rd od2820_VOLUME e = 0 then s.newVolume e
  else s.attachVolume e (s.rd od2820_VOLUME e % 131072)

/-! ## What a change does at its switch (R117–R119, R121, R122) -/

/-- The caching agents' lines, the rut lines and the directory entries of a run of lines of an extent are gone. -/
def State.forgetLines (s : State) (lo hi : Nat) : State :=
  let c := s.coh
  let out := fun (l : Nat) => decide (l < lo) || decide (hi ≤ l)
  let s1 := { s with coh := { c with
    dir := sparseDrop c.dir lo hi, dirUse := c.dirUse.filter (fun kv => out kv.2.gran), counts := c.counts.filter (fun kv => out kv.1),
    txns := c.txns.filter (fun t => out t.line), waits := c.waits.filter (fun w => out w.line),
    msgs := c.msgs.filter (fun m => out m.line), rut := c.rut.filter (fun x => out x.line),
    agents := c.agents.filter (fun kv => out (kv.1 % lineKeySpan)) } }
  s1.rutLines

/-- Move an extent's granules to another tier, beneath the herd. -/
def State.movePlace (s : State) (e place : Nat) : State :=
  let gs := s.granulesOf e
  let saved := gs.map (fun g => (g, s.gran e g, s.readPool e (g * granuleBytes) granuleBytes, s.pool.poison))
  let s1 := gs.foldl (fun s g => s.freeGranule e g) s
  let s2 := if s.extPlace e = 2 then s1.freeVolumeOf (s1.volOf e) else s1
  let s3 := (if s.extPlace e = 2 then s2.wr od2820_VOLUME e 0 else s2).wr od2820_PLACE e place
  let s4 := if place = 2 then s3.newVolume e else s3
  saved.foldl (fun s x =>
    match s.allocate e x.1 with
    | none => s
    | some s5 => (List.range 32).foldl (fun s c =>
        if x.2.1.zmask.getLsbD c then s
        else (s.writePool e (x.1 * granuleBytes + c * chunkBytes) ((x.2.2.1.drop (c * chunkBytes)).take chunkBytes))) s5) s4

/-- A composition change is applied. -/
def State.applyChange (s : State) (e op arg : Nat) : State :=
  if op = 1 then
    let s1 := if s.extPlace e = 2 then s.takeVolume e else s
    let s2 := s1.wr od2820_CSTATE e (if s.extCmp e then 1 else 0)
    ((s2.wr od3020_VERSION e 0).wr od3020_PUBLISHER e 0xFFFF).wr od3020_FROZEN e 0
  else if op = 2 then
    let s1 := s.wr od2820_GRANULES e (s.extGranules e + arg)
    if s.extPlace e = 2 ∧ (s.extSlice e).isSome then s1.wr od2C40_GRANULES (s.volOf e) (s1.extGranules e) else s1
  else if op = 4 then
    if (s.extSlice e).isNone then s.wr od2820_PLACE e arg
    else if arg = s.extPlace e then s
    else
      let bad := s.pool.poison.filter (fun k => k / 2 ^ 41 == e)
      bad.foldl State.addPoison (s.movePlace e arg)
  else if op = 5 then
    let old := s.rd od2820_HOME e
    let s1 := s.wr od2820_HOME e arg
    if (s.extSlice e).isSome then { s1 with pool := { s1.pool with forward := s1.pool.forward ++ [(e, old, s.clk)] } } else s1
  else if op = 7 then
    let s1 := (List.range (s.extGranules e)).foldl (fun s g => (s.allocate e g).getD s) s
    s1.wr od2820_CSTATE e 2
  else s.wr od2820_SHARED e (s.rd od2820_SHARED e ||| 2 ^ arg)

/-- What the switch finds it cannot charge: the abort code, or 0. -/
def State.switchCode (s : State) (e op arg : Nat) : Nat :=
  if op = 4 ∧ (s.extSlice e).isSome ∧ !s.placeFits e arg then abRange
  else if op = 7 ∧ !s.containerOk e then abRange
  else abOk

/-- STATE of an extent from what is under way on it. -/
def State.restState (s : State) (e : Nat) : State :=
  s.wr od2820_STATE e
    (if s.pool.revokes.any (fun r => r.ext == e) then 3 else if (s.changeOf e).isSome then 2 else 1)

/-! ## Revokes (R114–R116, R495) -/

/-- First granule that a revoke acts on. -/
def State.revokeFrom (s : State) (r : Revoke) : Nat := if r.op = 3 then s.extGranules r.ext - r.arg else 0

/-- A request of the extent that a revoke acts on. -/
def State.revokeHits (s : State) (r : Revoke) (q : Req) : Bool :=
  q.ext == r.ext && q.op != .invalidate && q.op != .fence && !isMgmt q.op &&
  (if r.op = 6 then true
   else if r.op = 3 then
     decide (s.revokeFrom r * granuleBytes < q.hdr.addr.toNat - s.extBase r.ext + max (spanOf q.op q.hdr) 1)
   else q.hdr.herd.toNat == r.arg)

/-- The requests that a revoke waits for: held at the home, or still at their ingress. -/
def State.revokeLeft (s : State) (r : Revoke) : List Req :=
  let home := s.homeReqs.filter (s.revokeHits r)
  home ++ s.tr.outstanding.filter (fun q => (q.place == .rate || q.place == .order || q.place == .route) &&
    s.revokeHits r q && !home.any (fun x => x.id == q.id))

/-- Recall the lines that agents own in the revoked part. What comes back is discarded; for UNSHARE, the lines of the herd's
own tines are written back (log entry 10). -/
def State.recallFor (s : State) (r : Revoke) : State :=
  if s.extClass r.ext ≠ 2 ∨ (s.extSlice r.ext).isNone then s
  else if r.op = 9 then
    (s.cpu.tines.map (·.1)).foldl (fun s t => if s.rd od3400_LAST_HERD t = r.arg then
      (s.linesHeld t).foldl (fun s l => if lineExt l = r.ext ∧ !s.lineBusy l then
        match s.held t l with
        | some x => if x.state = .m then ((s.writeBack l x.data).setHeld t l none).setDir l dirNew else s
        | none => s
        else s) s else s) s
  else
    let lo := lineKey r.ext (s.revokeFrom r * granuleBytes)
    let owned := (sparseSlice s.coh.dir lo (lineKey (r.ext + 1) 0)).filter (fun kv =>
      kv.2.state == DirStateCode.m && !s.lineBusy kv.1)
    owned.foldl (fun s kv => (s.setHeld kv.2.owner kv.1 none).setDir kv.1 dirNew) s

/-- Steps 1 and 2 of Table 4.9. -/
def State.startRevoke (s : State) (e op arg : Nat) : State :=
  let r : Revoke := ⟨e, op, arg, s.clk, 2⟩
  let s1 := ({ s with pool := { s.pool with revokes := s.pool.revokes ++ [r] } }).wr od2820_STATE e 3
  let readers := (s1.readersOf e).filter (fun x => op != 9 || s1.rd od3010_HERD x == arg)
  let lo := s1.revokeFrom r * granuleBytes
  let s2 := if (s1.extSlice e).isSome then
      (s1.invalidateAll e (s1.rd od3020_VERSION e) (s1.extBase e + lo) (s1.extBytes e - lo) 0 readers).1
    else s1
  s2.recallFor r

/-- Start the UNSHARE of a closing herd that an extent still names, once nothing else is under way on it (R34). -/
def State.unshareClosing (s : State) (e : Nat) : State :=
  if s.extState e ≠ 1 then s
  else match (s.extHerds e).tail.find? (fun h => s.herdState h == 3) with
    | some h => s.startRevoke e 9 h
    | none => s

/-- Abandon the change under way on an extent (R120). -/
def State.abandon (s : State) (e : Nat) : State :=
  match s.changeOf e with
  | none => s
  | some c =>
    let s1 := { s with pool := { s.pool with changes := s.pool.changes.filter (fun x => x.ext != e) } }
    let s2 := s1.wr od2820_STATE e (if c.op = 1 then 0 else 1)
    s2.opEnd e c.op abInUse evAbandoned

/-- OP 6 (R114, R116, R120): a partial revoke under way becomes one of the whole extent, on its own timer. -/
def State.revokeOp (s : State) (e : Nat) : State :=
  match s.changeOf e with
  | some c =>
    let s1 := s.abandon e
    if c.op = 1 then ((s1.wr od2820_RESULT e abOk).extEvent e evRevokeDrained [0, 0]).extEvent e evRevokeDone []
    else s1.startRevoke e 6 0
  | none =>
    match s.pool.revokes.find? (fun r => r.ext == e) with
    | none => s.startRevoke e 6 0
    | some r =>
      if r.op = 6 then s
      else
        ({ s with pool := { s.pool with revokes := s.pool.revokes.filter (fun x => x.ext != e) } }).startRevoke e 6 0

/-- An accepted operation (R117). -/
def State.startOp (s : State) (e op arg : Nat) : State :=
  if op = 6 then s.revokeOp e
  else if op = 3 then s.startRevoke e 3 arg
  else if op = 9 then
    if arg < 4096 ∧ s.extShared e arg then s.startRevoke e 9 arg else s.opEnd e 9 abOk evOpDone
  else if op = 8 ∧ s.extShared e arg then s.opEnd e 8 abOk evOpDone
  else if s.herdState (s.extHerd e) ≠ 2 ∧ op = 1 then
    ((s.applyChange e 1 0).wr od2820_STATE e 1).opEnd e 1 abOk evOpDone
  else
    ({ s with pool := { s.pool with changes := s.pool.changes ++ [Change.mk e op arg s.clk] } }).wr od2820_STATE e 2

/-- A write of OP (Table 4.8): the abort code and the state after it. -/
def State.opWrite (s : State) (e op : Nat) : Nat × State :=
  let arg := s.rd od2820_ARG e
  let c := s.opCheck e op arg
  if c = abOk then (abOk, (s.startOp e op arg).unshareClosing e) else (c, s)

/-! ## The switch and the deadline (R118–R120) -/

/-- The composition deadline has gone by, its own cycle apart. -/
def State.deadlineGone (s : State) (started : Nat) : Bool :=
  decide (s.rd od2840_COMPOSITION_DEADLINE 0 * 1000 < s.nsSince started)

/-- The switch of a change. It does not come while a REHOME waits for a hand-off, or after the deadline. -/
def State.switchChange (s : State) (e : Nat) : State :=
  match s.changeOf e with
  | none => s
  | some c =>
    if s.deadlineGone c.started ∨ (c.op = 5 ∧ s.own.any (fun o => o.ext == e && o.state == 2)) then s
    else
      let code := s.switchCode e c.op c.arg
      let s1 := if code = abOk then s.applyChange e c.op c.arg else s
      let s2 := { s1 with pool := { s1.pool with changes := s1.pool.changes.filter (fun x => x.ext != e) } }
      ((s2.wr od2820_STATE e 1).opEnd e c.op code evOpDone).unshareClosing e

def execCompositionSwitch (e : ExtentId) (s : State) : Host.Outcome State Fault Refusal := (s.switchChange e.val).release.done

/-- The deadline expires before the switch. -/
def State.deadline (s : State) (e : Nat) : State :=
  match s.changeOf e with
  | none => s
  | some c => if s.past c.started (s.rd od2840_COMPOSITION_DEADLINE 0 * 1000) then (s.abandon e).unshareClosing e else s

def execCompositionDeadlineExpiry (e : ExtentId) (s : State) : Host.Outcome State Fault Refusal := (s.deadline e.val).done

/-! ## Draining and freeing (Table 4.9) -/

/-- Step 3: the requests left complete with E_EXTENT_REVOKED and are counted. -/
def State.endDrain (s : State) (r : Revoke) : State :=
  let left := s.revokeLeft r
  let loads := (left.filter (fun q => q.op == .load || q.op == .loadc)).length
  let stores := (left.filter (fun q => writes q.op)).length
  let s1 := s.failHeld eRevoked (s.revokeHits r)
  let s2 := left.foldl (fun s q => if q.place = .rate ∨ q.place = .order ∨ q.place = .route then s.answerHere q eRevoked 0 else s) s1
  let s3 := { s2 with pool := { s2.pool with revokes := s2.pool.revokes.map (fun (x : Revoke) => if x.ext = r.ext then { x with step := 3 } else x) } }
  s3.extEvent r.ext evRevokeDrained [loads, stores]

def State.revokeAt (s : State) (e step : Nat) : Option Revoke :=
  s.pool.revokes.find? (fun r => r.ext == e && r.step == step)

/-- The drain ends early, once no request remains. -/
def execRevokeDrainEnd (e : ExtentId) (s : State) : Host.Outcome State Fault Refusal :=
  (match s.revokeAt e.val 2 with
   | some r => if (s.revokeLeft r).isEmpty then s.endDrain r else s
   | none => s).done

/-- The revoke timeout expires. -/
def execRevokeTimeoutExpiry (e : ExtentId) (s : State) : Host.Outcome State Fault Refusal :=
  (match s.revokeAt e.val 2 with
   | some r => if s.past r.started (s.rd od2840_REVOKE_TIMEOUT 0 * 1000) then s.endDrain r else s
   | none => s).done

/-- The expanded blocks of an extent leave the buffers. -/
def State.dropBlocks (s : State) (e : Nat) : State :=
  { s with pool := { s.pool with blocks := quadMap (fun (l : List (Nat × Nat)) => l.filter (fun (x : Nat × Nat) => x.1 != e)) s.pool.blocks } }

/-- Registered readers of an extent that is gone are gone with it. -/
def State.forgetReaders (s : State) (e : Nat) : State :=
  (s.readersOf e).foldl (fun s r => s.wr od3010_STATE r 0) s

/-- Step 4. -/
def State.revokeFree (s : State) (r : Revoke) : State :=
  let e := r.ext
  let s0 := { s with pool := { s.pool with revokes := s.pool.revokes.filter (fun x => x.ext != e) } }
  if r.op = 9 then
    let s1 := s0.wr od2820_SHARED e (s.rd od2820_SHARED e &&& (2 ^ 4096 - 1 - 2 ^ r.arg))
    (((s1.wr od2820_STATE e 1).wr od2820_RESULT e abOk).extEvent e evRevokeDone []).unshareClosing e
  else
    let first := s.revokeFrom r
    let drop := (s.granulesOf e).filter (fun g => decide (first ≤ g))
    let s1 := drop.foldl (fun s g => s.freeGranule e g) s0
    let s2 := s1.forgetLines (lineKey e (first * granuleBytes)) (lineKey (e + 1) 0)
    let s3 := (s2.dropOwn (fun o => o.ext == e && decide (first * granuleBytes + s.extBase e ≤ o.list))).dropBlocks e
    if r.op = 3 then
      let s4 := s3.wr od2820_GRANULES e first
      let s5 := if s.extPlace e = 2 ∧ (s.extSlice e).isSome then s4.wr od2C40_GRANULES (s.volOf e) first else s4
      (((s5.wr od2820_STATE e 1).wr od2820_RESULT e abOk).extEvent e evRevokeDone []).unshareClosing e
    else
      let s4 := if s.extPlace e = 2 ∧ (s.extSlice e).isSome then s3.freeVolumeOf (s.volOf e) else s3
      let s5 := { s4 with pool := { s4.pool with extVol := sparseSet 0 s4.pool.extVol e 0,
                                                 forward := s4.pool.forward.filter (fun x => x.1 != e) } }
      let s6 := (((s5.forgetReaders e).wr od2820_STATE e 0).wr od2820_CSTATE e 0).wr od2820_RESULT e abOk
      s6.extEvent e evRevokeDone []

def execRevokeFree (e : ExtentId) (s : State) : Host.Outcome State Fault Refusal :=
  (match s.revokeAt e.val 3 with
   | some r => s.revokeFree r
   | none => s).release.done

/-! ## Granules and chunks (R102–R104, R124, R125) -/

/-- The reads of a granule from flash that have not ended. -/
def State.readsOut (s : State) (e g : Nat) : Bool :=
  s.nand.jobs.any (fun j => match j.work with | .read x y _ => x == e && y == g | _ => false)

/-- The fill of a granule ends; one from flash ends once every chunk has been read. -/
def execGranuleFillDone (e : ExtentId) (g : Nat) (s : State) : Host.Outcome State Fault Refusal :=
  (if s.readsOut e.val g || s.trayLost e.val g then s else (s.endFill e.val g).release).done

def execGranuleEviction (e : ExtentId) (g : Nat) (s : State) : Host.Outcome State Fault Refusal :=
  (if s.evictable e.val g then (s.evict e.val g).release else s).done

/-- Background zeroing of an allocated chunk that reads as zero: it then holds zeros and its bit is clear. A T3 granule is
trimmed instead. -/
def execBackgroundZeroing (e : ExtentId) (g : Nat) (chunk : Fin 32) (s : State) : Host.Outcome State Fault Refusal :=
  let d := s.gran e.val g
  (if s.rd od2C00_SCRUB_RATE 0 ≠ 0 ∧ (d.tier = 1 ∨ d.tier = 2) then s.openChunk e.val g chunk.val else s).done

/-- Apply the writes that wait for their chunk to be written through (R106). -/
def State.writeThroughs (s : State) (e place : Nat) : State :=
  (s.pool.held.filter (fun h => h.why == .writeThrough && h.ext == e && h.place == place)).foldl (fun s h =>
    ({ s with pool := { s.pool with held := s.pool.held.filter (fun x => x.req.id != h.req.id) } }).applyWrite h.req true) s

/-- A chunk may be cleaned now: in the background, below CLEAN_START, the PERSIST chunk that has been dirty longest goes first,
but for one that a request waits for (R105). -/
def State.mayClean (s : State) (e g c : Nat) : Bool :=
  !(s.extPersist e && (s.gran e g).dirty.getLsbD c) || s.pool.cleanAll || s.flushMode ||
  decide (s.rd od2C10_CLEAN_START 0 * s.rd od2C10_CEILING 0 ≤ s.rd od2C10_DIRTY_BYTES 0 * 100) ||
  s.pool.held.any (fun h => h.ext == e && h.chunks.contains (g * 32 + c)) ||
  s.pool.dirtied.head? == some (chunkId e g c)

/-- The cleaning of a chunk ends: it is on its tier of record, and what waited for it goes on (R104, R106). -/
def execChunkCleanDone (e : ExtentId) (g : Nat) (chunk : Fin 32) (s : State) : Host.Outcome State Fault Refusal :=
  (if ((s.gran e.val g).tier = 3 ∧ !s.hostRoom s.flushMode) ∨ !s.mayClean e.val g chunk.val then s
   else ((s.cleanChunk e.val g chunk.val).writeThroughs e.val (g * 32 + chunk.val)).release).done

/-- An expander has expanded a block (R123–R125); a corrupt one is never buffered. -/
def State.blockDone (s : State) (e b : Nat) : State :=
  if s.rd od2820_CSTATE e ≠ 2 ∨ !s.pool.held.any (fun h => h.why == .expand && h.ext == e && h.place == b) then s
  else
    let q := s.extQuad e
    match s.expandBlock e b with
    | some _ => ((s.bufferBlock e b).tally (s.extHerd e) (0x700 + 8 * q + 4) 1).release
    | none =>
      let hit := s.pool.held.filter (fun h => h.why == .expand && h.ext == e && h.place == b)
      let s1 := { s with pool := { s.pool with held := s.pool.held.filter (fun (h : Held) => !(h.why == HoldWhy.expand && h.ext == e && h.place == b)) } }
      let s2 := hit.foldl (fun s h => s.complete h.req ePoison 0 []) s1
      ((s2.tally (s.extHerd e) (0x700 + 8 * q + 6) 1).emit q evBlockPoison (s.extHerd e) 12 q 0 [e, b]).release

def execBlockExpansionDone (e : ExtentId) (block : Nat) (s : State) : Host.Outcome State Fault Refusal :=
  (if s.mode = 0 ∧ !s.flushMode then s.blockDone e.val block else s).done

/-- A granule moves between frames of one tier (R103): between cache frames, or between the granules of its tier of record. -/
def State.moveGranule (s : State) (e g f : Nat) : State :=
  let d := s.gran e g
  if d.tier = 0 then s
  else if d.cached && d.tier != 1 then
    if s.frame f = frameNone ∧ f < s.cacheSets * 16 ∧ !d.moving ∧ f / 16 = s.setOf d ∧ f % 16 ∈ s.waysOf (s.extHerd e) then
      ((s.setFrame f (s.frame d.frame)).setFrame d.frame frameNone).setGran e g { d with frame := f }
    else s
  else if s.pool.gran.any (fun kv => kv.2.tier == d.tier && kv.2.loc == f) ∨ s.trayLost e g ∨ (d.tier = 2 ∧
      !s.ports.regions.any (fun r => decide (regionBase r ≤ f) && decide (f < regionBase r + r.count) && !s.ports.failed.contains r.port.val)) then s
  else s.setGran e g { d with loc := f % 2 ^ 32 }

def execGranuleMove (e : ExtentId) (g frame : Nat) (s : State) : Host.Outcome State Fault Refusal :=
  (s.moveGranule e.val g frame).release.done

end Sys2Proof.Machine
end

