-- ==== Sys2Proof/Machine/Nand.lean ====
section
/-! DEFINITION. Flash shelves: attachment, completions, timeouts, checkpoints, reclamation, wear and refresh, and the deletion
of volumes (chapter 14). -/

namespace Sys2Proof.Machine

/-! ## Attachment (R342) -/

def powerOfTwo (n : Nat) : Bool := decide (0 < n) && n == 2 ^ Nat.log2 n

/-- Raw bytes of a shelf. -/
def rawBytes (g : ShelfGeometry) : Nat := g.channels * g.dies * g.blocks * g.pages * 16384

/-- Table 14.1, but for the raw capacity of every shelf together. -/
def geometryOk (g : ShelfGeometry) : Bool :=
  g.page == 16384 && decide (64 ≤ g.spare) && decide (256 ≤ g.pages) && decide (g.pages ≤ 4096) && powerOfTwo g.pages &&
  decide (512 ≤ g.blocks) && decide (g.blocks ≤ 1048575) && decide (1 ≤ g.dies) && decide (g.dies ≤ 64) &&
  decide (1 ≤ g.channels) && decide (g.channels ≤ 64) && decide (1000 ≤ g.rated) && decide (g.rated ≤ 100000)

/-- Poison a chunk of a volume where a local extent has it attached, and count and report its loss (R356). -/
def State.loseChunk (s : State) (key p : Nat) : State :=
  let v := key / 4294967296
  let c := key % 4294967296
  let n := s.nand
  let s1 := { s with nand := { n with map := sparseSet 0 n.map key 0, lost := if n.lost.contains key then n.lost else n.lost ++ [key] } }
  let s2 := if (s.placeOf key).isSome then s1.wr od2C40_CHUNKS v (s1.rd od2C40_CHUNKS v - 1) else s1
  let hit := s2.extents.filter (fun e => s2.extPlace e == 2 && (s2.extSlice e).isSome && s2.rd od2C40_STATE v == 1 && s2.volOf e == v)
  let s3 := hit.foldl (fun s e =>
    if (s.whereByte e (c * chunkBytes)).1 = 3 then s.poisonChunk e (c / 32) (c % 32) else s) s2
  (s3.bump od2C30_LOST_CHUNKS p 64 1).emit (portQuad p) evChunkLost (s3.rd od2C40_HERD v) 11 p 0 [s3.rd od2C40_ID v, c]

/-- The chunks that a set of blocks holds. -/
def State.chunksIn (s : State) (f : Nat → Bool) : List (Nat × Nat) :=
  (s.nand.map.filter (fun kv => f (placeBlock (kv.2 - 1)))).map (fun kv => (kv.1, kv.2 - 1))

/-- A tray port has come to STATE 3 and its shelf has given its geometry: accept it or refuse it. A shelf of another geometry
than the port's last one is another shelf. -/
def State.attachShelf (s : State) (p : Nat) (g : ShelfGeometry) : State :=
  if s.rd od2118_STATE p ≠ 3 ∨ s.rd od2810_ROLE p ≠ 3 ∨ s.isCxl p then s
  else
    let raw := s.shelves.foldl (fun a x => if x = p then a else a + rawBytes (s.geo x)) 0
    if !geometryOk g || decide (256 * 1024 * gib < raw + rawBytes g) then
      (s.wr od2C30_STATE p 2).emit (portQuad p) evShelfRefused 0 11 p 0 [p]
    else
      let s1 := if s.geo p = g then s
        else
          let gone := s.chunksIn (fun b => blockPort b == p)
          let s1 := gone.foldl (fun s x => s.loseChunk x.1 p) s
          let n := s1.nand
          let s2 := { s1 with nand := { n with
            geo := sparseSet geoNone n.geo p g, blocks := n.blocks.filter (fun kv => blockPort kv.1 != p),
            dead := n.dead.filter (fun d => d / 4096 != p), opens := n.opens.filter (fun b => blockPort b != p) } }
          ((s2.wr od2C30_GOOD_BLOCKS p (g.channels * g.dies * g.blocks)).wr od2C30_RETIRED p 0)
      (s1.wr od2C30_STATE p 1).recompute.pump

def execShelfAttach (p : PortId) (geo : ShelfGeometry) (s : State) : Host.Outcome State Fault Refusal :=
  ((s.attachShelf p.val geo).release).done

/-! ## Copies, erases and retirement (R352–R356) -/

/-- Copy the valid chunks of a block, which is then erased. -/
def State.copyBlock (s : State) (b : Nat) : State :=
  let s1 := (s.chunksIn (· == b)).foldl (fun s x => s.addJob (.copy x.1 x.2 0) false (pageOps 1 x.2)) s
  { s1 with nand := { s1.nand with reclaim := if s1.nand.reclaim.contains b then s1.nand.reclaim else s1.nand.reclaim ++ [b] } }

/-- A block is never used again; its valid chunks are copied. -/
def State.retireBlock (s : State) (b : Nat) : State :=
  if (s.nandBlock b).state = 3 then s
  else
    let p := blockPort b
    let s1 := s.setNandBlock b { s.nandBlock b with state := 3 }
    let s2 := (s1.wr od2C30_GOOD_BLOCKS p (s1.rd od2C30_GOOD_BLOCKS p - 1)).bump od2C30_RETIRED p 32 1
    let s3 := { s2 with nand := { s2.nand with opens := s2.nand.opens.filter (· != b) } }
    (s3.chunksIn (· == b)).foldl (fun s x => s.addJob (.copy x.1 x.2 0) false (pageOps 1 x.2)) s3

/-- Nothing in a block is valid or being read. -/
def State.blockIdle (s : State) (b : Nat) : Bool :=
  (s.chunksIn (· == b)).isEmpty && !s.nand.ops.any (fun o => o.block == b)

/-- Erase the blocks that are to be reclaimed and are idle. -/
def State.eraseReady (s : State) : State :=
  (s.nand.reclaim.filter s.blockIdle).foldl (fun s b =>
    { s.addJob .erase false [(b, 3, 0)] with
        nand := { (s.addJob .erase false [(b, 3, 0)]).nand with reclaim := s.nand.reclaim.filter (· != b) } }) s

def State.dropJob (s : State) (id : Nat) : State :=
  let n := s.nand
  { s with nand := { n with jobs := n.jobs.filter (fun j => j.id != id), ops := n.ops.filter (fun o => o.job != id) } }

/-- The loads that wait for a chunk of an extent are served from where it is. -/
def State.serveFlash (s : State) (e place : Nat) : State :=
  (s.pool.held.filter (fun h => h.why == HoldWhy.flash && h.ext == e && h.place == place)).foldl (fun s h =>
    ({ s with pool := { s.pool with held := s.pool.held.filter (fun (x : Held) => x.req.id != h.req.id) } }).loadNow h.req) s

/-- A chunk of a fill has been read: its location switches to T1. -/
def State.chunkRead (s : State) (e g c : Nat) (copy : Bool) : State :=
  let hit := fun (m : Move) => m.ext == e && m.gran == g && m.fill && !m.done.getLsbD c
  let s1 := if s.pool.moves.any hit then
      let s2 := if copy then s.copyChunk e g c true else s
      { s2 with pool := { s2.pool with moves := s2.pool.moves.map (fun (m : Move) => if hit m then { m with done := m.done ||| (1#32 <<< c) } else m) } }
    else s
  (s1.serveFlash e (g * 32 + c)).release

/-- A piece of work has done the operations of its phase. -/
def State.jobDone (s : State) (j : NandJob) : State :=
  match j.work with
  | .read e g c => (s.dropJob j.id).chunkRead e g c true
  | .copy key src dst =>
    if !j.progs then
      match (if s.rd od2C20_RESERVE_BLOCKS 0 < s.freeBlocks ∨ s.openRoom.isSome then s.takePlace else none) with
      | none => s.dropJob j.id
      | some (place, s1) => (s1.dropJob j.id).addJob (.copy key src place) true (pageOps 2 place)
    else
      let s1 := s.dropJob j.id
      if s.placeOf key = some src then s1.switchMap key dst else s1
  | _ => s.dropJob j.id

/-- A page of a piece of work is done. -/
def State.pageDone (s : State) (id : Nat) : State :=
  match s.nand.jobs.find? (fun j => j.id == id) with
  | none => s
  | some j =>
    if j.left ≤ 1 then s.jobDone j
    else { s with nand := { s.nand with jobs := s.nand.jobs.map (fun (x : NandJob) => if x.id = id then { x with left := x.left - 1 } else x) } }

/-- Every level has failed for a page: the chunk is lost (R356). -/
def State.pageLost (s : State) (id p : Nat) : State :=
  match s.nand.jobs.find? (fun j => j.id == id) with
  | none => s
  | some j =>
    let s1 := s.dropJob id
    match j.work with
    | .read e g c => (s1.loseChunk (s1.chunkKey e g c) p).chunkRead e g c false
    | .copy key _ _ => s1.loseChunk key p
    | _ => s1

/-- Refresh a block (R355). -/
def State.refreshBlock (s : State) (b : Nat) : State :=
  if (s.nandBlock b).state ≠ 2 ∨ s.nand.reclaim.contains b ∨ s.flushMode then s
  else (s.copyBlock b).bump od2C30_REFRESHES (blockPort b) 64 1

/-- The erase counts of a shelf's good blocks. -/
def State.eraseCounts (s : State) (p : Nat) : State :=
  let seen := (s.nand.blocks.filter (fun kv => blockPort kv.1 == p && kv.2.state != 3)).map (fun kv => kv.2.erases)
  let least := if seen.length < s.rd od2C30_GOOD_BLOCKS p then 0 else seen.foldl min (seen.headD 0)
  (s.wr od2C30_ERASE_MIN p least).wr od2C30_ERASE_MAX p (seen.foldl max 0)

/-! ## Completions and timeouts (R343, R344) -/

def State.putOps (s : State) (ops : List ShelfOp) : State := { s with nand := { s.nand with ops := ops } }

/-- Count a shelf retry. -/
def State.shelfRetry (s : State) (p : Nat) : State := s.count (coreCounter (portQuad p) 6) 1

/-- An operation of a shelf has ended. -/
def State.opDone (s : State) (p : Nat) (o : ShelfOp) (c : ShelfResult) : State :=
  let again := fun (x : ShelfOp) => (s.putOps (s.nand.ops.map (fun y => if y = o then x else y))).shelfRetry p
  let gone := s.putOps (s.nand.ops.erase o)
  let st := c.status.toNat
  if o.op = 4 then gone
  else if o.op = 1 ∧ st = 0 then
    let x := gone.nandBlock o.block
    let s1 := gone.setNandBlock o.block { x with reads := x.reads + 1 }
    let s2 := s1.pageDone o.job
    if (s.geo p).limit * 3 < c.corrected.toNat * 4 then s2.refreshBlock o.block else s2
  else if o.op = 1 ∧ st = 1 then
    if o.retry < 15 then again { o with retry := o.retry + 1, tag := none, again := false } else gone.pageLost o.job p
  else if o.op = 2 ∧ st = 0 then gone.pageDone o.job
  else if o.op = 2 ∧ st = 2 then
    match s.nand.jobs.find? (fun j => j.id == o.job) with
    | some j => match j.work with
      | .copy key src _ => ((gone.dropJob o.job).retireBlock o.block).addJob (.copy key src 0) false (pageOps 1 src)
      | _ => (gone.dropJob o.job).retireBlock o.block
    | none => gone.retireBlock o.block
  else if o.op = 3 ∧ st = 0 then
    let x := gone.nandBlock o.block
    ((gone.setNandBlock o.block { x with state := 0, erases := x.erases + 1, reads := 0, used := 0, prog := 0 }).dropJob o.job).eraseCounts p
  else if o.op = 3 ∧ st = 2 then (gone.dropJob o.job).retireBlock o.block
  else again { o with tag := none }

/-- A completion is matched to its operation by channel, die and tag; one that matches none is discarded and counted. -/
def State.shelfDone (s : State) (p : Nat) (c : ShelfResult) : State :=
  let die := p * 4096 + c.channel.toNat * 64 + c.die.toNat
  match s.nand.ops.find? (fun o => opDie o == die && o.tag == some c.tag.toNat) with
  | none => s.shelfRetry p
  | some o => ((s.opDone p o c).eraseReady).pump

def execShelfCompletion (p : PortId) (c : ShelfResult) (s : State) : Host.Outcome State Fault Refusal :=
  (if s.rd od2118_STATE p.val = 3 then s.shelfDone p.val c else s).done

/-- A die has failed: its blocks are retired and its chunks are lost (R344, R356). -/
def State.failDie (s : State) (p die : Nat) : State :=
  let n := (s.shelfBlocks p).filter (fun b => blockDie b == die)
  let s1 := n.foldl (fun s b => s.setNandBlock b { s.nandBlock b with state := 3 }) s
  let s2 := (s1.wr od2C30_GOOD_BLOCKS p (s1.rd od2C30_GOOD_BLOCKS p - n.length)).bump od2C30_RETIRED p 32 n.length
  let x := s2.nand
  let s3 := { s2 with nand := { x with
    dead := x.dead ++ [die], opens := x.opens.filter (fun b => blockDie b != die),
    reclaim := x.reclaim.filter (fun b => blockDie b != die) } }
  let lost := s3.chunksIn (fun b => blockDie b == die)
  let jobs := (s3.nand.ops.filter (fun o => opDie o == die)).map (·.job)
  let reads := s3.nand.jobs.filter (fun j => jobs.contains j.id)
  let s4 := reads.foldl (fun s j => s.dropJob j.id) s3
  let s5 := lost.foldl (fun s k => s.loseChunk k.1 p) s4
  let s6 := reads.foldl (fun s j => match j.work with | .read e g c => s.chunkRead e g c false | _ => s) s5
  s6.emit (portQuad p) evDieFailed 0 11 p 0 [die % 4096]

/-- No completion in time: reset the die and try once more, or the die has failed. -/
def State.shelfTimeout (s : State) (p tag : Nat) : State :=
  match s.nand.ops.find? (fun o => blockPort o.block == p && o.tag == some tag &&
      s.past o.sent (s.rd od2C20_SHELF_OP_TIMEOUT 0 * 1000000)) with
  | none => s
  | some o =>
    if o.again then (s.failDie p (opDie o)).eraseReady.pump
    else
      let rest := s.nand.ops.filter (fun x => x != o)
      let reset : ShelfOp := ⟨o.block, 4, 0, 0, 0, none, 0, true⟩
      ((s.putOps (reset :: { o with tag := none, again := true } :: rest)).shelfRetry p).pump

def execShelfOpTimeoutExpiry (p : PortId) (tag : Nat) (s : State) : Host.Outcome State Fault Refusal :=
  (s.shelfTimeout p.val tag).done

/-! ## Checkpoints, reclamation, wear and refresh -/

def execMapCheckpoint (p : PortId) (s : State) : Host.Outcome State Fault Refusal :=
  (if s.shelfUp p.val && (decide (s.rd od2C20_CHECKPOINT_CHUNKS 0 ≤ s.nand.since) || s.nand.opens.isEmpty) then s.checkpoint
   else s).done

/-- The full block of a shelf that is least by a measure. -/
def State.leastFull (s : State) (p : Nat) (f : Nat → Nat) : Option Nat :=
  ((s.nand.blocks.filter (fun kv => blockPort kv.1 == p && kv.2.state == 2 && !s.nand.reclaim.contains kv.1)).map (·.1)).foldl
    (fun best b => match best with | none => some b | some x => if f b < f x then some b else some x) none

/-- Reclaim the full block with the fewest valid chunks while free blocks outside the reserve are below GC_START (R352). -/
def State.collect (s : State) (p : Nat) : State :=
  if !s.shelfUp p || s.flushMode ||
      decide (s.rd od2C20_GC_START 0 * s.goodBlocks ≤ (s.freeBlocks - s.rd od2C20_RESERVE_BLOCKS 0) * 100) then s
  else match s.leastFull p (fun b => (s.chunksIn (· == b)).length) with
    | none => s
    | some b => ((s.copyBlock b).eraseReady).pump

def execGarbageCollection (p : PortId) (s : State) : Host.Outcome State Fault Refusal := (s.collect p.val).done

/-- Move the least-erased full block while the erase counts differ by more than WEAR_SPREAD (R354). -/
def State.levelWear (s : State) (p : Nat) : State :=
  if !s.shelfUp p || s.flushMode ||
      decide (s.rd od2C30_ERASE_MAX p - s.rd od2C30_ERASE_MIN p ≤ s.rd od2C20_WEAR_SPREAD 0) then s
  else match s.leastFull p (fun b => (s.nandBlock b).erases) with
    | none => s
    | some b => ((s.copyBlock b).eraseReady).pump

def execWearLevelling (p : PortId) (s : State) : Host.Outcome State Fault Refusal := (s.levelWear p.val).done

/-- A block is due for refresh by its reads or its age. -/
def State.refreshDue (s : State) (b : Nat) : Bool :=
  let x := s.nandBlock b
  decide (s.rd od2C20_READ_LIMIT 0 < x.reads) ||
  (decide (s.rd od2000_QUALITY 0 ≤ 1) && decide (x.prog + s.rd od2C20_RETENTION_DAYS 0 * 86400 * 2 ^ 32 ≤ s.ft 0))

def execBlockRefresh (p : PortId) (block : Nat) (s : State) : Host.Outcome State Fault Refusal :=
  let b := blockKey p.val 0 block
  (if s.shelfUp p.val && decide (block < 4096 * 1048576) && s.refreshDue b then ((s.refreshBlock b).eraseReady).pump else s).done

/-- The patrol reads at a boot whose fabric time cannot judge any block's age (R355). -/
def State.patrol (s : State) : State :=
  ((s.nand.blocks.filter (fun kv => kv.2.state == 2)).map (·.1)).foldl (fun s b => s.addJob .patrol false [(b, 1, 0)]) s

/-- Reclamation, refresh and wear levelling stop; copies not yet switched are abandoned (R351). -/
def State.stopCopies (s : State) : State :=
  let js := s.nand.jobs.filter (fun j => match j.work with | .copy _ _ _ => true | .patrol => true | _ => false)
  let s1 := js.foldl (fun s j => s.dropJob j.id) s
  { s1 with nand := { s1.nand with reclaim := [] } }

/-! ## Volumes -/

/-- A write of DELETE with the ID of a detached volume (Table 14.4). -/
def State.deleteWrite (s : State) (v value : Nat) : Nat × State :=
  if s.rd od2C40_STATE v = 2 ∧ s.rd od2C40_ID v = value then (abOk, s.freeVolumeOf v) else (abRange, s)

/-- At boot every attached volume becomes detached, and one without PERSIST is freed (R347). -/
def State.detachVolumes (s : State) : State :=
  ((odListed s.od od2C40_STATE).filter (fun kv => kv.2 != 0)).foldl (fun s kv =>
    if s.rd od2C40_PERSIST kv.1 = 1 then s.wr od2C40_STATE kv.1 2 else s.freeVolumeOf kv.1) s

end Sys2Proof.Machine
end

