-- ==== Sys2Proof/Machine/Graph.lean ====
section
/-! DEFINITION. The hang watchdog and the wait-for graph (R449, R451–R453). -/

namespace Sys2Proof.Machine

/-- The management cores run: not in RESET_N, P3 or P4 (R469, R487). -/
def State.coresRun (s : State) : Bool := !s.pins.inReset && decide (s.rd od4C00_STATE 0 < 3)

/-! ## The hang watchdog (R449) -/

/-- What the watchdog looks at, as a key and a signature that changes when it moves: running KERNEL commands, command
rings with an eligible descriptor, and head frames behind an open gate. -/
def State.hangSuspects (s : State) : List (Nat × Nat) :=
  ((s.cpu.cmds.filter (fun c => c.kind == 1 && c.work.phase == 1 && !c.finished)).map (fun c =>
    (c.cid, c.scope.getD 1 0 * 2 ^ 32 + (c.scope.getD 2 0 - (c.tines.map (fun t =>
      ((s.tine t).sb.filter (fun e => (s.thread t e.thread).cid == c.cid)).length)).sum)))) ++
  ((s.busyRings.filter s.eligibleRing).map (fun r =>
    (2 ^ 40 + r, s.rd od3410_CONSUMED r * 2 ^ 32 + (s.ring r).reissue.length))) ++
  (((s.sw.tx.map (·.queue)).eraseDups.filterMap s.headOf).filterMap (fun f =>
    if s.gatePasses f.port.val (bodyClass f.body) then some (2 ^ 41 + f.queue, f.id) else none))

/-- What the watchdog remembers after a look: the suspects, each since it was first seen as it is. -/
def State.hangSeen (s : State) : List (Nat × Nat × Nat) :=
  s.hangSuspects.map (fun x => match s.dbg.hang.find? (fun y => y.1 == x.1 && y.2.1 == x.2) with
    | some y => y
    | none => (x.1, x.2, s.clk))

/-- One check of the watchdog. -/
def State.hangCheck (s : State) : State :=
  let seen := s.hangSeen
  let s1 := { s with dbg := { s.dbg with hang := seen } }
  if seen.any (fun x => decide (s.rd od48A0_HANG_TIMEOUT 0 * 1000000 < s.nsSince x.2.2)) then
    let s2 := s1.startBuild false
    if s2.stotMode = 2 then s2.stotEvent 3 else s2
  else s1

def execHangWatchdogCheck (s : State) : Host.Outcome State Fault Refusal :=
  (if s.coresRun then s.hangCheck else s).done

/-! ## Nodes and edges (Tables 18.10 and 18.11) -/

/-- A node of the graph while it is built. -/
inductive WaitNode where
  | thread (t h : Nat)
  | command (cid : Nat)
  | eligible (ring : Nat)
  | queue (q : Nat)
  | line (l : Nat)
  | extent (e : Nat)
  | request (id : Nat)
  | port (p : Nat)
  deriving DecidableEq, Repr

/-- A node record (Table 18.11). -/
def nodeRecord (kind herd : Nat) (sealed_ : Bool) (id aux : Nat) : Nat × Nat :=
  (kind * 2 ^ 60 + herd % 4096 * 2 ^ 48 + (if sealed_ then 2 ^ 47 else 0) + id % 2 ^ 47, aux % 2 ^ 64)

def State.cmdRecord (s : State) (c : Cmd) : Nat × Nat :=
  nodeRecord 1 c.herd (s.sealedHerd c.herd) c.ring (c.word 0 % 2 ^ 32 * 2 ^ 32)

def State.nodeOf (s : State) : WaitNode → Nat × Nat
  | .thread t h =>
    let herd := match s.anyCmd (s.thread t h).cid with | some c => c.herd | none => 0xFFF
    nodeRecord 0 herd (s.sealedHerd herd) (t * 256 + h) 0
  | .command cid => match s.anyCmd cid with | some c => s.cmdRecord c | none => nodeRecord 1 0xFFF false 0 0
  | .eligible r => s.cmdRecord (s.firstCmd r)
  | .queue q =>
    let herd := if s.rd od2400_TYPE q = 1 then s.rd od2400_HERD q else s.rd od3410_HERD q
    nodeRecord 2 herd (s.sealedHerd herd) q 0
  | .line l =>
    let e := lineExt l
    let sealed_ := s.sealedHerd (s.extHerd e)
    nodeRecord 3 (s.extHerd e) sealed_ (s.extQuad e) (if sealed_ then e else s.extBase e + lineOff l)
  | .extent e => nodeRecord 4 (s.extHerd e) (s.sealedHerd (s.extHerd e)) e 0
  | .request id =>
    match (s.tr.outstanding ++ s.homeReqs).find? (fun r => r.id == id) with
    | some r => nodeRecord 5 r.hdr.herd.toNat (s.sealedHerd r.hdr.herd.toNat) (r.hdr.src.toNat * 65536 + r.hdr.tag.toNat)
        (r.hdr.psn.toNat * 2 ^ 32)
    | none => nodeRecord 5 0xFFF false 0 0
  | .port p => nodeRecord 6 (s.rd od2810_HERD p) (s.sealedHerd (s.rd od2810_HERD p)) p 0

/-- The request of a scoreboard entry. -/
def State.entryRequest (s : State) (t : Nat) (e : SbEntry) : Option Nat :=
  (s.tr.outstanding.find? (fun r => r.hdr.tag.toNat == e.tag && r.hdr.psn.toNat == e.psn && (match r.sender with
    | .tine a h => a.val == t && h.val == e.thread
    | _ => false))).map (·.id)

/-- A thread waits for scoreboard entries, in WAIT, BAR or on a full scoreboard. -/
def waitsOnEntries : ThreadWait → Bool
  | .entries _ | .bar | .scoreboard => true
  | _ => false

/-- Edges of the threads of a tine. -/
def State.threadEdges (s : State) (t : Nat) : List (WaitNode × WaitNode) :=
  (s.liveThreads t).flatMap (fun kv =>
    (if waitsOnEntries kv.2.wait then ((s.tine t).sb.filter (fun e => e.thread == kv.1)).filterMap (fun e =>
        (s.entryRequest t e).map (fun id => (WaitNode.thread t kv.1, WaitNode.request id))) else []) ++
    (if kv.2.wait == .bar then ((s.liveThreads t).filter (fun x => x.2.cid == kv.2.cid && x.2.wait != .bar)).map (fun x =>
        (WaitNode.thread t kv.1, WaitNode.thread t x.1)) else []))

/-- Edges of the commands that run. -/
def State.cmdEdges (s : State) (c : Cmd) : List (WaitNode × WaitNode) :=
  c.tines.flatMap (fun t => ((s.liveThreads t).filter (fun kv => kv.2.cid == c.cid)).map (fun kv =>
    (WaitNode.command c.cid, WaitNode.thread t kv.1)))

/-- Edges of a command ring whose first eligible command cannot launch, and of that command. -/
def State.ringEdges (s : State) (r : Nat) : List (WaitNode × WaitNode) :=
  if !s.eligibleRing r then []
  else
    let c := s.firstCmd r
    match s.launchWay c with
    | .wait =>
      let prof := match c.profile with
        | some p => if s.profileBusy c then ((s.prof p).holder.toList.map (fun x => (WaitNode.eligible r, WaitNode.command x))) else []
        | none => []
      let slot := if s.ringFree c.event = 0 ∧ c.reissued = 0 then [(WaitNode.eligible r, WaitNode.queue c.event)] else []
      let earlier := if bitAt (c.word 0) 49 then (s.cpu.cmds.filter (fun x => x.ring == r)).map (fun x =>
        (WaitNode.queue r, WaitNode.command x.cid)) else []
      (WaitNode.queue r, WaitNode.eligible r) :: (prof ++ slot ++ earlier)
    | _ => []

/-- The lines that a request waits for. -/
def State.linesAwaited (s : State) (r : Req) : List Nat :=
  (s.coh.waits.filter (fun w => (w.req.map (·.id)) == some r.id)).map (·.line) ++
  (s.coh.rut.filter (fun l => (l.admitted ++ l.waiting).any (fun q => q.req.id == r.id))).map (·.line) ++
  (if s.coh.ops.any (fun o => o.req.id == r.id) then (s.reqLines r).filter s.lineBusy else [])

/-- Edges of a request. -/
def State.requestEdges (s : State) (r : Req) : List (WaitNode × WaitNode) :=
  (s.linesAwaited r).map (fun l => (WaitNode.request r.id, WaitNode.line l)) ++
  (if (r.place == .home || r.place == .route) && ((s.changeOf r.ext).isSome || s.pool.revokes.any (fun x => x.ext == r.ext)) then
    [(WaitNode.request r.id, WaitNode.extent r.ext)] else []) ++
  (s.sw.tx.filter (fun f => match f.body with
    | .req _ h _ => r.place == .queue && h.src == r.hdr.src && h.tag == r.hdr.tag && h.psn == r.hdr.psn
    | _ => false)).map (fun f => (WaitNode.request r.id, WaitNode.queue f.queue))

/-- Edges of a line: to the request of the transaction that blocks it, or to a thread of the tine probed for it. -/
def State.lineEdges (s : State) (t : LineTxn) : List (WaitNode × WaitNode) :=
  (t.req.map (fun r => (WaitNode.line t.line, WaitNode.request r.id))).toList ++
  (if t.req.isNone && t.probe then
    ((s.liveThreads (s.dirOf t.line).owner).map (fun kv => (WaitNode.line t.line, WaitNode.thread (s.dirOf t.line).owner kv.1))).take 1
   else [])

/-- Edges of a transmit queue to its port while the port lacks credits for its head frame. -/
def State.queueEdges (s : State) (f : TxFrame) : List (WaitNode × WaitNode) :=
  if listGet (s.link f.port.val).credits (bodyClass f.body) < f.cells then [(WaitNode.queue f.queue, WaitNode.port f.port.val)] else []

/-- Every edge of the graph now. -/
def State.waitEdges (s : State) : List (WaitNode × WaitNode) :=
  ((s.cpu.tines.map (·.1)).flatMap s.threadEdges ++ s.cpu.cmds.flatMap s.cmdEdges ++ s.busyRings.flatMap s.ringEdges ++
    (s.tr.outstanding ++ s.homeReqs).flatMap s.requestEdges ++ s.coh.txns.flatMap s.lineEdges ++
    ((s.sw.tx.map (·.queue)).eraseDups.filterMap s.headOf).flatMap s.queueEdges).eraseDups

/-! ## Cycles (R452) -/

/-- What a set of nodes reaches in at most `n` rounds. -/
def reachFrom (edges : List (Nat × Nat)) : Nat → List Nat → List Nat
  | 0, seen => seen
  | n + 1, seen =>
    let next := ((edges.filter (fun e => seen.contains e.1)).map (·.2)).filter (fun x => !seen.contains x)
    if next.isEmpty then seen else reachFrom edges n (seen ++ next.eraseDups)

/-- The nodes that node i reaches by at least one edge. -/
def reachable (edges : List (Nat × Nat)) (n i : Nat) : List Nat :=
  reachFrom edges n (((edges.filter (fun e => e.1 == i)).map (·.2)).eraseDups)

/-- The strongly connected sets of two or more nodes, each listed from its least node, and the nodes with an edge to
themselves. -/
def cyclesOf (edges : List (Nat × Nat)) (n : Nat) : List (List Nat) :=
  (List.range n).filterMap (fun i =>
    let set := ((reachable edges n i).filter (fun j => (reachable edges n j).contains i))
    let whole := (List.range n).filter (fun j => set.contains j)
    if 2 ≤ whole.length ∧ whole.head? = some i then some whole else none) ++
  ((List.range n).filter (fun i => edges.contains (i, i))).map (fun i => [i])

/-- The records of a cycle. -/
def cycleRecords (nodes : List (Nat × Nat)) (c : List Nat) : List (Nat × Nat) := c.map (fun i => nodes.getD i (0, 0))

def maxNodes : Nat := 65536
def maxEdges : Nat := 262144

/-- The graph as a build samples it now, and whether a limit of R453 was reached. -/
def State.sampleGraph (s : State) : WaitGraph × Bool :=
  let es := s.waitEdges
  let all := (es.flatMap (fun e => [e.1, e.2])).eraseDups
  let kept := all.take maxNodes
  let index := fun (x : WaitNode) => kept.findIdx? (· == x)
  let inside := es.filterMap (fun e => match index e.1, index e.2 with
    | some i, some j => some (i, j)
    | _, _ => none)
  let edges := inside.take maxEdges
  ({ nodes := kept.map s.nodeOf, edges := edges, cycles := cyclesOf edges kept.length, header := s.freeN },
   decide (maxNodes < all.length) || decide (maxEdges < inside.length))

/-- Write the entries of OD 48B0 that a build ends with. -/
def State.graphEntries (s : State) (g : WaitGraph) (stalled : Nat) (cut : Bool) : State :=
  let s1 := (s.wr od48B0_STATE 0 0).wr od48B0_NODES 0 g.nodes.length
  let s2 := (s1.wr od48B0_EDGES 0 g.edges.length).wr od48B0_CYCLES 0 (min 65535 g.cycles.length)
  let s3 := (s2.wr od48B0_STALLED 0 (min 65535 stalled)).wr od48B0_TRUNCATED 0 (if cut then 1 else 0)
  s3.wr od48B0_BUILT 0 (s.ft 0)

/-- Cycles of a graph that the last build held too. -/
def State.stalledIn (s : State) (g : WaitGraph) : Nat :=
  let old := s.dbg.graph.cycles.map (cycleRecords s.dbg.graph.nodes)
  (g.cycles.filter (fun c => old.contains (cycleRecords g.nodes c))).length

/-- A build ends: the graph is the one read from now on; cycles that the last build held too are stalled (R452, R453). -/
def State.endBuild (s : State) : State :=
  let x := s.sampleGraph
  let g := x.1
  let stalled := s.stalledIn g
  let d := { s.dbg with graph := g, building := none, buildDump := false, lastBuild := s.dbg.building.getD s.clk }
  let s1 : State := { s with freeN := s.freeN + 1, dbg := d }
  let s2 := s1.graphEntries g stalled x.2
  let s3 := (s2.count 0x7C5 g.cycles.length).count (0x740 + 8 * s2.deviceCore + 7) 1
  if 0 < stalled ∧ s.rd od48B0_STALLED 0 = 0 ∧ s3.stotMode = 2 then s3.stotEvent 4 else s3

/-- The graph as OD 48B8 reads it (R453): header, node records, edges, and cycles. -/
def State.graphBytes (s : State) : List Byte :=
  let g := s.dbg.graph
  (List.range 64).map (fun i => BitVec.ofNat 8 (Config.graphHeader g.header i)) ++
  g.nodes.flatMap (fun n => toLe 8 n.1 ++ toLe 8 n.2) ++ g.edges.flatMap (fun e => toLe 4 e.1 ++ toLe 4 e.2) ++
  g.cycles.flatMap (fun c => toLe 4 c.length ++ c.flatMap (toLe 4))

/-- A write of 1 to BUILD (R451). -/
def State.buildWrite (s : State) : Nat × State :=
  if s.dbg.building.isSome then (abInUse, s) else (abOk, s.startBuild false)

def execGraphPeriodExpiry (s : State) : Host.Outcome State Fault Refusal :=
  (let p := s.rd od48B0_PERIOD 0
   if p = 0 ∨ !s.coresRun ∨ s.dbg.building.isSome ∨ !s.past s.dbg.lastBuild (p * 1000000) then s else s.startBuild false).done

def execGraphBuildDone (s : State) : Host.Outcome State Fault Refusal :=
  (if s.dbg.building.isSome && s.coresRun then s.endBuild else s).done

/-- The dump is written: STATE goes from 2 to 3 (R448). The build before it has ended by then (R451). -/
def State.endDump (s : State) : State :=
  if s.rd od48A0_STATE 0 ≠ 2 then s
  else
    let s1 := if s.dbg.building.isSome then s.endBuild else s
    let n := s1.freeN
    ({ s1.fresh with dbg := { s1.dbg with dump := n } }.wr od48A0_DUMP_LENGTH 0 (dumpLength n)).wr od48A0_STATE 0 3

def execDumpDone (s : State) : Host.Outcome State Fault Refusal := (if s.coresRun then s.endDump else s).done

end Sys2Proof.Machine
end

