-- ==== Sys2Proof/Machine/Trigger.lean ====
section
/-! DEFINITION. Trigger slots (R61–R65). -/

namespace Sys2Proof.Machine

def slotQuad (n : Nat) : Nat := n / 1024

/-- A slot is armed (R61). -/
def State.slotArmed (s : State) (n : Nat) : Bool :=
  s.rd od2010_STATE n == 1 || (s.rd od2010_STATE n == 3 && s.rd od2010_PERIOD n != 0)

/-- Owner and quadrant of the target of a slot (Table 2.6, R62); none where it does not exist. ACTION 0 has no target. -/
def State.slotTarget (s : State) (n : Nat) : Option (Nat × Nat) :=
  let t := s.rd od2010_TARGET n
  let a := s.rd od2010_ACTION n
  if a = 1 then
    let p := bitsOf t 23 16
    if (s.portLanes p).isSome then some (0, portQuad p) else none
  else if a = 2 then
    let r := t % 2 ^ 18
    if s.rd od2400_TYPE r ≠ 2 then none
    else match s.ringAt r (s.rd od3410_CTRL r) with
      | some (e, _) => some (s.rd od3410_HERD r, s.extQuad e)
      | none => none
  else if a = 3 then some (s.rd od4810_HERD (t % 4096), t % 4096 / 1024)
  else if a = 4 then
    let c := t % 16384
    if s.rd od3800_STATE c = 1 ∧ s.rd od3800_CLOSE c = 1 then some (s.rd od3800_HERD c, ctxQuad c) else none
  else none

/-- The conditions of R62 for arming. -/
def State.mayArm (s : State) (n : Nat) : Bool :=
  s.herdActive (s.rd od2010_HERD n) &&
  (s.rd od2010_ACTION n == 0 || s.slotTarget n == some (s.rd od2010_HERD n, slotQuad n))

/-- The target unit is powered down or stopped (Table 2.7, row 4; R427). -/
def State.targetDown (s : State) (n : Nat) : Bool :=
  let a := s.rd od2010_ACTION n
  s.flt.quadsLost.contains (slotQuad n) ||
  (a != 0 && (s.halted || s.mode == 2 || s.rd od4C08_GATE (slotQuad n) == 1)) || (a == 4 && s.mode == 1)

/-- The action of a slot at its target; none where the target refuses it (Table 2.7, row 8). -/
def State.slotAction (s : State) (n at_ : Nat) : Option State :=
  let t := s.rd od2010_TARGET n
  let a := s.rd od2010_ACTION n
  if a = 0 then some s
  else if a = 1 then s.gateChange (bitsOf t 23 16) (t % 1024) at_
  else if a = 2 then
    let r := t % 2 ^ 18
    if s.rd od3410_STATE r = 1 ∨ s.rd od3410_STATE r = 2 then some (s.kickRing r (s.rd od2010_HERD n)) else none
  else if a = 3 then
    if s.rd od4810_STATE (t % 4096) = 1 then s.latchProfile (t % 4096) else none
  else
    let c := t % 16384
    if s.rd od3800_STATE c = 1 ∧ s.rd od3800_CLOSE c = 1 then some (s.triggerStep c).retryContribs else none

/-- The next TIME of a periodic slot (R63, Table 2.7 row 2). -/
def nextTime (time period now : Nat) : Nat :=
  (if time + period < now then time + ((now - time) / period + 1) * period else time + period) % 2 ^ 64

/-- What every firing and every miss writes: LAST_FIRE, LAST_QUALITY, STATE, and TIME of a periodic slot (R63, R64). -/
def State.slotEnd (s : State) (n now st : Nat) : State :=
  let p := s.rd od2010_PERIOD n
  let s1 := ((s.wr od2010_LAST_FIRE n now).wr od2010_LAST_QUALITY n (s.qual (slotQuad n))).wr od2010_STATE n st
  if p = 0 then s1 else s1.wr od2010_TIME n (nextTime (s.rd od2010_TIME n) p now)

/-- A slot misses, under a row of Table 2.7 (R64, R497). -/
def State.slotMiss (s : State) (n now row : Nat) : State :=
  (s.slotEnd n now 3).emit (slotQuad n) evTriggerMissed (s.rd od2010_HERD n) 9 n 0 [n, row]

/-- The row of Table 2.7 under which a slot misses before its target is asked; 0 for none. `row` is 1 or 2 for a slot
that is late. -/
def State.missRow (s : State) (n row : Nat) : Nat :=
  let flags := s.rd od2010_FLAGS n
  let herd := s.rd od2010_HERD n
  if row ≠ 0 ∧ bitAt flags 0 then row
  else if bitAt flags 1 ∧ 2 ≤ s.qual (slotQuad n) then 3
  else if s.targetDown n then 4
  else if s.time.staleTrig.contains n ∨ !s.herdActive herd then 5
  else if s.rd od2010_ACTION n = 0 then 0
  else match s.slotTarget n with
    | none => 8
    | some (owner, quad) => if owner ≠ herd then 5 else if quad ≠ slotQuad n then 7 else 0

/-- A slot fires or misses. -/
def State.fireSlot (s : State) (n row : Nat) : State :=
  let now := s.ft (slotQuad n)
  let k := s.missRow n row
  if k ≠ 0 then s.slotMiss n now k
  else
    match s.slotAction n (if row = 0 then s.rd od2010_TIME n else now) with
    | none => s.slotMiss n now 8
    | some s1 =>
      let s2 := s1.slotEnd n now (if s.rd od2010_PERIOD n = 0 then 2 else 1)
      let s3 := if row = 0 then s2 else s2.bump od2010_LATE_COUNT n 32 1
      { s3 with time := { s3.time with fired := sparseSet 0 s3.time.fired n (s.up + 1) } }

/-- The armed slots of a quadrant with TIME between lo and hi, in order of TIME and slot. -/
def State.slotsDue (s : State) (q lo hi : Nat) : List Nat :=
  let due := (List.range 1024).map (1024 * q + ·) |>.filter (fun n =>
    s.slotArmed n && decide (lo < s.rd od2010_TIME n) && decide (s.rd od2010_TIME n < hi))
  (due.foldr (fun n l =>
    let t := s.rd od2010_TIME n
    (l.filter (fun m => decide (s.rd od2010_TIME m < t))) ++ n :: l.filter (fun m => !decide (s.rd od2010_TIME m < t))) [])

/-- No armed slot of the quadrant comes before slot n: earlier TIME, or equal TIME and a lower number (R63). -/
def State.slotFirst (s : State) (n : Nat) : Bool :=
  let t := s.rd od2010_TIME n
  !((odListed s.od od2010_STATE).map (·.1)).any (fun m => slotQuad m == slotQuad n && s.slotArmed m &&
    (decide (s.rd od2010_TIME m < t) || (s.rd od2010_TIME m == t && decide (m < n))))

/-- A slot reaches its TIME (R63), in order among the slots of its quadrant. A periodic slot behind by more than one
PERIOD is under row 2 of Table 2.7. -/
def State.slotTime (s : State) (n action : Nat) : State :=
  let now := s.ft (slotQuad n)
  let t := s.rd od2010_TIME n
  let p := s.rd od2010_PERIOD n
  if s.slotArmed n && s.rd od2010_ACTION n == action && decide (t ≤ now) && s.slotFirst n then
    s.fireSlot n (if p ≠ 0 ∧ t + p < now then 2 else 0)
  else s

/-- A forward step of a quadrant's counter has jumped over slots: they fire or miss in order (Table 2.7, row 1). -/
def State.jumpSlots (s : State) (q old new : Nat) : State :=
  if old < new then
    foldState s (s.slotsDue q old new) (fun s n =>
      s.fireSlot n (if s.rd od2010_PERIOD n ≠ 0 ∧ s.rd od2010_TIME n + s.rd od2010_PERIOD n < new then 2 else 1))
  else s

/-- A quadrant's counter at the end of the always-on cycle of 16 time-clock cycles that runs. -/
def State.ftCycleEnd (s : State) (q : Nat) : Nat :=
  (quadGet s.time.ctr q + (15 - s.up % 16) * quadGet s.time.inc q) / 2 ^ 40

/-- A write to a slot's STATE (R62, R65). A write of 0 in the always-on cycle in which the slot reaches TIME lets it fire. -/
def State.slotWrite (s : State) (n v : Nat) : Nat × State :=
  let now := s.ft (slotQuad n)
  let t := s.rd od2010_TIME n
  let p := s.rd od2010_PERIOD n
  if v = 1 then
    if s.slotArmed n then (abInUse, s)
    else if !s.mayArm n then (abDenied, s)
    else
      let s1 := (s.wr od2010_STATE n 1)
      let s2 := { s1 with time := { s1.time with staleTrig := s1.time.staleTrig.filter (· != n), fired := sparseSet 0 s1.time.fired n 0 } }
      (abOk, if t < now then s2.fireSlot n (if p ≠ 0 ∧ t + p < now then 2 else 1) else s2)
  else
    let s1 := if s.slotArmed n && decide (t ≤ s.ftCycleEnd (slotQuad n)) then s.fireSlot n (if p ≠ 0 ∧ t + p < now then 2 else 0) else s
    let at_ := sparseGet 0 s1.time.fired n
    if s1.rd od2010_STATE n = 2 ∧ at_ ≠ 0 ∧ (at_ - 1) / 16 = s.up / 16 then (abOk, s1)
    else (abOk, s1.wr od2010_STATE n 0)

def execTriggerFireNone (n : TrigId) (s : State) : Host.Outcome State Fault Refusal := (s.slotTime n.val 0).done

def execTriggerGateChange (n : TrigId) (s : State) : Host.Outcome State Fault Refusal := (s.slotTime n.val 1).done

def execTriggerRingKick (n : TrigId) (s : State) : Host.Outcome State Fault Refusal := (s.slotTime n.val 2).done

def execTriggerCounterLatch (n : TrigId) (s : State) : Host.Outcome State Fault Refusal := (s.slotTime n.val 3).done

def execTriggerOptimizerStep (n : TrigId) (s : State) : Host.Outcome State Fault Refusal := (s.slotTime n.val 4).done

end Sys2Proof.Machine
end

