-- ==== Sys2Proof/Machine/Time.lean ====
section
/-! DEFINITION. Fabric time: samples, quality, time exchanges, the sideband, UTC, and the life ledger (R48–R69, R84). -/

namespace Sys2Proof.Machine

/-! ## The disciplining quadrant and steps (R53, R58) -/

/-- The quadrant that disciplines the counters (R58). -/
def State.timeQuad (s : State) : Nat :=
  if s.rd od2000_SOURCE 0 = 1 ∧ s.rd od2000_UPSTREAM_PORT 0 < 256 then portQuad (s.rd od2000_UPSTREAM_PORT 0) else 0

/-- A counter (scaled by 2^40) less an offset, modulo its 64 bits. -/
def ctrLess (c : Nat) (offset : Int) : Nat := (((c : Int) - offset * 2 ^ 40) % ((2 ^ 104 : Nat) : Int)).toNat

/-- A step on all four quadrants together: TIME_STEP, and the trigger slots that a forward step jumps over. -/
def State.stepTime (s : State) (offset : Int) : State :=
  let q := s.timeQuad
  let s1 := { s with time := { s.time with ctr := quadMap (fun c => ctrLess c offset) s.time.ctr, left := 0 } }
  let s2 := s1.emit q evTimeStep 0 14 q 0 [s.ft q, s1.ft q]
  foldState s2 [0, 1, 2, 3] (fun x k => x.jumpSlots k (s.ft k) (s1.ft k))

/-! ## Quality (Table 2.4) -/

/-- The source is lost: quality 01, the increment at its average over the last 16 accepted samples, and HOLDOVER_LIMIT
runs. -/
def State.enterHoldover (s : State) : State :=
  let t := s.time
  let mean := if t.incs.isEmpty then quadGet t.inc s.timeQuad else t.incs.sum / t.incs.length
  { s with time := { t with inc := quadSet t.inc s.timeQuad mean, left := 0, holdover := some s.clk } }.wr od2000_QUALITY 0 1

/-- Quality 01 becomes 10. -/
def State.freeRun (s : State) : State := { s with time := { s.time with holdover := none } }.wr od2000_QUALITY 0 2

/-- The lock criterion of a source: accepted samples in a row, and their bound in ns. -/
def lockCriterion (source : Nat) : Nat × Nat := if source = 3 then (4, 50) else (16, 20)

/-- An offset lies within so many ns. -/
def offsetWithin (offset : Int) (ns : Nat) : Bool := decide (offset.natAbs * 1000000000 ≤ ns * 2 ^ 32)

/-- Count an accepted sample toward the lock criterion and change quality with it; `upQ` is the upstream A9's quality. -/
def State.countLock (s : State) (offset : Int) (upQ : Nat) : State :=
  let (n, bound) := lockCriterion (s.rd od2000_SOURCE 0)
  let locks := if offsetWithin offset bound then s.time.locks + 1 else 0
  let s1 := { s with time := { s.time with locks := min locks n } }
  let q := s1.rd od2000_QUALITY 0
  let toHoldover := fun (s : State) => { s with time := { s.time with holdover := some s.clk } }.wr od2000_QUALITY 0 1
  if upQ = 1 then
    if q = 0 ∨ (q = 2 ∧ n ≤ locks) then toHoldover s1 else s1
  else if n ≤ locks ∧ q ≠ 0 then { s1 with time := { s1.time with holdover := none } }.wr od2000_QUALITY 0 0
  else s1

/-- Note an accepted sample's increment word; the last 16 count (R54). -/
def State.noteInc (s : State) (v : Nat) : State :=
  { s with time := { s.time with incs := (s.time.incs ++ [v]).drop (s.time.incs.length - 15) } }

/-- The largest departure from the nominal increment that removes an offset (R53). -/
def slewMost (maxSlew : Nat) : Nat := nominalInc * maxSlew / 1000000

/-- Steer the increment so that an offset is removed at no more than MAX_SLEW (R53): a departure from the nominal increment
against the offset, of a free size within its bound, that stands until the offset is gone. -/
def State.steerTime (s : State) (offset : Int) : State :=
  let slew := s.rd od2000_MAX_SLEW 0
  let d := Config.steer s.freeN (unsigned 64 offset) slew % slewMost slew + 1
  let v := if offset = 0 then nominalInc else if 0 < offset then nominalInc - d else nominalInc + d
  let t := s.time
  State.noteInc { s with freeN := s.freeN + 1,
                         time := { t with inc := quadSet t.inc s.timeQuad v, left := offset.natAbs * 2 ^ 40 } } v

/-- A sample (R53, R54). -/
def State.sample (s : State) (offset : Int) (upQ : Nat) : State :=
  let s0 := { s.wr od2000_OFFSET 0 (unsigned 64 offset) with time := { s.time with lastSample := s.clk } }
  let q := s0.rd od2000_QUALITY 0
  if 2 ≤ q ∨ s0.time.stepAllowed then
    let s1 := (s0.stepTime offset).noteInc (quadGet s0.time.inc s0.timeQuad)
    let s2 := { s1 with time := { s1.time with stepAllowed := false } }
    (if q = 3 then s2.wr od2000_QUALITY 0 2 else s2).countLock offset upQ
  else if !offsetWithin offset (s0.rd od2000_OUTLIER_LIMIT 0) then
    let n := s0.time.rejects + 1
    let s1 := { s0 with time := { s0.time with rejects := n, locks := 0 } }
    if n = 8 then
      (if q = 0 then s1.enterHoldover else s1).emit s1.timeQuad evTimeSourceFault 0 14 s1.timeQuad 0 [unsigned 64 offset]
    else s1
  else
    (({ s0 with time := { s0.time with rejects := 0 } }).steerTime offset).countLock offset upQ

/-- A sample that R52 discards. -/
def State.discardSample (s : State) : State := { s with time := { s.time with locks := 0 } }

/-! ## Writes (Table 2.3) -/

/-- A write to SOURCE or UPSTREAM_PORT (R54). -/
def State.sourceEntry (s : State) (upstream : Bool) (v : Nat) : Nat × State :=
  let s1 := if upstream then s.wr od2000_UPSTREAM_PORT 0 v else s.wr od2000_SOURCE 0 v
  let s2 := { s1 with time := { s1.time with locks := 0, rejects := 0, incs := [], lastSample := s.clk } }
  (abOk, if !upstream ∧ v = 0 ∧ s2.rd od2000_QUALITY 0 = 0 then
    { s2 with time := { s2.time with holdover := some s.clk } }.wr od2000_QUALITY 0 1 else s2)

/-- A write to TOD_SET (R53, R56). -/
def State.todWrite (s : State) (v : Nat) : Nat × State :=
  let src := s.rd od2000_SOURCE 0
  if src = 1 ∨ src = 2 then (abInUse, s)
  else if src = 3 then
    if v % 2 ^ 32 ≠ 0 then (abRange, s) else (abOk, { s with time := { s.time with todHeld := some v } })
  else
    (abOk, ((s.stepTime ((s.ft s.timeQuad : Nat) - (v : Nat))).freeRun))

/-- A write to ALLOW_STEP. -/
def State.allowStepWrite (s : State) : Nat × State := (abOk, { s with time := { s.time with stepAllowed := true } })

/-- A write to PTP_OFFSET (R55). -/
def State.ptpWrite (s : State) (v : Nat) : Nat × State :=
  if s.rd od2000_SOURCE 0 = 2 then (abOk, s.sample (signed 64 v) 0) else (abInUse, s)

/-! ## Time exchanges (R52, R57, R84) -/

/-- A port carries time frames: its link is trained (STATE 3, or 4 of R330), the unit is not still, and the port's quadrant
is not gated (R57). -/
def State.timeLink (s : State) (p : Nat) : Bool :=
  (s.rd od2118_STATE p == 3 || s.rd od2118_STATE p == 4) && !s.halted && s.rd od4C08_GATE (portQuad p) != 1

def timexNew : TimexState := ⟨0, none, none, none⟩
def State.timexOf (s : State) (p : Nat) : TimexState := sparseGet timexNew s.tr.timex p
def State.setTimex (s : State) (p : Nat) (x : TimexState) : State :=
  { s with tr := { s.tr with timex := sparseSet timexNew s.tr.timex p x } }

/-- The A9 times the far end of a port. -/
def State.timesPort (s : State) (p : Nat) : Bool := bitAt (s.rd od2000_TIME_PORTS 0) p

/-- A time frame of this A9, with the quality of the port's quadrant. -/
def State.timeFrame (s : State) (p xseq time : Nat) : TimexFrame :=
  { quality := BitVec.ofNat 2 (s.qual (portQuad p)), xseq := BitVec.ofNat 16 xseq, time := BitVec.ofNat 64 time }

/-- Start an exchange on a port. -/
def State.startExchange (s : State) (p : PortId) : State :=
  let x := s.timexOf p.val
  let t1 := s.ft (portQuad p.val)
  (s.setTimex p.val { x with nextX := (x.nextX + 1) % 65536, sent := some (x.nextX, t1) }).sendOn p
    (.timex p 0 (s.timeFrame p.val x.nextX t1))

/-- Exchanges are 64 µs apart. -/
def exchangeNs : Nat := 64000

def execTimeExchangePeriod (s : State) : Host.Outcome State Fault Refusal :=
  (let k := ftToNs (s.ft 0) / exchangeNs
   if k = s.time.tickExch then s
   else
     let s1 := { s with time := { s.time with tickExch := k } }
     foldState s1 (List.range 256) (fun s p =>
       if hp : p < 256 then
         if s.timesPort p && s.timeLink p && p != s.rd od2000_UPSTREAM_PORT 0 then s.startExchange ⟨p, hp⟩ else s
       else s)).done

/-- A SYNC arrives (R84): this A9 answers with a REPLY and keeps t1, t2 = t3, and the upstream quality. -/
def State.takeSync (s : State) (p : PortId) (f : TimexFrame) : State :=
  if s.timeLink p.val && (s.timesPort p.val || p.val == s.rd od2000_UPSTREAM_PORT 0) then
    let t := s.ft (portQuad p.val)
    (s.setTimex p.val { s.timexOf p.val with replied := some (f.xseq.toNat, f.time.toNat, t, f.quality.toNat) }).sendOn p
      (.timex p 1 (s.timeFrame p.val f.xseq.toNat 0))
  else s

/-- A REPLY arrives: this A9 takes t4 and sends FOLLOW. -/
def State.takeReply (s : State) (p : PortId) (f : TimexFrame) : State :=
  if s.timeLink p.val && s.timesPort p.val then
    match (s.timexOf p.val).sent with
    | some (xseq, _) =>
      if xseq = f.xseq.toNat then
        let t4 := s.ft (portQuad p.val)
        (s.setTimex p.val { s.timexOf p.val with sent := none }).sendOn p (.timex p 2 (s.timeFrame p.val xseq t4))
      else s
    | none => s
  else s

/-- ASYMMETRY of a port in units of 2^-32 s. -/
def State.asymmetry (s : State) (p : Nat) : Int := ((signed 32 (s.rd od2008_ASYMMETRY p)) * 2 ^ 32).tdiv 1000000000000

/-- A FOLLOW arrives: one sample (R52). -/
def State.takeFollow (s : State) (p : PortId) (f : TimexFrame) : State :=
  if s.timeLink p.val && s.rd od2000_SOURCE 0 == 1 && p.val == s.rd od2000_UPSTREAM_PORT 0 then
    match (s.timexOf p.val).replied with
    | some (xseq, t1, t2, q1) =>
      if xseq = f.xseq.toNat then
        let t3 : Int := t2
        let t4 : Int := f.time.toNat
        let out : Int := (t2 : Int) - t1
        let back := t4 - t3
        let upQ := max q1 f.quality.toNat
        let s1 := (s.setTimex p.val { s.timexOf p.val with replied := none })
        if 2 ≤ upQ then s1.discardSample
        else (s1.wr od2000_PATH_DELAY 0 (unsigned 64 ((out + back) / 2))).sample ((out - back - s.asymmetry p.val) / 2) upQ
      else s
    | none => s
  else s

def execTimexSync (p : PortId) (f : TimexFrame) (s : State) : Host.Outcome State Fault Refusal := (s.takeSync p f).done

def execTimexReply (p : PortId) (f : TimexFrame) (s : State) : Host.Outcome State Fault Refusal := (s.takeReply p f).done

def execTimexFollow (p : PortId) (f : TimexFrame) (s : State) : Host.Outcome State Fault Refusal := (s.takeFollow p f).done

/-! ## Timeouts and the sideband (R54, R58) -/

/-- Source timeout in ns (Table 2.2). -/
def State.sourceTimeout (s : State) : Option Nat :=
  let src := s.rd od2000_SOURCE 0
  if src = 1 then some (s.rd od2000_INBAND_TIMEOUT 0 * 1000)
  else if src = 2 then some (s.rd od2000_PTP_TIMEOUT 0 * 1000000)
  else if src = 3 then some 1100000000 else none

def execTimeSourceTimeout (s : State) : Host.Outcome State Fault Refusal :=
  (match s.sourceTimeout with
   | some ns => if s.rd od2000_QUALITY 0 = 0 ∧ s.past s.time.lastSample ns then s.enterHoldover else s
   | none => s).done

def execHoldoverLimitExpiry (s : State) : Host.Outcome State Fault Refusal :=
  (match s.time.holdover with
   | some t => if s.rd od2000_QUALITY 0 = 1 ∧ s.past t (s.rd od2000_HOLDOVER_LIMIT 0 * 1000000000) then s.freeRun else s
   | none => s).done

/-- The increment with which a slave's counter meets the disciplining one over the next 1 µs, 1,600 cycles. -/
def slaveInc (lead own inc : Nat) : Nat :=
  min (2 ^ 48 - 1) ((inc : Int) + ((lead : Int) - own) / 1600).toNat

/-- Nanoseconds of a counter scaled by 2^40, times 10. -/
def ctrGap (a b : Nat) : Nat := ((a : Int) - b).natAbs

/-- One ns in the counter's scale. -/
def nsScaled : Nat := 2 ^ 72 / 1000000000

/-- Check and align the quadrants that do not discipline the counters. -/
def State.sideband (s : State) : State :=
  let d := s.timeQuad
  foldState { s with time := { s.time with apart := quadSet s.time.apart d false } } ([0, 1, 2, 3].filter (· != d)) (fun s q =>
    let t := s.time
    let lead := quadGet t.ctr d
    let own := quadGet t.ctr q
    let gap := ctrGap lead own
    let apart := if 2 * nsScaled < gap then true else if gap ≤ nsScaled then false else quadGet t.apart q
    { s with time := { t with inc := quadSet t.inc q (slaveInc lead own (quadGet t.inc d)), apart := quadSet t.apart q apart } })

def execSidebandSync (s : State) : Host.Outcome State Fault Refusal := s.sideband.done

/-! ## UTC (R66) -/

/-- The leap entry in force at an instant, among the elements of OD 2020. -/
def State.leapEntry (s : State) (now : Nat) : Nat :=
  let t := s.rd od2020_LEAP_TIME
  let best := (List.range 32).foldl (fun b i =>
    if t i ≤ now then (match b with | none => some i | some k => if t k < t i then some i else b) else b) none
  match best with
  | some i => i
  | none => (List.range 32).foldl (fun k i => if t i < t k then i else k) 0

/-- The next entry to take effect after an instant. -/
def State.leapNext (s : State) (now : Nat) : Option Nat :=
  let t := s.rd od2020_LEAP_TIME
  (List.range 32).foldl (fun b i =>
    if now < t i then (match b with | none => some i | some k => if t i < t k then some i else b) else b) none

/-- TAI − UTC of an entry. -/
def State.leapOffset (s : State) (i : Nat) : Int := signed 32 (s.rd od2020_LEAP_OFFSET i)

/-- Year, month and day of a count of days since 1970-01-01. -/
def civil (days : Int) : Nat × Nat × Nat :=
  let z := (days + 719468).toNat
  let era := z / 146097
  let doe := z % 146097
  let yoe := (doe - doe / 1460 + doe / 36524 - doe / 146096) / 365
  let doy := doe - (365 * yoe + yoe / 4 - yoe / 100)
  let mp := (5 * doy + 2) / 153
  let m := if mp < 10 then mp + 3 else mp - 9
  (yoe + era * 400 + (if m ≤ 2 then 1 else 0), m, doy - (153 * mp + 2) / 5 + 1)

/-- The last `n` decimal digits of a number in ASCII. -/
def digits : Nat → Nat → List Nat
  | 0, _ => []
  | n + 1, v => digits n (v / 10) ++ [48 + v % 10]

/-- The current UTC as OD 2021.01 reads it. -/
def State.utc (s : State) : List Byte :=
  let now := s.ft 0
  let off := s.leapOffset (s.leapEntry now)
  let leap := match s.leapNext now with
    | some i => s.leapOffset i == off + 1 && decide (s.rd od2020_LEAP_TIME i ≤ now + 2 ^ 32)
    | none => false
  let sec : Int := (now / 2 ^ 32 : Nat) - off - (if leap then 1 else 0) + 19723 * 86400
  let (y, m, d) := civil (sec / 86400)
  let t := (sec % 86400).toNat
  let ss := t % 60 + (if leap then 1 else 0)
  let txt := digits 4 y ++ [45] ++ digits 2 m ++ [45] ++ digits 2 d ++ [84] ++ digits 2 (t / 3600) ++ [58]
    ++ digits 2 (t / 60 % 60) ++ [58] ++ digits 2 ss ++ [46] ++ digits 9 (now % 2 ^ 32 * 1000000000 / 2 ^ 32) ++ [90, 0, 0]
  txt.map (BitVec.ofNat 8)

/-! ## The life ledger (R67, R68) -/

/-- Entries of the ledger, by subindex, that a record holds beside JOURNAL_SEQ and the time. -/
def ledgerEntries : List (Ent × Nat) :=
  ((List.range 9).map (fun i => (⟨0x5000, i + 1⟩, 0))) ++
  ([0, 1, 2, 3].flatMap (fun q => (List.range 9).map (fun i => ((⟨0x5010, i + 1⟩ : Ent), q))))

/-- The text that a record's signature covers: all else that the record holds. -/
def journalText (seq : Nat) (vals : List Nat) : Nat := (seq :: vals).foldl (fun a v => a * 2 ^ 64 + v % 2 ^ 64) 0

/-- A record is valid if its signature verifies (R69). -/
def JournalRec.valid (r : JournalRec) : Bool := r.sig == Config.falcon r.nonce (journalText r.seq r.vals)

/-- Write a ledger record, signed: the ring holds 1,024 of them. -/
def State.writeLedger (s : State) : State :=
  let s1 := (s.bump od5000_JOURNAL_SEQ 0 64 1).fresh
  let vals := [s1.ft 0, s1.qual 0] ++ ledgerEntries.map (fun x => s1.rd x.1 x.2)
  let seq := s1.rd od5000_JOURNAL_SEQ 0
  let l := s1.time.journal ++ [⟨seq, vals, s.freeN, Config.falcon s.freeN (journalText seq vals)⟩]
  { s1 with time := { s1.time with journal := l.drop (l.length - 1024), journalAt := s.clk } }

/-- A ledger record falls due: while the effective debug level is 3 it waits (R399). -/
def State.ledgerRecord (s : State) : State :=
  if s.rd od4100_DEBUG_EFFECTIVE 0 = 3 then { s with sec := { s.sec with ledgerDue := true } } else s.writeLedger

/-- Restore the ledger at boot from the valid record with the highest JOURNAL_SEQ (R69); `fuses` are the rollback fuses. -/
def State.restoreLedger (s : State) (fuses : Nat) (blank : Bool) : State :=
  let best := (s.time.journal.filter JournalRec.valid).foldl (fun b r => match b with
    | none => some r
    | some x => if x.seq < r.seq then some r else b) (none : Option JournalRec)
  let s1 := match best with
    | some r => (ledgerEntries.zip (r.vals.drop 2)).foldl (fun (s : State) (x : (Ent × Nat) × Nat) => s.wr x.1.1 x.1.2 x.2) s
    | none => if blank then s else s.wr od5000_LEDGER_BROKEN 0 1
  s1.wr od5000_ROLLBACK_FUSES 0 fuses

def execJournalIntervalExpiry (s : State) : Host.Outcome State Fault Refusal :=
  (if s.past s.time.journalAt (s.rd od5020_JOURNAL_INTERVAL 0 * 1000000000) && s.coresRun then s.ledgerRecord else s).done

end Sys2Proof.Machine
end

