-- ==== Sys2Proof/Machine/Herds.lean ====
section
/-! DEFINITION. Herd life: configuring, admission, closing, and the configuration digests (R32–R36, R386, R389, R492–R494). -/

namespace Sys2Proof.Machine

/-! ## Keys (R389) -/

/-- Zeroize a herd's key in every key store. -/
def State.zeroizeKey (s : State) (n : Nat) : State :=
  { s with sec := { s.sec with keys := sparseSet 0 s.sec.keys n 0 } }.wr od2800_KEY_STATE n 0

/-- Zeroize the key of every herd, and every key store. -/
def State.zeroizeAll (s : State) : State :=
  (s.sec.keys.map (·.1)).foldl (fun s n => s.zeroizeKey n) { s with sec := { s.sec with linkKeys := [] } }

/-! ## Admission (R494) -/

/-- The herds that hold slot residues, by rising number; a closing herd keeps its own until it is FREE (R289). -/
def State.slotHerds (s : State) : List Nat := (s.sw.residues.filter (· != 0)).eraseDups

/-- Assign the residues anew with herd `n` among their holders: in ascending herd ID, as many to each as its TG_SLOTS. -/
def State.assignSlots (s : State) (n : Nat) : State :=
  let hs := s.slotHerds.filter (· < n) ++ n :: s.slotHerds.filter (n < ·)
  { s with sw := { s.sw with residues := hs.flatMap (fun h => List.replicate (s.rd od2310_TG_SLOTS h) h) } }

/-- R289: slots for time-gated herds. -/
def State.slotsAdmit (s : State) (n : Nat) : Bool :=
  let others := s.slotHerds.filter (· != n)
  decide (0 < s.rd od2310_TG_SLOTS n) &&
  decide (others.foldl (fun a h => a + s.rd od2310_TG_SLOTS h) (s.rd od2310_TG_SLOTS n) ≤ 8)

/-- Channels of 2 GiB of HBM in a quadrant that nothing holds: its stacks' less those given to herds and those of the A9's
own regions, a quarter of which lies in each quadrant (R147, log entry 12). -/
def State.freeChannels (s : State) (q : Nat) : Nat :=
  let have_ := 32 * ((List.range 2).filter (fun k => !s.flt.stacksLost.contains (2 * q + k))).length
  let own := ceilDiv (512 * gib - 64 * s.flt.stacksLost.length * gib - s.t1Reservable) (4 * 2 * gib)
  let given := s.pool.chans.foldl (fun a kv => a + quadGet kv.2 q) 0
  have_ - own - given

/-- The quadrants whose home slices home a herd's extents. -/
def State.homeQuads (s : State) (n : Nat) : List Nat :=
  (List.range 4).filter (fun q => s.extents.any (fun e => s.extHerd e == n && s.extSlice e == some q))

/-- Bytes that a time-gated herd needs in channels of its own: T1_RESERVE, its cache ways, and its directory entries. -/
def State.channelNeed (s : State) (n : Nat) : Nat :=
  let ways := ((List.range 16).filter (fun w => bitAt (s.rd od2830_CACHE_WAYS n) w)).length
  let hard := (s.extents.filter (fun e => s.extHerd e == n && s.extClass e == 2 && (s.extSlice e).isSome)).foldl
    (fun a e => a + s.extBytes e) 0
  s.rd od2830_T1_RESERVE n + ways * (s.rd od2C00_CACHE_SIZE 0 * gib / 16) + hard / 4

/-- Give a herd channels, quadrant by quadrant; what is left to give, and the gift. -/
def State.giveChannels (s : State) (need : Nat) : List Nat → Quad Nat → Nat × Quad Nat
  | [], g => (need, g)
  | q :: qs, g =>
    let k := min need (s.freeChannels q)
    s.giveChannels (need - k) qs (quadSet g q k)

/-- The channels for a herd's admission; none where there are too few. -/
def State.channelsFor (s : State) (n : Nat) : Option (Quad Nat) :=
  let qs := s.homeQuads n
  if qs.isEmpty then some (quadAll 0)
  else
    let (left, g) := s.giveChannels (ceilDiv (s.channelNeed n) (2 * gib)) qs (quadAll 0)
    if left = 0 then some g else none

/-- R112 in a tier for a herd being admitted, or with its reserve at `v`. -/
def State.reserveFits (s : State) (n tier v : Nat) : Bool :=
  decide ((s.activeHerds.filter (· != n)).foldl (fun a h => a + s.rd (odReserve tier) h) v ≤ s.reservable tier)

/-- R106: the sum of the dirty reserves with a herd's at `v`. -/
def State.dirtyFits (s : State) (n v : Nat) : Bool :=
  decide ((s.activeHerds.filter (· != n)).foldl (fun a h => a + s.rd od2830_DIRTY_RESERVE h) v ≤ s.rd od2C10_CEILING 0)

/-- The admission checks in their order. -/
def State.admission (s : State) (n : Nat) : Nat :=
  if s.sec.life ≠ 1 ∧ s.sec.life ≠ 2 then abDenied
  else if s.rd od1100_COMPANION_EP 0 = 0xFFFF ∨ s.rd od1100_TINE_BASE 0 = 0xFFFF ∨ s.rd od1100_UNIT_BASE 0 = 0xFFFF then abDenied
  else if s.sealedHerd n ∧ s.rd od2800_KEY_STATE n ≠ 1 then abDenied
  else if s.rd od2800_TIME_GATED n = 1 ∧ !s.slotsAdmit n then abDenied
  else if s.rd od2800_TIME_GATED n = 1 ∧ (s.channelsFor n).isNone then abInUse
  else if !([1, 2, 3].all (fun t => s.reserveFits n t (s.rd (odReserve t) n))) then abRange
  else if !s.dirtyFits n (s.rd od2830_DIRTY_RESERVE n) then abRange
  else abOk

/-! ## Entering FREE (R34, R493) -/

/-- Enter FREE: the key is zeroized, the way masks are cleared, and the herd's event rings stop (log entry 13). -/
def State.toFree (s : State) (n : Nat) : State :=
  let s1 := ((s.zeroizeKey n).wr od2830_CACHE_WAYS n 0).wr od3030_DIR_WAYS n 0
  let rings := ((odListed s1.od od3410_STATE).filter (fun kv => kv.2 == 1 && s1.rd od3410_HERD kv.1 == n)).map (·.1)
  let s2 := rings.foldl (fun s r => s.wr od3410_STATE r 2) s1
  let mine := fun (r : Nat) => s2.rd od3410_HERD r == n
  { s2 with cpu := { s2.cpu with owed := s2.cpu.owed.filter (fun x => !mine x.ring) },
            pool := { s2.pool with chans := sparseSet (quadAll 0) s2.pool.chans n (quadAll 0) },
            sw := { s2.sw with residues := s2.sw.residues.map (fun h => if h = n then 0 else h) } }.wr od2800_STATE n 0

/-- No extent entry owned by the herd, and none that names it in SHARED. -/
def State.noExtents (s : State) (n : Nat) : Bool := s.extents.all (fun e => !s.extMapped e n)

/-- Every command ring of the herd has stopped, with nothing of it in flight. -/
def State.ringsStopped (s : State) (n : Nat) : Bool :=
  !((odListed s.od od3410_STATE).any (fun kv => kv.2 == 1 && s.rd od2400_TYPE kv.1 == 2 && s.rd od3410_HERD kv.1 == n)) &&
  !s.cpu.cmds.any (fun c => c.herd == n)

/-- Everything that R34 waits for is done. -/
def State.closed (s : State) (n : Nat) : Bool := s.herdState n == 3 && s.noExtents n && s.ringsStopped n

/-! ## Closing (R34, R64, R175, R271) -/

/-- Stop a herd's command rings and end their commands, those waiting to run again among them, with E_EXTENT_REVOKED. -/
def State.stopRings (s : State) (n : Nat) : State :=
  let rings := ((odListed s.od od3410_STATE).filter (fun kv => kv.2 == 1 && s.rd od2400_TYPE kv.1 == 2 && s.rd od3410_HERD kv.1 == n)).map (·.1)
  let s1 := rings.foldl (fun s r => s.wr od3410_STATE r 2) s
  let s2 := foldState s1 ((s1.cpu.cmds.filter (fun c => c.herd == n)).map (·.cid)) (fun s cid => s.finishCmd cid eRevoked)
  let again := s2.cpu.rings.flatMap (fun kv => kv.2.reissue.filter (fun c => c.herd == n))
  let s3 := again.foldl (fun (s : State) (c : Cmd) =>
    { s.setRing c.ring { s.ring c.ring with reissue := (s.ring c.ring).reissue.filter (fun (x : Cmd) => x.cid != c.cid) } with
        cpu := { (s.setRing c.ring { s.ring c.ring with reissue := (s.ring c.ring).reissue.filter (fun (x : Cmd) => x.cid != c.cid) }).cpu with
          cmds := s.cpu.cmds ++ [{ s.cmdEnds c with code := some eRevoked, finished := true }] } }) s2
  let mine := fun (r : Nat) => s3.rd od3410_HERD r == n
  ({ s3 with cpu := { s3.cpu with owed := s3.cpu.owed.filter (fun x => !mine x.ring) } }).releaseDone

/-- The armed trigger slots of a herd, which miss from now on (Table 2.7). -/
def State.staleSlots (s : State) (n : Nat) : State :=
  let slots := ((odListed s.od od2010_STATE).filter (fun kv => s.rd od2010_HERD kv.1 == n && !s.time.staleTrig.contains kv.1)).map (·.1)
  { s with time := { s.time with staleTrig := s.time.staleTrig ++ slots } }

/-- Enter CLOSING. -/
def State.closeHerd (s : State) (n : Nat) : State :=
  let ownsRing := (odListed s.od od3410_STATE).any (fun kv => kv.2 != 0 && s.rd od3410_HERD kv.1 == n)
  let s0 := (s.wr od2800_STATE n 3).stopRings n
  let s1 := foldState s0 ((s0.cpu.cmds.filter (fun c => c.herd == n)).map (·.cid)) State.completion
  let s2 := foldState s1 (s1.extents.filter (fun e => s1.extHerd e == n)) State.revokeOp
  let s3 := foldState s2 (s2.extents.filter (fun e => s2.extHerd e != n && s2.extShared e n)) State.unshareClosing
  let s4 := ((s3.freeSets n).freeProfiles n).staleSlots n
  if s4.noExtents n && !ownsRing then s4.toFree n else s4

/-! ## Writes of STATE (Table 1.5) -/

/-- A port of role endpoint bound to the herd. -/
def State.boundTo (s : State) (n : Nat) : Bool :=
  (odListed s.od od2810_ROLE).any (fun kv => kv.2 == 1 && s.rd od2810_HERD kv.1 == n)

/-- A write of a herd's STATE: the abort code and the state after it. -/
def State.herdWrite (s : State) (n v : Nat) : Nat × State :=
  let st := s.herdState n
  if v = 1 ∧ st = 0 then (abOk, s.wr od2800_STATE n 1)
  else if v = 2 ∧ st = 1 then
    let c := s.admission n
    if c ≠ abOk then (c, s)
    else
      let g := if s.rd od2800_TIME_GATED n = 1 then (s.channelsFor n).getD (quadAll 0) else quadAll 0
      let s1 := if s.rd od2800_TIME_GATED n = 1 then s.assignSlots n else s
      (abOk, ({ s1 with pool := { s1.pool with chans := sparseSet (quadAll 0) s1.pool.chans n g } }).wr od2800_STATE n 2)
  else if v = 0 ∧ st = 1 then
    if s.noExtents n && !s.boundTo n then (abOk, s.toFree n) else (abInUse, s)
  else if v = 3 ∧ st = 2 then (abOk, s.closeHerd n)
  else (abRange, s)

/-- Everything has ended: the closing herd becomes FREE. -/
def execHerdCloseDone (n : HerdId) (s : State) : Host.Outcome State Fault Refusal :=
  (if s.closed n.val then s.toFree n.val else s).done

/-! ## Digests (R386, R492) -/

def insertBase (s : State) (e : Nat) : List Nat → List Nat
  | [] => [e]
  | x :: xs => if s.extBase e ≤ s.extBase x then e :: x :: xs else x :: insertBase s e xs

/-- The bytes that CONFIG_DIGEST covers. -/
def State.configBytes (s : State) (n : Nat) : List Byte :=
  let ports := ((odListed s.od od2810_ROLE).filter (fun kv => kv.2 == 1 && s.rd od2810_HERD kv.1 == n)).map (·.1)
  let exts := (s.extents.filter (fun e => s.extMapped e n)).foldr (insertBase s) []
  toLe 2 n ++ toLe 1 (s.rd od2800_LEVEL n) ++ toLe 1 (s.rd od2800_TIME_GATED n) ++
  toLe 2 ports.length ++ ports.flatMap (fun p => toLe 1 p ++ toLe 2 (s.rd od2810_ENDPOINT p)) ++
  toLe 4 exts.length ++ exts.flatMap (fun e =>
    toLe 8 (s.extBase e) ++ toLe 4 (s.extGranules e) ++ toLe 2 (s.extHerd e) ++ toLe 2 (s.rd od2820_HOME e) ++
    toLe 1 (s.extPlace e) ++ toLe 1 (s.extClass e) ++ toLe 1 (s.rd od2820_FLAGS e) ++ toLe 512 (s.rd od2820_SHARED e))

/-- CONFIG_DIGEST as a read returns it. -/
def State.configDigest (s : State) (n : Nat) : Nat := if s.herdState n = 0 then 0 else shake256 (s.configBytes n)

/-- DEVICE_CONFIG (R386). -/
def State.deviceConfig (s : State) : Nat :=
  let herds := (List.range 4096).filter (fun n => s.herdState n != 0)
  shake256 (herds.flatMap (fun n => toLe 2 n ++ toLe 64 (s.configDigest n)) ++ toLe 2 (s.rd od1100_FM_ENDPOINT 0) ++
    toLe 1 (s.rd od2100_A9_NUMBER 0) ++
    toLe 32 ((List.range 256).foldl (fun a p => a + s.rd od4150_ENCRYPT p * 2 ^ p) 0))

end Sys2Proof.Machine
end

