-- ==== Sys2Proof/Machine/Ports.lean ====
section
/-! DEFINITION. Ports: lanes, training, damping, CXL devices, link-state records and the return of routes (chapter 13). -/

namespace Sys2Proof.Machine

/-! ## Entry to STATE 3 (R327, R330, R337, R339, R342) -/

/-- A port enters STATE 3: it is no longer failed, a trunk reports its link up, and a tray is asked for its geometry. -/
def State.enterUp (s : State) (p : PortId) : State :=
  let s1 := (s.wr od2118_STATE p.val 3)
  let s2 := { s1 with ports := { s1.ports with failed := s1.ports.failed.filter (· != p.val) } }
  let role := s.rd od2810_ROLE p.val
  let s3 :=
    if role = 2 then
      let now := s2.ft 0
      (s2.noteUp (s2.linksOf p.val) now (now + nsToFt (s2.rd od2100_FAIL_WINDOW 0 * 1000)) (s2.rd od2100_A9_NUMBER 0)).sendRecords p.val false
    else if role = 3 ∧ !s2.isCxl p.val then s2.send (.shelf p.val (5 * 2 ^ 60) 0)
    else s2
  s3.recompute.pump.resend

/-- A port has trained: in service, or suppressed by its penalty (R330). -/
def State.trained (s : State) (p : PortId) : State :=
  let s1 := s.setTraining p.val trainNew
  if s.penalty p.val ≤ s.rd od2100_SUPPRESS 0 then s1.enterUp p else s1.wr od2118_STATE p.val 4

/-! ## Launch amplitude (R331) -/

/-- The lane of a port that is octet lane `i` of its octet; a x16 port goes on in octet o + 4. -/
def laneOf (p i : Nat) : Nat := if i < 8 then portOctet p * 8 + i else (portOctet p + 4) * 8 + (i - 8)

/-- The lanes that a port uses. -/
def State.lanesUsed (s : State) (p : Nat) : List Nat :=
  (List.range (s.rd od2118_WIDTH p)).map (fun i => laneOf p (sparseGet 0 s.ports.laneAt p + i))

/-- The most that a lane may launch now: its own cap, and what the octet's cap leaves beside its other lanes. -/
def State.ampRoom (s : State) (l : Nat) : Nat :=
  let others := (List.range 8).foldl (fun a i => if l / 8 * 8 + i = l then a else a + s.rd od2114_AMP (l / 8 * 8 + i)) 0
  min (s.rd od2114_AMP_CAP l) (s.rd od2100_OCTET_AMP_CAP 0 - others)

/-- Lanes take an amplitude within the caps, in rising order. -/
def State.setAmps (s : State) : List (Nat × Nat) → State
  | [] => s
  | (l, a) :: rest => (s.wr od2114_AMP l (min a (s.ampRoom l))).setAmps rest

/-! ## Training (R327) -/

/-- The virtual time of a port starts at 0 when its link comes up (R305). -/
def State.freshTags (s : State) (p : Nat) : State := { s with tm := { s.tm with vtime := sparseSet 0 s.tm.vtime p 0 } }

/-- The end of stage 4: identities and widths are exchanged, link tags are verified, and the link starts, each end with the
credits that the other grants (R296). -/
def State.linkStart (s : State) (p : PortId) (r : StageResult) : State :=
  let s1 := (s.wr od2118_FAR_A9 p.val r.a9.toNat).wr od2118_FAR_PORT p.val r.port.toNat
  let stay := s1.setTraining p.val { s1.training p.val with stage := 5 }
  if r.width.toNat ≠ s.rd od2118_WIDTH p.val then stay.emit (portQuad p.val) evWidthMismatch 0 1 p.val 0 [p.val]
  else if !r.authOk then stay.emit (portQuad p.val) evLinkAuth 0 1 p.val 0 [p.val]
  else
    let key := sparseGet 0 s1.sec.linkKeys p.val
    let s2 := s1.wr od4150_ENCRYPT p.val (if key = 0 then 0 else 1)
    let n := s.rd od2300_CREDIT_INIT 0
    ((s2.setLink p.val { linkNew with credits := List.replicate 8 r.credits.toNat, out := List.replicate 8 n }).send (.credits p n)).freshTags p.val |>.trained p

/-- A training stage of a TMT port ends. -/
def State.stageDone (s : State) (p : PortId) (r : StageResult) : State :=
  let t := s.training p.val
  let go := fun (s : State) (n : Nat) => s.setTraining p.val { t with stage := n, since := s.clk }
  match t.stage with
  | 1 =>
    let s1 := s.setAmps ((s.lanesUsed p.val).map (fun l => (l, s.rd od2114_AMP l)))
    go s1 (if t.fast then 3 else 2)
  | 2 => go (s.setAmps ((s.lanesUsed p.val).zip r.amps)) 3
  | 3 => go s 4
  | 4 => s.linkStart p r
  | _ => s

/-- A CXL link reaches L0 at a width of x16, x8 or x4 that the port's mode has and MIN_WIDTH accepts (R325, log entry 16). -/
def State.cxlTrained (s : State) (p : PortId) (r : StageResult) : State :=
  let w := r.width.toNat
  let most := ((s.portLanes p.val).getD (0, 0)).2
  if [4, 8, 16].contains w && decide (w ≤ most) && decide (s.rd od2118_MIN_WIDTH p.val ≤ w) then
    ((s.wr od2118_WIDTH p.val w).trained p)
  else s

def execTrainingStageDone (p : PortId) (r : StageResult) (s : State) : Host.Outcome State Fault Refusal :=
  (if s.rd od2118_STATE p.val ≠ 2 ∨ s.halted then s
   else if s.isCxl p.val then s.cxlTrained p r
   else s.stageDone p r).done

/-- The limit of a stage in ns (Table 13.5). -/
def State.stageLimit (s : State) (p stage : Nat) : Nat :=
  if stage = 1 then 2000000
  else if stage = 2 then (if s.rd od2118_VARIANT p = 1 then 500000000 else 100000000)
  else if stage = 3 then 1000000
  else 10000

/-- A stage exceeds its limit: STATE 1, and another try 10 ms later. -/
def State.stageTimeout (s : State) (p : Nat) : State :=
  let t := s.training p
  if s.rd od2118_STATE p = 2 ∧ 1 ≤ t.stage ∧ t.stage ≤ 4 ∧ !s.isCxl p ∧ s.past t.since (s.stageLimit p t.stage) then
    (s.wr od2118_STATE p 1).setTraining p { t with stage := 0, retry := some s.clk }
  else s

def execTrainingStageTimeout (p : PortId) (s : State) : Host.Outcome State Fault Refusal := (s.stageTimeout p.val).done

/-- Training again, at the width it was tried at, or narrower where a lane of it has been declared bad since. -/
def State.retry (s : State) (p : Nat) : State :=
  let t := s.training p
  match t.retry with
  | none => s
  | some at_ =>
    if s.rd od2118_STATE p ≠ 1 ∨ s.mode = 2 ∨ s.halted ∨ !s.past at_ 10000000 then s
    else if lanesGood (s.rd od2118_BAD_LANES p) (sparseGet 0 s.ports.laneAt p) t.width then
      (s.wr od2118_WIDTH p t.width).startTraining p t.width t.fast
    else s.retrainAt p [t.width / 2, t.width / 4, t.width / 8]

def execTrainingRetry (p : PortId) (s : State) : Host.Outcome State Fault Refusal := (s.retry p.val).done

/-- A write of RETRAIN (R329): a down event where the port is in STATE 3, and full training in any case. -/
def State.retrainWrite (s : State) (p : PortId) : State :=
  if (s.portLanes p.val).isNone ∨ s.mode = 2 ∨ s.halted then s
  else if s.rd od2118_STATE p.val = 3 ∧ !s.isCxl p.val then s.downEvent p (fun s => s.trainFull p.val)
  else if s.rd od2118_STATE p.val = 3 then (s.countRetrain.trainFull p.val).portGone p
  else s.countRetrain.trainFull p.val

/-! ## Lanes (R328) -/

/-- The port that a lane belongs to, and its place among the lanes of that port's octet. -/
def State.portOfLane (s : State) (l : Nat) : Option (Nat × Nat) :=
  let o := l / 8
  let i := l % 8
  let own := [0, 1, 2, 3].find? (fun k => match modeLanes (s.rd od2110_MODE o) k with
    | some (a, n) => decide (a ≤ i) && decide (i < a + n)
    | none => false)
  match own with
  | some k => some (4 * o + k, i)
  | none => if 4 ≤ o ∧ s.rd od2110_MODE (o - 4) = 7 then some (4 * (o - 4), 8 + i) else none

/-- The width that a CXL link narrows to when it loses a lane: x16, then x8, then x4 (R325). -/
def cxlNarrower (w : Nat) : Nat := if w = 16 then 8 else 4

/-- A CXL port has failed: its tray is lost. -/
def State.cxlFail (s : State) (p : PortId) : State :=
  if !s.isCxl p.val ∨ s.rd od2118_STATE p.val < 2 then s
  else (((s.wr od2118_STATE p.val 1).wr od2118_WIDTH p.val 0).setTraining p.val trainNew).portGone p

/-- A lane is declared bad. -/
def State.laneBad (s : State) (l : Nat) : State :=
  match s.portOfLane l with
  | none => s
  | some (p, i) =>
    if hp : p < 256 then
      let bad := s.rd od2118_BAD_LANES p
      let s1 := if i < 8 ∧ !bitAt bad i then s.wr od2118_BAD_LANES p (bad + 2 ^ i) else s
      let a := sparseGet 0 s.ports.laneAt p
      let w := s.rd od2118_WIDTH p
      if !(decide (a ≤ i) && decide (i < a + w)) then s1
      else if s.isCxl p then
        (if s.rd od2118_STATE p ≠ 3 then s1
         else if w ≤ 4 ∨ cxlNarrower w < s.rd od2118_MIN_WIDTH p then s1.cxlFail ⟨p, hp⟩
         else s1.wr od2118_WIDTH p (cxlNarrower w))
      else if s.rd od2118_STATE p = 3 then s1.portDown ⟨p, hp⟩
      else if s.rd od2118_STATE p = 4 then s1.countRetrain.retrainAt p [w / 2, w / 4, w / 8]
      else s1
    else s

def execLaneSignalLoss (l : LaneId) (s : State) : Host.Outcome State Fault Refusal := (s.laneBad l.val).done

/-- The symbols corrected on a lane in a millisecond are counted; more than LANE_SER_LIMIT make it bad. -/
def execLaneSerCheck (l : LaneId) (corrected : Word) (s : State) : Host.Outcome State Fault Refusal :=
  let s1 := s.bump od2114_CORRECTED l.val 64 corrected.toNat
  (if s.rd od2100_LANE_SER_LIMIT 0 < corrected.toNat then s1.laneBad l.val else s1).done

def execPenaltyReuse (p : PortId) (s : State) : Host.Outcome State Fault Refusal :=
  (if s.rd od2118_STATE p.val = 4 ∧ s.penalty p.val < s.rd od2100_REUSE 0 ∧ !s.halted then s.enterUp p else s).done

/-! ## Link-state records (R337–R340) -/

/-- The bytes of a record (Table 13.8). -/
def recordBytes (r : LinkRecord) : List Byte :=
  bytesOfWords [r.seq.toNat * 2 ^ 32 + r.st.toNat * 2 ^ 30, r.near.toNat * 2 ^ 48 + r.far.toNat * 2 ^ 32, r.detected.toNat,
    r.switch.toNat, 0, 0, 0, 0]

/-- Keep the bytes of a record on the board, where a local extent of herd 0x000 holds it. -/
def State.boardWrite (s : State) (r : LinkRecord) : State :=
  let a := s.boardAt r.reporter.val
  match s.extAt 0 a with
  | none => s
  | some e =>
    if (s.extSlice e).isNone ∨ s.mode = 2 then s
    else match s.allocate e ((a - s.extBase e) / granuleBytes) with
      | some s1 => s1.writePool e (a - s.extBase e) (recordBytes r)
      | none => s

def execLinkStateRecord (r : LinkRecord) (s : State) : Host.Outcome State Fault Refusal :=
  ((s.boardWrite r).recordIn r).done

/-- Links whose SWITCH has come leave the down set (R337). -/
def State.linksBack (s : State) : State :=
  let due := s.ports.known.filter (fun kv => match kv.2.upAt with | some t => decide (t ≤ s.ft 0) | none => false)
  let names := due.map (·.1)
  let known := due.foldl (fun m kv => sparseSet knownNone m kv.1 { kv.2 with upAt := none }) s.ports.known
  { s with ports := { s.ports with known := known, downSet := s.ports.downSet.filter (fun l => !names.contains l) } }

/-- SWITCH for a destination: holds and windows whose time has come end, and a more preferred slot is taken (R338–R340). -/
def State.switchTime (s : State) (d : Nat) : State :=
  let s1 := s.linksBack
  let now := s1.ft 0
  let up := s1.ports.holds.any (fun h => h.dest == d && h.drain && decide (h.until_ ≤ now))
  let s2 := { s1 with ports := { s1.ports with
    holds := s1.ports.holds.filter (fun h => !(h.dest == d && !h.drain && decide (h.until_ ≤ now))),
    windows := s1.ports.windows.filter (fun w => !(w.1 == d && decide (w.2.1 ≤ now))) } }
  let s3 := if up then s2.wr od2130_IN_USE d (s2.bestSlot d) else s2.moveRoute d
  s3.endHolds.resend

def execSwitchTimeReached (dst : A9Id) (s : State) : Host.Outcome State Fault Refusal := (s.switchTime dst.val).done

/-! ## CXL devices (R325) -/

def execCxlLinkFail (p : PortId) (s : State) : Host.Outcome State Fault Refusal := (s.cxlFail p).done

/-- A region meets another of the same device. -/
def regionMeets (p : PortId) (first count : Nat) (r : DcRegion) : Bool :=
  r.port == p && decide (first < r.first + r.count) && decide (r.first < first + count)

/-- A device adds capacity. -/
def State.dcAdd (s : State) (p : PortId) (first count : Nat) : State :=
  if !s.isCxl p.val || s.rd od2118_STATE p.val != 3 || count == 0 || decide (16777216 < first + count) ||
      s.ports.regions.any (regionMeets p first count) then s
  else { s with ports := { s.ports with regions := s.ports.regions ++ [DcRegion.mk p first count] } }

def execCxlDcAdd (p : PortId) (region : CxlRegion) (s : State) : Host.Outcome State Fault Refusal :=
  (s.dcAdd p region.first.toNat region.count.toNat).done

/-- What is left of a region without a part of it. -/
def regionLess (p : PortId) (first count : Nat) (r : DcRegion) : List DcRegion :=
  if !regionMeets p first count r then [r]
  else
    let lo : DcRegion := ⟨r.port, r.first, first - r.first⟩
    let hi : DcRegion := ⟨r.port, first + count, r.first + r.count - (first + count)⟩
    [lo, hi].filter (fun x => decide (0 < x.count))

/-- A device asks to release capacity: refused while a granule is allocated in it. -/
def State.dcRelease (s : State) (p : PortId) (first count : Nat) : State :=
  if !s.isCxl p.val ∨ s.rd od2118_STATE p.val ≠ 3 then s
  else
    let base := p.val / 4 * 16777216 + first
    if s.pool.gran.any (fun kv => kv.2.tier == 2 && decide (base ≤ kv.2.loc) && decide (kv.2.loc < base + count)) then
      s.emit (portQuad p.val) evCxlReleaseRefused 0 1 p.val 0 [p.val]
    else { s with ports := { s.ports with regions := s.ports.regions.flatMap (regionLess p first count) } }

def execCxlDcReleaseRequest (p : PortId) (region : CxlRegion) (s : State) : Host.Outcome State Fault Refusal :=
  (s.dcRelease p region.first.toNat region.count.toNat).done

end Sys2Proof.Machine
end

