-- ==== Sys2Proof/Machine/Faults.lean ====
section
/-! DEFINITION. Error sources, handlers, canaries, dual execution and event records (chapter 17). -/

namespace Sys2Proof.Machine

/-! ## Lost units (R403, R418, R427) -/

/-- No management core works: each has failed, or its quadrant is lost. -/
def State.noCore (s : State) : Bool := [0, 1, 2, 3].all (fun q => s.flt.coresFailed.contains q || s.flt.quadsLost.contains q)

/-- A quadrant is lost, as detected at a unit; with quadrant 0 or the last management core, isolation hold follows at once. -/
def State.quadrantLost (s : State) (q at_ kind unit : Nat) : State :=
  if s.flt.quadsLost.contains q then s
  else
    let s1 := (s.loseQuadrant q).emit at_ evQuadrantLost 0 kind unit 0 [q]
    if q = 0 then s1.enterIsolation 0 evQuadrantLost 2
    else if s1.noCore then s1.enterIsolation q evQuadrantLost 3 else s1

/-- A tine is declared failed. -/
def State.tineFailed (s : State) (t : Nat) : State :=
  if s.rd od3400_STATE t = 3 then s
  else (s.failTine t).emit (t / 64) evTineFailed 0 3 t 0 [t]

/-- KIND and UNIT as UNIT_FAILED gives them in DETAIL0 (log entry 17). -/
def kindUnit (kind unit : Nat) : Nat := kind * 4096 + unit

/-- A unit is declared failed. -/
def State.unitFailed (s : State) (q kind unit : Nat) : State :=
  s.emit q evUnitFailed 0 kind unit 0 [kindUnit kind unit]

/-- A reduce unit fails; its chunks go to the next working unit. -/
def State.reduceFailed (s : State) (u : Nat) : State :=
  if s.flt.unitsFailed.contains u then s
  else ({ s with flt := { s.flt with unitsFailed := s.flt.unitsFailed ++ [u] } }).unitFailed (u / 16) 5 u

def execReduceSelfCheckFail (u : ReduceId) (s : State) : Host.Outcome State Fault Refusal := (s.reduceFailed u.val).done

/-- A tine has held a ready thread and issued nothing for TINE_WATCHDOG. -/
def State.watchdogDue (s : State) (t : Nat) : Bool :=
  s.tineRuns t && (s.liveThreads t).any (fun kv => kv.2.wait == .ready) &&
  s.past (s.tine t).issued (s.rd od4400_TINE_WATCHDOG 0 * 1000)

def execTineWatchdogExpiry (t : TineId) (s : State) : Host.Outcome State Fault Refusal :=
  (if s.watchdogDue t.val then s.tineFailed t.val else s).done

def execLogicCheck (u : LogicUnit) (s : State) : Host.Outcome State Fault Refusal :=
  (match u with
   | .matcher q => s.quadrantLost q.val q.val 0 0
   | .crossbar q => s.quadrantLost q.val q.val 0 0
   | .home q => s.quadrantLost q.val q.val 4 q.val
   | .tine t => s.tineFailed t.val).done

/-- Endpoints of the die-to-die link of two quadrants fail: some of them, or all four. -/
def State.d2dFail (s : State) (a b : Nat) (mask : Nat) : State :=
  let lo := min a b
  let hi := max a b
  let k := 4 * lo + hi
  let old := sparseGet 0 s.flt.d2dDown k
  let new := old ||| mask
  if lo = hi ∨ new = old then s
  else
    let s1 := { s with flt := { s.flt with d2dDown := sparseSet 0 s.flt.d2dDown k new } }
    if new = 15 then s1.quadrantLost hi lo 8 k else s1.unitFailed lo 8 k

def execD2dLinkFailure (qa qb : QuadId) (endpoints : BitVec 4) (s : State) : Host.Outcome State Fault Refusal :=
  (s.d2dFail qa.val qb.val endpoints.toNat).done

/-- An HBM stack is lost, and with it its quadrant's home slice. -/
def State.stackLost (s : State) (k : Nat) : State :=
  if s.flt.stacksLost.contains k then s
  else
    let s1 := if s.sliceLost (k / 2) then s else s.loseSlice (k / 2)
    let s2 := { s1 with flt := { s1.flt with stacksLost := s1.flt.stacksLost ++ [k] } }
    s2.emitAs (k / 2) 3 (Config.unlistedEvent 4) 0 6 k 0 [k]

def execHbmStackLost (k : StackId) (s : State) : Host.Outcome State Fault Refusal := (s.stackLost k.val).done

/-- A management core fails; the lowest working one takes over, and without any the device is held. -/
def State.coreFailed (s : State) (q : Nat) : State :=
  if s.flt.coresFailed.contains q then s
  else
    let s1 := { s with flt := { s.flt with coresFailed := s.flt.coresFailed ++ [q] } }
    let s2 := s1.emit q evMgmtCoreFailed 0 7 q 0 [q]
    if s2.noCore then s2.enterIsolation q evMgmtCoreFailed 3 else s2

def execMgmtCoreWatchdogExpiry (q : QuadId) (s : State) : Host.Outcome State Fault Refusal := (s.coreFailed q.val).done

/-- A key store check fails: every key store is zeroized (R389). -/
def execKeyStoreCheckFail (q : QuadId) (s : State) : Host.Outcome State Fault Refusal :=
  (((s.zeroizeAll).emit q.val evKeysZeroized 0 4 q.val 0 [1]).raise q.val 3 evKeysZeroized 4 q.val).done

/-! ## Canaries (R416, R419–R424) -/

/-- The bins of a tine that have failed. -/
def State.failedBins (s : State) (t : Nat) : Nat := ((List.range 32).filter (fun b => bitAt (s.rd od4410_FAIL_BINS t) b)).length

/-- A failed canary of a class is charged to a tine at a temperature (R422, R424). -/
def State.chargeBin (s : State) (t cls : Nat) (hot : Int) : State :=
  let bin := 4 * tempBin hot + cls
  let old := s.rd od4410_FAIL_BINS t
  let s1 := (s.wr od4410_FAIL_BINS t (old ||| 2 ^ bin)).bump od5000_CANARY_FAILS 0 64 1
  let s2 := s1.emit (t / 64) evCanaryFail 0 3 t 0 [t, bin]
  if 1 < s2.rd od3400_STATE t then s2
  else if s2.failedBins t < 3 then s2.wr od3400_STATE t 1
  else (s2.wr od3400_STATE t 2).emit (t / 64) evTineQuarantined 0 3 t 0 [t]

/-- A canary has run: it is counted and leaves its tine. -/
def State.canaryRan (s : State) (k : Canary) : State :=
  (({ s with flt := { s.flt with canaries := s.flt.canaries.erase k } }).bump od5000_CANARY_RUNS 0 64 1).bump od4410_CANARIES k.tine 32 1

/-- The canary in progress on a tine fails. The canaries of a RELEASE that follow no longer clear the tine. -/
def State.canaryFails (s : State) (t : Nat) : State :=
  match s.flt.canaries.find? (fun k => k.tine == t && decide (k.started ≤ s.clk)) with
  | none => s
  | some k =>
    let s1 := (s.canaryRan k).chargeBin t k.cls (signed 32 k.hot)
    let demote := fun (x : Canary) => if x.tine = t ∧ x.why = CanaryWhy.release then { x with why := CanaryWhy.sram } else x
    { s1 with flt := { s1.flt with canaries := s1.flt.canaries.map demote } }

/-- A canary passes; the last of a RELEASE clears the tine's bins (R424). -/
def State.canaryPasses (s : State) (k : Canary) : State :=
  let s1 := s.canaryRan k
  if k.why = .release ∧ !s1.flt.canaries.any (fun x => x.tine == k.tine && x.why == .release) ∧ s1.rd od3400_STATE k.tine ≤ 2 then
    (s1.wr od4410_FAIL_BINS k.tine 0).wr od3400_STATE k.tine 0
  else s1

/-- A canary takes at most 40 µs at 1.2 GHz (R419); one that has not failed by then has passed. -/
def State.endCanaries (s : State) : State :=
  (s.flt.canaries.filter (fun k => s.past k.started 40000)).foldl State.canaryPasses s

/-- A time-gated herd's own timetable (R421). -/
def State.tgCanary (s : State) (n : Nat) : State :=
  let period := s.rd od4408_TG_CANARY_PERIOD n
  let k := s.ft 0 / max 1 (nsToFt (period * 1000000))
  if !s.timeGated n ∨ period = 0 ∨ k ≤ sparseGet 0 s.flt.tgDone n ∨ !s.canariesRun ∨ s.mode ≠ 0 then s
  else
    let s0 := { s with flt := { s.flt with tgDone := sparseSet 0 s.flt.tgDone n k } }
    let mask := s.reservedTines (some n)
    let from_ := sparseGet 0 s.flt.nextTg n
    match ((List.range 256).map (fun i => (from_ + i) % 256)).find? (fun t => bitAt mask t) with
    | none => s0
    | some t =>
      let s1 := { s0 with flt := { s0.flt with nextTg := sparseSet 0 s0.flt.nextTg n ((t + 1) % 256) } }
      if s1.canaryFits t then s1.startCanary t .timetable 0 else s1.bump od4400_CANARY_SKIPPED 0 64 1

def execTgCanaryTimer (n : HerdId) (s : State) : Host.Outcome State Fault Refusal := (s.tgCanary n.val).done

/-- A write of RELEASE (R424). -/
def State.releaseWrite (s : State) (t : Nat) : Nat × State :=
  if 3 ≤ s.rd od3400_STATE t then (abInUse, s)
  else (abOk, { s with flt := { s.flt with fourDue := s.flt.fourDue ++ [(t, .release)] } })

/-! ## Leaving basic mode (R416) -/

/-- A write of RECOVER. -/
def State.recoverWrite (s : State) : Nat × State :=
  if s.mode ≠ 1 ∨ !s.flt.stack.isEmpty ∨ !s.flt.contained.isEmpty ∨ !s.flt.correctable.isEmpty then (abInUse, s)
  else if s.flt.recovering then (abOk, s)
  else
    let s1 := { s with flt := { s.flt with recovering := true } }
    (abOk, foldState s1 ((List.range 256).filter (fun t => decide (s1.rd od3400_STATE t ≤ 1))) (fun s t => s.startFour t .recover))

/-- The recovery canaries have run: RATE is restored and the stopped units start. -/
def execBasicModeExit (s : State) : Host.Outcome State Fault Refusal :=
  (if s.mode = 1 ∧ s.flt.recovering ∧ !s.flt.canaries.any (fun k => k.why == .recover) then
     let s1 := ({ s with flt := { s.flt with recovering := false } }).wr od4400_MODE 0 0
     (s1.emit s1.deviceCore evBasicLeft 0 7 s1.deviceCore 0 []).retryContribs.release
   else s).done

/-! ## Sampled dual execution (R425, R426) -/

/-- The oldest sampled chunk that a quadrant holds. -/
def State.dualOf (s : State) (q : Nat) : Option DualHold := s.flt.dual.find? (fun d => d.unit / 16 == q)

/-- The tines of the repeats are zeroed (R155). -/
def State.zeroTines (s : State) (ts : List Nat) (herd : Nat) : State :=
  foldState s ts (fun s t => ((s.takeTine t herd).dropLines t).wr od3400_LAST_HERD t herd)

/-- A held chunk leaves its unit. -/
def State.dualRelease (s : State) (d : DualHold) : State :=
  let s1 := { s with flt := { s.flt with dual := s.flt.dual.erase d } }
  (((s1.zeroTines d.tines (s.rd od3800_HERD d.ctx)).releaseChunk d.ctx d.step d.chunk).tryClose d.ctx).retryContribs

/-- Every mismatch is counted and reported, with the unit in the minority. -/
def State.dualMismatch (s : State) (d : DualHold) (minority : Nat) : State :=
  (s.bump od4400_DUAL_MISMATCHES 0 64 1).emit (d.unit / 16) evDualMismatch (s.rd od3800_HERD d.ctx) 5 d.unit 0 [d.ctx, d.chunk, minority]

/-- A repeat ends: the first one agrees, or a second tine repeats the chunk; the second one decides. -/
def State.dualRepeat (s : State) (d : DualHold) (v : DualVerdict) : State :=
  match d.agreed with
  | [] =>
    let s1 := s.bump od4400_DUAL_CHECKS 0 64 1
    if v = .unit then s1.dualRelease d
    else
      match s1.dualTine (s.rd od3800_HERD d.ctx) d.tines with
      | none => ((s1.dualMismatch d 0).bump od4400_DUAL_SKIPPED 0 64 1).dualRelease d
      | some t =>
        let d2 := { d with tines := d.tines ++ [t], agreed := [false], started := s.clk }
        { s1 with flt := { s1.flt with dual := s1.flt.dual.map (fun x => if x = d then d2 else x) } }
  | _ =>
    let t := d.tines.headD 0
    match v with
    | .unit => ((s.dualMismatch d t).chargeBin t 1 (s.tineTemp t)).dualRelease d
    | .other => ((s.dualMismatch d d.unit).reduceFailed d.unit).dualRelease d
    | .none =>
      let s1 := s.dualMismatch d 0
      let s2 := { s1 with flt := { s1.flt with dual := s1.flt.dual.erase d } }
      ((s2.zeroTines d.tines (s.rd od3800_HERD d.ctx)).abortStep d.ctx ePoison).retryContribs

def execDualRepeatDone (q : QuadId) (v : DualVerdict) (s : State) : Host.Outcome State Fault Refusal :=
  (match s.dualOf q.val with
   | some d => s.dualRepeat d v
   | none => s).done

/-- A repeat has not ended within 20 µs. -/
def execDualRepeatTimeout (q : QuadId) (s : State) : Host.Outcome State Fault Refusal :=
  (match s.dualOf q.val with
   | some d =>
     if s.past d.started 20000 then
       let s1 := if d.agreed.isEmpty then s else s.dualMismatch d 0
       (s1.bump od4400_DUAL_SKIPPED 0 64 1).dualRelease d
     else s
   | none => s).done

/-! ## Error sources without a command of their own (Table 17.2) -/

/-- An uncorrectable ECC error of a memory of a unit. -/
def State.eccBad (s : State) (q herd kind unit a b : Nat) : State :=
  (s.bump od5000_ECC_UNCORRECTED 0 64 1).emit q evEccUncorrected herd kind unit ePoison [Config.eccPlace kind a b]

/-- The immediate action of a source, and its event. -/
def State.detect (s : State) (src : ErrorSource) : State :=
  match src with
  | .corrected kind unit q loc =>
    let s1 := s.bump od5000_ECC_CORRECTED 0 64 1
    let s2 := if kind = 6 ∧ unit.toNat < 8 then s1.count (0x680 + 8 * unit.toNat + 2) 1 else s1
    s2.emit q.val evEccCorrected 0 kind.toNat unit.toNat 0 [Config.eccPlace kind.toNat unit.toNat loc.toNat]
  | .poolLine e line kind unit =>
    let s1 := s.addPoison (e.val * 2 ^ 41 + line % 2 ^ 41)
    let s2 := if kind = 6 ∧ unit.toNat < 8 then s1.count (0x680 + 8 * unit.toNat + 3) 1 else s1
    s2.eccBad (s.extQuad e.val) (s.extHerd e.val) kind.toNat unit.toNat e.val line
  | .tineMemory t h =>
    let s1 := if (s.thread t.val h.val).live then s.endThread t.val h.val ePoison else s
    let s2 := { s1 with flt := { s1.flt with fourDue := s1.flt.fourDue ++ [(t.val, CanaryWhy.sram)] } }
    s2.eccBad (t.val / 64) 0 3 t.val t.val h.val
  | .bufferCell f => if s.bufferHolds f then (s.loseTx f).bump od5000_ECC_UNCORRECTED 0 64 1 else s
  | .dirEntry e line =>
    let l := lineNo e.val line
    let s1 := if s.hLine e.val line then ((s.setDir l dirPoison).poisonTxn l).release else s
    s1.eccBad (s.extQuad e.val) (s.extHerd e.val) 4 (s.extQuad e.val) e.val line
  | .extentState e =>
    let s1 := if s.extState e.val = 0 ∨ (s.extSlice e.val).isNone then s else s.revokeOp e.val
    s1.eccBad (s.extQuad e.val) (s.extHerd e.val) 4 (s.extQuad e.val) e.val 0
  | .ownership i =>
    match s.own[i]? with
    | none => s
    | some o => (s.revokeOp o.ext).eccBad (s.extQuad o.ext) (s.extHerd o.ext) 4 (s.extQuad o.ext) o.ext o.list
  | .matchEntry i =>
    { s with mt := { s.mt with bad := if s.mt.bad.contains i.val then s.mt.bad else s.mt.bad ++ [i.val] } }
  | .canary t => s.canaryFails t.val
  | .alwaysOn q => s.enterIsolation q.val 0 4
  | .other kind unit q => s.emitAs q.val 3 (Config.unlistedEvent 5) 0 kind.toNat unit.toNat 0 []

def execErrorDetected (src : ErrorSource) (s : State) : Host.Outcome State Fault Refusal := (s.detect src).done

/-! ## Handlers (R409–R413) -/

/-- The frame at the top of what is left of the stack runs on; below an empty stack, the oldest queued error is pushed. -/
def State.resume (s : State) (stack : List HandlerFrame) : State :=
  match stack with
  | f :: fs => ({ s with flt := { s.flt with stack := { f with top := s.clk } :: fs } }).wr od4400_DEPTH 0 (fs.length + 1)
  | [] =>
    let s1 := ({ s with flt := { s.flt with stack := [] } }).wr od4400_DEPTH 0 0
    let pushed := fun (s : State) (cls : Nat) (x : Nat × Nat × Nat) =>
      s.push ⟨cls, x.1, x.2.1, s.coreFor ⟨cls, x.1, x.2.1, 0, x.2.2⟩, 0, s.clk⟩
    if s1.mode = 2 then s1
    else match s1.flt.contained, s1.flt.correctable with
      | x :: xs, _ => pushed ({ s1 with flt := { s1.flt with contained := xs } }).queued 2 x
      | [], x :: xs => pushed ({ s1 with flt := { s1.flt with correctable := xs } }).queued 1 x
      | [], [] => s1

/-- The time that a frame has run as the top frame, in cycles of the time clock. -/
def State.frameRan (s : State) (f : HandlerFrame) : Nat := f.ran + (s.clk - f.top)

/-- Handler time is counted in µs at the core that ran it. -/
def State.handlerTime (s : State) (f : HandlerFrame) : State :=
  s.tally 0 (0x740 + 8 * f.core + 2) (s.frameRan f * 1000000 / 2 ^ 72)

def execHandlerEnd (s : State) : Host.Outcome State Fault Refusal :=
  (match s.flt.stack with
   | [] => s
   | f :: fs => (s.handlerTime f).resume fs).done

/-- The limit of a frame in ns. -/
def handlerLimit (cls : Nat) : Nat := if cls ≤ 1 then 1000000 else if cls = 2 then 10000000 else 50000000

/-- The top frame exceeds its limit: the overrun is judged while the frame still stands, and the frame is then gone. -/
def State.overrun (s : State) (f : HandlerFrame) (fs : List HandlerFrame) : State :=
  let mark : HandlerFrame := { f with kind := 15, unit := 4095 }
  let s1 := (s.handlerTime f).emit f.core evHandlerOverrun 0 7 f.core 0 [f.cls * 65536 + f.kind * 4096 + f.unit]
  let r : Raised := ⟨3, 7, f.core, evHandlerOverrun, f.core⟩
  let s2 := { s1 with flt := { s1.flt with stack := mark :: fs, raised := s1.flt.raised.erase r } }
  let s3 := s2.nest r
  let left := s3.flt.stack.filter (fun x => !(x.kind == 15 && x.unit == 4095))
  if (s3.flt.stack.head?).map (fun x => (x.kind, x.unit)) = some (15, 4095) then s3.resume left
  else ({ s3 with flt := { s3.flt with stack := left } }).wr od4400_DEPTH 0 left.length

def execHandlerLimitExpiry (s : State) : Host.Outcome State Fault Refusal :=
  (match s.flt.stack with
   | [] => s
   | f :: fs => if handlerLimit f.cls * 2 ^ 72 ≤ s.frameRan f * 1000000000 then s.overrun f fs else s).done

/-! ## Event records (R404–R407) -/

/-- The bytes of a record (Table 17.3), with DETAIL0 to DETAIL4 or without (R406). -/
def eventBytes (e : EventRec) (details : Bool) : List Byte :=
  bytesOfWords ([e.time, e.quality * 2 ^ 62 + e.cls * 2 ^ 60 + e.herd * 2 ^ 48 + e.kind * 2 ^ 44 + e.unit * 2 ^ 32
      + e.event % 65536 * 2 ^ 16 + e.code * 2 ^ 8, e.quad * 2 ^ 62 + e.seq * 2 ^ 32 + e.count]
    ++ (List.range 5).map (fun i => if details then e.details.getD i 0 else 0))

/-- The form of a record for the device ring and the log. -/
def State.deviceForm (s : State) (e : EventRec) : List Byte := eventBytes e (!s.sealedHerd e.herd)

/-- A copy of a record has gone: the record leaves the log when none is due. -/
def State.copyGone (s : State) (i : Nat) (r : LogRec) : State :=
  { s with flt := { s.flt with log := if r.devDue || r.herdDue then s.flt.log.set i r else s.flt.log.eraseIdx i } }

/-- An older record of the quadrant waits for the same ring. -/
def State.olderWaits (s : State) (i : Nat) (r : LogRec) (device : Bool) : Bool :=
  (s.flt.log.take i).any (fun x => x.ev.quad == r.ev.quad &&
    (if device then x.devDue else x.herdDue && s.rd od4408_HERD_RING x.ev.herd == s.rd od4408_HERD_RING r.ev.herd))

/-- Write a copy of a waiting record to its ring, if the ring can take it. -/
def State.issueRecord (s : State) (i : Nat) (device : Bool) : State :=
  match s.flt.log[i]? with
  | none => s
  | some r =>
    let ring := if device then s.rd od4400_DEVICE_RING 0 else s.rd od4408_HERD_RING r.ev.herd
    let herd := if device then 0 else r.ev.herd
    if s.mode = 2 || !(if device then r.devDue else r.herdDue) || s.olderWaits i r device || !s.eventRingOf ring herd ||
        s.ringFree ring == 0 then s
    else match s.post ring (if device then s.deviceForm r.ev else eventBytes r.ev true) with
      | none => s
      | some s1 => s1.copyGone i (if device then { r with devDue := false } else { r with herdDue := false })

def execEventRecordIssue (i : Nat) (device : Bool) (s : State) : Host.Outcome State Fault Refusal := (s.issueRecord i device).done

/-- At the end of a record's millisecond the occurrences merged since are delivered (R407). -/
def execMergeWindowEnd (s : State) : Host.Outcome State Fault Refusal :=
  ((s.flt.merges.filter (fun m => s.past m.since 1000000)).foldl State.endMerge s).done

/-- A read of LOG_NEXT: the oldest record whose device-ring copy is due, which it removes. -/
def State.logNext (s : State) : List Byte × State :=
  match s.flt.log.findIdx? (fun r => r.devDue) with
  | none => (List.replicate 64 0, s)
  | some i => match s.flt.log[i]? with
    | none => (List.replicate 64 0, s)
    | some r => (s.deviceForm r.ev, s.copyGone i { r with devDue := false })

/-! ## Capacity (Table 17.9) -/

def State.tinesIn (s : State) (p : Nat → Bool) : List Nat := (List.range 256).filter (fun t => p (s.rd od3400_STATE t))

/-- The clock of an operating point in 100 MHz (Table 19.3). -/
def pointClock (p : Nat) : Nat := 12 + 3 * p

/-- PEAK_MXFP4 in TOPS: placeable tines × 6,144 × 2 × each tine's clock. -/
def State.peak (s : State) : Nat :=
  (s.tinesIn (fun x => decide (x ≤ 1))).foldl (fun a t => a + 6144 * 2 * pointClock (s.rd od4C08_POINT (t / 64))) 0 / 10000

/-- OD 4420.01–.07. -/
def State.capacity (s : State) (sub : Nat) : Nat :=
  if sub = 1 then (s.tinesIn (fun x => decide (x ≤ 1))).length
  else if sub = 2 then (s.tinesIn (· == 2)).length
  else if sub = 3 then (s.tinesIn (· == 3)).length
  else if sub = 4 then 4 - s.flt.quadsLost.length
  else if sub = 5 then 8 - s.flt.stacksLost.length
  else if sub = 6 then ((List.range 64).filter (fun u => s.unitOk (u / 16) (u % 16))).length
  else s.peak

end Sys2Proof.Machine
end

