-- ==== Sys2Proof/Machine/Levels.lean ====
section
/-! DEFINITION. The power state, the debug level in force, and what follows when either changes (R398, R399, R466,
Tables 16.4 and 16.5). -/

namespace Sys2Proof.Machine

/-! ## The debug level in force (Table 16.4) -/

/-- A sealed herd is outside FREE. -/
def State.sealedLive (s : State) : Bool :=
  (odListed s.od od2800_STATE).any (fun kv => kv.2 != 0 && kv.1 != 0 && s.sealedHerd kv.1)

/-- The cap of Table 16.4 in a power state. -/
def State.debugCap (s : State) (p : Nat) : Nat :=
  if p = 3 then 1 else if 4 ≤ p then 0 else if s.sec.life = 2 ∧ s.sealedLive then 2 else 3

/-- Frames of sealed herds on die. -/
def State.sealedFrames (s : State) : List Nat :=
  (s.sw.tx.filter (fun f => s.sealedHerd (bodyHerd f.body))).map (·.id) ++ (s.sw.voq.filter (fun f => s.sealedHerd f.herd)).map (·.id)

/-- The commands of sealed herds, those that wait to run again among them, complete. -/
def State.endSealedCmds (s : State) : State :=
  let s1 := foldState s ((s.cpu.cmds.filter (fun c => s.sealedHerd c.herd)).map (·.cid)) (fun s cid => s.finishCmd cid eDegraded)
  let again := s1.cpu.rings.flatMap (fun kv => kv.2.reissue.filter (fun c => s1.sealedHerd c.herd))
  again.foldl (fun (s : State) (c : Cmd) =>
    let s2 := s.setRing c.ring { s.ring c.ring with reissue := (s.ring c.ring).reissue.filter (fun (x : Cmd) => x.cid != c.cid) }
    { s2 with cpu := { s2.cpu with cmds := s2.cpu.cmds ++ [{ s2.cmdEnds c with code := some eDegraded, finished := true }] } }) s1

/-- Zeroize the stores of R392. -/
def State.endSealedStores (s : State) : State :=
  let s1 := foldState s ((List.range 256).filter (fun t => s.sealedHerd (s.rd od3400_LAST_HERD t))) (fun s t => s.takeTine t 0)
  let s2 := foldState s1 (s1.runningCtxs.filter (fun c => s1.sealedHerd (s1.rd od3800_HERD c)))
    (fun s c => (s.sendAborts c (s.openStep c) eDegraded true).closeStep c eDegraded)
  { s2 with pool := { s2.pool with blocks := quadMap (fun l => l.filter (fun x => !s2.sealedHerd (s2.extHerd x.1))) s2.pool.blocks } }

/-- The effective level rises to 3: sealed work ends, and every plaintext store and key is zeroized (R399). -/
def State.openD3 (s : State) : State :=
  let s1 := foldState s.endSealedCmds s.sealedFrames State.dropTx
  let s2 := { s1.endSealedStores.zeroizeAll with sec := { s1.endSealedStores.zeroizeAll.sec with bufKey := 0 } }
  s2.emit 0 evKeysZeroized 0 4 0 0 [0]

/-- Set DEBUG_EFFECTIVE, with what a rise to 3, a fall from 3 and a fall below 2 bring. -/
def State.setDebug (s : State) : State :=
  let old := s.rd od4100_DEBUG_EFFECTIVE 0
  let new := min (s.rd od4100_DEBUG_LEVEL 0) (s.debugCap (s.rd od4C00_STATE 0))
  if new = old then s
  else
    let s1 := s.wr od4100_DEBUG_EFFECTIVE 0 new
    if new = 3 then s1.openD3
    else
      let s2 := if old = 3 ∧ s1.sec.ledgerDue then { s1 with sec := { s1.sec with ledgerDue := false } }.writeLedger else s1
      if old = 2 ∨ old = 3 then (if new < 2 then s2.wr od4880_STATE 0 0 else s2) else s2

/-! ## The power state (R466) -/

/-- The highest-numbered row of Table 19.7 whose condition holds. -/
def State.powerNow (s : State) : Nat :=
  if 2 ≤ s.pwr.request then s.pwr.request
  else if [0, 1, 2, 3].any (fun q => s.rd od4C08_GATE q == 1) then 1 else 0

/-- The working key stores that are zeroized now (Table 16.5). -/
def State.workKeys (s : State) : State :=
  let st := s.rd od4C00_STATE 0
  let off := fun (q : Nat) => decide (3 ≤ st) || s.rd od4C08_GATE q == 1
  let s1 := { s with sec := { s.sec with noWork := ⟨off 0, off 1, off 2, off 3⟩ } }
  if st = 4 then s1.zeroizeAll else s1

/-- Enter the power state that holds, unless a transition runs. -/
def State.enterPower (s : State) : State :=
  if s.pwr.trans.isSome then s
  else
    let old := s.rd od4C00_STATE 0
    let s1 := (((s.wr od4C00_STATE 0 s.powerNow).workKeys).syncTines).setDebug
    if 3 ≤ old ∧ s1.rd od4C00_STATE 0 < 3 then
      (foldState s1 ((odListed s1.od od2118_STATE).map (·.1)) State.startPort).retryContribs.release
    else s1.retryContribs.release

end Sys2Proof.Machine
end

