-- ==== Sys2Proof/Machine/Power.lean ====
section
/-! DEFINITION. The governor, references, operating points, heat, gating and power states (chapter 19). A handler of a write to
the object dictionary answers with the abort code and the state. -/

namespace Sys2Proof.Machine

/-! ## Operating points (R458–R460) -/

def State.quadGated (s : State) (q : Nat) : Bool := s.rd od4C08_GATE q == 1

/-- The lowest of the points that R459 names. -/
def State.pointWanted (s : State) (q : Nat) : Nat :=
  if quadGet s.pwr.hot105 q then 0
  else min (min (s.rd od4C08_POINT_REQ q) (quadGet s.pwr.govCap q)) (min (quadGet s.pwr.thermal q) (quadGet s.pwr.spreadCap q))

/-- Start the next step between adjacent points, unless one runs. -/
def State.startStep (s : State) (q : Nat) : State :=
  let p := s.rd od4C08_POINT q
  let w := s.pointWanted q
  if (quadGet s.pwr.stepping q).isSome ∨ p = w then s
  else { s with pwr := { s.pwr with stepping := quadSet s.pwr.stepping q (some (if p < w then p + 1 else p - 1)) } }

def State.startSteps (s : State) : State := foldState s [0, 1, 2, 3] State.startStep

def execPointStepDone (q : QuadId) (s : State) : Host.Outcome State Fault Refusal :=
  (match quadGet s.pwr.stepping q.val with
   | none => s
   | some p => ({ s with pwr := { s.pwr with stepping := quadSet s.pwr.stepping q.val none } }.wr od4C08_POINT q.val p).startStep q.val).done

/-- VDD_TINE of Table 19.3 in mV; a rise brings the supply first, and a fall last. -/
def State.pointSupply (s : State) (q : Nat) : Nat :=
  620 + 30 * max (s.rd od4C08_POINT q) ((quadGet s.pwr.stepping q).getD 0)

/-- The supply in force: at most 120 mV below the highest one of the ungated quadrants (R460). -/
def State.vddTine (s : State) (q : Nat) : Nat :=
  if s.quadGated q then s.pointSupply q
  else (([0, 1, 2, 3].filter (fun k => !s.quadGated k)).map (fun k => s.pointSupply k - 120)).foldl max (s.pointSupply q)

/-- A write to POINT_REQ. -/
def State.pointWrite (s : State) (q v : Nat) : Nat × State := (abOk, (s.wr od4C08_POINT_REQ q v).startStep q)

/-- Count a step down of a quadrant's point or of RATE. -/
def State.throttled (s : State) : State := s.bump od4C00_THROTTLE_EVENTS 0 64 1

/-! ## The governor (R454, R455, R472) -/

/-- The quadrant with the highest point in force, the lower number on a tie; none where every point is 0. -/
def State.highestPoint (s : State) : Option Nat :=
  [0, 1, 2, 3].foldl (fun best q => match best with
    | none => if s.rd od4C08_POINT q = 0 then none else some q
    | some b => if s.rd od4C08_POINT b < s.rd od4C08_POINT q then some q else some b) none

/-- RATE steps of 5 % in force. -/
def State.rateSteps (s : State) : Nat := (s.pwr.actions.filter (·.1 == 4)).length

def State.rateStep (s : State) : State :=
  if s.rateSteps < 19 then { s with pwr := { s.pwr with actions := (4, 0) :: s.pwr.actions } }.throttled else s

/-- One step down: the points first, then RATE; in flush mode RATE alone. -/
def State.governDown (s : State) : State :=
  match (if s.flushMode then none else s.highestPoint) with
  | none => s.rateStep
  | some q =>
    ({ s with pwr := { s.pwr with actions := (q, quadGet s.pwr.govCap q) :: s.pwr.actions,
                                  govCap := quadSet s.pwr.govCap q (s.rd od4C08_POINT q - 1) } }.throttled).startStep q

/-- Undo the last step. -/
def State.governUp (s : State) : State :=
  match s.pwr.actions with
  | [] => s
  | (q, old) :: rest =>
    if q = 4 then { s with pwr := { s.pwr with actions := rest } }
    else { s with pwr := { s.pwr with actions := rest, govCap := quadSet s.pwr.govCap q old } }.startStep q

/-- What the governor has measured (Table 19.8). -/
def State.measured (s : State) (r : PowerReading) : State :=
  let s1 := foldState (s.wr od4C00_PACKAGE_POWER 0 (r.package / 1000)) [0, 1, 2, 3] (fun s q => s.wr od4C08_POWER q (r.quads.getD q 0))
  foldState s1 (List.range 13) (fun s k =>
    let x := r.rails.getD k (0, 0)
    (s.wr od4C10_CURRENT k x.1).wr od4C10_VOLTS k x.2)

/-- Package power in mW that the governor holds. -/
def State.powerCap (s : State) : Nat := (if s.flushMode then s.rd od2C10_FLUSH_POWER 0 else s.rd od4C00_POWER_LIMIT 0) * 1000

/-- One sample of the mean: down every 100 µs until it is below 98 % of the limit, up every 1 ms after 10 ms below 90 %. -/
def State.govern (s : State) (mean : Nat) : State :=
  let cap := s.powerCap
  let acting := decide (cap < mean) || (s.pwr.acting && decide (cap * 98 ≤ mean * 100))
  let below := if mean * 100 < cap * 90 then some (s.pwr.below.getD s.clk) else none
  let s1 := { s with pwr := { s.pwr with acting := acting, below := below } }
  if acting then
    if !s.pwr.acting || s.past s.pwr.acted 100000 then { s1.governDown with pwr := { s1.governDown.pwr with acted := s.clk } } else s1
  else match below with
    | some t =>
      if s.past t 10000000 && s.past s.pwr.acted 1000000 && !s.pwr.actions.isEmpty then
        { s1.governUp with pwr := { s1.governUp.pwr with acted := s.clk } }
      else s1
    | none => s1

def execPowerGovernorSample (r : PowerReading) (s : State) : Host.Outcome State Fault Refusal :=
  ((s.measured r).govern r.package).done

/-! ## References (R457, Table 19.4) -/

/-- Every port of a quadrant goes down and stays down until its reference returns. -/
def State.sdLost (s : State) (q : Nat) : State :=
  foldState s (quadPorts q) (fun s p =>
    if hp : p < 256 then
      let down := fun (s : State) => ((s.wr od2118_STATE p 1).wr od2118_WIDTH p 0).setTraining p trainNew
      if s.rd od2118_STATE p = 3 then s.downEvent ⟨p, hp⟩ down
      else if 2 ≤ s.rd od2118_STATE p then down s else s
    else s)

/-- The references found lost: 0 system, 1 holdover, 2 + q SerDes. -/
def refsLost (r : ReferenceReading) : List Nat :=
  (if r.sys then [0] else []) ++ (if r.hold then [1] else []) ++ ([0, 1, 2, 3].filter (fun q => r.sd.getLsbD q)).map (2 + ·)

/-- Act on a reference newly lost. -/
def State.refGone (s : State) (k : Nat) : State :=
  if k = 0 then s.emitAs 0 3 (Config.unlistedEvent 1) 0 14 0 0 []
  else if k = 1 then
    (if s.rd od2000_QUALITY 0 = 1 then s.freeRun else s).emitAs 0 1 (Config.unlistedEvent 3) 0 14 0 0 []
  else (s.sdLost (k - 2)).emitAs (k - 2) 2 (Config.unlistedEvent 2) 0 14 (k - 2) 0 []

def State.checkRefs (s : State) (r : ReferenceReading) : State :=
  let old := s.pwr.refLost
  let new := refsLost r
  let s1 := { s with pwr := { s.pwr with refLost := new } }
  let both := fun (l : List Nat) => l.contains 0 && l.contains 1
  let fresh := new.filter (fun k => !old.contains k && (2 ≤ k || !both new))
  let s2 := foldState s1 fresh State.refGone
  let s3 := if both new ∧ !both old then s2.enterIsolation 0 0 6 else s2
  foldState s3 ((old.filter (fun k => decide (2 ≤ k) && !new.contains k)).flatMap (fun k => quadPorts (k - 2))) State.startPort

def execReferenceCheck (r : ReferenceReading) (s : State) : Host.Outcome State Fault Refusal := (s.checkRefs r).done

/-! ## Heat (R67, R461–R463, Table 19.6) -/

/-- The readings of one sample, and a canary's highest. -/
def State.readHeat (s : State) (r : ThermalReading) : State :=
  let s1 := foldState s (List.range 256) (fun s t =>
    let v := r.tines.getD t (s.tineTemp t)
    let s1 := s.wr od4410_TEMP t (unsigned 32 v)
    let hot := fun (k : Canary) => if k.tine = t ∧ k.started ≤ s.clk ∧ signed 32 k.hot < v then { k with hot := unsigned 32 v } else k
    { s1 with flt := { s1.flt with canaries := s1.flt.canaries.map hot } })
  let top := fun (q : Nat) => ((List.range 64).map (fun i => s1.tineTemp (64 * q + i))).foldl max
    (r.others.getD q (s1.tineTemp (64 * q)))
  let s2 := foldState s1 [0, 1, 2, 3] (fun s q => s.wr od4C08_TJ_HOT q (unsigned 32 (top q)))
  s2.wr od4C00_TJ_MAX 0 (unsigned 32 ([1, 2, 3].foldl (fun a q => max a (top q)) (top 0)))

/-- TJ_HOT of a quadrant in 0.1 °C. -/
def State.hottest (s : State) (q : Nat) : Int := signed 32 (s.rd od4C08_TJ_HOT q)

/-- Rises to 85 °C after a fall to 45 °C. -/
def State.thermalCycle (s : State) (q : Nat) : State :=
  let t := s.hottest q
  let counted := quadGet s.time.hotCycle q
  if 850 ≤ t ∧ !counted then
    { s with time := { s.time with hotCycle := quadSet s.time.hotCycle q true } }.bump od5010_THERMAL_CYCLES q 64 1
  else if t ≤ 450 ∧ counted then { s with time := { s.time with hotCycle := quadSet s.time.hotCycle q false } }
  else s

/-- TJ_THROTTLE: one point down every 1 ms until the junction is 2 °C below. -/
def State.heatCap (s : State) (q : Nat) : State :=
  let t := s.hottest q
  let lim : Int := 10 * (s.rd od4C00_TJ_THROTTLE 0 : Nat)
  let on := decide (quadGet s.pwr.thermal q < 8)
  if lim ≤ t ∨ (on ∧ lim - 20 < t) then
    if !on ∨ s.past (quadGet s.pwr.heated q) 1000000 then
      let p := s.rd od4C08_POINT q
      let s1 := { s with pwr := { s.pwr with thermal := quadSet s.pwr.thermal q (p - 1), heated := quadSet s.pwr.heated q s.clk } }
      if p = 0 then s1 else s1.throttled
    else s
  else { s with pwr := { s.pwr with thermal := quadSet s.pwr.thermal q 8 } }

/-- More than 25 °C above the coolest ungated quadrant: one point down every 1 ms; at 30 °C no tine work launches. -/
def State.spreadCheck (s : State) (q : Nat) : State :=
  let cool := (([0, 1, 2, 3].filter (fun k => !s.quadGated k)).map s.hottest).foldl min (s.hottest q)
  let d := s.hottest q - cool
  let set := fun (cap : Nat) (at_ : Nat) (apart : Bool) =>
    { s with pwr := { s.pwr with spreadCap := quadSet s.pwr.spreadCap q cap, spread := quadSet s.pwr.spread q at_,
                                 apart30 := quadSet s.pwr.apart30 q apart } }
  if s.quadGated q ∨ d ≤ 250 then set 8 (quadGet s.pwr.spread q) false
  else
    let apart := quadGet s.pwr.apart30 q || decide (300 ≤ d)
    if quadGet s.pwr.spreadCap q = 8 ∨ s.past (quadGet s.pwr.spread q) 1000000 then
      let p := s.rd od4C08_POINT q
      if p = 0 then set 0 s.clk apart else (set (p - 1) s.clk apart).throttled
    else set (quadGet s.pwr.spreadCap q) (quadGet s.pwr.spread q) apart

/-- 105 °C: the point is 0 and no tine work launches until 100 °C. -/
def State.heat105 (s : State) (q : Nat) : State :=
  let t := s.hottest q
  if quadGet s.pwr.hot105 q then
    if t ≤ 1000 then { s with pwr := { s.pwr with hot105 := quadSet s.pwr.hot105 q false } } else s
  else if 1050 ≤ t then
    { s with pwr := { s.pwr with hot105 := quadSet s.pwr.hot105 q true } }.emitAs q 1 (Config.unlistedEvent 0) 0 14 q 0 []
  else s

/-- 112 °C for 1 ms: isolation hold. -/
def State.heat112 (s : State) (q : Nat) : State :=
  if 1120 ≤ s.hottest q then
    let since := (quadGet s.pwr.tooHot q).getD s.clk
    let s1 := { s with pwr := { s.pwr with tooHot := quadSet s.pwr.tooHot q (some since) } }
    if s.past since 1000000 then s1.enterIsolation q 0 5 else s1
  else { s with pwr := { s.pwr with tooHot := quadSet s.pwr.tooHot q none } }

/-- THERM_ALERT_N (R484). -/
def State.heatAlert (s : State) : State :=
  let lim : Int := 10 * (s.rd od4C00_TJ_ALERT 0 : Nat)
  let any := fun (x : Int) => [0, 1, 2, 3].any (fun q => decide (x ≤ s.hottest q))
  { s with pwr := { s.pwr with alert := any lim || (s.pwr.alert && any (lim - 19)) } }

/-- The thermal action on each HBM stack: 1 refreshed twice as often, 2 throttled as well. -/
def State.heatStacks (s : State) (ts : List Int) : State :=
  let put := fun (m : Sparse Nat) (k : Nat) => match ts[k]? with
    | some t => sparseSet 0 m k (if 950 ≤ t then 2 else if 850 ≤ t then 1 else 0)
    | none => m
  { s with pwr := { s.pwr with hbms := (List.range 8).foldl put s.pwr.hbms } }

def State.thermal (s : State) (r : ThermalReading) : State :=
  let s1 := (s.readHeat r).heatStacks r.hbms
  (foldState s1 [0, 1, 2, 3] (fun s q => ((((s.thermalCycle q).heatCap q).spreadCheck q).heat105 q).heat112 q)).heatAlert.startSteps

def execThermalSample (r : ThermalReading) (s : State) : Host.Outcome State Fault Refusal := (s.thermal r).done

/-- VDD_TINE droops: the clock stretches, which changes no other architected state. -/
def execDroopDetected (q : QuadId) (s : State) : Host.Outcome State Fault Refusal := (s.bump od4C08_STRETCHES q.val 64 1).done

/-! ## Gating and power states (R466–R470) -/

/-- A transition starts: 0 to 4 a REQUEST, 16 + q gating, 32 + q ungating. -/
def State.startTransition (s : State) (target : Nat) : State :=
  { s with pwr := { s.pwr with trans := some (target, s.clk) } }.wr od4C00_TRANSITION 0 1

/-- R467: what keeps a quadrant from being gated. -/
def State.quadInUse (s : State) (q : Nat) : Bool :=
  q == 0 ||
  (quadPorts q).any (fun p => s.rd od2810_ROLE p != 0) ||
  s.extents.any (fun e => s.extHerd e != 0 && s.extSlice e == some q) ||
  s.runningCtxs.any (fun c => ctxQuad c == q) ||
  (s.ringsOf q).any (fun r => s.rd od3410_STATE r == 1) ||
  ((odListed s.od od4010_STATE).map (·.1)).any (fun r => s.rd od4010_BANK r / 2 == q) ||
  ((odListed s.od od4810_STATE).map (·.1)).any (fun p => p / 1024 == q) ||
  ((odListed s.od od2010_STATE).map (·.1)).any (fun n => slotQuad n == q && s.slotArmed n)

/-- A write to GATE. -/
def State.gateQuadWrite (s : State) (q v : Nat) : Nat × State :=
  if s.pwr.trans.isSome then (abInUse, s)
  else if s.rd od4C08_GATE q = v then (abOk, s)
  else if v = 1 then
    if s.quadInUse q then (abInUse, s)
    else (abOk, ((s.wr od4C08_GATE q 1).syncTines).startTransition (16 + q))
  else
    let s1 := ((s.wr od4C08_GATE q 0).syncTines).startTransition (32 + q)
    (abOk, { s1 with flt := { s1.flt with fourDue := s1.flt.fourDue ++ (List.range 64).map (fun i => (64 * q + i, CanaryWhy.ungate)) } })

/-- A write to REQUEST. -/
def State.requestWrite (s : State) (path : OdPath) (v : Nat) : Nat × State :=
  let st := s.rd od4C00_STATE 0
  let ask := fun (s : State) => { s with pwr := { s.pwr with request := v } }
  if path = .f ∧ v ≠ 0 ∧ v ≠ 2 then (abDenied, s)
  else if s.pwr.trans.isSome then (abInUse, s)
  else if v = 2 then
    if (List.range 256).any (fun t => !(s.liveThreads t).isEmpty) then (abInUse, s)
    else (abOk, if s.pwr.request = 2 then s else (ask s).syncTines.startTransition 2)
  else if v = 0 then (abOk, if s.pwr.request = 0 then s else (ask s).startTransition 0)
  else if (odListed s.od od2800_STATE).any (fun kv => kv.1 != 0 && (kv.2 == 2 || kv.2 == 3)) then (abInUse, s)
  else if s.pwr.request = v then (abOk, s)
  else if st = 3 then (abOk, (ask s).ledgerRecord.startTransition v)
  else
    let s1 := ((ask s).flushAll.checkpoint.idlePorts (fun _ => true)).startTransition v
    (abOk, if v = 4 then s1.ledgerRecord else s1)

/-- Canaries of an ungated quadrant that have not run yet; they wait while its tines are off. -/
def State.ungateDue (s : State) (q : Nat) : Bool :=
  decide (s.pwr.request < 2) &&
  (s.flt.canaries.any (fun k => k.tine / 64 == q && k.why == .ungate) ||
   s.flt.fourDue.any (fun x => x.1 / 64 == q && x.2 == .ungate && decide (s.rd od3400_STATE x.1 ≤ 2)))

/-- A transition ends. -/
def State.transitionDone (s : State) : State :=
  match s.pwr.trans with
  | none => s
  | some (target, _) =>
    if 32 ≤ target ∧ s.ungateDue (target % 4) then s
    else
      let s1 := if target = 3 ∨ target = 4 then s.flushAll else s
      ({ s1 with pwr := { s1.pwr with trans := none } }.wr od4C00_TRANSITION 0 0).enterPower

def execPowerTransitionDone (s : State) : Host.Outcome State Fault Refusal := s.transitionDone.done

end Sys2Proof.Machine
end

