-- ==== Sys2Proof/Machine/Boot.lean ====
section
/-! DEFINITION. Control inputs, flush mode, reset and boot (R108, R351, R362, R363, R379–R383, R450, R470, R472, R480–R489). -/

namespace Sys2Proof.Machine

/-! ## Control inputs (R480, R481, Table 20.5) -/

/-- Pulses too short for an input are filtered and counted. -/
def State.filtered (s : State) (k : Nat) (short : Nat) : State := s.bump od4C48_FILTERED k 32 short

/-- Note an assertion and the input's rate limit: the state, and whether it is broken now. -/
def State.noteEdge (s : State) (k ns limit : Nat) : State × Bool :=
  let ts := (sparseGet [] s.pins.edges k).filter (fun t => !s.past t ns) ++ [s.clk]
  ({ s with pins := { s.pins with edges := sparseSet [] s.pins.edges k ts } }, decide (limit < ts.length))

/-- When the level of an input last changed. -/
def State.levelSince (s : State) (k : Nat) : Nat := sparseGet 0 s.pins.since k
def State.setSince (s : State) (k : Nat) : State := { s with pins := { s.pins with since := sparseSet 0 s.pins.since k s.clk } }

/-- The input counts as asserted from now on. -/
def State.rateHold (s : State) (k : Nat) : State :=
  if s.pins.held.contains k then s
  else ({ s with pins := { s.pins with held := s.pins.held ++ [k] } }).bump od4C48_RATE_HELD k 32 1

def State.rateFree (s : State) (k : Nat) : State := { s with pins := { s.pins with held := s.pins.held.filter (· != k) } }

/-! ## Flush mode (R108, R351, R470, R472, R489) -/

/-- Flush mode begins. -/
def State.startFlush (s : State) : State :=
  let s1 := match s.pwr.trans with
    | some (t, _) => if t = 3 ∨ t = 4 then s.endTransition else s
    | none => s
  if s1.rd od4C40_BOOT_STAGE 0 < 2 then s1
  else if s1.rd od48A0_STATE 0 ≠ 0 then
    if s1.up / 16 = s1.dbg.stotUp / 16 then
      (({ s1 with dbg := { s1.dbg with stotDue := some (s1.rd od48A0_CAUSE 0) } }.wr od48A0_STATE 0 0).wr od4C00_FLUSH_STATE 0 1).stopCopies
    else s1
  else if s1.rd od4C00_STATE 0 = 3 then s1.ledgerRecord
  else if 3 < s1.rd od4C00_STATE 0 then s1
  else (s1.wr od4C00_FLUSH_STATE 0 1).stopCopies

/-- The flush, its checkpoint and its ledger record are complete. -/
def State.flushDone (s : State) : State :=
  if s.rd od4C00_FLUSH_STATE 0 = 1 then (s.flushAll.checkpoint.ledgerRecord.wr od4C00_FLUSH_STATE 0 2).flushEnded else s

def execFlushDone (s : State) : Host.Outcome State Fault Refusal := s.flushDone.done

/-- Flush mode ends, if nothing keeps it. -/
def State.endFlush (s : State) : State :=
  if s.flushMode then s
  else ((s.wr od4C00_FLUSH_STATE 0 0).flushEnded.retryContribs).release

def State.pfwAssert (s : State) : State :=
  if s.rd od4C48_LEVEL 0 = 1 ∨ s.pins.inReset then s
  else
    let was := s.flushMode
    let (s1, broken) := s.noteEdge 0 100000000 4
    let s2 := (if broken then s1.rateHold 0 else s1).setSince 0
    let s3 := s2.wr od4C48_LEVEL 0 1
    if was then s3 else s3.startFlush

def execPfwNAssert (short : Word) (s : State) : Host.Outcome State Fault Refusal := ((s.filtered 0 short.toNat).pfwAssert).done

def State.pfwRelease (s : State) : State :=
  if s.rd od4C48_LEVEL 0 = 0 then s else (((s.wr od4C48_LEVEL 0 0).wr od4C48_STUCK 0 0).setSince 0).endFlush

def execPfwNRelease (s : State) : Host.Outcome State Fault Refusal := s.pfwRelease.done

/-! ## STOT_N and FT_PPS (R56, R446, R481, R482) -/

/-- A falling edge of STOT_N. A burst counts as one more stot event, and edges are then ignored; so are they while the input is
stuck. -/
def State.stotEdge (s : State) : State :=
  if s.pins.inReset ∨ s.pins.held.contains 1 then s.setSince 1
  else if s.rd od4C48_STUCK 1 = 1 then s.setSince 1
  else
    let (s1, broken) := s.noteEdge 1 1000000 16
    ((((if broken then s1.rateHold 1 else s1).wr od4C48_LEVEL 1 1).setSince 1)).stotEvent 1

def execStotNEdge (short : Word) (s : State) : Host.Outcome State Fault Refusal := ((s.filtered 1 short.toNat).stotEdge).done

/-- An accepted FT_PPS edge with SOURCE 3 forms a sample against the value written for it, or the last one and a second. -/
def State.ppsSample (s : State) : State :=
  if s.rd od2000_SOURCE 0 ≠ 3 then s
  else
    match (match s.time.todHeld with | some v => some v | none => s.time.ppsLast.map (· + 2 ^ 32)) with
    | none => s
    | some v =>
      ({ s with time := { s.time with todHeld := none, ppsLast := some v } }).sample ((s.ft s.timeQuad : Nat) - (v : Nat)) 0

/-- A rising edge of FT_PPS: one within 900 ms of the last accepted one breaks the rate limit, and no edge forms a sample until
the input is released. -/
def State.ppsEdge (s : State) : State :=
  if s.pins.inReset then s
  else
    let s1 := (s.wr od4C48_LEVEL 2 1).wr od4C48_STUCK 2 0
    if s1.pins.held.contains 2 then s1.setSince 2
    else if !(sparseGet [] s1.pins.edges 2).isEmpty ∧ !s1.past ((sparseGet [] s1.pins.edges 2).headD 0) 900000000 then
      (s1.rateHold 2).setSince 2
    else (({ s1 with pins := { s1.pins with edges := sparseSet [] s1.pins.edges 2 [s1.clk] } }).setSince 2).ppsSample

def execFtPpsEdge (short : Word) (s : State) : Host.Outcome State Fault Refusal := ((s.filtered 2 short.toNat).ppsEdge).done

/-! ## The configuration area and images (R363, R379, R381, R382, R486) -/

/-- The N entries by rising index: each with its elements and its bytes. -/
def nEntries : List (Ent × Nat × Nat) :=
  [(od1000_ASSET_TAG, 1, 32), (od1110_I3C_STATIC, 1, 1), (od4110_VELVET_TIMEOUT, 1, 4), (od4C00_POWER_LIMIT, 1, 4), (od4C10_DIDT, 13, 2),
   (od4C20_HOLDUP_J, 1, 4)]

/-- An entry is of class N. -/
def isN (e : Ent) : Bool := nEntries.any (fun x => x.1 == e)

/-- The copy of the configuration area that counts: the valid one with the higher sequence number. -/
def State.confCopy (s : State) : Option ConfCopy :=
  let a := s.mg.copy0
  let b := s.mg.copy1
  if a.valid ∧ (!b.valid ∨ b.seq ≤ a.seq) then some a else if b.valid then some b else none

/-- Each N entry takes the value stored for it, or its default. -/
def State.restoreN (s : State) : State :=
  match s.confCopy with
  | none => s
  | some c => nEntries.foldl (fun s x => foldState s (List.range x.2.1) (fun s i =>
      s.wr x.1 i (sparseGet (odDefault (odKey x.1 i)) c.vals (odKey x.1 i)))) s

/-- What M3 covers. -/
def State.configArea (s : State) : List Byte :=
  nEntries.flatMap (fun x => (List.range x.2.1).flatMap (fun i => toLe x.2.2 (s.rd x.1 i)))

/-- A slot holds a valid image (R379). -/
def State.slotValid (s : State) (x : FwSlot) : Bool := x.valid && x.mark != 0 && decide (s.sec.fuses ≤ x.svn)

def State.fwSlot (s : State) (k : Nat) : FwSlot := if k = 0 then s.sec.slotA else s.sec.slotB
def State.setFwSlot (s : State) (k : Nat) (x : FwSlot) : State :=
  if k = 0 then { s with sec := { s.sec with slotA := x } } else { s with sec := { s.sec with slotB := x } }

/-- Steps 2 to 4 of a protected commit (R382): a fuse, the mark, and a ledger record. -/
def State.finishCommit (s : State) (k : Nat) : State :=
  let s1 := ({ s with sec := { s.sec with fuses := s.sec.fuses + 1, fusing := false } }).setFwSlot k { s.fwSlot k with mark := 1 }
  (s1.wr od5000_ROLLBACK_FUSES 0 s1.sec.fuses).ledgerRecord

/-- A commit that power or RESET_N cut short is completed before an image is selected. -/
def State.resumeCommit (s : State) : State :=
  foldState s [0, 1] (fun s k => if (s.fwSlot k).mark = 5 then s.finishCommit k else s)

/-- The slot that counts as committed: a valid committed one, the slot that ran last first. -/
def State.committedSlot (s : State) : Nat :=
  let r := s.sec.running
  let ok := fun (k : Nat) => (s.fwSlot k).mark == 1 && s.slotValid (s.fwSlot k)
  if ok r then r else if ok (1 - r) then 1 - r else if (s.fwSlot r).mark = 1 then r else 1 - r

/-- Run the image of a slot. -/
def State.runSlot (s : State) (k fw : Nat) : State :=
  let x := s.fwSlot k
  (((({ s with sec := { s.sec with running := k, m2 := x.measure, velvet := if fw = 1 then some s.clk else none } }).wr od4110_ACTIVE_SLOT 0 k).wr
    od4110_FW_STATE 0 fw).wr od1000_FW_VERSION 0 x.version)

/-- Select an image (Table 16.2); none where no slot holds a valid one. -/
def State.selectImage (s : State) : Option State :=
  let c := s.committedSlot
  let o := 1 - c
  let x := s.fwSlot o
  let okC := (s.fwSlot c).mark == 1 && s.slotValid (s.fwSlot c)
  let okO := s.slotValid x
  if okC then
    if x.mark = 2 ∧ okO then some ((s.setFwSlot o { x with mark := 3 }).runSlot o 1)
    else if x.mark = 3 then some ((s.setFwSlot o { x with mark := 4 }).runSlot c 2)
    else some (s.runSlot c 0)
  else if okO then
    some (((s.setFwSlot o { x with mark := 1 }).runSlot o 0).emit 0 evImagePromoted 0 14 0 0 [o])
  else none

/-! ## Boot (R485, R487–R489, Table 20.8) -/

/-- The ROM holds the device until RESET_N. -/
def State.recover (s : State) : State :=
  { s with pins := { s.pins with recovery := true, xsHiZ := true } }.wr od4C40_BOOT_STAGE 0 0

/-- The first stage: N entries, ledger, an interrupted commit, the image; then the management cores. -/
def State.bootFirst (s : State) : State :=
  let s1 := s.restoreN
  let s2 := ({ s1 with sec := { s1.sec with m1 := Config.device 0x4110 0 0, m3 := shake256 s1.configArea } }.restoreLedger s1.sec.fuses
    (s1.sec.life == 0)).resumeCommit
  match s2.selectImage with
  | none => s2.recover
  | some s3 =>
    let s4 := { s3 with sec := { s3.sec with bufKey := s3.freeN + 1 } }.fresh
    let s5 := (s4.detachVolumes.recompute).wr od4C40_BOOT_STAGE 0 2
    let s6 := if 2 ≤ s5.qual 0 then s5.patrol else s5
    { s6 with flt := { s6.flt with fourDue := s6.flt.fourDue ++ (List.range 256).map (fun t => (t, CanaryWhy.boot)) } }

/-- Canaries of the boot that have not run. -/
def State.bootCanaries (s : State) : Bool :=
  s.flt.canaries.any (fun k => k.why == .boot) || s.flt.fourDue.any (fun x => x.2 == .boot)

/-- The Jiyth link is up: path J opens, and a boot that waited for it goes on. -/
def State.jiythUp (s : State) : State :=
  let s1 := (s.wr od1120_JY_STATE 0 2).wr od1120_JY_LANES 0 16
  if s1.rd od4C40_BOOT_STAGE 0 = 3 then foldState (s1.wr od4C40_BOOT_STAGE 0 4) (List.range 256) State.startPort else s1

/-- The next stage of the boot completes. It stops in recovery and, before stage 2, while PFW_N is asserted. -/
def State.bootStep (s : State) (r : BootResult) : State :=
  let st := s.rd od4C40_BOOT_STAGE 0
  if s.pins.inReset ∨ s.pins.recovery ∨ (st < 2 ∧ s.flushMode) then s
  else if st = 0 then (if r.firstStage then s.wr od4C40_BOOT_STAGE 0 1 else s.recover)
  else if st = 1 then s.bootFirst
  else if st = 2 then
    let s1 := foldState s (List.range 8) (fun s k => if r.hbms.getLsbD k then s else s.stackLost k)
    if s1.bootCanaries then s1 else s1.wr od4C40_BOOT_STAGE 0 3
  else if st = 3 then (if r.jiyth then s.jiythUp else s.wr od1120_JY_STATE 0 1)
  else if st = 4 then s.wr od4C40_BOOT_STAGE 0 5
  else s

def execBootStageAdvance (r : BootResult) (s : State) : Host.Outcome State Fault Refusal := (s.bootStep r).done

def execJiythRetrain (up : Bool) (s : State) : Host.Outcome State Fault Refusal :=
  (if s.rd od1120_JY_STATE 0 = 2 ∨ s.rd od4C40_BOOT_STAGE 0 < 3 ∨ s.pins.inReset ∨ 3 < s.rd od4C00_STATE 0 then s
   else if up then s.jiythUp else s.wr od1120_JY_STATE 0 1).done

def execJiythLinkDown (s : State) : Host.Outcome State Fault Refusal :=
  (if s.rd od1120_JY_STATE 0 = 2 then (s.wr od1120_JY_STATE 0 0).wr od1120_JY_LANES 0 0 else s).done

/-! ## Reset (R51, R362, R483, R487, R489) -/

/-- What of the object dictionary outlasts RESET_N: RESET_CAUSE, and the entries of class T. -/
def keptKey (k : Nat) : Bool :=
  let i := k / 256 % 65536
  let sub := k % 256
  i == 0x2C40 || (i == 0x2C30 && decide (2 ≤ sub)) || k == odKey od4C40_RESET_CAUSE 0

/-- What flash and fuses keep of the translation layer. -/
def Nand.keep (n : Nand) : Nand := { n with ops := [], jobs := [], reclaim := [], opens := [], openAt := none }

/-- Every field at its reset value, but what fuses, the boot flash, the shelves and the reset's own cause keep. -/
def State.resetAll (s : State) : State :=
  let r := State.reset
  { r with
    pending := s.pending, outbox := s.outbox, up := s.up, freeN := s.freeN, od := s.od.filter (fun kv => keptKey kv.1),
    time := { r.time with journal := s.time.journal, journalAt := s.clk, lastSample := s.clk, span := s.clk },
    pool := { r.pool with flash := s.pool.flash },
    coh := { r.coh with window := quadAll s.clk },
    nand := s.nand.keep,
    sec := { r.sec with life := s.sec.life, fuses := s.sec.fuses, cert := s.sec.cert, slotA := s.sec.slotA, slotB := s.sec.slotB,
                        running := s.sec.running },
    mg := { r.mg with copy0 := s.mg.copy0, copy1 := s.mg.copy1 },
    pins := { r.pins with edges := s.pins.edges.filter (fun kv => kv.1 == 3), held := s.pins.held.filter (· == 3),
                          since := s.pins.since.filter (fun kv => kv.1 == 3), bootAt := s.clk },
    dbg := { r.dbg with lastBuild := s.clk } }

/-- Reset begins, with the cause that it will report. -/
def State.enterReset (s : State) (cause : Nat) : State :=
  let s1 := s.resetAll.setSince 3
  { s1 with pins := { s1.pins with inReset := true, low := true, cause := cause, xsHiZ := true } }

/-- Reset ends, and boot starts at time 0. -/
def State.leaveReset (s : State) : State :=
  let cause := s.pins.cause
  s.resetAll.wr od4C40_RESET_CAUSE 0 cause

/-- RESET_N is recognised: more than 8 assertions within 1 s hold the device in reset. -/
def State.resetAssert (s : State) : State :=
  if s.pins.low then s
  else
    let (s1, broken) := s.noteEdge 3 1000000000 8
    let was := s1.pins.held.contains 3
    let s2 := s1.enterReset (if broken ∨ was then 2 else 1)
    if broken ∧ !was then { s2 with pins := { s2.pins with held := s2.pins.held ++ [3] } } else s2

def execResetNAssert (s : State) : Host.Outcome State Fault Refusal := s.resetAssert.done

/-- RESET_N is deasserted: the device leaves reset, unless the rate limit holds it. -/
def State.resetRelease (s : State) : State :=
  if !s.pins.low then s
  else
    let s1 := ({ s with pins := { s.pins with low := false } }).setSince 3
    if s1.pins.held.contains 3 then s1 else s1.leaveReset

def execResetNRelease (s : State) : Host.Outcome State Fault Refusal := s.resetRelease.done

def execVddAonUndervoltage (s : State) : Host.Outcome State Fault Refusal := (s.enterReset 4).done

/-- Another rail is below 90 % of its set point. -/
def execRailUndervoltage (rail : Fin 13) (s : State) : Host.Outcome State Fault Refusal :=
  (if s.pins.inReset then s
   else
     let e := Config.unlistedEvent 6
     (s.emitAs 0 3 e 0 14 0 0 [rail.val]).enterIsolation 0 e 7).done

/-! ## Stuck inputs and the end of a rate hold (R481) -/

/-- Stuck timeout of an input in ns. -/
def stuckNs (k : Nat) : Nat := if k = 0 then 10000000000 else if k = 1 then 1000000000 else if k = 2 then 1100000000 else 60000000000

/-- An input is declared stuck. -/
def State.inputStuck (s : State) (k : Nat) : State :=
  if !s.past (s.levelSince k) (stuckNs k) then s
  else if k = 3 then (if s.pins.low then { s with pins := { s.pins with cause := if s.pins.cause = 4 then 4 else 3 } } else s)
  else if s.rd od4C48_LEVEL k = 0 ∨ s.rd od4C48_STUCK k = 1 ∨ (k = 1 ∧ s.stotDriven) then s
  else
    let s1 := (s.wr od4C48_STUCK k 1).wr od4C48_STUCK_TIME k (s.ft 0)
    if k = 0 then s1.flushDone.release else s1

def execInputStuck (pin : Fin 4) (s : State) : Host.Outcome State Fault Refusal := (s.inputStuck pin.val).done

/-- Release time of an input in ns. -/
def releaseNs (k : Nat) : Nat := if k = 0 then 100000000 else if k = 1 then 10000000 else if k = 2 then 900000000 else 1000000000

/-- An input has stayed deasserted for its release time. -/
def State.rateRelease (s : State) (k : Nat) : State :=
  if !s.past (s.levelSince k) (releaseNs k) then s
  else if k = 0 then (if s.pins.held.contains 0 ∧ s.rd od4C48_LEVEL 0 = 0 then (s.rateFree 0).endFlush else s)
  else if k = 3 then (if s.pins.held.contains 3 ∧ !s.pins.low then (s.rateFree 3).leaveReset else s)
  else ((s.rateFree k).wr od4C48_LEVEL k 0).wr od4C48_STUCK k 0

def execRateHoldRelease (pin : Fin 4) (s : State) : Host.Outcome State Fault Refusal := (s.rateRelease pin.val).done

end Sys2Proof.Machine
end

