-- ==== Sys2Proof/Machine/Security.lean ====
section
/-! DEFINITION. Installing and committing images, attestation, keys and the lifecycle (R376–R398). -/

namespace Sys2Proof.Machine

/-- The number of a path: 0 J, 1 B, 2 F. -/
def pathIx : OdPath → Nat
  | .j => 0
  | .b => 1
  | .f => 2

/-! ## Installing (R379, R380) -/

/-- MAGIC of an image (Table 16.1). -/
def imageMagic : Nat := 0xA91F0001

/-- The staged image is valid (R379): the slot holds a body of 32 MiB. -/
def State.imageValid (s : State) (i : StagedImage) : Bool :=
  i.magic == imageMagic && decide (i.length ≤ 33554432) && i.digestOk && i.signed && decide (s.sec.fuses ≤ i.svn.toNat)

/-- A write to INSTALL: an image that fails verification is not written. -/
def State.installWrite (s : State) (i : StagedImage) : Nat × State :=
  if s.sec.install.isSome then (abInUse, s)
  else if !s.imageValid i then (abOk, s.wr od4110_INSTALL_RESULT 0 abDenied)
  else
    let k := 1 - s.sec.running
    let x : FwSlot := ⟨2, false, i.version.toNat, i.svn.toNat, i.measure⟩
    (abOk, ({ s with sec := { s.sec with install := some i } }).setFwSlot k x)

/-- The slot is written, or its programming failed. -/
def State.installEnd (s : State) (programmed : Bool) : State :=
  if s.sec.install.isNone then s
  else
    let k := 1 - s.sec.running
    let s1 := ({ s with sec := { s.sec with install := none } }).setFwSlot k { s.fwSlot k with valid := programmed }
    s1.wr od4110_INSTALL_RESULT 0 (if programmed then abOk else abStorage)

def execInstallDone (programmed : Bool) (s : State) : Host.Outcome State Fault Refusal := (s.installEnd programmed).done

/-- The image at STAGE_ADDR as the A9 reads it where no command says what it found: the header as a local extent of herd
0x000 holds it, with DIGEST, signature and measurement open. -/
def State.stagedImage (s : State) : StagedImage :=
  let a := s.rd od4110_STAGE_ADDR 0
  let ws := match s.extCheck 0 a 80 with
    | some e => if (s.extSlice e).isSome then wordsOf 2 (s.readPool e (a - s.extBase e) 16) else [0, 0]
    | none => [0, 0]
  let h0 := ws.getD 0 0
  let h1 := ws.getD 1 0
  { magic := bitsOf h0 63 32, version := BitVec.ofNat 32 h0, svn := BitVec.ofNat 8 (bitsOf h1 63 56), length := bitsOf h1 31 0,
    digestOk := Config.imageCheck 0 s.freeN % 2 == 1, signed := Config.imageCheck 1 s.freeN % 2 == 1,
    measure := Config.imageCheck 2 s.freeN }

/-! ## Committing (R382, R383) -/

/-- A write to COMMIT: 1 plain, 2 rollback-protected. -/
def State.commitWrite (s : State) (v : Nat) : Nat × State :=
  let k := s.sec.running
  if s.sec.install.isSome ∨ s.sec.velvet.isNone then (abInUse, s)
  else if v = 1 then
    (abOk, (((({ s with sec := { s.sec with velvet := none } }).setFwSlot k { s.fwSlot k with mark := 1 }).setFwSlot (1 - k)
      ⟨0, false, 0, 0, 0⟩).wr od4110_FW_STATE 0 0))
  else if (s.fwSlot k).svn ≤ s.sec.fuses ∨ 64 ≤ s.sec.fuses then (abRange, s)
  else if s.rd od4C48_LEVEL 0 = 1 then (abInUse, s)
  else (abOk, ({ s with sec := { s.sec with velvet := none, fusing := true } }).setFwSlot k { s.fwSlot k with mark := 5 })

/-- The fuse of a protected commit is blown. -/
def State.fuseBlown (s : State) : State :=
  if s.sec.fusing then (s.finishCommit s.sec.running).wr od4110_FW_STATE 0 0 else s

def execFuseBlowDone (s : State) : Host.Outcome State Fault Refusal := s.fuseBlown.done

/-- VELVET_TIMEOUT expires before a commit. -/
def State.velvetExpiry (s : State) : State :=
  match s.sec.velvet with
  | none => s
  | some t =>
    if s.past t (s.rd od4110_VELVET_TIMEOUT 0 * 1000000000) then
      let k := s.sec.running
      (((({ s with sec := { s.sec with velvet := none } }).setFwSlot k { s.fwSlot k with mark := 3 }).wr od4110_FW_STATE 0 2).emit 0
        evVelvetExpired 0 14 0 0 [k])
    else s

def execVelvetTimeoutExpiry (s : State) : Host.Outcome State Fault Refusal := s.velvetExpiry.done

/-! ## Attestation (R384, R385) -/

def State.attest (s : State) (x : Nat) : Attest := if x = 0 then s.sec.attJ else if x = 1 then s.sec.attB else s.sec.attF
def State.setAttest (s : State) (x : Nat) (a : Attest) : State :=
  if x = 0 then { s with sec := { s.sec with attJ := a } }
  else if x = 1 then { s with sec := { s.sec with attB := a } }
  else { s with sec := { s.sec with attF := a } }

/-- The eight words of a 64-B value. -/
def words8 (v : Nat) : List Nat := (List.range 8).map (fun i => v / 2 ^ (64 * i) % 2 ^ 64)

/-- Words W0 to W4 of a report (Table 16.3). -/
def State.reportHead (s : State) (x : Nat) : List Nat :=
  let subject := s.rd od4130_SUBJECT x
  let some_ := decide (subject ≠ 0xFFFF)
  [0xA9A70001 * 2 ^ 32 + 1 * 2 ^ 16 + 1024,
   s.sec.life * 2 ^ 56 + s.rd od4100_DEBUG_LEVEL 0 * 2 ^ 48 + s.rd od4100_DEBUG_EFFECTIVE 0 * 2 ^ 40 + s.rd od4C00_STATE 0 * 2 ^ 32 +
     s.rd od4110_FW_STATE 0 * 2 ^ 24 + s.sec.fuses * 2 ^ 16 + s.rd od5000_LEDGER_BROKEN 0 % 2 * 2 ^ 8 + (s.fwSlot s.sec.running).svn,
   s.ft 0,
   s.qual 0 * 2 ^ 48 + s.rd od1000_FW_VERSION 0,
   subject * 2 ^ 48 + (if some_ then s.rd od2800_LEVEL subject * 2 ^ 40 + s.herdState subject * 2 ^ 32 else 0)]

/-- The 128 words of a report's body (Table 16.3). -/
def State.reportBody (s : State) (x : Nat) : List Nat :=
  let subject := s.rd od4130_SUBJECT x
  s.reportHead x ++ words8 (s.rd od4130_NONCE x) ++ words8 (s.rd od1000_DEVICE_ID 0) ++ words8 (Config.device 0x4130 0 0) ++
  words8 s.sec.m1 ++ words8 s.sec.m2 ++ words8 s.sec.m3 ++ words8 s.deviceConfig ++
  words8 (if subject = 0xFFFF then 0 else s.configDigest subject) ++ words8 (Config.device 0x4104 0 0) ++ List.replicate 51 0

/-- A write to GENERATE on the path of element x. -/
def State.generateWrite (s : State) (x : Nat) : Nat × State :=
  if s.rd od4100_DEBUG_EFFECTIVE 0 = 3 then (abDenied, s)
  else if s.rd od4130_STATE x = 1 then (abInUse, s)
  else (abOk, (s.setAttest x ⟨some s.clk, s.reportBody x⟩).wr od4130_STATE x 1)

/-- A report is ready: its body, its signature padded to 1,280 B, and zeros. A private key is derived at no time while the
effective debug level is 3, so the signature then waits (R399). -/
def State.reportDone (s : State) (x : Nat) : State :=
  if s.rd od4130_STATE x ≠ 1 ∨ s.rd od4100_DEBUG_EFFECTIVE 0 = 3 then s
  else
    let body := leNat (bytesOfWords (s.attest x).body)
    let sig := Config.falcon s.freeN body % 2 ^ 10240
    ((((s.fresh.setAttest x ⟨none, (s.attest x).body⟩).wr od4138_REPORT (3 * x) body).wr od4138_REPORT (3 * x + 1) (sig % 2 ^ 8192)).wr
      od4138_REPORT (3 * x + 2) (sig / 2 ^ 8192)).wr od4130_STATE x 2

def execReportReady (path : OdPath) (s : State) : Host.Outcome State Fault Refusal := (s.reportDone (pathIx path)).done

/-! ## Keys (R387, R388, R393) -/

/-- A write to KEY_LOAD. -/
def State.keyWrite (s : State) (n : Nat) : Nat × State :=
  let k := Config.unwrap 1 n (s.rd od4140_KEY_CT0 n) (s.rd od4140_KEY_CT1 n)
  if s.herdState n ≠ 1 ∨ !s.sealedHerd n ∨ s.rd od2800_KEY_STATE n = 1 ∨ k = 0 ∨ s.sec.life = 0 ∨ s.sec.life = 3 ∨
      s.rd od4100_DEBUG_LEVEL 0 = 3 ∨ 1024 ≤ s.sec.keys.length then (abDenied, s)
  else (abOk, ({ s with sec := { s.sec with keys := sparseSet 0 s.sec.keys n k } }).wr od2800_KEY_STATE n 1)

/-- A write to LINK_LOAD: the counters start at 0 with the new key. No private key is derived at an effective debug level
of 3 (R399). -/
def State.linkKeyWrite (s : State) (p : Nat) : Nat × State :=
  let k := Config.unwrap 2 p (s.rd od4150_LINK_CT0 p) (s.rd od4150_LINK_CT1 p)
  if k = 0 ∨ s.rd od4100_DEBUG_EFFECTIVE 0 = 3 then (abDenied, s)
  else (abOk, { s with sec := { s.sec with linkKeys := sparseSet 0 s.sec.linkKeys p k, linkTx := sparseSet 0 s.sec.linkTx p 0 } })

/-! ## Lifecycle (R396) -/

/-- A herd other than 0x000 is ACTIVE or CLOSING. -/
def State.tenantsLive (s : State) : Bool :=
  (odListed s.od od2800_STATE).any (fun kv => kv.1 != 0 && (kv.2 == 2 || kv.2 == 3))

def State.setLife (s : State) (v : Nat) : State := { s with sec := { s.sec with life := v } }

/-- A write to ADVANCE. -/
def State.advanceWrite (s : State) (path : OdPath) (v : Nat) : Nat × State :=
  let l := s.sec.life
  if !((v == 1 && l == 0) || (v == 2 && l == 1) || (v == 3 && (l == 1 || l == 2))) then (abRange, s)
  else if v = 1 ∨ path = .f ∨ (v = 2 ∧ path ≠ .j) then (abDenied, s)
  else if v = 2 then
    if 2 ≤ s.rd od4100_DEBUG_LEVEL 0 then (abInUse, s) else (abOk, (s.setLife 2).setDebug)
  else if s.tenantsLive then (abInUse, s)
  else (abOk, ((s.sec.keys.map (·.1)).foldl (fun s n => s.zeroizeKey n) (s.setLife 3)).setDebug)

/-- BLANK to PROVISIONED, which only the vendor test range writes. -/
def State.provisionWrite (s : State) : Nat × State :=
  if s.sec.life = 2 then (abLocked, s)
  else if s.sec.life ≠ 0 then (abRange, s)
  else if !s.sec.cert then (abInUse, s)
  else (abOk, (s.setLife 1).setDebug)

/-! ## Debug levels (R398) -/

/-- A write to DEBUG_LEVEL. -/
def State.debugWrite (s : State) (v : Nat) : Nat × State :=
  if s.debugCap 0 < v then (abDenied, s) else (abOk, (s.wr od4100_DEBUG_LEVEL 0 v).setDebug)

end Sys2Proof.Machine
end

