-- ==== Sys2Proof/Machine/OdOps.lean ====
section
/-! DEFINITION. The object dictionary: the checks of an access in the order of R364, and what a read returns (chapter 15). -/

namespace Sys2Proof.Machine

/-! ## Entries -/

/-- The entry that an index and a subindex name; subindex 0 is COUNT, which any path that may read a subindex may read (R359). -/
def odFind (index sub : Nat) : Option OdRow :=
  if sub = 0 then
    match (odObject index).getLast? with
    | none => none
    | some l =>
      let rd := (odObject index).foldl (fun m r => m ||| r.rd) 0
      some ⟨⟨index, 0⟩, .u8, 1, .const, if 8 ≤ rd then 7 else rd, 0, [], l.elems⟩
  else odRow index sub

/-- The access mode of an element of an entry: some elements are CONST (R31, R299, R358). -/
def odMode (r : OdRow) (elem : Nat) : OdAcc :=
  if r.ent.index = 0x2800 ∧ (elem = 0 ∨ elem = 0xFFF) then .const
  else if r.ent.index = 0x2400 ∧ 1 ≤ r.ent.sub ∧ r.ent.sub ≤ 4 ∧ elem ≤ 2047 then .const
  else r.acc

/-- The mode permits reads, and writes. -/
def OdAcc.reads : OdAcc → Bool
  | .wo | .woIdle => false
  | _ => true
def OdAcc.writes : OdAcc → Bool
  | .ro | .const => false
  | _ => true
/-- The mode has an idle condition. -/
def OdAcc.idles : OdAcc → Bool
  | .rwIdle | .woIdle => true
  | _ => false

/-- An element exists (R364, step 2): the abort code. -/
def odElem (r : OdRow) (elem : Nat) : Nat :=
  match r.elems with
  | none => if elem = 0 then abOk else abNoObject
  | some n => if n ≤ elem ∨ ((r.ent.index = 0x2830 ∨ r.ent.index = 0x4408) ∧ (elem = 0 ∨ elem = 0xFFF)) then abNoElement else abOk

/-! ## Rights (R364, step 3) -/

/-- The attestation element of a path (R384): J 0, B 1, F 2; a report has three pieces. -/
def ownElem (index elem : Nat) (p : OdPath) : Bool := if index = 0x4138 then elem / 3 == pathIx p else elem == pathIx p

/-- A path has a right. -/
def mayPath (mask index elem : Nat) (p : OdPath) : Bool := bitAt mask (pathIx p) || (bitAt mask 3 && ownElem index elem p)

/-- A read on path B that "B read unless sealed" bars. -/
def State.barB (s : State) (index sub elem : Nat) : Bool :=
  (index == 0x2400 && decide (0x0A ≤ sub ∧ sub ≤ 0x0E) &&
    s.sealedHerd (if 2 ≤ s.rd od2400_TYPE elem then s.rd od3410_HERD elem else s.rd od2400_HERD elem)) ||
  (index == 0x4810 && sub == 7 && s.sealedHerd (s.rd od4810_HERD elem)) ||
  (index == 0x4820 && sub == 3 && s.sealedHerd (s.extHerd (s.rd od4820_G_EXTENT 0)))

/-! ## Lengths and ranges (R360, steps 5 and 6) -/

/-- A value of this many bytes may be written. -/
def odLengthOk (r : OdRow) (n : Nat) : Bool := if r.ty = .str then decide (1 ≤ n ∧ n ≤ r.width) else n == r.width

/-- Printable ASCII, then zeros. -/
def stringOk (bs : List Byte) : Bool :=
  (bs.dropWhile (fun b => decide (0x20 ≤ b.toNat ∧ b.toNat ≤ 0x7E))).all (· == 0)

def inSpans (spans : List (Nat × Nat × Nat)) (v : Nat) : Bool :=
  spans.any (fun x => decide (x.1 ≤ v ∧ v ≤ x.2.1) && (v - x.1) % x.2.2 == 0)

/-- Reserved bits of a value with fields are 0, and bounds that follow other entries hold (Tables 12.3, 13.4, 13.6, 14.8). -/
def State.fieldsOk (s : State) (index sub elem v : Nat) : Bool :=
  if index = 0x2130 then bitsOf v 62 8 == 0 && (List.range 8).all (fun i => !bitAt v (64 * (1 + i / 4) + 14 + 48 - 16 * (i % 4)))
  else if index = 0x2460 then bitsOf v 54 32 == 0 && (v % 2 ^ 32 == 0 || decide (32 ≤ v % 2 ^ 32 ∧ v % 2 ^ 32 ≤ 1000000000))
  else if index = 0x2118 ∧ sub = 3 then (if s.isCxl elem then decide (4 ≤ v) else decide (v ≤ 8))
  else if index = 0x2100 ∧ sub = 7 then decide (v < s.rd od2100_SUPPRESS 0)
  else if index = 0x2100 ∧ sub = 8 then decide (s.rd od2100_SUPPRESS 0 < v)
  else if index = 0x2C20 ∧ sub = 3 then decide (v < s.rd od2C20_GC_START 0)
  else true

/-- A value passes the range check of Table 15.2. -/
def State.odRange (s : State) (r : OdRow) (elem : Nat) (value : List Byte) : Bool :=
  if r.ty = .str then stringOk value
  else inSpans r.spans (leNat value) && s.fieldsOk r.ent.index r.ent.sub elem (leNat value)

/-! ## Idle conditions (R361, step 7) -/

/-- A context has STATE 0. -/
def State.ctxIdle (s : State) (c : Nat) : Bool := s.rd od3800_STATE c == 0

/-- Every context of a quadrant has STATE 0. -/
def State.ctxsIdle (s : State) (q : Nat) : Bool := !((odListed s.od od3800_STATE).any (fun kv => ctxQuad kv.1 == q && kv.2 != 0))

/-- A queue holds no frame, and no running ring. -/
def State.queueIdle (s : State) (q : Nat) : Bool :=
  !s.sw.tx.any (fun f => f.queue == q) && (decide (s.rd od2400_TYPE q < 2) || s.rd od3410_STATE q == 0)

/-- The idle condition of an entry with one. -/
def State.odIdle (s : State) (index sub elem : Nat) : Bool :=
  if index = 0x2010 then !s.slotArmed elem
  else if index = 0x2110 then [0, 1, 2, 3].all (fun k => s.rd od2810_ROLE (4 * elem + k) == 0)
  else if index = 0x2118 then decide (s.rd od2118_STATE elem ≤ 1)
  else if index = 0x2310 ∨ index = 0x2470 ∨ index = 0x2800 ∨ index = 0x2830 ∨ index = 0x3030 ∨ index = 0x4408 then
    decide (s.herdState elem ≤ 1)
  else if index = 0x2320 then s.rd od2320_STATE elem == 0
  else if index = 0x2400 then s.queueIdle elem
  else if index = 0x2810 then (if h : elem < 256 then s.portOutstanding ⟨elem, h⟩ == 0 else true)
  else if index = 0x2820 then s.extState elem == 0
  else if index = 0x3010 then s.rd od3010_STATE elem != 1
  else if index = 0x3410 then s.rd od3410_STATE elem == 0
  else if index = 0x3800 ∨ index = 0x3820 then s.ctxIdle elem
  else if index = 0x3810 then s.ctxIdle (s.rd od3810_CONTEXT elem)
  else if index = 0x3840 then s.ctxsIdle (sub - 1)
  else if index = 0x4010 then s.rd od4010_STATE elem == 0
  else if index = 0x4150 then s.rd od2118_STATE elem != 3
  else if index = 0x4810 then s.rd od4810_STATE elem == 0
  else if index = 0x4880 ∧ sub = 3 then s.rd od4880_STATE 0 == 0
  else if index = 0x4890 then s.rd od4890_STATE elem == 0
  else if index = 0x4C08 then s.pwr.trans.isNone
  else s.noHerdActive

/-! ## The checks in their order (R364) -/

def Access.index (a : Access) : Nat := a.addr.index.toNat
def Access.sub (a : Access) : Nat := a.addr.sub.toNat
def Access.elem (a : Access) : Nat := a.addr.elem.toNat

/-- Steps 3 to 7 for an entry and an element that exist. -/
def State.odGuard (s : State) (a : Access) (r : OdRow) : Nat :=
  let m := odMode r a.elem
  let right := if a.write then (if m.writes then r.wr else r.rd) else (if m.reads then r.rd else r.wr)
  if !mayPath right a.index a.elem a.path then abDenied
  else if !a.write && a.path == .b && s.barB a.index a.sub a.elem then abDenied
  else if a.write && !m.writes then abReadOnly
  else if !a.write && !m.reads then abWriteOnly
  else if !a.write then abOk
  else if !odLengthOk r a.value.length then abLength
  else if !s.odRange r a.elem a.value then abRange
  else if m.idles && !s.odIdle a.index a.sub a.elem then abInUse
  else abOk

/-- Steps 1 to 7: the abort code of the first that fails, or the entry. The vendor test range defines no index (R372). -/
def State.odCheck (s : State) (a : Access) : Nat ⊕ OdRow :=
  if 0xA000 ≤ a.index ∧ s.sec.life = 2 then .inl abLocked
  else
    match odFind a.index a.sub with
    | none => .inl abNoObject
    | some r =>
      if odElem r a.elem ≠ abOk then .inl (odElem r a.elem)
      else if s.odGuard a r ≠ abOk then .inl (s.odGuard a r)
      else .inr r

/-! ## Reads -/

/-- A granule descriptor as OD 4820.03 reads it (Table 4.5, R439). -/
def State.descriptor (s : State) : Nat × Nat :=
  let e := s.rd od4820_G_EXTENT 0
  let g := s.rd od4820_G_GRANULE 0
  if s.extState e = 0 ∨ (s.extSlice e).isNone ∨ s.extGranules e ≤ g then (abRange, 0)
  else
    let d := s.gran e g
    let b := fun (c : Bool) => if c then 1 else 0
    (abOk, d.tier * 2 ^ 62 + b d.cached * 2 ^ 61 + b d.moving * 2 ^ 60 + d.frame % 2 ^ 18 * 2 ^ 32 + d.zmask.toNat +
      (d.dirty.toNat * 2 ^ 32 + d.loc % 2 ^ 32) * 2 ^ 64)

/-- The value of an entry that the A9 works out when it is read; none where the state holds it. -/
def State.odLive (s : State) (index sub elem : Nat) : Option Nat :=
  if index = 0x2000 ∧ sub = 3 then some (s.ft 0)
  else if index = 0x2000 ∧ sub = 4 then some (s.qual s.timeQuad)
  else if index = 0x2021 then some (leNat s.utc)
  else if index = 0x2118 ∧ sub = 7 then some (s.penalty elem)
  else if index = 0x2400 ∧ sub = 0x0A then some (s.queueCells elem)
  else if index = 0x2400 ∧ sub = 0x0B then some (unsigned 32 (s.creditBytes elem))
  else if index = 0x2440 ∧ sub = 4 then (if h : elem < 256 then some (s.portOutstanding ⟨elem, h⟩) else none)
  else if index = 0x2800 ∧ sub = 5 then some (s.configDigest elem)
  else if index = 0x2C00 ∧ 1 ≤ sub ∧ sub ≤ 3 then some (s.reservable sub)
  else if index = 0x2C00 ∧ 7 ≤ sub ∧ sub ≤ 9 then some (s.freeCap (sub - 6))
  else if index = 0x4100 ∧ sub = 1 then some s.sec.life
  else if index = 0x4110 ∧ sub = 9 then some (64 - s.sec.fuses)
  else if index = 0x4420 then some (s.capacity sub)
  else if index = 0x4430 ∧ sub = 2 then some s.flt.log.length
  else if index = 0x4800 then some (s.counter elem)
  else if index = 0x4810 ∧ sub = 7 then some (if s.rd od4810_STATE elem = 1 then leNat (s.profRecord elem 4 0) else 0)
  else if index = 0x4880 ∧ sub = 5 then some (Config.device index sub 0)
  else if index = 0x48A8 then some (if s.rd od48A0_STATE 0 = 3 then leNat (s.dumpBlock elem) else 0)
  else if index = 0x48B8 then some (leNat ((s.graphBytes.drop (1024 * elem)).take 1024))
  else if index = 0x4C08 ∧ sub = 4 then some (s.vddTine elem)
  else if index = 0x4C48 ∧ sub = 1 ∧ elem = 1 then some (if s.stotDriven then 1 else s.rd od4C48_LEVEL 1)
  else none

/-- What a read of an entry returns before it is cut to the room for it, with the state after it: a read of LOG_NEXT takes the
record out of the log (R405). -/
def State.odValue (s : State) (r : OdRow) (index sub elem : Nat) : Nat × List Byte × State :=
  if sub = 0 then (abOk, [BitVec.ofNat 8 ((((odObject index).getLast?).map (·.ent.sub)).getD 0)], s)
  else if index = 0x4430 ∧ sub = 1 then let x := s.logNext; (abOk, x.1, x.2)
  else
    let (c, v) :=
      if index = 0x4020 then s.entryRead elem
      else if index = 0x4820 ∧ sub = 3 then s.descriptor
      else (abOk, (s.odLive index sub elem).getD (s.rd ⟨index, sub⟩ elem))
    if c = abOk then (abOk, toLe r.width v, s) else (c, [], s)

/-- A read: a value longer than the room for it is cut, with LENGTH_MISMATCH and no other effect (R79, R369). -/
def State.odRead (s : State) (r : OdRow) (a : Access) : Nat × List Byte × State :=
  let x := s.odValue r a.index a.sub a.elem
  if x.1 ≠ abOk then (x.1, [], s)
  else if a.space < x.2.1.length then (abLength, x.2.1.take a.space, s)
  else x

end Sys2Proof.Machine
end

