-- ==== Sys2Proof/Machine/OdApply.lean ====
section
/-! DEFINITION. Writes of the object dictionary: the conditions that entries state for themselves (R364, step 8) and what a
write does beside the new value (R366). Each answers an abort code and the state after the write. -/

namespace Sys2Proof.Machine

/-- Store the value. -/
def State.plainWrite (s : State) (e : Ent) (n v : Nat) : Nat × State := (abOk, s.wr e n v)

/-- Store the value if a condition holds. -/
def State.writeIf (s : State) (ok : Bool) (code : Nat) (e : Ent) (n v : Nat) : Nat × State :=
  if ok then (abOk, s.wr e n v) else (code, s)

/-- Let what waits at the homes go on. -/
def thenRelease (x : Nat × State) : Nat × State := (x.1, x.2.release)

/-! ## Time and triggers (chapter 2) -/

def State.applyTime (s : State) (sub v : Nat) : Nat × State :=
  if sub = 1 then s.sourceEntry false v
  else if sub = 2 then s.sourceEntry true v
  else if sub = 5 then s.todWrite v
  else if sub = 0x0C then s.allowStepWrite
  else if sub = 0x0F then s.ptpWrite v
  else s.plainWrite ⟨0x2000, sub⟩ 0 v

/-! ## Ports and routes (chapter 13) -/

/-- Octets whose MODE may be 7 (R321). -/
def wideOctet (o : Nat) : Bool := decide (o ≤ 3) || decide (8 ≤ o ∧ o ≤ 11)

/-- An octet may take a mode (R321). -/
def State.modeOk (s : State) (o v : Nat) : Bool :=
  !(v == 6 && decide (16 ≤ o)) && !(v == 7 && (!wideOctet o || s.rd od2110_MODE (o + 4) != 0)) &&
  !(decide (4 ≤ o) && wideOctet (o - 4) && s.rd od2110_MODE (o - 4) == 7)

/-- A port of an octet takes the new mode: what ran over it goes down, and it is present with no training, or absent. -/
def State.reformPort (s : State) (p : PortId) : State :=
  let s1 := if s.rd od2118_STATE p.val = 3 then s.downEvent p (fun s => s) else s
  ((s1.wr od2118_STATE p.val (if (s1.portLanes p.val).isSome then 1 else 0)).wr od2118_WIDTH p.val 0).setTraining p.val trainNew

/-- A write to MODE. -/
def State.modeWrite (s : State) (o v : Nat) : Nat × State :=
  if !s.modeOk o v then (abRange, s)
  else if s.rd od2110_MODE o = v then (abOk, s)
  else
    let ports := (List.finRange 256).filter (fun p => portOctet p.val == o)
    (abOk, (ports.foldl State.reformPort (s.wr od2110_MODE o v)).moveRoutes.resend)

/-- A write to a port's ROLE: a port with a role starts to train. A CXL port has role tray (R321). -/
def State.roleWrite (s : State) (p v : Nat) : Nat × State :=
  if v ≠ 0 ∧ ((s.portLanes p).isNone ∨ (s.isCxl p ∧ v ≠ 3)) then (abRange, s)
  else (abOk, ((s.wr od2810_ROLE p v).startPort p).moveRoutes.resend)

def State.applyBinding (s : State) (path : OdPath) (sub p v : Nat) : Nat × State :=
  if sub = 1 then s.roleWrite p v
  else if sub = 3 then s.writeIf (v != 0 || path == .j) abDenied od2810_HERD p v
  else s.plainWrite ⟨0x2810, sub⟩ p v

def State.applyPort (s : State) (sub p v : Nat) : Nat × State :=
  if sub = 5 then (if h : p < 256 then (abOk, s.retrainWrite ⟨p, h⟩) else (abOk, s)) else s.plainWrite ⟨0x2118, sub⟩ p v

/-- A write to a slot of a route entry: the lowest-numbered usable slot is taken from then on (R334). -/
def State.routeWrite (s : State) (sub d v : Nat) : Nat × State := (abOk, ((s.wr ⟨0x2130, sub⟩ d v).preferRoute d).resend)

/-! ## The timeout chain (R90) -/

/-- Entries 3, 4 and 5 of Table 3.10 are each greater than the entry before. -/
def State.chainOk (s : State) : Bool :=
  decide (s.rd od2200_LOAD_TIMEOUT 0 < s.rd od2840_REVOKE_TIMEOUT 0) &&
  decide (s.rd od2840_REVOKE_TIMEOUT 0 < s.rd od3C20_HANDOFF_TIMEOUT 0) &&
  decide (s.rd od3C20_HANDOFF_TIMEOUT 0 < s.rd od2840_COMPOSITION_DEADLINE 0)

def State.chainWrite (s : State) (e : Ent) (v : Nat) : Nat × State :=
  if (s.wr e 0 v).chainOk then (abOk, s.wr e 0 v) else (abRange, s)

/-! ## The switch core and queues (chapters 11 and 12) -/

/-- RESP_RESERVE and all BUF_RESERVE values fit (R294). -/
def State.buffersOk (s : State) : Bool :=
  decide (s.rd od2300_RESP_RESERVE 0 + (odListed s.od od2310_BUF_RESERVE).foldl (fun a kv => a + kv.2) 0 ≤ 65536)

def State.applySwitch (s : State) (sub v : Nat) : Nat × State :=
  if sub = 3 then s.writeIf (s.wr od2300_RESP_RESERVE 0 v).buffersOk abRange od2300_RESP_RESERVE 0 v
  else s.plainWrite ⟨0x2300, sub⟩ 0 v

def State.applyBufHerd (s : State) (sub n v : Nat) : Nat × State :=
  if sub = 1 then
    s.writeIf (!(v != 0 && s.openHerd n) && (s.wr od2310_BUF_RESERVE n v).buffersOk) abRange od2310_BUF_RESERVE n v
  else s.plainWrite ⟨0x2310, sub⟩ n v

/-- A write of 1 to a multicast group's STATE (R293). -/
def State.groupWrite (s : State) (g v : Nat) : Nat × State :=
  let ok := (List.range 256).all (fun p => !bitAt (s.rd od2320_PORTS g) p || s.rd od2810_ROLE p == 2 ||
    (s.rd od2810_ROLE p == 1 && s.rd od2810_HERD p == s.rd od2320_HERD g))
  s.writeIf (v == 0 || ok) abDenied od2320_STATE g v

/-- The transmit queues other than the default ones. -/
def State.ownQueues (s : State) : List Nat := ((odListed s.od od2400_TYPE).filter (fun kv => kv.2 == 1 && decide (2048 ≤ kv.1))).map (·.1)

/-- The queue rules of R313 for a time-gated herd. -/
def State.gatedQueuesOk (s : State) (n : Nat) : Bool :=
  let c := s.rd od2470_TG_CLASS n
  let mine := s.ownQueues.filter (fun q => s.rd od2400_HERD q == n)
  mine.all (fun q => s.rd od2400_CLASS q == c &&
    s.ownQueues.all (fun x => s.rd od2400_HERD x == n || s.rd od2400_CLASS x != c || s.rd od2400_PORT x != s.rd od2400_PORT q))

/-- The queue rules of R313. -/
def State.queueRules (s : State) : Bool :=
  (((odListed s.od od2800_TIME_GATED).map (·.1)).filter s.timeGated).all s.gatedQueuesOk

def State.applyQueue (s : State) (sub q v : Nat) : Nat × State :=
  if sub ≤ 4 then s.writeIf (s.wr ⟨0x2400, sub⟩ q v).queueRules abDenied ⟨0x2400, sub⟩ q v
  else if sub = 0x0F then (abOk, s.clearHist q)
  else if sub = 6 then (abOk, (if v = 1 then s.setShaper q 0 s.up else s).wr od2400_SHAPED q v)
  else if 7 ≤ sub then (abOk, (s.freezeShaper q).wr ⟨0x2400, sub⟩ q v)
  else s.plainWrite ⟨0x2400, sub⟩ q v

/-- A write to CLASS_SET names an active set of herd 0x000, or none (R319). -/
def State.applyTm (s : State) (sub v : Nat) : Nat × State :=
  if sub = 1 then s.writeIf (v == 0xFFFF || (s.rd od4010_STATE v == 1 && s.rd od4010_HERD v == 0)) abRange od2408_CLASS_SET 0 v
  else if sub = 2 then (abOk, s.periodWrite v)
  else s.plainWrite ⟨0x2408, sub⟩ 0 v

/-- A write to a port's limits: the bucket fills at the old rate up to now, and keeps what it holds when its size changes
(R316). -/
def State.applyLimits (s : State) (sub p v : Nat) : Nat × State :=
  if h : p < 256 then
    let debt := s.tokenDebt ⟨p, h⟩
    let kept := if sub = 2 then v * tokenUnit - (s.rd od2440_BUCKET p * tokenUnit - debt) else debt
    let s1 := { s with tm := { s.tm with bucket := sparseSet (0, 0) s.tm.bucket p (kept, s.up) } }
    s1.plainWrite ⟨0x2440, sub⟩ p v
  else (abOk, s)

def State.applyGate (s : State) (sub p v : Nat) : Nat × State :=
  if sub = 1 then (if v = 1 then s.gateStartWrite p else (abOk, s.gateStopWrite p)) else s.plainWrite ⟨0x2450, sub⟩ p v

/-- A write to a gate control entry, unless it lies in the segment that runs (R309). -/
def State.gateEntryWrite (s : State) (m v : Nat) : Nat × State :=
  let p := m / 1024
  let busy := s.rd od2450_STATE p == 1 && (s.segOf p (s.gateRun p).seg).contains (m % 1024)
  s.writeIf (!busy) abInUse od2460_GATE_ENTRY m v

/-! ## Herds (chapter 1) -/

/-- An entry that R493 keeps for partitioned and sealed herds is not 0. -/
def State.closedEntries (s : State) (n : Nat) : Bool :=
  s.rd od2830_CACHE_WAYS n != 0 || s.rd od2830_DIRTY_RESERVE n != 0 || s.rd od3030_DIR_WAYS n != 0 || s.rd od2310_BUF_RESERVE n != 0

/-- An extent entry that the herd owns or shares is shared (R36). -/
def State.inSharing (s : State) (n : Nat) : Bool :=
  s.extents.any (fun e => s.extMapped e n && s.rd od2820_SHARED e != 0)

/-- A write to LEVEL (R31, R398). -/
def State.levelWrite (s : State) (n v : Nat) : Nat × State :=
  if (v ≠ 2 ∧ s.rd od2800_TIME_GATED n = 1) ∨ (v = 0 ∧ s.closedEntries n) then (abRange, s)
  else if v = 2 ∧ s.sec.life = 2 ∧ s.rd od4100_DEBUG_LEVEL 0 = 3 then (abDenied, s)
  else if v = 2 ∧ s.inSharing n then (abDenied, s)
  else if v = 0 ∧ !([1, 2, 3].all (fun t => decide (s.rd (odReserve t) n ≤ s.rd (odQuota t) n))) then (abRange, s)
  else if !(s.wr od2800_LEVEL n v).queueRules then (abDenied, s)
  else (abOk, (s.wr od2800_LEVEL n v).setDebug)

def State.applyHerd (s : State) (sub n v : Nat) : Nat × State :=
  if sub = 1 then let x := s.herdWrite n v; (x.1, x.2.dropStrangers.setDebug.release)
  else if sub = 2 then s.levelWrite n v
  else if v = 1 ∧ !s.sealedHerd n then (abRange, s)
  else s.writeIf (s.wr od2800_TIME_GATED n v).queueRules abDenied od2800_TIME_GATED n v

/-! ## The pool (chapters 4 and 5) -/

/-- A write to RESERVE of a tier (R112). -/
def State.reserveWrite (s : State) (n tier v : Nat) : Nat × State :=
  let old := s.rd (odReserve tier) n
  let bad := (s.openHerd n && decide (s.rd (odQuota tier) n < v)) || decide (v < old ∧ v < s.rd (odUsed tier) n) ||
    (decide (old < v) && s.herdActive n && !s.reserveFits n tier v)
  s.writeIf (!bad) abRange (odReserve tier) n v

/-- A write to QUOTA of a tier (R112). -/
def State.quotaWrite (s : State) (n tier v : Nat) : Nat × State :=
  s.writeIf (!(s.openHerd n && decide (v < s.rd (odReserve tier) n))) abRange (odQuota tier) n v

/-- A write of a way mask (R99, R139, R493). -/
def State.waysWrite (s : State) (e : Ent) (n v : Nat) : Nat × State :=
  if v ≠ 0 ∧ s.openHerd n then (abRange, s)
  else
    let x := s.writeIf ((odListed s.od e).all (fun kv => kv.1 == n || (kv.2 &&& v) == 0)) abInUse e n v
    (x.1, if e = od3030_DIR_WAYS then x.2.dropDirStrangers else x.2.dropStrangers)

def State.applyAccounts (s : State) (sub n v : Nat) : Nat × State :=
  if sub = 0x0A then s.waysWrite od2830_CACHE_WAYS n v
  else if sub = 0x0B then
    thenRelease (s.writeIf (!(v != 0 && s.openHerd n) && s.dirtyFits n v) abRange od2830_DIRTY_RESERVE n v)
  else if sub % 3 = 1 then s.reserveWrite n (sub / 3 + 1) v
  else s.quotaWrite n (sub / 3 + 1) v

/-- A write to CACHE_SIZE: every cached granule goes back to its tier of record first. -/
def State.cacheSizeWrite (s : State) (v : Nat) : Nat × State :=
  if s.rd od2C00_CACHE_SIZE 0 = v then (abOk, s)
  else
    let s1 := s.pool.frames.foldl (fun (s : State) (kv : Nat × CacheFrame) => s.evict kv.2.ext kv.2.gran) s
    (abOk, (s1.wr od2C00_CACHE_SIZE 0 v).release)

def State.applyTiers (s : State) (sub v : Nat) : Nat × State :=
  if sub = 4 then s.cacheSizeWrite v else s.plainWrite ⟨0x2C00, sub⟩ 0 v

/-- A write to an entry that the dirty ceiling or the flush reserve follows (R105, R351). -/
def State.ceilingWrite (s : State) (e : Ent) (v : Nat) : Nat × State := (abOk, (s.wr e 0 v).recompute.release)

def State.applyCoherence (s : State) (sub v : Nat) : Nat × State :=
  if sub = 1 then s.writeIf (decide (s.hardBytes 131072 ≤ v * gib)) abRange od3000_H_CAPACITY 0 v
  else if sub = 2 then s.writeIf (decide (s.rd od3000_RUT_EXIT 0 < v)) abRange od3000_RUT_COUNT 0 v
  else if sub = 4 then s.writeIf (decide (v < s.rd od3000_RUT_COUNT 0)) abRange od3000_RUT_EXIT 0 v
  else s.plainWrite ⟨0x3000, sub⟩ 0 v

/-! ## Rings, contexts, security, power -/

def State.applyRing (s : State) (sub q v : Nat) : Nat × State :=
  if s.rd od2400_TYPE q ≠ 2 ∧ s.rd od2400_TYPE q ≠ 3 then (abRange, s)
  else if sub = 1 then s.ringWrite q v
  else s.plainWrite ⟨0x3410, sub⟩ q v

def State.applyFirmware (s : State) (sub v : Nat) : Nat × State :=
  if sub = 5 then let x := s.installWrite s.stagedImage; (x.1, x.2.fresh)
  else if sub = 7 then s.commitWrite v
  else s.plainWrite ⟨0x4110, sub⟩ 0 v

def State.applyAttest (s : State) (sub x v : Nat) : Nat × State :=
  if sub = 3 then s.generateWrite x else s.writeIf (s.rd od4130_STATE x != 1) abInUse ⟨0x4130, sub⟩ x v

def State.applyStot (s : State) (sub v : Nat) : Nat × State :=
  if sub = 1 then s.stotModeWrite v
  else if sub = 2 then (abOk, s.stotEvent 2)
  else s.plainWrite ⟨0x48A0, sub⟩ 0 v

/-- TJ_THROTTLE < TJ_ALERT (R462). -/
def State.applyPower (s : State) (path : OdPath) (sub v : Nat) : Nat × State :=
  if sub = 2 then s.requestWrite path v
  else if sub = 5 then s.writeIf (decide (v < s.rd od4C00_TJ_ALERT 0)) abRange od4C00_TJ_THROTTLE 0 v
  else if sub = 6 then s.writeIf (decide (s.rd od4C00_TJ_THROTTLE 0 < v)) abRange od4C00_TJ_ALERT 0 v
  else s.plainWrite ⟨0x4C00, sub⟩ 0 v

/-! ## Every entry -/

/-- Chapters 1 to 3, 11 to 13. -/
def State.applyLow (s : State) (path : OdPath) (index sub elem v : Nat) : Nat × State :=
  if index = 0x2000 then s.applyTime sub v
  else if index = 0x2010 ∧ sub = 7 then s.slotWrite elem v
  else if index = 0x2100 ∧ sub = 4 then s.freezePenalties.plainWrite od2100_HALF_LIFE 0 v
  else if index = 0x2110 then s.modeWrite elem v
  else if index = 0x2118 then s.applyPort sub elem v
  else if index = 0x2120 then (abOk, (s.wr od2120_LOCATION elem v).resend)
  else if index = 0x2130 then s.routeWrite sub elem v
  else if index = 0x2200 ∧ sub = 1 then s.chainWrite od2200_LOAD_TIMEOUT v
  else if index = 0x2300 then s.applySwitch sub v
  else if index = 0x2310 then s.applyBufHerd sub elem v
  else if index = 0x2320 ∧ sub = 1 then s.groupWrite elem v
  else if index = 0x2400 then s.applyQueue sub elem v
  else if index = 0x2408 then s.applyTm sub v
  else if index = 0x2440 then s.applyLimits sub elem v
  else if index = 0x2450 then s.applyGate sub elem v
  else if index = 0x2460 then s.gateEntryWrite elem v
  else if index = 0x2470 then s.writeIf (s.wr od2470_TG_CLASS elem v).queueRules abDenied od2470_TG_CLASS elem v
  else if index = 0x2800 then s.applyHerd sub elem v
  else if index = 0x2810 then s.applyBinding path sub elem v
  else s.plainWrite ⟨index, sub⟩ elem v

/-- Chapters 4 to 10 and 14. -/
def State.applyMid (s : State) (index sub elem v : Nat) : Nat × State :=
  if index = 0x2820 ∧ sub = 0x0B then thenRelease (s.opWrite elem v)
  else if index = 0x2830 then s.applyAccounts sub elem v
  else if index = 0x2840 then s.chainWrite ⟨0x2840, sub⟩ v
  else if index = 0x2C00 then s.applyTiers sub v
  else if index = 0x2C10 ∨ (index = 0x2C20 ∧ sub = 1) then s.ceilingWrite ⟨index, sub⟩ v
  else if index = 0x2C40 ∧ sub = 7 then s.deleteWrite elem v
  else if index = 0x3000 then s.applyCoherence sub v
  else if index = 0x3010 ∧ sub = 4 then s.readerWrite elem v
  else if index = 0x3020 then thenRelease (s.thawWrite elem v)
  else if index = 0x3030 then s.waysWrite od3030_DIR_WAYS elem v
  else if index = 0x3410 then s.applyRing sub elem v
  else if index = 0x3800 ∧ sub = 1 then s.ctxWrite elem v
  else if index = 0x3810 ∧ sub = 1 then s.memberWrite elem v
  else if index = 0x3C20 then s.chainWrite od3C20_HANDOFF_TIMEOUT v
  else s.plainWrite ⟨index, sub⟩ elem v

/-- Chapters 10 and 16 to 20. -/
def State.applyHigh (s : State) (path : OdPath) (index sub elem v : Nat) : Nat × State :=
  if index = 0x4010 ∧ sub = 1 then s.setWrite elem v
  else if index = 0x4020 then s.entryWrite elem v
  else if index = 0x4100 then (if sub = 2 then s.advanceWrite path v else s.debugWrite v)
  else if index = 0x4110 then s.applyFirmware sub v
  else if index = 0x4130 then s.applyAttest sub elem v
  else if index = 0x4140 ∧ sub = 3 then s.keyWrite elem
  else if index = 0x4150 ∧ sub = 3 then s.linkKeyWrite elem
  else if index = 0x4400 ∧ sub = 3 then s.recoverWrite
  else if index = 0x4410 then s.releaseWrite elem
  else if index = 0x4810 ∧ sub = 1 then s.profileWrite elem v
  else if index = 0x4880 ∧ sub = 2 then s.traceWrite v
  else if index = 0x4890 ∧ sub = 1 then s.filterWrite elem v
  else if index = 0x48A0 then s.applyStot sub v
  else if index = 0x48B0 ∧ sub = 2 then s.buildWrite
  else if index = 0x4C00 then s.applyPower path sub v
  else if index = 0x4C08 then (if sub = 1 then s.pointWrite elem v else s.gateQuadWrite elem v)
  else if index = 0x4C20 then s.ceilingWrite od4C20_HOLDUP_J v
  else s.plainWrite ⟨index, sub⟩ elem v

/-- A write whose steps 1 to 7 have passed: step 8, and the effect. -/
def State.odApply (s : State) (path : OdPath) (index sub elem v : Nat) : Nat × State :=
  if index < 0x2820 then s.applyLow path index sub elem v
  else if index < 0x4000 then s.applyMid index sub elem v
  else s.applyHigh path index sub elem v

end Sys2Proof.Machine
end

