-- ==== Sys2Proof/Machine/Mgmt.lean ====
section
/-! DEFINITION. The three paths to the object dictionary: an access and its answer, the queues of paths J and B, the
configuration area, the mailbox, MCTP, management requests, I3C and JTAG (chapter 15, R22–R24, R79, R398, R432, R448, R484). -/

namespace Sys2Proof.Machine

/-! ## Paths (R22, R368, Table 15.6) -/

/-- A path is open. -/
def State.pathOpen (s : State) : OdPath → Bool
  | .j => !s.pins.inReset && decide (4 ≤ s.rd od4C40_BOOT_STAGE 0) && s.rd od1120_JY_STATE 0 == 2 && s.rd od4C00_STATE 0 != 4
  | .b => !s.pins.inReset && decide (2 ≤ s.rd od4C40_BOOT_STAGE 0) && s.rd od4C00_STATE 0 != 4
  | .f => !s.halted && s.rd od4C40_BOOT_STAGE 0 == 5 && s.mode != 2

/-- The count of a path's refused accesses. -/
def odRefused : OdPath → Ent
  | .j => od1100_REFUSED_J
  | .b => od1100_REFUSED_B
  | .f => od1100_REFUSED_F

def State.refuse (s : State) (p : OdPath) : State := s.bump (odRefused p) 0 32 1

/-- Accesses not yet answered that a path holds. -/
def pathDepth : OdPath → Nat
  | .j => 64
  | .b => 4
  | .f => 256

/-! ## One access (R24, R364–R367) -/

/-- The record of a write (R24). -/
def State.configWrite (s : State) (a : Access) : State :=
  s.emit s.deviceCore evConfigWrite 0 7 s.deviceCore 0 [a.index * 2 ^ 32 + a.sub * 2 ^ 24 + a.elem, pathIx a.path]

/-- The effect of a write whose checks have passed: the abort code, and the state if it is OK. -/
def State.accessWrite (s : State) (a : Access) : Nat × State :=
  match a.what with
  | .plain => s.odApply a.path a.index a.sub a.elem (leNat a.value)
  | .install img => s.installWrite img
  | .provision => s.provisionWrite

/-- A write: refused it changes nothing, accepted it is recorded. -/
def State.writeAccess (s : State) (a : Access) : Nat × List Byte × State :=
  let x := s.accessWrite a
  if x.1 = abOk then (abOk, [], x.2.configWrite a) else (x.1, [], s)

/-- An access is checked and executed. The one write of the vendor test range that the manual gives has no entry (R396). -/
def State.tryAccess (s : State) (a : Access) : Nat × List Byte × State :=
  if a.what = .provision then s.writeAccess a
  else match s.odCheck a with
    | .inl c => (c, [], s)
    | .inr r => if a.write then s.writeAccess a else s.odRead r a

/-- Execute an access at the management core that owns the entry: its abort code, the value read, and the state. -/
def State.access (s : State) (a : Access) : Nat × List Byte × State :=
  let s0 := (s.bump od1100_ACCESSES 0 64 1).count (0x740 + 8 * s.deviceCore) 1
  let x := s0.tryAccess a
  if x.1 = abOk then x else (x.1, x.2.1, x.2.2.refuse a.path)

/-! ## Answers (R79, R369–R371) -/

/-- Zeros pad to a multiple of 8 B. -/
def pad8 (bs : List Byte) : List Byte := bs ++ List.replicate ((8 - bs.length % 8) % 8) 0

/-- The response message of an access (Table 15.7). -/
def answerMessage (a : Access) (code : Nat) (v : List Byte) : List Byte :=
  toLe 8 ((if a.write then 0x82 else 0x81) * 2 ^ 56 + a.sub * 2 ^ 48 + a.index * 2 ^ 32 + a.elem * 2 ^ 8 + a.tag) ++
  toLe 8 (code * 2 ^ 32 + v.length * 2 ^ 16) ++ pad8 v

/-- Write a message into a response slot and set its bit of RESP_READY (R370, R484). -/
def State.putSlot (s : State) (i : Nat) (m : List Byte) : State :=
  { s with mg := { s.mg with slots := sparseSet [] s.mg.slots i m, ready := s.mg.ready ||| 2 ^ i } }

/-- Answer an access to whoever sent it. -/
def State.answerOd (s : State) (a : Access) (code : Nat) (v : List Byte) : State :=
  match a.asker with
  | .direct => s.send (.odAnswer a.path a.addr code v)
  | .slot i => s.putSlot i (answerMessage a code v)
  | .mctp => s.send (.mctp (toLe 4 (s.rd od1000_ENTERPRISE 0) ++ answerMessage a code v))
  | .frame id =>
    match s.tr.outstanding.find? (fun r => r.id == id && r.place == .mgmt) with
    | some r => s.answer r eOk code (if a.write then [] else pad8 v)
    | none => s

/-- Execute an access and answer it. -/
def State.execOd (s : State) (a : Access) : State :=
  let x := s.access a
  x.2.2.answerOd a x.1 x.2.1

/-! ## Queues of paths J and B (R363, R368) -/

def State.queueOf (s : State) : OdPath → List Access
  | .j => s.mg.queueJ
  | .b => s.mg.queueB
  | .f => []

def State.setQueue (s : State) (p : OdPath) (q : List Access) : State :=
  match p with
  | .j => { s with mg := { s.mg with queueJ := q } }
  | .b => { s with mg := { s.mg with queueB := q } }
  | .f => s

/-- An access that waits for the configuration area: a write of an N entry that passes the checks. -/
def State.storesN (s : State) (a : Access) : Bool :=
  a.write && a.what == .plain && isN ⟨a.index, a.sub⟩ && (match s.odCheck a with | .inr _ => true | .inl _ => false)

/-- Execute the accesses of a queue in order, until it is empty or its first has to wait. -/
def State.runQueue (p : OdPath) : Nat → State → State
  | 0, s => s
  | n + 1, s =>
    match s.queueOf p with
    | [] => s
    | a :: rest =>
      if s.storesN a then (if s.mg.conf.isNone then { s with mg := { s.mg with conf := some p } } else s)
      else State.runQueue p n ((s.setQueue p rest).execOd a)

/-- An access arrives on a path; nothing arrives on a path that is not open. -/
def State.odArrive (s : State) (a : Access) : State :=
  if !s.pathOpen a.path then s
  else if pathDepth a.path ≤ (s.queueOf a.path).length then (s.refuse a.path).answerOd a abBusy []
  else if a.path = .f then s.execOd a
  else State.runQueue a.path 65 (s.setQueue a.path (s.queueOf a.path ++ [a]))

/-! ## The configuration area (R363, R486) -/

/-- The values that the copies are to hold: those of the N entries, with a new one. -/
def State.confVals (s : State) (a : Access) : Sparse Nat :=
  let k := odKey ⟨a.index, a.sub⟩ a.elem
  sparseSet (odDefault k) (s.od.filter (fun kv => isN ⟨kv.1 / 256 % 65536, kv.1 % 256⟩)) k (leNat a.value)

/-- Program one copy; a copy that failed is not valid. -/
def ConfCopy.put (c new : ConfCopy) (ok : Bool) : ConfCopy := if ok then new else { c with valid := false }

/-- Program the copy with the lower sequence number, then the other one. -/
def State.programConf (s : State) (a : Access) (ok0 ok1 : Bool) : State :=
  let c0 := s.mg.copy0
  let c1 := s.mg.copy1
  let new : ConfCopy := ⟨max c0.seq c1.seq + 1, true, s.confVals a⟩
  if c0.seq ≤ c1.seq then
    { s with mg := { s.mg with copy0 := c0.put new ok0, copy1 := if ok0 then c1.put new ok1 else c1 } }
  else
    { s with mg := { s.mg with copy1 := c1.put new ok1, copy0 := if ok1 then c0.put new ok0 else c0 } }

/-- The other of paths J and B. -/
def otherPath : OdPath → OdPath
  | .j => .b
  | .b => .j
  | .f => .j

/-- The write that waited ends: applied where both copies hold it, else with STORAGE_FAILED and no change (R363). -/
def State.endStore (s : State) (a : Access) (ok : Bool) : State :=
  if ok then s.execOd a
  else (((s.bump od1100_ACCESSES 0 64 1).count (0x740 + 8 * s.deviceCore) 1).refuse a.path).answerOd a abStorage []

/-- The configuration area is programmed. -/
def State.confDone (s : State) (ok0 ok1 : Bool) : State :=
  match s.mg.conf with
  | none => s
  | some p =>
    match s.queueOf p with
    | [] => { s with mg := { s.mg with conf := none } }
    | a :: rest =>
      let s1 := ({ s with mg := { s.mg with conf := none } }.setQueue p rest).programConf a ok0 ok1
      State.runQueue p 65 (State.runQueue (otherPath p) 65 (s1.endStore a (ok0 && ok1)))

def execConfigAreaProgramDone (copy0 copy1 : Bool) (s : State) : Host.Outcome State Fault Refusal := (s.confDone copy0 copy1).done

/-! ## Messages (R369–R371) -/

def msgW0 (m : List Byte) : Nat := leNat (m.take 8)
def msgW1 (m : List Byte) : Nat := leNat ((m.drop 8).take 8)
def msgOp (m : List Byte) : Nat := bitsOf (msgW0 m) 63 56
def msgLength (m : List Byte) : Nat := bitsOf (msgW1 m) 31 16

/-- OP is READ or WRITE, the reserved bits are 0 and LENGTH is at most 1,024. -/
def messageOk (m : List Byte) : Bool :=
  (msgOp m == 1 || msgOp m == 2) && bitsOf (msgW1 m) 15 0 == 0 && decide (msgLength m ≤ 1024)

/-- The access that a message asks for; its low bits say whether the answer is that of a write. -/
def messageAccess (path : OdPath) (who : Asker) (m : List Byte) : Access :=
  let w := msgW0 m
  { write := msgOp m == 2 || msgOp m == 0x82, path := path,
    addr := ⟨BitVec.ofNat 16 (bitsOf w 47 32), BitVec.ofNat 8 (bitsOf w 55 48), BitVec.ofNat 24 (bitsOf w 31 8)⟩,
    value := toLe (msgLength m) (leNat ((m.drop 16).take (msgLength m))), space := msgLength m, tag := w % 256, asker := who,
    what := .plain }

/-- An OD access message arrives. -/
def State.message (s : State) (path : OdPath) (who : Asker) (m : List Byte) : State :=
  if !s.pathOpen path then s
  else if messageOk m then s.odArrive (messageAccess path who m)
  else (s.refuse path).answerOd (messageAccess path who m) abLength []

/-- The companion has written a message into a request slot and its number to the doorbell. -/
def execMailboxDoorbell (slot : Word64) (msg : List Byte) (s : State) : Host.Outcome State Fault Refusal :=
  if 64 ≤ slot.toNat then .fault .noSuchMailboxSlot
  else if s.pathOpen .j then
    ({ s with mg := { s.mg with reqs := sparseSet [] s.mg.reqs slot.toNat msg } }.message .j (.slot slot.toNat) msg).done
  else s.done

/-- RESP_READY with the bits written as 1 cleared (R484). -/
def execRespReadyClear (bits : Word64) (s : State) : Host.Outcome State Fault Refusal :=
  (if s.pathOpen .j then
    { s with mg := { s.mg with ready := (List.range 64).foldl (fun m i => if bits.getLsbD i && bitAt m i then m - 2 ^ i else m) s.mg.ready } }
   else s).done

/-- A type-0x7F message with the enterprise number of OD 1000.0A is an access; every other one is discarded and counted. -/
def execMctpVendorMessage (msgType : Byte) (body : List Byte) (s : State) : Host.Outcome State Fault Refusal :=
  (if !s.pathOpen .b then s
   else if msgType = 0x7F ∧ leNat (body.take 4) = s.rd od1000_ENTERPRISE 0 then s.message .b .mctp (body.drop 4)
   else s.bump od1110_B_DISCARDS 0 32 1).done

/-! ## MCTP control and I3C (R371, R374) -/

/-- Answer an MCTP control message, if path B is open. -/
def State.control (s : State) (cmd code : Nat) (data : List Nat) : State :=
  if s.pathOpen .b then s.send (.mctpControl cmd code data) else s

/-- Set Endpoint ID: IDs 0x00 and 0xFF are not assigned, by the base specification that R371 names. -/
def execSetEndpointId (eid : Byte) (s : State) : Host.Outcome State Fault Refusal :=
  (if !s.pathOpen .b then s
   else if eid = 0 ∨ eid = 0xFF then s.control 1 2 [s.rd od1110_MCTP_EID 0]
   else (s.wr od1110_MCTP_EID 0 eid.toNat).control 1 0 [eid.toNat]).done

def execGetEndpointId (s : State) : Host.Outcome State Fault Refusal := (s.control 2 0 [s.rd od1110_MCTP_EID 0]).done

def execGetMctpVersionSupport (s : State) : Host.Outcome State Fault Refusal := (s.control 4 0 Config.mctpVersions).done

def execGetMessageTypeSupport (s : State) : Host.Outcome State Fault Refusal := (s.control 5 0 [0x7F]).done

def execI3cDynamicAddressAssign (addr : Byte) (s : State) : Host.Outcome State Fault Refusal :=
  (if s.pathOpen .b then s.wr od1110_I3C_DYNAMIC 0 addr.toNat else s).done

/-! ## Management requests (R23, R79, R368) -/

/-- VLEN of a management request. -/
def vlen (h : ReqHdr) : Nat := bitsOf h.aux.toNat 34 24

/-- A write whose VLEN exceeds the payload, or with a padding byte other than 0; a read whose VLEN is not 0 (R79). -/
def padBroken (r : Req) : Bool :=
  if r.op = .mgmtWrite then
    decide (r.payload.length < vlen r.hdr) || (r.payload.drop (vlen r.hdr)).any (· != 0)
  else vlen r.hdr != 0

/-- The access that a management request asks for. -/
def Req.access (r : Req) : Access :=
  let v := r.hdr.val.toNat
  { write := r.op == .mgmtWrite, path := .f,
    addr := ⟨BitVec.ofNat 16 (bitsOf v 31 16), BitVec.ofNat 8 (bitsOf v 15 8), BitVec.ofNat 24 r.hdr.aux.toNat⟩,
    value := r.payload.take (vlen r.hdr), space := lenBytes r.hdr, tag := 0, asker := .frame r.id, what := .plain }

/-- Execute a management request. -/
def State.runMgmtReq (s : State) (r : Req) : State :=
  if padBroken r then (s.refuse .f).answerOd r.access abLength [] else s.execOd r.access

/-- Management requests that are due, in order: executed where path F is open; where it is not, those beyond its queue are
answered with BUSY. -/
def State.runMgmt (s : State) : State :=
  let due := s.tr.outstanding.filter (fun r => r.place == .mgmt)
  if s.pathOpen .f then due.foldl State.runMgmtReq s
  else (due.drop (pathDepth .f)).foldl (fun s r => (s.refuse .f).answerOd r.access abBusy []) s

/-! ## JTAG (R398, R432, R448) -/

/-- Memory as JTAG sees it: ciphertext, for a sealed herd. -/
def State.jtagBytes (s : State) (e off len : Nat) : List Byte :=
  if s.sealedHerd (s.extHerd e) then (List.range len).map (fun i => BitVec.ofNat 8 (Config.cipherByte s.freeN (off + i)))
  else s.readPool e off len

/-- A write through JTAG; what it leaves in a sealed herd's memory is no plaintext that the writer chose. -/
def State.jtagWrite (s : State) (e off : Nat) (data : List Byte) : State :=
  if s.sealedHerd (s.extHerd e) then
    (s.writePool e off ((List.range data.length).map (fun i => BitVec.ofNat 8 (Config.cipherByte s.freeN (off + i))))).fresh
  else s.writePool e off data

/-- An extent whose bytes this A9 holds, and that has these bytes. -/
def State.jtagReach (s : State) (e off len : Nat) : Bool :=
  s.extState e != 0 && (s.extSlice e).isSome && decide (off + len ≤ s.extGranules e * granuleBytes)

/-- BYPASS, IDCODE and boundary scan at every level; counters from level 1; scan and memory at level 3. -/
def State.jtag (s : State) (op : JtagOp) : State :=
  let level := s.rd od4100_DEBUG_EFFECTIVE 0
  let out := fun (s : State) (v : List Byte) => s.send (.jtag op v)
  match op with
  | .bypass => out s [0]
  | .idcode => out s (toLe 4 (Config.jtagOut 0 0))
  | .boundary => out s.fresh (toLe 32 (Config.jtagOut 1 s.freeN))
  | .counter i => if 1 ≤ level then out s (toLe 8 (s.counter i.toNat)) else s
  | .scan => if level = 3 then out s.fresh (toLe 32 (Config.jtagOut 2 s.freeN)) else s
  | .memRead e off len => if level = 3 ∧ s.jtagReach e.val off len then out s.fresh (s.jtagBytes e.val off len) else s
  | .memWrite e off data => if level = 3 ∧ s.jtagReach e.val off data.length then out (s.jtagWrite e.val off data) [] else s

def execJtagAccess (op : JtagOp) (s : State) : Host.Outcome State Fault Refusal := (s.jtag op).done

end Sys2Proof.Machine
end

