-- ==== Sys2Proof/Machine/OdRows.lean ====
section
/-! DEFINITION. The commands that are accesses to one entry of the object dictionary: each is the write, or the read, that its
row of the table names, by the path that it comes on (R22, R364, R366). -/

namespace Sys2Proof.Machine

/-- The access that writes bytes to an element of an entry. -/
def bytesTo (path : OdPath) (e : Ent) (n : Nat) (v : List Byte) (what : AccessWhat) : Access :=
  ⟨true, path, ⟨BitVec.ofNat 16 e.index, BitVec.ofNat 8 e.sub, BitVec.ofNat 24 n⟩, v, 0, 0, .direct, what⟩

/-- A write of a value in the entry's size. -/
def State.odPut (s : State) (path : OdPath) (e : Ent) (n v : Nat) : State :=
  s.odArrive (bytesTo path e n (toLe (((odRow e.index e.sub).map (·.width)).getD 1) v) .plain)

/-- OD_WRITE. -/
def execOdWrite (path : OdPath) (a : OdAddr) (value : List Byte) (s : State) : Host.Outcome State Fault Refusal :=
  (s.odArrive ⟨true, path, a, value, 0, 0, .direct, .plain⟩).done

/-- SOURCE_WRITE: a value above one byte is no value of SOURCE, and has a length of its own. -/
def execSourceWrite (path : OdPath) (upstream : Bool) (value : Half) (s : State) : Host.Outcome State Fault Refusal :=
  (if upstream then s.odArrive (bytesTo path od2000_UPSTREAM_PORT 0 (toLe 2 value.toNat) .plain)
   else s.odArrive (bytesTo path od2000_SOURCE 0 (toLe (if value.toNat < 256 then 1 else 2) value.toNat) .plain)).done

/-- ENTRY_RECORD_WRITE. -/
def execEntryRecordWrite (path : OdPath) (i : EntryId) (value : List Byte) (s : State) : Host.Outcome State Fault Refusal :=
  (s.odArrive (bytesTo path od4020_ENTRY_RECORD i.val value .plain)).done

/-- INSTALL, of an image that the command names. -/
def execFwInstall (path : OdPath) (img : StagedImage) (s : State) : Host.Outcome State Fault Refusal :=
  (s.odArrive (bytesTo path od4110_INSTALL 0 [1] (.install img))).done

/-- ADVANCE to PROVISIONED, a write of the vendor test range (R396). -/
def execAdvanceProvisioned (path : OdPath) (s : State) : Host.Outcome State Fault Refusal :=
  (s.odArrive (bytesTo path ⟨0xA000, 1⟩ 0 [1] .provision)).done

/-- LOG_NEXT: the read (R405). -/
def execLogNext (path : OdPath) (s : State) : Host.Outcome State Fault Refusal :=
  (s.odArrive ⟨false, path, ⟨BitVec.ofNat 16 od4430_LOG_NEXT.index, BitVec.ofNat 8 od4430_LOG_NEXT.sub, 0⟩, [], 64, 0, .direct, .plain⟩).done

/-! ## Herds (R32, R34, R494) -/

/-- HERD_CONFIGURE. -/
def execHerdConfigure (path : OdPath) (n : HerdId) (s : State) : Host.Outcome State Fault Refusal := (s.odPut path od2800_STATE n.val 1).done

/-- HERD_ACTIVATE. -/
def execHerdActivate (path : OdPath) (n : HerdId) (s : State) : Host.Outcome State Fault Refusal := (s.odPut path od2800_STATE n.val 2).done

/-- HERD_UNCONFIGURE. -/
def execHerdUnconfigure (path : OdPath) (n : HerdId) (s : State) : Host.Outcome State Fault Refusal := (s.odPut path od2800_STATE n.val 0).done

/-- HERD_CLOSE. -/
def execHerdClose (path : OdPath) (n : HerdId) (s : State) : Host.Outcome State Fault Refusal := (s.odPut path od2800_STATE n.val 3).done

/-! ## Time and triggers (R53–R56, R61) -/

/-- TOD_SET. -/
def execTodSet (path : OdPath) (value : Word64) (s : State) : Host.Outcome State Fault Refusal := (s.odPut path od2000_TOD_SET 0 value.toNat).done

/-- ALLOW_STEP. -/
def execAllowStep (path : OdPath) (s : State) : Host.Outcome State Fault Refusal := (s.odPut path od2000_ALLOW_STEP 0 1).done

/-- PTP_OFFSET. -/
def execPtpOffset (path : OdPath) (value : Word64) (s : State) : Host.Outcome State Fault Refusal := (s.odPut path od2000_PTP_OFFSET 0 value.toNat).done

/-- TRIGGER_ARM. -/
def execTriggerArm (path : OdPath) (n : TrigId) (s : State) : Host.Outcome State Fault Refusal := (s.odPut path od2010_STATE n.val 1).done

/-- TRIGGER_DISARM. -/
def execTriggerDisarm (path : OdPath) (n : TrigId) (s : State) : Host.Outcome State Fault Refusal := (s.odPut path od2010_STATE n.val 0).done

/-! ## Extents (R117, R347) and coherence (R130, R134) -/

/-- CREATE. -/
def execExtCreate (path : OdPath) (e : ExtentId) (s : State) : Host.Outcome State Fault Refusal := (s.odPut path od2820_OP e.val 1).done

/-- GROW. -/
def execExtGrow (path : OdPath) (e : ExtentId) (s : State) : Host.Outcome State Fault Refusal := (s.odPut path od2820_OP e.val 2).done

/-- SHRINK. -/
def execExtShrink (path : OdPath) (e : ExtentId) (s : State) : Host.Outcome State Fault Refusal := (s.odPut path od2820_OP e.val 3).done

/-- PLACE. -/
def execExtPlace (path : OdPath) (e : ExtentId) (s : State) : Host.Outcome State Fault Refusal := (s.odPut path od2820_OP e.val 4).done

/-- REHOME. -/
def execExtRehome (path : OdPath) (e : ExtentId) (s : State) : Host.Outcome State Fault Refusal := (s.odPut path od2820_OP e.val 5).done

/-- REVOKE. -/
def execExtRevoke (path : OdPath) (e : ExtentId) (s : State) : Host.Outcome State Fault Refusal := (s.odPut path od2820_OP e.val 6).done

/-- READY. -/
def execExtReady (path : OdPath) (e : ExtentId) (s : State) : Host.Outcome State Fault Refusal := (s.odPut path od2820_OP e.val 7).done

/-- SHARE. -/
def execExtShare (path : OdPath) (e : ExtentId) (s : State) : Host.Outcome State Fault Refusal := (s.odPut path od2820_OP e.val 8).done

/-- UNSHARE. -/
def execExtUnshare (path : OdPath) (e : ExtentId) (s : State) : Host.Outcome State Fault Refusal := (s.odPut path od2820_OP e.val 9).done

/-- THAW. -/
def execThaw (path : OdPath) (e : ExtentId) (value : Word) (s : State) : Host.Outcome State Fault Refusal := (s.odPut path od3020_THAW e.val value.toNat).done

/-- READER_REGISTER. -/
def execReaderRegister (path : OdPath) (r : ReaderId) (s : State) : Host.Outcome State Fault Refusal := (s.odPut path od3010_STATE r.val 1).done

/-! ## Rings (R175) and contexts (R208, R210) -/

/-- RING_START. -/
def execRingStart (path : OdPath) (r : QueueId) (s : State) : Host.Outcome State Fault Refusal := (s.odPut path od3410_STATE r.val 1).done

/-- RING_STOP. -/
def execRingStop (path : OdPath) (r : QueueId) (s : State) : Host.Outcome State Fault Refusal := (s.odPut path od3410_STATE r.val 2).done

/-- RING_RESUME. -/
def execRingResume (path : OdPath) (r : QueueId) (s : State) : Host.Outcome State Fault Refusal := (s.odPut path od3410_STATE r.val 1).done

/-- RING_RESET. -/
def execRingReset (path : OdPath) (r : QueueId) (s : State) : Host.Outcome State Fault Refusal := (s.odPut path od3410_STATE r.val 0).done

/-- CONTEXT_START. -/
def execContextStart (path : OdPath) (c : CtxId) (s : State) : Host.Outcome State Fault Refusal := (s.odPut path od3800_STATE c.val 1).done

/-- CONTEXT_STOP. -/
def execContextStop (path : OdPath) (c : CtxId) (s : State) : Host.Outcome State Fault Refusal := (s.odPut path od3800_STATE c.val 2).done

/-- CONTEXT_RESUME. -/
def execContextResume (path : OdPath) (c : CtxId) (s : State) : Host.Outcome State Fault Refusal := (s.odPut path od3800_STATE c.val 1).done

/-- CONTEXT_RESET. -/
def execContextReset (path : OdPath) (c : CtxId) (s : State) : Host.Outcome State Fault Refusal := (s.odPut path od3800_STATE c.val 0).done

/-- MEMBER_ACTIVATE. -/
def execMemberActivate (path : OdPath) (i : MemberId) (s : State) : Host.Outcome State Fault Refusal := (s.odPut path od3810_STATE i.val 1).done

/-! ## The match engine (R269, R271) -/

/-- RULE_SET_ACTIVATE. -/
def execRuleSetActivate (path : OdPath) (r : SetId) (s : State) : Host.Outcome State Fault Refusal := (s.odPut path od4010_STATE r.val 1).done

/-- RULE_SET_FREE. -/
def execRuleSetFree (path : OdPath) (r : SetId) (s : State) : Host.Outcome State Fault Refusal := (s.odPut path od4010_STATE r.val 0).done

/-! ## The switch core, queues and ports (R293, R309, R318, R329) -/

/-- MCGROUP_ACTIVATE. -/
def execMcgroupActivate (path : OdPath) (g : McId) (s : State) : Host.Outcome State Fault Refusal := (s.odPut path od2320_STATE g.val 1).done

/-- GATE_START. -/
def execGateStart (path : OdPath) (p : PortId) (s : State) : Host.Outcome State Fault Refusal := (s.odPut path od2450_STATE p.val 1).done

/-- GATE_STOP. -/
def execGateStop (path : OdPath) (p : PortId) (s : State) : Host.Outcome State Fault Refusal := (s.odPut path od2450_STATE p.val 0).done

/-- HIST_CLEAR. -/
def execHistClear (path : OdPath) (q : QueueId) (s : State) : Host.Outcome State Fault Refusal := (s.odPut path od2400_HIST_CLEAR q.val 1).done

/-- RETRAIN. -/
def execPortRetrain (path : OdPath) (p : PortId) (s : State) : Host.Outcome State Fault Refusal := (s.odPut path od2118_RETRAIN p.val 1).done

/-- VOLUME_DELETE. -/
def execVolumeDelete (path : OdPath) (v : VolId) (value : Word64) (s : State) : Host.Outcome State Fault Refusal := (s.odPut path od2C40_DELETE v.val value.toNat).done

/-! ## Firmware, attestation, keys, lifecycle and debug levels (chapter 16) -/

/-- COMMIT_PLAIN. -/
def execCommitPlain (path : OdPath) (s : State) : Host.Outcome State Fault Refusal := (s.odPut path od4110_COMMIT 0 1).done

/-- COMMIT_PROTECTED. -/
def execCommitProtected (path : OdPath) (s : State) : Host.Outcome State Fault Refusal := (s.odPut path od4110_COMMIT 0 2).done

/-- GENERATE. -/
def execAttestGenerate (path : OdPath) (s : State) : Host.Outcome State Fault Refusal := (s.odPut path od4130_GENERATE (pathIx path) 1).done

/-- KEY_LOAD. -/
def execKeyLoad (path : OdPath) (n : HerdId) (s : State) : Host.Outcome State Fault Refusal := (s.odPut path od4140_KEY_LOAD n.val 1).done

/-- LINK_LOAD. -/
def execLinkLoad (path : OdPath) (p : PortId) (s : State) : Host.Outcome State Fault Refusal := (s.odPut path od4150_LINK_LOAD p.val 1).done

/-- ADVANCE_DEPLOYED. -/
def execAdvanceDeployed (path : OdPath) (s : State) : Host.Outcome State Fault Refusal := (s.odPut path od4100_ADVANCE 0 2).done

/-- ADVANCE_RETURNED. -/
def execAdvanceReturned (path : OdPath) (s : State) : Host.Outcome State Fault Refusal := (s.odPut path od4100_ADVANCE 0 3).done

/-- DEBUG_LEVEL_WRITE. -/
def execDebugLevelWrite (path : OdPath) (level : Byte) (s : State) : Host.Outcome State Fault Refusal := (s.odPut path od4100_DEBUG_LEVEL 0 level.toNat).done

/-! ## Faults, counters, trace and the graph (chapters 17, 18) -/

/-- RECOVER. -/
def execFaultRecover (path : OdPath) (s : State) : Host.Outcome State Fault Refusal := (s.odPut path od4400_RECOVER 0 1).done

/-- TINE_RELEASE. -/
def execTineRelease (path : OdPath) (t : TineId) (s : State) : Host.Outcome State Fault Refusal := (s.odPut path od4410_RELEASE t.val 1).done

/-- PROFILE_ACTIVATE. -/
def execProfileActivate (path : OdPath) (n : ProfileId) (s : State) : Host.Outcome State Fault Refusal := (s.odPut path od4810_STATE n.val 1).done

/-- PROFILE_FREE. -/
def execProfileFree (path : OdPath) (n : ProfileId) (s : State) : Host.Outcome State Fault Refusal := (s.odPut path od4810_STATE n.val 0).done

/-- TRACE_START. -/
def execTraceStart (path : OdPath) (s : State) : Host.Outcome State Fault Refusal := (s.odPut path od4880_STATE 0 1).done

/-- TRACE_STOP. -/
def execTraceStop (path : OdPath) (s : State) : Host.Outcome State Fault Refusal := (s.odPut path od4880_STATE 0 0).done

/-- TRACE_FILTER_ON. -/
def execTraceFilterOn (path : OdPath) (i : FilterId) (s : State) : Host.Outcome State Fault Refusal := (s.odPut path od4890_STATE i.val 1).done

/-- STOT_NOW. -/
def execStotNow (path : OdPath) (s : State) : Host.Outcome State Fault Refusal := (s.odPut path od48A0_STOT_NOW 0 1).done

/-- BUILD. -/
def execGraphBuild (path : OdPath) (s : State) : Host.Outcome State Fault Refusal := (s.odPut path od48B0_BUILD 0 1).done

/-! ## Power (R467–R469) -/

/-- QUADRANT_GATE. -/
def execQuadrantGate (path : OdPath) (q : QuadId) (s : State) : Host.Outcome State Fault Refusal := (s.odPut path od4C08_GATE q.val 1).done

/-- QUADRANT_UNGATE. -/
def execQuadrantUngate (path : OdPath) (q : QuadId) (s : State) : Host.Outcome State Fault Refusal := (s.odPut path od4C08_GATE q.val 0).done

/-- REQUEST_P0. -/
def execRequestP0 (path : OdPath) (s : State) : Host.Outcome State Fault Refusal := (s.odPut path od4C00_REQUEST 0 0).done

/-- REQUEST_P2. -/
def execRequestP2 (path : OdPath) (s : State) : Host.Outcome State Fault Refusal := (s.odPut path od4C00_REQUEST 0 2).done

/-- REQUEST_P3. -/
def execRequestP3 (path : OdPath) (s : State) : Host.Outcome State Fault Refusal := (s.odPut path od4C00_REQUEST 0 3).done

/-- REQUEST_P4. -/
def execRequestP4 (path : OdPath) (s : State) : Host.Outcome State Fault Refusal := (s.odPut path od4C00_REQUEST 0 4).done

end Sys2Proof.Machine
end

