-- ==== Sys2Proof/Machine/Frames.lean ====
section
/-! DEFINITION. Request and response frames, the load timeout, and the link layer's drops and replays (R70–R92, R337). -/

namespace Sys2Proof.Machine

/-- The end of a meaning of the transport: management requests that are due are executed first (R24, R79). -/
def State.framed (s : State) : Host.Outcome State Fault Refusal := s.runMgmt.done

/-! ## Requests (R73) -/

def execStore (f : ReqFrame) (s : State) : Host.Outcome State Fault Refusal := (s.request .store f).framed

def execLoad (f : ReqFrame) (s : State) : Host.Outcome State Fault Refusal := (s.request .load f).framed

def execPstore (f : ReqFrame) (s : State) : Host.Outcome State Fault Refusal := (s.request .pstore f).framed

def execAtomicSwap (f : ReqFrame) (s : State) : Host.Outcome State Fault Refusal := (s.request (.atomic .swap) f).framed

def execAtomicCas (f : ReqFrame) (s : State) : Host.Outcome State Fault Refusal := (s.request (.atomic .cas) f).framed

def execAtomicAdd (f : ReqFrame) (s : State) : Host.Outcome State Fault Refusal := (s.request (.atomic .add) f).framed

def execAtomicAnd (f : ReqFrame) (s : State) : Host.Outcome State Fault Refusal := (s.request (.atomic .and) f).framed

def execAtomicOr (f : ReqFrame) (s : State) : Host.Outcome State Fault Refusal := (s.request (.atomic .or) f).framed

def execAtomicXor (f : ReqFrame) (s : State) : Host.Outcome State Fault Refusal := (s.request (.atomic .xor) f).framed

def execAtomicSmax (f : ReqFrame) (s : State) : Host.Outcome State Fault Refusal := (s.request (.atomic .smax) f).framed

def execAtomicSmin (f : ReqFrame) (s : State) : Host.Outcome State Fault Refusal := (s.request (.atomic .smin) f).framed

def execAtomicUmax (f : ReqFrame) (s : State) : Host.Outcome State Fault Refusal := (s.request (.atomic .umax) f).framed

def execAtomicUmin (f : ReqFrame) (s : State) : Host.Outcome State Fault Refusal := (s.request (.atomic .umin) f).framed

def execAtomicFadd (f : ReqFrame) (s : State) : Host.Outcome State Fault Refusal := (s.request (.atomic .fadd) f).framed

def execPublish (f : ReqFrame) (s : State) : Host.Outcome State Fault Refusal := (s.request .publish f).framed

def execInvalidate (f : ReqFrame) (s : State) : Host.Outcome State Fault Refusal := (s.request .invalidate f).framed

def execFlush (f : ReqFrame) (s : State) : Host.Outcome State Fault Refusal := (s.request .flush f).framed

def execFence (f : ReqFrame) (s : State) : Host.Outcome State Fault Refusal := (s.request .fence f).framed

def execKick (f : ReqFrame) (s : State) : Host.Outcome State Fault Refusal := (s.request .kick f).framed

def execComplete (f : ReqFrame) (s : State) : Host.Outcome State Fault Refusal := (s.request .complete f).framed

def execMgmtRead (f : ReqFrame) (s : State) : Host.Outcome State Fault Refusal := (s.request .mgmtRead f).framed

def execMgmtWrite (f : ReqFrame) (s : State) : Host.Outcome State Fault Refusal := (s.request .mgmtWrite f).framed

/-! ## Responses (R80, R81) -/

/-- A response arrives on a port, or a response of a home here comes to its requester. Nothing moves while the units are still. -/
def State.responds (s : State) (op : RespOp) (src : RespSource) : State := if s.halted then s else s.response op src

def execRespData (src : RespSource) (s : State) : Host.Outcome State Fault Refusal := (s.responds .data src).framed

def execRespAck (src : RespSource) (s : State) : Host.Outcome State Fault Refusal := (s.responds .ack src).framed

def execRespMgmt (src : RespSource) (s : State) : Host.Outcome State Fault Refusal := (s.responds .mgmt src).framed

/-! ## Timeouts and limits (R91, R316) -/

def execLoadTimeoutExpiry (req : Nat) (s : State) : Host.Outcome State Fault Refusal :=
  (if s.halted then s else s.loadTimeout req).framed

/-- The rate limit or the cap of an endpoint port lets its waiting requests go on. -/
def execEndpointRequestRelease (p : PortId) (s : State) : Host.Outcome State Fault Refusal :=
  (if s.halted then s else s.advance (BitVec.ofNat 16 (s.rd od2810_ENDPOINT p.val))).framed

/-! ## The link layer (R70, R71, R328, R394) -/

/-- A frame is dropped on a port that receives: counted, and a NAK for the gap unless it is a TIMEX. -/
def State.linkDrop (s : State) (p : PortId) (why : DropCause) (timex : Bool) : State :=
  let st := s.rd od2118_STATE p.val
  if s.halted ∨ !(st == 3 || (st == 4 && timex)) ∨ (timex ∧ why = .seq) then s
  else
    let s1 := s.tally 0 (4 * p.val + 2) 1
    let s2 := if why = .auth then s1.bump od4150_AUTH_FAILS p.val 64 1 else s1
    if timex then s2 else s2.nakGap p

def execLinkFrameDrop (p : PortId) (why : DropCause) (timex : Bool) (s : State) : Host.Outcome State Fault Refusal :=
  (s.linkDrop p why timex).framed

/-- Send every frame not acknowledged once more, with its SEQ and contents; after 8 such replays without progress the port has
a down event. -/
def State.replay (s : State) (p : PortId) : State :=
  let l := s.link p.val
  if l.unacked.isEmpty then s
  else if 8 ≤ l.replays then s.portDown p
  else
    let s1 := s.setLink p.val { l with replays := l.replays + 1, timer := s.clk }
    l.unacked.foldl (fun s f => (s.sendOn p (s.wire p f.seq 0 0 f.body)).tally (bodyHerd f.body) (4 * p.val + 3) 1) s1

def execNakReceived (p : PortId) (env : LinkEnv) (s : State) : Host.Outcome State Fault Refusal :=
  (if s.portUp p.val then (s.linkLearn p.val env).replay p else s).framed

def execReplayTimerExpiry (p : PortId) (s : State) : Host.Outcome State Fault Refusal :=
  (if s.portUp p.val ∧ s.past (s.link p.val).timer (s.rd od2200_REPLAY_TIMER 0) then s.replay p else s).framed

end Sys2Proof.Machine
end

