-- ==== Sys2Proof/Machine/Switch.lean ====
section
/-! DEFINITION. The switch core: matchers, the crossbar, die-to-die crossings and multicast replication (chapter 11). -/

namespace Sys2Proof.Machine

/-! ## Slots of sealed herds in time-gated mode (R289) -/

/-- The matchers consider a frame of a herd in a slot. -/
def State.slotTakes (s : State) (n herd : Nat) : Bool := s.residueTakes n herd

/-! ## Matching (R287) -/

def pairKey (q i o : Nat) : Nat := q * 1024 + i * 32 + o

/-- Cells of a frame to output o that no other matcher has been offered. -/
def spareCells (others : List (Nat × Nat × Nat)) (o : Nat) (f : SwFrame) : Nat :=
  ((f.left.find? (fun x => x.1 == o)).map (·.2)).getD 0 - (others.filter (fun y => y.2.1 == o && y.2.2 == f.id)).length

/-- The frame that input i would send a cell of to output o in a slot: the one under way there, or once its cells are all
offered the head of the next class. -/
def State.crossable (s : State) (q n : Nat) (others : List (Nat × Nat × Nat)) (i o : Nat) : Option SwFrame :=
  let fs := s.sw.voq.filter (fun f => f.quad == q && f.inEnd == i && s.slotTakes n f.herd && f.left.any (fun x => x.1 == o && decide (0 < x.2)))
  let begun := fs.filter (fun f => f.left.any (fun x => x.1 == o && decide (x.2 < f.cells)) || others.any (fun y => y.2.1 == o && y.2.2 == f.id))
  let spare := fun (f : SwFrame) => decide (0 < spareCells others o f)
  match begun.find? spare with
  | some f => some f
  | none =>
    let k := match begun.getLast? with | some f => f.cls + 1 | none => sparseGet 0 s.sw.rrClass (pairKey q i o)
    match (List.range 8).find? (fun j => fs.any (fun f => f.cls == (k + j) % 8 && spare f)) with
    | some j => fs.find? (fun f => f.cls == (k + j) % 8 && spare f)
    | none => none

/-- The first number that `ok` takes, of 32, going round from a pointer. -/
def roundFrom (ptr : Nat) (ok : Nat → Bool) : Option Nat :=
  ((List.range 32).map (fun j => (ptr + j) % 32)).find? ok

/-- A match in progress: pairs of input and output with the frame. -/
abbrev Matched := List (Nat × Nat × Nat)

def inTaken (m : Matched) (i : Nat) : Bool := m.any (fun x => x.1 == i)
def outTaken (m : Matched) (o : Nat) : Bool := m.any (fun x => x.2.1 == o)

/-- Step 1: the cells that unmatched inputs offer to unmatched outputs. -/
def State.requests (s : State) (r : MatchRun) : Matched :=
  let others := (s.sw.runs.filter (fun x => x.quad == r.quad && x.slot != r.slot)).flatMap (·.offers)
  let ends := ((s.sw.voq.filter (fun f => f.quad == r.quad)).flatMap (fun f => f.left.map (fun x => (f.inEnd, x.1)))).eraseDups
  ends.filterMap (fun p =>
    if inTaken r.pairs p.1 ∨ outTaken r.pairs p.2 then none
    else (s.crossable r.quad r.slot others p.1 p.2).map (fun f => (p.1, p.2, f.id)))

/-- Step 2: each output grants one request. -/
def State.grants (s : State) (q : Nat) (reqs : Matched) : Matched :=
  (List.range 32).filterMap (fun o =>
    (roundFrom (sparseGet 0 s.sw.grant (q * 32 + o)) (fun i => reqs.any (fun x => x.1 == i && x.2.1 == o))).bind
      (fun i => reqs.find? (fun x => x.1 == i && x.2.1 == o)))

/-- Step 3: an input accepts one grant; a replicated frame goes to every output of its fanout that granted it (R291). -/
def State.accepts (s : State) (q : Nat) (gs : Matched) (i : Nat) : Matched :=
  match roundFrom (sparseGet 0 s.sw.accept (q * 32 + i)) (fun o => gs.any (fun x => x.1 == i && x.2.1 == o)) with
  | none => []
  | some o =>
    match gs.find? (fun x => x.1 == i && x.2.1 == o) with
    | none => []
    | some x => x :: gs.filter (fun y => y.1 == i && y.2.1 != o && y.2.2 == x.2.2)

/-- One iteration of a match; the pointers move in the first. -/
def State.iterate (s : State) (r : MatchRun) : State × MatchRun :=
  let q := r.quad
  let reqs := s.requests r
  let new := (List.range 32).map (s.accepts q (s.grants q reqs))
  let s1 := if r.turns = 0 then
      { s with sw := { s.sw with
          grant := new.flatten.foldl (fun a x => sparseSet 0 a (q * 32 + x.2.1) ((x.1 + 1) % 32)) s.sw.grant
          accept := new.foldl (fun a l => match l with
            | x :: _ => sparseSet 0 a (q * 32 + x.1) ((x.2.1 + 1) % 32)
            | [] => a) s.sw.accept } }
    else s
  let kept := r.offers.filter (fun y => !reqs.any (fun x => x.1 == y.1 && x.2.1 == y.2.1))
  (s1, { r with turns := r.turns + 1, offers := kept ++ reqs, pairs := r.pairs ++ new.flatten })

/-- Let the match for a slot do its next iteration, of three. -/
def State.iterateRun (s : State) (q n : Nat) : State :=
  match s.sw.runs.find? (fun r => r.quad == q && r.slot == n && decide (r.turns < 3)) with
  | none => s
  | some r =>
    let (s1, r1) := s.iterate r
    let put := fun (x : MatchRun) => if x.quad = q ∧ x.slot = n then r1 else x
    { s1 with sw := { s1.sw with runs := s1.sw.runs.map put } }

/-! ## Crossing (R288, R290, R291) -/

/-- The quadrant that a die-to-die output leads to, and the input endpoint there. -/
def crossQuad (q o : Nat) : Nat := (q + 1 + (o - 16) / 4) % 4
def crossEnd (q o : Nat) : Nat := 16 + 4 * ((q + 3 - crossQuad q o) % 4) + (o - 16) % 4

/-- A whole frame has come through to output o: into the transmit queues there, or into the other quadrant. -/
def State.arrive (s : State) (f : SwFrame) (o : Nat) : State :=
  let many := decide (1 < f.ports.length)
  if o < 16 then
    (f.ports.filter (fun p => portQuad p.val == f.quad && portEnd p.val == o)).foldl (fun s p =>
      if many then
        let src := s.cellSource f.quad f.herd f.cells (isResp f.body)
        (s.charge f.quad f.herd src f.cells true).enterTx { f with source := src, owes := false } p
      else if f.express then
        let src := s.cellSource f.quad f.herd f.cells (isResp f.body)
        (s.charge f.quad f.herd src f.cells true).enterTx { f with source := src } p
      else s.enterTx f p) s
  else
    let t := crossQuad f.quad o
    let ports := f.ports.filter (fun p => portQuad p.val == t)
    let src := s.cellSource t f.herd f.cells (isResp f.body)
    let g : SwFrame := { f with id := s.sw.nextId, quad := t, inEnd := crossEnd f.quad o, ports := ports, source := src,
                                owes := false, express := false, left := ((ports.map (fun p => portEnd p.val)).eraseDups).map (fun e => (e, f.cells)) }
    let s1 := ({ s with sw := { s.sw with voq := s.sw.voq ++ [g], nextId := s.sw.nextId + 1 } }).charge t f.herd src f.cells true
    (s1.tally f.herd (0x6C0 + 16 * f.quad + 7 + (o - 16) / 4) f.cells).tally f.herd
      (0x6C0 + 16 * t + 10 + (f.quad + 3 - t) % 4) f.cells

/-- One cell of a frame crosses to output o. -/
def State.crossCell (s : State) (q : Nat) (x : Nat × Nat × Nat) : State :=
  let o := x.2.1
  match s.sw.voq.find? (fun f => f.id == x.2.2 && f.left.any (fun y => y.1 == o && decide (0 < y.2))) with
  | none => s
  | some f =>
    let left := f.left.map (fun y => if y.1 = o then (o, y.2 - 1) else y)
    let put := fun (g : SwFrame) => if g.id = f.id then { f with left := left } else g
    let s1 := ({ s with sw := { s.sw with voq := s.sw.voq.map put } }).tally f.herd (0x6C0 + 16 * q) 1
    if left.any (fun y => y.1 == o && y.2 == 0) then
      { s1 with sw := { s1.sw with rrClass := sparseSet 0 s1.sw.rrClass (pairKey q f.inEnd o) ((f.cls + 1) % 8) } }
    else s1

/-- The whole frames at the head of a queue go on, in the order that the queue held them (R288). -/
def State.drainQueue (s : State) (q i o c : Nat) : Nat → State
  | 0 => s
  | k + 1 =>
    match s.sw.voq.find? (fun f => f.quad == q && f.inEnd == i && f.cls == c && f.left.any (fun y => y.1 == o)) with
    | none => s
    | some f =>
      if f.left.any (fun y => y.1 == o && decide (0 < y.2)) then s
      else
        let f1 := { f with left := f.left.filter (fun y => y.1 != o) }
        let s1 := s.arrive f o
        if f1.left.isEmpty then
          let s2 := { s1 with sw := { s1.sw with voq := s1.sw.voq.filter (fun g => g.id != f.id) } }
          (if o < 16 ∧ f.ports.length ≤ 1 then s2
           else (s2.charge q f.herd f.source f.cells false).payFrame f).drainQueue q i o c k
        else
          let put := fun (g : SwFrame) => if g.id = f.id then f1 else g
          ({ s1 with sw := { s1.sw with voq := s1.sw.voq.map put } }).drainQueue q i o c k

/-- Every queue of a quadrant in which a whole frame has come through. -/
def State.drainQueues (s : State) (q : Nat) : State :=
  let whole := (s.sw.voq.filter (fun f => f.quad == q)).flatMap (fun f =>
    (f.left.filter (fun y => y.2 == 0)).map (fun y => (f.inEnd, y.1, f.cls)))
  whole.eraseDups.foldl (fun s x => s.drainQueue q x.1 x.2.1 x.2.2 (s.sw.voq.length)) s

/-- One core-cycle slot of a quadrant: the cells of its match cross, the match for the slot four ahead begins, and each match
under way does an iteration. -/
def State.matchSlot (s : State) (q : Nat) : State :=
  let n := quadGet s.sw.slot q
  let now := fun (r : MatchRun) => r.quad == q && r.slot == n
  let cells := (s.sw.runs.filter now).flatMap (·.pairs)
  let s0 := { s with sw := { s.sw with slot := quadSet s.sw.slot q (n + 1)
                                       runs := s.sw.runs.filter (fun r => !now r) ++ [MatchRun.mk q (n + 4) 0 [] []] } }
  let s1 := if cells.isEmpty then s0.count (0x6C0 + 16 * q + 6) 1 else cells.foldl (fun s x => s.crossCell q x) s0
  ((((s1.drainQueues q).iterateRun q (n + 1)).iterateRun q (n + 2)).iterateRun q (n + 3)).iterateRun q (n + 4)

/-! ## The commands -/

def execCellCrossing (q : QuadId) (s : State) : Host.Outcome State Fault Refusal :=
  if s.flt.quadsLost.contains q.val then .next s else (s.matchSlot q.val).done

def execFrameReadback (frame : Nat) (s : State) : Host.Outcome State Fault Refusal := (s.readBack frame).done

def execCreditRelease (p : PortId) (cls : Fin 8) (s : State) : Host.Outcome State Fault Refusal :=
  (s.creditRelease p cls.val).done

def execFrameTransmit (p : PortId) (s : State) : Host.Outcome State Fault Refusal := (s.transmit p).fencesGo.done

def execGateEntryBoundary (p : PortId) (s : State) : Host.Outcome State Fault Refusal := (s.gateBoundary p.val).done

def execQueueSample (q : QueueId) (s : State) : Host.Outcome State Fault Refusal := (s.sampleQueue q.val).done

end Sys2Proof.Machine
end

