-- ==== Sys2Proof/Machine/Dispatch.lean ====
section
/-! DEFINITION. The dispatch of commands: one arm per constructor, one direct call of its meaning. -/

namespace Sys2Proof.Machine

def exec (i : Instr) (s : State) : Host.Outcome State Fault Refusal :=
  match i with
  | .load f => Sys2Proof.Machine.execLoad f s
  | .store f => Sys2Proof.Machine.execStore f s
  | .pstore f => Sys2Proof.Machine.execPstore f s
  | .atomicSwap f => Sys2Proof.Machine.execAtomicSwap f s
  | .atomicCas f => Sys2Proof.Machine.execAtomicCas f s
  | .atomicAdd f => Sys2Proof.Machine.execAtomicAdd f s
  | .atomicAnd f => Sys2Proof.Machine.execAtomicAnd f s
  | .atomicOr f => Sys2Proof.Machine.execAtomicOr f s
  | .atomicXor f => Sys2Proof.Machine.execAtomicXor f s
  | .atomicSmax f => Sys2Proof.Machine.execAtomicSmax f s
  | .atomicSmin f => Sys2Proof.Machine.execAtomicSmin f s
  | .atomicUmax f => Sys2Proof.Machine.execAtomicUmax f s
  | .atomicUmin f => Sys2Proof.Machine.execAtomicUmin f s
  | .atomicFadd f => Sys2Proof.Machine.execAtomicFadd f s
  | .publish f => Sys2Proof.Machine.execPublish f s
  | .invalidate f => Sys2Proof.Machine.execInvalidate f s
  | .flush f => Sys2Proof.Machine.execFlush f s
  | .fence f => Sys2Proof.Machine.execFence f s
  | .kick f => Sys2Proof.Machine.execKick f s
  | .complete f => Sys2Proof.Machine.execComplete f s
  | .mgmtRead f => Sys2Proof.Machine.execMgmtRead f s
  | .mgmtWrite f => Sys2Proof.Machine.execMgmtWrite f s
  | .timexSync p f => Sys2Proof.Machine.execTimexSync p f s
  | .timexReply p f => Sys2Proof.Machine.execTimexReply p f s
  | .timexFollow p f => Sys2Proof.Machine.execTimexFollow p f s
  | .timeExchangePeriod => Sys2Proof.Machine.execTimeExchangePeriod s
  | .respData src => Sys2Proof.Machine.execRespData src s
  | .respAck src => Sys2Proof.Machine.execRespAck src s
  | .respMgmt src => Sys2Proof.Machine.execRespMgmt src s
  | .linkFrameDrop p why timex => Sys2Proof.Machine.execLinkFrameDrop p why timex s
  | .nakReceived p env => Sys2Proof.Machine.execNakReceived p env s
  | .replayTimerExpiry p => Sys2Proof.Machine.execReplayTimerExpiry p s
  | .loadTimeoutExpiry req => Sys2Proof.Machine.execLoadTimeoutExpiry req s
  | .endpointRequestRelease p => Sys2Proof.Machine.execEndpointRequestRelease p s
  | .herdConfigure path n => Sys2Proof.Machine.execHerdConfigure path n s
  | .herdActivate path n => Sys2Proof.Machine.execHerdActivate path n s
  | .herdUnconfigure path n => Sys2Proof.Machine.execHerdUnconfigure path n s
  | .herdClose path n => Sys2Proof.Machine.execHerdClose path n s
  | .herdCloseDone n => Sys2Proof.Machine.execHerdCloseDone n s
  | .odWrite path a value => Sys2Proof.Machine.execOdWrite path a value s
  | .configAreaProgramDone copy0 copy1 => Sys2Proof.Machine.execConfigAreaProgramDone copy0 copy1 s
  | .sourceWrite path upstream value => Sys2Proof.Machine.execSourceWrite path upstream value s
  | .todSet path value => Sys2Proof.Machine.execTodSet path value s
  | .allowStep path => Sys2Proof.Machine.execAllowStep path s
  | .ptpOffset path value => Sys2Proof.Machine.execPtpOffset path value s
  | .ftPpsEdge short => Sys2Proof.Machine.execFtPpsEdge short s
  | .timeSourceTimeout => Sys2Proof.Machine.execTimeSourceTimeout s
  | .holdoverLimitExpiry => Sys2Proof.Machine.execHoldoverLimitExpiry s
  | .sidebandSync => Sys2Proof.Machine.execSidebandSync s
  | .triggerArm path n => Sys2Proof.Machine.execTriggerArm path n s
  | .triggerDisarm path n => Sys2Proof.Machine.execTriggerDisarm path n s
  | .triggerFireNone n => Sys2Proof.Machine.execTriggerFireNone n s
  | .triggerGateChange n => Sys2Proof.Machine.execTriggerGateChange n s
  | .triggerRingKick n => Sys2Proof.Machine.execTriggerRingKick n s
  | .triggerCounterLatch n => Sys2Proof.Machine.execTriggerCounterLatch n s
  | .triggerOptimizerStep n => Sys2Proof.Machine.execTriggerOptimizerStep n s
  | .journalIntervalExpiry => Sys2Proof.Machine.execJournalIntervalExpiry s
  | .extCreate path e => Sys2Proof.Machine.execExtCreate path e s
  | .extGrow path e => Sys2Proof.Machine.execExtGrow path e s
  | .extShrink path e => Sys2Proof.Machine.execExtShrink path e s
  | .extPlace path e => Sys2Proof.Machine.execExtPlace path e s
  | .extRehome path e => Sys2Proof.Machine.execExtRehome path e s
  | .extRevoke path e => Sys2Proof.Machine.execExtRevoke path e s
  | .extReady path e => Sys2Proof.Machine.execExtReady path e s
  | .extShare path e => Sys2Proof.Machine.execExtShare path e s
  | .extUnshare path e => Sys2Proof.Machine.execExtUnshare path e s
  | .compositionSwitch e => Sys2Proof.Machine.execCompositionSwitch e s
  | .compositionDeadlineExpiry e => Sys2Proof.Machine.execCompositionDeadlineExpiry e s
  | .revokeDrainEnd e => Sys2Proof.Machine.execRevokeDrainEnd e s
  | .revokeTimeoutExpiry e => Sys2Proof.Machine.execRevokeTimeoutExpiry e s
  | .revokeFree e => Sys2Proof.Machine.execRevokeFree e s
  | .granuleFillDone e g => Sys2Proof.Machine.execGranuleFillDone e g s
  | .granuleEviction e g => Sys2Proof.Machine.execGranuleEviction e g s
  | .backgroundZeroing e g chunk => Sys2Proof.Machine.execBackgroundZeroing e g chunk s
  | .chunkCleanDone e g chunk => Sys2Proof.Machine.execChunkCleanDone e g chunk s
  | .blockExpansionDone e block => Sys2Proof.Machine.execBlockExpansionDone e block s
  | .thaw path e value => Sys2Proof.Machine.execThaw path e value s
  | .readerRegister path r => Sys2Proof.Machine.execReaderRegister path r s
  | .invalTimeoutExpiry e r => Sys2Proof.Machine.execInvalTimeoutExpiry e r s
  | .gets a e line => Sys2Proof.Machine.execGets a e line s
  | .getm a e line => Sys2Proof.Machine.execGetm a e line s
  | .puts a e line => Sys2Proof.Machine.execPuts a e line s
  | .putm a e line => Sys2Proof.Machine.execPutm a e line s
  | .fwds a e line => Sys2Proof.Machine.execFwds a e line s
  | .fwdm a e line => Sys2Proof.Machine.execFwdm a e line s
  | .fwdr a e line => Sys2Proof.Machine.execFwdr a e line s
  | .cohInv a e line => Sys2Proof.Machine.execCohInv a e line s
  | .invack a e line => Sys2Proof.Machine.execInvack a e line s
  | .cohData a e line => Sys2Proof.Machine.execCohData a e line s
  | .compack a e line => Sys2Proof.Machine.execCompack a e line s
  | .probeTimeoutExpiry a e line => Sys2Proof.Machine.execProbeTimeoutExpiry a e line s
  | .rutBufferLoaded e line => Sys2Proof.Machine.execRutBufferLoaded e line s
  | .rutExecute e line => Sys2Proof.Machine.execRutExecute e line s
  | .rutWindowEnd q => Sys2Proof.Machine.execRutWindowEnd q s
  | .tNop t h w => Sys2Proof.Machine.execTNop t h w s
  | .tAdd t h w => Sys2Proof.Machine.execTAdd t h w s
  | .tSub t h w => Sys2Proof.Machine.execTSub t h w s
  | .tMul t h w => Sys2Proof.Machine.execTMul t h w s
  | .tAnd t h w => Sys2Proof.Machine.execTAnd t h w s
  | .tOr t h w => Sys2Proof.Machine.execTOr t h w s
  | .tXor t h w => Sys2Proof.Machine.execTXor t h w s
  | .tShl t h w => Sys2Proof.Machine.execTShl t h w s
  | .tShr t h w => Sys2Proof.Machine.execTShr t h w s
  | .tSra t h w => Sys2Proof.Machine.execTSra t h w s
  | .tSlt t h w => Sys2Proof.Machine.execTSlt t h w s
  | .tSltu t h w => Sys2Proof.Machine.execTSltu t h w s
  | .tAddi t h w => Sys2Proof.Machine.execTAddi t h w s
  | .tLih t h w => Sys2Proof.Machine.execTLih t h w s
  | .tBeq t h w => Sys2Proof.Machine.execTBeq t h w s
  | .tBne t h w => Sys2Proof.Machine.execTBne t h w s
  | .tBlt t h w => Sys2Proof.Machine.execTBlt t h w s
  | .tBge t h w => Sys2Proof.Machine.execTBge t h w s
  | .tJal t h w => Sys2Proof.Machine.execTJal t h w s
  | .tJr t h w => Sys2Proof.Machine.execTJr t h w s
  | .tLds t h w => Sys2Proof.Machine.execTLds t h w s
  | .tSts t h w => Sys2Proof.Machine.execTSts t h w s
  | .tWait t h w => Sys2Proof.Machine.execTWait t h w s
  | .tBar t h w => Sys2Proof.Machine.execTBar t h w s
  | .tExit t h w => Sys2Proof.Machine.execTExit t h w s
  | .tSysFabricTime t h w => Sys2Proof.Machine.execTSysFabricTime t h w s
  | .tSysQuality t h w => Sys2Proof.Machine.execTSysQuality t h w s
  | .tSysTineNumber t h w => Sys2Proof.Machine.execTSysTineNumber t h w s
  | .tSysErr t h w => Sys2Proof.Machine.execTSysErr t h w s
  | .tSysCycleCount t h w => Sys2Proof.Machine.execTSysCycleCount t h w s
  | .tRld t h w => Sys2Proof.Machine.execTRld t h w s
  | .tRst t h w => Sys2Proof.Machine.execTRst t h w s
  | .tRpst t h w => Sys2Proof.Machine.execTRpst t h w s
  | .tRatom t h w => Sys2Proof.Machine.execTRatom t h w s
  | .tRpub t h w => Sys2Proof.Machine.execTRpub t h w s
  | .tRflush t h w => Sys2Proof.Machine.execTRflush t h w s
  | .tRfence t h w => Sys2Proof.Machine.execTRfence t h w s
  | .tRkick t h w => Sys2Proof.Machine.execTRkick t h w s
  | .tRcompl t h w => Sys2Proof.Machine.execTRcompl t h w s
  | .tRldc t h w => Sys2Proof.Machine.execTRldc t h w s
  | .tVadd t h w => Sys2Proof.Machine.execTVadd t h w s
  | .tVmul t h w => Sys2Proof.Machine.execTVmul t h w s
  | .tVfma t h w => Sys2Proof.Machine.execTVfma t h w s
  | .tVmax t h w => Sys2Proof.Machine.execTVmax t h w s
  | .tVmin t h w => Sys2Proof.Machine.execTVmin t h w s
  | .tVexp2 t h w => Sys2Proof.Machine.execTVexp2 t h w s
  | .tVrcp t h w => Sys2Proof.Machine.execTVrcp t h w s
  | .tVcvt t h w => Sys2Proof.Machine.execTVcvt t h w s
  | .tVsum t h w => Sys2Proof.Machine.execTVsum t h w s
  | .tMma t h w => Sys2Proof.Machine.execTMma t h w s
  | .tMmaz t h w => Sys2Proof.Machine.execTMmaz t h w s
  | .vectorUnitDone t => Sys2Proof.Machine.execVectorUnitDone t s
  | .matrixUnitDone t => Sys2Proof.Machine.execMatrixUnitDone t s
  | .ringStart path r => Sys2Proof.Machine.execRingStart path r s
  | .ringStop path r => Sys2Proof.Machine.execRingStop path r s
  | .ringResume path r => Sys2Proof.Machine.execRingResume path r s
  | .ringReset path r => Sys2Proof.Machine.execRingReset path r s
  | .commandLaunch => Sys2Proof.Machine.execCommandLaunch s
  | .nopCommand cid => Sys2Proof.Machine.execNopCommand cid s
  | .kernelCommand cid => Sys2Proof.Machine.execKernelCommand cid s
  | .commandCompletion cid => Sys2Proof.Machine.execCommandCompletion cid s
  | .contextStart path c => Sys2Proof.Machine.execContextStart path c s
  | .contextStop path c => Sys2Proof.Machine.execContextStop path c s
  | .contextResume path c => Sys2Proof.Machine.execContextResume path c s
  | .contextReset path c => Sys2Proof.Machine.execContextReset path c s
  | .memberActivate path ix => Sys2Proof.Machine.execMemberActivate path ix s
  | .collContrib f => Sys2Proof.Machine.execCollContrib f s
  | .collPartial f => Sys2Proof.Machine.execCollPartial f s
  | .collResult f => Sys2Proof.Machine.execCollResult f s
  | .collAbort f => Sys2Proof.Machine.execCollAbort f s
  | .stepTimeoutExpiry c => Sys2Proof.Machine.execStepTimeoutExpiry c s
  | .nodeStepTimeout c => Sys2Proof.Machine.execNodeStepTimeout c s
  | .entropyHealthFail q => Sys2Proof.Machine.execEntropyHealthFail q s
  | .collContribute cid => Sys2Proof.Machine.execCollContribute cid s
  | .collBroadcast cid => Sys2Proof.Machine.execCollBroadcast cid s
  | .tableGather cid => Sys2Proof.Machine.execTableGather cid s
  | .tableScatterAdd cid => Sys2Proof.Machine.execTableScatterAdd cid s
  | .tableFilter cid => Sys2Proof.Machine.execTableFilter cid s
  | .attnDecode cid => Sys2Proof.Machine.execAttnDecode cid s
  | .epochReread cid => Sys2Proof.Machine.execEpochReread cid s
  | .editTimeoutExpiry cid => Sys2Proof.Machine.execEditTimeoutExpiry cid s
  | .pageTaskDone cid task => Sys2Proof.Machine.execPageTaskDone cid task s
  | .attnAppend cid => Sys2Proof.Machine.execAttnAppend cid s
  | .appendPublication cid => Sys2Proof.Machine.execAppendPublication cid s
  | .ownClaim cid => Sys2Proof.Machine.execOwnClaim cid s
  | .ownPrepare cid => Sys2Proof.Machine.execOwnPrepare cid s
  | .ownCommit cid => Sys2Proof.Machine.execOwnCommit cid s
  | .ownAbort cid => Sys2Proof.Machine.execOwnAbort cid s
  | .ownRelease cid => Sys2Proof.Machine.execOwnRelease cid s
  | .ownForce cid => Sys2Proof.Machine.execOwnForce cid s
  | .ownQuery cid => Sys2Proof.Machine.execOwnQuery cid s
  | .ownDrop cid => Sys2Proof.Machine.execOwnDrop cid s
  | .handoffTimeoutExpiry rec => Sys2Proof.Machine.execHandoffTimeoutExpiry rec s
  | .ruleSetActivate path r => Sys2Proof.Machine.execRuleSetActivate path r s
  | .ruleSetFree path r => Sys2Proof.Machine.execRuleSetFree path r s
  | .entryRecordWrite path ix value => Sys2Proof.Machine.execEntryRecordWrite path ix value s
  | .matchSearch cid => Sys2Proof.Machine.execMatchSearch cid s
  | .matchNext cid => Sys2Proof.Machine.execMatchNext cid s
  | .matchUpdate cid => Sys2Proof.Machine.execMatchUpdate cid s
  | .cellCrossing q => Sys2Proof.Machine.execCellCrossing q s
  | .frameReadback frame => Sys2Proof.Machine.execFrameReadback frame s
  | .creditRelease p cls => Sys2Proof.Machine.execCreditRelease p cls s
  | .mcgroupActivate path g => Sys2Proof.Machine.execMcgroupActivate path g s
  | .frameTransmit p => Sys2Proof.Machine.execFrameTransmit p s
  | .gateStart path p => Sys2Proof.Machine.execGateStart path p s
  | .gateStop path p => Sys2Proof.Machine.execGateStop path p s
  | .gateEntryBoundary p => Sys2Proof.Machine.execGateEntryBoundary p s
  | .queueSample q => Sys2Proof.Machine.execQueueSample q s
  | .histClear path q => Sys2Proof.Machine.execHistClear path q s
  | .portRetrain path p => Sys2Proof.Machine.execPortRetrain path p s
  | .laneSignalLoss l => Sys2Proof.Machine.execLaneSignalLoss l s
  | .laneSerCheck l corrected => Sys2Proof.Machine.execLaneSerCheck l corrected s
  | .trainingStageDone p r => Sys2Proof.Machine.execTrainingStageDone p r s
  | .trainingStageTimeout p => Sys2Proof.Machine.execTrainingStageTimeout p s
  | .trainingRetry p => Sys2Proof.Machine.execTrainingRetry p s
  | .penaltyReuse p => Sys2Proof.Machine.execPenaltyReuse p s
  | .linkStateRecord r => Sys2Proof.Machine.execLinkStateRecord r s
  | .switchTimeReached dst => Sys2Proof.Machine.execSwitchTimeReached dst s
  | .cxlLinkFail p => Sys2Proof.Machine.execCxlLinkFail p s
  | .cxlDcAdd p region => Sys2Proof.Machine.execCxlDcAdd p region s
  | .cxlDcReleaseRequest p region => Sys2Proof.Machine.execCxlDcReleaseRequest p region s
  | .shelfAttach p geo => Sys2Proof.Machine.execShelfAttach p geo s
  | .shelfCompletion p c => Sys2Proof.Machine.execShelfCompletion p c s
  | .shelfOpTimeoutExpiry p tag => Sys2Proof.Machine.execShelfOpTimeoutExpiry p tag s
  | .mapCheckpoint p => Sys2Proof.Machine.execMapCheckpoint p s
  | .garbageCollection p => Sys2Proof.Machine.execGarbageCollection p s
  | .wearLevelling p => Sys2Proof.Machine.execWearLevelling p s
  | .blockRefresh p block => Sys2Proof.Machine.execBlockRefresh p block s
  | .volumeDelete path v value => Sys2Proof.Machine.execVolumeDelete path v value s
  | .mailboxDoorbell slot msg => Sys2Proof.Machine.execMailboxDoorbell slot msg s
  | .respReadyClear bits => Sys2Proof.Machine.execRespReadyClear bits s
  | .setEndpointId eid => Sys2Proof.Machine.execSetEndpointId eid s
  | .getEndpointId => Sys2Proof.Machine.execGetEndpointId s
  | .getMctpVersionSupport => Sys2Proof.Machine.execGetMctpVersionSupport s
  | .getMessageTypeSupport => Sys2Proof.Machine.execGetMessageTypeSupport s
  | .mctpVendorMessage msgType body => Sys2Proof.Machine.execMctpVendorMessage msgType body s
  | .fwInstall path img => Sys2Proof.Machine.execFwInstall path img s
  | .installDone programmed => Sys2Proof.Machine.execInstallDone programmed s
  | .commitPlain path => Sys2Proof.Machine.execCommitPlain path s
  | .commitProtected path => Sys2Proof.Machine.execCommitProtected path s
  | .fuseBlowDone => Sys2Proof.Machine.execFuseBlowDone s
  | .velvetTimeoutExpiry => Sys2Proof.Machine.execVelvetTimeoutExpiry s
  | .attestGenerate path => Sys2Proof.Machine.execAttestGenerate path s
  | .reportReady path => Sys2Proof.Machine.execReportReady path s
  | .keyLoad path n => Sys2Proof.Machine.execKeyLoad path n s
  | .linkLoad path p => Sys2Proof.Machine.execLinkLoad path p s
  | .advanceProvisioned path => Sys2Proof.Machine.execAdvanceProvisioned path s
  | .advanceDeployed path => Sys2Proof.Machine.execAdvanceDeployed path s
  | .advanceReturned path => Sys2Proof.Machine.execAdvanceReturned path s
  | .debugLevelWrite path level => Sys2Proof.Machine.execDebugLevelWrite path level s
  | .errorDetected src => Sys2Proof.Machine.execErrorDetected src s
  | .handlerEnd => Sys2Proof.Machine.execHandlerEnd s
  | .handlerLimitExpiry => Sys2Proof.Machine.execHandlerLimitExpiry s
  | .faultRecover path => Sys2Proof.Machine.execFaultRecover path s
  | .basicModeExit => Sys2Proof.Machine.execBasicModeExit s
  | .tineWatchdogExpiry t => Sys2Proof.Machine.execTineWatchdogExpiry t s
  | .tgCanaryTimer n => Sys2Proof.Machine.execTgCanaryTimer n s
  | .tineRelease path t => Sys2Proof.Machine.execTineRelease path t s
  | .dualRepeatDone q v => Sys2Proof.Machine.execDualRepeatDone q v s
  | .dualRepeatTimeout q => Sys2Proof.Machine.execDualRepeatTimeout q s
  | .mgmtCoreWatchdogExpiry q => Sys2Proof.Machine.execMgmtCoreWatchdogExpiry q s
  | .d2dLinkFailure qa qb endpoints => Sys2Proof.Machine.execD2dLinkFailure qa qb endpoints s
  | .logicCheck u => Sys2Proof.Machine.execLogicCheck u s
  | .hbmStackLost k => Sys2Proof.Machine.execHbmStackLost k s
  | .keyStoreCheckFail q => Sys2Proof.Machine.execKeyStoreCheckFail q s
  | .reduceSelfCheckFail u => Sys2Proof.Machine.execReduceSelfCheckFail u s
  | .eventRecordIssue ix device => Sys2Proof.Machine.execEventRecordIssue ix device s
  | .mergeWindowEnd => Sys2Proof.Machine.execMergeWindowEnd s
  | .logNext path => Sys2Proof.Machine.execLogNext path s
  | .profileActivate path n => Sys2Proof.Machine.execProfileActivate path n s
  | .profileFree path n => Sys2Proof.Machine.execProfileFree path n s
  | .traceStart path => Sys2Proof.Machine.execTraceStart path s
  | .traceStop path => Sys2Proof.Machine.execTraceStop path s
  | .traceFilterOn path ix => Sys2Proof.Machine.execTraceFilterOn path ix s
  | .stotNow path => Sys2Proof.Machine.execStotNow path s
  | .stotNEdge short => Sys2Proof.Machine.execStotNEdge short s
  | .dumpDone => Sys2Proof.Machine.execDumpDone s
  | .hangWatchdogCheck => Sys2Proof.Machine.execHangWatchdogCheck s
  | .graphBuild path => Sys2Proof.Machine.execGraphBuild path s
  | .graphPeriodExpiry => Sys2Proof.Machine.execGraphPeriodExpiry s
  | .graphBuildDone => Sys2Proof.Machine.execGraphBuildDone s
  | .powerGovernorSample r => Sys2Proof.Machine.execPowerGovernorSample r s
  | .referenceCheck r => Sys2Proof.Machine.execReferenceCheck r s
  | .pointStepDone q => Sys2Proof.Machine.execPointStepDone q s
  | .thermalSample r => Sys2Proof.Machine.execThermalSample r s
  | .droopDetected q => Sys2Proof.Machine.execDroopDetected q s
  | .quadrantGate path q => Sys2Proof.Machine.execQuadrantGate path q s
  | .quadrantUngate path q => Sys2Proof.Machine.execQuadrantUngate path q s
  | .requestP0 path => Sys2Proof.Machine.execRequestP0 path s
  | .requestP2 path => Sys2Proof.Machine.execRequestP2 path s
  | .requestP3 path => Sys2Proof.Machine.execRequestP3 path s
  | .requestP4 path => Sys2Proof.Machine.execRequestP4 path s
  | .powerTransitionDone => Sys2Proof.Machine.execPowerTransitionDone s
  | .pfwNAssert short => Sys2Proof.Machine.execPfwNAssert short s
  | .pfwNRelease => Sys2Proof.Machine.execPfwNRelease s
  | .flushDone => Sys2Proof.Machine.execFlushDone s
  | .resetNAssert => Sys2Proof.Machine.execResetNAssert s
  | .resetNRelease => Sys2Proof.Machine.execResetNRelease s
  | .bootStageAdvance r => Sys2Proof.Machine.execBootStageAdvance r s
  | .jiythRetrain up => Sys2Proof.Machine.execJiythRetrain up s
  | .vddAonUndervoltage => Sys2Proof.Machine.execVddAonUndervoltage s
  | .railUndervoltage rail => Sys2Proof.Machine.execRailUndervoltage rail s
  | .inputStuck pin => Sys2Proof.Machine.execInputStuck pin s
  | .rateHoldRelease pin => Sys2Proof.Machine.execRateHoldRelease pin s
  | .jiythLinkDown => Sys2Proof.Machine.execJiythLinkDown s
  | .i3cDynamicAddressAssign addr => Sys2Proof.Machine.execI3cDynamicAddressAssign addr s
  | .jtagAccess op => Sys2Proof.Machine.execJtagAccess op s
  | .granuleMove e g frame => Sys2Proof.Machine.execGranuleMove e g frame s

end Sys2Proof.Machine
end

