-- ==== Sys2Proof/Machine/Tick.lean ====
section
/-! DEFINITION. What one cycle of the 1.6 GHz time clock does (R50, log entry 6). -/

namespace Sys2Proof.Machine

/-- The cycles of the time clock in a second (R50). -/
def cyclesPerSecond : Nat := 1600000000

/-- Every quadrant's counter takes its increment and keeps the fraction (R50); once steering has removed an offset, the
increment is the nominal one again (R53). -/
def State.countTime (s : State) : State :=
  let t := s.time
  let add := fun (q : Nat) => (quadGet t.ctr q + quadGet t.inc q) % 2 ^ 104
  let own := quadGet t.inc s.timeQuad
  let off := (own - nominalInc) + (nominalInc - own)
  { s with time := { t with
      ctr := ⟨add 0, add 1, add 2, add 3⟩, left := t.left - off,
      inc := if t.left ≠ 0 ∧ t.left ≤ off then quadSet t.inc s.timeQuad nominalInc else t.inc } }

/-- The tines' cycles, sixteen to the unit: a quadrant at a point of Table 19.3 runs 12 + 3 × POINT of them in 16 cycles of
the time clock. -/
def State.countTines (s : State) : State :=
  let add := fun (q : Nat) => quadGet s.cpu.cycles q +
    (if s.halted || s.rd od4C08_GATE q == 1 then 0 else 12 + 3 * s.rd od4C08_POINT q)
  { s with cpu := { s.cpu with cycles := ⟨add 0, add 1, add 2, add 3⟩ } }

/-- The BIN_SECONDS of a junction temperature in 0.1 °C (Table 2.8). -/
def ledgerBin (t : Int) : Ent :=
  if t < 350 then od5010_BIN_SECONDS0 else if t < 500 then od5010_BIN_SECONDS1 else if t < 600 then od5010_BIN_SECONDS2
  else if t < 700 then od5010_BIN_SECONDS3 else if t < 800 then od5010_BIN_SECONDS4 else if t < 900 then od5010_BIN_SECONDS5
  else if t < 1000 then od5010_BIN_SECONDS6 else od5010_BIN_SECONDS7

/-- What the life ledger counts once a second (R67). -/
def State.countSecond (s : State) : State :=
  foldState (s.bump od5000_POWER_ON_SECONDS 0 64 1) [0, 1, 2, 3] (fun s q => s.bump (ledgerBin (s.hottest q)) q 64 1)

/-- Records that wait for room in a ring go out once there is room (R175, R405). -/
def State.payAll (s : State) : State :=
  (((s.cpu.owed.map (·.ring)).eraseDups).foldl (fun s ring => s.payOwed ring s.cpu.owed.length) s).releaseDone

/-- Requests of the A9's own senders that wait at their ingress go on where they may, as when a command that held them back
has ended (R89, R180). -/
def State.advanceUnits (s : State) : State :=
  let waits := s.tr.outstanding.filter (fun r => (r.atRate || r.place == .order) && (match r.sender with | .port _ | .trunk _ | .companion => false | _ => true))
  ((waits.map (·.hdr.src)).eraseDups).foldl State.advance s

/-- The core cycles that begin in this cycle of the time clock: nine in eight (R15). -/
def State.countCore (s : State) : State :=
  let s1 := s.homeCycle
  if s.up % 8 = 0 then s1.homeCycle else s1

/-- One cycle of the time clock. In reset nothing but the model's own count of cycles goes on (R51). -/
def State.tick (s : State) : State :=
  let inc := if s.pins.inReset then nominalInc else quadGet s.time.inc s.timeQuad
  let s0 := { s with up := s.up + 1, time := { s.time with span := s.time.span + inc } }
  if s.pins.inReset then s0
  else
    let s1 := s0.countTime.countTines
    let s2 := if s1.up % cyclesPerSecond = 0 then s1.countSecond else s1
    let s3 := s2.endCanaries
    (if s3.halted then s3 else s3.countCore.payAll.advanceUnits).runMgmt

end Sys2Proof.Machine
end

