-- ==== Sys2Proof/Safety.lean ====
section
/-! DEFINITION. What counts as a safe step: one that answers a next state; the invariant that every command keeps, and what
no command ever undoes. -/

namespace Sys2Proof

/-- The step of a state stops with no fault and no refusal. -/
def Proceeds (s : Machine.State) : Prop := ∃ t, Machine.step s = .next t

namespace Machine

/-- The object dictionary, the pool's three memories, the tines' SRAM, and the tables of links, of herd keys and of granules
are in their canonical form. -/
def State.canonical (s : State) : Prop :=
  sparseWf odDefault s.od ∧ Memory.wf s.pool.mem ∧ Memory.wf s.pool.cxl ∧ Memory.wf s.pool.flash ∧ Memory.wf s.cpu.sram ∧
  sparseWf (fun _ => linkNew) s.tr.links ∧ sparseWf (fun _ => 0) s.sec.keys ∧ sparseWf (fun _ => granNew) s.pool.gran

/-- The handler stack of R409 and R410: from the top down the classes fall, correctable 1 to the basic-entry frame's 4; every
error that waits has a class of Table 17.1; each of the two queues of R412 holds at most 64 sources. -/
def Faults.nested (f : Faults) : Prop :=
  f.stack.Pairwise (fun a b => b.cls < a.cls) ∧ (∀ x ∈ f.stack, 1 ≤ x.cls ∧ x.cls ≤ 4) ∧
  (∀ x ∈ f.raised, 1 ≤ x.cls ∧ x.cls ≤ 3) ∧ f.contained.length ≤ 64 ∧ f.correctable.length ≤ 64

/-- The invariant that every command keeps. -/
def State.Inv (s : State) : Prop := s.canonical ∧ s.flt.nested

/-- Nothing that only moves forward has moved back from `o` to `s`: the clock cycles, the free values used, the blown rollback
fuses and the lifecycle state (R382, R396). -/
def State.noEarlier (o s : State) : Prop :=
  o.up ≤ s.up ∧ o.freeN ≤ s.freeN ∧ o.sec.fuses ≤ s.sec.fuses ∧ o.sec.life ≤ s.sec.life

end Machine

end Sys2Proof
end

