-- ==== Sys2Proof/Certificates/Slice0/Obligations.lean ====
section
/-! DEFINITION. The statements for the provers. -/

namespace Sys2Proof.Claims

set_option Elab.async false

open Sys2Proof.Machine

/-! ## Words of the statements about tines -/

/-- The instructions of Table 6.6, each with the thread that issues it, its opcode and its fields. -/
def tineOf : Instr → Option (TineId × ThreadId × Nat × TineWord)
  | .tNop t h w => some (t, h, 0x00, w) | .tAdd t h w => some (t, h, 0x01, w) | .tSub t h w => some (t, h, 0x02, w)
  | .tMul t h w => some (t, h, 0x03, w) | .tAnd t h w => some (t, h, 0x04, w) | .tOr t h w => some (t, h, 0x05, w)
  | .tXor t h w => some (t, h, 0x06, w) | .tShl t h w => some (t, h, 0x07, w) | .tShr t h w => some (t, h, 0x08, w)
  | .tSra t h w => some (t, h, 0x09, w) | .tSlt t h w => some (t, h, 0x0A, w) | .tSltu t h w => some (t, h, 0x0B, w)
  | .tAddi t h w => some (t, h, 0x0C, w) | .tLih t h w => some (t, h, 0x0D, w) | .tBeq t h w => some (t, h, 0x10, w)
  | .tBne t h w => some (t, h, 0x11, w) | .tBlt t h w => some (t, h, 0x12, w) | .tBge t h w => some (t, h, 0x13, w)
  | .tJal t h w => some (t, h, 0x14, w) | .tJr t h w => some (t, h, 0x15, w) | .tLds t h w => some (t, h, 0x18, w)
  | .tSts t h w => some (t, h, 0x19, w) | .tWait t h w => some (t, h, 0x1C, w) | .tBar t h w => some (t, h, 0x1D, w)
  | .tExit t h w => some (t, h, 0x1E, w) | .tSysFabricTime t h w => some (t, h, 0x1F, w) | .tSysQuality t h w => some (t, h, 0x1F, w)
  | .tSysTineNumber t h w => some (t, h, 0x1F, w) | .tSysErr t h w => some (t, h, 0x1F, w)
  | .tSysCycleCount t h w => some (t, h, 0x1F, w) | .tRld t h w => some (t, h, 0x20, w) | .tRst t h w => some (t, h, 0x21, w)
  | .tRpst t h w => some (t, h, 0x22, w) | .tRatom t h w => some (t, h, 0x23, w) | .tRpub t h w => some (t, h, 0x24, w)
  | .tRflush t h w => some (t, h, 0x25, w) | .tRfence t h w => some (t, h, 0x26, w) | .tRkick t h w => some (t, h, 0x27, w)
  | .tRcompl t h w => some (t, h, 0x28, w) | .tRldc t h w => some (t, h, 0x29, w) | .tVadd t h w => some (t, h, 0x30, w)
  | .tVmul t h w => some (t, h, 0x31, w) | .tVfma t h w => some (t, h, 0x32, w) | .tVmax t h w => some (t, h, 0x33, w)
  | .tVmin t h w => some (t, h, 0x34, w) | .tVexp2 t h w => some (t, h, 0x35, w) | .tVrcp t h w => some (t, h, 0x36, w)
  | .tVcvt t h w => some (t, h, 0x37, w) | .tVsum t h w => some (t, h, 0x38, w) | .tMma t h w => some (t, h, 0x40, w)
  | .tMmaz t h w => some (t, h, 0x41, w)
  | _ => none

/-- Thread h of tine t, which stands as x and is one of command c, is the one to issue: it is live and ready, the tine runs,
and it is its turn (R157). -/
structure ItsTurn (s : State) (t : TineId) (h : ThreadId) (x : Thread) (c : Cmd) : Prop where
  thread : s.thread t.val h.val = x
  live : x.live = true
  ready : x.wait = .ready
  runs : s.tineRuns t.val = true
  turn : s.threadTurn t.val h.val = true
  cmd : s.cmd x.cid = some c

/-- It issues the instruction with opcode `op` and the fields `w`: the instruction cache holds that word at its pc (R176). -/
structure MayIssue (s : State) (t : TineId) (h : ThreadId) (op : Nat) (w : TineWord) (x : Thread) (c : Cmd) : Prop
    extends ItsTurn s t h x c where
  word : s.icached t.val x.pc = some (wordOf op w)

/-- The thread as its instruction finds it: the cycles of Table 6.6 to its next issue are noted. -/
def issuing (s : State) (t : TineId) (op : Nat) (x : Thread) : Thread := { x with due := (s.tine t.val).count + latency op }

/-- A tine apart from its threads and what an issue notes of it: when, how many, and the thread. -/
def tineRest (u : Tine) : Tine := { u with threads := [], issued := 0, count := 0, turn := 0 }

/-- The compute state apart from the tines and the commands in flight. -/
def cpuRest (u : Compute) : Compute := { u with tines := [], cmds := [] }

/-- A command in flight apart from the counts of its profile scope. -/
def cmdRest (c : Cmd) : Cmd := { c with scope := [] }

/-- Two states hold the same object dictionary apart from the counters of OD 4800. -/
def SameOd (s u : State) : Prop :=
  ∀ e n, e.index < 65536 → e.sub < 256 → e ≠ od4800_COUNTER → u.rd e n = s.rd e n

/-- From s to u, thread h of tine t comes to stand as x and nothing else changes but the counts that an issue makes: no other
thread, no byte of SRAM or of the pool, and no other part of the state. -/
structure OnlyThread (s u : State) (t : TineId) (h : ThreadId) (x : Thread) : Prop where
  thread : u.thread t.val h.val = x
  others : ∀ t' h', (t', h') ≠ (t.val, h.val) → u.thread t' h' = s.thread t' h'
  tines : ∀ t', tineRest (u.tine t') = tineRest (s.tine t')
  cpu : cpuRest u.cpu = cpuRest s.cpu
  cmds : ∀ cid, (u.cmd cid).map cmdRest = (s.cmd cid).map cmdRest
  od : SameOd s u
  rest : u = { s with od := u.od, cpu := u.cpu }

/-- A scalar instruction that writes [RD] and goes on to the next word. -/
def toRd (w : TineWord) (x : Thread) (v : Nat) : Thread := (x.setReg w.rd.toNat v).next

/-- The scalar instructions of Table 6.6 that touch no memory and start no wait, each with its thread after it. `a`, `b` and `i`
stand for [RA], [RB] and sext(IMM). -/
def scalar : Instr → Option (TineId × ThreadId × (State → Thread → Thread))
  | .tNop t h _ => some (t, h, fun _ x => x.next)
  | .tAdd t h w => some (t, h, fun _ x => toRd w x (x.ra w + x.rb w))
  | .tSub t h w => some (t, h, fun _ x => toRd w x (BitVec.ofNat 64 (x.ra w) - BitVec.ofNat 64 (x.rb w)).toNat)
  | .tMul t h w => some (t, h, fun _ x => toRd w x (BitVec.ofNat 64 (x.ra w) * BitVec.ofNat 64 (x.rb w)).toNat)
  | .tAnd t h w => some (t, h, fun _ x => toRd w x (BitVec.ofNat 64 (x.ra w) &&& BitVec.ofNat 64 (x.rb w)).toNat)
  | .tOr t h w => some (t, h, fun _ x => toRd w x (BitVec.ofNat 64 (x.ra w) ||| BitVec.ofNat 64 (x.rb w)).toNat)
  | .tXor t h w => some (t, h, fun _ x => toRd w x (BitVec.ofNat 64 (x.ra w) ^^^ BitVec.ofNat 64 (x.rb w)).toNat)
  | .tShl t h w => some (t, h, fun _ x => toRd w x (BitVec.ofNat 64 (x.ra w) <<< (x.rb w % 64)).toNat)
  | .tShr t h w => some (t, h, fun _ x => toRd w x (x.ra w >>> (x.rb w % 64)))
  | .tSra t h w => some (t, h, fun _ x => toRd w x ((BitVec.ofNat 64 (x.ra w)).sshiftRight (x.rb w % 64)).toNat)
  | .tSlt t h w => some (t, h, fun _ x => toRd w x (BitVec.slt (BitVec.ofNat 64 (x.ra w)) (BitVec.ofNat 64 (x.rb w))).toNat)
  | .tSltu t h w => some (t, h, fun _ x => toRd w x (decide (x.ra w < x.rb w)).toNat)
  | .tAddi t h w => some (t, h, fun _ x => toRd w x (BitVec.ofNat 64 (x.ra w) + w.imm.signExtend 64).toNat)
  | .tLih t h w => some (t, h, fun _ x => toRd w x (w.imm ++ BitVec.ofNat 32 (x.rdVal w)).toNat)
  | .tBeq t h w => some (t, h, fun _ x => if x.ra w = x.rb w then x.branch w.imm else x.next)
  | .tBne t h w => some (t, h, fun _ x => if x.ra w ≠ x.rb w then x.branch w.imm else x.next)
  | .tBlt t h w => some (t, h, fun _ x =>
      if BitVec.slt (BitVec.ofNat 64 (x.ra w)) (BitVec.ofNat 64 (x.rb w)) then x.branch w.imm else x.next)
  | .tBge t h w => some (t, h, fun _ x =>
      if BitVec.slt (BitVec.ofNat 64 (x.ra w)) (BitVec.ofNat 64 (x.rb w)) then x.next else x.branch w.imm)
  | .tJal t h w => some (t, h, fun _ x => { x.setReg w.rd.toNat (x.pc + 8) with
      pc := (BitVec.ofNat 64 x.pc + 8#64 * w.imm.signExtend 64).toNat })
  | .tJr t h w => some (t, h, fun _ x => { x with pc := x.ra w })
  | .tSysFabricTime t h w => if w.imm = 0 then some (t, h, fun s x => toRd w x (s.ft (t.val / 64))) else none
  | .tSysQuality t h w => if w.imm = 1 then some (t, h, fun s x => toRd w x (s.qual (t.val / 64))) else none
  | .tSysTineNumber t h w => if w.imm = 2 then some (t, h, fun _ x => toRd w x t.val) else none
  | .tSysErr t h w => if w.imm = 3 then some (t, h, fun _ x => toRd w { x with err := 0 } x.err) else none
  | .tSysCycleCount t h w => if w.imm = 4 then some (t, h, fun s x => toRd w x (quadGet s.cpu.cycles (t.val / 64) / 16)) else none
  | _ => none

/-- The state in which the effect of an instruction takes place: the issue is noted and counted (R157, Tables 6.12 and 18.2). -/
def counted (s : State) (t : TineId) (h : ThreadId) (x : Thread) (c : Cmd) : State :=
  (((s.setTine t.val { s.tine t.val with issued := s.clk, count := (s.tine t.val).count + 1, turn := h.val }).tally c.herd
    (0x400 + 2 * t.val) 1).scopeAdd x.cid 0 1).scopeAdd x.cid 1 1

/-- A remote instruction of Table 6.6 with what it asks of its operands: the length is allowed; the bytes of SRAM it reads, the
bytes its answer writes; and the operation it issues. -/
def remoteOf : Instr → Option (TineId × ThreadId × TineWord × (Thread → Bool) × (Thread → Nat × Nat) × (Thread → Nat × Nat) ×
    (State → Thread → RemoteOp))
  | .tRld t h w => some (t, h, w, fun x => remoteLen (x.rc w), fun _ => (0, 0), fun x => (x.rb w, x.rc w),
      fun _ x => ⟨.load, x.ra w, x.rc w, 0, 0, 0, [], x.rb w⟩)
  | .tRst t h w => some (t, h, w, fun x => remoteLen (x.rc w), fun x => (x.rb w, x.rc w), fun _ => (0, 0),
      fun s x => ⟨.store, x.ra w, x.rc w, 0, 0, 0, s.readSram t.val (x.rb w) (x.rc w), 0⟩)
  | .tRpst t h w => some (t, h, w, fun _ => true, fun x => (x.rb w, 64), fun _ => (0, 0),
      fun s x => ⟨.pstore, x.ra w, 64, 0, 0, x.rc w, s.readSram t.val (x.rb w) 64, 0⟩)
  | .tRatom t h w =>
      let aop := aopNamed (bitsOf w.imm.toNat 7 4)
      let size := bitsOf w.imm.toNat 3 2
      let n := (aop.bind (fun a => atomicPayload a size)).getD 0
      some (t, h, w, fun _ => true, fun x => (x.rb w, n), fun x => (x.rc w, if size = 2 then 16 else 8),
        fun s x => ⟨.atomic (aop.getD .swap), x.ra w, n, bitsOf w.imm.toNat 7 4 * 16 + size * 4, 0, 0, s.readSram t.val (x.rb w) n, x.rc w⟩)
  | .tRpub t h w => some (t, h, w, fun _ => true, fun _ => (0, 0), fun _ => (0, 0),
      fun _ x => ⟨.publish, x.ra w, 8, 0, x.rc w % 2 ^ 32, x.rb w, [], 0⟩)
  | .tRflush t h w => some (t, h, w, fun _ => true, fun _ => (0, 0), fun _ => (0, 0),
      fun _ x => ⟨.flush, x.ra w, 8, w.imm.toNat % 2 * 64, 0, x.rb w, [], 0⟩)
  | .tRfence t h w => some (t, h, w, fun _ => true, fun _ => (0, 0), fun _ => (0, 0), fun _ _ => ⟨.fence, 0, 8, 0, 0, 0, [], 0⟩)
  | .tRkick t h w => some (t, h, w, fun _ => true, fun _ => (0, 0), fun _ => (0, 0),
      fun _ x => ⟨.kick, x.ra w, 8, 0, 0, 0, toLe 8 (x.rb w), 0⟩)
  | .tRcompl t h w => some (t, h, w, fun _ => true, fun x => (x.rb w, 64), fun _ => (0, 0),
      fun s x => ⟨.complete, x.ra w, 64, 0, 0, 0, s.readSram t.val (x.rb w) 64, 0⟩)
  | .tRldc t h w => some (t, h, w, fun x => remoteLen (x.rc w), fun _ => (0, 0), fun x => (x.rb w, x.rc w),
      fun _ x => ⟨.loadc, x.ra w, x.rc w, 0, 0, 0, [], x.rb w⟩)
  | _ => none

/-- A vector instruction of Table 6.6 over one array or two: the inputs it reads, the tine cycles it keeps the unit, the values
it writes for n elements, and their number. -/
def vectorOf : Instr → Option (TineId × ThreadId × TineWord × Bool × (Nat → Nat) × (Nat → Nat) × (List Nat → List Nat → List Nat → List Nat))
  | .tVadd t h w => some (t, h, w, true, busy8, id, fun a b _ => (a.zip b).map (fun p => add32 p.1 p.2))
  | .tVmul t h w => some (t, h, w, true, busy8, id, fun a b _ => (a.zip b).map (fun p => mul32 p.1 p.2))
  | .tVfma t h w => some (t, h, w, true, busy8, id, fun a b d => ((a.zip b).zip d).map (fun p => fma32 p.1.1 p.1.2 p.2))
  | .tVmax t h w => some (t, h, w, true, busy8, id, fun a b _ => (a.zip b).map (fun p => max32 p.1 p.2))
  | .tVmin t h w => some (t, h, w, true, busy8, id, fun a b _ => (a.zip b).map (fun p => min32 p.1 p.2))
  | .tVexp2 t h w => some (t, h, w, false, busy12, id, fun a _ _ => a.map exp2Of)
  | .tVrcp t h w => some (t, h, w, false, busy12, id, fun a _ _ => a.map rcpOf)
  | .tVsum t h w => some (t, h, w, false, busy8, fun _ => 1, fun a _ _ => [vsum a])
  | _ => none

/-! ## Words of the statements about the transport -/

/-- The request frames of Table 3.3, each with its operation. -/
def requestOf : Instr → Option (ReqOp × ReqFrame)
  | .load f => some (.load, f)
  | .store f => some (.store, f)
  | .pstore f => some (.pstore, f)
  | .atomicSwap f => some (.atomic .swap, f)
  | .atomicCas f => some (.atomic .cas, f)
  | .atomicAdd f => some (.atomic .add, f)
  | .atomicAnd f => some (.atomic .and, f)
  | .atomicOr f => some (.atomic .or, f)
  | .atomicXor f => some (.atomic .xor, f)
  | .atomicSmax f => some (.atomic .smax, f)
  | .atomicSmin f => some (.atomic .smin, f)
  | .atomicUmax f => some (.atomic .umax, f)
  | .atomicUmin f => some (.atomic .umin, f)
  | .atomicFadd f => some (.atomic .fadd, f)
  | .publish f => some (.publish, f)
  | .invalidate f => some (.invalidate, f)
  | .flush f => some (.flush, f)
  | .fence f => some (.fence, f)
  | .kick f => some (.kick, f)
  | .complete f => some (.complete, f)
  | .mgmtRead f => some (.mgmtRead, f)
  | .mgmtWrite f => some (.mgmtWrite, f)
  | _ => none

/-- The response frames of Table 3.3. -/
def respOf : Instr → Option (RespOp × RespSource)
  | .respData src => some (.data, src)
  | .respAck src => some (.ack, src)
  | .respMgmt src => some (.mgmt, src)
  | _ => none

/-- The operation of a request frame: its row's, or a reserved opcode's (R73). -/
def opFor (op : ReqOp) (f : ReqFrame) : ReqOp := match f.other with | none => op | some k => .other k.toNat

/-- A request header as its edge stamps it: the herd and the source of the binding, whatever the frame carries (R25, R28). -/
def stampedHdr (f : ReqFrame) (herd src : Nat) : ReqHdr := { f.hdr with herd := BitVec.ofNat 12 herd, src := BitVec.ofNat 16 src }

/-- A request as its edge stamps it. -/
def stamped (s : State) (x : Sender) (op : ReqOp) (f : ReqFrame) (herd src : Nat) : Req :=
  { id := s.tr.nextId, sender := x, op := opFor op f, hdr := stampedHdr f herd src,
    payload := f.payload, ext := 0, born := s.clk, place := .rate, path := none, dest := 0xFFFF }

/-- No request of a sender is outstanding with a TAG. -/
def tagFree (s : State) (x : Sender) (tag : Half) : Prop := ∀ r ∈ s.tr.outstanding, r.sender = x → r.hdr.tag ≠ tag

/-- The state in which a request frame at a port is handled: its envelope received, its FRAME record written with the header that
the edge leaves it, and its herd's frame counted. -/
def reqReceived (s : State) (p : PortId) (env : LinkEnv) (op : ReqOp) (f : ReqFrame) (hdr : ReqHdr) (herd : Nat) : State :=
  ((s.linkReceive p env (.req (opFor op f) f.hdr f.payload)).1.traceFrame p.val 0 (.req (opFor op f) hdr f.payload)).tally herd (4 * p.val) 1

/-- The state in which a response frame at a port is handled. -/
def respReceived (s : State) (p : PortId) (env : LinkEnv) (op : RespOp) (h : RespHdr) (payload : List Byte) : State :=
  ((s.linkReceive p env (.resp op h payload)).1.tally h.herd.toNat (4 * p.val) 1).traceFrame p.val 0 (.resp op h payload)

/-- The one NAK of a gap (R71). -/
def nakOnce (s : State) (p : PortId) : State :=
  if (s.link p.val).gap then s
  else (s.setLink p.val { s.link p.val with gap := true }).sendOn p (.nak p (((s.link p.val).rxSeq + 65535) % 65536))

/-- Every frame not acknowledged goes out once more, in order, with its SEQ and its contents. -/
def replayed (s : State) (p : PortId) : State :=
  (s.link p.val).unacked.foldl (fun s f => (s.sendOn p (s.wire p f.seq 0 0 f.body)).tally (bodyHerd f.body) (4 * p.val + 3) 1)
    (s.setLink p.val { s.link p.val with replays := (s.link p.val).replays + 1, timer := s.clk })

/-! ## Words of the statements about time -/

/-- The firing commands of the trigger slots: the slot, its ACTION (Table 2.6), and what the action does at an instant; none
where the target refuses it. -/
def slotCommand : Instr → Option (TrigId × Nat × (State → Nat → Option State))
  | .triggerFireNone n => some (n, 0, fun s _ => some s)
  | .triggerGateChange n => some (n, 1, fun s t =>
      s.gateChange (bitsOf (s.rd od2010_TARGET n.val) 23 16) (s.rd od2010_TARGET n.val % 1024) t)
  | .triggerRingKick n => some (n, 2, fun s _ =>
      let r := s.rd od2010_TARGET n.val % 2 ^ 18
      if s.rd od3410_STATE r = 1 ∨ s.rd od3410_STATE r = 2 then some (s.kickRing r (s.rd od2010_HERD n.val)) else none)
  | .triggerCounterLatch n => some (n, 3, fun s _ =>
      let c := s.rd od2010_TARGET n.val % 4096
      if s.rd od4810_STATE c = 1 then s.latchProfile c else none)
  | .triggerOptimizerStep n => some (n, 4, fun s _ =>
      let c := s.rd od2010_TARGET n.val % 16384
      if s.rd od3800_STATE c = 1 ∧ s.rd od3800_CLOSE c = 1 then some (s.triggerStep c).retryContribs else none)
  | _ => none

/-- A slot reaches its TIME: it is armed with an action, no armed slot of its quadrant comes before it, and TIME has come. -/
structure SlotDue (s : State) (n : TrigId) (action : Nat) : Prop where
  armed : s.slotArmed n.val = true
  action : s.rd od2010_ACTION n.val = action
  time : s.rd od2010_TIME n.val ≤ s.ft (slotQuad n.val)
  first : s.slotFirst n.val = true

/-- Row 2 of Table 2.7 applies to a periodic slot that is late by more than its PERIOD. -/
def lateRow (s : State) (n : TrigId) : Nat :=
  if s.rd od2010_PERIOD n.val ≠ 0 ∧ s.rd od2010_TIME n.val + s.rd od2010_PERIOD n.val < s.ft (slotQuad n.val) then 2 else 0

/-! ## Words of the statements about the object dictionary -/

/-- The access of a write that comes on a path by itself. -/
def writeAcc (path : OdPath) (addr : OdAddr) (value : List Byte) (what : AccessWhat) : Access :=
  ⟨true, path, addr, value, 0, 0, .direct, what⟩

/-- The address of an element of an entry. -/
def addrOf (e : Ent) (n : Nat) : OdAddr := ⟨BitVec.ofNat 16 e.index, BitVec.ofNat 8 e.sub, BitVec.ofNat 24 n⟩

/-- The write of a value in the size that its entry has (Table 15.2). -/
def putAcc (path : OdPath) (e : Ent) (n v : Nat) : Access :=
  writeAcc path (addrOf e n) (toLe (((odRow e.index e.sub).map (·.width)).getD 1) v) .plain

/-- The commands that write the object dictionary: the access of each, and what the write does once steps 1 to 7 of R364 have
passed: the abort code of step 8, and the state. -/
def writeOf : Instr → Option (Access × (State → Nat × State))
  | .odWrite path a v => some (writeAcc path a v .plain, fun s => s.odApply path a.index.toNat a.sub.toNat a.elem.toNat (leNat v))
  | .sourceWrite path true v => some (writeAcc path (addrOf od2000_UPSTREAM_PORT 0) (toLe 2 v.toNat) .plain, fun s => s.sourceEntry true v.toNat)
  | .sourceWrite path false v => some (writeAcc path (addrOf od2000_SOURCE 0) (toLe (if v.toNat < 256 then 1 else 2) v.toNat) .plain,
      fun s => s.sourceEntry false v.toNat)
  | .entryRecordWrite path n v => some (writeAcc path (addrOf od4020_ENTRY_RECORD n.val) v .plain, fun s => s.entryWrite n.val (leNat v))
  | .fwInstall path img => some (writeAcc path (addrOf od4110_INSTALL 0) [1] (.install img), fun s => s.installWrite img)
  | .herdConfigure path n => some (putAcc path od2800_STATE n.val 1, fun s => s.applyHerd 1 n.val 1)
  | .herdActivate path n => some (putAcc path od2800_STATE n.val 2, fun s => s.applyHerd 1 n.val 2)
  | .herdUnconfigure path n => some (putAcc path od2800_STATE n.val 0, fun s => s.applyHerd 1 n.val 0)
  | .herdClose path n => some (putAcc path od2800_STATE n.val 3, fun s => s.applyHerd 1 n.val 3)
  | .todSet path v => some (putAcc path od2000_TOD_SET 0 v.toNat, fun s => s.todWrite v.toNat)
  | .allowStep path => some (putAcc path od2000_ALLOW_STEP 0 1, fun s => s.allowStepWrite)
  | .ptpOffset path v => some (putAcc path od2000_PTP_OFFSET 0 v.toNat, fun s => s.ptpWrite v.toNat)
  | .triggerArm path n => some (putAcc path od2010_STATE n.val 1, fun s => s.slotWrite n.val 1)
  | .triggerDisarm path n => some (putAcc path od2010_STATE n.val 0, fun s => s.slotWrite n.val 0)
  | .extCreate path e => some (putAcc path od2820_OP e.val 1, fun s => thenRelease (s.opWrite e.val 1))
  | .extGrow path e => some (putAcc path od2820_OP e.val 2, fun s => thenRelease (s.opWrite e.val 2))
  | .extShrink path e => some (putAcc path od2820_OP e.val 3, fun s => thenRelease (s.opWrite e.val 3))
  | .extPlace path e => some (putAcc path od2820_OP e.val 4, fun s => thenRelease (s.opWrite e.val 4))
  | .extRehome path e => some (putAcc path od2820_OP e.val 5, fun s => thenRelease (s.opWrite e.val 5))
  | .extRevoke path e => some (putAcc path od2820_OP e.val 6, fun s => thenRelease (s.opWrite e.val 6))
  | .extReady path e => some (putAcc path od2820_OP e.val 7, fun s => thenRelease (s.opWrite e.val 7))
  | .extShare path e => some (putAcc path od2820_OP e.val 8, fun s => thenRelease (s.opWrite e.val 8))
  | .extUnshare path e => some (putAcc path od2820_OP e.val 9, fun s => thenRelease (s.opWrite e.val 9))
  | .thaw path e v => some (putAcc path od3020_THAW e.val v.toNat, fun s => thenRelease (s.thawWrite e.val v.toNat))
  | .readerRegister path r => some (putAcc path od3010_STATE r.val 1, fun s => s.readerWrite r.val 1)
  | .ringStart path r => some (putAcc path od3410_STATE r.val 1, fun s => s.applyRing 1 r.val 1)
  | .ringStop path r => some (putAcc path od3410_STATE r.val 2, fun s => s.applyRing 1 r.val 2)
  | .ringResume path r => some (putAcc path od3410_STATE r.val 1, fun s => s.applyRing 1 r.val 1)
  | .ringReset path r => some (putAcc path od3410_STATE r.val 0, fun s => s.applyRing 1 r.val 0)
  | .contextStart path c => some (putAcc path od3800_STATE c.val 1, fun s => s.ctxWrite c.val 1)
  | .contextStop path c => some (putAcc path od3800_STATE c.val 2, fun s => s.ctxWrite c.val 2)
  | .contextResume path c => some (putAcc path od3800_STATE c.val 1, fun s => s.ctxWrite c.val 1)
  | .contextReset path c => some (putAcc path od3800_STATE c.val 0, fun s => s.ctxWrite c.val 0)
  | .memberActivate path n => some (putAcc path od3810_STATE n.val 1, fun s => s.memberWrite n.val 1)
  | .ruleSetActivate path r => some (putAcc path od4010_STATE r.val 1, fun s => s.setWrite r.val 1)
  | .ruleSetFree path r => some (putAcc path od4010_STATE r.val 0, fun s => s.setWrite r.val 0)
  | .mcgroupActivate path g => some (putAcc path od2320_STATE g.val 1, fun s => s.groupWrite g.val 1)
  | .gateStart path p => some (putAcc path od2450_STATE p.val 1, fun s => s.gateStartWrite p.val)
  | .gateStop path p => some (putAcc path od2450_STATE p.val 0, fun s => (abOk, s.gateStopWrite p.val))
  | .histClear path q => some (putAcc path od2400_HIST_CLEAR q.val 1, fun s => (abOk, s.clearHist q.val))
  | .portRetrain path p => some (putAcc path od2118_RETRAIN p.val 1, fun s => (abOk, s.retrainWrite p))
  | .volumeDelete path v value => some (putAcc path od2C40_DELETE v.val value.toNat, fun s => s.deleteWrite v.val value.toNat)
  | .commitPlain path => some (putAcc path od4110_COMMIT 0 1, fun s => s.commitWrite 1)
  | .commitProtected path => some (putAcc path od4110_COMMIT 0 2, fun s => s.commitWrite 2)
  | .attestGenerate path => some (putAcc path od4130_GENERATE (pathIx path) 1, fun s => s.generateWrite (pathIx path))
  | .keyLoad path n => some (putAcc path od4140_KEY_LOAD n.val 1, fun s => s.keyWrite n.val)
  | .linkLoad path p => some (putAcc path od4150_LINK_LOAD p.val 1, fun s => s.linkKeyWrite p.val)
  | .advanceDeployed path => some (putAcc path od4100_ADVANCE 0 2, fun s => s.advanceWrite path 2)
  | .advanceReturned path => some (putAcc path od4100_ADVANCE 0 3, fun s => s.advanceWrite path 3)
  | .debugLevelWrite path level => some (putAcc path od4100_DEBUG_LEVEL 0 level.toNat, fun s => s.debugWrite level.toNat)
  | .faultRecover path => some (putAcc path od4400_RECOVER 0 1, fun s => s.recoverWrite)
  | .tineRelease path t => some (putAcc path od4410_RELEASE t.val 1, fun s => s.releaseWrite t.val)
  | .profileActivate path n => some (putAcc path od4810_STATE n.val 1, fun s => s.profileWrite n.val 1)
  | .profileFree path n => some (putAcc path od4810_STATE n.val 0, fun s => s.profileWrite n.val 0)
  | .traceStart path => some (putAcc path od4880_STATE 0 1, fun s => s.traceWrite 1)
  | .traceStop path => some (putAcc path od4880_STATE 0 0, fun s => s.traceWrite 0)
  | .traceFilterOn path n => some (putAcc path od4890_STATE n.val 1, fun s => s.filterWrite n.val 1)
  | .stotNow path => some (putAcc path od48A0_STOT_NOW 0 1, fun s => (abOk, s.stotEvent 2))
  | .graphBuild path => some (putAcc path od48B0_BUILD 0 1, fun s => s.buildWrite)
  | .quadrantGate path q => some (putAcc path od4C08_GATE q.val 1, fun s => s.gateQuadWrite q.val 1)
  | .quadrantUngate path q => some (putAcc path od4C08_GATE q.val 0, fun s => s.gateQuadWrite q.val 0)
  | .requestP0 path => some (putAcc path od4C00_REQUEST 0 0, fun s => s.requestWrite path 0)
  | .requestP2 path => some (putAcc path od4C00_REQUEST 0 2, fun s => s.requestWrite path 2)
  | .requestP3 path => some (putAcc path od4C00_REQUEST 0 3, fun s => s.requestWrite path 3)
  | .requestP4 path => some (putAcc path od4C00_REQUEST 0 4, fun s => s.requestWrite path 4)
  | _ => none

/-- The state in which an access is checked: it has been counted (OD 1100, Table 18.2). -/
def accessed (s : State) : State := (s.bump od1100_ACCESSES 0 64 1).count (0x740 + 8 * s.deviceCore) 1

/-- A path is open and holds no access that waits. -/
def PathFree (s : State) (p : OdPath) : Prop := s.pathOpen p = true ∧ s.queueOf p = []

/-! ## Words of the statements about the pool and the directory -/

/-- A probe of an owner (Table 5.6). -/
def forwardOf : Instr → Option (CohKind × AgentId × ExtentId × Nat)
  | .fwds a e n => some (.fwds, a, e, n)
  | .fwdm a e n => some (.fwdm, a, e, n)
  | .fwdr a e n => some (.fwdr, a, e, n)
  | _ => none

/-- A request of a caching agent for a line, and whether it asks for M. -/
def getOf : Instr → Option (AgentId × ExtentId × Nat × Bool)
  | .gets a e n => some (a, e, n, false)
  | .getm a e n => some (a, e, n, true)
  | _ => none

/-- The state with a message off the internal network. -/
def taken (s : State) (m : CohMsg) : State := { s with coh := { s.coh with msgs := s.coh.msgs.erase m } }

/-- The first message of a kind on the internal network for an agent and a line. -/
def inFlight (s : State) (k : CohKind) (a l : Nat) : Option CohMsg :=
  s.coh.msgs.find? (fun m => m.kind == k && m.agent == a && m.line == l)

/-! ## Words of the statements about commands -/

/-- What a launched command of a ring does when its unit takes it up: its KIND (Tables 6.7, 8.10, 9.3, 10.3) and its work. -/
def unitWork : Instr → Option (Nat × Nat × (State → Cmd → State))
  | .nopCommand cid => some (cid, 0, fun s _ => s.finishWith cid eOk [0, 0, 0])
  | .kernelCommand cid => some (cid, 1, fun s c =>
      if c.work.phase ≠ 0 then s else c.tines.zipIdx.foldl (fun u x => u.startThreads c x.1 x.2) (s.setPhase cid 1))
  | .collContribute cid => some (cid, 0x10, fun s c =>
      let ctx := c.word 2 / 2 ^ 50 % 16384
      match (s.membersOf ctx).find? (fun m => s.rd od3810_INDEX m == c.word 3 % 4096 && s.rd od3810_RING m == c.ring &&
          s.rd od3810_HERD m == c.herd) with
      | none => s.finishWith cid eAccess [0, 0, 0]
      | some m => s.contributeFrom cid ctx m (c.word 2 % 2 ^ 32) (s.chunkCount ctx + 1))
  | .collBroadcast cid => some (cid, 0x11, fun s c =>
      let ctx := c.word 2 / 2 ^ 50 % 16384
      if !s.ctxRunning ctx ∨ s.rd od3800_HERD ctx ≠ c.herd ∨ s.ctxAgg ctx then s.finishWith cid eAccess [0, 0, 0]
      else s.broadcastFrom cid ctx (c.word 2 % 2 ^ 32) (s.chunkCount ctx + 1))
  | .tableGather cid => some (cid, 0x12, fun s c => s.indexed cid c (fun u => u.gatherFrom cid (c.word 3 / 2 ^ 32 + 1)))
  | .tableScatterAdd cid => some (cid, 0x13, fun s c => s.indexed cid c (fun u => u.scatterFrom cid (c.word 3 / 2 ^ 32 + 1)))
  | .tableFilter cid => some (cid, 0x14, fun s c =>
      let set := bitsOf (c.word 6) 47 32
      if 4096 ≤ set ∨ s.rd od4010_STATE set ≠ 1 ∨ s.rd od4010_HERD set ≠ c.herd then s.finishWith cid eAccess [0, 0, 0]
      else s.filterFrom cid (c.word 3 / 2 ^ 32 + 1))
  | .attnDecode cid => some (cid, 0x20, fun s _ => s.decodeGo cid 16)
  | .attnAppend cid => some (cid, 0x21, fun s _ => s.appendGo cid 8)
  | .appendPublication cid => some (cid, 0x21, fun s c => s.publishAppend c)
  | _ => none

/-- The commands of the match engine, with their KIND (Table 10.3). -/
def matchWork : Instr → Option (Nat × Nat)
  | .matchSearch cid => some (cid, 0x30)
  | .matchNext cid => some (cid, 0x31)
  | .matchUpdate cid => some (cid, 0x32)
  | _ => none

/-- A command is in flight, not finished, of a KIND, and its unit may start work (R173, R472). -/
structure InFlight (s : State) (cid kind : Nat) (c : Cmd) : Prop where
  cmd : s.cmd cid = some c
  open_ : c.finished = false
  kind : c.kind = kind
  runs : s.halted = false
  works : s.flushMode = false

/-- The list of a command is at its home here, in the tier of record, where nothing of the directory or rut holds it, and its
header is in form (R246, R260). -/
structure ListHere (s : State) (c : Cmd) (e : Nat) : Prop where
  place : s.listPlace c.herd (c.word 1) = (eOk, e)
  asked : s.ioOf c.cid (c.word 1) false = none
  near : (s.gran e ((c.word 1 - s.extBase e) / granuleBytes)).tier ≤ 1
  plain : s.linesPlain e (c.word 1 - s.extBase e) 128 = true
  ready : s.extCmp e = false
  key : s.keyless e = false
  clean : s.poisoned e (c.word 1 - s.extBase e) 128 = false
  header : s.listOk e (c.word 1) (wordsOf 16 (s.readPool e (c.word 1 - s.extBase e) 128)) = true

/-- The ownership operations, with their OP (Table 9.6). -/
def ownCommand : Instr → Option (Nat × Nat)
  | .ownClaim cid => some (cid, 1)
  | .ownPrepare cid => some (cid, 2)
  | .ownCommit cid => some (cid, 3)
  | .ownAbort cid => some (cid, 4)
  | .ownRelease cid => some (cid, 5)
  | .ownForce cid => some (cid, 6)
  | .ownQuery cid => some (cid, 7)
  | .ownDrop cid => some (cid, 8)
  | _ => none

/-- A raise of EPOCH: refused at its last value. -/
def epochUp (old : Option OwnRec) (r : OwnRec) : Nat × Option OwnRec :=
  if r.epoch = 0xFFFFFFFF then (eFormat, old) else (eOk, some { r with epoch := r.epoch + 1 })

/-- R260–R262, Table 9.6: the code of an ownership operation and the record of its list after it, from the record before it.
`new` is the record that a CLAIM of a list without one makes, `full` that the slice holds no more of them. -/
def ownRule (op caller succ expect now : Nat) (full : Bool) (new : OwnRec) (r : Option OwnRec) : Nat × Option OwnRec :=
  let no := (eNotOwner, r)
  match op, r with
  | 1, none => if expect ≠ 0 then no else if full then (eQuota, r) else epochUp r new
  | 1, some x => if x.state = 0 ∧ x.epoch = expect then epochUp r { x with state := 1, owner := caller } else no
  | 2, some x => if x.state = 1 ∧ x.owner = caller ∧ x.epoch = expect ∧ succ ≠ caller ∧ succ ≠ 0xFFFF then
      (eOk, some { x with state := 2, succ := succ, prep := now }) else no
  | 3, some x =>
    if x.state = 2 ∧ x.succ = caller ∧ x.epoch = expect then epochUp r { x with state := 1, owner := caller, succ := 0xFFFF }
    else if x.state = 1 ∧ x.owner = caller ∧ x.epoch = expect + 1 then (eOk, r) else no
  | 4, some x => if x.state = 2 ∧ x.owner = caller ∧ x.epoch = expect then (eOk, some { x with state := 1, succ := 0xFFFF }) else no
  | 5, some x => if x.state = 1 ∧ x.owner = caller ∧ x.epoch = expect then epochUp r { x with state := 0, owner := 0xFFFF } else no
  | 6, some x => if x.epoch = expect then epochUp r { x with state := 1, owner := caller, succ := 0xFFFF } else no
  | 7, _ => (eOk, r)
  | 8, some x => if x.state = 0 ∧ x.epoch = expect then (eOk, none) else no
  | _, _ => no

/-- A collective frame as a request of the ingress. -/
def collReq (s : State) (x : Sender) (op : CollOp) (f : CollFrame) (herd src : Nat) : Req :=
  { id := s.tr.nextId, sender := x, op := .coll op f.hdr,
    hdr := { sharedHdr f.hdr with herd := BitVec.ofNat 12 herd, src := BitVec.ofNat 16 src }, payload := f.payload, ext := 0,
    born := s.clk, place := .rate, path := none, dest := 0xFFFF }

/-- A collective frame as a request at a reduce unit of this A9, come by a trunk. -/
def collHere (s : State) (op : CollOp) (f : CollFrame) : Req :=
  { id := s.tr.nextId, sender := .trunk f.port, op := .coll op f.hdr, hdr := sharedHdr f.hdr, payload := f.payload, ext := 0,
    born := s.clk, place := .home, path := none, dest := f.hdr.dst.toNat }

/-- The state in which a collective frame at a port is handled: its envelope received, its FRAME record written with the header
that the edge leaves it, and its herd's frame counted. -/
def collReceived (s : State) (op : CollOp) (f : CollFrame) (hdr : CollHdr) (herd : Nat) : State :=
  ((s.linkReceive f.port f.env (.coll op f.hdr f.payload)).1.traceFrame f.port.val 0 (.coll op hdr f.payload)).tally herd
    (4 * f.port.val) 1

/-! ## Words of the statements about ports and shelves -/

/-- A port trains: it is in STATE 2, the A9 is not halted, and it is a TMT port at a stage. -/
structure TrainsAt (s : State) (p : PortId) (stage : Nat) : Prop where
  training : s.rd od2118_STATE p.val = 2
  runs : s.halted = false
  tmt : s.isCxl p.val = false
  stage : (s.training p.val).stage = stage

/-- A port with its training at a stage that begins now. -/
def atStage (s : State) (p : PortId) (n : Nat) : State := s.setTraining p.val { s.training p.val with stage := n, since := s.clk }

/-- What the far end gave at the end of stage 4 is held. -/
def farEnd (s : State) (p : PortId) (r : StageResult) : State := (s.wr od2118_FAR_A9 p.val r.a9.toNat).wr od2118_FAR_PORT p.val r.port.toNat

/-- The links that a record names, with their names at the far end. -/
def recordNames (s : State) (r : LinkRecord) : List Nat :=
  (([r.near.toNat, r.far.toNat].filter (fun l => bitAt l 15)).flatMap (fun l => l :: s.linkAlias l)).eraseDups

/-- A record comes later than the last one that its reporter wrote (R337). -/
def later (s : State) (r : LinkRecord) : Prop :=
  sparseGet 0 s.ports.lastSeq r.reporter.val = 0 ∨
    0 < signed 32 (r.seq.toNat + 2 ^ 32 - (sparseGet 0 s.ports.lastSeq r.reporter.val - 1))

/-- The last record of a reporter is noted. -/
def seen (s : State) (r : LinkRecord) : State :=
  { s with ports := { s.ports with lastSeq := sparseSet 0 s.ports.lastSeq r.reporter.val (r.seq.toNat + 1) } }

/-- A completion matches an operation that is out. -/
def completes (s : State) (p : PortId) (c : ShelfResult) (o : ShelfOp) : Prop :=
  s.rd od2118_STATE p.val = 3 ∧
  s.nand.ops.find? (fun o => opDie o == p.val * 4096 + c.channel.toNat * 64 + c.die.toNat && o.tag == some c.tag.toNat) = some o

/-- An operation has left the shelf. -/
def opGone (s : State) (o : ShelfOp) : State := s.putOps (s.nand.ops.erase o)

/-! ## Words of the statements about errors -/

/-- An uncorrectable error of a memory is counted and reported (Tables 17.2 and 17.4). -/
def eccReport (s : State) (q herd kind unit a b : Nat) : State :=
  (s.bump od5000_ECC_UNCORRECTED 0 64 1).emit q evEccUncorrected herd kind unit ePoison [Config.eccPlace kind a b]

/-- A state with another handler stack. -/
def withStack (s : State) (l : List HandlerFrame) : State := { s with flt := { s.flt with stack := l } }

/-- The ring of a record's copy, and the herd whose ring it must be. -/
def copyRing (s : State) (r : LogRec) (device : Bool) : Nat × Nat :=
  if device then (s.rd od4400_DEVICE_RING 0, 0) else (s.rd od4408_HERD_RING r.ev.herd, r.ev.herd)

/-- The copy of a record is due, no older record of its quadrant waits for the ring, and the ring has room (R405). -/
structure CopyDue (s : State) (i : Nat) (r : LogRec) (device : Bool) : Prop where
  here : s.flt.log[i]? = some r
  mode : s.mode ≠ 2
  due : (if device then r.devDue else r.herdDue) = true
  first : s.olderWaits i r device = false
  ring : s.eventRingOf (copyRing s r device).1 (copyRing s r device).2 = true
  room : s.ringFree (copyRing s r device).1 ≠ 0

/-! ## Words of the statements about pins, boot and power -/

/-- A control input with the pulses too short for it counted (Table 20.5). -/
def shorts (s : State) (k : Nat) (short : Word) : State := s.bump od4C48_FILTERED k 32 short.toNat

/-- The rate limit of an input holds with this assertion: at most `limit` assertions in `ns`. -/
def withinRate (s : State) (k ns limit : Nat) : Prop :=
  ((sparseGet [] s.pins.edges k).filter (fun t => !s.past t ns)).length + 1 ≤ limit

/-- The state with an assertion of an input noted. -/
def edgeNoted (s : State) (k ns : Nat) : State :=
  { s with pins := { s.pins with edges := sparseSet [] s.pins.edges k ((sparseGet [] s.pins.edges k).filter (fun t => !s.past t ns) ++ [s.clk]) } }

/-- What outlasts a reset (R487, R489). -/
structure Outlasts (s u : State) : Prop where
  life : u.sec.life = s.sec.life
  fuses : u.sec.fuses = s.sec.fuses
  slots : u.sec.slotA = s.sec.slotA ∧ u.sec.slotB = s.sec.slotB
  journal : u.time.journal = s.time.journal
  flash : u.pool.flash = s.pool.flash
  map : u.nand.map = s.nand.map
  copies : u.mg.copy0 = s.mg.copy0 ∧ u.mg.copy1 = s.mg.copy1
  clk : u.up = s.up ∧ u.clk = s.clk

/-- What a reset clears. -/
structure Cleared (u : State) : Prop where
  cmds : u.cpu.cmds = []
  tines : u.cpu.tines = []
  requests : u.tr.outstanding = []
  frames : u.sw.tx = []
  memory : u.pool.mem = []
  keys : u.sec.keys = [] ∧ u.sec.linkKeys = []
  herds : ∀ n, n < 4096 → u.herdState n = State.reset.herdState n
  ports : ∀ p, p < 256 → u.rd od2118_STATE p = State.reset.rd od2118_STATE p

/-! ## Words of the statements about the whole block -/

/-- A word is a binary32 NaN. -/
def isNan32 (a : Nat) : Prop := 0x7F800000 < a % 2 ^ 31

/-- The place of a binary32 value that is not NaN in the order that has −0 below +0. -/
def order32 (a : Nat) : Int := if a < 2 ^ 31 then (a : Int) else -((a - 2 ^ 31 : Nat) : Int) - 1

/-- A NaN quieted, with its sign and payload kept. -/
def quiet32 (a : Nat) : Nat := if a / 2 ^ 22 % 2 = 1 then a else a + 2 ^ 22

/-- A request of the companion, or of an internal sender whose window toward a home is open (R89, R317). -/
def passes (s : State) (r : Req) (dst : Nat) : Prop :=
  match r.sender with
  | .companion => True
  | .tine _ _ | .unit _ _ _ | .coll _ => 1 ≤ s.windowOf r.hdr.src.toNat dst
  | _ => False

/-- An operation that its home serves, other than a KICK, which may take a later index at its ingress (R77). -/
def homeOp : ReqOp → Bool
  | .load | .loadc | .store | .pstore | .atomic _ | .publish | .flush | .complete => true
  | _ => false

end Sys2Proof.Claims

open Sys2Proof

open Sys2Proof.Machine

open Sys2Proof.Claims

/-- A command at the front of the queue is what a step runs. With an empty queue a step is one cycle of the time clock, the
model's choice of log entry 6: every quadrant's counter takes its increment, and in reset nothing but the count of cycles goes
on. -/
def Obligations.StepsRunTheQueue : Prop :=
  (∀ (c : Instr) (rest : List Instr) (s : State), s.pending = c :: rest → step s = exec c { s with pending := rest }) ∧
  (∀ s : State, s.Inv → s.pending = [] →
   step s = .next s.tick.settled ∧
   (s.pins.inReset = true → s.tick = { s with up := s.up + 1, time := { s.time with span := s.time.span + nominalInc } }) ∧
   (s.pins.inReset = false → s.countTime.time.ctr =
     ⟨(s.time.ctr.q0 + s.time.inc.q0) % 2 ^ 104, (s.time.ctr.q1 + s.time.inc.q1) % 2 ^ 104,
      (s.time.ctr.q2 + s.time.inc.q2) % 2 ^ 104, (s.time.ctr.q3 + s.time.inc.q3) % 2 ^ 104⟩))

/-- R177, Table 6.6: where its thread may issue, a scalar instruction that touches no memory and starts no wait completes; its
thread has the result of the table and its next pc, and nothing else changes. A SYS whose IMM the table does not list writes a
value that is free (log entry 83). -/
def Obligations.ScalarInstructionsComplete : Prop :=
  (∀ (i : Instr) (t : TineId) (h : ThreadId) (op : Nat) (w : TineWord) (f : State → Thread → Thread), scalar i = some (t, h, f) →
   tineOf i = some (t, h, op, w) → ∀ (s : State) (x : Thread) (c : Cmd), s.Inv → MayIssue s t h op w x c →
   ∃ u, exec i s = .next u ∧ OnlyThread s u t h (f s (issuing s t op x))) ∧
  (∀ (i : Instr) (t : TineId) (h : ThreadId) (w : TineWord), tineOf i = some (t, h, 0x1F, w) → 4 < w.imm.toNat →
   ∀ (s : State) (x : Thread) (c : Cmd), s.Inv → MayIssue s t h 0x1F w x c →
   ∃ u v, exec i s = .next u ∧ OnlyThread s { u with freeN := s.freeN } t h (toRd w (issuing s t 0x1F x) v))

/-- R154, R177: LDS of a thread whose window holds the eight bytes writes them to [RD], and nothing else changes. R154, R177:
STS of a thread whose window holds the eight bytes stores [RB] there; no other byte of any tine's SRAM changes, and nothing else
but the thread's pc. R154, R173: an LDS or STS outside its thread's window ends the thread with E_ACCESS. -/
def Obligations.SramAccessesComplete : Prop :=
  (∀ (t : TineId) (h : ThreadId) (w : TineWord) (s : State) (x : Thread) (c : Cmd), s.Inv → MayIssue s t h 0x18 w x c →
   s.inWindow x.cid t.val (sramAddr x w) 8 = true →
   ∃ u, exec (.tLds t h w) s = .next u ∧
     OnlyThread s u t h (toRd w (issuing s t 0x18 x) (leNat (s.readSram t.val (sramAddr x w) 8)))) ∧
  (∀ (t : TineId) (h : ThreadId) (w : TineWord) (s : State) (x : Thread) (c : Cmd), s.Inv → MayIssue s t h 0x19 w x c →
   s.inWindow x.cid t.val (sramAddr x w) 8 = true →
   ∃ u, exec (.tSts t h w) s = .next u ∧
     u.readSram t.val (sramAddr x w) 8 = toLe 8 (x.rb w) ∧
     (∀ k, (k < sramKey t.val (sramAddr x w) ∨ sramKey t.val (sramAddr x w) + 8 ≤ k) → sparseGet 0 u.cpu.sram k = sparseGet 0 s.cpu.sram k) ∧
     OnlyThread s { u with cpu := { u.cpu with sram := s.cpu.sram } } t h (issuing s t 0x19 x).next) ∧
  (∀ (t : TineId) (h : ThreadId) (w : TineWord) (s : State) (x : Thread) (c : Cmd), s.Inv →
   s.inWindow x.cid t.val (sramAddr x w) 8 = false →
   (MayIssue s t h 0x18 w x c → exec (.tLds t h w) s = .next ((counted s t h x c).endThread t.val h.val eAccess)) ∧
   (MayIssue s t h 0x19 w x c → exec (.tSts t h w) s = .next ((counted s t h x c).endThread t.val h.val eAccess)))

/-- R161, R164, R173: WAIT has its thread wait until it holds at most IMM[10:0] scoreboard entries, BAR until the live threads
of its command on the tine have all reached a BAR, and EXIT ends the thread with the low 8 bits of [RA]. -/
def Obligations.WaitBarExitComplete : Prop :=
  ∀ (t : TineId) (h : ThreadId) (w : TineWord) (s : State) (x : Thread) (c : Cmd), s.Inv →
  (MayIssue s t h 0x1C w x c → exec (.tWait t h w) s = .next (((counted s t h x c).setThread t.val h.val
    { (issuing s t 0x1C x).next with wait := .entries (w.imm.toNat % 2048) }).wakeTine t.val)) ∧
  (MayIssue s t h 0x1D w x c → exec (.tBar t h w) s = .next (((counted s t h x c).setThread t.val h.val
    { (issuing s t 0x1D x).next with wait := .bar }).wakeTine t.val)) ∧
  (MayIssue s t h 0x1E w x c → exec (.tExit t h w) s = .next ((counted s t h x c).endThread t.val h.val (x.ra w % 256)))

/-- R159, R160, R177: a remote instruction whose length is allowed, whose operands lie in its thread's window and which no limit
of R160 bars completes: the tine holds one more scoreboard entry, with the next free TAG; the thread goes on to its next word;
and one request with the operation, the header and the payload of Table 6.6 enters the A9. -/
def Obligations.RemoteInstructionsComplete : Prop :=
  ∀ (i : Instr) (t : TineId) (h : ThreadId) (op : Nat) (w : TineWord) (ok : Thread → Bool) (src dst : Thread → Nat × Nat)
    (o : State → Thread → RemoteOp), remoteOf i = some (t, h, w, ok, src, dst, o) → tineOf i = some (t, h, op, w) →
  ∀ (s : State) (x : Thread) (c : Cmd), s.Inv → MayIssue s t h op w x c → ok x = true →
  ((src x).2 = 0 ∨ s.inWindow x.cid t.val (src x).1 (src x).2 = true) →
  ((dst x).2 = 0 ∨ s.inWindow x.cid t.val (dst x).1 (dst x).2 = true) →
  s.sbRoom t.val h.val c (o s x).addr = true →
  ∃ (v : State) (r : Req) (e : SbEntry), exec i s = .next (v.enter r).settled ∧
    (v.tine t.val).sb = (s.tine t.val).sb ++ [e] ∧ v.thread t.val h.val = (issuing s t op x).next ∧
    (∀ t' h', (t', h') ≠ (t.val, h.val) → v.thread t' h' = s.thread t' h') ∧
    cpuRest v.cpu = cpuRest s.cpu ∧ v = { s with od := v.od, cpu := v.cpu } ∧
    e.thread = h.val ∧ e.op = (o s x).op ∧ e.addr = (o s x).addr ∧ e.sram = (o s x).sram ∧ e.tag = (s.tine t.val).freeTag ∧
    r.sender = .tine t h ∧ r.op = (o s x).op ∧ r.payload = (o s x).payload ∧
    r.hdr = s.remoteHdr t.val c w (s.tine t.val).freeTag (o s x)

/-- R158, R193–R200: a vector instruction whose count and format are allowed and whose arrays lie in its thread's window
completes: the values stand at [RD], and its thread waits for the vector unit. R190, R193: VCVT whose counts and formats are
allowed, whose arrays lie in its thread's window and do not overlap, or share their start where the result is no wider, completes:
the converted array stands at [RD], the saturated elements and the blocks with scale 0xFF are counted, the tine's generator has
given one draw to each element rounded with SR 1, and the thread waits for the vector unit. R179, R201: MMA and MMAZ with a K and
a format that are allowed and tiles in their thread's window complete: each element of the 32 × 32 tile at [RD] is the
accumulation of its K/32 block products, MMAZ starting from 0, and the thread waits for the matrix unit. -/
def Obligations.TheArithmeticUnitsComplete : Prop :=
  (∀ (i : Instr) (t : TineId) (h : ThreadId) (op : Nat) (w : TineWord) (two : Bool) (busy out : Nat → Nat)
     (f : List Nat → List Nat → List Nat → List Nat), vectorOf i = some (t, h, w, two, busy, out, f) → tineOf i = some (t, h, op, w) →
   ∀ (s : State) (x : Thread) (c : Cmd), s.Inv → MayIssue s t h op w x c →
   let n := x.rc w
   let bytes := arrayBytes w.fmt.toNat n
   vectorOk w.fmt.toNat n = true → s.inWindow x.cid t.val (x.ra w) bytes = true →
   (two = true → s.inWindow x.cid t.val (x.rb w) bytes = true) → s.inWindow x.cid t.val (x.rdVal w) (4 * out n) = true →
   let a := arrayTo32 w.fmt.toNat n (s.readSram t.val (x.ra w) bytes)
   let b := if two then arrayTo32 w.fmt.toNat n (s.readSram t.val (x.rb w) bytes) else []
   let d := words32 (out n) (s.readSram t.val (x.rdVal w) (4 * out n))
   exec i s = .next (((counted s t h x c).writeSram t.val (x.rdVal w) (bytes32 (f a b d))).toVector t h (issuing s t op x) (busy n))) ∧
  (∀ (t : TineId) (h : ThreadId) (w : TineWord) (s : State) (x : Thread) (c : Cmd), s.Inv → MayIssue s t h 0x37 w x c →
   let n := x.rc w
   let src := w.fmt.toNat
   let dst := w.imm.toNat % 16
   let from_ := decodeArray src n (s.readSram t.val (x.ra w) (arrayBytes src n))
   vectorOk src n = true → vectorOk dst n = true → bitsOf w.imm.toNat 15 5 = 0 →
   (x.rdVal w + arrayBytes dst n ≤ x.ra w ∨ x.ra w + arrayBytes src n ≤ x.rdVal w ∨
     x.ra w = x.rdVal w ∧ fmtWidth dst ≤ fmtWidth src) →
   s.inWindow x.cid t.val (x.ra w) (arrayBytes src n) = true → s.inWindow x.cid t.val (x.rdVal w) (arrayBytes dst n) = true →
   let g := (s.tine t.val).sr
   let draws := if bitAt w.imm.toNat 4 then drawsFrom (roundedElems dst from_) g else ([], g)
   let q := encodeArray dst from_ draws.1
   let u := counted s t h x c
   let v := u.setTine t.val { u.tine t.val with sr := draws.2 }
   exec (.tVcvt t h w) s = .next ((((v.writeSram t.val (x.rdVal w) q.bytes).bump od3440_SATURATED 0 64 q.sat).bump
     od3440_NAN_BLOCKS 0 64 q.nans).toVector t h (issuing s t 0x37 x) (busy8 n))) ∧
  (∀ (t : TineId) (h : ThreadId) (w : TineWord) (zero : Bool) (s : State) (x : Thread) (c : Cmd), s.Inv →
   MayIssue s t h (if zero then 0x41 else 0x40) w x c →
   let k := x.rc w
   let f := w.fmt.toNat
   let a := arrayBytes f k
   32 ≤ k → k ≤ 8192 → k % 32 = 0 → f ≠ 0 → fmtKnown f = true →
   s.inWindow x.cid t.val (x.ra w) (32 * a) = true → s.inWindow x.cid t.val (x.rb w) (32 * a) = true →
   s.inWindow x.cid t.val (x.rdVal w) 4096 = true →
   ∃ (tile : List Nat) (v : State), exec (if zero then .tMmaz t h w else .tMma t h w) s = .next v ∧
     v.readSram t.val (x.rdVal w) 4096 = bytes32 tile ∧ tile.length = 1024 ∧
     (∀ i j, i < 32 → j < 32 → tile[32 * i + j]? = some (mmaElem (k / 32)
       (if zero then 0 else (words32 1024 (s.readSram t.val (x.rdVal w) 4096)).getD (32 * i + j) 0)
       (decodeArray f k (s.readSram t.val (x.ra w + i * a) a)) (decodeArray f k (s.readSram t.val (x.rb w + j * a) a)))) ∧
     v.thread t.val h.val = { (issuing s t (if zero then 0x41 else 0x40) x).next with wait := .matrix } ∧ h.val ∈ (v.tine t.val).mat)

/-- R157, R158, R164: a thread that is not live, that waits (for WAIT, BAR, its vector or matrix instruction, the scoreboard or a
fill of the instruction cache), whose tine does not run, or whose turn it is not, issues nothing: its instructions change
nothing. R158: when the vector or the matrix unit ends the oldest instruction given to it, the live thread that waits for it is
ready again, and that instruction has left the unit.
R157, R173, R176: a thread whose turn it is and whose word the instruction cache lacks asks for it; a word with an opcode that
Table 6.6 does not have ends the thread with E_FORMAT; where the word is another instruction than the command names, nothing
happens. -/
def Obligations.WaitingThreadsIssueNothing : Prop :=
  (∀ (i : Instr) (t : TineId) (h : ThreadId) (op : Nat) (w : TineWord), tineOf i = some (t, h, op, w) → ∀ s : State,
   ((s.thread t.val h.val).live = false ∨ (s.thread t.val h.val).wait ≠ .ready ∨ s.tineRuns t.val = false ∨
     s.threadTurn t.val h.val = false) →
   exec i s = .next s ∨ exec i s = .next s.settled) ∧
  (∀ (t : TineId) (h : Nat) (rest : List Nat) (s : State), s.Inv → (s.thread t.val h).live = true →
   ((s.tine t.val).vec = h :: rest → (s.thread t.val h).wait = .vector →
     ∃ u, exec (.vectorUnitDone t) s = .next u ∧ u.thread t.val h = { s.thread t.val h with wait := .ready } ∧
       (u.tine t.val).vec = rest ∧ (u.tine t.val).mat = (s.tine t.val).mat ∧ (u.tine t.val).sb = (s.tine t.val).sb ∧
       (∀ t' h', (t', h') ≠ (t.val, h) → u.thread t' h' = s.thread t' h') ∧ u = { s with cpu := u.cpu }) ∧
   ((s.tine t.val).mat = h :: rest → (s.thread t.val h).wait = .matrix →
     ∃ u, exec (.matrixUnitDone t) s = .next u ∧ u.thread t.val h = { s.thread t.val h with wait := .ready } ∧
       (u.tine t.val).mat = rest ∧ (u.tine t.val).vec = (s.tine t.val).vec ∧ (u.tine t.val).sb = (s.tine t.val).sb ∧
       (∀ t' h', (t', h') ≠ (t.val, h) → u.thread t' h' = s.thread t' h') ∧ u = { s with cpu := u.cpu })) ∧
  (∀ (i : Instr) (t : TineId) (h : ThreadId) (op : Nat) (w : TineWord), tineOf i = some (t, h, op, w) →
   ∀ (s : State) (x : Thread) (c : Cmd), s.Inv → ItsTurn s t h x c →
   (s.icached t.val x.pc = none → exec i s = .next (s.fetch t h x c) ∨ exec i s = .next (s.fetch t h x c).settled) ∧
   (∀ v, s.icached t.val x.pc = some v →
     (opKnown (v / 2 ^ 56) = false →
       let u := (counted s t h x c).endThread t.val h.val eFormat
       exec i s = .next u ∨ exec i s = .next u.settled) ∧
     (opKnown (v / 2 ^ 56) = true → v ≠ wordOf op w → exec i s = .next s ∨ exec i s = .next s.settled)))

/-- R25, R28, R72: a whole request frame that comes in order to an endpoint port that is up, or from the companion over a Jiyth
link that is up, enters the A9 as a request of the herd and the source that the binding names; one on a trunk port passes on as
R27 says, with the herd and the source that it carries; one on a tray port is turned away with an event. -/
def Obligations.RequestsEnterTheA9 : Prop :=
  ∀ (i : Instr) (op : ReqOp) (f : ReqFrame), requestOf i = some (op, f) → ∀ s : State, s.Inv → s.halted = false →
  (f.via = .companion → s.rd od1120_JY_STATE 0 = 2 → tagFree s .companion f.hdr.tag →
    exec i s = .next (s.enter (stamped s .companion op f 0 (s.rd od1100_COMPANION_EP 0))).runMgmt.settled) ∧
  (∀ p env, f.via = .port p env → s.portUp p.val = true → env.seq.toNat = (s.link p.val).rxSeq →
    let herd := s.rd od2810_HERD p.val
    let src := s.rd od2810_ENDPOINT p.val
    (s.rd od2810_ROLE p.val = 1 → herd ≠ 0xFFF → s.herdActive herd = true → tagFree s (.port p) f.hdr.tag →
      let u := reqReceived s p env op f (stampedHdr f herd src) herd
      exec i s = .next (u.enter (stamped u (.port p) op f herd src)).runMgmt.settled) ∧
    (s.rd od2810_ROLE p.val = 2 →
      exec i s = .next ((reqReceived s p env op f f.hdr f.hdr.herd.toNat).transit p (opFor op f) f.hdr f.payload).runMgmt.settled) ∧
    (s.rd od2810_ROLE p.val = 3 →
      let v := (s.linkReceive p env (.req (opFor op f) f.hdr f.payload)).1.traceFrame p.val 0 (.req (opFor op f) f.hdr f.payload)
      exec i s = .next ((v.creditBack p f.hdr.cls.toNat (cellsOf (reqBytes f.payload))).emit (portQuad p.val) evTrayRequest 0 1 p.val 0
        [opcodeOf (opFor op f)]).runMgmt.settled))

/-- R29, R72: a request on a port that is bound to no ACTIVE herd is answered with E_ACCESS and does nothing else; one
whose TAG is outstanding is dropped with the event of R72. R70, R71: a request that comes out of order is dropped and counted, and
the first of its gap is answered with a NAK. R81: a response that answers no request outstanding here, to an
endpoint of this A9, is dropped and counted. -/
def Obligations.StrayFramesAreTurnedAway : Prop :=
  (∀ (i : Instr) (op : ReqOp) (f : ReqFrame), requestOf i = some (op, f) → ∀ (s : State) (p : PortId) (env : LinkEnv), s.Inv →
   f.via = .port p env → s.portUp p.val = true →
   (env.seq.toNat ≠ (s.link p.val).rxSeq →
     exec i s = .next ((nakOnce s p).tally 0 (4 * p.val + 2) 1).runMgmt.settled) ∧
   (env.seq.toNat = (s.link p.val).rxSeq → s.rd od2810_ROLE p.val ≤ 1 →
    let herd := s.rd od2810_HERD p.val
    let src := s.rd od2810_ENDPOINT p.val
    let u := reqReceived s p env op f (stampedHdr f herd src) herd
    let r := stamped u (.port p) op f herd src
    ((s.rd od2810_ROLE p.val = 0 ∨ herd = 0xFFF ∨ s.herdActive herd = false) → tagFree s (.port p) f.hdr.tag →
      exec i s = .next (((u.track r).unboundEvent p).answerHere r eAccess 0).runMgmt.settled) ∧
    (¬ tagFree s (.port p) f.hdr.tag → exec i s = .next
      ((u.freeCells r).emit (portQuad p.val) evTagDuplicate herd 1 p.val 0 [src * 65536 + f.hdr.tag.toNat]).runMgmt.settled))) ∧
  (∀ (i : Instr) (op : RespOp) (p : PortId) (env : LinkEnv) (h : RespHdr) (payload : List Byte),
   respOf i = some (op, .port p env h payload) → ∀ s : State, s.Inv → s.portUp p.val = true → env.seq.toNat = (s.link p.val).rxSeq →
   let v := respReceived s p env op h payload
   v.requestOf (v.newLf h) (some p) = none → s.isHere h.dst.toNat = true →
   exec i s = .next ((v.creditBack p h.cls.toNat (cellsOf (40 + payload.length))).tally h.herd.toNat 0x7C0 1).runMgmt.settled)

/-- R81: a response that comes in order on a port, or from a home of this A9, and whose request is outstanding here completes
that request: its sender has the answer, and what waited behind the request goes on. R91, R92, R316: the load timeout completes a
request that has been outstanding for LOAD_TIMEOUT, with the response that its home here has already given where there is one; and
the release of an endpoint port lets its waiting requests go on in their order. -/
def Obligations.ResponsesTimeoutsAndReleasesComplete : Prop :=
  (∀ (i : Instr) (op : RespOp) (src : RespSource), respOf i = some (op, src) → ∀ s : State, s.Inv → s.halted = false →
   (∀ k m r, src = .home k → s.tr.resps[k]? = some m → m.op = op → (∀ p, m.sender ≠ .trunk p) →
     s.tr.outstanding.find? (fun x => x.sender == m.sender && x.hdr.tag == m.hdr.tag && x.hdr.psn == m.hdr.psn) = some r →
     let v := { s with tr := { s.tr with resps := s.tr.resps.eraseIdx k } }
     exec i s = .next (v.giveAnswer r { m with hdr := v.newLf m.hdr }).runMgmt.settled) ∧
   (∀ p env h payload r, src = .port p env h payload → s.portUp p.val = true → env.seq.toNat = (s.link p.val).rxSeq →
     let v := respReceived s p env op h payload
     v.requestOf (v.newLf h) (some p) = some r →
     exec i s = .next ((v.creditBack p h.cls.toNat (cellsOf (40 + payload.length))).giveAnswer r
       { sender := r.sender, op := op, hdr := v.newLf h, payload := payload }).runMgmt.settled)) ∧
  (∀ s : State, s.Inv → s.halted = false →
   (∀ n r, s.tr.outstanding.find? (fun x => x.id == n) = some r → (∀ p, r.sender ≠ .trunk p) →
     s.past r.born (s.rd od2200_LOAD_TIMEOUT 0 * 1000) = true →
     ((∀ m ∈ s.tr.resps, ¬ (m.sender = r.sender ∧ m.hdr.tag = r.hdr.tag ∧ m.hdr.psn = r.hdr.psn)) →
       exec (.loadTimeoutExpiry n) s = .next (s.timeOut r).runMgmt.settled) ∧
     (∀ m, s.tr.resps = [m] → m.sender = r.sender → m.hdr.tag = r.hdr.tag → m.hdr.psn = r.hdr.psn →
       exec (.loadTimeoutExpiry n) s = .next (s.deliverHome 0 (respKind r.op)).runMgmt.settled)) ∧
   (∀ p : PortId, exec (.endpointRequestRelease p) s =
     .next ((((s.tr.outstanding.filter (fun r => r.hdr.src == BitVec.ofNat 16 (s.rd od2810_ENDPOINT p.val) &&
       (r.place == .rate || r.place == .order))).map (·.id)).foldl (fun u n => (u.tryRate n).tryOrder n) s).runMgmt.settled)))

/-- R70, R71: a frame that fails its checks on a port that receives is dropped and counted, and the first of a gap is answered
with a NAK that names the last SEQ received; a TIMEX frame is dropped without a NAK. A NAK, and the replay timer with frames not
acknowledged, send those frames once more; the ninth time without progress the port has a down event. -/
def Obligations.TheLinkLayerDropsAndReplays : Prop :=
  ∀ (p : PortId) (s : State), s.Inv →
  (∀ why, s.halted = false → s.rd od2118_STATE p.val = 3 →
    let v := if why = .auth then (s.tally 0 (4 * p.val + 2) 1).bump od4150_AUTH_FAILS p.val 64 1 else s.tally 0 (4 * p.val + 2) 1
    exec (.linkFrameDrop p why false) s = .next (nakOnce v p).runMgmt.settled ∧
    (why ≠ .seq → exec (.linkFrameDrop p why true) s = .next v.runMgmt.settled)) ∧
  (∀ env, s.portUp p.val = true → ((s.linkLearn p.val env).link p.val).unacked ≠ [] →
    exec (.nakReceived p env) s = .next (if 8 ≤ ((s.linkLearn p.val env).link p.val).replays then (s.linkLearn p.val env).portDown p
      else replayed (s.linkLearn p.val env) p).runMgmt.settled) ∧
  (s.portUp p.val = true → s.past (s.link p.val).timer (s.rd od2200_REPLAY_TIMER 0) = true → (s.link p.val).unacked ≠ [] →
    exec (.replayTimerExpiry p) s =
      .next (if 8 ≤ (s.link p.val).replays then s.portDown p else replayed s p).runMgmt.settled)

/-- R287, R288: a matcher slot takes the cells of its match across, lets the whole frames go on, begins the match for the slot
four ahead, and does one iteration of each match under way. R71, R295, R296, R304, R308, R318: a frame transmission, a read-back, a
credit release, a gate boundary and a queue sample each complete with their own effect. -/
def Obligations.TheSwitchAndItsQueuesComplete : Prop :=
  ∀ s : State, s.Inv →
  (∀ q : QuadId, s.flt.quadsLost.contains q.val = false →
    let n := quadGet s.sw.slot q.val
    let now := s.sw.runs.filter (fun r => r.quad == q.val && r.slot == n)
    let later := s.sw.runs.filter (fun r => !(r.quad == q.val && r.slot == n))
    let s0 := { s with sw := { s.sw with slot := quadSet s.sw.slot q.val (n + 1), runs := later ++ [MatchRun.mk q.val (n + 4) 0 [] []] } }
    let s1 := if now.flatMap (·.pairs) = [] then s0.count (0x6C0 + 16 * q.val + 6) 1
      else (now.flatMap (·.pairs)).foldl (fun u x => u.crossCell q.val x) s0
    exec (.cellCrossing q) s = .next ([n + 1, n + 2, n + 3, n + 4].foldl (fun u k => u.iterateRun q.val k) (s1.drainQueues q.val)).settled) ∧
  (∀ (p : PortId) f, s.portUp p.val = true → (sparseGet (0, 0) s.tm.sending p.val).1 ≤ s.up → s.chosen p = some f →
    let l := s.link p.val
    ∃ v : State, exec (.frameTransmit p) s = .next v.fencesGo.settled ∧ (∀ x ∈ v.sw.tx, x.id ≠ f.id) ∧
      (v.link p.val).unacked = l.unacked ++ [⟨l.txSeq, f.body⟩] ∧ (v.link p.val).txSeq = (l.txSeq + 1) % 65536 ∧
      (∃ env flen crc, v.outbox = s.outbox ++ [.frame p env flen crc f.body] ∧ env.seq = BitVec.ofNat 16 l.txSeq ∧
        env.ackseq = BitVec.ofNat 16 ((l.rxSeq + 65535) % 65536) ∧ flen = ceilDiv (bodyBytes f.body) 8) ∧
      sparseGet (0, 0) v.tm.sending p.val =
        (s.up + ceilDiv (f.bytes * 12800) (max 1 (s.portRate p.val)), bodyClass f.body)) ∧
  (∀ n f, s.sw.tx.find? (fun x => x.id == n) = some f → f.spilled = true →
    let q := portQuad f.port.val
    let h := bodyHerd f.body
    exec (.frameReadback n) s = .next ((((s.charge q h 4 f.cells false).charge q h 3 f.cells true).mapTx n
      (fun x => { x with spilled := false, source := 3 })).tally h (0x6C0 + 16 * q + 4) f.cells).settled) ∧
  (∀ (p : PortId) (c : Fin 8) h, s.sw.heldCr = [h] → h.port = p → h.cls = c.val → s.canSupply p.val h.cells = true →
    exec (.creditRelease p c) s = .next ((({ s with sw := { s.sw with heldCr := [] } }).setLink p.val
      { s.link p.val with owed := listSet (s.link p.val).owed c.val (listGet (s.link p.val).owed c.val + h.cells) })).settled) ∧
  (∀ p : PortId, s.rd od2450_STATE p.val ≠ 0 →
    let g := s.gateRun p.val
    let cur := s.rd od2450_CURRENT p.val
    (g.waits = true → gateAt g.began g.off ≤ s.gateNow p.val →
      exec (.gateEntryBoundary p) s = .next (s.enterGate p.val g.seg g.seg g.began g.off).settled) ∧
    (g.waits = false → gateAt g.began (g.off + gateNs (s.gateWord p.val cur)) ≤ s.gateNow p.val →
      exec (.gateEntryBoundary p) s = .next (s.enterGate p.val g.seg (s.nextEntry p.val g.seg cur) g.began
        (g.off + gateNs (s.gateWord p.val cur))).settled)) ∧
  (∀ (q : QueueId) t, s.rd od2400_TYPE q.val ≠ 0 → s.sampleDue q.val (s.queueQuad q.val) = some t →
    let look := s.queueLook q.val t
    exec (.queueSample q) s = .next ((({ s with tm := { s.tm with sampled := sparseSet 0 s.tm.sampled q.val (t + 1) } }).wr od2400_DEPTH_HIST
        q.val (histAdd (s.rd od2400_DEPTH_HIST q.val) (histBin look.1))).wr od2400_DELAY_HIST q.val
      (histAdd (s.rd od2400_DELAY_HIST q.val) (match look.2 with | none => 0 | some ns => delayBin ns))).settled)

/-- R52, R57, R84: a SYNC on a timed or upstream port is answered with a REPLY, a REPLY that matches the SYNC sent is answered
with a FOLLOW that carries t4, and the FOLLOW of the upstream exchange gives one sample from the four times; every 64 µs a SYNC
goes out on each timed port whose link is trained, but for the upstream port. R58, Table 2.4: a source that gives no sample for
its timeout changes quality 00 to 01, with the mean of the last increments; at the holdover limit quality 01 becomes 10. R58:
the sideband steers each quadrant's counter that does not discipline the others, and marks a quadrant that stands more than 2 ns
apart until it stands within 1 ns. -/
def Obligations.TimeCommandsComplete : Prop :=
  (∀ s : State, s.Inv →
   (∀ (p : PortId) (f : TimexFrame), s.timeLink p.val = true → (s.timesPort p.val = true ∨ p.val = s.rd od2000_UPSTREAM_PORT 0) →
     exec (.timexSync p f) s = .next ((s.setTimex p.val { s.timexOf p.val with
       replied := some (f.xseq.toNat, f.time.toNat, s.ft (portQuad p.val), f.quality.toNat) }).sendOn p
         (.timex p 1 (s.timeFrame p.val f.xseq.toNat 0))).settled) ∧
   (∀ (p : PortId) (f : TimexFrame) (t1 : Nat), s.timeLink p.val = true → s.timesPort p.val = true →
     (s.timexOf p.val).sent = some (f.xseq.toNat, t1) →
     exec (.timexReply p f) s = .next ((s.setTimex p.val { s.timexOf p.val with sent := none }).sendOn p
       (.timex p 2 (s.timeFrame p.val f.xseq.toNat (s.ft (portQuad p.val))))).settled) ∧
   (∀ (p : PortId) (f : TimexFrame) (t1 t2 q1 : Nat), s.timeLink p.val = true → s.rd od2000_SOURCE 0 = 1 →
     p.val = s.rd od2000_UPSTREAM_PORT 0 → (s.timexOf p.val).replied = some (f.xseq.toNat, t1, t2, q1) →
     let upQ := max q1 f.quality.toNat
     let out : Int := (t2 : Int) - t1
     let back : Int := (f.time.toNat : Int) - t2
     let v := s.setTimex p.val { s.timexOf p.val with replied := none }
     exec (.timexFollow p f) s = .next (if 2 ≤ upQ then v.discardSample else
       (v.wr od2000_PATH_DELAY 0 (unsigned 64 ((out + back) / 2))).sample ((out - back - s.asymmetry p.val) / 2) upQ).settled) ∧
   (ftToNs (s.ft 0) / 64000 ≠ s.time.tickExch →
     exec .timeExchangePeriod s = .next ((((List.finRange 256).filter (fun (p : PortId) => s.timesPort p.val && s.timeLink p.val &&
       p.val != s.rd od2000_UPSTREAM_PORT 0)).foldl (fun (u : State) p => u.startExchange p)
         { s with time := { s.time with tickExch := ftToNs (s.ft 0) / 64000 } }).settled))) ∧
  (∀ s : State, s.Inv →
   (∀ ns, s.sourceTimeout = some ns → s.rd od2000_QUALITY 0 = 0 → s.past s.time.lastSample ns = true →
     let t := s.time
     let mean := if t.incs = [] then quadGet t.inc s.timeQuad else t.incs.sum / t.incs.length
     exec .timeSourceTimeout s = .next ({ s with time := { t with
       inc := quadSet t.inc s.timeQuad mean, left := 0, holdover := some s.clk } }.wr od2000_QUALITY 0 1).settled) ∧
   (∀ t, s.time.holdover = some t → s.rd od2000_QUALITY 0 = 1 → s.past t (s.rd od2000_HOLDOVER_LIMIT 0 * 1000000000) = true →
     exec .holdoverLimitExpiry s =
       .next ({ s with time := { s.time with holdover := none } }.wr od2000_QUALITY 0 2).settled)) ∧
  (∀ s : State, s.Inv → ∃ v : State, exec .sidebandSync s = .next v.settled ∧ v = { s with time := v.time } ∧
     v.time.ctr = s.time.ctr ∧ quadGet v.time.apart s.timeQuad = false ∧ quadGet v.time.inc s.timeQuad = quadGet s.time.inc s.timeQuad ∧
     ∀ q, q < 4 → q ≠ s.timeQuad →
       let lead := quadGet s.time.ctr s.timeQuad
       let own := quadGet s.time.ctr q
       let gap := ((lead : Int) - own).natAbs
       quadGet v.time.inc q = slaveInc lead own (quadGet s.time.inc s.timeQuad) ∧
       (2 * nsScaled < gap → quadGet v.time.apart q = true) ∧ (gap ≤ nsScaled → quadGet v.time.apart q = false) ∧
       (nsScaled < gap → gap ≤ 2 * nsScaled → quadGet v.time.apart q = quadGet s.time.apart q))

/-- R67, R68, R399: each JOURNAL_INTERVAL a signed ledger record with the next JOURNAL_SEQ is written; while the effective debug level is 3
it waits. -/
def Obligations.TheJournalTakesARecord : Prop :=
  ∀ s : State, s.Inv → s.past s.time.journalAt (s.rd od5020_JOURNAL_INTERVAL 0 * 1000000000) = true → s.coresRun = true →
  (s.rd od4100_DEBUG_EFFECTIVE 0 = 3 →
    exec .journalIntervalExpiry s = .next ({ s with sec := { s.sec with ledgerDue := true } }).settled) ∧
  (s.rd od4100_DEBUG_EFFECTIVE 0 ≠ 3 → ∃ v : State, exec .journalIntervalExpiry s = .next v.settled ∧
    v.rd od5000_JOURNAL_SEQ 0 = satAdd 64 (s.rd od5000_JOURNAL_SEQ 0) 1 ∧ v.time.journalAt = s.clk ∧
    ∃ (r : JournalRec) (x : List Nat), r.seq = satAdd 64 (s.rd od5000_JOURNAL_SEQ 0) 1 ∧ r.vals = s.ft 0 :: s.qual 0 :: x ∧
      r.valid = true ∧ v.time.journal = (s.time.journal ++ [r]).drop (s.time.journal.length + 1 - 1024))

/-- R63, Table 2.6: a slot that reaches its TIME, meets no row of Table 2.7 and whose target takes the action fires: the action
takes place at TIME, LAST_FIRE and LAST_QUALITY hold the time and quality of its quadrant, and the slot is done, or armed again
one PERIOD later. R64, Table 2.7: a slot that meets a row of Table 2.7 misses: its action does not take place, STATE is 3, and
the event of R64 names the slot and the row. -/
def Obligations.TriggersFireOrMiss : Prop :=
  (∀ (i : Instr) (n : TrigId) (a : Nat) (act : State → Nat → Option State), slotCommand i = some (n, a, act) →
   ∀ s u : State, s.Inv → SlotDue s n a → s.missRow n.val (lateRow s n) = 0 →
   act s (if lateRow s n = 0 then s.rd od2010_TIME n.val else s.ft (slotQuad n.val)) = some u →
   ∃ v : State, exec i s = .next v.settled ∧ (v.rd od2010_STATE n.val = if s.rd od2010_PERIOD n.val = 0 then 2 else 1) ∧
     v.rd od2010_LAST_FIRE n.val = s.ft (slotQuad n.val) ∧ v.rd od2010_LAST_QUALITY n.val = u.qual (slotQuad n.val) ∧
     (u.rd od2010_PERIOD n.val ≠ 0 → v.rd od2010_TIME n.val =
       nextTime (u.rd od2010_TIME n.val) (u.rd od2010_PERIOD n.val) (s.ft (slotQuad n.val))) ∧
     v = { u with od := v.od, time := v.time } ∧
     (∀ e k, e.index < 65536 → e.sub < 256 → e.index ≠ 0x2010 → v.rd e k = u.rd e k)) ∧
  (∀ (i : Instr) (n : TrigId) (a : Nat) (act : State → Nat → Option State), slotCommand i = some (n, a, act) →
   ∀ s : State, s.Inv → SlotDue s n a → s.missRow n.val (lateRow s n) ≠ 0 →
   exec i s = .next ((s.slotEnd n.val (s.ft (slotQuad n.val)) 3).emit (slotQuad n.val) evTriggerMissed (s.rd od2010_HERD n.val) 9 n.val 0
     [n.val, s.missRow n.val (lateRow s n)]).settled)

/-- R364, R366, R24: a write on an open path that passes the eight checks takes effect, is recorded, and is answered with OK.
R396: the one write of the vendor test range that the manual gives, the advance to PROVISIONED, completes from its life-cycle
state. R405: a read of LOG_NEXT answers with the oldest record of the log and takes it out. -/
def Obligations.AcceptedAccessesTakeEffect : Prop :=
  (∀ (i : Instr) (a : Access) (f : State → Nat × State), writeOf i = some (a, f) →
   ∀ (s u : State) (r : OdRow), s.Inv → PathFree s a.path → isN ⟨a.index, a.sub⟩ = false →
   (accessed s).odCheck a = .inr r → f (accessed s) = (abOk, u) → u.queueOf a.path = [] →
   exec i s = .next ((u.configWrite a).send (.odAnswer a.path a.addr abOk [])).settled) ∧
  (∀ (path : OdPath) (s u : State), s.Inv → PathFree s path →
   ((accessed s).provisionWrite = (abOk, u) → u.queueOf path = [] →
     let a := writeAcc path (addrOf ⟨0xA000, 1⟩ 0) [1] .provision
     exec (.advanceProvisioned path) s = .next ((u.configWrite a).send (.odAnswer path a.addr abOk [])).settled) ∧
   (∀ r, (accessed s).odCheck ⟨false, path, addrOf od4430_LOG_NEXT 0, [], 64, 0, .direct, .plain⟩ = .inr r →
     let x := (accessed s).logNext
     x.1.length ≤ 64 → x.2.queueOf path = [] →
     exec (.logNext path) s = .next (x.2.send (.odAnswer path (addrOf od4430_LOG_NEXT 0) abOk x.1)).settled))

/-- R364, R367: a write that fails one of the eight checks changes nothing but the counts of accesses and of refused accesses,
and is answered with the abort code of the first check that fails. R22, R368: nothing arrives on a path that is not open, and a
write on a path whose queue is full is refused with BUSY. -/
def Obligations.RefusedWritesChangeNothing : Prop :=
  (∀ (i : Instr) (a : Access) (f : State → Nat × State), writeOf i = some (a, f) →
   ∀ (s : State) (c : Nat), s.Inv → PathFree s a.path →
   ((accessed s).odCheck a = .inl c ∧ c ≠ abOk ∧ s.odCheck a = .inl c ∨
     ∃ r u, isN ⟨a.index, a.sub⟩ = false ∧ (accessed s).odCheck a = .inr r ∧ f (accessed s) = (c, u) ∧ c ≠ abOk) →
   exec i s = .next (((accessed s).refuse a.path).send (.odAnswer a.path a.addr c [])).settled) ∧
  (∀ (i : Instr) (a : Access) (f : State → Nat × State), writeOf i = some (a, f) → ∀ s : State, s.Inv →
   (s.pathOpen a.path = false → exec i s = .next s.settled) ∧
   (s.pathOpen a.path = true → pathDepth a.path ≤ (s.queueOf a.path).length →
     exec i s = .next ((s.refuse a.path).send (.odAnswer a.path a.addr abBusy [])).settled))

/-- R363: a write of an N entry on path J or B waits for the configuration area. Once both copies hold the new values with the
next sequence number it takes effect; where a copy fails it is refused with STORAGE_FAILED and the entry keeps its value. The order of the copies is the model's (log entry 27). -/
def Obligations.StoredWritesWaitForBothCopies : Prop :=
  ∀ (p : OdPath) (s : State), s.Inv → p ≠ .f → (s.queueOf .j = [] ∨ p = .j) → (s.queueOf .b = [] ∨ p = .b) →
  (∀ addr v r, PathFree s p → s.mg.conf = none → isN ⟨addr.index.toNat, addr.sub.toNat⟩ = true →
    s.odCheck (writeAcc p addr v .plain) = .inr r →
    exec (.odWrite p addr v) s =
      .next ({ s with mg := { s.mg with conf := some p } }.setQueue p [writeAcc p addr v .plain]).settled) ∧
  (∀ a ok0 ok1, s.mg.conf = some p → s.queueOf p = [a] →
    let w := { s with mg := { s.mg with conf := none } }.setQueue p []
    let v := w.programConf a ok0 ok1
    (ok0 = true → ok1 = true → (v.execOd a).queueOf .j = [] → (v.execOd a).queueOf .b = [] →
      v.mg.copy0 = ⟨max s.mg.copy0.seq s.mg.copy1.seq + 1, true, s.confVals a⟩ ∧ v.mg.copy1 = v.mg.copy0 ∧
      exec (.configAreaProgramDone ok0 ok1) s = .next (v.execOd a).settled) ∧
    ((ok0 && ok1) = false →
      exec (.configAreaProgramDone ok0 ok1) s = .next (((accessed v).refuse a.path).answerOd a abStorage []).settled))

/-- R369–R371, R484: a message in a mailbox slot, or an MCTP message of the type and the enterprise number of this A9, is an
access on path J or B; a malformed one is answered with LENGTH_MISMATCH, any other MCTP message is discarded and counted, and a
set bit written to RESP_READY is cleared. R370: a doorbell for a slot that does not exist faults.
What a malformed message is answered is the model's (log entry 24). -/
def Obligations.MessagesAreAccesses : Prop :=
  (∀ s : State, s.Inv →
   (∀ (slot : Word64) msg, slot.toNat < 64 → s.pathOpen .j = true →
     let v := { s with mg := { s.mg with reqs := sparseSet [] s.mg.reqs slot.toNat msg } }
     let a := messageAccess .j (.slot slot.toNat) msg
     exec (.mailboxDoorbell slot msg) s =
       .next (if messageOk msg then v.odArrive a else (v.refuse .j).answerOd a abLength []).settled) ∧
   (∀ bits : Word64, s.pathOpen .j = true → ∃ n, exec (.respReadyClear bits) s =
       .next ({ s with mg := { s.mg with ready := n } }).settled ∧
     (∀ k, k < 64 → bitAt n k = (bitAt s.mg.ready k && !bits.getLsbD k))) ∧
   (∀ (t : Byte) body, s.pathOpen .b = true →
     let a := messageAccess .b .mctp (body.drop 4)
     exec (.mctpVendorMessage t body) s = .next (if t = 0x7F ∧ leNat (body.take 4) = s.rd od1000_ENTERPRISE 0 then
       (if messageOk (body.drop 4) then s.odArrive a else (s.refuse .b).answerOd a abLength [])
       else s.bump od1110_B_DISCARDS 0 32 1).settled)) ∧
  (∀ (slot : Word64) (msg : List Byte) (s : State),
   exec (.mailboxDoorbell slot msg) s = .fault .noSuchMailboxSlot ↔ 64 ≤ slot.toNat)

/-- R371, R374, R398: the four MCTP control requests are answered, an endpoint ID and a dynamic address are taken, and JTAG does
what the effective debug level allows. The answers to MCTP control and to JTAG beyond its level are the model's (log entries 25
and 28). -/
def Obligations.ManagementWiresComplete : Prop :=
  ∀ s : State, s.Inv →
  (s.pathOpen .b = true →
    (∀ eid : Byte, exec (.setEndpointId eid) s = .next (if eid = 0 ∨ eid = 0xFF then
        s.send (.mctpControl 1 2 [s.rd od1110_MCTP_EID 0])
      else (s.wr od1110_MCTP_EID 0 eid.toNat).send (.mctpControl 1 0 [eid.toNat])).settled) ∧
    exec .getEndpointId s = .next (s.send (.mctpControl 2 0 [s.rd od1110_MCTP_EID 0])).settled ∧
    exec .getMctpVersionSupport s = .next (s.send (.mctpControl 4 0 Config.mctpVersions)).settled ∧
    exec .getMessageTypeSupport s = .next (s.send (.mctpControl 5 0 [0x7F])).settled ∧
    ∀ addr : Byte, exec (.i3cDynamicAddressAssign addr) s = .next (s.wr od1110_I3C_DYNAMIC 0 addr.toNat).settled) ∧
  let level := s.rd od4100_DEBUG_EFFECTIVE 0
  exec (.jtagAccess .bypass) s = .next (s.send (.jtag .bypass [0])).settled ∧
  (∃ v, v.length = 4 ∧ exec (.jtagAccess .idcode) s = .next (s.send (.jtag .idcode v)).settled) ∧
  (∃ v, exec (.jtagAccess .boundary) s = .next (s.fresh.send (.jtag .boundary v)).settled) ∧
  (∀ n, exec (.jtagAccess (.counter n)) s =
    .next (if 1 ≤ level then s.send (.jtag (.counter n) (toLe 8 (s.counter n.toNat))) else s).settled) ∧
  (∃ v, exec (.jtagAccess .scan) s = .next (if level = 3 then s.fresh.send (.jtag .scan v) else s).settled) ∧
  (∀ e off len, level = 3 → s.jtagReach e.val off len = true → s.sealedHerd (s.extHerd e.val) = false →
    exec (.jtagAccess (.memRead e off len)) s =
      .next (s.fresh.send (.jtag (.memRead e off len) (s.readPool e.val off len))).settled) ∧
  (∀ e off data, level = 3 → s.jtagReach e.val off data.length = true → s.sealedHerd (s.extHerd e.val) = false →
    exec (.jtagAccess (.memWrite e off data)) s =
      .next ((s.writePool e.val off data).send (.jtag (.memWrite e off data) [])).settled) ∧
  (∀ e off len, level = 3 → s.jtagReach e.val off len = true → s.sealedHerd (s.extHerd e.val) = true →
    ∃ v, v.length = len ∧ exec (.jtagAccess (.memRead e off len)) s = .next (s.fresh.send (.jtag (.memRead e off len) v)).settled) ∧
  (∀ e off data, level = 3 → s.jtagReach e.val off data.length = true → s.sealedHerd (s.extHerd e.val) = true →
    ∃ v, v.length = data.length ∧ exec (.jtagAccess (.memWrite e off data)) s =
      .next ((s.writePool e.val off v).fresh.send (.jtag (.memWrite e off data) [])).settled) ∧
  (∀ e off len, (level ≠ 3 ∨ s.jtagReach e.val off len = false) → exec (.jtagAccess (.memRead e off len)) s = .next s.settled) ∧
  (∀ e off data, (level ≠ 3 ∨ s.jtagReach e.val off data.length = false) →
    exec (.jtagAccess (.memWrite e off data)) s = .next s.settled)

/-- R118, R119: at its switch a change of an extent is applied, STATE is 1 again and RESULT is OK; a change that the switch
cannot charge ends with its code and changes nothing else. R120: a change whose deadline passes before its switch is abandoned:
the extent is as it was, RESULT holds IN_USE, and the event of R120 names the operation. -/
def Obligations.ChangesSwitchOrAreAbandoned : Prop :=
  (∀ (e : ExtentId) (s : State) (c : Change), s.Inv → s.changeOf e.val = some c → s.deadlineGone c.started = false →
   (c.op = 5 → s.own.any (fun o => o.ext == e.val && o.state == 2) = false) →
   let code := s.switchCode e.val c.op c.arg
   let u := if code = abOk then s.applyChange e.val c.op c.arg else s
   let v := { u with pool := { u.pool with changes := u.pool.changes.filter (fun x => x.ext != e.val) } }
   exec (.compositionSwitch e) s =
     .next ((((v.wr od2820_STATE e.val 1).opEnd e.val c.op code evOpDone).unshareClosing e.val).release).settled) ∧
  (∀ (e : ExtentId) (s : State) (c : Change), s.Inv → s.changeOf e.val = some c →
   s.past c.started (s.rd od2840_COMPOSITION_DEADLINE 0 * 1000) = true →
   let v := { s with pool := { s.pool with changes := s.pool.changes.filter (fun x => x.ext != e.val) } }
   exec (.compositionDeadlineExpiry e) s =
     .next (((v.wr od2820_STATE e.val (if c.op = 1 then 0 else 1)).opEnd e.val c.op abInUse evAbandoned).unshareClosing e.val).settled)

/-- R114–R116: a revoke leaves step 3 of Table 4.9 when no request of its part remains, or at the revoke timeout, at which every
request that remains completes with E_EXTENT_REVOKED. R114, R116: step 4 of Table 4.9 frees what was revoked. A REVOKE leaves no
granule of the extent and the extent FREE; a SHRINK leaves none from its new length on; an UNSHARE takes the herd out of SHARED.
RESULT holds OK, unless a CLOSING herd that shares the extent has its own UNSHARE start at once (R34). -/
def Obligations.RevokesDrainAndFree : Prop :=
  (∀ (e : ExtentId) (s : State) (r : Revoke), s.Inv → s.revokeAt e.val 2 = some r →
   (s.revokeLeft r = [] → exec (.revokeDrainEnd e) s = .next (s.endDrain r).settled) ∧
   (s.past r.started (s.rd od2840_REVOKE_TIMEOUT 0 * 1000) = true → exec (.revokeTimeoutExpiry e) s = .next (s.endDrain r).settled) ∧
   (∀ x ∈ (s.endDrain r).pool.revokes, x.ext = e.val → x.step = 3) ∧
   (∀ q ∈ s.revokeLeft r, ∃ m ∈ (s.endDrain r).tr.resps, m.hdr.tag = q.hdr.tag ∧ m.hdr.psn = q.hdr.psn ∧ m.hdr.dst = q.hdr.src ∧
     (m ∈ s.tr.resps ∨ m.hdr.code = BitVec.ofNat 8 eRevoked))) ∧
  (∀ (e : ExtentId) (s : State) (r : Revoke), s.Inv → s.revokeAt e.val 3 = some r →
   exec (.revokeFree e) s = .next (s.revokeFree r).release.settled ∧
   (r.op = 6 → let v := s.revokeFree r
     v.extState e.val = 0 ∧ v.rd od2820_RESULT e.val = abOk ∧ v.revokeAt e.val 3 = none ∧
     ∀ g, g < 2 ^ 32 → (v.gran e.val g).tier = 0) ∧
   ((∀ h ∈ (s.extHerds e.val).tail, s.herdState h ≠ 3) → let v := s.revokeFree r
     ((r.op = 3 ∨ r.op = 9) → v.rd od2820_RESULT e.val = abOk ∧ v.extState e.val = 1) ∧
     (r.op = 3 → v.extGranules e.val = s.extGranules e.val - r.arg ∧
       ∀ g, g < 2 ^ 32 → if g < s.extGranules e.val - r.arg then v.gran e.val g = s.gran e.val g else (v.gran e.val g).tier = 0)) ∧
   (r.op = 9 → r.arg < 4096 →
     ∀ h, h < 4096 → (s.revokeFree r).extShared e.val h = (s.extShared e.val h && h != r.arg)))

/-- R102–R104, R124, R125: a fill, an eviction, the zeroing and the cleaning of a chunk, the expansion of a block and the move
of a granule each end with their own effect, and what waited for them goes on. -/
def Obligations.TheTiersWork : Prop :=
  ∀ (e : ExtentId) (g : Nat) (s : State), s.Inv →
  (s.readsOut e.val g = false → s.trayLost e.val g = false →
    exec (.granuleFillDone e g) s = .next (s.endFill e.val g).release.settled) ∧
  (s.evictable e.val g = true → exec (.granuleEviction e g) s = .next (s.evict e.val g).release.settled) ∧
  (∀ c : Fin 32, s.rd od2C00_SCRUB_RATE 0 ≠ 0 → ((s.gran e.val g).tier = 1 ∨ (s.gran e.val g).tier = 2) →
    exec (.backgroundZeroing e g c) s = .next (s.openChunk e.val g c.val).settled) ∧
  (∀ c : Fin 32, ((s.gran e.val g).tier ≠ 3 ∨ s.hostRoom s.flushMode = true) → s.mayClean e.val g c.val = true →
    exec (.chunkCleanDone e g c) s =
      .next ((s.cleanChunk e.val g c.val).writeThroughs e.val (g * 32 + c.val)).release.settled) ∧
  (∀ b bs, s.mode = 0 → s.flushMode = false → s.rd od2820_CSTATE e.val = 2 →
    s.pool.held.any (fun h => h.why == .expand && h.ext == e.val && h.place == b) = true → s.expandBlock e.val b = some bs →
    exec (.blockExpansionDone e b) s =
      .next (((s.bufferBlock e.val b).tally (s.extHerd e.val) (0x700 + 8 * s.extQuad e.val + 4) 1).release).settled) ∧
  (∀ f, let d := s.gran e.val g
    ((d.tier = 2 ∨ d.tier = 3) → d.cached = true → s.frame f = frameNone → f < s.cacheSets * 16 → d.moving = false →
      f / 16 = s.setOf d → f % 16 ∈ s.waysOf (s.extHerd e.val) →
      exec (.granuleMove e g f) s =
        .next (((s.setFrame f (s.frame d.frame)).setFrame d.frame frameNone).setGran e.val g { d with frame := f }).release.settled) ∧
    ((d.tier = 1 ∨ d.tier = 3 ∧ d.cached = false) → (∀ kv ∈ s.pool.gran, ¬ (kv.2.tier = d.tier ∧ kv.2.loc = f)) →
      s.trayLost e.val g = false →
      exec (.granuleMove e g f) s = .next (s.setGran e.val g { d with loc := f % 2 ^ 32 }).release.settled))

/-- R140, R142, R148, Table 5.7: a GETS or GETM of an agent that works counts at its line of an H extent. At a line that is neither
in rut nor poisoned it starts the transaction of the line, or waits behind what blocks it; at a poisoned one it is answered with
poison; at one in rut it joins those that wait there. R142, Table 5.7: a PUTS drops the agent's S copy, and a PUTM writes the data
back: of a line that nothing blocks the directory then knows no owner, and a probe that is out is answered with the data. A PUTM of
an agent that owns the line no more drops its copy and nothing else. -/
def Obligations.AgentsExchangeLines : Prop :=
  (∀ (i : Instr) (a : AgentId) (e : ExtentId) (n : Nat) (excl : Bool), getOf i = some (a, e, n, excl) → ∀ s : State, s.Inv →
   let l := lineNo e.val n
   let code := if excl then 1 else 0
   s.hLine e.val n = true → s.agentWorks a.val = true → (∀ x, s.held a.val l = some x → excl = true ∧ x.state = .s) →
   let u := s.rutCount l
   (u.inRut l = true →
     exec i s = .next ((({ u with tr := { u.tr with nextId := u.tr.nextId + 1 } }).traceCoh code a.val 257 l).rutArrive l
       ⟨65536 + a.val, some a.val, excl, u.bareReq a.val l⟩).release.settled) ∧
   (u.inRut l = false → (u.dirOf l).state = .p →
     exec i s = .next ((u.traceCoh code a.val 257 l).sendData a.val 257 l (poisonBytes 128) none).release.settled) ∧
   (u.inRut l = false → (u.dirOf l).state ≠ .p → u.askedLine a.val l = false → (u.cacheRoom a.val = true ∨ (u.held a.val l).isSome = true) →
     let v := u.traceCoh code a.val 257 l
     exec i s = .next (if v.lineBusy l || !v.mayStart l then
         { v with coh := { v.coh with waits := v.coh.waits ++ [LineWait.mk l (some a.val) excl none false] } }
       else v.startGet a.val l excl).release.settled)) ∧
  (∀ (a : AgentId) (e : ExtentId) (n : Nat) (s : State) (x : AgentLine), s.Inv →
   let l := lineNo e.val n
   s.hLine e.val n = true → s.held a.val l = some x →
   (x.state = .s →
     let v := ((s.traceCoh 2 a.val 257 l).setHeld a.val l none).dirTouch l
     exec (.puts a e n) s = .next (if (v.dirOf l).state = .s then v.setDir l ((v.dirOf l).drop a.val) else v).release.settled) ∧
   (x.state = .m → s.owns a.val l = false →
     exec (.putm a e n) s = .next ((s.traceCoh 3 a.val 257 l).setHeld a.val l none).release.settled) ∧
   (x.state = .m → s.owns a.val l = true →
     let o := s.ownedData a.val x
     let v := (((o.2.traceCoh 3 a.val 257 l).setHeld a.val l none).dirTouch l).writeBack l o.1
     let probe := v.coh.msgs.find? (fun m => m.agent == a.val && m.line == l && (m.kind == .fwds || m.kind == .fwdm || m.kind == .fwdr))
     (probe = none → v.lineBusy l = false → exec (.putm a e n) s = .next (v.setDir l dirNew).release.settled) ∧
     (∀ m, probe = some m → exec (.putm a e n) s = .next (((taken v m).setDir l dirNew).sendData m.other 257 l o.1
       (some (if m.kind = .fwdm then .m else .s))).release.settled)))

/-- R142, Table 5.6: an owner answers a FWDS, FWDM or FWDR with the data; it keeps the line in S and the home has the data, but
for a FWDM, which leaves it nothing. A sharer answers an INV with an INVACK and holds nothing. R142, Table 5.7: an INVACK
counts, DATA with a grant gives a transaction its data, and COMPACK gives the directory its next state and frees the line. R143:
a probe that has not been answered for PROBE_TIMEOUT raises the event of R143; a sharer then counts as answered, and a line
whose owner does not answer is poisoned, with its transaction. -/
def Obligations.ProbesAndTransactionsEnd : Prop :=
  (∀ s : State,
   (∀ (i : Instr) (k : CohKind) (a : AgentId) (e : ExtentId) (n : Nat), forwardOf i = some (k, a, e, n) →
     let l := lineNo e.val n
     ∀ x m, s.hLine e.val n = true → s.agentWorks a.val = true → s.held a.val l = some x → inFlight s k a.val l = some m →
     let o := (taken s m).ownedData a.val x
     exec i s = .next (if k = .fwdm then (o.2.setHeld a.val l none).sendData m.other a.val l o.1 (some .m)
       else ((o.2.setHeld a.val l (some ⟨.s, o.1⟩)).writeBack l o.1).sendData m.other a.val l o.1 (some .s)).settled) ∧
   (∀ (a : AgentId) (e : ExtentId) (n : Nat) m,
     let l := lineNo e.val n
     s.hLine e.val n = true → s.agentWorks a.val = true → inFlight s .inv a.val l = some m →
     exec (.cohInv a e n) s = .next (((taken s m).setHeld a.val l none).post'
       ⟨.invack, m.other, a.val, l, [], 0, none, s.clk⟩).settled)) ∧
  (∀ (a : AgentId) (e : ExtentId) (n : Nat) (s : State) (m : CohMsg) (t : LineTxn), s.Inv →
   let l := lineNo e.val n
   s.hLine e.val n = true → s.txnOf l = some t →
   let v := taken s m
   (inFlight s .invack a.val l = some m →
     exec (.invack a e n) s = .next ((v.setTxn { t with got := t.got + 1 }).txnStep l).release.settled) ∧
   (inFlight s .data a.val l = some m → m.grant.isSome = true →
     exec (.cohData a e n) s = .next ((v.setTxn { t with data := some m.data, due := some (t.due.getD m.acks), probe := false }).txnStep
       l).release.settled) ∧
   (inFlight s .compack a.val l = some m →
     let d := if t.excl then (if (s.held a.val l).isSome then dirOwned a.val else dirNew)
       else if (s.dirOf l).state = .m then (dirShared [(s.dirOf l).owner]).add a.val
       else if (s.dirOf l).state = .s then (s.dirOf l).add a.val else dirShared [a.val]
     exec (.compack a e n) s = .next ((((v.setDir l d).dropTxn l).freeLine l).release).settled)) ∧
  (∀ (a : AgentId) (e : ExtentId) (n : Nat) (s : State) (m : CohMsg), s.Inv →
   let l := lineNo e.val n
   s.hLine e.val n = true →
   s.coh.msgs.find? (fun m => m.agent == a.val && m.line == l && (m.kind == .inv || m.kind == .fwds || m.kind == .fwdm || m.kind == .fwdr)) = some m →
   s.past m.sent (s.rd od3000_PROBE_TIMEOUT 0 * 1000) = true →
   let v := (taken s m).emit (s.extQuad e.val) evProbeTimeout (s.extHerd e.val) 4 (s.extQuad e.val) 0 [s.extBase e.val + lineOff l, a.val]
   exec (.probeTimeoutExpiry a e n) s =
     .next (if m.kind = .inv then v.countAck l else (v.setDir l dirPoison).poisonTxn l).release.settled)

/-- R147, R149, R150, R152, R133: a rut buffer that may be loaded is loaded and its requests are admitted in the order of arrival; a
core cycle of a loaded line, one of its herd's where it is time-gated, executes one group of them; the
end of a window with no line in rut puts the settings written since in force and forgets the counts; and a reader that does not answer an INVALIDATE in time is dropped. -/
def Obligations.RutAndReadersComplete : Prop :=
  ∀ s : State, s.Inv → s.halted = false →
  (∀ (e : ExtentId) n x, s.coh.rut.find? (fun x => x.line == lineNo e.val n) = some x →
    (x.loaded = false → s.rutReady (lineNo e.val n) = true →
      exec (.rutBufferLoaded e n) s =
        .next ((s.setRut { x with loaded := true }).admitFirst (lineNo e.val n) x.waiting).release.settled) ∧
    (x.loaded = true → s.lineBusy (lineNo e.val n) = false → s.mayStart (lineNo e.val n) = true → x.admitted ≠ [] →
      let g := rutGroup x.admitted
      let v := (s.setRut { x with admitted := x.admitted.drop g.length }).homeCount (lineExt (lineNo e.val n)) 9 1
      exec (.rutExecute e n) s = .next ((((g.foldl (fun (u : State) q => u.rutExec (lineNo e.val n) q) v).rutAdmit (lineNo e.val n)
        (x.waiting.length + 1)).rutLeave (lineNo e.val n)).release).settled)) ∧
  (∀ q : QuadId, s.past (quadGet s.coh.window q.val) (quadGet s.coh.rutSet q.val).2.1 = true →
    exec (.rutWindowEnd q) s = .next (s.rutWindow q.val).release.settled ∧
    (s.coh.rut = [] → let v := s.rutWindow q.val
      quadGet v.coh.rutSet q.val = (s.rd od3000_RUT_COUNT 0, s.rd od3000_RUT_WINDOW 0, s.rd od3000_RUT_EXIT 0) ∧
      quadGet v.coh.window q.val = s.clk ∧ ∀ x ∈ v.coh.counts, s.extQuad (lineExt x.1) ≠ q.val)) ∧
  (∀ (e : ExtentId) (r : ReaderId) p, s.coh.rounds.find? (fun p => p.ext == e.val && p.left.any (fun x => x.1 == r.val)) = some p →
    s.past p.sentAt (s.rd od3000_INVAL_TIMEOUT 0 * 1000) = true →
    exec (.invalTimeoutExpiry e r) s = .next ((s.dropReader e.val r.val).readerDone e.val r.val).release.settled)

/-- R170, R171: a launch serves the rings in their order. The first whose first command can launch launches it on its tines, or
completes it with its code where its descriptor, its profile or the mode bars it; the rings before it that cannot stay as they
are. R173, R174, R436: a command that is over, with no access on its way, completes: its record goes to its event ring with its
code, or is dropped where the descriptor says so, and its place is free. -/
def Obligations.CommandsLaunchAndComplete : Prop :=
  (∀ (s : State) (r : Nat) (rs : List Nat), s.Inv → s.halted = false → s.servedRings = r :: rs →
   let c := s.firstCmd r
   let turn := fun (u : State) =>
     { u with cpu := { u.cpu with lastTurn := sparseSet 0 u.cpu.lastTurn (u.rd od3410_PRIORITY r) (r + 1) },
              dbg := { u.dbg with profWait := u.dbg.profWait.filter (· != (c.ring, c.slot)) } }
   (∀ ts, s.launchWay c = .go ts → exec .commandLaunch s = .next (turn (s.launch c ts)).settled) ∧
   (∀ code b, s.launchWay c = .fail code b → exec .commandLaunch s = .next (turn (s.launchFailed c code b)).settled) ∧
   (s.launchWay c = .wait → exec .commandLaunch s = .next ((s.countWait c).serveRings rs).settled)) ∧
  (∀ (cid : Nat) (s : State) (c c1 : Cmd) (code : Nat), s.Inv → s.halted = false → s.cmd cid = some c → c.work.phase ≠ recordedPhase →
   s.overWith c = some code →
   let v := (s.setCmd { s.cmdEnds c with code := some code, finished := true }).endProfile c code
   v.cmd cid = some c1 →
   (v.ioSettled cid = true → exec (.commandCompletion cid) s = .next (v.endCmd c1 (firstCode code (v.storeCode cid))).settled) ∧
   (v.ioSettled cid = false → exec (.commandCompletion cid) s = .next v.settled))

/-- R156, R171, R211, R222, R234–R237, R248, R250: a unit takes up a launched command of its KIND and does its work. R156: a NOP
completes with OK and does nothing else. R173: a KERNEL starts all threads of its tines at its CODE. -/
def Obligations.UnitsTakeUpTheirCommands : Prop :=
  (∀ (i : Instr) (cid kind : Nat) (f : State → Cmd → State), unitWork i = some (cid, kind, f) →
   ∀ (s : State) (c : Cmd), s.Inv → InFlight s cid kind c → exec i s = .next (f s c).settled) ∧
  (∀ (cid : Nat) (s : State) (c : Cmd), s.Inv → c.cid = cid →
   (InFlight s cid 0 c → exec (.nopCommand cid) s =
     .next (s.setCmd { s.cmdEnds c with code := some eOk, results := [0, 0, 0], finished := true }).settled) ∧
   (InFlight s cid 1 c → c.work.phase = 0 → ∀ t, c.tines = [t] → (s.tine t).threads = [] → bitsOf (c.word 3) 55 48 ≤ 128 → 1 ≤ cid →
     ∃ v : State, exec (.kernelCommand cid) s = .next v.settled ∧ (∀ h, h < bitsOf (c.word 3) 55 48 →
       v.thread t h = { live := true, cid := cid, idx := h, pc := c.word 1, regs := launchRegs c t h, err := 0, wait := .ready, due := 0 }) ∧
       (∀ h, bitsOf (c.word 3) 55 48 ≤ h → v.thread t h = threadNew) ∧ (∀ t' h, t' ≠ t → v.thread t' h = s.thread t' h)))

/-- R274–R281: a command of the match engine searches, goes on from its cursors or updates the rule set that it names, once for
each of its keys or records; one whose set is not active or belongs to another herd ends with E_ACCESS, and outside normal mode
it ends with E_DEGRADED. R255, R258: a page task whose rows and query are there gives its partials, and the last one lets its
DECODE go on; a task with a page outside its extent ends with E_ACCESS. R248, R250: a command that waits for an even EPOCH reads
it again each microsecond, and at the edit timeout. -/
def Obligations.MatchAndAttentionCommandsComplete : Prop :=
  (∀ (i : Instr) (cid kind : Nat), matchWork i = some (cid, kind) → ∀ (s : State) (c : Cmd), s.Inv → InFlight s cid kind c →
   (s.mode ≠ 0 → exec i s = .next (s.finishWith cid eDegraded [0, 0, 0]).settled) ∧
   (s.mode = 0 → s.cmdSet c = none → exec i s = .next (s.finishWith cid eAccess [0, 0, 0]).settled) ∧
   (∀ r, s.mode = 0 → s.cmdSet c = some r → kind ≠ 0x32 →
     exec i s = .next (s.searchFrom cid r (kind == 0x31) (c.word 3 / 2 ^ 32 + 1)).settled) ∧
   (∀ r data v, s.mode = 0 → s.cmdSet c = some r → kind = 0x32 →
     s.unitLoad cid (s.tableEp c) c.herd (c.word 1) (64 * (c.word 3 / 2 ^ 32)) = (.got eOk data, v) →
     let recs := (List.range (c.word 3 / 2 ^ 32)).map (fun k => leNat ((data.drop (64 * k)).take 64))
     (∀ x ∈ recs, recordReservedOk x = true ∧ recWord x 7 % 2 ^ 32 < s.rd od4010_COUNT r) →
     exec i s = .next (((recs.foldl (fun u x => u.putEntry r (recWord x 7 % 2 ^ 32) x) v).tally c.herd (0x720 + 4 * s.rd od4010_BANK r + 1)
       (c.word 3 / 2 ^ 32)).finishWith cid eOk [c.word 3 / 2 ^ 32, 0, 0]).settled)) ∧
  (∀ (cid : Nat) (s : State) (c : Cmd), s.Inv →
   (∀ n k, InFlight s cid 0x20 c → c.work.tasks[n]? = some k → c.work.phase = 4 → k.tine.isSome = true → k.code = none →
     exec (.pageTaskDone cid n) s = .next (s.runTask c n k).settled ∧
     ((k.kaddr = none ∨ k.vaddr = none) → s.runTask c n k = s.endTask c.cid n eAccess [])) ∧
   (s.cmd cid = some c → s.halted = false → editing c = true →
     let u := (s.setPhase c.cid 1)
     let v := if c.kind = 0x20 then u.decodeGo c.cid 16 else u.appendGo c.cid 8
     (s.past (c.num 2) 1000 = true → exec (.epochReread cid) s = .next v.settled) ∧
     (s.past c.work.since (s.rd od3C00_EDIT_TIMEOUT 0 * 1000) = true → exec (.editTimeoutExpiry cid) s = .next v.settled)))

/-- R260–R262, Table 9.6: an ownership operation on a list whose header its walker reads has the code and the record of Table
9.6; no other record changes, and the answer carries the record after it. R263: a hand-off that has not been committed for
HANDOFF_TIMEOUT since its PREPARE reverts: the owner owns the list again, the revert is counted and the event of R263 names it.
-/
def Obligations.OwnershipMovesAsTableNineSixSays : Prop :=
  (∀ (i : Instr) (cid op : Nat), ownCommand i = some (cid, op) → ∀ (s v : State) (c : Cmd) (e : Nat) (data : List Byte), s.Inv →
   InFlight s cid 0x22 c → bitsOf (c.word 3) 31 24 = op → s.mode ≠ 2 → s.listPlace c.herd (c.word 1) = (eOk, e) →
   s.unitLoad c.cid (s.walker (s.listQuad c)) c.herd (c.word 1) 128 = (.got eOk data, v) →
   v.listOk e (c.word 1) (wordsOf 16 data) = true →
   let w := c.word 5
   let x := ownRule op (w / 2 ^ 48) (bitsOf w 47 32) (w % 2 ^ 32) (s.ft (s.extQuad e) % 2 ^ 64)
     (decide (262144 ≤ (s.ownsOf (s.extSlice e)).length)) { ownNew e (c.word 1) with state := 1, owner := w / 2 ^ 48 } (v.ownRec e (c.word 1))
   ∃ u : State, exec i s = .next (u.attnFinish cid x.1 (ownWords x.2)).settled ∧ u.ownRec e (c.word 1) = x.2 ∧
     (∀ e' l', (e', l') ≠ (e, c.word 1) → u.ownRec e' l' = v.ownRec e' l') ∧ u = { v with own := u.own, od := u.od }) ∧
  (∀ (n : Nat) (s : State) (r : OwnRec), s.Inv → s.own[n]? = some r → r.state = 2 →
   r.prep + usToFt (s.rd od3C20_HANDOFF_TIMEOUT 0) ≤ s.ft (s.extQuad r.ext) →
   exec (.handoffTimeoutExpiry n) s = .next (((s.putOwn { r with state := 1, succ := 0xFFFF }).bump od3C00_REVERTS 0 64 1).emit
     (s.extQuad r.ext) evHandoffReverted (s.extHerd r.ext) 4 (s.extQuad r.ext) 0 [r.list, r.owner, r.succ]).settled)

/-- R210–R213, R218, R291: a CONTRIB on a bound endpoint port enters the A9; on a trunk, a PARTIAL or an ABORT for a reduce unit
here is served by it, and a RESULT or an ABORT for a group is replicated; each is answered and noted once, and after a stop it is
answered with E_ACCESS. R218, R219, R232: the root's step timeout aborts the open step, a node's ends it with E_TARGET_LOST, and a
failed entropy source aborts the noisy steps of its quadrant that have fired. -/
def Obligations.CollectiveFramesAndTimeoutsComplete : Prop :=
  (∀ (f : CollFrame) (s : State), s.Inv → s.portUp f.port.val = true → f.env.seq.toNat = (s.link f.port.val).rxSeq →
   let p := f.port
   (s.rd od2810_ROLE p.val = 1 → s.herdActive (s.rd od2810_HERD p.val) = true → s.rd od2810_HERD p.val ≠ 0xFFF →
     tagFree s (.port p) f.hdr.tag →
     let herd := s.rd od2810_HERD p.val
     let src := s.rd od2810_ENDPOINT p.val
     let u := collReceived s .contrib f { f.hdr with herd := BitVec.ofNat 12 herd, src := BitVec.ofNat 16 src } herd
     exec (.collContrib f) s = .next (u.enter (collReq u (.port p) .contrib f herd src)).retryContribs.settled) ∧
   (s.rd od2810_ROLE p.val = 2 → f.hdr.rlx = false →
     let ctx := f.hdr.ctx.toNat
     let here := fun (op : CollOp) => collReceived s op f f.hdr f.hdr.herd.toNat
     let v := fun (op : CollOp) =>
       let w := (here op).creditBack p f.hdr.cls.toNat (cellsOf (56 + f.payload.length))
       { w with tr := { w.tr with nextId := w.tr.nextId + 1 } }
     let r := fun (op : CollOp) => collHere (here op) op f
     let group := fun (op : CollOp) => (((v op).multicast (s.rd od3800_MCGROUP ctx) (s.rd od3800_HERD ctx) (portQuad p.val) (portEnd p.val)
       (some p) (.coll op f.hdr f.payload)).1).noteApplied (r op) (mkResp (r op) eOk 0 0 [])
     (f.hdr.dst.toNat = s.reduceEp ctx → f.hdr.dst ≠ 0xFFFF → s.psnApplied (r .part) = false →
       exec (.collPartial f) s = .next ((v .part).partialAnswer (r .part) ((v .part).servePartial (r .part) f.hdr)).retryContribs.settled) ∧
     (f.hdr.dst.toNat = s.reduceEp ctx → f.hdr.dst ≠ 0xFFFF → collReserved .abort f.hdr = true → s.psnApplied (r .abort) = false →
       (s.ctxRunning ctx = true → exec (.collAbort f) s = .next (((v .abort).complete (r .abort) eOk 0 []).takeAbort ctx
         f.hdr.step.toNat f.hdr.src.toNat (bitsOf f.hdr.aux.toNat 7 0)).retryContribs.settled) ∧
       (s.ctxRunning ctx = false → exec (.collAbort f) s = .next ((v .abort).answer (r .abort) eAccess 0 []).retryContribs.settled)) ∧
     (f.hdr.dst = 0xFFFF → s.psnApplied (r .result) = false →
       (s.rd od3800_STATE ctx < 2 → exec (.collResult f) s = .next (group .result).settled) ∧
       (2 ≤ s.rd od3800_STATE ctx → exec (.collResult f) s = .next ((v .result).answer (r .result) eAccess 0 []).settled)) ∧
     (f.hdr.dst = 0xFFFF → s.psnApplied (r .abort) = false →
       (s.rd od3800_STATE ctx < 2 → exec (.collAbort f) s = .next (group .abort).retryContribs.settled) ∧
       (2 ≤ s.rd od3800_STATE ctx → exec (.collAbort f) s = .next ((v .abort).answer (r .abort) eAccess 0 []).retryContribs.settled)))) ∧
  (∀ s : State, s.Inv →
   (∀ (c : CtxId) t a b, let x := s.stepOf c.val (s.openStep c.val)
     (if s.rd od3800_CLOSE c.val = 0 then x.first else x.fired) = some (t, a, b) → s.ctxRunning c.val = true → s.ctxRoot c.val = true →
     s.past t (s.rd od3800_STEP_TIMEOUT c.val * 1000) = true → (s.rd od3800_MISSING c.val = 0 ∨ s.kidsLacking c.val x = true) →
     exec (.stepTimeoutExpiry c) s = .next (s.abortStep c.val eTimeout).retryContribs.settled) ∧
   (∀ (c : CtxId) t a b, (s.stepOf c.val (s.openStep c.val)).first = some (t, a, b) → s.ctxRunning c.val = true →
     s.ctxRoot c.val = false → s.past t (2 * s.rd od3800_STEP_TIMEOUT c.val * 1000) = true →
     exec (.nodeStepTimeout c) s = .next (s.closeStep c.val eTargetLost).retryContribs.settled) ∧
   (∀ q : QuadId, ∃ l : List Nat,
     let v := ({ s with co := { s.co with noEntropy := quadSet s.co.noEntropy q.val true } }).emit q.val evEntropyFault 0 7 q.val 0 [q.val]
     exec (.entropyHealthFail q) s = .next (l.foldl (fun u c => u.abortStep c eDegraded) v).settled ∧
     (∀ c, c ∈ l ↔ c ∈ v.runningCtxs ∧ ctxQuad c = q.val ∧ v.ctxRoot c = true ∧ v.ctxAgg c = true ∧ v.rd od3820_SIGMA c % 2 ^ 31 ≠ 0 ∧
       (v.stepOf c (v.openStep c)).fired.isSome = true)))

/-- R328, R331: a lane that loses its signal, or whose corrected symbols of a millisecond exceed LANE_SER_LIMIT, is bad; a TMT
port that is up and uses the lane has a down event, and one that is suppressed trains again at fewer lanes. A lane that no port has changes nothing. R327, R330: a stage that exceeds
its limit of Table 13.5 puts its port in STATE 1; 10 ms later the port trains again; a port that is suppressed enters STATE 3
once its penalty is below REUSE. -/
def Obligations.PortsFailAndTryAgain : Prop :=
  (∀ (l : LaneId) (s : State), s.Inv →
   (s.portOfLane l.val = none → exec (.laneSignalLoss l) s = .next s.settled) ∧
   (∀ (p : PortId) i, s.portOfLane l.val = some (p.val, i) → i < 8 → s.isCxl p.val = false →
     let first := sparseGet 0 s.ports.laneAt p.val
     let bad := s.rd od2118_BAD_LANES p.val
     let v := if bitAt bad i then s else s.wr od2118_BAD_LANES p.val (bad + 2 ^ i)
     ((i < first ∨ first + s.rd od2118_WIDTH p.val ≤ i) → exec (.laneSignalLoss l) s = .next v.settled) ∧
     (first ≤ i → i < first + s.rd od2118_WIDTH p.val →
       (s.rd od2118_STATE p.val = 3 → exec (.laneSignalLoss l) s = .next (v.portDown p).settled) ∧
       (s.rd od2118_STATE p.val = 4 → exec (.laneSignalLoss l) s = .next ((v.bump od5000_LINK_RETRAINS 0 64 1).retrainAt p.val
         [s.rd od2118_WIDTH p.val / 2, s.rd od2118_WIDTH p.val / 4, s.rd od2118_WIDTH p.val / 8]).settled))) ∧
   (∀ corrected : Word,
     let v := s.bump od2114_CORRECTED l.val 64 corrected.toNat
     exec (.laneSerCheck l corrected) s =
       (if s.rd od2100_LANE_SER_LIMIT 0 < corrected.toNat then exec (.laneSignalLoss l) v else .next v.settled))) ∧
  (∀ (p : PortId) (s : State), s.Inv →
   (∀ n, TrainsAt s p n → 1 ≤ n → n ≤ 4 →
     s.past (s.training p.val).since (if n = 1 then 2000000 else
       if n = 2 then (if s.rd od2118_VARIANT p.val = 1 then 500000000 else 100000000) else if n = 3 then 1000000 else 10000) = true →
     exec (.trainingStageTimeout p) s =
       .next ((s.wr od2118_STATE p.val 1).setTraining p.val { s.training p.val with stage := 0, retry := some s.clk }).settled) ∧
   (∀ t, (s.training p.val).retry = some t → s.rd od2118_STATE p.val = 1 → s.mode ≠ 2 → s.halted = false → s.past t 10000000 = true →
     lanesGood (s.rd od2118_BAD_LANES p.val) (sparseGet 0 s.ports.laneAt p.val) (s.training p.val).width = true →
     exec (.trainingRetry p) s = .next ((s.wr od2118_WIDTH p.val (s.training p.val).width).startTraining p.val
       (s.training p.val).width (s.training p.val).fast).settled) ∧
   (s.rd od2118_STATE p.val = 4 → s.halted = false → s.penalty p.val < s.rd od2100_REUSE 0 →
     exec (.penaltyReuse p) s = .next (s.enterUp p).settled) ∧
   (s.rd od2118_STATE p.val = 4 → s.rd od2100_REUSE 0 ≤ s.penalty p.val → exec (.penaltyReuse p) s = .next s.settled))

/-- R327, R330: a training port goes from stage to stage; at the end of stage 4 a port whose width and link tag match is in
service, or suppressed while its penalty exceeds SUPPRESS, and one of another width or tag stays in stage 5 with an event. -/
def Obligations.PortsTrain : Prop :=
  ∀ (p : PortId) (r : StageResult) (s : State), s.Inv →
  (TrainsAt s p 1 → exec (.trainingStageDone p r) s = .next (((s.setAmps ((s.lanesUsed p.val).map (fun l => (l, s.rd od2114_AMP l)))).setTraining
    p.val { s.training p.val with stage := if (s.training p.val).fast then 3 else 2,
                                  since := s.clk })).settled) ∧
  (TrainsAt s p 2 → exec (.trainingStageDone p r) s = .next (((s.setAmps ((s.lanesUsed p.val).zip r.amps)).setTraining
    p.val { s.training p.val with stage := 3, since := s.clk })).settled) ∧
  (TrainsAt s p 3 → exec (.trainingStageDone p r) s = .next (atStage s p 4).settled) ∧
  (TrainsAt s p 4 →
    let v := farEnd s p r
    let stay := v.setTraining p.val { v.training p.val with stage := 5 }
    (r.width.toNat ≠ s.rd od2118_WIDTH p.val →
      exec (.trainingStageDone p r) s = .next (stay.emit (portQuad p.val) evWidthMismatch 0 1 p.val 0 [p.val]).settled) ∧
    (r.width.toNat = s.rd od2118_WIDTH p.val → r.authOk = false →
      exec (.trainingStageDone p r) s = .next (stay.emit (portQuad p.val) evLinkAuth 0 1 p.val 0 [p.val]).settled) ∧
    (r.width.toNat = s.rd od2118_WIDTH p.val → r.authOk = true →
      let n := s.rd od2300_CREDIT_INIT 0
      let u := ((((v.wr od4150_ENCRYPT p.val (if sparseGet 0 s.sec.linkKeys p.val = 0 then 0 else 1)).setLink p.val
        { linkNew with credits := List.replicate 8 r.credits.toNat, out := List.replicate 8 n }).send (.credits p n)).freshTags
        p.val).setTraining p.val trainNew
      exec (.trainingStageDone p r) s = .next (if s.penalty p.val ≤ s.rd od2100_SUPPRESS 0 then u.enterUp p
        else u.wr od2118_STATE p.val 4).settled))

/-- R337, R338: a link-state record that another A9 writes is kept on the board; one that is not later than its reporter's last
one is passed over, and one that stands takes its links down, or up at SWITCH. R338–R340: at SWITCH the links whose time has
come leave the down set, the holds and the windows of the destination whose time has come end, and its route is chosen again;
what was held goes on. -/
def Obligations.RoutesFollowLinkStates : Prop :=
  (∀ (r : LinkRecord) (s : State), s.Inv →
   let v := s.boardWrite r
   ((¬ later v r ∨ r.reporter.val = v.rd od2100_A9_NUMBER 0 ∨ (r.st ≠ 1 ∧ r.st ≠ 2)) → exec (.linkStateRecord r) s = .next v.settled) ∧
   (later v r → r.reporter.val ≠ v.rd od2100_A9_NUMBER 0 →
     let names := recordNames v r
     ((r.st = 1 ∨ r.st = 2) → (seen v r).recordStands r names = false → exec (.linkStateRecord r) s = .next (seen v r).settled) ∧
     ((seen v r).recordStands r names = true →
       (r.st = 1 → exec (.linkStateRecord r) s = .next ((seen v r).noteDown names r).settled) ∧
       (r.st = 2 → exec (.linkStateRecord r) s =
         .next ((seen v r).noteUp names r.detected.toNat r.switch.toNat r.reporter.val).settled)))) ∧
  (∀ (d : A9Id) (s : State), s.Inv →
   let v := s.linksBack
   let u := { v with ports := { v.ports with
     holds := v.ports.holds.filter (fun h => !(h.dest == d.val && !h.drain && decide (h.until_ ≤ v.ft 0))),
     windows := v.ports.windows.filter (fun w => !(w.1 == d.val && decide (w.2.1 ≤ v.ft 0))) } }
   (∀ l, l ∈ v.ports.downSet ↔ l ∈ s.ports.downSet ∧
     ∀ k t, (l, k) ∈ s.ports.known → k.upAt = some t → s.ft 0 < t) ∧
   ((∀ h ∈ v.ports.holds, h.dest = d.val → h.drain = true → v.ft 0 < h.until_) →
     exec (.switchTimeReached d) s = .next (u.moveRoute d.val).endHolds.resend.settled) ∧
   ((∃ h ∈ v.ports.holds, h.dest = d.val ∧ h.drain = true ∧ h.until_ ≤ v.ft 0) →
     exec (.switchTimeReached d) s = .next (u.wr od2130_IN_USE d.val (u.bestSlot d.val)).endHolds.resend.settled))

/-- R325: a CXL link that fails leaves its tray lost; a device that adds capacity adds a region; a release is refused with the
event of R325 while a granule is in the region, and takes the region away otherwise. -/
def Obligations.CxlDevicesComeAndGo : Prop :=
  ∀ (p : PortId) (s : State), s.Inv → s.isCxl p.val = true →
  (2 ≤ s.rd od2118_STATE p.val → exec (.cxlLinkFail p) s =
    .next ((((s.wr od2118_STATE p.val 1).wr od2118_WIDTH p.val 0).setTraining p.val trainNew).portGone p).settled) ∧
  (s.rd od2118_STATE p.val = 3 → ∀ r : CxlRegion,
    let first := r.first.toNat
    let count := r.count.toNat
    let base := p.val / 4 * 16777216 + first
    (0 < count → first + count ≤ 16777216 → s.ports.regions.any (regionMeets p first count) = false →
      exec (.cxlDcAdd p r) s = .next (State.settled { s with ports := { s.ports with
        regions := s.ports.regions ++ [DcRegion.mk p first count] } })) ∧
    ((∃ kv ∈ s.pool.gran, kv.2.tier = 2 ∧ base ≤ kv.2.loc ∧ kv.2.loc < base + count) →
      exec (.cxlDcReleaseRequest p r) s = .next (s.emit (portQuad p.val) evCxlReleaseRefused 0 1 p.val 0 [p.val]).settled) ∧
    ((∀ kv ∈ s.pool.gran, kv.2.tier = 2 → kv.2.loc < base ∨ base + count ≤ kv.2.loc) →
      exec (.cxlDcReleaseRequest p r) s = .next (State.settled { s with ports := { s.ports with
        regions := s.ports.regions.flatMap (regionLess p first count) } })))

/-- R342–R344, R355, R356: a shelf whose geometry meets Table 14.1 is accepted, another refused with the event of R342; a
completion ends the operation with its channel, die and tag as its status says, and one that matches none is counted; an
operation without one in time has its die reset once, and fails its die the second time. R350, R352, R354, R355: a map
checkpoint names the next 256 blocks to open; reclamation copies the full block with the fewest valid chunks, wear levelling the
full block erased least, and a refresh the block that is due, which is then erased. -/
def Obligations.ShelvesAndTheirTranslationComplete : Prop :=
  (∀ (p : PortId) (s : State), s.Inv →
   (∀ g, s.rd od2118_STATE p.val = 3 → s.rd od2810_ROLE p.val = 3 → s.isCxl p.val = false →
     let raw := s.shelves.foldl (fun a x => if x = p.val then a else a + rawBytes (s.geo x)) 0
     ((geometryOk g = false ∨ 256 * 1024 * gib < raw + rawBytes g) → exec (.shelfAttach p g) s =
       .next ((s.wr od2C30_STATE p.val 2).emit (portQuad p.val) evShelfRefused 0 11 p.val 0 [p.val]).release.settled) ∧
     (geometryOk g = true → raw + rawBytes g ≤ 256 * 1024 * gib → s.geo p.val = g →
       exec (.shelfAttach p g) s = .next ((s.wr od2C30_STATE p.val 1).recompute.pump).release.settled)) ∧
   (∀ c, s.rd od2118_STATE p.val = 3 →
     (∀ o ∈ s.nand.ops, ¬ (opDie o = p.val * 4096 + c.channel.toNat * 64 + c.die.toNat ∧ o.tag = some c.tag.toNat)) →
     exec (.shelfCompletion p c) s = .next (s.count (coreCounter (portQuad p.val) 6) 1).settled) ∧
   (∀ c o, completes s p c o →
     let gone := opGone s o
     (o.op = 1 → c.status.toNat = 1 → o.retry = 15 →
       exec (.shelfCompletion p c) s = .next ((gone.pageLost o.job p.val).eraseReady.pump).settled) ∧
     (o.op = 1 → c.status.toNat = 1 → o.retry < 15 →
       exec (.shelfCompletion p c) s = .next ((((s.putOps (s.nand.ops.map (fun y => if y = o then
         { o with retry := o.retry + 1, tag := none, again := false } else y))).count (coreCounter (portQuad p.val) 6) 1).eraseReady).pump).settled) ∧
     (o.op = 2 → c.status.toNat = 0 → exec (.shelfCompletion p c) s = .next ((gone.pageDone o.job).eraseReady.pump).settled) ∧
     (o.op = 3 → c.status.toNat = 0 →
       let x := s.nandBlock o.block
       exec (.shelfCompletion p c) s = .next ((((gone.setNandBlock o.block 
         { x with state := 0, erases := x.erases + 1, reads := 0, used := 0, prog := 0 }).dropJob o.job).eraseCounts p.val).eraseReady.pump).settled) ∧
     (o.op = 3 → c.status.toNat = 2 →
       exec (.shelfCompletion p c) s = .next (((gone.dropJob o.job).retireBlock o.block).eraseReady.pump).settled)) ∧
   (∀ tag o, s.nand.ops.find? (fun o => blockPort o.block == p.val && o.tag == some tag &&
       s.past o.sent (s.rd od2C20_SHELF_OP_TIMEOUT 0 * 1000000)) = some o →
     (o.again = true → exec (.shelfOpTimeoutExpiry p tag) s = .next ((s.failDie p.val (opDie o)).eraseReady.pump).settled) ∧
     (o.again = false → exec (.shelfOpTimeoutExpiry p tag) s = .next (((s.putOps (⟨o.block, 4, 0, 0, 0, none, 0, true⟩ ::
       { o with tag := none, again := true } :: s.nand.ops.filter (fun x => x != o))).count (coreCounter (portQuad p.val) 6) 1).pump).settled))) ∧
  (∀ (p : PortId) (s : State), s.Inv → s.shelfUp p.val = true →
   ((s.rd od2C20_CHECKPOINT_CHUNKS 0 ≤ s.nand.since ∨ s.nand.opens = []) →
     exec (.mapCheckpoint p) s = .next (State.count { s with nand := { s.nand with since := 0, opens := s.nextBlocks 256 } }
       (coreCounter 0 4) 1).settled) ∧
   (s.flushMode = false → ∀ b,
     ((s.freeBlocks - s.rd od2C20_RESERVE_BLOCKS 0) * 100 < s.rd od2C20_GC_START 0 * s.goodBlocks →
       s.leastFull p.val (fun b => (s.chunksIn (· == b)).length) = some b →
       exec (.garbageCollection p) s = .next (((s.copyBlock b).eraseReady).pump).settled) ∧
     (s.rd od2C20_WEAR_SPREAD 0 < s.rd od2C30_ERASE_MAX p.val - s.rd od2C30_ERASE_MIN p.val →
       s.leastFull p.val (fun b => (s.nandBlock b).erases) = some b →
       exec (.wearLevelling p) s = .next (((s.copyBlock b).eraseReady).pump).settled)) ∧
   (∀ b, let k := blockKey p.val 0 b
     s.flushMode = false → b < 4096 * 1048576 → (s.nandBlock k).state = 2 → k ∉ s.nand.reclaim →
     (s.rd od2C20_READ_LIMIT 0 < (s.nandBlock k).reads ∨ (s.rd od2000_QUALITY 0 ≤ 1 ∧
       (s.nandBlock k).prog + s.rd od2C20_RETENTION_DAYS 0 * 86400 * 2 ^ 32 ≤ s.ft 0)) →
     exec (.blockRefresh p b) s = .next ((((s.copyBlock k).bump od2C30_REFRESHES (blockPort k) 64 1).eraseReady).pump).settled))

/-- R32, R494, Table 1.5: the transitions of a herd. A write that is not listed is refused and changes nothing; the first
admission check that fails decides the code of a write of ACTIVE, which then changes nothing. R34, R493: a CLOSING herd with no
extent entry, no ring that runs and no command in flight becomes FREE: its key is zeroized, and its way masks and its state are
0; a herd that is not so far stays as it is. -/
def Obligations.HerdsMoveAsTableOneFiveSays : Prop :=
  (∀ (n : HerdId) (s : State), s.Inv →
   let st := s.herdState n.val
   (st = 0 → s.herdWrite n.val 1 = (abOk, s.wr od2800_STATE n.val 1)) ∧
   (st = 1 → (s.noExtents n.val && !s.boundTo n.val) = true →
     (s.herdWrite n.val 0).1 = abOk ∧ (s.herdWrite n.val 0).2.herdState n.val = 0) ∧
   (st = 1 → (s.noExtents n.val && !s.boundTo n.val) = false → s.herdWrite n.val 0 = (abInUse, s)) ∧
   (st = 2 → s.herdWrite n.val 3 = (abOk, s.closeHerd n.val)) ∧
   (∀ v, (st, v) ∉ [(0, 1), (1, 2), (1, 0), (2, 3)] → s.herdWrite n.val v = (abRange, s)) ∧
   (st = 1 →
     let life := s.sec.life = 1 ∨ s.sec.life = 2
     let set := s.rd od1100_COMPANION_EP 0 ≠ 0xFFFF ∧ s.rd od1100_TINE_BASE 0 ≠ 0xFFFF ∧ s.rd od1100_UNIT_BASE 0 ≠ 0xFFFF
     let key := s.rd od2800_LEVEL n.val = 2 → s.rd od2800_KEY_STATE n.val = 1
     let gated := s.rd od2800_TIME_GATED n.val = 1
     let slots := gated → s.slotsAdmit n.val = true
     let channels := gated → (s.channelsFor n.val).isSome = true
     let reserves := ∀ t, t = 1 ∨ t = 2 ∨ t = 3 → s.reserveFits n.val t (s.rd (odReserve t) n.val) = true
     let dirty := s.dirtyFits n.val (s.rd od2830_DIRTY_RESERVE n.val) = true
     (¬ (life ∧ set ∧ key ∧ slots) → s.herdWrite n.val 2 = (abDenied, s)) ∧
     (life ∧ set ∧ key ∧ slots → ¬ channels → s.herdWrite n.val 2 = (abInUse, s)) ∧
     (life ∧ set ∧ key ∧ slots → channels → ¬ (reserves ∧ dirty) → s.herdWrite n.val 2 = (abRange, s)) ∧
     (life ∧ set ∧ key ∧ slots → channels → reserves ∧ dirty →
       (s.herdWrite n.val 2).1 = abOk ∧ (s.herdWrite n.val 2).2.herdState n.val = 2 ∧
       ∀ m, m < 4096 → m ≠ n.val → (s.herdWrite n.val 2).2.herdState m = s.herdState m))) ∧
  (∀ (n : HerdId) (s : State), s.Inv →
   (s.herdState n.val = 3 → s.noExtents n.val = true → s.ringsStopped n.val = true →
     ∃ v : State, exec (.herdCloseDone n) s = .next v.settled ∧ v.herdState n.val = 0 ∧ v.rd od2800_KEY_STATE n.val = 0 ∧
       v.rd od2830_CACHE_WAYS n.val = 0 ∧ v.rd od3030_DIR_WAYS n.val = 0 ∧ sparseGet 0 v.sec.keys n.val = 0 ∧
       (∀ m, m < 4096 → m ≠ n.val → v.herdState m = s.herdState m ∧ sparseGet 0 v.sec.keys m = sparseGet 0 s.sec.keys m) ∧
       v.pool.mem = s.pool.mem ∧ v.tr = s.tr ∧ v.sw = s.sw ∧ v.coh = s.coh) ∧
   ((s.herdState n.val ≠ 3 ∨ s.noExtents n.val = false ∨ s.ringsStopped n.val = false) →
     exec (.herdCloseDone n) s = .next s.settled))

/-- Table 17.2, R225, R389, R418, R427: a unit whose check fails is lost once: a tine to STATE 3, a quadrant with everything in
it, a reduce unit, an endpoint of a die-to-die link, a stack with its home slice, a management core; a key store zeroizes every
key. The packing of DETAIL0 and the number of a lost stack's event are the model's (log entries 17 and 19). -/
def Obligations.FailedUnitsAreLost : Prop :=
  ∀ s : State, s.Inv →
  (∀ t : TineId, s.rd od3400_STATE t.val ≠ 3 →
    let v := (s.failTine t.val).emit (t.val / 64) evTineFailed 0 3 t.val 0 [t.val]
    exec (.logicCheck (.tine t)) s = .next v.settled ∧
    (s.tineRuns t.val = true → (s.liveThreads t.val).any (fun kv => kv.2.wait == .ready) = true →
      s.past (s.tine t.val).issued (s.rd od4400_TINE_WATCHDOG 0 * 1000) = true →
      exec (.tineWatchdogExpiry t) s = .next v.settled)) ∧
  (∀ t : TineId, s.rd od3400_STATE t.val = 3 → exec (.logicCheck (.tine t)) s = .next s.settled) ∧
  (∀ q : QuadId, q.val ≠ 0 → s.flt.quadsLost.contains q.val = false →
    let gone := fun (kind unit : Nat) => (s.loseQuadrant q.val).emit q.val evQuadrantLost 0 kind unit 0 [q.val]
    let after := fun (v : State) => if v.noCore then v.enterIsolation q.val evQuadrantLost 3 else v
    exec (.logicCheck (.matcher q)) s = .next (after (gone 0 0)).settled ∧
    exec (.logicCheck (.crossbar q)) s = .next (after (gone 0 0)).settled ∧
    exec (.logicCheck (.home q)) s = .next (after (gone 4 q.val)).settled) ∧
  (∀ (a b : QuadId) (m : BitVec 4), a.val < b.val →
    let k := 4 * a.val + b.val
    let old := sparseGet 0 s.flt.d2dDown k
    let v := { s with flt := { s.flt with d2dDown := sparseSet 0 s.flt.d2dDown k (old ||| m.toNat) } }
    (old ||| m.toNat = old → exec (.d2dLinkFailure a b m) s = .next s.settled) ∧
    (old ||| m.toNat ≠ old → old ||| m.toNat ≠ 15 →
      exec (.d2dLinkFailure a b m) s = .next (v.emit a.val evUnitFailed 0 8 k 0 [8 * 4096 + k]).settled) ∧
    (old ||| m.toNat ≠ old → old ||| m.toNat = 15 →
      exec (.d2dLinkFailure a b m) s = .next (v.quadrantLost b.val a.val 8 k).settled)) ∧
  (∀ k : StackId, k.val ∉ s.flt.stacksLost →
    let w := if s.sliceLost (k.val / 2) then s else s.loseSlice (k.val / 2)
    let v : State := { w with flt := { w.flt with stacksLost := w.flt.stacksLost ++ [k.val] } }
    v.sliceLost (k.val / 2) = true ∧
    exec (.hbmStackLost k) s = .next (v.emitAs (k.val / 2) 3 (Config.unlistedEvent 4) 0 6 k.val 0 [k.val]).settled) ∧
  (∀ q : QuadId, q.val ∉ s.flt.coresFailed →
    let v := ({ s with flt := { s.flt with coresFailed := s.flt.coresFailed ++ [q.val] } }).emit q.val evMgmtCoreFailed 0 7 q.val 0 [q.val]
    exec (.mgmtCoreWatchdogExpiry q) s = .next (if v.noCore then
      v.enterIsolation q.val evMgmtCoreFailed 3 else v).settled) ∧
  (∀ u : ReduceId, u.val ∉ s.flt.unitsFailed → exec (.reduceSelfCheckFail u) s =
    .next (({ s with flt := { s.flt with unitsFailed := s.flt.unitsFailed ++ [u.val] } }).emit (u.val / 16) evUnitFailed 0 5 u.val 0
      [5 * 4096 + u.val]).settled) ∧
  (∀ q : QuadId, ∃ v : State, exec (.keyStoreCheckFail q) s =
      .next ((v.emit q.val evKeysZeroized 0 4 q.val 0 [1]).raise q.val 3 evKeysZeroized 4 q.val).settled ∧
    v.sec.keys = [] ∧ v.sec.linkKeys = [] ∧ v = { s with sec := v.sec, od := v.od } ∧
    ∀ e k, e.index < 65536 → e.sub < 256 → e ≠ od2800_KEY_STATE → v.rd e k = s.rd e k)

/-- R415, R416, R421, R425, R426: a timetable's canary starts on the next of its herd's tines, basic mode is left once the
recovery canaries have run, and the repeats of a sampled chunk agree, ask for a second tine, or time out. -/
def Obligations.CanariesAndRepeatsComplete : Prop :=
  ∀ s : State, s.Inv →
  (∀ n : HerdId, s.timeGated n.val = true → s.rd od4408_TG_CANARY_PERIOD n.val ≠ 0 → s.canariesRun = true → s.mode = 0 →
    let k := s.ft 0 / max 1 (nsToFt (s.rd od4408_TG_CANARY_PERIOD n.val * 1000000))
    let s0 := { s with flt := { s.flt with tgDone := sparseSet 0 s.flt.tgDone n.val k } }
    sparseGet 0 s.flt.tgDone n.val < k →
    (s.reservedTines (some n.val) = 0 → exec (.tgCanaryTimer n) s = .next s0.settled) ∧
    (∀ t : TineId, s.reservedTines (some n.val) = 2 ^ t.val →
      let s1 := { s0 with flt := { s0.flt with nextTg := sparseSet 0 s0.flt.nextTg n.val ((t.val + 1) % 256) } }
      exec (.tgCanaryTimer n) s = .next (if s1.canaryFits t.val then s1.startCanary t.val .timetable 0
        else s1.bump od4400_CANARY_SKIPPED 0 64 1).settled)) ∧
  (s.mode = 1 → s.flt.recovering = true → (∀ k ∈ s.flt.canaries, k.why ≠ .recover) →
    let v := ({ s with flt := { s.flt with recovering := false } }).wr od4400_MODE 0 0
    v.mode = 0 ∧ exec .basicModeExit s =
      .next (v.emit s.deviceCore evBasicLeft 0 7 s.deviceCore 0 []).retryContribs.release.settled) ∧
  (∀ (q : QuadId) d, s.dualOf q.val = some d → d.agreed = [] →
    let v := s.bump od4400_DUAL_CHECKS 0 64 1
    exec (.dualRepeatDone q .unit) s = .next (v.dualRelease d).settled ∧
    (∀ t, v.dualTine (s.rd od3800_HERD d.ctx) d.tines = some t → exec (.dualRepeatDone q .other) s = .next (State.settled { v with
      flt := { v.flt with dual := v.flt.dual.map (fun x => if x = d then
        { d with tines := d.tines ++ [t], agreed := [false], started := s.clk } else x) } }))) ∧
  (∀ (q : QuadId) d, s.dualOf q.val = some d → s.past d.started 20000 = true →
    exec (.dualRepeatTimeout q) s = .next (if d.agreed = [] then (s.bump od4400_DUAL_SKIPPED 0 64 1).dualRelease d
      else ((s.dualMismatch d 0).bump od4400_DUAL_SKIPPED 0 64 1).dualRelease d).settled)

/-- Table 17.2, Table 17.4: an error source takes its immediate action and gives its event: a corrected word is counted; a line
of the pool is poisoned; a tine memory's error ends its thread with E_POISON; a directory entry is poisoned; an extent whose
state is bad is revoked; an always-on domain brings isolation hold. The
number of an event that Table 17.5 does not list is free (log entry 19). -/
def Obligations.ErrorSourcesAct : Prop :=
  ∀ s : State, s.Inv →
  (∀ (kind : BitVec 4) (unit : BitVec 12) (q : QuadId) (loc : Word64),
    let v := s.bump od5000_ECC_CORRECTED 0 64 1
    exec (.errorDetected (.corrected kind unit q loc)) s =
      .next ((if kind = 6 ∧ unit.toNat < 8 then v.count (0x680 + 8 * unit.toNat + 2) 1 else v).emit q.val evEccCorrected 0
      kind.toNat unit.toNat 0 [Config.eccPlace kind.toNat unit.toNat loc.toNat]).settled) ∧
  (∀ (e : ExtentId) line (kind : BitVec 4) (unit : BitVec 12),
    let v := s.addPoison (e.val * 2 ^ 41 + line % 2 ^ 41)
    exec (.errorDetected (.poolLine e line kind unit)) s =
      .next (eccReport (if kind = 6 ∧ unit.toNat < 8 then v.count (0x680 + 8 * unit.toNat + 3) 1 else v) (s.extQuad e.val) (s.extHerd e.val) kind.toNat unit.toNat e.val line).settled) ∧
  (∀ (t : TineId) (h : ThreadId), (s.thread t.val h.val).live = true →
    let v := s.endThread t.val h.val ePoison
    exec (.errorDetected (.tineMemory t h)) s = .next (eccReport { v with flt := { v.flt with
      fourDue := v.flt.fourDue ++ [(t.val, CanaryWhy.sram)] } } (t.val / 64) 0 3 t.val t.val h.val).settled) ∧
  (∀ (e : ExtentId) line, s.hLine e.val line = true →
    exec (.errorDetected (.dirEntry e line)) s =
      .next (eccReport ((s.setDir (lineNo e.val line) dirPoison).poisonTxn (lineNo e.val line)).release (s.extQuad e.val) (s.extHerd e.val)
        4 (s.extQuad e.val) e.val line).settled) ∧
  (∀ e : ExtentId, s.extState e.val ≠ 0 → (s.extSlice e.val).isSome = true →
    exec (.errorDetected (.extentState e)) s = .next (eccReport (s.revokeOp e.val) (s.extQuad e.val) (s.extHerd e.val) 4
      (s.extQuad e.val) e.val 0).settled) ∧
  (∀ n o, s.own[n]? = some o → exec (.errorDetected (.ownership n)) s = .next (eccReport (s.revokeOp o.ext) (s.extQuad o.ext)
    (s.extHerd o.ext) 4 (s.extQuad o.ext) o.ext o.list).settled) ∧
  (∀ f, exec (.errorDetected (.bufferCell f)) s =
    .next (if s.bufferHolds f then ((s.loseTx f).bump od5000_ECC_UNCORRECTED 0 64 1).settled else s.settled)) ∧
  (∀ n : EntryId, n.val ∉ s.mt.bad → exec (.errorDetected (.matchEntry n)) s =
    .next (State.settled { s with mt := { s.mt with bad := s.mt.bad ++ [n.val] } })) ∧
  (∀ (t : TineId) k, s.flt.canaries.find? (fun k => k.tine == t.val && decide (k.started ≤ s.clk)) = some k →
    (∀ x ∈ s.flt.canaries, x.why ≠ .release) → exec (.errorDetected (.canary t)) s =
      .next ((s.canaryRan k).chargeBin t.val k.cls (signed 32 k.hot)).settled) ∧
  (∀ (kind : BitVec 4) (unit : BitVec 12) (q : QuadId), exec (.errorDetected (.other kind unit q)) s =
    .next (s.emitAs q.val 3 (Config.unlistedEvent 5) 0 kind.toNat unit.toNat 0 []).settled) ∧
  (∀ q : QuadId, exec (.errorDetected (.alwaysOn q)) s = .next (s.enterIsolation q.val 0 4).settled)

/-- R409, R411, R412: when the top handler ends, the one below it runs on; below the last one the oldest queued contained error
is pushed, and without one the oldest correctable error. A handler that exceeds its limit is overrun, and no other is. -/
def Obligations.HandlersEnd : Prop :=
  ∀ (f : HandlerFrame) (s : State), s.Inv →
  let v := s.handlerTime f
  (∀ g gs, s.flt.stack = f :: g :: gs →
    exec .handlerEnd s = .next ((withStack v ({ g with top := s.clk } :: gs)).wr od4400_DEPTH 0 (gs.length + 1)).settled) ∧
  (s.flt.stack = [f] →
    let u := (withStack v []).wr od4400_DEPTH 0 0
    ((s.mode = 2 ∨ s.flt.contained = [] ∧ s.flt.correctable = []) → exec .handlerEnd s = .next u.settled) ∧
    (s.mode ≠ 2 → ∀ x xs, s.flt.contained = x :: xs →
      let w := ({ u with flt := { u.flt with contained := xs } }).queued
      exec .handlerEnd s = .next (w.push ⟨2, x.1, x.2.1, w.coreFor ⟨2, x.1, x.2.1, 0, x.2.2⟩, 0, s.clk⟩).settled) ∧
    (s.mode ≠ 2 → s.flt.contained = [] → ∀ x xs, s.flt.correctable = x :: xs →
      let w := ({ u with flt := { u.flt with correctable := xs } }).queued
      exec .handlerEnd s = .next (w.push ⟨1, x.1, x.2.1, w.coreFor ⟨1, x.1, x.2.1, 0, x.2.2⟩, 0, s.clk⟩).settled)) ∧
  (∀ fs, s.flt.stack = f :: fs →
    (s.frameRan f * 1000000000 < handlerLimit f.cls * 2 ^ 72 → exec .handlerLimitExpiry s = .next s.settled) ∧
    (handlerLimit f.cls * 2 ^ 72 ≤ s.frameRan f * 1000000000 → exec .handlerLimitExpiry s = .next (s.overrun f fs).settled))

/-- R404–R407: a copy of an event record that is due goes to its ring when the ring can take it, and then leaves the log, which
holds the record until neither copy is due; at the end of its millisecond a merged record is delivered. -/
def Obligations.EventRecordsGoOut : Prop :=
  ∀ s : State, s.Inv →
  (∀ n r device u, CopyDue s n r device →
    s.post (copyRing s r device).1 (if device then s.deviceForm r.ev else eventBytes r.ev true) = some u →
    let left := if device then { r with devDue := false } else { r with herdDue := false }
    exec (.eventRecordIssue n device) s = .next (State.settled { u with flt := { u.flt with
      log := if left.devDue || left.herdDue then u.flt.log.set n left else u.flt.log.eraseIdx n } })) ∧
  ((∀ m ∈ s.flt.merges, s.past m.since 1000000 = false) → exec .mergeWindowEnd s = .next s.settled) ∧
  (∀ m, s.flt.merges = [m] → s.past m.since 1000000 = true → exec .mergeWindowEnd s = .next (State.endMerge s m).settled)

/-- R108, R446, R480–R482: PFW_N begins flush mode and its release ends it; a falling edge of STOT_N is a stot event; an FT_PPS
edge forms a sample; each within the rate limit of its input. An input that stays asserted too long is stuck, and a rate hold
ends after the release time. -/
def Obligations.ControlInputsComplete : Prop :=
  ∀ s : State, s.Inv → s.pins.inReset = false →
  (∀ short, let v := shorts s 0 short
    s.rd od4C48_LEVEL 0 = 0 → s.pins.held = [] → withinRate s 0 100000000 4 →
    let u := (((edgeNoted v 0 100000000).setSince 0).wr od4C48_LEVEL 0 1)
    exec (.pfwNAssert short) s = .next u.startFlush.settled ∧ u.flushMode = true) ∧
  (s.rd od4C48_LEVEL 0 = 1 → s.pins.held = [] →
    let u := ((s.wr od4C48_LEVEL 0 0).wr od4C48_STUCK 0 0).setSince 0
    exec .pfwNRelease s = .next ((u.wr od4C00_FLUSH_STATE 0 0).flushEnded.retryContribs).release.settled) ∧
  (∀ short, let v := shorts s 1 short
    s.pins.held = [] → s.rd od4C48_STUCK 1 = 0 → withinRate s 1 1000000 16 →
    exec (.stotNEdge short) s = .next ((((edgeNoted v 1 1000000).wr od4C48_LEVEL 1 1).setSince 1).stotEvent 1).settled) ∧
  (∀ short, let v := ((shorts s 2 short).wr od4C48_LEVEL 2 1).wr od4C48_STUCK 2 0
    s.pins.held = [] → (∀ t ts, sparseGet [] s.pins.edges 2 = t :: ts → s.past t 900000000 = true) →
    exec (.ftPpsEdge short) s = .next ((State.setSince { v with pins := { v.pins with edges := sparseSet [] v.pins.edges 2 [v.clk] } } 2).ppsSample).settled) ∧
  (s.rd od4C00_FLUSH_STATE 0 = 1 → exec .flushDone s =
    .next ((s.flushAll.checkpoint.ledgerRecord.wr od4C00_FLUSH_STATE 0 2).flushEnded).settled) ∧
  (∀ k : Fin 4, k.val = 1 ∨ k.val = 2 → s.past (s.levelSince k.val) (stuckNs k.val) = true → s.rd od4C48_LEVEL k.val ≠ 0 →
    s.rd od4C48_STUCK k.val ≠ 1 → (k.val = 1 → s.stotDriven = false) →
    exec (.inputStuck k) s = .next ((s.wr od4C48_STUCK k.val 1).wr od4C48_STUCK_TIME k.val (s.ft 0)).settled) ∧
  (s.past (s.levelSince 0) (stuckNs 0) = true → s.rd od4C48_LEVEL 0 ≠ 0 → s.rd od4C48_STUCK 0 ≠ 1 →
    exec (.inputStuck 0) s = .next (((s.wr od4C48_STUCK 0 1).wr od4C48_STUCK_TIME 0 (s.ft 0)).flushDone.release).settled) ∧
  (s.past (s.levelSince 3) (stuckNs 3) = true → exec (.inputStuck 3) s = .next (State.settled (if s.pins.low then
    { s with pins := { s.pins with cause := if s.pins.cause = 4 then 4 else 3 } } else s))) ∧
  (∀ k : Fin 4, s.past (s.levelSince k.val) (stuckNs k.val) = false → exec (.inputStuck k) s = .next s.settled) ∧
  (∀ k : Fin 4, k.val = 1 ∨ k.val = 2 → s.past (s.levelSince k.val) (releaseNs k.val) = true →
    exec (.rateHoldRelease k) s = .next (((s.rateFree k.val).wr od4C48_LEVEL k.val 0).wr od4C48_STUCK k.val 0).settled) ∧
  (s.past (s.levelSince 0) (releaseNs 0) = true → s.rd od4C48_LEVEL 0 = 0 → 0 ∈ s.pins.held →
    exec (.rateHoldRelease 0) s = .next (s.rateFree 0).endFlush.settled) ∧
  (s.past (s.levelSince 3) (releaseNs 3) = true → s.pins.low = false → 3 ∈ s.pins.held →
    exec (.rateHoldRelease 3) s = .next (s.rateFree 3).leaveReset.settled) ∧
  (∀ k : Fin 4, s.past (s.levelSince k.val) (releaseNs k.val) = false → exec (.rateHoldRelease k) s = .next s.settled)

/-- R487, R489: RESET_N and VDD_AON clear all but what fuses, boot flash, shelves and journal keep, and hold the A9 in reset;
when RESET_N ends, RESET_CAUSE names the cause. An undervoltage of another rail brings isolation hold,
with an event whose number is free (log entry 19). -/
def Obligations.ResetClearsTheMachine : Prop :=
  ∀ s : State, s.Inv →
  (s.pins.low = false → s.pins.held = [] → withinRate s 3 1000000000 8 →
    ∃ v : State, exec .resetNAssert s = .next v.settled ∧ Outlasts s v ∧ Cleared v ∧ v.pins.inReset = true ∧ v.pins.cause = 1) ∧
  (∃ v : State, exec .vddAonUndervoltage s = .next v.settled ∧ Outlasts s v ∧ Cleared v ∧ v.pins.inReset = true ∧ v.pins.cause = 4) ∧
  (s.pins.low = true → s.pins.held = [] →
    ∃ v : State, exec .resetNRelease s = .next v.settled ∧ Outlasts s v ∧ Cleared v ∧ v.pins.inReset = false ∧
      v.rd od4C40_RESET_CAUSE 0 = s.pins.cause ∧ v.rd od4C40_BOOT_STAGE 0 = 0) ∧
  (∀ rail : Fin 13, s.pins.inReset = false → exec (.railUndervoltage rail) s =
    .next ((s.emitAs 0 3 (Config.unlistedEvent 6) 0 14 0 0 [rail.val]).enterIsolation 0 (Config.unlistedEvent 6) 7).settled)

/-- R485, R488, Table 20.8: the boot goes through its stages in their order: the ROM takes the first stage or holds the device,
the management cores start and the canaries run, the Jiyth link opens path J, and path F opens. A Jiyth link that is down trains
again. -/
def Obligations.BootGoesThroughItsStages : Prop :=
  ∀ (r : BootResult) (s : State), s.Inv → s.pins.inReset = false →
  (s.pins.recovery = false →
    let st := s.rd od4C40_BOOT_STAGE 0
    (st = 0 → s.flushMode = false → exec (.bootStageAdvance r) s = .next (if r.firstStage then s.wr od4C40_BOOT_STAGE 0 1 else
      ({ s with pins := { s.pins with recovery := true, xsHiZ := true } }).wr od4C40_BOOT_STAGE 0 0).settled) ∧
    (st = 1 → s.flushMode = false → exec (.bootStageAdvance r) s = .next s.bootFirst.settled) ∧
    (let v := foldState s (List.range 8) (fun u k => if r.hbms.getLsbD k then u else u.stackLost k)
     st = 2 → exec (.bootStageAdvance r) s = .next (if v.bootCanaries then v else v.wr od4C40_BOOT_STAGE 0 3).settled ∧
        (r.hbms = 255 → v = s)) ∧
    (st = 3 → exec (.bootStageAdvance r) s = .next (if r.jiyth then s.jiythUp else s.wr od1120_JY_STATE 0 1).settled) ∧
    (st = 4 → exec (.bootStageAdvance r) s = .next (s.wr od4C40_BOOT_STAGE 0 5).settled)) ∧
  (s.pins.recovery = true → exec (.bootStageAdvance r) s = .next s.settled) ∧
  (s.rd od1120_JY_STATE 0 ≠ 2 → 3 ≤ s.rd od4C40_BOOT_STAGE 0 → s.rd od4C00_STATE 0 ≤ 3 →
    exec (.jiythRetrain true) s = .next s.jiythUp.settled ∧
    exec (.jiythRetrain false) s = .next (s.wr od1120_JY_STATE 0 1).settled) ∧
  (s.rd od1120_JY_STATE 0 = 2 →
    exec .jiythLinkDown s = .next ((s.wr od1120_JY_STATE 0 0).wr od1120_JY_LANES 0 0).settled)

/-- R380, R382–R385: an install ends with the slot valid and RESULT OK, or with STORAGE_FAILED; a protected commit blows one
fuse, marks the running slot committed and writes a ledger record; a trial image that is not committed in time falls back; a
report is ready with its body and signature. -/
def Obligations.ImagesAndReportsComplete : Prop :=
  ∀ s : State, s.Inv →
  (∀ ok, s.sec.install.isSome = true →
    let k := 1 - s.sec.running
    exec (.installDone ok) s = .next ((({ s with sec := { s.sec with install := none } }).setFwSlot k
      { s.fwSlot k with valid := ok }).wr od4110_INSTALL_RESULT 0 (if ok then abOk else abStorage)).settled) ∧
  (s.sec.fusing = true →
    let v := ({ s with sec := { s.sec with fuses := s.sec.fuses + 1, fusing := false } }).setFwSlot s.sec.running
      { s.fwSlot s.sec.running with mark := 1 }
    exec .fuseBlowDone s = .next (((v.wr od5000_ROLLBACK_FUSES 0 (s.sec.fuses + 1)).ledgerRecord).wr od4110_FW_STATE 0 0).settled) ∧
  (∀ t, s.sec.velvet = some t → s.past t (s.rd od4110_VELVET_TIMEOUT 0 * 1000000000) = true →
    let v := ({ s with sec := { s.sec with velvet := none } }).setFwSlot s.sec.running { s.fwSlot s.sec.running with mark := 3 }
    exec .velvetTimeoutExpiry s = .next ((v.wr od4110_FW_STATE 0 2).emit 0 evVelvetExpired 0 14 0 0 [s.sec.running]).settled) ∧
  (∀ p : OdPath, s.rd od4130_STATE (pathIx p) = 1 → s.rd od4100_DEBUG_EFFECTIVE 0 ≠ 3 →
    ∃ v : State, exec (.reportReady p) s = .next v.settled ∧ v.rd od4130_STATE (pathIx p) = 2 ∧
      v.rd od4138_REPORT (3 * pathIx p) = leNat (bytesOfWords (s.attest (pathIx p)).body) ∧
      v.pool = s.pool ∧ v.cpu = s.cpu ∧ v.tr = s.tr ∧
      ∀ q : OdPath, q ≠ p → v.rd od4130_STATE (pathIx q) = s.rd od4130_STATE (pathIx q) ∧
        v.attest (pathIx q) = s.attest (pathIx q))

/-- R454–R463, R468–R470: a step between operating points ends at the adjacent point; a droop stretches the clock and is
counted; the governor's sample steps down above its limit; heat and references act; a transition ends in the power state that
holds. -/
def Obligations.PowerAndHeatComplete : Prop :=
  ∀ s : State, s.Inv →
  (∀ (q : QuadId) x, quadGet s.pwr.stepping q.val = some x → ∃ v : State,
    exec (.pointStepDone q) s = .next v.settled ∧ v.rd od4C08_POINT q.val = x ∧
    (∀ k, k < 4 → k ≠ q.val → v.rd od4C08_POINT k = s.rd od4C08_POINT k ∧ quadGet v.pwr.stepping k = quadGet s.pwr.stepping k) ∧
    quadGet v.pwr.stepping q.val = (if x = v.pointWanted q.val then none else
      some (if x < v.pointWanted q.val then x + 1 else x - 1)) ∧
    v = { s with od := v.od, pwr := v.pwr }) ∧
  (∀ q : QuadId, exec (.droopDetected q) s = .next (s.bump od4C08_STRETCHES q.val 64 1).settled) ∧
  (∀ r, let v := s.measured r
    exec (.powerGovernorSample r) s = .next (v.govern r.package).settled ∧
    (v.powerCap < r.package → (v.pwr.acting = false ∨ v.past v.pwr.acted 100000 = true) →
      let u := State.governDown { v with pwr := { v.pwr with acting := true, below := none } }
      v.govern r.package = { u with pwr := { u.pwr with acted := s.clk } }) ∧
    (r.package ≤ v.powerCap → v.powerCap * 90 ≤ r.package * 100 → (v.pwr.acting = false ∨ r.package * 100 < v.powerCap * 98) →
      v.govern r.package = { v with pwr := { v.pwr with acting := false, below := none } }) ∧
    (∀ t, r.package * 100 < v.powerCap * 90 → v.pwr.below = some t → v.past t 10000000 = true →
      v.past v.pwr.acted 1000000 = true → v.pwr.actions ≠ [] →
      let u := State.governUp { v with pwr := { v.pwr with acting := false, below := some t } }
      v.govern r.package = { u with pwr := { u.pwr with acted := s.clk } })) ∧
  (∀ r, exec (.thermalSample r) s = .next ((foldState ((s.readHeat r).heatStacks r.hbms) [0, 1, 2, 3]
    (fun s q => ((((s.thermalCycle q).heatCap q).spreadCheck q).heat105 q).heat112 q)).heatAlert.startSteps).settled) ∧
  (∀ r, (refsLost r = s.pwr.refLost → exec (.referenceCheck r) s = .next s.settled) ∧
    (∀ k, s.pwr.refLost = [] → refsLost r = [k] →
      exec (.referenceCheck r) s = .next (State.refGone { s with pwr := { s.pwr with refLost := [k] } } k).settled) ∧
    (∀ k, s.pwr.refLost = [k + 2] → refsLost r = [] → exec (.referenceCheck r) s =
      .next (foldState { s with pwr := { s.pwr with refLost := [] } } (quadPorts k) State.startPort).settled)) ∧
  (∀ t u, s.pwr.trans = some (t, u) → (t < 32 ∨ s.ungateDue (t % 4) = false) →
    let v := if t = 3 ∨ t = 4 then s.flushAll else s
    exec .powerTransitionDone s =
      .next (({ v with pwr := { v.pwr with trans := none } }.wr od4C00_TRANSITION 0 0).enterPower).settled)

/-- R448, R449, R451–R453: a dump ends with its length and STATE 3; a build of the graph starts once a PERIOD and ends with the
graph that is read from then on; the hang watchdog remembers what has not moved and acts on what has stood for HANG_TIMEOUT. -/
def Obligations.DebugCommandsComplete : Prop :=
  ∀ s : State, s.Inv → s.coresRun = true →
  (s.rd od48A0_STATE 0 = 2 → ∃ v : State, exec .dumpDone s = .next v.settled ∧ v.rd od48A0_STATE 0 = 3 ∧
    v.rd od48A0_DUMP_LENGTH 0 ≤ 268435456) ∧
  (s.rd od48B0_PERIOD 0 ≠ 0 → s.dbg.building = none → s.past s.dbg.lastBuild (s.rd od48B0_PERIOD 0 * 1000000) = true →
    ∃ v : State, exec .graphPeriodExpiry s = .next v.settled ∧ v.dbg.building = some s.clk ∧ v.rd od48B0_STATE 0 = 1 ∧
      v = { s with od := v.od, dbg := v.dbg }) ∧
  (∀ t, s.dbg.building = some t → s.stotMode ≠ 2 → ∃ v : State, exec .graphBuildDone s = .next v.settled ∧
    v.dbg.building = none ∧ v.dbg.graph = s.sampleGraph.1 ∧ v.rd od48B0_STATE 0 = 0 ∧
    v.rd od48B0_NODES 0 = s.sampleGraph.1.nodes.length ∧ v.rd od48B0_EDGES 0 = s.sampleGraph.1.edges.length ∧
    v.rd od48B0_CYCLES 0 = min 65535 s.sampleGraph.1.cycles.length ∧ v.rd od48B0_BUILT 0 = s.ft 0) ∧
  ((∀ x ∈ s.hangSeen, s.nsSince x.2.2 ≤ s.rd od48A0_HANG_TIMEOUT 0 * 1000000) →
    exec .hangWatchdogCheck s = .next (State.settled { s with dbg := { s.dbg with hang := s.hangSeen } })) ∧
  ((∃ x ∈ s.hangSeen, s.rd od48A0_HANG_TIMEOUT 0 * 1000000 < s.nsSince x.2.2) → s.stotMode ≠ 2 →
    exec .hangWatchdogCheck s = .next ((State.startBuild { s with dbg := { s.dbg with hang := s.hangSeen } } false).settled))

/-- After reset every counter of fabric time stands at 0 with quality 11, no herd but what the manual lists is active, every
port is unused and bound to herd 0xFFF, every extent is FREE, and nothing runs, waits or is outstanding. -/
def Obligations.ResetHoldsWhatTheManualGives : Prop :=
  let s := State.reset
  s.time.ctr = ⟨0, 0, 0, 0⟩ ∧ s.rd od2000_QUALITY 0 = 3 ∧
  (∀ p, p < 256 → s.rd od2810_ROLE p = 0 ∧ s.rd od2810_HERD p = 0xFFF ∧ s.rd od2118_STATE p = 0) ∧
  (∀ n, 0 < n → n < 4096 → s.herdState n = 0) ∧ (∀ e, e < 131072 → s.extState e = 0) ∧
  s.pending = [] ∧ s.tr.outstanding = [] ∧ s.cpu.cmds = [] ∧ s.cpu.tines = [] ∧ s.sw.tx = [] ∧ s.coh.dir = [] ∧
  s.pool.mem = [] ∧ s.pool.cxl = [] ∧ s.pool.flash = [] ∧ s.cpu.sram = [] ∧ s.own = [] ∧ s.flt.stack = [] ∧
  s.mode = 0 ∧ s.rd od4C00_STATE 0 = 0 ∧ s.rd od4C40_BOOT_STAGE 0 = 0 ∧ s.sec.keys = [] ∧ s.sec.linkKeys = []

/-- The state after reset meets the invariant. -/
def Obligations.ResetMeetsTheInvariant : Prop :=
  State.reset.Inv

/-- Every step from a state that meets the invariant gives one that meets it: memories, tables and the object dictionary stay canonical,
and the handler stack stays nested by class (R409, R410). -/
def Obligations.EveryStepKeepsTheInvariant : Prop :=
  ∀ s t : State, s.Inv → step s = .next t → t.Inv

/-- R410: no step makes the handler stack higher than four, or more than 64 errors wait in a queue of R412. -/
def Obligations.TheHandlerStackNeverExceedsFour : Prop :=
  ∀ s t : State, s.Inv → step s = .next t →
  t.flt.stack.length ≤ 4 ∧ t.flt.contained.length ≤ 64 ∧ t.flt.correctable.length ≤ 64 ∧
  (t.flt.stack.length = 4 → (t.flt.stack.head?.map (·.cls)) = some 4)

/-- R382, R396: no step takes back the clock, a blown rollback fuse or a state of the life cycle; a step takes the front command
out of the queue and no other. -/
def Obligations.NothingThatIsSpentComesBack : Prop :=
  ∀ s t : State, s.Inv → step s = .next t →
  s.up ≤ t.up ∧ s.sec.fuses ≤ t.sec.fuses ∧ s.sec.life ≤ t.sec.life ∧ t.pending = s.pending.tail

/-- R198: VMAX and VMIN give NaN if either operand is NaN, the first one quieted; otherwise they take the larger or the smaller
operand in the order that has −0 below +0, and [RA] where the operands are equal. -/
def Obligations.VmaxAndVminOrderTheirOperands : Prop :=
  ∀ a b : Nat, a < 2 ^ 32 → b < 2 ^ 32 →
  (isNan32 a → max32 a b = quiet32 a ∧ min32 a b = quiet32 a) ∧
  (¬ isNan32 a → isNan32 b → max32 a b = quiet32 b ∧ min32 a b = quiet32 b) ∧
  (¬ isNan32 a → ¬ isNan32 b →
    max32 a b = (if order32 a < order32 b then b else a) ∧ min32 a b = (if order32 b < order32 a then b else a))

/-- R432: at an effective debug level of 1 or above, JTAG reads a counter with the value that OD 4800 has. -/
def Obligations.JtagReadsTheCountersOfOd4800 : Prop :=
  ∀ (s : State) (n : BitVec 11) (r : OdRow), odRow 0x4800 1 = some r → 1 ≤ s.rd od4100_DEBUG_EFFECTIVE 0 →
  exec (.jtagAccess (.counter n)) s = .next (s.send (.jtag (.counter n) (s.odValue r 0x4800 1 n.toNat).2.1)).settled

/-- R93, R154, R363: a write of the object dictionary, of a tine's SRAM or of an allocated part of an extent reads back, and
leaves every other entry, every other byte of SRAM, and every other byte of an extent that is not of the same volume, as it was.
-/
def Obligations.WritesReadBack : Prop :=
  ∀ s : State, s.Inv →
  (∀ e n v, (s.wr e n v).rd e n = v ∧
    ∀ e' k, e.index < 65536 → e.sub < 256 → e'.index < 65536 → e'.sub < 256 → (e', k) ≠ (e, n) → (s.wr e n v).rd e' k = s.rd e' k) ∧
  (∀ t a bs, (s.writeSram t a bs).readSram t a bs.length = bs ∧
    ∀ k, (k < sramKey t a ∨ sramKey t a + bs.length ≤ k) → sparseGet 0 (s.writeSram t a bs).cpu.sram k = sparseGet 0 s.cpu.sram k) ∧
  (∀ e off bs, e < 131072 → off + bs.length ≤ 2 ^ 48 → (∀ k, k < bs.length → (s.gran e ((off + k) / granuleBytes)).tier ≠ 0) →
    (s.writePool e off bs).readPool e off bs.length = bs ∧
    ∀ e' off', e' < 131072 → off' < 2 ^ 48 → (e' = e ∧ (off' < off ∨ off + bs.length ≤ off') ∨ e' ≠ e ∧ s.volOf e' ≠ s.volOf e) →
      (s.writePool e off bs).readByte e' off' = s.readByte e' off')

/-- R101: a load of an unallocated granule returns zeros and allocates nothing; the first write to one allocates it in the tier
of record, whose USED rises by one granule; where the allocation is refused, the write completes with E_QUOTA and is not
applied. A write to an extent that has become RO or frozen meanwhile completes with E_ACCESS. -/
def Obligations.TheFirstWriteAllocates : Prop :=
  ∀ (r : Req) (s : State), s.Inv →
  let e := r.ext
  let off := s.reqOff r
  let g := off / granuleBytes
  let h := s.extHerd e
  let tier := s.extPlace e + 1
  e < 131072 → off < 2 ^ 48 → (s.gran e g).tier = 0 → s.poisoned e off (spanOf r.op r.hdr) = false →
  (r.op = .load → off % granuleBytes + lenBytes r.hdr ≤ granuleBytes → ∃ v : State,
    s.serveLoad r = v.complete r eOk 0 (List.replicate (lenBytes r.hdr) 0) ∧ v.pool = s.pool ∧
    (∀ k n, n < 4096 → v.rd (odUsed k) n = s.rd (odUsed k) n)) ∧
  (writes r.op = true → s.barred r = true → s.serveWrite r = s.complete r eAccess 0 []) ∧
  (writes r.op = true → s.barred r = false → (r.op = .pstore → r.hdr.aux ≠ 0) → s.extPersist e = false →
    (s.mayAllocate h tier granuleBytes = false → s.serveWrite r = s.complete r eQuota 0 []) ∧
    (s.mayAllocate h tier granuleBytes = true → ∃ u : State, s.allocate e g = some u ∧
      s.serveWrite r = (u.touch e g).applyWrite r false ∧ (u.gran e g).tier = tier ∧
      u.rd (odUsed tier) h = s.rd (odUsed tier) h + granuleBytes ∧
      (∀ e' g', e' < 131072 → g' < 2 ^ 32 → (e', g') ≠ (e, g) → u.gran e' g' = s.gran e' g') ∧
      u.pool.mem = s.pool.mem ∧ u.pool.cxl = s.pool.cxl ∧ u.pool.flash = s.pool.flash))

/-- R25, R26, R85, R89: a request that passes its checks at an ingress where nothing else is outstanding arrives at its home,
stamped with the home's endpoint and the next PSN; one that fails them is answered at once with the code of the check, and is
not forwarded. -/
def Obligations.AnIdleIngressPassesRequestsOn : Prop :=
  ∀ (r0 : Req) (s : State), s.Inv → s.tr.outstanding = [] → r0.place = .rate → homeOp r0.op = true →
  (∀ c, (s.track r0).checkIn r0 = .inl c → (∀ p, r0.sender ≠ .port p) → s.enter r0 = (s.track r0).answer r0 c 0 []) ∧
  (∀ e dst, (s.track r0).checkIn r0 = .inr (e, dst) → e ≠ traceExt → (s.homeSlice dst).isSome = true → passes s r0 dst →
    let p := (s.track r0).takePsn r0.hdr.src.toNat dst
    let r : Req := { r0 with
      hdr := { r0.hdr with rtx := false, dst := BitVec.ofNat 16 dst, psn := BitVec.ofNat 32 p.1 }, ext := e, dest := dst, place := .home }
    s.enter r0 = State.homeArrive { p.2 with tr := { p.2.tr with outstanding := [r] } } r)

/-- R424: the third bin of a tine that fails quarantines it, with the event; a RELEASE is refused for a tine in STATE 3 or 4 and
has one canary of each class run otherwise; once the last of them passes, the tine's bins are clear and it is in service again.
-/
def Obligations.QuarantineAndRelease : Prop :=
  ∀ (t : TineId) (s : State), s.Inv →
  (∀ cls hot, s.rd od3400_STATE t.val ≤ 1 → cls < 4 →
    let bin := 4 * tempBin hot + cls
    let old := s.rd od4410_FAIL_BINS t.val
    let v := ((s.wr od4410_FAIL_BINS t.val (old ||| 2 ^ bin)).bump od5000_CANARY_FAILS 0 64 1).emit (t.val / 64) evCanaryFail 0 3 t.val 0 [t.val, bin]
    (3 ≤ v.failedBins t.val → s.chargeBin t.val cls hot =
      (v.wr od3400_STATE t.val 2).emit (t.val / 64) evTineQuarantined 0 3 t.val 0 [t.val]) ∧
    (v.failedBins t.val < 3 → s.chargeBin t.val cls hot = v.wr od3400_STATE t.val 1)) ∧
  (3 ≤ s.rd od3400_STATE t.val → s.releaseWrite t.val = (abInUse, s)) ∧
  (s.rd od3400_STATE t.val < 3 → s.releaseWrite t.val =
    (abOk, { s with flt := { s.flt with fourDue := s.flt.fourDue ++ [(t.val, CanaryWhy.release)] } })) ∧
  (∀ k ∈ s.flt.canaries, k.tine = t.val → k.why = .release → s.rd od3400_STATE t.val ≤ 2 →
    ((s.flt.canaries.erase k).any (fun x => x.tine == t.val && x.why == .release)) = false →
    (s.canaryPasses k).rd od4410_FAIL_BINS t.val = 0 ∧ (s.canaryPasses k).rd od3400_STATE t.val = 0)

/-- R114, R116: the end of a drain, the revoke timeout and the freeing of a REVOKE complete. R133: a reader whose answer to an
INVALIDATE has not come in time is dropped, with the event. R149, R150, R152: the load of a rut line that may be loaded, a core
cycle of a line with one admitted request and the end of a rut window complete. R260–R263: each ownership operation on a list
whose header is in place completes with the code and the record of Table 9.6, and a hand-off that has not been committed for
HANDOFF_TIMEOUT since its PREPARE reverts. -/
def Obligations.RevokesReadersAndListsComplete : Prop :=
  ∀ s : State, s.Inv →
  (∀ (e : ExtentId) r, s.revokeAt e.val 2 = some r →
   (s.revokeLeft r = [] → ∃ u : State, exec (.revokeDrainEnd e) s = .next u.settled ∧
     ∀ x ∈ u.pool.revokes, x.ext = e.val → x.step = 3) ∧
   (s.past r.started (s.rd od2840_REVOKE_TIMEOUT 0 * 1000) = true → ∃ u : State,
     exec (.revokeTimeoutExpiry e) s = .next u.settled ∧ ∀ x ∈ u.pool.revokes, x.ext = e.val → x.step = 3)) ∧
  (∀ (e : ExtentId) r, s.revokeAt e.val 3 = some r → r.op = 6 → ∃ u : State,
   exec (.revokeFree e) s = .next u.release.settled ∧ u.extState e.val = 0 ∧ u.rd od2820_RESULT e.val = abOk ∧
   (∀ g, g < 2 ^ 32 → (u.gran e.val g).tier = 0) ∧ ∀ x ∈ u.pool.revokes, x.ext ≠ e.val) ∧
  (s.halted = false → ∀ (e : ExtentId) (r : ReaderId) p,
   s.coh.rounds.find? (fun p => p.ext == e.val && p.left.any (fun x => x.1 == r.val)) = some p →
   s.past p.sentAt (s.rd od3000_INVAL_TIMEOUT 0 * 1000) = true →
   ∃ u : State, exec (.invalTimeoutExpiry e r) s = .next (u.readerDone e.val r.val).release.settled ∧ u.rd od3010_STATE r.val = 2 ∧
     u = (s.wr od3010_STATE r.val 2).emit (s.extQuad e.val) evReaderDropped (s.extHerd e.val) 4 (s.extQuad e.val) 0 [e.val, r.val]) ∧
  (s.halted = false → ∀ (e : ExtentId) n x, s.coh.rut.find? (fun x => x.line == lineNo e.val n) = some x →
   (x.loaded = false → s.rutReady (lineNo e.val n) = true → x.waiting = [] →
     exec (.rutBufferLoaded e n) s = .next (s.setRut { x with loaded := true }).release.settled) ∧
   (∀ q, x.loaded = true → s.lineBusy (lineNo e.val n) = false → s.mayStart (lineNo e.val n) = true → x.admitted = [q] →
     let v := (s.setRut { x with admitted := [] }).homeCount (lineExt (lineNo e.val n)) 9 1
     exec (.rutExecute e n) s = .next ((((v.rutExec (lineNo e.val n) q).rutAdmit (lineNo e.val n)
       (x.waiting.length + 1)).rutLeave (lineNo e.val n)).release).settled)) ∧
  (s.halted = false → s.coh.rut = [] → ∀ q : QuadId, s.past (quadGet s.coh.window q.val) (quadGet s.coh.rutSet q.val).2.1 = true →
   ∃ u : State, exec (.rutWindowEnd q) s = .next u.release.settled ∧ quadGet u.coh.window q.val = s.clk ∧
     quadGet u.coh.rutSet q.val = (s.rd od3000_RUT_COUNT 0, s.rd od3000_RUT_WINDOW 0, s.rd od3000_RUT_EXIT 0) ∧
     (∀ x ∈ u.coh.counts, s.extQuad (lineExt x.1) ≠ q.val) ∧ u = { s with coh := u.coh }) ∧
  (∀ (i : Instr) (cid op : Nat), ownCommand i = some (cid, op) → ∀ (c : Cmd) (e : Nat),
   InFlight s cid 0x22 c → bitsOf (c.word 3) 31 24 = op → s.mode ≠ 2 → ListHere s c e →
   let w := c.word 5
   let x := ownRule op (w / 2 ^ 48) (bitsOf w 47 32) (w % 2 ^ 32) (s.ft (s.extQuad e) % 2 ^ 64)
     (decide (262144 ≤ (s.ownsOf (s.extSlice e)).length)) { ownNew e (c.word 1) with state := 1, owner := w / 2 ^ 48 } (s.ownRec e (c.word 1))
   ∃ u : State, exec i s = .next (u.attnFinish cid x.1 (ownWords x.2)).settled ∧ u.ownRec e (c.word 1) = x.2 ∧
     u = { s with own := u.own, od := u.od }) ∧
  (∀ (n : Nat) (r : OwnRec), s.own[n]? = some r → r.state = 2 →
   r.prep + usToFt (s.rd od3C20_HANDOFF_TIMEOUT 0) ≤ s.ft (s.extQuad r.ext) →
   exec (.handoffTimeoutExpiry n) s = .next (((s.putOwn { r with state := 1, succ := 0xFFFF }).bump od3C00_REVERTS 0 64 1).emit
     (s.extQuad r.ext) evHandoffReverted (s.extHerd r.ext) 4 (s.extQuad r.ext) 0 [r.list, r.owner, r.succ]).settled)
end

