-- ==== Sys2Proof/Laws/Tables.lean ====
section
/-! SUPPORT. Laws of the tables with a default, which hold memory and the object dictionary: a read after a write, and the
canonical form that every operation keeps. -/

namespace Sys2Proof.Machine

set_option Elab.async false

variable {α : Type}

/-- A key below every listed one holds the default. -/
theorem sparseGet_of_lt (d : α) (m : Sparse α) (x : Nat) (h : ∀ kv ∈ m, x < kv.1) : sparseGet d m x = d := by
  cases m with
  | nil => rfl
  | cons a m =>
    have ha : x < a.1 := h a (List.mem_cons_self ..)
    obtain ⟨k, v⟩ := a
    have hne : x ≠ k := Nat.ne_of_lt ha
    simp only [sparseGet, hne, if_false]
    exact if_pos ha

/-- A read of the key just written gives the value written. -/
theorem sparseGet_sparseSet_same [DecidableEq α] (d : α) (m : Sparse α) (x : Nat) (v : α)
    (h : m.Pairwise (fun a b => a.1 < b.1)) : sparseGet d (sparseSet d m x v) x = v := by
  induction m with
  | nil =>
    simp only [sparseSet]
    split
    · next hv => simp [sparseGet, hv]
    · simp [sparseGet]
  | cons a m ih =>
    obtain ⟨k, w⟩ := a
    rw [List.pairwise_cons] at h
    simp only [sparseSet]
    split
    · next hx =>
      split
      · next hv =>
        have hne : x ≠ k := Nat.ne_of_lt hx
        simp only [sparseGet, hne, if_false]
        rw [hv]
        exact if_pos hx
      · simp [sparseGet]
    · next hx =>
      split
      · next hk =>
        subst hk
        split
        · next hv => rw [hv]; exact sparseGet_of_lt d m x (fun kv hm => h.1 kv hm)
        · simp [sparseGet]
      · next hk =>
        simp only [sparseGet, hk, hx, if_false]
        exact ih h.2

/-- A write leaves every other key as it was. -/
theorem sparseGet_sparseSet_other [DecidableEq α] (d d' : α) (m : Sparse α) (x y : Nat) (v : α)
    (h : m.Pairwise (fun a b => a.1 < b.1)) (hxy : y ≠ x) : sparseGet d (sparseSet d' m x v) y = sparseGet d m y := by
  induction m with
  | nil =>
    simp only [sparseSet]
    split
    · rfl
    · simp [sparseGet, hxy]
  | cons a m ih =>
    obtain ⟨k, w⟩ := a
    rw [List.pairwise_cons] at h
    simp only [sparseSet]
    split
    · next hx =>
      split
      · rfl
      · by_cases hyx : y < x
        · have : y < k := Nat.lt_trans hyx hx
          have hne : y ≠ k := Nat.ne_of_lt this
          simp [sparseGet, hxy, hyx, hne, this]
        · simp [sparseGet, hxy, hyx]
    · next hx =>
      split
      · next hk =>
        subst hk
        split
        · by_cases hyx : y < x
          · rw [sparseGet_of_lt d m y (fun kv hm => Nat.lt_trans hyx (h.1 kv hm))]
            simp [sparseGet, hxy, hyx]
          · simp [sparseGet, hxy, hyx]
        · simp [sparseGet, hxy]
      · next hk =>
        simp only [sparseGet]
        split
        · rfl
        · split
          · rfl
          · exact ih h.2

theorem mem_sparseSet [DecidableEq α] (d : α) (m : Sparse α) (x : Nat) (v : α) (kv : Nat × α)
    (h : kv ∈ sparseSet d m x v) : kv ∈ m ∨ (kv = (x, v) ∧ v ≠ d) := by
  induction m with
  | nil =>
    simp only [sparseSet] at h
    split at h
    · cases h
    · next hv => exact .inr ⟨by simpa using h, hv⟩
  | cons a m ih =>
    obtain ⟨k, w⟩ := a
    simp only [sparseSet] at h
    split at h
    · split at h
      · exact .inl h
      · next hv =>
        rcases List.mem_cons.1 h with h | h
        · exact .inr ⟨h, hv⟩
        · exact .inl h
    · split at h
      · split at h
        · exact .inl (List.mem_cons_of_mem _ h)
        · next hv =>
          rcases List.mem_cons.1 h with h | h
          · exact .inr ⟨h, hv⟩
          · exact .inl (List.mem_cons_of_mem _ h)
      · rcases List.mem_cons.1 h with h | h
        · exact .inl (h ▸ List.mem_cons_self ..)
        · rcases ih h with h | h
          · exact .inl (List.mem_cons_of_mem _ h)
          · exact .inr h

theorem pairwise_sparseSet [DecidableEq α] (d : α) (m : Sparse α) (x : Nat) (v : α)
    (h : m.Pairwise (fun a b => a.1 < b.1)) : (sparseSet d m x v).Pairwise (fun a b => a.1 < b.1) := by
  induction m with
  | nil =>
    simp only [sparseSet]
    split <;> simp
  | cons a m ih =>
    obtain ⟨k, w⟩ := a
    have h0 := h
    rw [List.pairwise_cons] at h
    simp only [sparseSet]
    split
    · next hx =>
      split
      · exact h0
      · refine List.pairwise_cons.2 ⟨fun b hb => ?_, h0⟩
        rcases List.mem_cons.1 hb with hb | hb
        · subst hb; exact hx
        · exact Nat.lt_trans hx (h.1 b hb)
    · next hx =>
      split
      · next hk =>
        subst hk
        split
        · exact h.2
        · exact List.pairwise_cons.2 ⟨fun b hb => h.1 b hb, h.2⟩
      · next hk =>
        refine List.pairwise_cons.2 ⟨fun b hb => ?_, ih h.2⟩
        rcases mem_sparseSet d m x v b hb with hb | ⟨hb, -⟩
        · exact h.1 b hb
        · subst hb; exact Nat.lt_of_le_of_ne (Nat.le_of_not_lt hx) (fun e => hk e.symm)

/-- A write keeps the canonical form. -/
theorem sparseWf_sparseSet [DecidableEq α] (d : Nat → α) (m : Sparse α) (x : Nat) (v : α) (h : sparseWf d m) :
    sparseWf d (sparseSet (d x) m x v) := by
  refine ⟨pairwise_sparseSet _ _ _ _ h.1, fun kv hkv => ?_⟩
  rcases mem_sparseSet _ _ _ _ _ hkv with hm | ⟨rfl, hv⟩
  · exact h.2 kv hm
  · exact hv

/-- A selection of the entries keeps the canonical form. -/
theorem sparseWf_filter (d : Nat → α) (m : Sparse α) (p : Nat × α → Bool) (h : sparseWf d m) : sparseWf d (m.filter p) :=
  ⟨h.1.filter p, fun kv hkv => h.2 kv (List.mem_filter.1 hkv).1⟩

theorem sparseWf_sparseDrop (d : Nat → α) (m : Sparse α) (lo hi : Nat) (h : sparseWf d m) :
    sparseWf d (sparseDrop m lo hi) := sparseWf_filter d m _ h

theorem sparseWf_nil (d : Nat → α) : sparseWf d ([] : Sparse α) := ⟨.nil, by simp⟩

/-- Copying a range keeps the canonical form, where every key has the one default. -/
theorem sparseWf_sparseCopy [DecidableEq α] (d : α) (from_ m : Sparse α) (src dst n : Nat) (h : sparseWf (fun _ => d) m) :
    sparseWf (fun _ => d) (sparseCopy d from_ m src dst n) := by
  unfold sparseCopy
  generalize sparseSlice from_ src (src + n) = l
  have h0 := sparseWf_sparseDrop (fun _ => d) m dst (dst + n) h
  generalize sparseDrop m dst (dst + n) = acc at h0
  induction l generalizing acc with
  | nil => exact h0
  | cons a l ih => exact ih _ (sparseWf_sparseSet (fun _ => d) acc _ _ h0)

/-- Two tables in canonical form that read the same are the same data. -/
theorem sparse_ext (d : Nat → α) (m n : Sparse α) (hm : sparseWf d m) (hn : sparseWf d n)
    (h : ∀ x, sparseGet (d x) m x = sparseGet (d x) n x) : m = n := by
  induction m generalizing n with
  | nil =>
    cases n with
    | nil => rfl
    | cons b n =>
      have hb := hn.2 b (List.mem_cons_self ..)
      have := h b.1
      simp only [sparseGet, if_true] at this
      exact absurd this.symm hb
  | cons a m ih =>
    cases n with
    | nil =>
      have ha := hm.2 a (List.mem_cons_self ..)
      have := h a.1
      simp only [sparseGet, if_true] at this
      exact absurd this ha
    | cons b n =>
      obtain ⟨k, v⟩ := a
      obtain ⟨j, w⟩ := b
      have hk := h k
      have hj := h j
      have hv : v ≠ d k := hm.2 (k, v) (List.mem_cons_self ..)
      have hw : w ≠ d j := hn.2 (j, w) (List.mem_cons_self ..)
      have pm := List.pairwise_cons.1 hm.1
      have pn := List.pairwise_cons.1 hn.1
      simp only [sparseGet] at hk hj
      have hkj : k = j := by
        rcases Nat.lt_trichotomy k j with hlt | heq | hlt
        · have hne : k ≠ j := Nat.ne_of_lt hlt
          simp [hne, hlt] at hk
          exact absurd hk hv
        · exact heq
        · have hne : j ≠ k := Nat.ne_of_lt hlt
          simp [hne, hlt] at hj
          exact absurd hj.symm hw
      subst hkj
      simp at hk
      subst hk
      have tail : m = n := by
        refine ih n ⟨pm.2, fun kv hm' => hm.2 kv (List.mem_cons_of_mem _ hm')⟩
          ⟨pn.2, fun kv hn' => hn.2 kv (List.mem_cons_of_mem _ hn')⟩ (fun x => ?_)
        have hx := h x
        simp only [sparseGet] at hx
        by_cases e : x = k
        · subst e
          rw [sparseGet_of_lt _ m x (fun kv hm' => pm.1 kv hm'), sparseGet_of_lt _ n x (fun kv hn' => pn.1 kv hn')]
        · by_cases l : x < k
          · rw [sparseGet_of_lt _ m x (fun kv hm' => Nat.lt_trans l (pm.1 kv hm')),
              sparseGet_of_lt _ n x (fun kv hn' => Nat.lt_trans l (pn.1 kv hn'))]
          · simpa [e, l] using hx
      rw [tail]

/-- A read of the key just written with a value that is not the default: no order of the keys is needed. -/
theorem sparseGet_sparseSet_ne [DecidableEq α] (d : α) (m : Sparse α) (x : Nat) (v : α) (hv : v ≠ d) :
    sparseGet d (sparseSet d m x v) x = v := by
  induction m with
  | nil => simp [sparseSet, sparseGet, hv]
  | cons a m ih =>
    obtain ⟨k, w⟩ := a
    simp only [sparseSet, hv, if_false]
    split
    · simp [sparseGet]
    · next hx =>
      split
      · simp [sparseGet]
      · next hk => simp [sparseGet, hk, hx, ih]

/-- A write of a value that is not the default leaves every other key as it was, in any order of the keys. -/
theorem sparseGet_sparseSet_ne_other [DecidableEq α] (d : α) (m : Sparse α) (x y : Nat) (v : α) (hv : v ≠ d) (hxy : y ≠ x) :
    sparseGet d (sparseSet d m x v) y = sparseGet d m y := by
  induction m with
  | nil => simp [sparseSet, sparseGet, hv, hxy]
  | cons a m ih =>
    obtain ⟨k, w⟩ := a
    simp only [sparseSet, hv, if_false]
    split
    · next hx =>
      simp only [sparseGet, hxy, if_false]
      split
      · next hy => simp [Nat.ne_of_lt (hy.trans hx), hy.trans hx]
      · rfl
    · split
      · next hk => subst hk; simp [sparseGet, hxy]
      · simp only [sparseGet, ih]

end Sys2Proof.Machine
end

