-- ==== Sys2Proof/Laws/Kept.lean ====
section
/-! SUPPORT. The predicate that says a state keeps what every command keeps, and how it passes through the forms of a definition. -/

namespace Sys2Proof.Machine

structure Kept (o s : State) : Prop where
  pending : s.pending = o.pending
  inv : s.Inv
  later : o.noEarlier s

def KeptOut (o : State) (v : Host.Outcome State Fault Refusal) : Prop := ∀ t, v = .next t → Kept o t

theorem KeptOut.next {o : State} {t : State} (h : Kept o t) : KeptOut o (.next t) := by
  intro u e; cases e; exact h
theorem KeptOut.fault {o : State} {f : Fault} : KeptOut o (.fault f) := by intro u e; cases e
theorem KeptOut.refused {o : State} {f : Refusal} : KeptOut o (.refused f) := by intro u e; cases e

def KeptVal {α : Type} (o : State) (v : Option α) (f : α → State) : Prop := ∀ a, v = some a → Kept o (f a)
theorem KeptVal.none {α : Type} {o : State} {f : α → State} : KeptVal o none f := by intro u e; cases e
theorem KeptVal.some {α : Type} {o : State} {f : α → State} {a : α} (h : Kept o (f a)) : KeptVal o (some a) f := by
  intro u e; cases e; exact h

def Kept8 (o : State) (v : Outcome8) : Prop := ∀ c d t, v = .code c d t → Kept o t
theorem Kept8.code {o : State} {c d : Nat} {t : State} (h : Kept o t) : Kept8 o (.code c d t) := by
  intro _ _ u e; cases e; exact h
theorem Kept8.wait {o : State} : Kept8 o .wait := by intro _ _ u e; cases e
theorem Kept8.get {o : State} {c d : Nat} {t : State} (h : Kept8 o (.code c d t)) : Kept o t := h c d t rfl

theorem Kept.upd {o s : State} {pending outbox up freeN od tr time pool coh flt cpu sw tm ports mt co own nand sec mg pwr pins dbg} (h : Kept o s) (hp : pending = s.pending) (ho : od = s.od)
    (hm : pool.mem = s.pool.mem) (hc : pool.cxl = s.pool.cxl) (hf : pool.flash = s.pool.flash)
    (hs : cpu.sram = s.cpu.sram) (h1 : flt.stack = s.flt.stack) (h2 : flt.raised = s.flt.raised)
    (h3 : flt.contained = s.flt.contained) (h4 : flt.correctable = s.flt.correctable)
    (hu : s.up ≤ up) (hn : s.freeN ≤ freeN) (hz : s.sec.fuses ≤ sec.fuses) (hl : s.sec.life ≤ sec.life)
    (hlk : tr.links = s.tr.links := by rfl) (hky : sec.keys = s.sec.keys := by rfl) (hgr : pool.gran = s.pool.gran := by rfl) :
    Kept o (State.mk pending outbox up freeN od tr time pool coh flt cpu sw tm ports mt co own nand sec mg pwr pins dbg) := by
  obtain ⟨p, ⟨⟨c1, c2, c3, c4, c5, c6, c7, c8⟩, n⟩, l1, l2, l3, l4⟩ := h
  refine ⟨hp.trans p, ⟨⟨ho ▸ c1, hm ▸ c2, hc ▸ c3, hf ▸ c4, hs ▸ c5, hlk ▸ c6, hky ▸ c7, hgr ▸ c8⟩, ?_⟩, l1.trans hu, l2.trans hn, l3.trans hz, l4.trans hl⟩
  simp only [Faults.nested] at n ⊢
  rw [h1, h2, h3, h4]
  exact n

theorem Kept.same {o s : State} {pending outbox up freeN od tr time pool coh flt cpu sw tm ports mt co own nand sec mg pwr pins dbg} (h : Kept o s)
    (e : (pending, od, pool.mem, pool.cxl, pool.flash, cpu.sram, flt.stack, flt.raised, flt.contained, flt.correctable,
      up, freeN, sec.fuses, sec.life, tr.links, sec.keys, pool.gran) = (s.pending, s.od, s.pool.mem, s.pool.cxl, s.pool.flash, s.cpu.sram, s.flt.stack,
      s.flt.raised, s.flt.contained, s.flt.correctable, s.up, s.freeN, s.sec.fuses, s.sec.life, s.tr.links, s.sec.keys, s.pool.gran)) :
    Kept o (State.mk pending outbox up freeN od tr time pool coh flt cpu sw tm ports mt co own nand sec mg pwr pins dbg) := by
  simp only [Prod.mk.injEq] at e
  obtain ⟨e1, e2, e3, e4, e5, e6, e7, e8, e9, e10, e11, e12, e13, e14, e15, e16, e17⟩ := e
  exact h.upd e1 e2 e3 e4 e5 e6 e7 e8 e9 e10 e11.ge e12.ge e13.ge e14.ge e15 e16 e17

theorem Kept.od {o s : State} (h : Kept o s) : sparseWf odDefault s.od := h.inv.1.1
theorem Kept.mem {o s : State} (h : Kept o s) : Memory.wf s.pool.mem := h.inv.1.2.1
theorem Kept.cxl {o s : State} (h : Kept o s) : Memory.wf s.pool.cxl := h.inv.1.2.2.1
theorem Kept.flash {o s : State} (h : Kept o s) : Memory.wf s.pool.flash := h.inv.1.2.2.2.1
theorem Kept.sram {o s : State} (h : Kept o s) : Memory.wf s.cpu.sram := h.inv.1.2.2.2.2.1
theorem Kept.links {o s : State} (h : Kept o s) : sparseWf (fun _ => linkNew) s.tr.links := h.inv.1.2.2.2.2.2.1
theorem Kept.keys {o s : State} (h : Kept o s) : sparseWf (fun _ => 0) s.sec.keys := h.inv.1.2.2.2.2.2.2.1
theorem Kept.gran {o s : State} (h : Kept o s) : sparseWf (fun _ => granNew) s.pool.gran := h.inv.1.2.2.2.2.2.2.2
theorem Kept.flt {o s : State} (h : Kept o s) : s.flt.nested := h.inv.2
theorem Kept.setLinks {o s : State} {l : Sparse LinkState} (h : Kept o s) (w : sparseWf (fun _ => linkNew) l) :
    Kept o { s with tr := { s.tr with links := l } } :=
  ⟨h.pending, ⟨⟨h.od, h.mem, h.cxl, h.flash, h.sram, w, h.keys, h.gran⟩, h.flt⟩, h.later⟩
theorem Kept.setGrans {o s : State} {l : Sparse Gran} (h : Kept o s) (w : sparseWf (fun _ => granNew) l) :
    Kept o { s with pool := { s.pool with gran := l } } :=
  ⟨h.pending, ⟨⟨h.od, h.mem, h.cxl, h.flash, h.sram, h.links, h.keys, w⟩, h.flt⟩, h.later⟩
theorem Kept.setKeys {o s : State} {l : Sparse Nat} (h : Kept o s) (w : sparseWf (fun _ => 0) l) :
    Kept o { s with sec := { s.sec with keys := l } } :=
  ⟨h.pending, ⟨⟨h.od, h.mem, h.cxl, h.flash, h.sram, h.links, w, h.gran⟩, h.flt⟩, h.later⟩
theorem Kept.updT {o s : State} {pending outbox up freeN od tr time pool coh flt cpu sw tm ports mt co own nand sec mg pwr pins dbg} (h : Kept o s) (hp : pending = s.pending)
    (ho : sparseWf odDefault od) (hm : Memory.wf pool.mem) (hc : Memory.wf pool.cxl)
    (hf : Memory.wf pool.flash) (hs : Memory.wf cpu.sram) (hn : flt = s.flt)
    (hu : up = s.up) (hq : freeN = s.freeN) (hz : sec = s.sec) (hlk : tr.links = s.tr.links := by rfl)
    (hgr : pool.gran = s.pool.gran := by rfl) :
    Kept o (State.mk pending outbox up freeN od tr time pool coh flt cpu sw tm ports mt co own nand sec mg pwr pins dbg) :=
  ⟨hp.trans h.pending, ⟨⟨ho, hm, hc, hf, hs, hlk ▸ h.links, hz ▸ h.keys, hgr ▸ h.gran⟩, hn ▸ h.inv.2⟩, by rw [hu, hq, hz]; exact h.later⟩
theorem Kept.updF {o s : State} {f : Faults} (h : Kept o s) (n : f.nested) : Kept o { s with flt := f } :=
  ⟨h.pending, ⟨h.inv.1, n⟩, h.later⟩

theorem cutS {o : State} {P : Prop} {x : State} (h : Kept o x) (k : Kept o x → P) : P := k h
theorem cutP {α : Type} {o : State} {P : Prop} {x : α × State} (h : Kept o x.2) (k : Kept o x.2 → P) : P := k h
theorem cutF {α : Type} {o : State} {P : Prop} {x : State × α} (h : Kept o x.1) (k : Kept o x.1 → P) : P := k h
theorem cutH {o : State} {P : Prop} {x : Host.Outcome State Fault Refusal} (h : KeptOut o x) (k : KeptOut o x → P) : P := k h

theorem ite_kept {o : State} {c : Prop} [Decidable c] {a b : State} (h : Kept o a) (k : Kept o b) :
    Kept o (if c then a else b) := by split <;> assumption
theorem ite_kept1 {α : Type} {o : State} {c : Prop} [Decidable c] {a b : State × α} (h : Kept o a.1) (k : Kept o b.1) :
    Kept o (if c then a else b).1 := by split <;> assumption
theorem ite_kept2 {α : Type} {o : State} {c : Prop} [Decidable c] {a b : α × State} (h : Kept o a.2) (k : Kept o b.2) :
    Kept o (if c then a else b).2 := by split <;> assumption
theorem ite_keptOut {o : State} {c : Prop} [Decidable c] {a b : Host.Outcome State Fault Refusal} (h : KeptOut o a)
    (k : KeptOut o b) : KeptOut o (if c then a else b) := by split <;> assumption
theorem pairEq {α : Type} {o : State} {p : α × State} {a : α} {s : State} (e : p = (a, s)) (h : Kept o p.2) : Kept o s := by
  rw [e] at h; exact h
theorem cutPut {α : Type} {o : State} {P : Prop} {x : State → α → State} (h : ∀ a b, Kept o a → Kept o (x a b))
    (k : (∀ a b, Kept o a → Kept o (x a b)) → P) : P := k h

theorem foldl_kept {α : Type} {o : State} {f : State → α → State} {i : State} {l : List α} (hi : Kept o i)
    (hf : ∀ a x, Kept o a → Kept o (f a x)) : Kept o (l.foldl f i) := by
  induction l generalizing i with
  | nil => exact hi
  | cons x l ih => exact ih (hf _ _ hi)
theorem foldl_kept2 {α β : Type} {o : State} {f : β × State → α → β × State} {i : β × State} {l : List α}
    (hi : Kept o i.2) (hf : ∀ a x, Kept o a.2 → Kept o (f a x).2) : Kept o (l.foldl f i).2 := by
  induction l generalizing i with
  | nil => exact hi
  | cons x l ih => exact ih (hf _ _ hi)
theorem foldl_kept1 {α β : Type} {o : State} {f : State × β → α → State × β} {i : State × β} {l : List α}
    (hi : Kept o i.1) (hf : ∀ a x, Kept o a.1 → Kept o (f a x).1) : Kept o (l.foldl f i).1 := by
  induction l generalizing i with
  | nil => exact hi
  | cons x l ih => exact ih (hf _ _ hi)

end Sys2Proof.Machine
end

