-- ==== Sys2Proof/Laws/State.lean ====
section
/-! SUPPORT. What each named update of the state leaves as it was: one lemma for each field. -/

set_option linter.all false

namespace Sys2Proof.Machine

@[simp] theorem State.wr_pending (s : State) (x : Ent) (y z : ℕ) : (s.wr x y z).pending = s.pending := rfl
@[simp] theorem State.wr_outbox (s : State) (x : Ent) (y z : ℕ) : (s.wr x y z).outbox = s.outbox := rfl
@[simp] theorem State.wr_up (s : State) (x : Ent) (y z : ℕ) : (s.wr x y z).up = s.up := rfl
@[simp] theorem State.wr_freeN (s : State) (x : Ent) (y z : ℕ) : (s.wr x y z).freeN = s.freeN := rfl
@[simp] theorem State.wr_tr (s : State) (x : Ent) (y z : ℕ) : (s.wr x y z).tr = s.tr := rfl
@[simp] theorem State.wr_time (s : State) (x : Ent) (y z : ℕ) : (s.wr x y z).time = s.time := rfl
@[simp] theorem State.wr_pool (s : State) (x : Ent) (y z : ℕ) : (s.wr x y z).pool = s.pool := rfl
@[simp] theorem State.wr_coh (s : State) (x : Ent) (y z : ℕ) : (s.wr x y z).coh = s.coh := rfl
@[simp] theorem State.wr_flt (s : State) (x : Ent) (y z : ℕ) : (s.wr x y z).flt = s.flt := rfl
@[simp] theorem State.wr_cpu (s : State) (x : Ent) (y z : ℕ) : (s.wr x y z).cpu = s.cpu := rfl
@[simp] theorem State.wr_sw (s : State) (x : Ent) (y z : ℕ) : (s.wr x y z).sw = s.sw := rfl
@[simp] theorem State.wr_tm (s : State) (x : Ent) (y z : ℕ) : (s.wr x y z).tm = s.tm := rfl
@[simp] theorem State.wr_ports (s : State) (x : Ent) (y z : ℕ) : (s.wr x y z).ports = s.ports := rfl
@[simp] theorem State.wr_mt (s : State) (x : Ent) (y z : ℕ) : (s.wr x y z).mt = s.mt := rfl
@[simp] theorem State.wr_co (s : State) (x : Ent) (y z : ℕ) : (s.wr x y z).co = s.co := rfl
@[simp] theorem State.wr_own (s : State) (x : Ent) (y z : ℕ) : (s.wr x y z).own = s.own := rfl
@[simp] theorem State.wr_nand (s : State) (x : Ent) (y z : ℕ) : (s.wr x y z).nand = s.nand := rfl
@[simp] theorem State.wr_sec (s : State) (x : Ent) (y z : ℕ) : (s.wr x y z).sec = s.sec := rfl
@[simp] theorem State.wr_mg (s : State) (x : Ent) (y z : ℕ) : (s.wr x y z).mg = s.mg := rfl
@[simp] theorem State.wr_pwr (s : State) (x : Ent) (y z : ℕ) : (s.wr x y z).pwr = s.pwr := rfl
@[simp] theorem State.wr_pins (s : State) (x : Ent) (y z : ℕ) : (s.wr x y z).pins = s.pins := rfl
@[simp] theorem State.wr_dbg (s : State) (x : Ent) (y z : ℕ) : (s.wr x y z).dbg = s.dbg := rfl
@[simp] theorem State.bump_pending (s : State) (x : Ent) (y z w : ℕ) : (s.bump x y z w).pending = s.pending := rfl
@[simp] theorem State.bump_outbox (s : State) (x : Ent) (y z w : ℕ) : (s.bump x y z w).outbox = s.outbox := rfl
@[simp] theorem State.bump_up (s : State) (x : Ent) (y z w : ℕ) : (s.bump x y z w).up = s.up := rfl
@[simp] theorem State.bump_freeN (s : State) (x : Ent) (y z w : ℕ) : (s.bump x y z w).freeN = s.freeN := rfl
@[simp] theorem State.bump_tr (s : State) (x : Ent) (y z w : ℕ) : (s.bump x y z w).tr = s.tr := rfl
@[simp] theorem State.bump_time (s : State) (x : Ent) (y z w : ℕ) : (s.bump x y z w).time = s.time := rfl
@[simp] theorem State.bump_pool (s : State) (x : Ent) (y z w : ℕ) : (s.bump x y z w).pool = s.pool := rfl
@[simp] theorem State.bump_coh (s : State) (x : Ent) (y z w : ℕ) : (s.bump x y z w).coh = s.coh := rfl
@[simp] theorem State.bump_flt (s : State) (x : Ent) (y z w : ℕ) : (s.bump x y z w).flt = s.flt := rfl
@[simp] theorem State.bump_cpu (s : State) (x : Ent) (y z w : ℕ) : (s.bump x y z w).cpu = s.cpu := rfl
@[simp] theorem State.bump_sw (s : State) (x : Ent) (y z w : ℕ) : (s.bump x y z w).sw = s.sw := rfl
@[simp] theorem State.bump_tm (s : State) (x : Ent) (y z w : ℕ) : (s.bump x y z w).tm = s.tm := rfl
@[simp] theorem State.bump_ports (s : State) (x : Ent) (y z w : ℕ) : (s.bump x y z w).ports = s.ports := rfl
@[simp] theorem State.bump_mt (s : State) (x : Ent) (y z w : ℕ) : (s.bump x y z w).mt = s.mt := rfl
@[simp] theorem State.bump_co (s : State) (x : Ent) (y z w : ℕ) : (s.bump x y z w).co = s.co := rfl
@[simp] theorem State.bump_own (s : State) (x : Ent) (y z w : ℕ) : (s.bump x y z w).own = s.own := rfl
@[simp] theorem State.bump_nand (s : State) (x : Ent) (y z w : ℕ) : (s.bump x y z w).nand = s.nand := rfl
@[simp] theorem State.bump_sec (s : State) (x : Ent) (y z w : ℕ) : (s.bump x y z w).sec = s.sec := rfl
@[simp] theorem State.bump_mg (s : State) (x : Ent) (y z w : ℕ) : (s.bump x y z w).mg = s.mg := rfl
@[simp] theorem State.bump_pwr (s : State) (x : Ent) (y z w : ℕ) : (s.bump x y z w).pwr = s.pwr := rfl
@[simp] theorem State.bump_pins (s : State) (x : Ent) (y z w : ℕ) : (s.bump x y z w).pins = s.pins := rfl
@[simp] theorem State.bump_dbg (s : State) (x : Ent) (y z w : ℕ) : (s.bump x y z w).dbg = s.dbg := rfl
@[simp] theorem State.count_pending (s : State) (x y : ℕ) : (s.count x y).pending = s.pending := rfl
@[simp] theorem State.count_outbox (s : State) (x y : ℕ) : (s.count x y).outbox = s.outbox := rfl
@[simp] theorem State.count_up (s : State) (x y : ℕ) : (s.count x y).up = s.up := rfl
@[simp] theorem State.count_freeN (s : State) (x y : ℕ) : (s.count x y).freeN = s.freeN := rfl
@[simp] theorem State.count_tr (s : State) (x y : ℕ) : (s.count x y).tr = s.tr := rfl
@[simp] theorem State.count_time (s : State) (x y : ℕ) : (s.count x y).time = s.time := rfl
@[simp] theorem State.count_pool (s : State) (x y : ℕ) : (s.count x y).pool = s.pool := rfl
@[simp] theorem State.count_coh (s : State) (x y : ℕ) : (s.count x y).coh = s.coh := rfl
@[simp] theorem State.count_flt (s : State) (x y : ℕ) : (s.count x y).flt = s.flt := rfl
@[simp] theorem State.count_cpu (s : State) (x y : ℕ) : (s.count x y).cpu = s.cpu := rfl
@[simp] theorem State.count_sw (s : State) (x y : ℕ) : (s.count x y).sw = s.sw := rfl
@[simp] theorem State.count_tm (s : State) (x y : ℕ) : (s.count x y).tm = s.tm := rfl
@[simp] theorem State.count_ports (s : State) (x y : ℕ) : (s.count x y).ports = s.ports := rfl
@[simp] theorem State.count_mt (s : State) (x y : ℕ) : (s.count x y).mt = s.mt := rfl
@[simp] theorem State.count_co (s : State) (x y : ℕ) : (s.count x y).co = s.co := rfl
@[simp] theorem State.count_own (s : State) (x y : ℕ) : (s.count x y).own = s.own := rfl
@[simp] theorem State.count_nand (s : State) (x y : ℕ) : (s.count x y).nand = s.nand := rfl
@[simp] theorem State.count_sec (s : State) (x y : ℕ) : (s.count x y).sec = s.sec := rfl
@[simp] theorem State.count_mg (s : State) (x y : ℕ) : (s.count x y).mg = s.mg := rfl
@[simp] theorem State.count_pwr (s : State) (x y : ℕ) : (s.count x y).pwr = s.pwr := rfl
@[simp] theorem State.count_pins (s : State) (x y : ℕ) : (s.count x y).pins = s.pins := rfl
@[simp] theorem State.count_dbg (s : State) (x y : ℕ) : (s.count x y).dbg = s.dbg := rfl
@[simp] theorem State.send_pending (s : State) (x : OutItem) : (s.send x).pending = s.pending := rfl
@[simp] theorem State.send_up (s : State) (x : OutItem) : (s.send x).up = s.up := rfl
@[simp] theorem State.send_freeN (s : State) (x : OutItem) : (s.send x).freeN = s.freeN := rfl
@[simp] theorem State.send_od (s : State) (x : OutItem) : (s.send x).od = s.od := rfl
@[simp] theorem State.send_tr (s : State) (x : OutItem) : (s.send x).tr = s.tr := rfl
@[simp] theorem State.send_time (s : State) (x : OutItem) : (s.send x).time = s.time := rfl
@[simp] theorem State.send_pool (s : State) (x : OutItem) : (s.send x).pool = s.pool := rfl
@[simp] theorem State.send_coh (s : State) (x : OutItem) : (s.send x).coh = s.coh := rfl
@[simp] theorem State.send_flt (s : State) (x : OutItem) : (s.send x).flt = s.flt := rfl
@[simp] theorem State.send_cpu (s : State) (x : OutItem) : (s.send x).cpu = s.cpu := rfl
@[simp] theorem State.send_sw (s : State) (x : OutItem) : (s.send x).sw = s.sw := rfl
@[simp] theorem State.send_tm (s : State) (x : OutItem) : (s.send x).tm = s.tm := rfl
@[simp] theorem State.send_ports (s : State) (x : OutItem) : (s.send x).ports = s.ports := rfl
@[simp] theorem State.send_mt (s : State) (x : OutItem) : (s.send x).mt = s.mt := rfl
@[simp] theorem State.send_co (s : State) (x : OutItem) : (s.send x).co = s.co := rfl
@[simp] theorem State.send_own (s : State) (x : OutItem) : (s.send x).own = s.own := rfl
@[simp] theorem State.send_nand (s : State) (x : OutItem) : (s.send x).nand = s.nand := rfl
@[simp] theorem State.send_sec (s : State) (x : OutItem) : (s.send x).sec = s.sec := rfl
@[simp] theorem State.send_mg (s : State) (x : OutItem) : (s.send x).mg = s.mg := rfl
@[simp] theorem State.send_pwr (s : State) (x : OutItem) : (s.send x).pwr = s.pwr := rfl
@[simp] theorem State.send_pins (s : State) (x : OutItem) : (s.send x).pins = s.pins := rfl
@[simp] theorem State.send_dbg (s : State) (x : OutItem) : (s.send x).dbg = s.dbg := rfl
@[simp] theorem State.fresh_pending (s : State) : (s.fresh).pending = s.pending := rfl
@[simp] theorem State.fresh_outbox (s : State) : (s.fresh).outbox = s.outbox := rfl
@[simp] theorem State.fresh_up (s : State) : (s.fresh).up = s.up := rfl
@[simp] theorem State.fresh_od (s : State) : (s.fresh).od = s.od := rfl
@[simp] theorem State.fresh_tr (s : State) : (s.fresh).tr = s.tr := rfl
@[simp] theorem State.fresh_time (s : State) : (s.fresh).time = s.time := rfl
@[simp] theorem State.fresh_pool (s : State) : (s.fresh).pool = s.pool := rfl
@[simp] theorem State.fresh_coh (s : State) : (s.fresh).coh = s.coh := rfl
@[simp] theorem State.fresh_flt (s : State) : (s.fresh).flt = s.flt := rfl
@[simp] theorem State.fresh_cpu (s : State) : (s.fresh).cpu = s.cpu := rfl
@[simp] theorem State.fresh_sw (s : State) : (s.fresh).sw = s.sw := rfl
@[simp] theorem State.fresh_tm (s : State) : (s.fresh).tm = s.tm := rfl
@[simp] theorem State.fresh_ports (s : State) : (s.fresh).ports = s.ports := rfl
@[simp] theorem State.fresh_mt (s : State) : (s.fresh).mt = s.mt := rfl
@[simp] theorem State.fresh_co (s : State) : (s.fresh).co = s.co := rfl
@[simp] theorem State.fresh_own (s : State) : (s.fresh).own = s.own := rfl
@[simp] theorem State.fresh_nand (s : State) : (s.fresh).nand = s.nand := rfl
@[simp] theorem State.fresh_sec (s : State) : (s.fresh).sec = s.sec := rfl
@[simp] theorem State.fresh_mg (s : State) : (s.fresh).mg = s.mg := rfl
@[simp] theorem State.fresh_pwr (s : State) : (s.fresh).pwr = s.pwr := rfl
@[simp] theorem State.fresh_pins (s : State) : (s.fresh).pins = s.pins := rfl
@[simp] theorem State.fresh_dbg (s : State) : (s.fresh).dbg = s.dbg := rfl
@[simp] theorem State.setTine_pending (s : State) (x : ℕ) (y : Tine) : (s.setTine x y).pending = s.pending := rfl
@[simp] theorem State.setTine_outbox (s : State) (x : ℕ) (y : Tine) : (s.setTine x y).outbox = s.outbox := rfl
@[simp] theorem State.setTine_up (s : State) (x : ℕ) (y : Tine) : (s.setTine x y).up = s.up := rfl
@[simp] theorem State.setTine_freeN (s : State) (x : ℕ) (y : Tine) : (s.setTine x y).freeN = s.freeN := rfl
@[simp] theorem State.setTine_od (s : State) (x : ℕ) (y : Tine) : (s.setTine x y).od = s.od := rfl
@[simp] theorem State.setTine_tr (s : State) (x : ℕ) (y : Tine) : (s.setTine x y).tr = s.tr := rfl
@[simp] theorem State.setTine_time (s : State) (x : ℕ) (y : Tine) : (s.setTine x y).time = s.time := rfl
@[simp] theorem State.setTine_pool (s : State) (x : ℕ) (y : Tine) : (s.setTine x y).pool = s.pool := rfl
@[simp] theorem State.setTine_coh (s : State) (x : ℕ) (y : Tine) : (s.setTine x y).coh = s.coh := rfl
@[simp] theorem State.setTine_flt (s : State) (x : ℕ) (y : Tine) : (s.setTine x y).flt = s.flt := rfl
@[simp] theorem State.setTine_sw (s : State) (x : ℕ) (y : Tine) : (s.setTine x y).sw = s.sw := rfl
@[simp] theorem State.setTine_tm (s : State) (x : ℕ) (y : Tine) : (s.setTine x y).tm = s.tm := rfl
@[simp] theorem State.setTine_ports (s : State) (x : ℕ) (y : Tine) : (s.setTine x y).ports = s.ports := rfl
@[simp] theorem State.setTine_mt (s : State) (x : ℕ) (y : Tine) : (s.setTine x y).mt = s.mt := rfl
@[simp] theorem State.setTine_co (s : State) (x : ℕ) (y : Tine) : (s.setTine x y).co = s.co := rfl
@[simp] theorem State.setTine_own (s : State) (x : ℕ) (y : Tine) : (s.setTine x y).own = s.own := rfl
@[simp] theorem State.setTine_nand (s : State) (x : ℕ) (y : Tine) : (s.setTine x y).nand = s.nand := rfl
@[simp] theorem State.setTine_sec (s : State) (x : ℕ) (y : Tine) : (s.setTine x y).sec = s.sec := rfl
@[simp] theorem State.setTine_mg (s : State) (x : ℕ) (y : Tine) : (s.setTine x y).mg = s.mg := rfl
@[simp] theorem State.setTine_pwr (s : State) (x : ℕ) (y : Tine) : (s.setTine x y).pwr = s.pwr := rfl
@[simp] theorem State.setTine_pins (s : State) (x : ℕ) (y : Tine) : (s.setTine x y).pins = s.pins := rfl
@[simp] theorem State.setTine_dbg (s : State) (x : ℕ) (y : Tine) : (s.setTine x y).dbg = s.dbg := rfl
@[simp] theorem State.setThread_pending (s : State) (x y : ℕ) (z : Thread) : (s.setThread x y z).pending = s.pending := rfl
@[simp] theorem State.setThread_outbox (s : State) (x y : ℕ) (z : Thread) : (s.setThread x y z).outbox = s.outbox := rfl
@[simp] theorem State.setThread_up (s : State) (x y : ℕ) (z : Thread) : (s.setThread x y z).up = s.up := rfl
@[simp] theorem State.setThread_freeN (s : State) (x y : ℕ) (z : Thread) : (s.setThread x y z).freeN = s.freeN := rfl
@[simp] theorem State.setThread_od (s : State) (x y : ℕ) (z : Thread) : (s.setThread x y z).od = s.od := rfl
@[simp] theorem State.setThread_tr (s : State) (x y : ℕ) (z : Thread) : (s.setThread x y z).tr = s.tr := rfl
@[simp] theorem State.setThread_time (s : State) (x y : ℕ) (z : Thread) : (s.setThread x y z).time = s.time := rfl
@[simp] theorem State.setThread_pool (s : State) (x y : ℕ) (z : Thread) : (s.setThread x y z).pool = s.pool := rfl
@[simp] theorem State.setThread_coh (s : State) (x y : ℕ) (z : Thread) : (s.setThread x y z).coh = s.coh := rfl
@[simp] theorem State.setThread_flt (s : State) (x y : ℕ) (z : Thread) : (s.setThread x y z).flt = s.flt := rfl
@[simp] theorem State.setThread_sw (s : State) (x y : ℕ) (z : Thread) : (s.setThread x y z).sw = s.sw := rfl
@[simp] theorem State.setThread_tm (s : State) (x y : ℕ) (z : Thread) : (s.setThread x y z).tm = s.tm := rfl
@[simp] theorem State.setThread_ports (s : State) (x y : ℕ) (z : Thread) : (s.setThread x y z).ports = s.ports := rfl
@[simp] theorem State.setThread_mt (s : State) (x y : ℕ) (z : Thread) : (s.setThread x y z).mt = s.mt := rfl
@[simp] theorem State.setThread_co (s : State) (x y : ℕ) (z : Thread) : (s.setThread x y z).co = s.co := rfl
@[simp] theorem State.setThread_own (s : State) (x y : ℕ) (z : Thread) : (s.setThread x y z).own = s.own := rfl
@[simp] theorem State.setThread_nand (s : State) (x y : ℕ) (z : Thread) : (s.setThread x y z).nand = s.nand := rfl
@[simp] theorem State.setThread_sec (s : State) (x y : ℕ) (z : Thread) : (s.setThread x y z).sec = s.sec := rfl
@[simp] theorem State.setThread_mg (s : State) (x y : ℕ) (z : Thread) : (s.setThread x y z).mg = s.mg := rfl
@[simp] theorem State.setThread_pwr (s : State) (x y : ℕ) (z : Thread) : (s.setThread x y z).pwr = s.pwr := rfl
@[simp] theorem State.setThread_pins (s : State) (x y : ℕ) (z : Thread) : (s.setThread x y z).pins = s.pins := rfl
@[simp] theorem State.setThread_dbg (s : State) (x y : ℕ) (z : Thread) : (s.setThread x y z).dbg = s.dbg := rfl
@[simp] theorem State.setRing_pending (s : State) (x : ℕ) (y : RingState) : (s.setRing x y).pending = s.pending := rfl
@[simp] theorem State.setRing_outbox (s : State) (x : ℕ) (y : RingState) : (s.setRing x y).outbox = s.outbox := rfl
@[simp] theorem State.setRing_up (s : State) (x : ℕ) (y : RingState) : (s.setRing x y).up = s.up := rfl
@[simp] theorem State.setRing_freeN (s : State) (x : ℕ) (y : RingState) : (s.setRing x y).freeN = s.freeN := rfl
@[simp] theorem State.setRing_od (s : State) (x : ℕ) (y : RingState) : (s.setRing x y).od = s.od := rfl
@[simp] theorem State.setRing_tr (s : State) (x : ℕ) (y : RingState) : (s.setRing x y).tr = s.tr := rfl
@[simp] theorem State.setRing_time (s : State) (x : ℕ) (y : RingState) : (s.setRing x y).time = s.time := rfl
@[simp] theorem State.setRing_pool (s : State) (x : ℕ) (y : RingState) : (s.setRing x y).pool = s.pool := rfl
@[simp] theorem State.setRing_coh (s : State) (x : ℕ) (y : RingState) : (s.setRing x y).coh = s.coh := rfl
@[simp] theorem State.setRing_flt (s : State) (x : ℕ) (y : RingState) : (s.setRing x y).flt = s.flt := rfl
@[simp] theorem State.setRing_sw (s : State) (x : ℕ) (y : RingState) : (s.setRing x y).sw = s.sw := rfl
@[simp] theorem State.setRing_tm (s : State) (x : ℕ) (y : RingState) : (s.setRing x y).tm = s.tm := rfl
@[simp] theorem State.setRing_ports (s : State) (x : ℕ) (y : RingState) : (s.setRing x y).ports = s.ports := rfl
@[simp] theorem State.setRing_mt (s : State) (x : ℕ) (y : RingState) : (s.setRing x y).mt = s.mt := rfl
@[simp] theorem State.setRing_co (s : State) (x : ℕ) (y : RingState) : (s.setRing x y).co = s.co := rfl
@[simp] theorem State.setRing_own (s : State) (x : ℕ) (y : RingState) : (s.setRing x y).own = s.own := rfl
@[simp] theorem State.setRing_nand (s : State) (x : ℕ) (y : RingState) : (s.setRing x y).nand = s.nand := rfl
@[simp] theorem State.setRing_sec (s : State) (x : ℕ) (y : RingState) : (s.setRing x y).sec = s.sec := rfl
@[simp] theorem State.setRing_mg (s : State) (x : ℕ) (y : RingState) : (s.setRing x y).mg = s.mg := rfl
@[simp] theorem State.setRing_pwr (s : State) (x : ℕ) (y : RingState) : (s.setRing x y).pwr = s.pwr := rfl
@[simp] theorem State.setRing_pins (s : State) (x : ℕ) (y : RingState) : (s.setRing x y).pins = s.pins := rfl
@[simp] theorem State.setRing_dbg (s : State) (x : ℕ) (y : RingState) : (s.setRing x y).dbg = s.dbg := rfl
@[simp] theorem State.setCmd_pending (s : State) (x : Cmd) : (s.setCmd x).pending = s.pending := rfl
@[simp] theorem State.setCmd_outbox (s : State) (x : Cmd) : (s.setCmd x).outbox = s.outbox := rfl
@[simp] theorem State.setCmd_up (s : State) (x : Cmd) : (s.setCmd x).up = s.up := rfl
@[simp] theorem State.setCmd_freeN (s : State) (x : Cmd) : (s.setCmd x).freeN = s.freeN := rfl
@[simp] theorem State.setCmd_od (s : State) (x : Cmd) : (s.setCmd x).od = s.od := rfl
@[simp] theorem State.setCmd_tr (s : State) (x : Cmd) : (s.setCmd x).tr = s.tr := rfl
@[simp] theorem State.setCmd_time (s : State) (x : Cmd) : (s.setCmd x).time = s.time := rfl
@[simp] theorem State.setCmd_pool (s : State) (x : Cmd) : (s.setCmd x).pool = s.pool := rfl
@[simp] theorem State.setCmd_coh (s : State) (x : Cmd) : (s.setCmd x).coh = s.coh := rfl
@[simp] theorem State.setCmd_flt (s : State) (x : Cmd) : (s.setCmd x).flt = s.flt := rfl
@[simp] theorem State.setCmd_sw (s : State) (x : Cmd) : (s.setCmd x).sw = s.sw := rfl
@[simp] theorem State.setCmd_tm (s : State) (x : Cmd) : (s.setCmd x).tm = s.tm := rfl
@[simp] theorem State.setCmd_ports (s : State) (x : Cmd) : (s.setCmd x).ports = s.ports := rfl
@[simp] theorem State.setCmd_mt (s : State) (x : Cmd) : (s.setCmd x).mt = s.mt := rfl
@[simp] theorem State.setCmd_co (s : State) (x : Cmd) : (s.setCmd x).co = s.co := rfl
@[simp] theorem State.setCmd_own (s : State) (x : Cmd) : (s.setCmd x).own = s.own := rfl
@[simp] theorem State.setCmd_nand (s : State) (x : Cmd) : (s.setCmd x).nand = s.nand := rfl
@[simp] theorem State.setCmd_sec (s : State) (x : Cmd) : (s.setCmd x).sec = s.sec := rfl
@[simp] theorem State.setCmd_mg (s : State) (x : Cmd) : (s.setCmd x).mg = s.mg := rfl
@[simp] theorem State.setCmd_pwr (s : State) (x : Cmd) : (s.setCmd x).pwr = s.pwr := rfl
@[simp] theorem State.setCmd_pins (s : State) (x : Cmd) : (s.setCmd x).pins = s.pins := rfl
@[simp] theorem State.setCmd_dbg (s : State) (x : Cmd) : (s.setCmd x).dbg = s.dbg := rfl
@[simp] theorem State.setCtx_pending (s : State) (x : ℕ) (y : CollCtx) : (s.setCtx x y).pending = s.pending := rfl
@[simp] theorem State.setCtx_outbox (s : State) (x : ℕ) (y : CollCtx) : (s.setCtx x y).outbox = s.outbox := rfl
@[simp] theorem State.setCtx_up (s : State) (x : ℕ) (y : CollCtx) : (s.setCtx x y).up = s.up := rfl
@[simp] theorem State.setCtx_freeN (s : State) (x : ℕ) (y : CollCtx) : (s.setCtx x y).freeN = s.freeN := rfl
@[simp] theorem State.setCtx_od (s : State) (x : ℕ) (y : CollCtx) : (s.setCtx x y).od = s.od := rfl
@[simp] theorem State.setCtx_tr (s : State) (x : ℕ) (y : CollCtx) : (s.setCtx x y).tr = s.tr := rfl
@[simp] theorem State.setCtx_time (s : State) (x : ℕ) (y : CollCtx) : (s.setCtx x y).time = s.time := rfl
@[simp] theorem State.setCtx_pool (s : State) (x : ℕ) (y : CollCtx) : (s.setCtx x y).pool = s.pool := rfl
@[simp] theorem State.setCtx_coh (s : State) (x : ℕ) (y : CollCtx) : (s.setCtx x y).coh = s.coh := rfl
@[simp] theorem State.setCtx_flt (s : State) (x : ℕ) (y : CollCtx) : (s.setCtx x y).flt = s.flt := rfl
@[simp] theorem State.setCtx_cpu (s : State) (x : ℕ) (y : CollCtx) : (s.setCtx x y).cpu = s.cpu := rfl
@[simp] theorem State.setCtx_sw (s : State) (x : ℕ) (y : CollCtx) : (s.setCtx x y).sw = s.sw := rfl
@[simp] theorem State.setCtx_tm (s : State) (x : ℕ) (y : CollCtx) : (s.setCtx x y).tm = s.tm := rfl
@[simp] theorem State.setCtx_ports (s : State) (x : ℕ) (y : CollCtx) : (s.setCtx x y).ports = s.ports := rfl
@[simp] theorem State.setCtx_mt (s : State) (x : ℕ) (y : CollCtx) : (s.setCtx x y).mt = s.mt := rfl
@[simp] theorem State.setCtx_own (s : State) (x : ℕ) (y : CollCtx) : (s.setCtx x y).own = s.own := rfl
@[simp] theorem State.setCtx_nand (s : State) (x : ℕ) (y : CollCtx) : (s.setCtx x y).nand = s.nand := rfl
@[simp] theorem State.setCtx_sec (s : State) (x : ℕ) (y : CollCtx) : (s.setCtx x y).sec = s.sec := rfl
@[simp] theorem State.setCtx_mg (s : State) (x : ℕ) (y : CollCtx) : (s.setCtx x y).mg = s.mg := rfl
@[simp] theorem State.setCtx_pwr (s : State) (x : ℕ) (y : CollCtx) : (s.setCtx x y).pwr = s.pwr := rfl
@[simp] theorem State.setCtx_pins (s : State) (x : ℕ) (y : CollCtx) : (s.setCtx x y).pins = s.pins := rfl
@[simp] theorem State.setCtx_dbg (s : State) (x : ℕ) (y : CollCtx) : (s.setCtx x y).dbg = s.dbg := rfl
@[simp] theorem State.setProf_pending (s : State) (x : ℕ) (y : Profile) : (s.setProf x y).pending = s.pending := rfl
@[simp] theorem State.setProf_outbox (s : State) (x : ℕ) (y : Profile) : (s.setProf x y).outbox = s.outbox := rfl
@[simp] theorem State.setProf_up (s : State) (x : ℕ) (y : Profile) : (s.setProf x y).up = s.up := rfl
@[simp] theorem State.setProf_freeN (s : State) (x : ℕ) (y : Profile) : (s.setProf x y).freeN = s.freeN := rfl
@[simp] theorem State.setProf_od (s : State) (x : ℕ) (y : Profile) : (s.setProf x y).od = s.od := rfl
@[simp] theorem State.setProf_tr (s : State) (x : ℕ) (y : Profile) : (s.setProf x y).tr = s.tr := rfl
@[simp] theorem State.setProf_time (s : State) (x : ℕ) (y : Profile) : (s.setProf x y).time = s.time := rfl
@[simp] theorem State.setProf_pool (s : State) (x : ℕ) (y : Profile) : (s.setProf x y).pool = s.pool := rfl
@[simp] theorem State.setProf_coh (s : State) (x : ℕ) (y : Profile) : (s.setProf x y).coh = s.coh := rfl
@[simp] theorem State.setProf_flt (s : State) (x : ℕ) (y : Profile) : (s.setProf x y).flt = s.flt := rfl
@[simp] theorem State.setProf_cpu (s : State) (x : ℕ) (y : Profile) : (s.setProf x y).cpu = s.cpu := rfl
@[simp] theorem State.setProf_sw (s : State) (x : ℕ) (y : Profile) : (s.setProf x y).sw = s.sw := rfl
@[simp] theorem State.setProf_tm (s : State) (x : ℕ) (y : Profile) : (s.setProf x y).tm = s.tm := rfl
@[simp] theorem State.setProf_ports (s : State) (x : ℕ) (y : Profile) : (s.setProf x y).ports = s.ports := rfl
@[simp] theorem State.setProf_mt (s : State) (x : ℕ) (y : Profile) : (s.setProf x y).mt = s.mt := rfl
@[simp] theorem State.setProf_co (s : State) (x : ℕ) (y : Profile) : (s.setProf x y).co = s.co := rfl
@[simp] theorem State.setProf_own (s : State) (x : ℕ) (y : Profile) : (s.setProf x y).own = s.own := rfl
@[simp] theorem State.setProf_nand (s : State) (x : ℕ) (y : Profile) : (s.setProf x y).nand = s.nand := rfl
@[simp] theorem State.setProf_sec (s : State) (x : ℕ) (y : Profile) : (s.setProf x y).sec = s.sec := rfl
@[simp] theorem State.setProf_mg (s : State) (x : ℕ) (y : Profile) : (s.setProf x y).mg = s.mg := rfl
@[simp] theorem State.setProf_pwr (s : State) (x : ℕ) (y : Profile) : (s.setProf x y).pwr = s.pwr := rfl
@[simp] theorem State.setProf_pins (s : State) (x : ℕ) (y : Profile) : (s.setProf x y).pins = s.pins := rfl
@[simp] theorem State.setGran_pending (s : State) (x y : ℕ) (z : Gran) : (s.setGran x y z).pending = s.pending := rfl
@[simp] theorem State.setGran_outbox (s : State) (x y : ℕ) (z : Gran) : (s.setGran x y z).outbox = s.outbox := rfl
@[simp] theorem State.setGran_up (s : State) (x y : ℕ) (z : Gran) : (s.setGran x y z).up = s.up := rfl
@[simp] theorem State.setGran_freeN (s : State) (x y : ℕ) (z : Gran) : (s.setGran x y z).freeN = s.freeN := rfl
@[simp] theorem State.setGran_od (s : State) (x y : ℕ) (z : Gran) : (s.setGran x y z).od = s.od := rfl
@[simp] theorem State.setGran_tr (s : State) (x y : ℕ) (z : Gran) : (s.setGran x y z).tr = s.tr := rfl
@[simp] theorem State.setGran_time (s : State) (x y : ℕ) (z : Gran) : (s.setGran x y z).time = s.time := rfl
@[simp] theorem State.setGran_coh (s : State) (x y : ℕ) (z : Gran) : (s.setGran x y z).coh = s.coh := rfl
@[simp] theorem State.setGran_flt (s : State) (x y : ℕ) (z : Gran) : (s.setGran x y z).flt = s.flt := rfl
@[simp] theorem State.setGran_cpu (s : State) (x y : ℕ) (z : Gran) : (s.setGran x y z).cpu = s.cpu := rfl
@[simp] theorem State.setGran_sw (s : State) (x y : ℕ) (z : Gran) : (s.setGran x y z).sw = s.sw := rfl
@[simp] theorem State.setGran_tm (s : State) (x y : ℕ) (z : Gran) : (s.setGran x y z).tm = s.tm := rfl
@[simp] theorem State.setGran_ports (s : State) (x y : ℕ) (z : Gran) : (s.setGran x y z).ports = s.ports := rfl
@[simp] theorem State.setGran_mt (s : State) (x y : ℕ) (z : Gran) : (s.setGran x y z).mt = s.mt := rfl
@[simp] theorem State.setGran_co (s : State) (x y : ℕ) (z : Gran) : (s.setGran x y z).co = s.co := rfl
@[simp] theorem State.setGran_own (s : State) (x y : ℕ) (z : Gran) : (s.setGran x y z).own = s.own := rfl
@[simp] theorem State.setGran_nand (s : State) (x y : ℕ) (z : Gran) : (s.setGran x y z).nand = s.nand := rfl
@[simp] theorem State.setGran_sec (s : State) (x y : ℕ) (z : Gran) : (s.setGran x y z).sec = s.sec := rfl
@[simp] theorem State.setGran_mg (s : State) (x y : ℕ) (z : Gran) : (s.setGran x y z).mg = s.mg := rfl
@[simp] theorem State.setGran_pwr (s : State) (x y : ℕ) (z : Gran) : (s.setGran x y z).pwr = s.pwr := rfl
@[simp] theorem State.setGran_pins (s : State) (x y : ℕ) (z : Gran) : (s.setGran x y z).pins = s.pins := rfl
@[simp] theorem State.setGran_dbg (s : State) (x y : ℕ) (z : Gran) : (s.setGran x y z).dbg = s.dbg := rfl
@[simp] theorem State.setFrame_pending (s : State) (x : ℕ) (y : CacheFrame) : (s.setFrame x y).pending = s.pending := rfl
@[simp] theorem State.setFrame_outbox (s : State) (x : ℕ) (y : CacheFrame) : (s.setFrame x y).outbox = s.outbox := rfl
@[simp] theorem State.setFrame_up (s : State) (x : ℕ) (y : CacheFrame) : (s.setFrame x y).up = s.up := rfl
@[simp] theorem State.setFrame_freeN (s : State) (x : ℕ) (y : CacheFrame) : (s.setFrame x y).freeN = s.freeN := rfl
@[simp] theorem State.setFrame_od (s : State) (x : ℕ) (y : CacheFrame) : (s.setFrame x y).od = s.od := rfl
@[simp] theorem State.setFrame_tr (s : State) (x : ℕ) (y : CacheFrame) : (s.setFrame x y).tr = s.tr := rfl
@[simp] theorem State.setFrame_time (s : State) (x : ℕ) (y : CacheFrame) : (s.setFrame x y).time = s.time := rfl
@[simp] theorem State.setFrame_coh (s : State) (x : ℕ) (y : CacheFrame) : (s.setFrame x y).coh = s.coh := rfl
@[simp] theorem State.setFrame_flt (s : State) (x : ℕ) (y : CacheFrame) : (s.setFrame x y).flt = s.flt := rfl
@[simp] theorem State.setFrame_cpu (s : State) (x : ℕ) (y : CacheFrame) : (s.setFrame x y).cpu = s.cpu := rfl
@[simp] theorem State.setFrame_sw (s : State) (x : ℕ) (y : CacheFrame) : (s.setFrame x y).sw = s.sw := rfl
@[simp] theorem State.setFrame_tm (s : State) (x : ℕ) (y : CacheFrame) : (s.setFrame x y).tm = s.tm := rfl
@[simp] theorem State.setFrame_ports (s : State) (x : ℕ) (y : CacheFrame) : (s.setFrame x y).ports = s.ports := rfl
@[simp] theorem State.setFrame_mt (s : State) (x : ℕ) (y : CacheFrame) : (s.setFrame x y).mt = s.mt := rfl
@[simp] theorem State.setFrame_co (s : State) (x : ℕ) (y : CacheFrame) : (s.setFrame x y).co = s.co := rfl
@[simp] theorem State.setFrame_own (s : State) (x : ℕ) (y : CacheFrame) : (s.setFrame x y).own = s.own := rfl
@[simp] theorem State.setFrame_nand (s : State) (x : ℕ) (y : CacheFrame) : (s.setFrame x y).nand = s.nand := rfl
@[simp] theorem State.setFrame_sec (s : State) (x : ℕ) (y : CacheFrame) : (s.setFrame x y).sec = s.sec := rfl
@[simp] theorem State.setFrame_mg (s : State) (x : ℕ) (y : CacheFrame) : (s.setFrame x y).mg = s.mg := rfl
@[simp] theorem State.setFrame_pwr (s : State) (x : ℕ) (y : CacheFrame) : (s.setFrame x y).pwr = s.pwr := rfl
@[simp] theorem State.setFrame_pins (s : State) (x : ℕ) (y : CacheFrame) : (s.setFrame x y).pins = s.pins := rfl
@[simp] theorem State.setFrame_dbg (s : State) (x : ℕ) (y : CacheFrame) : (s.setFrame x y).dbg = s.dbg := rfl
@[simp] theorem State.setDir_pending (s : State) (x : ℕ) (y : DirEntry) : (s.setDir x y).pending = s.pending := rfl
@[simp] theorem State.setDir_outbox (s : State) (x : ℕ) (y : DirEntry) : (s.setDir x y).outbox = s.outbox := rfl
@[simp] theorem State.setDir_up (s : State) (x : ℕ) (y : DirEntry) : (s.setDir x y).up = s.up := rfl
@[simp] theorem State.setDir_freeN (s : State) (x : ℕ) (y : DirEntry) : (s.setDir x y).freeN = s.freeN := rfl
@[simp] theorem State.setDir_od (s : State) (x : ℕ) (y : DirEntry) : (s.setDir x y).od = s.od := rfl
@[simp] theorem State.setDir_tr (s : State) (x : ℕ) (y : DirEntry) : (s.setDir x y).tr = s.tr := rfl
@[simp] theorem State.setDir_time (s : State) (x : ℕ) (y : DirEntry) : (s.setDir x y).time = s.time := rfl
@[simp] theorem State.setDir_pool (s : State) (x : ℕ) (y : DirEntry) : (s.setDir x y).pool = s.pool := rfl
@[simp] theorem State.setDir_flt (s : State) (x : ℕ) (y : DirEntry) : (s.setDir x y).flt = s.flt := rfl
@[simp] theorem State.setDir_cpu (s : State) (x : ℕ) (y : DirEntry) : (s.setDir x y).cpu = s.cpu := rfl
@[simp] theorem State.setDir_sw (s : State) (x : ℕ) (y : DirEntry) : (s.setDir x y).sw = s.sw := rfl
@[simp] theorem State.setDir_tm (s : State) (x : ℕ) (y : DirEntry) : (s.setDir x y).tm = s.tm := rfl
@[simp] theorem State.setDir_ports (s : State) (x : ℕ) (y : DirEntry) : (s.setDir x y).ports = s.ports := rfl
@[simp] theorem State.setDir_mt (s : State) (x : ℕ) (y : DirEntry) : (s.setDir x y).mt = s.mt := rfl
@[simp] theorem State.setDir_co (s : State) (x : ℕ) (y : DirEntry) : (s.setDir x y).co = s.co := rfl
@[simp] theorem State.setDir_own (s : State) (x : ℕ) (y : DirEntry) : (s.setDir x y).own = s.own := rfl
@[simp] theorem State.setDir_nand (s : State) (x : ℕ) (y : DirEntry) : (s.setDir x y).nand = s.nand := rfl
@[simp] theorem State.setDir_sec (s : State) (x : ℕ) (y : DirEntry) : (s.setDir x y).sec = s.sec := rfl
@[simp] theorem State.setDir_mg (s : State) (x : ℕ) (y : DirEntry) : (s.setDir x y).mg = s.mg := rfl
@[simp] theorem State.setDir_pwr (s : State) (x : ℕ) (y : DirEntry) : (s.setDir x y).pwr = s.pwr := rfl
@[simp] theorem State.setDir_pins (s : State) (x : ℕ) (y : DirEntry) : (s.setDir x y).pins = s.pins := rfl
@[simp] theorem State.setDir_dbg (s : State) (x : ℕ) (y : DirEntry) : (s.setDir x y).dbg = s.dbg := rfl
@[simp] theorem State.setHeld_pending (s : State) (x y : ℕ) (z : Option AgentLine) : (s.setHeld x y z).pending = s.pending := rfl
@[simp] theorem State.setHeld_outbox (s : State) (x y : ℕ) (z : Option AgentLine) : (s.setHeld x y z).outbox = s.outbox := rfl
@[simp] theorem State.setHeld_up (s : State) (x y : ℕ) (z : Option AgentLine) : (s.setHeld x y z).up = s.up := rfl
@[simp] theorem State.setHeld_freeN (s : State) (x y : ℕ) (z : Option AgentLine) : (s.setHeld x y z).freeN = s.freeN := rfl
@[simp] theorem State.setHeld_od (s : State) (x y : ℕ) (z : Option AgentLine) : (s.setHeld x y z).od = s.od := rfl
@[simp] theorem State.setHeld_tr (s : State) (x y : ℕ) (z : Option AgentLine) : (s.setHeld x y z).tr = s.tr := rfl
@[simp] theorem State.setHeld_time (s : State) (x y : ℕ) (z : Option AgentLine) : (s.setHeld x y z).time = s.time := rfl
@[simp] theorem State.setHeld_pool (s : State) (x y : ℕ) (z : Option AgentLine) : (s.setHeld x y z).pool = s.pool := rfl
@[simp] theorem State.setHeld_flt (s : State) (x y : ℕ) (z : Option AgentLine) : (s.setHeld x y z).flt = s.flt := rfl
@[simp] theorem State.setHeld_cpu (s : State) (x y : ℕ) (z : Option AgentLine) : (s.setHeld x y z).cpu = s.cpu := rfl
@[simp] theorem State.setHeld_sw (s : State) (x y : ℕ) (z : Option AgentLine) : (s.setHeld x y z).sw = s.sw := rfl
@[simp] theorem State.setHeld_tm (s : State) (x y : ℕ) (z : Option AgentLine) : (s.setHeld x y z).tm = s.tm := rfl
@[simp] theorem State.setHeld_ports (s : State) (x y : ℕ) (z : Option AgentLine) : (s.setHeld x y z).ports = s.ports := rfl
@[simp] theorem State.setHeld_mt (s : State) (x y : ℕ) (z : Option AgentLine) : (s.setHeld x y z).mt = s.mt := rfl
@[simp] theorem State.setHeld_co (s : State) (x y : ℕ) (z : Option AgentLine) : (s.setHeld x y z).co = s.co := rfl
@[simp] theorem State.setHeld_own (s : State) (x y : ℕ) (z : Option AgentLine) : (s.setHeld x y z).own = s.own := rfl
@[simp] theorem State.setHeld_nand (s : State) (x y : ℕ) (z : Option AgentLine) : (s.setHeld x y z).nand = s.nand := rfl
@[simp] theorem State.setHeld_sec (s : State) (x y : ℕ) (z : Option AgentLine) : (s.setHeld x y z).sec = s.sec := rfl
@[simp] theorem State.setHeld_mg (s : State) (x y : ℕ) (z : Option AgentLine) : (s.setHeld x y z).mg = s.mg := rfl
@[simp] theorem State.setHeld_pwr (s : State) (x y : ℕ) (z : Option AgentLine) : (s.setHeld x y z).pwr = s.pwr := rfl
@[simp] theorem State.setHeld_pins (s : State) (x y : ℕ) (z : Option AgentLine) : (s.setHeld x y z).pins = s.pins := rfl
@[simp] theorem State.setHeld_dbg (s : State) (x y : ℕ) (z : Option AgentLine) : (s.setHeld x y z).dbg = s.dbg := rfl
@[simp] theorem State.setTxn_pending (s : State) (x : LineTxn) : (s.setTxn x).pending = s.pending := rfl
@[simp] theorem State.setTxn_outbox (s : State) (x : LineTxn) : (s.setTxn x).outbox = s.outbox := rfl
@[simp] theorem State.setTxn_up (s : State) (x : LineTxn) : (s.setTxn x).up = s.up := rfl
@[simp] theorem State.setTxn_freeN (s : State) (x : LineTxn) : (s.setTxn x).freeN = s.freeN := rfl
@[simp] theorem State.setTxn_od (s : State) (x : LineTxn) : (s.setTxn x).od = s.od := rfl
@[simp] theorem State.setTxn_tr (s : State) (x : LineTxn) : (s.setTxn x).tr = s.tr := rfl
@[simp] theorem State.setTxn_time (s : State) (x : LineTxn) : (s.setTxn x).time = s.time := rfl
@[simp] theorem State.setTxn_pool (s : State) (x : LineTxn) : (s.setTxn x).pool = s.pool := rfl
@[simp] theorem State.setTxn_flt (s : State) (x : LineTxn) : (s.setTxn x).flt = s.flt := rfl
@[simp] theorem State.setTxn_cpu (s : State) (x : LineTxn) : (s.setTxn x).cpu = s.cpu := rfl
@[simp] theorem State.setTxn_sw (s : State) (x : LineTxn) : (s.setTxn x).sw = s.sw := rfl
@[simp] theorem State.setTxn_tm (s : State) (x : LineTxn) : (s.setTxn x).tm = s.tm := rfl
@[simp] theorem State.setTxn_ports (s : State) (x : LineTxn) : (s.setTxn x).ports = s.ports := rfl
@[simp] theorem State.setTxn_mt (s : State) (x : LineTxn) : (s.setTxn x).mt = s.mt := rfl
@[simp] theorem State.setTxn_co (s : State) (x : LineTxn) : (s.setTxn x).co = s.co := rfl
@[simp] theorem State.setTxn_own (s : State) (x : LineTxn) : (s.setTxn x).own = s.own := rfl
@[simp] theorem State.setTxn_nand (s : State) (x : LineTxn) : (s.setTxn x).nand = s.nand := rfl
@[simp] theorem State.setTxn_sec (s : State) (x : LineTxn) : (s.setTxn x).sec = s.sec := rfl
@[simp] theorem State.setTxn_mg (s : State) (x : LineTxn) : (s.setTxn x).mg = s.mg := rfl
@[simp] theorem State.setTxn_pwr (s : State) (x : LineTxn) : (s.setTxn x).pwr = s.pwr := rfl
@[simp] theorem State.setTxn_pins (s : State) (x : LineTxn) : (s.setTxn x).pins = s.pins := rfl
@[simp] theorem State.setTxn_dbg (s : State) (x : LineTxn) : (s.setTxn x).dbg = s.dbg := rfl
@[simp] theorem State.dropTxn_pending (s : State) (x : ℕ) : (s.dropTxn x).pending = s.pending := rfl
@[simp] theorem State.dropTxn_outbox (s : State) (x : ℕ) : (s.dropTxn x).outbox = s.outbox := rfl
@[simp] theorem State.dropTxn_up (s : State) (x : ℕ) : (s.dropTxn x).up = s.up := rfl
@[simp] theorem State.dropTxn_freeN (s : State) (x : ℕ) : (s.dropTxn x).freeN = s.freeN := rfl
@[simp] theorem State.dropTxn_od (s : State) (x : ℕ) : (s.dropTxn x).od = s.od := rfl
@[simp] theorem State.dropTxn_tr (s : State) (x : ℕ) : (s.dropTxn x).tr = s.tr := rfl
@[simp] theorem State.dropTxn_time (s : State) (x : ℕ) : (s.dropTxn x).time = s.time := rfl
@[simp] theorem State.dropTxn_pool (s : State) (x : ℕ) : (s.dropTxn x).pool = s.pool := rfl
@[simp] theorem State.dropTxn_flt (s : State) (x : ℕ) : (s.dropTxn x).flt = s.flt := rfl
@[simp] theorem State.dropTxn_cpu (s : State) (x : ℕ) : (s.dropTxn x).cpu = s.cpu := rfl
@[simp] theorem State.dropTxn_sw (s : State) (x : ℕ) : (s.dropTxn x).sw = s.sw := rfl
@[simp] theorem State.dropTxn_tm (s : State) (x : ℕ) : (s.dropTxn x).tm = s.tm := rfl
@[simp] theorem State.dropTxn_ports (s : State) (x : ℕ) : (s.dropTxn x).ports = s.ports := rfl
@[simp] theorem State.dropTxn_mt (s : State) (x : ℕ) : (s.dropTxn x).mt = s.mt := rfl
@[simp] theorem State.dropTxn_co (s : State) (x : ℕ) : (s.dropTxn x).co = s.co := rfl
@[simp] theorem State.dropTxn_own (s : State) (x : ℕ) : (s.dropTxn x).own = s.own := rfl
@[simp] theorem State.dropTxn_nand (s : State) (x : ℕ) : (s.dropTxn x).nand = s.nand := rfl
@[simp] theorem State.dropTxn_sec (s : State) (x : ℕ) : (s.dropTxn x).sec = s.sec := rfl
@[simp] theorem State.dropTxn_mg (s : State) (x : ℕ) : (s.dropTxn x).mg = s.mg := rfl
@[simp] theorem State.dropTxn_pwr (s : State) (x : ℕ) : (s.dropTxn x).pwr = s.pwr := rfl
@[simp] theorem State.dropTxn_pins (s : State) (x : ℕ) : (s.dropTxn x).pins = s.pins := rfl
@[simp] theorem State.dropTxn_dbg (s : State) (x : ℕ) : (s.dropTxn x).dbg = s.dbg := rfl
@[simp] theorem State.addTxn_pending (s : State) (x : LineTxn) : (s.addTxn x).pending = s.pending := rfl
@[simp] theorem State.addTxn_outbox (s : State) (x : LineTxn) : (s.addTxn x).outbox = s.outbox := rfl
@[simp] theorem State.addTxn_up (s : State) (x : LineTxn) : (s.addTxn x).up = s.up := rfl
@[simp] theorem State.addTxn_freeN (s : State) (x : LineTxn) : (s.addTxn x).freeN = s.freeN := rfl
@[simp] theorem State.addTxn_od (s : State) (x : LineTxn) : (s.addTxn x).od = s.od := rfl
@[simp] theorem State.addTxn_tr (s : State) (x : LineTxn) : (s.addTxn x).tr = s.tr := rfl
@[simp] theorem State.addTxn_time (s : State) (x : LineTxn) : (s.addTxn x).time = s.time := rfl
@[simp] theorem State.addTxn_pool (s : State) (x : LineTxn) : (s.addTxn x).pool = s.pool := rfl
@[simp] theorem State.addTxn_flt (s : State) (x : LineTxn) : (s.addTxn x).flt = s.flt := rfl
@[simp] theorem State.addTxn_cpu (s : State) (x : LineTxn) : (s.addTxn x).cpu = s.cpu := rfl
@[simp] theorem State.addTxn_sw (s : State) (x : LineTxn) : (s.addTxn x).sw = s.sw := rfl
@[simp] theorem State.addTxn_tm (s : State) (x : LineTxn) : (s.addTxn x).tm = s.tm := rfl
@[simp] theorem State.addTxn_ports (s : State) (x : LineTxn) : (s.addTxn x).ports = s.ports := rfl
@[simp] theorem State.addTxn_mt (s : State) (x : LineTxn) : (s.addTxn x).mt = s.mt := rfl
@[simp] theorem State.addTxn_co (s : State) (x : LineTxn) : (s.addTxn x).co = s.co := rfl
@[simp] theorem State.addTxn_own (s : State) (x : LineTxn) : (s.addTxn x).own = s.own := rfl
@[simp] theorem State.addTxn_nand (s : State) (x : LineTxn) : (s.addTxn x).nand = s.nand := rfl
@[simp] theorem State.addTxn_sec (s : State) (x : LineTxn) : (s.addTxn x).sec = s.sec := rfl
@[simp] theorem State.addTxn_mg (s : State) (x : LineTxn) : (s.addTxn x).mg = s.mg := rfl
@[simp] theorem State.addTxn_pwr (s : State) (x : LineTxn) : (s.addTxn x).pwr = s.pwr := rfl
@[simp] theorem State.addTxn_pins (s : State) (x : LineTxn) : (s.addTxn x).pins = s.pins := rfl
@[simp] theorem State.addTxn_dbg (s : State) (x : LineTxn) : (s.addTxn x).dbg = s.dbg := rfl
@[simp] theorem State.setRut_pending (s : State) (x : RutLine) : (s.setRut x).pending = s.pending := rfl
@[simp] theorem State.setRut_outbox (s : State) (x : RutLine) : (s.setRut x).outbox = s.outbox := rfl
@[simp] theorem State.setRut_up (s : State) (x : RutLine) : (s.setRut x).up = s.up := rfl
@[simp] theorem State.setRut_freeN (s : State) (x : RutLine) : (s.setRut x).freeN = s.freeN := rfl
@[simp] theorem State.setRut_od (s : State) (x : RutLine) : (s.setRut x).od = s.od := rfl
@[simp] theorem State.setRut_tr (s : State) (x : RutLine) : (s.setRut x).tr = s.tr := rfl
@[simp] theorem State.setRut_time (s : State) (x : RutLine) : (s.setRut x).time = s.time := rfl
@[simp] theorem State.setRut_pool (s : State) (x : RutLine) : (s.setRut x).pool = s.pool := rfl
@[simp] theorem State.setRut_flt (s : State) (x : RutLine) : (s.setRut x).flt = s.flt := rfl
@[simp] theorem State.setRut_cpu (s : State) (x : RutLine) : (s.setRut x).cpu = s.cpu := rfl
@[simp] theorem State.setRut_sw (s : State) (x : RutLine) : (s.setRut x).sw = s.sw := rfl
@[simp] theorem State.setRut_tm (s : State) (x : RutLine) : (s.setRut x).tm = s.tm := rfl
@[simp] theorem State.setRut_ports (s : State) (x : RutLine) : (s.setRut x).ports = s.ports := rfl
@[simp] theorem State.setRut_mt (s : State) (x : RutLine) : (s.setRut x).mt = s.mt := rfl
@[simp] theorem State.setRut_co (s : State) (x : RutLine) : (s.setRut x).co = s.co := rfl
@[simp] theorem State.setRut_own (s : State) (x : RutLine) : (s.setRut x).own = s.own := rfl
@[simp] theorem State.setRut_nand (s : State) (x : RutLine) : (s.setRut x).nand = s.nand := rfl
@[simp] theorem State.setRut_sec (s : State) (x : RutLine) : (s.setRut x).sec = s.sec := rfl
@[simp] theorem State.setRut_mg (s : State) (x : RutLine) : (s.setRut x).mg = s.mg := rfl
@[simp] theorem State.setRut_pwr (s : State) (x : RutLine) : (s.setRut x).pwr = s.pwr := rfl
@[simp] theorem State.setRut_pins (s : State) (x : RutLine) : (s.setRut x).pins = s.pins := rfl
@[simp] theorem State.setRut_dbg (s : State) (x : RutLine) : (s.setRut x).dbg = s.dbg := rfl
@[simp] theorem State.setLink_pending (s : State) (x : ℕ) (y : LinkState) : (s.setLink x y).pending = s.pending := rfl
@[simp] theorem State.setLink_outbox (s : State) (x : ℕ) (y : LinkState) : (s.setLink x y).outbox = s.outbox := rfl
@[simp] theorem State.setLink_up (s : State) (x : ℕ) (y : LinkState) : (s.setLink x y).up = s.up := rfl
@[simp] theorem State.setLink_freeN (s : State) (x : ℕ) (y : LinkState) : (s.setLink x y).freeN = s.freeN := rfl
@[simp] theorem State.setLink_od (s : State) (x : ℕ) (y : LinkState) : (s.setLink x y).od = s.od := rfl
@[simp] theorem State.setLink_time (s : State) (x : ℕ) (y : LinkState) : (s.setLink x y).time = s.time := rfl
@[simp] theorem State.setLink_pool (s : State) (x : ℕ) (y : LinkState) : (s.setLink x y).pool = s.pool := rfl
@[simp] theorem State.setLink_coh (s : State) (x : ℕ) (y : LinkState) : (s.setLink x y).coh = s.coh := rfl
@[simp] theorem State.setLink_flt (s : State) (x : ℕ) (y : LinkState) : (s.setLink x y).flt = s.flt := rfl
@[simp] theorem State.setLink_cpu (s : State) (x : ℕ) (y : LinkState) : (s.setLink x y).cpu = s.cpu := rfl
@[simp] theorem State.setLink_sw (s : State) (x : ℕ) (y : LinkState) : (s.setLink x y).sw = s.sw := rfl
@[simp] theorem State.setLink_tm (s : State) (x : ℕ) (y : LinkState) : (s.setLink x y).tm = s.tm := rfl
@[simp] theorem State.setLink_ports (s : State) (x : ℕ) (y : LinkState) : (s.setLink x y).ports = s.ports := rfl
@[simp] theorem State.setLink_mt (s : State) (x : ℕ) (y : LinkState) : (s.setLink x y).mt = s.mt := rfl
@[simp] theorem State.setLink_co (s : State) (x : ℕ) (y : LinkState) : (s.setLink x y).co = s.co := rfl
@[simp] theorem State.setLink_own (s : State) (x : ℕ) (y : LinkState) : (s.setLink x y).own = s.own := rfl
@[simp] theorem State.setLink_nand (s : State) (x : ℕ) (y : LinkState) : (s.setLink x y).nand = s.nand := rfl
@[simp] theorem State.setLink_sec (s : State) (x : ℕ) (y : LinkState) : (s.setLink x y).sec = s.sec := rfl
@[simp] theorem State.setLink_mg (s : State) (x : ℕ) (y : LinkState) : (s.setLink x y).mg = s.mg := rfl
@[simp] theorem State.setLink_pwr (s : State) (x : ℕ) (y : LinkState) : (s.setLink x y).pwr = s.pwr := rfl
@[simp] theorem State.setLink_pins (s : State) (x : ℕ) (y : LinkState) : (s.setLink x y).pins = s.pins := rfl
@[simp] theorem State.setLink_dbg (s : State) (x : ℕ) (y : LinkState) : (s.setLink x y).dbg = s.dbg := rfl
@[simp] theorem State.setTraining_pending (s : State) (x : ℕ) (y : Training) : (s.setTraining x y).pending = s.pending := rfl
@[simp] theorem State.setTraining_outbox (s : State) (x : ℕ) (y : Training) : (s.setTraining x y).outbox = s.outbox := rfl
@[simp] theorem State.setTraining_up (s : State) (x : ℕ) (y : Training) : (s.setTraining x y).up = s.up := rfl
@[simp] theorem State.setTraining_freeN (s : State) (x : ℕ) (y : Training) : (s.setTraining x y).freeN = s.freeN := rfl
@[simp] theorem State.setTraining_od (s : State) (x : ℕ) (y : Training) : (s.setTraining x y).od = s.od := rfl
@[simp] theorem State.setTraining_tr (s : State) (x : ℕ) (y : Training) : (s.setTraining x y).tr = s.tr := rfl
@[simp] theorem State.setTraining_time (s : State) (x : ℕ) (y : Training) : (s.setTraining x y).time = s.time := rfl
@[simp] theorem State.setTraining_pool (s : State) (x : ℕ) (y : Training) : (s.setTraining x y).pool = s.pool := rfl
@[simp] theorem State.setTraining_coh (s : State) (x : ℕ) (y : Training) : (s.setTraining x y).coh = s.coh := rfl
@[simp] theorem State.setTraining_flt (s : State) (x : ℕ) (y : Training) : (s.setTraining x y).flt = s.flt := rfl
@[simp] theorem State.setTraining_cpu (s : State) (x : ℕ) (y : Training) : (s.setTraining x y).cpu = s.cpu := rfl
@[simp] theorem State.setTraining_sw (s : State) (x : ℕ) (y : Training) : (s.setTraining x y).sw = s.sw := rfl
@[simp] theorem State.setTraining_tm (s : State) (x : ℕ) (y : Training) : (s.setTraining x y).tm = s.tm := rfl
@[simp] theorem State.setTraining_mt (s : State) (x : ℕ) (y : Training) : (s.setTraining x y).mt = s.mt := rfl
@[simp] theorem State.setTraining_co (s : State) (x : ℕ) (y : Training) : (s.setTraining x y).co = s.co := rfl
@[simp] theorem State.setTraining_own (s : State) (x : ℕ) (y : Training) : (s.setTraining x y).own = s.own := rfl
@[simp] theorem State.setTraining_nand (s : State) (x : ℕ) (y : Training) : (s.setTraining x y).nand = s.nand := rfl
@[simp] theorem State.setTraining_sec (s : State) (x : ℕ) (y : Training) : (s.setTraining x y).sec = s.sec := rfl
@[simp] theorem State.setTraining_mg (s : State) (x : ℕ) (y : Training) : (s.setTraining x y).mg = s.mg := rfl
@[simp] theorem State.setTraining_pwr (s : State) (x : ℕ) (y : Training) : (s.setTraining x y).pwr = s.pwr := rfl
@[simp] theorem State.setTraining_pins (s : State) (x : ℕ) (y : Training) : (s.setTraining x y).pins = s.pins := rfl
@[simp] theorem State.setTraining_dbg (s : State) (x : ℕ) (y : Training) : (s.setTraining x y).dbg = s.dbg := rfl
@[simp] theorem State.setTimex_pending (s : State) (x : ℕ) (y : TimexState) : (s.setTimex x y).pending = s.pending := rfl
@[simp] theorem State.setTimex_outbox (s : State) (x : ℕ) (y : TimexState) : (s.setTimex x y).outbox = s.outbox := rfl
@[simp] theorem State.setTimex_up (s : State) (x : ℕ) (y : TimexState) : (s.setTimex x y).up = s.up := rfl
@[simp] theorem State.setTimex_freeN (s : State) (x : ℕ) (y : TimexState) : (s.setTimex x y).freeN = s.freeN := rfl
@[simp] theorem State.setTimex_od (s : State) (x : ℕ) (y : TimexState) : (s.setTimex x y).od = s.od := rfl
@[simp] theorem State.setTimex_time (s : State) (x : ℕ) (y : TimexState) : (s.setTimex x y).time = s.time := rfl
@[simp] theorem State.setTimex_pool (s : State) (x : ℕ) (y : TimexState) : (s.setTimex x y).pool = s.pool := rfl
@[simp] theorem State.setTimex_coh (s : State) (x : ℕ) (y : TimexState) : (s.setTimex x y).coh = s.coh := rfl
@[simp] theorem State.setTimex_flt (s : State) (x : ℕ) (y : TimexState) : (s.setTimex x y).flt = s.flt := rfl
@[simp] theorem State.setTimex_cpu (s : State) (x : ℕ) (y : TimexState) : (s.setTimex x y).cpu = s.cpu := rfl
@[simp] theorem State.setTimex_sw (s : State) (x : ℕ) (y : TimexState) : (s.setTimex x y).sw = s.sw := rfl
@[simp] theorem State.setTimex_tm (s : State) (x : ℕ) (y : TimexState) : (s.setTimex x y).tm = s.tm := rfl
@[simp] theorem State.setTimex_ports (s : State) (x : ℕ) (y : TimexState) : (s.setTimex x y).ports = s.ports := rfl
@[simp] theorem State.setTimex_mt (s : State) (x : ℕ) (y : TimexState) : (s.setTimex x y).mt = s.mt := rfl
@[simp] theorem State.setTimex_co (s : State) (x : ℕ) (y : TimexState) : (s.setTimex x y).co = s.co := rfl
@[simp] theorem State.setTimex_own (s : State) (x : ℕ) (y : TimexState) : (s.setTimex x y).own = s.own := rfl
@[simp] theorem State.setTimex_nand (s : State) (x : ℕ) (y : TimexState) : (s.setTimex x y).nand = s.nand := rfl
@[simp] theorem State.setTimex_sec (s : State) (x : ℕ) (y : TimexState) : (s.setTimex x y).sec = s.sec := rfl
@[simp] theorem State.setTimex_mg (s : State) (x : ℕ) (y : TimexState) : (s.setTimex x y).mg = s.mg := rfl
@[simp] theorem State.setTimex_pwr (s : State) (x : ℕ) (y : TimexState) : (s.setTimex x y).pwr = s.pwr := rfl
@[simp] theorem State.setTimex_pins (s : State) (x : ℕ) (y : TimexState) : (s.setTimex x y).pins = s.pins := rfl
@[simp] theorem State.setTimex_dbg (s : State) (x : ℕ) (y : TimexState) : (s.setTimex x y).dbg = s.dbg := rfl
@[simp] theorem State.setNandBlock_pending (s : State) (x : ℕ) (y : NandBlock) : (s.setNandBlock x y).pending = s.pending := rfl
@[simp] theorem State.setNandBlock_outbox (s : State) (x : ℕ) (y : NandBlock) : (s.setNandBlock x y).outbox = s.outbox := rfl
@[simp] theorem State.setNandBlock_up (s : State) (x : ℕ) (y : NandBlock) : (s.setNandBlock x y).up = s.up := rfl
@[simp] theorem State.setNandBlock_freeN (s : State) (x : ℕ) (y : NandBlock) : (s.setNandBlock x y).freeN = s.freeN := rfl
@[simp] theorem State.setNandBlock_od (s : State) (x : ℕ) (y : NandBlock) : (s.setNandBlock x y).od = s.od := rfl
@[simp] theorem State.setNandBlock_tr (s : State) (x : ℕ) (y : NandBlock) : (s.setNandBlock x y).tr = s.tr := rfl
@[simp] theorem State.setNandBlock_time (s : State) (x : ℕ) (y : NandBlock) : (s.setNandBlock x y).time = s.time := rfl
@[simp] theorem State.setNandBlock_pool (s : State) (x : ℕ) (y : NandBlock) : (s.setNandBlock x y).pool = s.pool := rfl
@[simp] theorem State.setNandBlock_coh (s : State) (x : ℕ) (y : NandBlock) : (s.setNandBlock x y).coh = s.coh := rfl
@[simp] theorem State.setNandBlock_flt (s : State) (x : ℕ) (y : NandBlock) : (s.setNandBlock x y).flt = s.flt := rfl
@[simp] theorem State.setNandBlock_cpu (s : State) (x : ℕ) (y : NandBlock) : (s.setNandBlock x y).cpu = s.cpu := rfl
@[simp] theorem State.setNandBlock_sw (s : State) (x : ℕ) (y : NandBlock) : (s.setNandBlock x y).sw = s.sw := rfl
@[simp] theorem State.setNandBlock_tm (s : State) (x : ℕ) (y : NandBlock) : (s.setNandBlock x y).tm = s.tm := rfl
@[simp] theorem State.setNandBlock_ports (s : State) (x : ℕ) (y : NandBlock) : (s.setNandBlock x y).ports = s.ports := rfl
@[simp] theorem State.setNandBlock_mt (s : State) (x : ℕ) (y : NandBlock) : (s.setNandBlock x y).mt = s.mt := rfl
@[simp] theorem State.setNandBlock_co (s : State) (x : ℕ) (y : NandBlock) : (s.setNandBlock x y).co = s.co := rfl
@[simp] theorem State.setNandBlock_own (s : State) (x : ℕ) (y : NandBlock) : (s.setNandBlock x y).own = s.own := rfl
@[simp] theorem State.setNandBlock_sec (s : State) (x : ℕ) (y : NandBlock) : (s.setNandBlock x y).sec = s.sec := rfl
@[simp] theorem State.setNandBlock_mg (s : State) (x : ℕ) (y : NandBlock) : (s.setNandBlock x y).mg = s.mg := rfl
@[simp] theorem State.setNandBlock_pwr (s : State) (x : ℕ) (y : NandBlock) : (s.setNandBlock x y).pwr = s.pwr := rfl
@[simp] theorem State.setNandBlock_pins (s : State) (x : ℕ) (y : NandBlock) : (s.setNandBlock x y).pins = s.pins := rfl
@[simp] theorem State.setNandBlock_dbg (s : State) (x : ℕ) (y : NandBlock) : (s.setNandBlock x y).dbg = s.dbg := rfl
@[simp] theorem State.putOps_pending (s : State) (x : List ShelfOp) : (s.putOps x).pending = s.pending := rfl
@[simp] theorem State.putOps_outbox (s : State) (x : List ShelfOp) : (s.putOps x).outbox = s.outbox := rfl
@[simp] theorem State.putOps_up (s : State) (x : List ShelfOp) : (s.putOps x).up = s.up := rfl
@[simp] theorem State.putOps_freeN (s : State) (x : List ShelfOp) : (s.putOps x).freeN = s.freeN := rfl
@[simp] theorem State.putOps_od (s : State) (x : List ShelfOp) : (s.putOps x).od = s.od := rfl
@[simp] theorem State.putOps_tr (s : State) (x : List ShelfOp) : (s.putOps x).tr = s.tr := rfl
@[simp] theorem State.putOps_time (s : State) (x : List ShelfOp) : (s.putOps x).time = s.time := rfl
@[simp] theorem State.putOps_pool (s : State) (x : List ShelfOp) : (s.putOps x).pool = s.pool := rfl
@[simp] theorem State.putOps_coh (s : State) (x : List ShelfOp) : (s.putOps x).coh = s.coh := rfl
@[simp] theorem State.putOps_flt (s : State) (x : List ShelfOp) : (s.putOps x).flt = s.flt := rfl
@[simp] theorem State.putOps_cpu (s : State) (x : List ShelfOp) : (s.putOps x).cpu = s.cpu := rfl
@[simp] theorem State.putOps_sw (s : State) (x : List ShelfOp) : (s.putOps x).sw = s.sw := rfl
@[simp] theorem State.putOps_tm (s : State) (x : List ShelfOp) : (s.putOps x).tm = s.tm := rfl
@[simp] theorem State.putOps_ports (s : State) (x : List ShelfOp) : (s.putOps x).ports = s.ports := rfl
@[simp] theorem State.putOps_mt (s : State) (x : List ShelfOp) : (s.putOps x).mt = s.mt := rfl
@[simp] theorem State.putOps_co (s : State) (x : List ShelfOp) : (s.putOps x).co = s.co := rfl
@[simp] theorem State.putOps_own (s : State) (x : List ShelfOp) : (s.putOps x).own = s.own := rfl
@[simp] theorem State.putOps_sec (s : State) (x : List ShelfOp) : (s.putOps x).sec = s.sec := rfl
@[simp] theorem State.putOps_mg (s : State) (x : List ShelfOp) : (s.putOps x).mg = s.mg := rfl
@[simp] theorem State.putOps_pwr (s : State) (x : List ShelfOp) : (s.putOps x).pwr = s.pwr := rfl
@[simp] theorem State.putOps_pins (s : State) (x : List ShelfOp) : (s.putOps x).pins = s.pins := rfl
@[simp] theorem State.putOps_dbg (s : State) (x : List ShelfOp) : (s.putOps x).dbg = s.dbg := rfl
@[simp] theorem State.dropJob_pending (s : State) (x : ℕ) : (s.dropJob x).pending = s.pending := rfl
@[simp] theorem State.dropJob_outbox (s : State) (x : ℕ) : (s.dropJob x).outbox = s.outbox := rfl
@[simp] theorem State.dropJob_up (s : State) (x : ℕ) : (s.dropJob x).up = s.up := rfl
@[simp] theorem State.dropJob_freeN (s : State) (x : ℕ) : (s.dropJob x).freeN = s.freeN := rfl
@[simp] theorem State.dropJob_od (s : State) (x : ℕ) : (s.dropJob x).od = s.od := rfl
@[simp] theorem State.dropJob_tr (s : State) (x : ℕ) : (s.dropJob x).tr = s.tr := rfl
@[simp] theorem State.dropJob_time (s : State) (x : ℕ) : (s.dropJob x).time = s.time := rfl
@[simp] theorem State.dropJob_pool (s : State) (x : ℕ) : (s.dropJob x).pool = s.pool := rfl
@[simp] theorem State.dropJob_coh (s : State) (x : ℕ) : (s.dropJob x).coh = s.coh := rfl
@[simp] theorem State.dropJob_flt (s : State) (x : ℕ) : (s.dropJob x).flt = s.flt := rfl
@[simp] theorem State.dropJob_cpu (s : State) (x : ℕ) : (s.dropJob x).cpu = s.cpu := rfl
@[simp] theorem State.dropJob_sw (s : State) (x : ℕ) : (s.dropJob x).sw = s.sw := rfl
@[simp] theorem State.dropJob_tm (s : State) (x : ℕ) : (s.dropJob x).tm = s.tm := rfl
@[simp] theorem State.dropJob_ports (s : State) (x : ℕ) : (s.dropJob x).ports = s.ports := rfl
@[simp] theorem State.dropJob_mt (s : State) (x : ℕ) : (s.dropJob x).mt = s.mt := rfl
@[simp] theorem State.dropJob_co (s : State) (x : ℕ) : (s.dropJob x).co = s.co := rfl
@[simp] theorem State.dropJob_own (s : State) (x : ℕ) : (s.dropJob x).own = s.own := rfl
@[simp] theorem State.dropJob_sec (s : State) (x : ℕ) : (s.dropJob x).sec = s.sec := rfl
@[simp] theorem State.dropJob_mg (s : State) (x : ℕ) : (s.dropJob x).mg = s.mg := rfl
@[simp] theorem State.dropJob_pwr (s : State) (x : ℕ) : (s.dropJob x).pwr = s.pwr := rfl
@[simp] theorem State.dropJob_pins (s : State) (x : ℕ) : (s.dropJob x).pins = s.pins := rfl
@[simp] theorem State.dropJob_dbg (s : State) (x : ℕ) : (s.dropJob x).dbg = s.dbg := rfl
@[simp] theorem State.setLife_pending (s : State) (x : ℕ) : (s.setLife x).pending = s.pending := rfl
@[simp] theorem State.setLife_outbox (s : State) (x : ℕ) : (s.setLife x).outbox = s.outbox := rfl
@[simp] theorem State.setLife_up (s : State) (x : ℕ) : (s.setLife x).up = s.up := rfl
@[simp] theorem State.setLife_freeN (s : State) (x : ℕ) : (s.setLife x).freeN = s.freeN := rfl
@[simp] theorem State.setLife_od (s : State) (x : ℕ) : (s.setLife x).od = s.od := rfl
@[simp] theorem State.setLife_tr (s : State) (x : ℕ) : (s.setLife x).tr = s.tr := rfl
@[simp] theorem State.setLife_time (s : State) (x : ℕ) : (s.setLife x).time = s.time := rfl
@[simp] theorem State.setLife_pool (s : State) (x : ℕ) : (s.setLife x).pool = s.pool := rfl
@[simp] theorem State.setLife_coh (s : State) (x : ℕ) : (s.setLife x).coh = s.coh := rfl
@[simp] theorem State.setLife_flt (s : State) (x : ℕ) : (s.setLife x).flt = s.flt := rfl
@[simp] theorem State.setLife_cpu (s : State) (x : ℕ) : (s.setLife x).cpu = s.cpu := rfl
@[simp] theorem State.setLife_sw (s : State) (x : ℕ) : (s.setLife x).sw = s.sw := rfl
@[simp] theorem State.setLife_tm (s : State) (x : ℕ) : (s.setLife x).tm = s.tm := rfl
@[simp] theorem State.setLife_ports (s : State) (x : ℕ) : (s.setLife x).ports = s.ports := rfl
@[simp] theorem State.setLife_mt (s : State) (x : ℕ) : (s.setLife x).mt = s.mt := rfl
@[simp] theorem State.setLife_co (s : State) (x : ℕ) : (s.setLife x).co = s.co := rfl
@[simp] theorem State.setLife_own (s : State) (x : ℕ) : (s.setLife x).own = s.own := rfl
@[simp] theorem State.setLife_nand (s : State) (x : ℕ) : (s.setLife x).nand = s.nand := rfl
@[simp] theorem State.setLife_mg (s : State) (x : ℕ) : (s.setLife x).mg = s.mg := rfl
@[simp] theorem State.setLife_pwr (s : State) (x : ℕ) : (s.setLife x).pwr = s.pwr := rfl
@[simp] theorem State.setLife_pins (s : State) (x : ℕ) : (s.setLife x).pins = s.pins := rfl
@[simp] theorem State.setLife_dbg (s : State) (x : ℕ) : (s.setLife x).dbg = s.dbg := rfl
@[simp] theorem State.mapReq_pending (s : State) (x : ℕ) (y : Req → Req) : (s.mapReq x y).pending = s.pending := rfl
@[simp] theorem State.mapReq_outbox (s : State) (x : ℕ) (y : Req → Req) : (s.mapReq x y).outbox = s.outbox := rfl
@[simp] theorem State.mapReq_up (s : State) (x : ℕ) (y : Req → Req) : (s.mapReq x y).up = s.up := rfl
@[simp] theorem State.mapReq_freeN (s : State) (x : ℕ) (y : Req → Req) : (s.mapReq x y).freeN = s.freeN := rfl
@[simp] theorem State.mapReq_od (s : State) (x : ℕ) (y : Req → Req) : (s.mapReq x y).od = s.od := rfl
@[simp] theorem State.mapReq_time (s : State) (x : ℕ) (y : Req → Req) : (s.mapReq x y).time = s.time := rfl
@[simp] theorem State.mapReq_pool (s : State) (x : ℕ) (y : Req → Req) : (s.mapReq x y).pool = s.pool := rfl
@[simp] theorem State.mapReq_coh (s : State) (x : ℕ) (y : Req → Req) : (s.mapReq x y).coh = s.coh := rfl
@[simp] theorem State.mapReq_flt (s : State) (x : ℕ) (y : Req → Req) : (s.mapReq x y).flt = s.flt := rfl
@[simp] theorem State.mapReq_cpu (s : State) (x : ℕ) (y : Req → Req) : (s.mapReq x y).cpu = s.cpu := rfl
@[simp] theorem State.mapReq_sw (s : State) (x : ℕ) (y : Req → Req) : (s.mapReq x y).sw = s.sw := rfl
@[simp] theorem State.mapReq_tm (s : State) (x : ℕ) (y : Req → Req) : (s.mapReq x y).tm = s.tm := rfl
@[simp] theorem State.mapReq_ports (s : State) (x : ℕ) (y : Req → Req) : (s.mapReq x y).ports = s.ports := rfl
@[simp] theorem State.mapReq_mt (s : State) (x : ℕ) (y : Req → Req) : (s.mapReq x y).mt = s.mt := rfl
@[simp] theorem State.mapReq_co (s : State) (x : ℕ) (y : Req → Req) : (s.mapReq x y).co = s.co := rfl
@[simp] theorem State.mapReq_own (s : State) (x : ℕ) (y : Req → Req) : (s.mapReq x y).own = s.own := rfl
@[simp] theorem State.mapReq_nand (s : State) (x : ℕ) (y : Req → Req) : (s.mapReq x y).nand = s.nand := rfl
@[simp] theorem State.mapReq_sec (s : State) (x : ℕ) (y : Req → Req) : (s.mapReq x y).sec = s.sec := rfl
@[simp] theorem State.mapReq_mg (s : State) (x : ℕ) (y : Req → Req) : (s.mapReq x y).mg = s.mg := rfl
@[simp] theorem State.mapReq_pwr (s : State) (x : ℕ) (y : Req → Req) : (s.mapReq x y).pwr = s.pwr := rfl
@[simp] theorem State.mapReq_pins (s : State) (x : ℕ) (y : Req → Req) : (s.mapReq x y).pins = s.pins := rfl
@[simp] theorem State.mapReq_dbg (s : State) (x : ℕ) (y : Req → Req) : (s.mapReq x y).dbg = s.dbg := rfl
@[simp] theorem State.dropReq_pending (s : State) (x : ℕ) : (s.dropReq x).pending = s.pending := rfl
@[simp] theorem State.dropReq_outbox (s : State) (x : ℕ) : (s.dropReq x).outbox = s.outbox := rfl
@[simp] theorem State.dropReq_up (s : State) (x : ℕ) : (s.dropReq x).up = s.up := rfl
@[simp] theorem State.dropReq_freeN (s : State) (x : ℕ) : (s.dropReq x).freeN = s.freeN := rfl
@[simp] theorem State.dropReq_od (s : State) (x : ℕ) : (s.dropReq x).od = s.od := rfl
@[simp] theorem State.dropReq_time (s : State) (x : ℕ) : (s.dropReq x).time = s.time := rfl
@[simp] theorem State.dropReq_pool (s : State) (x : ℕ) : (s.dropReq x).pool = s.pool := rfl
@[simp] theorem State.dropReq_coh (s : State) (x : ℕ) : (s.dropReq x).coh = s.coh := rfl
@[simp] theorem State.dropReq_flt (s : State) (x : ℕ) : (s.dropReq x).flt = s.flt := rfl
@[simp] theorem State.dropReq_cpu (s : State) (x : ℕ) : (s.dropReq x).cpu = s.cpu := rfl
@[simp] theorem State.dropReq_sw (s : State) (x : ℕ) : (s.dropReq x).sw = s.sw := rfl
@[simp] theorem State.dropReq_tm (s : State) (x : ℕ) : (s.dropReq x).tm = s.tm := rfl
@[simp] theorem State.dropReq_ports (s : State) (x : ℕ) : (s.dropReq x).ports = s.ports := rfl
@[simp] theorem State.dropReq_mt (s : State) (x : ℕ) : (s.dropReq x).mt = s.mt := rfl
@[simp] theorem State.dropReq_co (s : State) (x : ℕ) : (s.dropReq x).co = s.co := rfl
@[simp] theorem State.dropReq_own (s : State) (x : ℕ) : (s.dropReq x).own = s.own := rfl
@[simp] theorem State.dropReq_nand (s : State) (x : ℕ) : (s.dropReq x).nand = s.nand := rfl
@[simp] theorem State.dropReq_sec (s : State) (x : ℕ) : (s.dropReq x).sec = s.sec := rfl
@[simp] theorem State.dropReq_mg (s : State) (x : ℕ) : (s.dropReq x).mg = s.mg := rfl
@[simp] theorem State.dropReq_pwr (s : State) (x : ℕ) : (s.dropReq x).pwr = s.pwr := rfl
@[simp] theorem State.dropReq_pins (s : State) (x : ℕ) : (s.dropReq x).pins = s.pins := rfl
@[simp] theorem State.dropReq_dbg (s : State) (x : ℕ) : (s.dropReq x).dbg = s.dbg := rfl
@[simp] theorem State.setPlace_pending (s : State) (x : ℕ) (y : ReqPlace) : (s.setPlace x y).pending = s.pending := rfl
@[simp] theorem State.setPlace_outbox (s : State) (x : ℕ) (y : ReqPlace) : (s.setPlace x y).outbox = s.outbox := rfl
@[simp] theorem State.setPlace_up (s : State) (x : ℕ) (y : ReqPlace) : (s.setPlace x y).up = s.up := rfl
@[simp] theorem State.setPlace_freeN (s : State) (x : ℕ) (y : ReqPlace) : (s.setPlace x y).freeN = s.freeN := rfl
@[simp] theorem State.setPlace_od (s : State) (x : ℕ) (y : ReqPlace) : (s.setPlace x y).od = s.od := rfl
@[simp] theorem State.setPlace_time (s : State) (x : ℕ) (y : ReqPlace) : (s.setPlace x y).time = s.time := rfl
@[simp] theorem State.setPlace_pool (s : State) (x : ℕ) (y : ReqPlace) : (s.setPlace x y).pool = s.pool := rfl
@[simp] theorem State.setPlace_coh (s : State) (x : ℕ) (y : ReqPlace) : (s.setPlace x y).coh = s.coh := rfl
@[simp] theorem State.setPlace_flt (s : State) (x : ℕ) (y : ReqPlace) : (s.setPlace x y).flt = s.flt := rfl
@[simp] theorem State.setPlace_cpu (s : State) (x : ℕ) (y : ReqPlace) : (s.setPlace x y).cpu = s.cpu := rfl
@[simp] theorem State.setPlace_sw (s : State) (x : ℕ) (y : ReqPlace) : (s.setPlace x y).sw = s.sw := rfl
@[simp] theorem State.setPlace_tm (s : State) (x : ℕ) (y : ReqPlace) : (s.setPlace x y).tm = s.tm := rfl
@[simp] theorem State.setPlace_ports (s : State) (x : ℕ) (y : ReqPlace) : (s.setPlace x y).ports = s.ports := rfl
@[simp] theorem State.setPlace_mt (s : State) (x : ℕ) (y : ReqPlace) : (s.setPlace x y).mt = s.mt := rfl
@[simp] theorem State.setPlace_co (s : State) (x : ℕ) (y : ReqPlace) : (s.setPlace x y).co = s.co := rfl
@[simp] theorem State.setPlace_own (s : State) (x : ℕ) (y : ReqPlace) : (s.setPlace x y).own = s.own := rfl
@[simp] theorem State.setPlace_nand (s : State) (x : ℕ) (y : ReqPlace) : (s.setPlace x y).nand = s.nand := rfl
@[simp] theorem State.setPlace_sec (s : State) (x : ℕ) (y : ReqPlace) : (s.setPlace x y).sec = s.sec := rfl
@[simp] theorem State.setPlace_mg (s : State) (x : ℕ) (y : ReqPlace) : (s.setPlace x y).mg = s.mg := rfl
@[simp] theorem State.setPlace_pwr (s : State) (x : ℕ) (y : ReqPlace) : (s.setPlace x y).pwr = s.pwr := rfl
@[simp] theorem State.setPlace_pins (s : State) (x : ℕ) (y : ReqPlace) : (s.setPlace x y).pins = s.pins := rfl
@[simp] theorem State.setPlace_dbg (s : State) (x : ℕ) (y : ReqPlace) : (s.setPlace x y).dbg = s.dbg := rfl
@[simp] theorem State.track_pending (s : State) (x : Req) : (s.track x).pending = s.pending := rfl
@[simp] theorem State.track_outbox (s : State) (x : Req) : (s.track x).outbox = s.outbox := rfl
@[simp] theorem State.track_up (s : State) (x : Req) : (s.track x).up = s.up := rfl
@[simp] theorem State.track_freeN (s : State) (x : Req) : (s.track x).freeN = s.freeN := rfl
@[simp] theorem State.track_od (s : State) (x : Req) : (s.track x).od = s.od := rfl
@[simp] theorem State.track_time (s : State) (x : Req) : (s.track x).time = s.time := rfl
@[simp] theorem State.track_pool (s : State) (x : Req) : (s.track x).pool = s.pool := rfl
@[simp] theorem State.track_coh (s : State) (x : Req) : (s.track x).coh = s.coh := rfl
@[simp] theorem State.track_flt (s : State) (x : Req) : (s.track x).flt = s.flt := rfl
@[simp] theorem State.track_cpu (s : State) (x : Req) : (s.track x).cpu = s.cpu := rfl
@[simp] theorem State.track_sw (s : State) (x : Req) : (s.track x).sw = s.sw := rfl
@[simp] theorem State.track_tm (s : State) (x : Req) : (s.track x).tm = s.tm := rfl
@[simp] theorem State.track_ports (s : State) (x : Req) : (s.track x).ports = s.ports := rfl
@[simp] theorem State.track_mt (s : State) (x : Req) : (s.track x).mt = s.mt := rfl
@[simp] theorem State.track_co (s : State) (x : Req) : (s.track x).co = s.co := rfl
@[simp] theorem State.track_own (s : State) (x : Req) : (s.track x).own = s.own := rfl
@[simp] theorem State.track_nand (s : State) (x : Req) : (s.track x).nand = s.nand := rfl
@[simp] theorem State.track_sec (s : State) (x : Req) : (s.track x).sec = s.sec := rfl
@[simp] theorem State.track_mg (s : State) (x : Req) : (s.track x).mg = s.mg := rfl
@[simp] theorem State.track_pwr (s : State) (x : Req) : (s.track x).pwr = s.pwr := rfl
@[simp] theorem State.track_pins (s : State) (x : Req) : (s.track x).pins = s.pins := rfl
@[simp] theorem State.track_dbg (s : State) (x : Req) : (s.track x).dbg = s.dbg := rfl
@[simp] theorem State.mapTx_pending (s : State) (x : ℕ) (y : TxFrame → TxFrame) : (s.mapTx x y).pending = s.pending := rfl
@[simp] theorem State.mapTx_outbox (s : State) (x : ℕ) (y : TxFrame → TxFrame) : (s.mapTx x y).outbox = s.outbox := rfl
@[simp] theorem State.mapTx_up (s : State) (x : ℕ) (y : TxFrame → TxFrame) : (s.mapTx x y).up = s.up := rfl
@[simp] theorem State.mapTx_freeN (s : State) (x : ℕ) (y : TxFrame → TxFrame) : (s.mapTx x y).freeN = s.freeN := rfl
@[simp] theorem State.mapTx_od (s : State) (x : ℕ) (y : TxFrame → TxFrame) : (s.mapTx x y).od = s.od := rfl
@[simp] theorem State.mapTx_tr (s : State) (x : ℕ) (y : TxFrame → TxFrame) : (s.mapTx x y).tr = s.tr := rfl
@[simp] theorem State.mapTx_time (s : State) (x : ℕ) (y : TxFrame → TxFrame) : (s.mapTx x y).time = s.time := rfl
@[simp] theorem State.mapTx_pool (s : State) (x : ℕ) (y : TxFrame → TxFrame) : (s.mapTx x y).pool = s.pool := rfl
@[simp] theorem State.mapTx_coh (s : State) (x : ℕ) (y : TxFrame → TxFrame) : (s.mapTx x y).coh = s.coh := rfl
@[simp] theorem State.mapTx_flt (s : State) (x : ℕ) (y : TxFrame → TxFrame) : (s.mapTx x y).flt = s.flt := rfl
@[simp] theorem State.mapTx_cpu (s : State) (x : ℕ) (y : TxFrame → TxFrame) : (s.mapTx x y).cpu = s.cpu := rfl
@[simp] theorem State.mapTx_tm (s : State) (x : ℕ) (y : TxFrame → TxFrame) : (s.mapTx x y).tm = s.tm := rfl
@[simp] theorem State.mapTx_ports (s : State) (x : ℕ) (y : TxFrame → TxFrame) : (s.mapTx x y).ports = s.ports := rfl
@[simp] theorem State.mapTx_mt (s : State) (x : ℕ) (y : TxFrame → TxFrame) : (s.mapTx x y).mt = s.mt := rfl
@[simp] theorem State.mapTx_co (s : State) (x : ℕ) (y : TxFrame → TxFrame) : (s.mapTx x y).co = s.co := rfl
@[simp] theorem State.mapTx_own (s : State) (x : ℕ) (y : TxFrame → TxFrame) : (s.mapTx x y).own = s.own := rfl
@[simp] theorem State.mapTx_nand (s : State) (x : ℕ) (y : TxFrame → TxFrame) : (s.mapTx x y).nand = s.nand := rfl
@[simp] theorem State.mapTx_sec (s : State) (x : ℕ) (y : TxFrame → TxFrame) : (s.mapTx x y).sec = s.sec := rfl
@[simp] theorem State.mapTx_mg (s : State) (x : ℕ) (y : TxFrame → TxFrame) : (s.mapTx x y).mg = s.mg := rfl
@[simp] theorem State.mapTx_pwr (s : State) (x : ℕ) (y : TxFrame → TxFrame) : (s.mapTx x y).pwr = s.pwr := rfl
@[simp] theorem State.mapTx_pins (s : State) (x : ℕ) (y : TxFrame → TxFrame) : (s.mapTx x y).pins = s.pins := rfl
@[simp] theorem State.mapTx_dbg (s : State) (x : ℕ) (y : TxFrame → TxFrame) : (s.mapTx x y).dbg = s.dbg := rfl
@[simp] theorem State.setSince_pending (s : State) (x : ℕ) : (s.setSince x).pending = s.pending := rfl
@[simp] theorem State.setSince_outbox (s : State) (x : ℕ) : (s.setSince x).outbox = s.outbox := rfl
@[simp] theorem State.setSince_up (s : State) (x : ℕ) : (s.setSince x).up = s.up := rfl
@[simp] theorem State.setSince_freeN (s : State) (x : ℕ) : (s.setSince x).freeN = s.freeN := rfl
@[simp] theorem State.setSince_od (s : State) (x : ℕ) : (s.setSince x).od = s.od := rfl
@[simp] theorem State.setSince_tr (s : State) (x : ℕ) : (s.setSince x).tr = s.tr := rfl
@[simp] theorem State.setSince_time (s : State) (x : ℕ) : (s.setSince x).time = s.time := rfl
@[simp] theorem State.setSince_pool (s : State) (x : ℕ) : (s.setSince x).pool = s.pool := rfl
@[simp] theorem State.setSince_coh (s : State) (x : ℕ) : (s.setSince x).coh = s.coh := rfl
@[simp] theorem State.setSince_flt (s : State) (x : ℕ) : (s.setSince x).flt = s.flt := rfl
@[simp] theorem State.setSince_cpu (s : State) (x : ℕ) : (s.setSince x).cpu = s.cpu := rfl
@[simp] theorem State.setSince_sw (s : State) (x : ℕ) : (s.setSince x).sw = s.sw := rfl
@[simp] theorem State.setSince_tm (s : State) (x : ℕ) : (s.setSince x).tm = s.tm := rfl
@[simp] theorem State.setSince_ports (s : State) (x : ℕ) : (s.setSince x).ports = s.ports := rfl
@[simp] theorem State.setSince_mt (s : State) (x : ℕ) : (s.setSince x).mt = s.mt := rfl
@[simp] theorem State.setSince_co (s : State) (x : ℕ) : (s.setSince x).co = s.co := rfl
@[simp] theorem State.setSince_own (s : State) (x : ℕ) : (s.setSince x).own = s.own := rfl
@[simp] theorem State.setSince_nand (s : State) (x : ℕ) : (s.setSince x).nand = s.nand := rfl
@[simp] theorem State.setSince_sec (s : State) (x : ℕ) : (s.setSince x).sec = s.sec := rfl
@[simp] theorem State.setSince_mg (s : State) (x : ℕ) : (s.setSince x).mg = s.mg := rfl
@[simp] theorem State.setSince_pwr (s : State) (x : ℕ) : (s.setSince x).pwr = s.pwr := rfl
@[simp] theorem State.setSince_dbg (s : State) (x : ℕ) : (s.setSince x).dbg = s.dbg := rfl
@[simp] theorem State.setWindow_pending (s : State) (x y z : ℕ) : (s.setWindow x y z).pending = s.pending := rfl
@[simp] theorem State.setWindow_outbox (s : State) (x y z : ℕ) : (s.setWindow x y z).outbox = s.outbox := rfl
@[simp] theorem State.setWindow_up (s : State) (x y z : ℕ) : (s.setWindow x y z).up = s.up := rfl
@[simp] theorem State.setWindow_freeN (s : State) (x y z : ℕ) : (s.setWindow x y z).freeN = s.freeN := rfl
@[simp] theorem State.setWindow_od (s : State) (x y z : ℕ) : (s.setWindow x y z).od = s.od := rfl
@[simp] theorem State.setWindow_time (s : State) (x y z : ℕ) : (s.setWindow x y z).time = s.time := rfl
@[simp] theorem State.setWindow_pool (s : State) (x y z : ℕ) : (s.setWindow x y z).pool = s.pool := rfl
@[simp] theorem State.setWindow_coh (s : State) (x y z : ℕ) : (s.setWindow x y z).coh = s.coh := rfl
@[simp] theorem State.setWindow_flt (s : State) (x y z : ℕ) : (s.setWindow x y z).flt = s.flt := rfl
@[simp] theorem State.setWindow_cpu (s : State) (x y z : ℕ) : (s.setWindow x y z).cpu = s.cpu := rfl
@[simp] theorem State.setWindow_sw (s : State) (x y z : ℕ) : (s.setWindow x y z).sw = s.sw := rfl
@[simp] theorem State.setWindow_tm (s : State) (x y z : ℕ) : (s.setWindow x y z).tm = s.tm := rfl
@[simp] theorem State.setWindow_ports (s : State) (x y z : ℕ) : (s.setWindow x y z).ports = s.ports := rfl
@[simp] theorem State.setWindow_mt (s : State) (x y z : ℕ) : (s.setWindow x y z).mt = s.mt := rfl
@[simp] theorem State.setWindow_co (s : State) (x y z : ℕ) : (s.setWindow x y z).co = s.co := rfl
@[simp] theorem State.setWindow_own (s : State) (x y z : ℕ) : (s.setWindow x y z).own = s.own := rfl
@[simp] theorem State.setWindow_nand (s : State) (x y z : ℕ) : (s.setWindow x y z).nand = s.nand := rfl
@[simp] theorem State.setWindow_sec (s : State) (x y z : ℕ) : (s.setWindow x y z).sec = s.sec := rfl
@[simp] theorem State.setWindow_mg (s : State) (x y z : ℕ) : (s.setWindow x y z).mg = s.mg := rfl
@[simp] theorem State.setWindow_pwr (s : State) (x y z : ℕ) : (s.setWindow x y z).pwr = s.pwr := rfl
@[simp] theorem State.setWindow_pins (s : State) (x y z : ℕ) : (s.setWindow x y z).pins = s.pins := rfl
@[simp] theorem State.setWindow_dbg (s : State) (x y z : ℕ) : (s.setWindow x y z).dbg = s.dbg := rfl
@[simp] theorem State.setShaper_pending (s : State) (x : ℕ) (y : ℤ) (z : ℕ) : (s.setShaper x y z).pending = s.pending := rfl
@[simp] theorem State.setShaper_outbox (s : State) (x : ℕ) (y : ℤ) (z : ℕ) : (s.setShaper x y z).outbox = s.outbox := rfl
@[simp] theorem State.setShaper_up (s : State) (x : ℕ) (y : ℤ) (z : ℕ) : (s.setShaper x y z).up = s.up := rfl
@[simp] theorem State.setShaper_freeN (s : State) (x : ℕ) (y : ℤ) (z : ℕ) : (s.setShaper x y z).freeN = s.freeN := rfl
@[simp] theorem State.setShaper_od (s : State) (x : ℕ) (y : ℤ) (z : ℕ) : (s.setShaper x y z).od = s.od := rfl
@[simp] theorem State.setShaper_tr (s : State) (x : ℕ) (y : ℤ) (z : ℕ) : (s.setShaper x y z).tr = s.tr := rfl
@[simp] theorem State.setShaper_time (s : State) (x : ℕ) (y : ℤ) (z : ℕ) : (s.setShaper x y z).time = s.time := rfl
@[simp] theorem State.setShaper_pool (s : State) (x : ℕ) (y : ℤ) (z : ℕ) : (s.setShaper x y z).pool = s.pool := rfl
@[simp] theorem State.setShaper_coh (s : State) (x : ℕ) (y : ℤ) (z : ℕ) : (s.setShaper x y z).coh = s.coh := rfl
@[simp] theorem State.setShaper_flt (s : State) (x : ℕ) (y : ℤ) (z : ℕ) : (s.setShaper x y z).flt = s.flt := rfl
@[simp] theorem State.setShaper_cpu (s : State) (x : ℕ) (y : ℤ) (z : ℕ) : (s.setShaper x y z).cpu = s.cpu := rfl
@[simp] theorem State.setShaper_sw (s : State) (x : ℕ) (y : ℤ) (z : ℕ) : (s.setShaper x y z).sw = s.sw := rfl
@[simp] theorem State.setShaper_ports (s : State) (x : ℕ) (y : ℤ) (z : ℕ) : (s.setShaper x y z).ports = s.ports := rfl
@[simp] theorem State.setShaper_mt (s : State) (x : ℕ) (y : ℤ) (z : ℕ) : (s.setShaper x y z).mt = s.mt := rfl
@[simp] theorem State.setShaper_co (s : State) (x : ℕ) (y : ℤ) (z : ℕ) : (s.setShaper x y z).co = s.co := rfl
@[simp] theorem State.setShaper_own (s : State) (x : ℕ) (y : ℤ) (z : ℕ) : (s.setShaper x y z).own = s.own := rfl
@[simp] theorem State.setShaper_nand (s : State) (x : ℕ) (y : ℤ) (z : ℕ) : (s.setShaper x y z).nand = s.nand := rfl
@[simp] theorem State.setShaper_sec (s : State) (x : ℕ) (y : ℤ) (z : ℕ) : (s.setShaper x y z).sec = s.sec := rfl
@[simp] theorem State.setShaper_mg (s : State) (x : ℕ) (y : ℤ) (z : ℕ) : (s.setShaper x y z).mg = s.mg := rfl
@[simp] theorem State.setShaper_pwr (s : State) (x : ℕ) (y : ℤ) (z : ℕ) : (s.setShaper x y z).pwr = s.pwr := rfl
@[simp] theorem State.setShaper_pins (s : State) (x : ℕ) (y : ℤ) (z : ℕ) : (s.setShaper x y z).pins = s.pins := rfl
@[simp] theorem State.setShaper_dbg (s : State) (x : ℕ) (y : ℤ) (z : ℕ) : (s.setShaper x y z).dbg = s.dbg := rfl
@[simp] theorem State.rateFree_pending (s : State) (x : ℕ) : (s.rateFree x).pending = s.pending := rfl
@[simp] theorem State.rateFree_outbox (s : State) (x : ℕ) : (s.rateFree x).outbox = s.outbox := rfl
@[simp] theorem State.rateFree_up (s : State) (x : ℕ) : (s.rateFree x).up = s.up := rfl
@[simp] theorem State.rateFree_freeN (s : State) (x : ℕ) : (s.rateFree x).freeN = s.freeN := rfl
@[simp] theorem State.rateFree_od (s : State) (x : ℕ) : (s.rateFree x).od = s.od := rfl
@[simp] theorem State.rateFree_tr (s : State) (x : ℕ) : (s.rateFree x).tr = s.tr := rfl
@[simp] theorem State.rateFree_time (s : State) (x : ℕ) : (s.rateFree x).time = s.time := rfl
@[simp] theorem State.rateFree_pool (s : State) (x : ℕ) : (s.rateFree x).pool = s.pool := rfl
@[simp] theorem State.rateFree_coh (s : State) (x : ℕ) : (s.rateFree x).coh = s.coh := rfl
@[simp] theorem State.rateFree_flt (s : State) (x : ℕ) : (s.rateFree x).flt = s.flt := rfl
@[simp] theorem State.rateFree_cpu (s : State) (x : ℕ) : (s.rateFree x).cpu = s.cpu := rfl
@[simp] theorem State.rateFree_sw (s : State) (x : ℕ) : (s.rateFree x).sw = s.sw := rfl
@[simp] theorem State.rateFree_tm (s : State) (x : ℕ) : (s.rateFree x).tm = s.tm := rfl
@[simp] theorem State.rateFree_ports (s : State) (x : ℕ) : (s.rateFree x).ports = s.ports := rfl
@[simp] theorem State.rateFree_mt (s : State) (x : ℕ) : (s.rateFree x).mt = s.mt := rfl
@[simp] theorem State.rateFree_co (s : State) (x : ℕ) : (s.rateFree x).co = s.co := rfl
@[simp] theorem State.rateFree_own (s : State) (x : ℕ) : (s.rateFree x).own = s.own := rfl
@[simp] theorem State.rateFree_nand (s : State) (x : ℕ) : (s.rateFree x).nand = s.nand := rfl
@[simp] theorem State.rateFree_sec (s : State) (x : ℕ) : (s.rateFree x).sec = s.sec := rfl
@[simp] theorem State.rateFree_mg (s : State) (x : ℕ) : (s.rateFree x).mg = s.mg := rfl
@[simp] theorem State.rateFree_pwr (s : State) (x : ℕ) : (s.rateFree x).pwr = s.pwr := rfl
@[simp] theorem State.rateFree_dbg (s : State) (x : ℕ) : (s.rateFree x).dbg = s.dbg := rfl
@[simp] theorem State.tally_pending (s : State) (x y z : ℕ) : (s.tally x y z).pending = s.pending := by
  unfold State.tally; try dsimp only
  (repeat' split) <;> first | rfl | (simp; done)
@[simp] theorem State.tally_outbox (s : State) (x y z : ℕ) : (s.tally x y z).outbox = s.outbox := by
  unfold State.tally; try dsimp only
  (repeat' split) <;> first | rfl | (simp; done)
@[simp] theorem State.tally_up (s : State) (x y z : ℕ) : (s.tally x y z).up = s.up := by
  unfold State.tally; try dsimp only
  (repeat' split) <;> first | rfl | (simp; done)
@[simp] theorem State.tally_freeN (s : State) (x y z : ℕ) : (s.tally x y z).freeN = s.freeN := by
  unfold State.tally; try dsimp only
  (repeat' split) <;> first | rfl | (simp; done)
@[simp] theorem State.tally_tr (s : State) (x y z : ℕ) : (s.tally x y z).tr = s.tr := by
  unfold State.tally; try dsimp only
  (repeat' split) <;> first | rfl | (simp; done)
@[simp] theorem State.tally_time (s : State) (x y z : ℕ) : (s.tally x y z).time = s.time := by
  unfold State.tally; try dsimp only
  (repeat' split) <;> first | rfl | (simp; done)
@[simp] theorem State.tally_pool (s : State) (x y z : ℕ) : (s.tally x y z).pool = s.pool := by
  unfold State.tally; try dsimp only
  (repeat' split) <;> first | rfl | (simp; done)
@[simp] theorem State.tally_coh (s : State) (x y z : ℕ) : (s.tally x y z).coh = s.coh := by
  unfold State.tally; try dsimp only
  (repeat' split) <;> first | rfl | (simp; done)
@[simp] theorem State.tally_flt (s : State) (x y z : ℕ) : (s.tally x y z).flt = s.flt := by
  unfold State.tally; try dsimp only
  (repeat' split) <;> first | rfl | (simp; done)
@[simp] theorem State.tally_cpu (s : State) (x y z : ℕ) : (s.tally x y z).cpu = s.cpu := by
  unfold State.tally; try dsimp only
  (repeat' split) <;> first | rfl | (simp; done)
@[simp] theorem State.tally_sw (s : State) (x y z : ℕ) : (s.tally x y z).sw = s.sw := by
  unfold State.tally; try dsimp only
  (repeat' split) <;> first | rfl | (simp; done)
@[simp] theorem State.tally_tm (s : State) (x y z : ℕ) : (s.tally x y z).tm = s.tm := by
  unfold State.tally; try dsimp only
  (repeat' split) <;> first | rfl | (simp; done)
@[simp] theorem State.tally_ports (s : State) (x y z : ℕ) : (s.tally x y z).ports = s.ports := by
  unfold State.tally; try dsimp only
  (repeat' split) <;> first | rfl | (simp; done)
@[simp] theorem State.tally_mt (s : State) (x y z : ℕ) : (s.tally x y z).mt = s.mt := by
  unfold State.tally; try dsimp only
  (repeat' split) <;> first | rfl | (simp; done)
@[simp] theorem State.tally_co (s : State) (x y z : ℕ) : (s.tally x y z).co = s.co := by
  unfold State.tally; try dsimp only
  (repeat' split) <;> first | rfl | (simp; done)
@[simp] theorem State.tally_own (s : State) (x y z : ℕ) : (s.tally x y z).own = s.own := by
  unfold State.tally; try dsimp only
  (repeat' split) <;> first | rfl | (simp; done)
@[simp] theorem State.tally_nand (s : State) (x y z : ℕ) : (s.tally x y z).nand = s.nand := by
  unfold State.tally; try dsimp only
  (repeat' split) <;> first | rfl | (simp; done)
@[simp] theorem State.tally_sec (s : State) (x y z : ℕ) : (s.tally x y z).sec = s.sec := by
  unfold State.tally; try dsimp only
  (repeat' split) <;> first | rfl | (simp; done)
@[simp] theorem State.tally_mg (s : State) (x y z : ℕ) : (s.tally x y z).mg = s.mg := by
  unfold State.tally; try dsimp only
  (repeat' split) <;> first | rfl | (simp; done)
@[simp] theorem State.tally_pwr (s : State) (x y z : ℕ) : (s.tally x y z).pwr = s.pwr := by
  unfold State.tally; try dsimp only
  (repeat' split) <;> first | rfl | (simp; done)
@[simp] theorem State.tally_pins (s : State) (x y z : ℕ) : (s.tally x y z).pins = s.pins := by
  unfold State.tally; try dsimp only
  (repeat' split) <;> first | rfl | (simp; done)
@[simp] theorem State.tally_dbg (s : State) (x y z : ℕ) : (s.tally x y z).dbg = s.dbg := by
  unfold State.tally; try dsimp only
  (repeat' split) <;> first | rfl | (simp; done)
@[simp] theorem State.tracePut_pending (s : State) (x y : ℕ) : (s.tracePut x y).pending = s.pending := by
  unfold State.tracePut; try dsimp only
  (repeat' split) <;> first | rfl | (simp; done)
@[simp] theorem State.tracePut_outbox (s : State) (x y : ℕ) : (s.tracePut x y).outbox = s.outbox := by
  unfold State.tracePut; try dsimp only
  (repeat' split) <;> first | rfl | (simp; done)
@[simp] theorem State.tracePut_up (s : State) (x y : ℕ) : (s.tracePut x y).up = s.up := by
  unfold State.tracePut; try dsimp only
  (repeat' split) <;> first | rfl | (simp; done)
@[simp] theorem State.tracePut_freeN (s : State) (x y : ℕ) : (s.tracePut x y).freeN = s.freeN := by
  unfold State.tracePut; try dsimp only
  (repeat' split) <;> first | rfl | (simp; done)
@[simp] theorem State.tracePut_tr (s : State) (x y : ℕ) : (s.tracePut x y).tr = s.tr := by
  unfold State.tracePut; try dsimp only
  (repeat' split) <;> first | rfl | (simp; done)
@[simp] theorem State.tracePut_time (s : State) (x y : ℕ) : (s.tracePut x y).time = s.time := by
  unfold State.tracePut; try dsimp only
  (repeat' split) <;> first | rfl | (simp; done)
@[simp] theorem State.tracePut_pool (s : State) (x y : ℕ) : (s.tracePut x y).pool = s.pool := by
  unfold State.tracePut; try dsimp only
  (repeat' split) <;> first | rfl | (simp; done)
@[simp] theorem State.tracePut_coh (s : State) (x y : ℕ) : (s.tracePut x y).coh = s.coh := by
  unfold State.tracePut; try dsimp only
  (repeat' split) <;> first | rfl | (simp; done)
@[simp] theorem State.tracePut_flt (s : State) (x y : ℕ) : (s.tracePut x y).flt = s.flt := by
  unfold State.tracePut; try dsimp only
  (repeat' split) <;> first | rfl | (simp; done)
@[simp] theorem State.tracePut_cpu (s : State) (x y : ℕ) : (s.tracePut x y).cpu = s.cpu := by
  unfold State.tracePut; try dsimp only
  (repeat' split) <;> first | rfl | (simp; done)
@[simp] theorem State.tracePut_sw (s : State) (x y : ℕ) : (s.tracePut x y).sw = s.sw := by
  unfold State.tracePut; try dsimp only
  (repeat' split) <;> first | rfl | (simp; done)
@[simp] theorem State.tracePut_tm (s : State) (x y : ℕ) : (s.tracePut x y).tm = s.tm := by
  unfold State.tracePut; try dsimp only
  (repeat' split) <;> first | rfl | (simp; done)
@[simp] theorem State.tracePut_ports (s : State) (x y : ℕ) : (s.tracePut x y).ports = s.ports := by
  unfold State.tracePut; try dsimp only
  (repeat' split) <;> first | rfl | (simp; done)
@[simp] theorem State.tracePut_mt (s : State) (x y : ℕ) : (s.tracePut x y).mt = s.mt := by
  unfold State.tracePut; try dsimp only
  (repeat' split) <;> first | rfl | (simp; done)
@[simp] theorem State.tracePut_co (s : State) (x y : ℕ) : (s.tracePut x y).co = s.co := by
  unfold State.tracePut; try dsimp only
  (repeat' split) <;> first | rfl | (simp; done)
@[simp] theorem State.tracePut_own (s : State) (x y : ℕ) : (s.tracePut x y).own = s.own := by
  unfold State.tracePut; try dsimp only
  (repeat' split) <;> first | rfl | (simp; done)
@[simp] theorem State.tracePut_nand (s : State) (x y : ℕ) : (s.tracePut x y).nand = s.nand := by
  unfold State.tracePut; try dsimp only
  (repeat' split) <;> first | rfl | (simp; done)
@[simp] theorem State.tracePut_sec (s : State) (x y : ℕ) : (s.tracePut x y).sec = s.sec := by
  unfold State.tracePut; try dsimp only
  (repeat' split) <;> first | rfl | (simp; done)
@[simp] theorem State.tracePut_mg (s : State) (x y : ℕ) : (s.tracePut x y).mg = s.mg := by
  unfold State.tracePut; try dsimp only
  (repeat' split) <;> first | rfl | (simp; done)
@[simp] theorem State.tracePut_pwr (s : State) (x y : ℕ) : (s.tracePut x y).pwr = s.pwr := by
  unfold State.tracePut; try dsimp only
  (repeat' split) <;> first | rfl | (simp; done)
@[simp] theorem State.tracePut_pins (s : State) (x y : ℕ) : (s.tracePut x y).pins = s.pins := by
  unfold State.tracePut; try dsimp only
  (repeat' split) <;> first | rfl | (simp; done)
@[simp] theorem State.traceOne_pending (s : State) (x y : ℕ) : (s.traceOne x y).pending = s.pending := by
  unfold State.traceOne; try dsimp only
  (repeat' split) <;> first | rfl | (simp; done)
@[simp] theorem State.traceOne_outbox (s : State) (x y : ℕ) : (s.traceOne x y).outbox = s.outbox := by
  unfold State.traceOne; try dsimp only
  (repeat' split) <;> first | rfl | (simp; done)
@[simp] theorem State.traceOne_up (s : State) (x y : ℕ) : (s.traceOne x y).up = s.up := by
  unfold State.traceOne; try dsimp only
  (repeat' split) <;> first | rfl | (simp; done)
@[simp] theorem State.traceOne_freeN (s : State) (x y : ℕ) : (s.traceOne x y).freeN = s.freeN := by
  unfold State.traceOne; try dsimp only
  (repeat' split) <;> first | rfl | (simp; done)
@[simp] theorem State.traceOne_tr (s : State) (x y : ℕ) : (s.traceOne x y).tr = s.tr := by
  unfold State.traceOne; try dsimp only
  (repeat' split) <;> first | rfl | (simp; done)
@[simp] theorem State.traceOne_time (s : State) (x y : ℕ) : (s.traceOne x y).time = s.time := by
  unfold State.traceOne; try dsimp only
  (repeat' split) <;> first | rfl | (simp; done)
@[simp] theorem State.traceOne_pool (s : State) (x y : ℕ) : (s.traceOne x y).pool = s.pool := by
  unfold State.traceOne; try dsimp only
  (repeat' split) <;> first | rfl | (simp; done)
@[simp] theorem State.traceOne_coh (s : State) (x y : ℕ) : (s.traceOne x y).coh = s.coh := by
  unfold State.traceOne; try dsimp only
  (repeat' split) <;> first | rfl | (simp; done)
@[simp] theorem State.traceOne_flt (s : State) (x y : ℕ) : (s.traceOne x y).flt = s.flt := by
  unfold State.traceOne; try dsimp only
  (repeat' split) <;> first | rfl | (simp; done)
@[simp] theorem State.traceOne_cpu (s : State) (x y : ℕ) : (s.traceOne x y).cpu = s.cpu := by
  unfold State.traceOne; try dsimp only
  (repeat' split) <;> first | rfl | (simp; done)
@[simp] theorem State.traceOne_sw (s : State) (x y : ℕ) : (s.traceOne x y).sw = s.sw := by
  unfold State.traceOne; try dsimp only
  (repeat' split) <;> first | rfl | (simp; done)
@[simp] theorem State.traceOne_tm (s : State) (x y : ℕ) : (s.traceOne x y).tm = s.tm := by
  unfold State.traceOne; try dsimp only
  (repeat' split) <;> first | rfl | (simp; done)
@[simp] theorem State.traceOne_ports (s : State) (x y : ℕ) : (s.traceOne x y).ports = s.ports := by
  unfold State.traceOne; try dsimp only
  (repeat' split) <;> first | rfl | (simp; done)
@[simp] theorem State.traceOne_mt (s : State) (x y : ℕ) : (s.traceOne x y).mt = s.mt := by
  unfold State.traceOne; try dsimp only
  (repeat' split) <;> first | rfl | (simp; done)
@[simp] theorem State.traceOne_co (s : State) (x y : ℕ) : (s.traceOne x y).co = s.co := by
  unfold State.traceOne; try dsimp only
  (repeat' split) <;> first | rfl | (simp; done)
@[simp] theorem State.traceOne_own (s : State) (x y : ℕ) : (s.traceOne x y).own = s.own := by
  unfold State.traceOne; try dsimp only
  (repeat' split) <;> first | rfl | (simp; done)
@[simp] theorem State.traceOne_nand (s : State) (x y : ℕ) : (s.traceOne x y).nand = s.nand := by
  unfold State.traceOne; try dsimp only
  (repeat' split) <;> first | rfl | (simp; done)
@[simp] theorem State.traceOne_sec (s : State) (x y : ℕ) : (s.traceOne x y).sec = s.sec := by
  unfold State.traceOne; try dsimp only
  (repeat' split) <;> first | rfl | (simp; done)
@[simp] theorem State.traceOne_mg (s : State) (x y : ℕ) : (s.traceOne x y).mg = s.mg := by
  unfold State.traceOne; try dsimp only
  (repeat' split) <;> first | rfl | (simp; done)
@[simp] theorem State.traceOne_pwr (s : State) (x y : ℕ) : (s.traceOne x y).pwr = s.pwr := by
  unfold State.traceOne; try dsimp only
  (repeat' split) <;> first | rfl | (simp; done)
@[simp] theorem State.traceOne_pins (s : State) (x y : ℕ) : (s.traceOne x y).pins = s.pins := by
  unfold State.traceOne; try dsimp only
  (repeat' split) <;> first | rfl | (simp; done)
@[simp] theorem State.trace_pending (s : State) (x : ℕ) (y : TraceEvent) (z : List Byte) : (s.trace x y z).pending = s.pending := by
  unfold State.trace; try dsimp only
  (repeat' split) <;> first | rfl | (simp; done)
@[simp] theorem State.trace_outbox (s : State) (x : ℕ) (y : TraceEvent) (z : List Byte) : (s.trace x y z).outbox = s.outbox := by
  unfold State.trace; try dsimp only
  (repeat' split) <;> first | rfl | (simp; done)
@[simp] theorem State.trace_up (s : State) (x : ℕ) (y : TraceEvent) (z : List Byte) : (s.trace x y z).up = s.up := by
  unfold State.trace; try dsimp only
  (repeat' split) <;> first | rfl | (simp; done)
@[simp] theorem State.trace_freeN (s : State) (x : ℕ) (y : TraceEvent) (z : List Byte) : (s.trace x y z).freeN = s.freeN := by
  unfold State.trace; try dsimp only
  (repeat' split) <;> first | rfl | (simp; done)
@[simp] theorem State.trace_tr (s : State) (x : ℕ) (y : TraceEvent) (z : List Byte) : (s.trace x y z).tr = s.tr := by
  unfold State.trace; try dsimp only
  (repeat' split) <;> first | rfl | (simp; done)
@[simp] theorem State.trace_time (s : State) (x : ℕ) (y : TraceEvent) (z : List Byte) : (s.trace x y z).time = s.time := by
  unfold State.trace; try dsimp only
  (repeat' split) <;> first | rfl | (simp; done)
@[simp] theorem State.trace_pool (s : State) (x : ℕ) (y : TraceEvent) (z : List Byte) : (s.trace x y z).pool = s.pool := by
  unfold State.trace; try dsimp only
  (repeat' split) <;> first | rfl | (simp; done)
@[simp] theorem State.trace_coh (s : State) (x : ℕ) (y : TraceEvent) (z : List Byte) : (s.trace x y z).coh = s.coh := by
  unfold State.trace; try dsimp only
  (repeat' split) <;> first | rfl | (simp; done)
@[simp] theorem State.trace_flt (s : State) (x : ℕ) (y : TraceEvent) (z : List Byte) : (s.trace x y z).flt = s.flt := by
  unfold State.trace; try dsimp only
  (repeat' split) <;> first | rfl | (simp; done)
@[simp] theorem State.trace_cpu (s : State) (x : ℕ) (y : TraceEvent) (z : List Byte) : (s.trace x y z).cpu = s.cpu := by
  unfold State.trace; try dsimp only
  (repeat' split) <;> first | rfl | (simp; done)
@[simp] theorem State.trace_sw (s : State) (x : ℕ) (y : TraceEvent) (z : List Byte) : (s.trace x y z).sw = s.sw := by
  unfold State.trace; try dsimp only
  (repeat' split) <;> first | rfl | (simp; done)
@[simp] theorem State.trace_tm (s : State) (x : ℕ) (y : TraceEvent) (z : List Byte) : (s.trace x y z).tm = s.tm := by
  unfold State.trace; try dsimp only
  (repeat' split) <;> first | rfl | (simp; done)
@[simp] theorem State.trace_ports (s : State) (x : ℕ) (y : TraceEvent) (z : List Byte) : (s.trace x y z).ports = s.ports := by
  unfold State.trace; try dsimp only
  (repeat' split) <;> first | rfl | (simp; done)
@[simp] theorem State.trace_mt (s : State) (x : ℕ) (y : TraceEvent) (z : List Byte) : (s.trace x y z).mt = s.mt := by
  unfold State.trace; try dsimp only
  (repeat' split) <;> first | rfl | (simp; done)
@[simp] theorem State.trace_co (s : State) (x : ℕ) (y : TraceEvent) (z : List Byte) : (s.trace x y z).co = s.co := by
  unfold State.trace; try dsimp only
  (repeat' split) <;> first | rfl | (simp; done)
@[simp] theorem State.trace_own (s : State) (x : ℕ) (y : TraceEvent) (z : List Byte) : (s.trace x y z).own = s.own := by
  unfold State.trace; try dsimp only
  (repeat' split) <;> first | rfl | (simp; done)
@[simp] theorem State.trace_nand (s : State) (x : ℕ) (y : TraceEvent) (z : List Byte) : (s.trace x y z).nand = s.nand := by
  unfold State.trace; try dsimp only
  (repeat' split) <;> first | rfl | (simp; done)
@[simp] theorem State.trace_sec (s : State) (x : ℕ) (y : TraceEvent) (z : List Byte) : (s.trace x y z).sec = s.sec := by
  unfold State.trace; try dsimp only
  (repeat' split) <;> first | rfl | (simp; done)
@[simp] theorem State.trace_mg (s : State) (x : ℕ) (y : TraceEvent) (z : List Byte) : (s.trace x y z).mg = s.mg := by
  unfold State.trace; try dsimp only
  (repeat' split) <;> first | rfl | (simp; done)
@[simp] theorem State.trace_pwr (s : State) (x : ℕ) (y : TraceEvent) (z : List Byte) : (s.trace x y z).pwr = s.pwr := by
  unfold State.trace; try dsimp only
  (repeat' split) <;> first | rfl | (simp; done)
@[simp] theorem State.trace_pins (s : State) (x : ℕ) (y : TraceEvent) (z : List Byte) : (s.trace x y z).pins = s.pins := by
  unfold State.trace; try dsimp only
  (repeat' split) <;> first | rfl | (simp; done)
@[simp] theorem State.deliver_pending (s : State) (x : EventRec) : (s.deliver x).pending = s.pending := by
  unfold State.deliver; try dsimp only
  (repeat' split) <;> first | rfl | (simp; done)
@[simp] theorem State.deliver_outbox (s : State) (x : EventRec) : (s.deliver x).outbox = s.outbox := by
  unfold State.deliver; try dsimp only
  (repeat' split) <;> first | rfl | (simp; done)
@[simp] theorem State.deliver_up (s : State) (x : EventRec) : (s.deliver x).up = s.up := by
  unfold State.deliver; try dsimp only
  (repeat' split) <;> first | rfl | (simp; done)
@[simp] theorem State.deliver_freeN (s : State) (x : EventRec) : (s.deliver x).freeN = s.freeN := by
  unfold State.deliver; try dsimp only
  (repeat' split) <;> first | rfl | (simp; done)
@[simp] theorem State.deliver_tr (s : State) (x : EventRec) : (s.deliver x).tr = s.tr := by
  unfold State.deliver; try dsimp only
  (repeat' split) <;> first | rfl | (simp; done)
@[simp] theorem State.deliver_time (s : State) (x : EventRec) : (s.deliver x).time = s.time := by
  unfold State.deliver; try dsimp only
  (repeat' split) <;> first | rfl | (simp; done)
@[simp] theorem State.deliver_pool (s : State) (x : EventRec) : (s.deliver x).pool = s.pool := by
  unfold State.deliver; try dsimp only
  (repeat' split) <;> first | rfl | (simp; done)
@[simp] theorem State.deliver_coh (s : State) (x : EventRec) : (s.deliver x).coh = s.coh := by
  unfold State.deliver; try dsimp only
  (repeat' split) <;> first | rfl | (simp; done)
@[simp] theorem State.deliver_cpu (s : State) (x : EventRec) : (s.deliver x).cpu = s.cpu := by
  unfold State.deliver; try dsimp only
  (repeat' split) <;> first | rfl | (simp; done)
@[simp] theorem State.deliver_sw (s : State) (x : EventRec) : (s.deliver x).sw = s.sw := by
  unfold State.deliver; try dsimp only
  (repeat' split) <;> first | rfl | (simp; done)
@[simp] theorem State.deliver_tm (s : State) (x : EventRec) : (s.deliver x).tm = s.tm := by
  unfold State.deliver; try dsimp only
  (repeat' split) <;> first | rfl | (simp; done)
@[simp] theorem State.deliver_ports (s : State) (x : EventRec) : (s.deliver x).ports = s.ports := by
  unfold State.deliver; try dsimp only
  (repeat' split) <;> first | rfl | (simp; done)
@[simp] theorem State.deliver_mt (s : State) (x : EventRec) : (s.deliver x).mt = s.mt := by
  unfold State.deliver; try dsimp only
  (repeat' split) <;> first | rfl | (simp; done)
@[simp] theorem State.deliver_co (s : State) (x : EventRec) : (s.deliver x).co = s.co := by
  unfold State.deliver; try dsimp only
  (repeat' split) <;> first | rfl | (simp; done)
@[simp] theorem State.deliver_own (s : State) (x : EventRec) : (s.deliver x).own = s.own := by
  unfold State.deliver; try dsimp only
  (repeat' split) <;> first | rfl | (simp; done)
@[simp] theorem State.deliver_nand (s : State) (x : EventRec) : (s.deliver x).nand = s.nand := by
  unfold State.deliver; try dsimp only
  (repeat' split) <;> first | rfl | (simp; done)
@[simp] theorem State.deliver_sec (s : State) (x : EventRec) : (s.deliver x).sec = s.sec := by
  unfold State.deliver; try dsimp only
  (repeat' split) <;> first | rfl | (simp; done)
@[simp] theorem State.deliver_mg (s : State) (x : EventRec) : (s.deliver x).mg = s.mg := by
  unfold State.deliver; try dsimp only
  (repeat' split) <;> first | rfl | (simp; done)
@[simp] theorem State.deliver_pwr (s : State) (x : EventRec) : (s.deliver x).pwr = s.pwr := by
  unfold State.deliver; try dsimp only
  (repeat' split) <;> first | rfl | (simp; done)
@[simp] theorem State.deliver_pins (s : State) (x : EventRec) : (s.deliver x).pins = s.pins := by
  unfold State.deliver; try dsimp only
  (repeat' split) <;> first | rfl | (simp; done)
@[simp] theorem State.deliver_dbg (s : State) (x : EventRec) : (s.deliver x).dbg = s.dbg := by
  unfold State.deliver; try dsimp only
  (repeat' split) <;> first | rfl | (simp; done)
@[simp] theorem State.deliverSeq_pending (s : State) (x : EventRec) : (s.deliverSeq x).pending = s.pending := by
  unfold State.deliverSeq; try dsimp only
  (repeat' split) <;> first | rfl | (simp; done)
@[simp] theorem State.deliverSeq_outbox (s : State) (x : EventRec) : (s.deliverSeq x).outbox = s.outbox := by
  unfold State.deliverSeq; try dsimp only
  (repeat' split) <;> first | rfl | (simp; done)
@[simp] theorem State.deliverSeq_up (s : State) (x : EventRec) : (s.deliverSeq x).up = s.up := by
  unfold State.deliverSeq; try dsimp only
  (repeat' split) <;> first | rfl | (simp; done)
@[simp] theorem State.deliverSeq_freeN (s : State) (x : EventRec) : (s.deliverSeq x).freeN = s.freeN := by
  unfold State.deliverSeq; try dsimp only
  (repeat' split) <;> first | rfl | (simp; done)
@[simp] theorem State.deliverSeq_tr (s : State) (x : EventRec) : (s.deliverSeq x).tr = s.tr := by
  unfold State.deliverSeq; try dsimp only
  (repeat' split) <;> first | rfl | (simp; done)
@[simp] theorem State.deliverSeq_time (s : State) (x : EventRec) : (s.deliverSeq x).time = s.time := by
  unfold State.deliverSeq; try dsimp only
  (repeat' split) <;> first | rfl | (simp; done)
@[simp] theorem State.deliverSeq_pool (s : State) (x : EventRec) : (s.deliverSeq x).pool = s.pool := by
  unfold State.deliverSeq; try dsimp only
  (repeat' split) <;> first | rfl | (simp; done)
@[simp] theorem State.deliverSeq_coh (s : State) (x : EventRec) : (s.deliverSeq x).coh = s.coh := by
  unfold State.deliverSeq; try dsimp only
  (repeat' split) <;> first | rfl | (simp; done)
@[simp] theorem State.deliverSeq_cpu (s : State) (x : EventRec) : (s.deliverSeq x).cpu = s.cpu := by
  unfold State.deliverSeq; try dsimp only
  (repeat' split) <;> first | rfl | (simp; done)
@[simp] theorem State.deliverSeq_sw (s : State) (x : EventRec) : (s.deliverSeq x).sw = s.sw := by
  unfold State.deliverSeq; try dsimp only
  (repeat' split) <;> first | rfl | (simp; done)
@[simp] theorem State.deliverSeq_tm (s : State) (x : EventRec) : (s.deliverSeq x).tm = s.tm := by
  unfold State.deliverSeq; try dsimp only
  (repeat' split) <;> first | rfl | (simp; done)
@[simp] theorem State.deliverSeq_ports (s : State) (x : EventRec) : (s.deliverSeq x).ports = s.ports := by
  unfold State.deliverSeq; try dsimp only
  (repeat' split) <;> first | rfl | (simp; done)
@[simp] theorem State.deliverSeq_mt (s : State) (x : EventRec) : (s.deliverSeq x).mt = s.mt := by
  unfold State.deliverSeq; try dsimp only
  (repeat' split) <;> first | rfl | (simp; done)
@[simp] theorem State.deliverSeq_co (s : State) (x : EventRec) : (s.deliverSeq x).co = s.co := by
  unfold State.deliverSeq; try dsimp only
  (repeat' split) <;> first | rfl | (simp; done)
@[simp] theorem State.deliverSeq_own (s : State) (x : EventRec) : (s.deliverSeq x).own = s.own := by
  unfold State.deliverSeq; try dsimp only
  (repeat' split) <;> first | rfl | (simp; done)
@[simp] theorem State.deliverSeq_nand (s : State) (x : EventRec) : (s.deliverSeq x).nand = s.nand := by
  unfold State.deliverSeq; try dsimp only
  (repeat' split) <;> first | rfl | (simp; done)
@[simp] theorem State.deliverSeq_sec (s : State) (x : EventRec) : (s.deliverSeq x).sec = s.sec := by
  unfold State.deliverSeq; try dsimp only
  (repeat' split) <;> first | rfl | (simp; done)
@[simp] theorem State.deliverSeq_mg (s : State) (x : EventRec) : (s.deliverSeq x).mg = s.mg := by
  unfold State.deliverSeq; try dsimp only
  (repeat' split) <;> first | rfl | (simp; done)
@[simp] theorem State.deliverSeq_pwr (s : State) (x : EventRec) : (s.deliverSeq x).pwr = s.pwr := by
  unfold State.deliverSeq; try dsimp only
  (repeat' split) <;> first | rfl | (simp; done)
@[simp] theorem State.deliverSeq_pins (s : State) (x : EventRec) : (s.deliverSeq x).pins = s.pins := by
  unfold State.deliverSeq; try dsimp only
  (repeat' split) <;> first | rfl | (simp; done)
@[simp] theorem State.endMerge_pending (s : State) (x : MergeRec) : (s.endMerge x).pending = s.pending := by
  unfold State.endMerge; try dsimp only
  (repeat' split) <;> first | rfl | (simp; done)
@[simp] theorem State.endMerge_outbox (s : State) (x : MergeRec) : (s.endMerge x).outbox = s.outbox := by
  unfold State.endMerge; try dsimp only
  (repeat' split) <;> first | rfl | (simp; done)
@[simp] theorem State.endMerge_up (s : State) (x : MergeRec) : (s.endMerge x).up = s.up := by
  unfold State.endMerge; try dsimp only
  (repeat' split) <;> first | rfl | (simp; done)
@[simp] theorem State.endMerge_freeN (s : State) (x : MergeRec) : (s.endMerge x).freeN = s.freeN := by
  unfold State.endMerge; try dsimp only
  (repeat' split) <;> first | rfl | (simp; done)
@[simp] theorem State.endMerge_tr (s : State) (x : MergeRec) : (s.endMerge x).tr = s.tr := by
  unfold State.endMerge; try dsimp only
  (repeat' split) <;> first | rfl | (simp; done)
@[simp] theorem State.endMerge_time (s : State) (x : MergeRec) : (s.endMerge x).time = s.time := by
  unfold State.endMerge; try dsimp only
  (repeat' split) <;> first | rfl | (simp; done)
@[simp] theorem State.endMerge_pool (s : State) (x : MergeRec) : (s.endMerge x).pool = s.pool := by
  unfold State.endMerge; try dsimp only
  (repeat' split) <;> first | rfl | (simp; done)
@[simp] theorem State.endMerge_coh (s : State) (x : MergeRec) : (s.endMerge x).coh = s.coh := by
  unfold State.endMerge; try dsimp only
  (repeat' split) <;> first | rfl | (simp; done)
@[simp] theorem State.endMerge_cpu (s : State) (x : MergeRec) : (s.endMerge x).cpu = s.cpu := by
  unfold State.endMerge; try dsimp only
  (repeat' split) <;> first | rfl | (simp; done)
@[simp] theorem State.endMerge_sw (s : State) (x : MergeRec) : (s.endMerge x).sw = s.sw := by
  unfold State.endMerge; try dsimp only
  (repeat' split) <;> first | rfl | (simp; done)
@[simp] theorem State.endMerge_tm (s : State) (x : MergeRec) : (s.endMerge x).tm = s.tm := by
  unfold State.endMerge; try dsimp only
  (repeat' split) <;> first | rfl | (simp; done)
@[simp] theorem State.endMerge_ports (s : State) (x : MergeRec) : (s.endMerge x).ports = s.ports := by
  unfold State.endMerge; try dsimp only
  (repeat' split) <;> first | rfl | (simp; done)
@[simp] theorem State.endMerge_mt (s : State) (x : MergeRec) : (s.endMerge x).mt = s.mt := by
  unfold State.endMerge; try dsimp only
  (repeat' split) <;> first | rfl | (simp; done)
@[simp] theorem State.endMerge_co (s : State) (x : MergeRec) : (s.endMerge x).co = s.co := by
  unfold State.endMerge; try dsimp only
  (repeat' split) <;> first | rfl | (simp; done)
@[simp] theorem State.endMerge_own (s : State) (x : MergeRec) : (s.endMerge x).own = s.own := by
  unfold State.endMerge; try dsimp only
  (repeat' split) <;> first | rfl | (simp; done)
@[simp] theorem State.endMerge_nand (s : State) (x : MergeRec) : (s.endMerge x).nand = s.nand := by
  unfold State.endMerge; try dsimp only
  (repeat' split) <;> first | rfl | (simp; done)
@[simp] theorem State.endMerge_sec (s : State) (x : MergeRec) : (s.endMerge x).sec = s.sec := by
  unfold State.endMerge; try dsimp only
  (repeat' split) <;> first | rfl | (simp; done)
@[simp] theorem State.endMerge_mg (s : State) (x : MergeRec) : (s.endMerge x).mg = s.mg := by
  unfold State.endMerge; try dsimp only
  (repeat' split) <;> first | rfl | (simp; done)
@[simp] theorem State.endMerge_pwr (s : State) (x : MergeRec) : (s.endMerge x).pwr = s.pwr := by
  unfold State.endMerge; try dsimp only
  (repeat' split) <;> first | rfl | (simp; done)
@[simp] theorem State.endMerge_pins (s : State) (x : MergeRec) : (s.endMerge x).pins = s.pins := by
  unfold State.endMerge; try dsimp only
  (repeat' split) <;> first | rfl | (simp; done)
@[simp] theorem State.raise_pending (s : State) (x y z w u : ℕ) : (s.raise x y z w u).pending = s.pending := by
  unfold State.raise; try dsimp only
  (repeat' split) <;> first | rfl | (simp; done)
@[simp] theorem State.raise_outbox (s : State) (x y z w u : ℕ) : (s.raise x y z w u).outbox = s.outbox := by
  unfold State.raise; try dsimp only
  (repeat' split) <;> first | rfl | (simp; done)
@[simp] theorem State.raise_up (s : State) (x y z w u : ℕ) : (s.raise x y z w u).up = s.up := by
  unfold State.raise; try dsimp only
  (repeat' split) <;> first | rfl | (simp; done)
@[simp] theorem State.raise_freeN (s : State) (x y z w u : ℕ) : (s.raise x y z w u).freeN = s.freeN := by
  unfold State.raise; try dsimp only
  (repeat' split) <;> first | rfl | (simp; done)
@[simp] theorem State.raise_od (s : State) (x y z w u : ℕ) : (s.raise x y z w u).od = s.od := by
  unfold State.raise; try dsimp only
  (repeat' split) <;> first | rfl | (simp; done)
@[simp] theorem State.raise_tr (s : State) (x y z w u : ℕ) : (s.raise x y z w u).tr = s.tr := by
  unfold State.raise; try dsimp only
  (repeat' split) <;> first | rfl | (simp; done)
@[simp] theorem State.raise_time (s : State) (x y z w u : ℕ) : (s.raise x y z w u).time = s.time := by
  unfold State.raise; try dsimp only
  (repeat' split) <;> first | rfl | (simp; done)
@[simp] theorem State.raise_pool (s : State) (x y z w u : ℕ) : (s.raise x y z w u).pool = s.pool := by
  unfold State.raise; try dsimp only
  (repeat' split) <;> first | rfl | (simp; done)
@[simp] theorem State.raise_coh (s : State) (x y z w u : ℕ) : (s.raise x y z w u).coh = s.coh := by
  unfold State.raise; try dsimp only
  (repeat' split) <;> first | rfl | (simp; done)
@[simp] theorem State.raise_cpu (s : State) (x y z w u : ℕ) : (s.raise x y z w u).cpu = s.cpu := by
  unfold State.raise; try dsimp only
  (repeat' split) <;> first | rfl | (simp; done)
@[simp] theorem State.raise_sw (s : State) (x y z w u : ℕ) : (s.raise x y z w u).sw = s.sw := by
  unfold State.raise; try dsimp only
  (repeat' split) <;> first | rfl | (simp; done)
@[simp] theorem State.raise_tm (s : State) (x y z w u : ℕ) : (s.raise x y z w u).tm = s.tm := by
  unfold State.raise; try dsimp only
  (repeat' split) <;> first | rfl | (simp; done)
@[simp] theorem State.raise_ports (s : State) (x y z w u : ℕ) : (s.raise x y z w u).ports = s.ports := by
  unfold State.raise; try dsimp only
  (repeat' split) <;> first | rfl | (simp; done)
@[simp] theorem State.raise_mt (s : State) (x y z w u : ℕ) : (s.raise x y z w u).mt = s.mt := by
  unfold State.raise; try dsimp only
  (repeat' split) <;> first | rfl | (simp; done)
@[simp] theorem State.raise_co (s : State) (x y z w u : ℕ) : (s.raise x y z w u).co = s.co := by
  unfold State.raise; try dsimp only
  (repeat' split) <;> first | rfl | (simp; done)
@[simp] theorem State.raise_own (s : State) (x y z w u : ℕ) : (s.raise x y z w u).own = s.own := by
  unfold State.raise; try dsimp only
  (repeat' split) <;> first | rfl | (simp; done)
@[simp] theorem State.raise_nand (s : State) (x y z w u : ℕ) : (s.raise x y z w u).nand = s.nand := by
  unfold State.raise; try dsimp only
  (repeat' split) <;> first | rfl | (simp; done)
@[simp] theorem State.raise_sec (s : State) (x y z w u : ℕ) : (s.raise x y z w u).sec = s.sec := by
  unfold State.raise; try dsimp only
  (repeat' split) <;> first | rfl | (simp; done)
@[simp] theorem State.raise_mg (s : State) (x y z w u : ℕ) : (s.raise x y z w u).mg = s.mg := by
  unfold State.raise; try dsimp only
  (repeat' split) <;> first | rfl | (simp; done)
@[simp] theorem State.raise_pwr (s : State) (x y z w u : ℕ) : (s.raise x y z w u).pwr = s.pwr := by
  unfold State.raise; try dsimp only
  (repeat' split) <;> first | rfl | (simp; done)
@[simp] theorem State.raise_pins (s : State) (x y z w u : ℕ) : (s.raise x y z w u).pins = s.pins := by
  unfold State.raise; try dsimp only
  (repeat' split) <;> first | rfl | (simp; done)
@[simp] theorem State.raise_dbg (s : State) (x y z w u : ℕ) : (s.raise x y z w u).dbg = s.dbg := by
  unfold State.raise; try dsimp only
  (repeat' split) <;> first | rfl | (simp; done)
@[simp] theorem State.record_pending (s : State) (x : EventRec) : (s.record x).pending = s.pending := by
  unfold State.record; try dsimp only
  (repeat' split) <;> first | rfl | (simp; done)
@[simp] theorem State.record_outbox (s : State) (x : EventRec) : (s.record x).outbox = s.outbox := by
  unfold State.record; try dsimp only
  (repeat' split) <;> first | rfl | (simp; done)
@[simp] theorem State.record_up (s : State) (x : EventRec) : (s.record x).up = s.up := by
  unfold State.record; try dsimp only
  (repeat' split) <;> first | rfl | (simp; done)
@[simp] theorem State.record_freeN (s : State) (x : EventRec) : (s.record x).freeN = s.freeN := by
  unfold State.record; try dsimp only
  (repeat' split) <;> first | rfl | (simp; done)
@[simp] theorem State.record_tr (s : State) (x : EventRec) : (s.record x).tr = s.tr := by
  unfold State.record; try dsimp only
  (repeat' split) <;> first | rfl | (simp; done)
@[simp] theorem State.record_time (s : State) (x : EventRec) : (s.record x).time = s.time := by
  unfold State.record; try dsimp only
  (repeat' split) <;> first | rfl | (simp; done)
@[simp] theorem State.record_pool (s : State) (x : EventRec) : (s.record x).pool = s.pool := by
  unfold State.record; try dsimp only
  (repeat' split) <;> first | rfl | (simp; done)
@[simp] theorem State.record_coh (s : State) (x : EventRec) : (s.record x).coh = s.coh := by
  unfold State.record; try dsimp only
  (repeat' split) <;> first | rfl | (simp; done)
@[simp] theorem State.record_cpu (s : State) (x : EventRec) : (s.record x).cpu = s.cpu := by
  unfold State.record; try dsimp only
  (repeat' split) <;> first | rfl | (simp; done)
@[simp] theorem State.record_sw (s : State) (x : EventRec) : (s.record x).sw = s.sw := by
  unfold State.record; try dsimp only
  (repeat' split) <;> first | rfl | (simp; done)
@[simp] theorem State.record_tm (s : State) (x : EventRec) : (s.record x).tm = s.tm := by
  unfold State.record; try dsimp only
  (repeat' split) <;> first | rfl | (simp; done)
@[simp] theorem State.record_ports (s : State) (x : EventRec) : (s.record x).ports = s.ports := by
  unfold State.record; try dsimp only
  (repeat' split) <;> first | rfl | (simp; done)
@[simp] theorem State.record_mt (s : State) (x : EventRec) : (s.record x).mt = s.mt := by
  unfold State.record; try dsimp only
  (repeat' split) <;> first | rfl | (simp; done)
@[simp] theorem State.record_co (s : State) (x : EventRec) : (s.record x).co = s.co := by
  unfold State.record; try dsimp only
  (repeat' split) <;> first | rfl | (simp; done)
@[simp] theorem State.record_own (s : State) (x : EventRec) : (s.record x).own = s.own := by
  unfold State.record; try dsimp only
  (repeat' split) <;> first | rfl | (simp; done)
@[simp] theorem State.record_nand (s : State) (x : EventRec) : (s.record x).nand = s.nand := by
  unfold State.record; try dsimp only
  (repeat' split) <;> first | rfl | (simp; done)
@[simp] theorem State.record_sec (s : State) (x : EventRec) : (s.record x).sec = s.sec := by
  unfold State.record; try dsimp only
  (repeat' split) <;> first | rfl | (simp; done)
@[simp] theorem State.record_mg (s : State) (x : EventRec) : (s.record x).mg = s.mg := by
  unfold State.record; try dsimp only
  (repeat' split) <;> first | rfl | (simp; done)
@[simp] theorem State.record_pwr (s : State) (x : EventRec) : (s.record x).pwr = s.pwr := by
  unfold State.record; try dsimp only
  (repeat' split) <;> first | rfl | (simp; done)
@[simp] theorem State.record_pins (s : State) (x : EventRec) : (s.record x).pins = s.pins := by
  unfold State.record; try dsimp only
  (repeat' split) <;> first | rfl | (simp; done)
@[simp] theorem State.emitAs_pending (s : State) (x y z w u v a : ℕ) (b : List ℕ) : (s.emitAs x y z w u v a b).pending = s.pending := by
  unfold State.emitAs; try dsimp only
  (repeat' split) <;> first | rfl | (simp; done)
@[simp] theorem State.emitAs_outbox (s : State) (x y z w u v a : ℕ) (b : List ℕ) : (s.emitAs x y z w u v a b).outbox = s.outbox := by
  unfold State.emitAs; try dsimp only
  (repeat' split) <;> first | rfl | (simp; done)
@[simp] theorem State.emitAs_up (s : State) (x y z w u v a : ℕ) (b : List ℕ) : (s.emitAs x y z w u v a b).up = s.up := by
  unfold State.emitAs; try dsimp only
  (repeat' split) <;> first | rfl | (simp; done)
@[simp] theorem State.emitAs_freeN (s : State) (x y z w u v a : ℕ) (b : List ℕ) : (s.emitAs x y z w u v a b).freeN = s.freeN := by
  unfold State.emitAs; try dsimp only
  (repeat' split) <;> first | rfl | (simp; done)
@[simp] theorem State.emitAs_tr (s : State) (x y z w u v a : ℕ) (b : List ℕ) : (s.emitAs x y z w u v a b).tr = s.tr := by
  unfold State.emitAs; try dsimp only
  (repeat' split) <;> first | rfl | (simp; done)
@[simp] theorem State.emitAs_time (s : State) (x y z w u v a : ℕ) (b : List ℕ) : (s.emitAs x y z w u v a b).time = s.time := by
  unfold State.emitAs; try dsimp only
  (repeat' split) <;> first | rfl | (simp; done)
@[simp] theorem State.emitAs_pool (s : State) (x y z w u v a : ℕ) (b : List ℕ) : (s.emitAs x y z w u v a b).pool = s.pool := by
  unfold State.emitAs; try dsimp only
  (repeat' split) <;> first | rfl | (simp; done)
@[simp] theorem State.emitAs_coh (s : State) (x y z w u v a : ℕ) (b : List ℕ) : (s.emitAs x y z w u v a b).coh = s.coh := by
  unfold State.emitAs; try dsimp only
  (repeat' split) <;> first | rfl | (simp; done)
@[simp] theorem State.emitAs_cpu (s : State) (x y z w u v a : ℕ) (b : List ℕ) : (s.emitAs x y z w u v a b).cpu = s.cpu := by
  unfold State.emitAs; try dsimp only
  (repeat' split) <;> first | rfl | (simp; done)
@[simp] theorem State.emitAs_sw (s : State) (x y z w u v a : ℕ) (b : List ℕ) : (s.emitAs x y z w u v a b).sw = s.sw := by
  unfold State.emitAs; try dsimp only
  (repeat' split) <;> first | rfl | (simp; done)
@[simp] theorem State.emitAs_tm (s : State) (x y z w u v a : ℕ) (b : List ℕ) : (s.emitAs x y z w u v a b).tm = s.tm := by
  unfold State.emitAs; try dsimp only
  (repeat' split) <;> first | rfl | (simp; done)
@[simp] theorem State.emitAs_ports (s : State) (x y z w u v a : ℕ) (b : List ℕ) : (s.emitAs x y z w u v a b).ports = s.ports := by
  unfold State.emitAs; try dsimp only
  (repeat' split) <;> first | rfl | (simp; done)
@[simp] theorem State.emitAs_mt (s : State) (x y z w u v a : ℕ) (b : List ℕ) : (s.emitAs x y z w u v a b).mt = s.mt := by
  unfold State.emitAs; try dsimp only
  (repeat' split) <;> first | rfl | (simp; done)
@[simp] theorem State.emitAs_co (s : State) (x y z w u v a : ℕ) (b : List ℕ) : (s.emitAs x y z w u v a b).co = s.co := by
  unfold State.emitAs; try dsimp only
  (repeat' split) <;> first | rfl | (simp; done)
@[simp] theorem State.emitAs_own (s : State) (x y z w u v a : ℕ) (b : List ℕ) : (s.emitAs x y z w u v a b).own = s.own := by
  unfold State.emitAs; try dsimp only
  (repeat' split) <;> first | rfl | (simp; done)
@[simp] theorem State.emitAs_nand (s : State) (x y z w u v a : ℕ) (b : List ℕ) : (s.emitAs x y z w u v a b).nand = s.nand := by
  unfold State.emitAs; try dsimp only
  (repeat' split) <;> first | rfl | (simp; done)
@[simp] theorem State.emitAs_sec (s : State) (x y z w u v a : ℕ) (b : List ℕ) : (s.emitAs x y z w u v a b).sec = s.sec := by
  unfold State.emitAs; try dsimp only
  (repeat' split) <;> first | rfl | (simp; done)
@[simp] theorem State.emitAs_mg (s : State) (x y z w u v a : ℕ) (b : List ℕ) : (s.emitAs x y z w u v a b).mg = s.mg := by
  unfold State.emitAs; try dsimp only
  (repeat' split) <;> first | rfl | (simp; done)
@[simp] theorem State.emitAs_pwr (s : State) (x y z w u v a : ℕ) (b : List ℕ) : (s.emitAs x y z w u v a b).pwr = s.pwr := by
  unfold State.emitAs; try dsimp only
  (repeat' split) <;> first | rfl | (simp; done)
@[simp] theorem State.emitAs_pins (s : State) (x y z w u v a : ℕ) (b : List ℕ) : (s.emitAs x y z w u v a b).pins = s.pins := by
  unfold State.emitAs; try dsimp only
  (repeat' split) <;> first | rfl | (simp; done)
@[simp] theorem State.emit_pending (s : State) (x y z w u v : ℕ) (a : List ℕ) : (s.emit x y z w u v a).pending = s.pending := by
  unfold State.emit; try dsimp only
  (repeat' split) <;> first | rfl | (simp; done)
@[simp] theorem State.emit_outbox (s : State) (x y z w u v : ℕ) (a : List ℕ) : (s.emit x y z w u v a).outbox = s.outbox := by
  unfold State.emit; try dsimp only
  (repeat' split) <;> first | rfl | (simp; done)
@[simp] theorem State.emit_up (s : State) (x y z w u v : ℕ) (a : List ℕ) : (s.emit x y z w u v a).up = s.up := by
  unfold State.emit; try dsimp only
  (repeat' split) <;> first | rfl | (simp; done)
@[simp] theorem State.emit_freeN (s : State) (x y z w u v : ℕ) (a : List ℕ) : (s.emit x y z w u v a).freeN = s.freeN := by
  unfold State.emit; try dsimp only
  (repeat' split) <;> first | rfl | (simp; done)
@[simp] theorem State.emit_tr (s : State) (x y z w u v : ℕ) (a : List ℕ) : (s.emit x y z w u v a).tr = s.tr := by
  unfold State.emit; try dsimp only
  (repeat' split) <;> first | rfl | (simp; done)
@[simp] theorem State.emit_time (s : State) (x y z w u v : ℕ) (a : List ℕ) : (s.emit x y z w u v a).time = s.time := by
  unfold State.emit; try dsimp only
  (repeat' split) <;> first | rfl | (simp; done)
@[simp] theorem State.emit_pool (s : State) (x y z w u v : ℕ) (a : List ℕ) : (s.emit x y z w u v a).pool = s.pool := by
  unfold State.emit; try dsimp only
  (repeat' split) <;> first | rfl | (simp; done)
@[simp] theorem State.emit_coh (s : State) (x y z w u v : ℕ) (a : List ℕ) : (s.emit x y z w u v a).coh = s.coh := by
  unfold State.emit; try dsimp only
  (repeat' split) <;> first | rfl | (simp; done)
@[simp] theorem State.emit_cpu (s : State) (x y z w u v : ℕ) (a : List ℕ) : (s.emit x y z w u v a).cpu = s.cpu := by
  unfold State.emit; try dsimp only
  (repeat' split) <;> first | rfl | (simp; done)
@[simp] theorem State.emit_sw (s : State) (x y z w u v : ℕ) (a : List ℕ) : (s.emit x y z w u v a).sw = s.sw := by
  unfold State.emit; try dsimp only
  (repeat' split) <;> first | rfl | (simp; done)
@[simp] theorem State.emit_tm (s : State) (x y z w u v : ℕ) (a : List ℕ) : (s.emit x y z w u v a).tm = s.tm := by
  unfold State.emit; try dsimp only
  (repeat' split) <;> first | rfl | (simp; done)
@[simp] theorem State.emit_ports (s : State) (x y z w u v : ℕ) (a : List ℕ) : (s.emit x y z w u v a).ports = s.ports := by
  unfold State.emit; try dsimp only
  (repeat' split) <;> first | rfl | (simp; done)
@[simp] theorem State.emit_mt (s : State) (x y z w u v : ℕ) (a : List ℕ) : (s.emit x y z w u v a).mt = s.mt := by
  unfold State.emit; try dsimp only
  (repeat' split) <;> first | rfl | (simp; done)
@[simp] theorem State.emit_co (s : State) (x y z w u v : ℕ) (a : List ℕ) : (s.emit x y z w u v a).co = s.co := by
  unfold State.emit; try dsimp only
  (repeat' split) <;> first | rfl | (simp; done)
@[simp] theorem State.emit_own (s : State) (x y z w u v : ℕ) (a : List ℕ) : (s.emit x y z w u v a).own = s.own := by
  unfold State.emit; try dsimp only
  (repeat' split) <;> first | rfl | (simp; done)
@[simp] theorem State.emit_nand (s : State) (x y z w u v : ℕ) (a : List ℕ) : (s.emit x y z w u v a).nand = s.nand := by
  unfold State.emit; try dsimp only
  (repeat' split) <;> first | rfl | (simp; done)
@[simp] theorem State.emit_sec (s : State) (x y z w u v : ℕ) (a : List ℕ) : (s.emit x y z w u v a).sec = s.sec := by
  unfold State.emit; try dsimp only
  (repeat' split) <;> first | rfl | (simp; done)
@[simp] theorem State.emit_mg (s : State) (x y z w u v : ℕ) (a : List ℕ) : (s.emit x y z w u v a).mg = s.mg := by
  unfold State.emit; try dsimp only
  (repeat' split) <;> first | rfl | (simp; done)
@[simp] theorem State.emit_pwr (s : State) (x y z w u v : ℕ) (a : List ℕ) : (s.emit x y z w u v a).pwr = s.pwr := by
  unfold State.emit; try dsimp only
  (repeat' split) <;> first | rfl | (simp; done)
@[simp] theorem State.emit_pins (s : State) (x y z w u v : ℕ) (a : List ℕ) : (s.emit x y z w u v a).pins = s.pins := by
  unfold State.emit; try dsimp only
  (repeat' split) <;> first | rfl | (simp; done)
@[simp] theorem State.addPoison_pending (s : State) (x : ℕ) : (s.addPoison x).pending = s.pending := by
  unfold State.addPoison; try dsimp only
  (repeat' split) <;> first | rfl | (simp; done)
@[simp] theorem State.addPoison_outbox (s : State) (x : ℕ) : (s.addPoison x).outbox = s.outbox := by
  unfold State.addPoison; try dsimp only
  (repeat' split) <;> first | rfl | (simp; done)
@[simp] theorem State.addPoison_up (s : State) (x : ℕ) : (s.addPoison x).up = s.up := by
  unfold State.addPoison; try dsimp only
  (repeat' split) <;> first | rfl | (simp; done)
@[simp] theorem State.addPoison_freeN (s : State) (x : ℕ) : (s.addPoison x).freeN = s.freeN := by
  unfold State.addPoison; try dsimp only
  (repeat' split) <;> first | rfl | (simp; done)
@[simp] theorem State.addPoison_od (s : State) (x : ℕ) : (s.addPoison x).od = s.od := by
  unfold State.addPoison; try dsimp only
  (repeat' split) <;> first | rfl | (simp; done)
@[simp] theorem State.addPoison_tr (s : State) (x : ℕ) : (s.addPoison x).tr = s.tr := by
  unfold State.addPoison; try dsimp only
  (repeat' split) <;> first | rfl | (simp; done)
@[simp] theorem State.addPoison_time (s : State) (x : ℕ) : (s.addPoison x).time = s.time := by
  unfold State.addPoison; try dsimp only
  (repeat' split) <;> first | rfl | (simp; done)
@[simp] theorem State.addPoison_coh (s : State) (x : ℕ) : (s.addPoison x).coh = s.coh := by
  unfold State.addPoison; try dsimp only
  (repeat' split) <;> first | rfl | (simp; done)
@[simp] theorem State.addPoison_flt (s : State) (x : ℕ) : (s.addPoison x).flt = s.flt := by
  unfold State.addPoison; try dsimp only
  (repeat' split) <;> first | rfl | (simp; done)
@[simp] theorem State.addPoison_cpu (s : State) (x : ℕ) : (s.addPoison x).cpu = s.cpu := by
  unfold State.addPoison; try dsimp only
  (repeat' split) <;> first | rfl | (simp; done)
@[simp] theorem State.addPoison_sw (s : State) (x : ℕ) : (s.addPoison x).sw = s.sw := by
  unfold State.addPoison; try dsimp only
  (repeat' split) <;> first | rfl | (simp; done)
@[simp] theorem State.addPoison_tm (s : State) (x : ℕ) : (s.addPoison x).tm = s.tm := by
  unfold State.addPoison; try dsimp only
  (repeat' split) <;> first | rfl | (simp; done)
@[simp] theorem State.addPoison_ports (s : State) (x : ℕ) : (s.addPoison x).ports = s.ports := by
  unfold State.addPoison; try dsimp only
  (repeat' split) <;> first | rfl | (simp; done)
@[simp] theorem State.addPoison_mt (s : State) (x : ℕ) : (s.addPoison x).mt = s.mt := by
  unfold State.addPoison; try dsimp only
  (repeat' split) <;> first | rfl | (simp; done)
@[simp] theorem State.addPoison_co (s : State) (x : ℕ) : (s.addPoison x).co = s.co := by
  unfold State.addPoison; try dsimp only
  (repeat' split) <;> first | rfl | (simp; done)
@[simp] theorem State.addPoison_own (s : State) (x : ℕ) : (s.addPoison x).own = s.own := by
  unfold State.addPoison; try dsimp only
  (repeat' split) <;> first | rfl | (simp; done)
@[simp] theorem State.addPoison_nand (s : State) (x : ℕ) : (s.addPoison x).nand = s.nand := by
  unfold State.addPoison; try dsimp only
  (repeat' split) <;> first | rfl | (simp; done)
@[simp] theorem State.addPoison_sec (s : State) (x : ℕ) : (s.addPoison x).sec = s.sec := by
  unfold State.addPoison; try dsimp only
  (repeat' split) <;> first | rfl | (simp; done)
@[simp] theorem State.addPoison_mg (s : State) (x : ℕ) : (s.addPoison x).mg = s.mg := by
  unfold State.addPoison; try dsimp only
  (repeat' split) <;> first | rfl | (simp; done)
@[simp] theorem State.addPoison_pwr (s : State) (x : ℕ) : (s.addPoison x).pwr = s.pwr := by
  unfold State.addPoison; try dsimp only
  (repeat' split) <;> first | rfl | (simp; done)
@[simp] theorem State.addPoison_pins (s : State) (x : ℕ) : (s.addPoison x).pins = s.pins := by
  unfold State.addPoison; try dsimp only
  (repeat' split) <;> first | rfl | (simp; done)
@[simp] theorem State.addPoison_dbg (s : State) (x : ℕ) : (s.addPoison x).dbg = s.dbg := by
  unfold State.addPoison; try dsimp only
  (repeat' split) <;> first | rfl | (simp; done)
@[simp] theorem State.setFwSlot_pending (s : State) (x : ℕ) (y : FwSlot) : (s.setFwSlot x y).pending = s.pending := by
  unfold State.setFwSlot; try dsimp only
  (repeat' split) <;> first | rfl | (simp; done)
@[simp] theorem State.setFwSlot_outbox (s : State) (x : ℕ) (y : FwSlot) : (s.setFwSlot x y).outbox = s.outbox := by
  unfold State.setFwSlot; try dsimp only
  (repeat' split) <;> first | rfl | (simp; done)
@[simp] theorem State.setFwSlot_up (s : State) (x : ℕ) (y : FwSlot) : (s.setFwSlot x y).up = s.up := by
  unfold State.setFwSlot; try dsimp only
  (repeat' split) <;> first | rfl | (simp; done)
@[simp] theorem State.setFwSlot_freeN (s : State) (x : ℕ) (y : FwSlot) : (s.setFwSlot x y).freeN = s.freeN := by
  unfold State.setFwSlot; try dsimp only
  (repeat' split) <;> first | rfl | (simp; done)
@[simp] theorem State.setFwSlot_od (s : State) (x : ℕ) (y : FwSlot) : (s.setFwSlot x y).od = s.od := by
  unfold State.setFwSlot; try dsimp only
  (repeat' split) <;> first | rfl | (simp; done)
@[simp] theorem State.setFwSlot_tr (s : State) (x : ℕ) (y : FwSlot) : (s.setFwSlot x y).tr = s.tr := by
  unfold State.setFwSlot; try dsimp only
  (repeat' split) <;> first | rfl | (simp; done)
@[simp] theorem State.setFwSlot_time (s : State) (x : ℕ) (y : FwSlot) : (s.setFwSlot x y).time = s.time := by
  unfold State.setFwSlot; try dsimp only
  (repeat' split) <;> first | rfl | (simp; done)
@[simp] theorem State.setFwSlot_pool (s : State) (x : ℕ) (y : FwSlot) : (s.setFwSlot x y).pool = s.pool := by
  unfold State.setFwSlot; try dsimp only
  (repeat' split) <;> first | rfl | (simp; done)
@[simp] theorem State.setFwSlot_coh (s : State) (x : ℕ) (y : FwSlot) : (s.setFwSlot x y).coh = s.coh := by
  unfold State.setFwSlot; try dsimp only
  (repeat' split) <;> first | rfl | (simp; done)
@[simp] theorem State.setFwSlot_flt (s : State) (x : ℕ) (y : FwSlot) : (s.setFwSlot x y).flt = s.flt := by
  unfold State.setFwSlot; try dsimp only
  (repeat' split) <;> first | rfl | (simp; done)
@[simp] theorem State.setFwSlot_cpu (s : State) (x : ℕ) (y : FwSlot) : (s.setFwSlot x y).cpu = s.cpu := by
  unfold State.setFwSlot; try dsimp only
  (repeat' split) <;> first | rfl | (simp; done)
@[simp] theorem State.setFwSlot_sw (s : State) (x : ℕ) (y : FwSlot) : (s.setFwSlot x y).sw = s.sw := by
  unfold State.setFwSlot; try dsimp only
  (repeat' split) <;> first | rfl | (simp; done)
@[simp] theorem State.setFwSlot_tm (s : State) (x : ℕ) (y : FwSlot) : (s.setFwSlot x y).tm = s.tm := by
  unfold State.setFwSlot; try dsimp only
  (repeat' split) <;> first | rfl | (simp; done)
@[simp] theorem State.setFwSlot_ports (s : State) (x : ℕ) (y : FwSlot) : (s.setFwSlot x y).ports = s.ports := by
  unfold State.setFwSlot; try dsimp only
  (repeat' split) <;> first | rfl | (simp; done)
@[simp] theorem State.setFwSlot_mt (s : State) (x : ℕ) (y : FwSlot) : (s.setFwSlot x y).mt = s.mt := by
  unfold State.setFwSlot; try dsimp only
  (repeat' split) <;> first | rfl | (simp; done)
@[simp] theorem State.setFwSlot_co (s : State) (x : ℕ) (y : FwSlot) : (s.setFwSlot x y).co = s.co := by
  unfold State.setFwSlot; try dsimp only
  (repeat' split) <;> first | rfl | (simp; done)
@[simp] theorem State.setFwSlot_own (s : State) (x : ℕ) (y : FwSlot) : (s.setFwSlot x y).own = s.own := by
  unfold State.setFwSlot; try dsimp only
  (repeat' split) <;> first | rfl | (simp; done)
@[simp] theorem State.setFwSlot_nand (s : State) (x : ℕ) (y : FwSlot) : (s.setFwSlot x y).nand = s.nand := by
  unfold State.setFwSlot; try dsimp only
  (repeat' split) <;> first | rfl | (simp; done)
@[simp] theorem State.setFwSlot_mg (s : State) (x : ℕ) (y : FwSlot) : (s.setFwSlot x y).mg = s.mg := by
  unfold State.setFwSlot; try dsimp only
  (repeat' split) <;> first | rfl | (simp; done)
@[simp] theorem State.setFwSlot_pwr (s : State) (x : ℕ) (y : FwSlot) : (s.setFwSlot x y).pwr = s.pwr := by
  unfold State.setFwSlot; try dsimp only
  (repeat' split) <;> first | rfl | (simp; done)
@[simp] theorem State.setFwSlot_pins (s : State) (x : ℕ) (y : FwSlot) : (s.setFwSlot x y).pins = s.pins := by
  unfold State.setFwSlot; try dsimp only
  (repeat' split) <;> first | rfl | (simp; done)
@[simp] theorem State.setFwSlot_dbg (s : State) (x : ℕ) (y : FwSlot) : (s.setFwSlot x y).dbg = s.dbg := by
  unfold State.setFwSlot; try dsimp only
  (repeat' split) <;> first | rfl | (simp; done)
@[simp] theorem State.setAttest_pending (s : State) (x : ℕ) (y : Attest) : (s.setAttest x y).pending = s.pending := by
  unfold State.setAttest; try dsimp only
  (repeat' split) <;> first | rfl | (simp; done)
@[simp] theorem State.setAttest_outbox (s : State) (x : ℕ) (y : Attest) : (s.setAttest x y).outbox = s.outbox := by
  unfold State.setAttest; try dsimp only
  (repeat' split) <;> first | rfl | (simp; done)
@[simp] theorem State.setAttest_up (s : State) (x : ℕ) (y : Attest) : (s.setAttest x y).up = s.up := by
  unfold State.setAttest; try dsimp only
  (repeat' split) <;> first | rfl | (simp; done)
@[simp] theorem State.setAttest_freeN (s : State) (x : ℕ) (y : Attest) : (s.setAttest x y).freeN = s.freeN := by
  unfold State.setAttest; try dsimp only
  (repeat' split) <;> first | rfl | (simp; done)
@[simp] theorem State.setAttest_od (s : State) (x : ℕ) (y : Attest) : (s.setAttest x y).od = s.od := by
  unfold State.setAttest; try dsimp only
  (repeat' split) <;> first | rfl | (simp; done)
@[simp] theorem State.setAttest_tr (s : State) (x : ℕ) (y : Attest) : (s.setAttest x y).tr = s.tr := by
  unfold State.setAttest; try dsimp only
  (repeat' split) <;> first | rfl | (simp; done)
@[simp] theorem State.setAttest_time (s : State) (x : ℕ) (y : Attest) : (s.setAttest x y).time = s.time := by
  unfold State.setAttest; try dsimp only
  (repeat' split) <;> first | rfl | (simp; done)
@[simp] theorem State.setAttest_pool (s : State) (x : ℕ) (y : Attest) : (s.setAttest x y).pool = s.pool := by
  unfold State.setAttest; try dsimp only
  (repeat' split) <;> first | rfl | (simp; done)
@[simp] theorem State.setAttest_coh (s : State) (x : ℕ) (y : Attest) : (s.setAttest x y).coh = s.coh := by
  unfold State.setAttest; try dsimp only
  (repeat' split) <;> first | rfl | (simp; done)
@[simp] theorem State.setAttest_flt (s : State) (x : ℕ) (y : Attest) : (s.setAttest x y).flt = s.flt := by
  unfold State.setAttest; try dsimp only
  (repeat' split) <;> first | rfl | (simp; done)
@[simp] theorem State.setAttest_cpu (s : State) (x : ℕ) (y : Attest) : (s.setAttest x y).cpu = s.cpu := by
  unfold State.setAttest; try dsimp only
  (repeat' split) <;> first | rfl | (simp; done)
@[simp] theorem State.setAttest_sw (s : State) (x : ℕ) (y : Attest) : (s.setAttest x y).sw = s.sw := by
  unfold State.setAttest; try dsimp only
  (repeat' split) <;> first | rfl | (simp; done)
@[simp] theorem State.setAttest_tm (s : State) (x : ℕ) (y : Attest) : (s.setAttest x y).tm = s.tm := by
  unfold State.setAttest; try dsimp only
  (repeat' split) <;> first | rfl | (simp; done)
@[simp] theorem State.setAttest_ports (s : State) (x : ℕ) (y : Attest) : (s.setAttest x y).ports = s.ports := by
  unfold State.setAttest; try dsimp only
  (repeat' split) <;> first | rfl | (simp; done)
@[simp] theorem State.setAttest_mt (s : State) (x : ℕ) (y : Attest) : (s.setAttest x y).mt = s.mt := by
  unfold State.setAttest; try dsimp only
  (repeat' split) <;> first | rfl | (simp; done)
@[simp] theorem State.setAttest_co (s : State) (x : ℕ) (y : Attest) : (s.setAttest x y).co = s.co := by
  unfold State.setAttest; try dsimp only
  (repeat' split) <;> first | rfl | (simp; done)
@[simp] theorem State.setAttest_own (s : State) (x : ℕ) (y : Attest) : (s.setAttest x y).own = s.own := by
  unfold State.setAttest; try dsimp only
  (repeat' split) <;> first | rfl | (simp; done)
@[simp] theorem State.setAttest_nand (s : State) (x : ℕ) (y : Attest) : (s.setAttest x y).nand = s.nand := by
  unfold State.setAttest; try dsimp only
  (repeat' split) <;> first | rfl | (simp; done)
@[simp] theorem State.setAttest_mg (s : State) (x : ℕ) (y : Attest) : (s.setAttest x y).mg = s.mg := by
  unfold State.setAttest; try dsimp only
  (repeat' split) <;> first | rfl | (simp; done)
@[simp] theorem State.setAttest_pwr (s : State) (x : ℕ) (y : Attest) : (s.setAttest x y).pwr = s.pwr := by
  unfold State.setAttest; try dsimp only
  (repeat' split) <;> first | rfl | (simp; done)
@[simp] theorem State.setAttest_pins (s : State) (x : ℕ) (y : Attest) : (s.setAttest x y).pins = s.pins := by
  unfold State.setAttest; try dsimp only
  (repeat' split) <;> first | rfl | (simp; done)
@[simp] theorem State.setAttest_dbg (s : State) (x : ℕ) (y : Attest) : (s.setAttest x y).dbg = s.dbg := by
  unfold State.setAttest; try dsimp only
  (repeat' split) <;> first | rfl | (simp; done)
@[simp] theorem State.setQueue_pending (s : State) (x : OdPath) (y : List Access) : (s.setQueue x y).pending = s.pending := by
  unfold State.setQueue; try dsimp only
  (repeat' split) <;> first | rfl | (simp; done)
@[simp] theorem State.setQueue_outbox (s : State) (x : OdPath) (y : List Access) : (s.setQueue x y).outbox = s.outbox := by
  unfold State.setQueue; try dsimp only
  (repeat' split) <;> first | rfl | (simp; done)
@[simp] theorem State.setQueue_up (s : State) (x : OdPath) (y : List Access) : (s.setQueue x y).up = s.up := by
  unfold State.setQueue; try dsimp only
  (repeat' split) <;> first | rfl | (simp; done)
@[simp] theorem State.setQueue_freeN (s : State) (x : OdPath) (y : List Access) : (s.setQueue x y).freeN = s.freeN := by
  unfold State.setQueue; try dsimp only
  (repeat' split) <;> first | rfl | (simp; done)
@[simp] theorem State.setQueue_od (s : State) (x : OdPath) (y : List Access) : (s.setQueue x y).od = s.od := by
  unfold State.setQueue; try dsimp only
  (repeat' split) <;> first | rfl | (simp; done)
@[simp] theorem State.setQueue_tr (s : State) (x : OdPath) (y : List Access) : (s.setQueue x y).tr = s.tr := by
  unfold State.setQueue; try dsimp only
  (repeat' split) <;> first | rfl | (simp; done)
@[simp] theorem State.setQueue_time (s : State) (x : OdPath) (y : List Access) : (s.setQueue x y).time = s.time := by
  unfold State.setQueue; try dsimp only
  (repeat' split) <;> first | rfl | (simp; done)
@[simp] theorem State.setQueue_pool (s : State) (x : OdPath) (y : List Access) : (s.setQueue x y).pool = s.pool := by
  unfold State.setQueue; try dsimp only
  (repeat' split) <;> first | rfl | (simp; done)
@[simp] theorem State.setQueue_coh (s : State) (x : OdPath) (y : List Access) : (s.setQueue x y).coh = s.coh := by
  unfold State.setQueue; try dsimp only
  (repeat' split) <;> first | rfl | (simp; done)
@[simp] theorem State.setQueue_flt (s : State) (x : OdPath) (y : List Access) : (s.setQueue x y).flt = s.flt := by
  unfold State.setQueue; try dsimp only
  (repeat' split) <;> first | rfl | (simp; done)
@[simp] theorem State.setQueue_cpu (s : State) (x : OdPath) (y : List Access) : (s.setQueue x y).cpu = s.cpu := by
  unfold State.setQueue; try dsimp only
  (repeat' split) <;> first | rfl | (simp; done)
@[simp] theorem State.setQueue_sw (s : State) (x : OdPath) (y : List Access) : (s.setQueue x y).sw = s.sw := by
  unfold State.setQueue; try dsimp only
  (repeat' split) <;> first | rfl | (simp; done)
@[simp] theorem State.setQueue_tm (s : State) (x : OdPath) (y : List Access) : (s.setQueue x y).tm = s.tm := by
  unfold State.setQueue; try dsimp only
  (repeat' split) <;> first | rfl | (simp; done)
@[simp] theorem State.setQueue_ports (s : State) (x : OdPath) (y : List Access) : (s.setQueue x y).ports = s.ports := by
  unfold State.setQueue; try dsimp only
  (repeat' split) <;> first | rfl | (simp; done)
@[simp] theorem State.setQueue_mt (s : State) (x : OdPath) (y : List Access) : (s.setQueue x y).mt = s.mt := by
  unfold State.setQueue; try dsimp only
  (repeat' split) <;> first | rfl | (simp; done)
@[simp] theorem State.setQueue_co (s : State) (x : OdPath) (y : List Access) : (s.setQueue x y).co = s.co := by
  unfold State.setQueue; try dsimp only
  (repeat' split) <;> first | rfl | (simp; done)
@[simp] theorem State.setQueue_own (s : State) (x : OdPath) (y : List Access) : (s.setQueue x y).own = s.own := by
  unfold State.setQueue; try dsimp only
  (repeat' split) <;> first | rfl | (simp; done)
@[simp] theorem State.setQueue_nand (s : State) (x : OdPath) (y : List Access) : (s.setQueue x y).nand = s.nand := by
  unfold State.setQueue; try dsimp only
  (repeat' split) <;> first | rfl | (simp; done)
@[simp] theorem State.setQueue_sec (s : State) (x : OdPath) (y : List Access) : (s.setQueue x y).sec = s.sec := by
  unfold State.setQueue; try dsimp only
  (repeat' split) <;> first | rfl | (simp; done)
@[simp] theorem State.setQueue_pwr (s : State) (x : OdPath) (y : List Access) : (s.setQueue x y).pwr = s.pwr := by
  unfold State.setQueue; try dsimp only
  (repeat' split) <;> first | rfl | (simp; done)
@[simp] theorem State.setQueue_pins (s : State) (x : OdPath) (y : List Access) : (s.setQueue x y).pins = s.pins := by
  unfold State.setQueue; try dsimp only
  (repeat' split) <;> first | rfl | (simp; done)
@[simp] theorem State.setQueue_dbg (s : State) (x : OdPath) (y : List Access) : (s.setQueue x y).dbg = s.dbg := by
  unfold State.setQueue; try dsimp only
  (repeat' split) <;> first | rfl | (simp; done)
@[simp] theorem State.homeCount_pending (s : State) (x y z : ℕ) : (s.homeCount x y z).pending = s.pending := by
  unfold State.homeCount; try dsimp only
  (repeat' split) <;> first | rfl | (simp; done)
@[simp] theorem State.homeCount_outbox (s : State) (x y z : ℕ) : (s.homeCount x y z).outbox = s.outbox := by
  unfold State.homeCount; try dsimp only
  (repeat' split) <;> first | rfl | (simp; done)
@[simp] theorem State.homeCount_up (s : State) (x y z : ℕ) : (s.homeCount x y z).up = s.up := by
  unfold State.homeCount; try dsimp only
  (repeat' split) <;> first | rfl | (simp; done)
@[simp] theorem State.homeCount_freeN (s : State) (x y z : ℕ) : (s.homeCount x y z).freeN = s.freeN := by
  unfold State.homeCount; try dsimp only
  (repeat' split) <;> first | rfl | (simp; done)
@[simp] theorem State.homeCount_tr (s : State) (x y z : ℕ) : (s.homeCount x y z).tr = s.tr := by
  unfold State.homeCount; try dsimp only
  (repeat' split) <;> first | rfl | (simp; done)
@[simp] theorem State.homeCount_time (s : State) (x y z : ℕ) : (s.homeCount x y z).time = s.time := by
  unfold State.homeCount; try dsimp only
  (repeat' split) <;> first | rfl | (simp; done)
@[simp] theorem State.homeCount_pool (s : State) (x y z : ℕ) : (s.homeCount x y z).pool = s.pool := by
  unfold State.homeCount; try dsimp only
  (repeat' split) <;> first | rfl | (simp; done)
@[simp] theorem State.homeCount_coh (s : State) (x y z : ℕ) : (s.homeCount x y z).coh = s.coh := by
  unfold State.homeCount; try dsimp only
  (repeat' split) <;> first | rfl | (simp; done)
@[simp] theorem State.homeCount_flt (s : State) (x y z : ℕ) : (s.homeCount x y z).flt = s.flt := by
  unfold State.homeCount; try dsimp only
  (repeat' split) <;> first | rfl | (simp; done)
@[simp] theorem State.homeCount_cpu (s : State) (x y z : ℕ) : (s.homeCount x y z).cpu = s.cpu := by
  unfold State.homeCount; try dsimp only
  (repeat' split) <;> first | rfl | (simp; done)
@[simp] theorem State.homeCount_sw (s : State) (x y z : ℕ) : (s.homeCount x y z).sw = s.sw := by
  unfold State.homeCount; try dsimp only
  (repeat' split) <;> first | rfl | (simp; done)
@[simp] theorem State.homeCount_tm (s : State) (x y z : ℕ) : (s.homeCount x y z).tm = s.tm := by
  unfold State.homeCount; try dsimp only
  (repeat' split) <;> first | rfl | (simp; done)
@[simp] theorem State.homeCount_ports (s : State) (x y z : ℕ) : (s.homeCount x y z).ports = s.ports := by
  unfold State.homeCount; try dsimp only
  (repeat' split) <;> first | rfl | (simp; done)
@[simp] theorem State.homeCount_mt (s : State) (x y z : ℕ) : (s.homeCount x y z).mt = s.mt := by
  unfold State.homeCount; try dsimp only
  (repeat' split) <;> first | rfl | (simp; done)
@[simp] theorem State.homeCount_co (s : State) (x y z : ℕ) : (s.homeCount x y z).co = s.co := by
  unfold State.homeCount; try dsimp only
  (repeat' split) <;> first | rfl | (simp; done)
@[simp] theorem State.homeCount_own (s : State) (x y z : ℕ) : (s.homeCount x y z).own = s.own := by
  unfold State.homeCount; try dsimp only
  (repeat' split) <;> first | rfl | (simp; done)
@[simp] theorem State.homeCount_nand (s : State) (x y z : ℕ) : (s.homeCount x y z).nand = s.nand := by
  unfold State.homeCount; try dsimp only
  (repeat' split) <;> first | rfl | (simp; done)
@[simp] theorem State.homeCount_sec (s : State) (x y z : ℕ) : (s.homeCount x y z).sec = s.sec := by
  unfold State.homeCount; try dsimp only
  (repeat' split) <;> first | rfl | (simp; done)
@[simp] theorem State.homeCount_mg (s : State) (x y z : ℕ) : (s.homeCount x y z).mg = s.mg := by
  unfold State.homeCount; try dsimp only
  (repeat' split) <;> first | rfl | (simp; done)
@[simp] theorem State.homeCount_pwr (s : State) (x y z : ℕ) : (s.homeCount x y z).pwr = s.pwr := by
  unfold State.homeCount; try dsimp only
  (repeat' split) <;> first | rfl | (simp; done)
@[simp] theorem State.homeCount_pins (s : State) (x y z : ℕ) : (s.homeCount x y z).pins = s.pins := by
  unfold State.homeCount; try dsimp only
  (repeat' split) <;> first | rfl | (simp; done)
@[simp] theorem State.homeCount_dbg (s : State) (x y z : ℕ) : (s.homeCount x y z).dbg = s.dbg := by
  unfold State.homeCount; try dsimp only
  (repeat' split) <;> first | rfl | (simp; done)
@[simp] theorem State.putByte_pending (s : State) (x y : ℕ) (z : Byte) : (s.putByte x y z).pending = s.pending := by
  unfold State.putByte; try dsimp only
  (repeat' split) <;> first | rfl | (simp; done)
@[simp] theorem State.putByte_outbox (s : State) (x y : ℕ) (z : Byte) : (s.putByte x y z).outbox = s.outbox := by
  unfold State.putByte; try dsimp only
  (repeat' split) <;> first | rfl | (simp; done)
@[simp] theorem State.putByte_up (s : State) (x y : ℕ) (z : Byte) : (s.putByte x y z).up = s.up := by
  unfold State.putByte; try dsimp only
  (repeat' split) <;> first | rfl | (simp; done)
@[simp] theorem State.putByte_freeN (s : State) (x y : ℕ) (z : Byte) : (s.putByte x y z).freeN = s.freeN := by
  unfold State.putByte; try dsimp only
  (repeat' split) <;> first | rfl | (simp; done)
@[simp] theorem State.putByte_od (s : State) (x y : ℕ) (z : Byte) : (s.putByte x y z).od = s.od := by
  unfold State.putByte; try dsimp only
  (repeat' split) <;> first | rfl | (simp; done)
@[simp] theorem State.putByte_tr (s : State) (x y : ℕ) (z : Byte) : (s.putByte x y z).tr = s.tr := by
  unfold State.putByte; try dsimp only
  (repeat' split) <;> first | rfl | (simp; done)
@[simp] theorem State.putByte_time (s : State) (x y : ℕ) (z : Byte) : (s.putByte x y z).time = s.time := by
  unfold State.putByte; try dsimp only
  (repeat' split) <;> first | rfl | (simp; done)
@[simp] theorem State.putByte_coh (s : State) (x y : ℕ) (z : Byte) : (s.putByte x y z).coh = s.coh := by
  unfold State.putByte; try dsimp only
  (repeat' split) <;> first | rfl | (simp; done)
@[simp] theorem State.putByte_flt (s : State) (x y : ℕ) (z : Byte) : (s.putByte x y z).flt = s.flt := by
  unfold State.putByte; try dsimp only
  (repeat' split) <;> first | rfl | (simp; done)
@[simp] theorem State.putByte_cpu (s : State) (x y : ℕ) (z : Byte) : (s.putByte x y z).cpu = s.cpu := by
  unfold State.putByte; try dsimp only
  (repeat' split) <;> first | rfl | (simp; done)
@[simp] theorem State.putByte_sw (s : State) (x y : ℕ) (z : Byte) : (s.putByte x y z).sw = s.sw := by
  unfold State.putByte; try dsimp only
  (repeat' split) <;> first | rfl | (simp; done)
@[simp] theorem State.putByte_tm (s : State) (x y : ℕ) (z : Byte) : (s.putByte x y z).tm = s.tm := by
  unfold State.putByte; try dsimp only
  (repeat' split) <;> first | rfl | (simp; done)
@[simp] theorem State.putByte_ports (s : State) (x y : ℕ) (z : Byte) : (s.putByte x y z).ports = s.ports := by
  unfold State.putByte; try dsimp only
  (repeat' split) <;> first | rfl | (simp; done)
@[simp] theorem State.putByte_mt (s : State) (x y : ℕ) (z : Byte) : (s.putByte x y z).mt = s.mt := by
  unfold State.putByte; try dsimp only
  (repeat' split) <;> first | rfl | (simp; done)
@[simp] theorem State.putByte_co (s : State) (x y : ℕ) (z : Byte) : (s.putByte x y z).co = s.co := by
  unfold State.putByte; try dsimp only
  (repeat' split) <;> first | rfl | (simp; done)
@[simp] theorem State.putByte_own (s : State) (x y : ℕ) (z : Byte) : (s.putByte x y z).own = s.own := by
  unfold State.putByte; try dsimp only
  (repeat' split) <;> first | rfl | (simp; done)
@[simp] theorem State.putByte_nand (s : State) (x y : ℕ) (z : Byte) : (s.putByte x y z).nand = s.nand := by
  unfold State.putByte; try dsimp only
  (repeat' split) <;> first | rfl | (simp; done)
@[simp] theorem State.putByte_sec (s : State) (x y : ℕ) (z : Byte) : (s.putByte x y z).sec = s.sec := by
  unfold State.putByte; try dsimp only
  (repeat' split) <;> first | rfl | (simp; done)
@[simp] theorem State.putByte_mg (s : State) (x y : ℕ) (z : Byte) : (s.putByte x y z).mg = s.mg := by
  unfold State.putByte; try dsimp only
  (repeat' split) <;> first | rfl | (simp; done)
@[simp] theorem State.putByte_pwr (s : State) (x y : ℕ) (z : Byte) : (s.putByte x y z).pwr = s.pwr := by
  unfold State.putByte; try dsimp only
  (repeat' split) <;> first | rfl | (simp; done)
@[simp] theorem State.putByte_pins (s : State) (x y : ℕ) (z : Byte) : (s.putByte x y z).pins = s.pins := by
  unfold State.putByte; try dsimp only
  (repeat' split) <;> first | rfl | (simp; done)
@[simp] theorem State.putByte_dbg (s : State) (x y : ℕ) (z : Byte) : (s.putByte x y z).dbg = s.dbg := by
  unfold State.putByte; try dsimp only
  (repeat' split) <;> first | rfl | (simp; done)

end Sys2Proof.Machine
end

