-- ==== Sys2Proof/Laws/Od.lean ====
section
/-! SUPPORT. Laws of the object dictionary: its keys are injective, a read after a write, and what a write leaves. -/

namespace Sys2Proof.Machine

set_option Elab.async false

/-- Two elements of two entries have different keys. -/
theorem odKey_inj {e e' : Ent} {n n' : Nat} (h : e.index < 65536) (h' : e.sub < 256) (k : e'.index < 65536) (k' : e'.sub < 256)
    (q : odKey e n = odKey e' n') : e = e' ∧ n = n' := by
  obtain ⟨i, s⟩ := e; obtain ⟨i', s'⟩ := e'
  simp only [odKey, odKeyOf] at *
  have : i = i' ∧ s = s' ∧ n = n' := by omega
  simp [this]

/-- A write of another key leaves a read as it was. -/
theorem State.rd_wr_other {s : State} {e e' : Ent} {n n' v : Nat} (w : s.canonical) (h : odKey e n ≠ odKey e' n') :
    (s.wr e' n' v).rd e n = s.rd e n := sparseGet_sparseSet_other _ _ _ _ _ _ w.1.1 h

/-- A read of the element just written gives the value written. -/
theorem State.rd_wr_same {s : State} {e : Ent} {n v : Nat} (w : s.canonical) : (s.wr e n v).rd e n = v :=
  sparseGet_sparseSet_same _ _ _ _ w.1.1

/-- A write of another entry leaves a read as it was. -/
theorem State.rd_wr_ne {s : State} {e e' : Ent} {n n' v : Nat} (hc : s.canonical) (h : e.index < 65536) (h' : e.sub < 256) (k : e'.index < 65536) (k' : e'.sub < 256) (ne : e ≠ e') :
    (s.wr e' n' v).rd e n = s.rd e n := State.rd_wr_other hc (fun q => ne (odKey_inj h h' k k' q).1)

/-- A write keeps the canonical forms. -/
theorem State.canonical_wr {s : State} {e n v} (h : s.canonical) : (s.wr e n v).canonical := ⟨sparseWf_sparseSet odDefault _ _ _ h.1, h.2⟩

/-- No other entry has the key of a counter of OD 4800. -/
theorem counter_ne {e : Ent} {n i : Nat} (h : e.index < 65536) (hn : e.sub < 256) (ne : e ≠ od4800_COUNTER) :
    odKey e n ≠ odKey od4800_COUNTER i := fun q => ne (odKey_inj h hn (by decide) (by decide) q).1

/-- A write of a key that a selection leaves out does not change the selection. -/
theorem filter_sparseSet {α : Type} [DecidableEq α] (d : α) (m : Sparse α) (k : Nat) (v : α) (p : Nat → Bool) (h : p k = false) :
    (sparseSet d m k v).filter (fun kv => p kv.1) = m.filter (fun kv => p kv.1) := by
  induction m with
  | nil => simp only [sparseSet]; split <;> simp [h]
  | cons a m ih =>
    obtain ⟨i, w⟩ := a
    simp only [sparseSet]
    split
    · split <;> simp [*]
    · split
      · rename_i e; subst e; split <;> simp [h]
      · rw [List.filter_cons, List.filter_cons, ih]

/-- The low bits of a key are those of its entry. -/
theorem odKey_mod {e : Ent} {n : Nat} (h : e.index < 65536) (h' : e.sub < 256) : odKey e n % 16777216 = e.index * 256 + e.sub := by
  simp only [odKey, odKeyOf]; omega

/-- A write of another entry leaves the list of the elements of an entry as it was. -/
theorem odListed_set {od : Sparse Nat} {e e' : Ent} {n v : Nat} (h : e.index < 65536) (h' : e.sub < 256) (k : e'.index < 65536) (k' : e'.sub < 256)
    (ne : e ≠ e') : odListed (odSet od e' n v) e = odListed od e := by
  simp only [odListed, odSet]
  rw [filter_sparseSet _ _ _ _ (fun k => k % 16777216 == odKey e 0)]
  rw [odKey_mod k k']
  obtain ⟨i, s⟩ := e; obtain ⟨i', s'⟩ := e'
  simp only [odKey, odKeyOf, beq_eq_false_iff_ne, ne_eq, Ent.mk.injEq, not_and] at *
  omega

/-- A count leaves the list of the extents as it was. -/
theorem extents_tally (s : State) (a b c : Nat) : (s.tally a b c).extents = s.extents := by
  unfold State.tally; split
  · rfl
  · simp only [State.extents]
    rw [show odListed (s.count b c).od od2820_STATE = odListed s.od od2820_STATE from odListed_set (by decide) (by decide) (by decide) (by decide) (by decide)]

/-- A count changes the object dictionary alone. -/
theorem State.tally_eq (s : State) (herd i k : Nat) : ∃ od, s.tally herd i k = { s with od := od } := by
  unfold State.tally
  split
  · exact ⟨_, rfl⟩
  · exact ⟨_, rfl⟩

/-- The bytes of a number, read back. -/
theorem leNat_toLe (k v : Nat) : leNat (toLe k v) = v % 2 ^ (8 * k) := by
  induction k generalizing v with
  | zero => simp [toLe, leNat, Nat.mod_one]
  | succ k ih =>
    simp only [toLe, leNat, ih, BitVec.toNat_ofNat]
    rw [show 8 * (k + 1) = 8 + 8 * k by omega, Nat.pow_add, Nat.mod_mul]

end Sys2Proof.Machine
end

