-- ==== Sys2Proof/Laws/Frames.lean ====
section
/-! SUPPORT. What tracing, counting and reporting leave as it was: a trace record and an event change the counters, the trace
and the event state alone. -/

namespace Sys2Proof.Machine

set_option Elab.async false

/-- A state differs from another in the entries of the listed indices, the trace and the event state alone. -/
structure OdFrame (l : List Nat) (s u : State) : Prop where
  rd : ∀ e n, e.index < 65536 → e.sub < 256 → e.index ∉ l → u.rd e n = s.rd e n
  eq : u = { s with od := u.od, dbg := u.dbg, flt := u.flt }
  can : s.canonical → u.canonical


theorem OdFrame.refl (l) (s : State) : OdFrame l s s := ⟨fun _ _ _ _ _ => rfl, rfl, id⟩

theorem OdFrame.trans {l} {s u v : State} (h : OdFrame l s u) (k : OdFrame l u v) : OdFrame l s v :=
  ⟨fun e n a b c => (k.rd e n a b c).trans (h.rd e n a b c), by rw [k.eq, h.eq], fun c => k.can (h.can c)⟩

theorem OdFrame.wr {l} {s : State} {e n v} (hc : s.canonical) (h : e.index ∈ l) (h1 : e.index < 65536) (h' : e.sub < 256) : OdFrame l s (s.wr e n v) :=
  ⟨fun _ _ a b c => State.rd_wr_ne hc a b h1 h' (fun q => c (q ▸ h)), rfl, State.canonical_wr⟩

theorem OdFrame.dbg {l} {s : State} {d} : OdFrame l s { s with dbg := d } := ⟨fun _ _ _ _ _ => rfl, rfl, id⟩

theorem OdFrame.flt {l} {s : State} {d} : OdFrame l s { s with flt := d } := ⟨fun _ _ _ _ _ => rfl, rfl, id⟩

theorem OdFrame.count {l} {s : State} {i k} (hc : s.canonical) (h : 0x4800 ∈ l) : OdFrame l s (s.count i k) := OdFrame.wr hc h (by decide) (by decide)

theorem OdFrame.tally {l} {s : State} {a i k} (hc : s.canonical) (h : 0x4800 ∈ l) : OdFrame l s (s.tally a i k) := by
  unfold State.tally; split
  · exact OdFrame.refl _ _
  · exact OdFrame.count hc h
/-- The indices that a trace record writes. -/
def traceFrameOd : List Nat := [0x4800, 0x4880]

theorem State.tracePut_frame {s : State} {q r} (hc : s.canonical) : OdFrame traceFrameOd s (s.tracePut q r) := by
  unfold State.tracePut
  dsimp only
  split
  · exact OdFrame.count hc (by decide)
  · split
    · exact (OdFrame.wr hc (by decide) (by decide) (by decide)).trans (OdFrame.count (State.canonical_wr hc) (by decide))
    · refine OdFrame.trans (u := { s with dbg := { s.dbg with trace := sparseSet 0 s.dbg.trace (q * 2 ^ 40 + s.rd (odWriteOffset q) 0 / 32) r } }) OdFrame.dbg ?_
      · refine (OdFrame.wr (e := odWriteOffset q) (n := 0) (by exact hc) (show (0x4880 : Nat) ∈ traceFrameOd by decide) (show (0x4880 : Nat) < 65536 by decide) (by simp only [odWriteOffset]; omega)).trans (OdFrame.count (State.canonical_wr ?_) (by decide))
        exact hc

theorem State.traceOne_frame {s : State} {q r} (hc : s.canonical) : OdFrame traceFrameOd s (s.traceOne q r) := by
  unfold State.traceOne
  dsimp only
  have hd : ∀ (s : State) d, s.canonical → State.canonical { s with dbg := d } := fun _ _ h => h
  split
  · exact (OdFrame.dbg).trans (OdFrame.count (hd _ _ hc) (by decide))
  · split
    · exact (OdFrame.dbg).trans (State.tracePut_frame (hd _ _ hc))
    · have k1 := State.tracePut_frame (s := { s with dbg := { s.dbg with bucket := quadSet s.dbg.bucket q (s.traceDebt q + 32, s.up) } }) (q := q)
        (r := traceWords (s.ft q) (s.qual q * 2 ^ 62 + 0x3F * 2 ^ 56 + 0xFFF * 2 ^ 44) (quadGet s.dbg.lossN q) (quadGet s.dbg.lossAt q)) (hd _ _ hc)
      have k2 := k1.can (hd _ _ hc)
      have k3 := OdFrame.count (l := traceFrameOd) (i := 0x7C3) (k := 1) k2 (by decide)
      have k4 := ((OdFrame.dbg).trans k1).trans k3
      have k5 := k4.can hc
      split
      · exact (k4.trans OdFrame.dbg).trans ((OdFrame.dbg).trans (OdFrame.count (hd _ _ (hd _ _ k5)) (by decide)))
      · exact (k4.trans OdFrame.dbg).trans ((OdFrame.dbg).trans (State.tracePut_frame (hd _ _ (hd _ _ k5))))

theorem State.trace_frame {s : State} {q t p} (hc : s.canonical) : OdFrame traceFrameOd s (s.trace q t p) := by
  unfold State.trace
  dsimp only
  split
  · exact OdFrame.refl _ _
  · split
    · exact (State.traceOne_frame hc).trans (State.traceOne_frame ((State.traceOne_frame hc).can hc))
    · exact State.traceOne_frame hc
/-- The indices that an event writes. -/
def eventFrame : List Nat := [0x4800, 0x4880, 0x4400]

theorem OdFrame.mono {l m} {s u : State} (h : OdFrame l s u) (k : ∀ x ∈ l, x ∈ m) : OdFrame m s u := ⟨fun e n a b c => h.rd e n a b (fun q => c (k _ q)), h.eq, h.can⟩

theorem State.deliver_frame {s : State} {ev} (hc : s.canonical) : OdFrame eventFrame s (s.deliver ev) := by
  unfold State.deliver
  dsimp only
  split
  · exact OdFrame.flt
  · split
    · exact OdFrame.wr hc (by decide) (by decide) (by decide)
    · split
      · exact OdFrame.flt
      · exact OdFrame.wr hc (by decide) (by decide) (by decide)

theorem State.deliverSeq_frame {s : State} {ev : EventRec} (hc : s.canonical) : OdFrame eventFrame s (s.deliverSeq ev) := by
  unfold State.deliverSeq
  dsimp only
  have hd : ∀ (s : State) d, s.canonical → State.canonical { s with flt := d } := fun _ _ h => h
  have k := (OdFrame.flt (l := eventFrame) (s := s) (d := { s.flt with seqs := quadSet s.flt.seqs ev.quad ((quadGet s.flt.seqs ev.quad + 1) % 2 ^ 30) })).trans
    (State.deliver_frame (ev := { ev with seq := quadGet s.flt.seqs ev.quad }) (hd _ _ hc))
  exact k.trans ((State.trace_frame (k.can hc)).mono (by decide))

theorem State.emitAs_frame {s : State} {q c e h k u co d} (hc : s.canonical) : OdFrame eventFrame s (s.emitAs q c e h k u co d) := by
  have hd : ∀ (s : State) d, s.canonical → State.canonical { s with flt := d } := fun _ _ h => h
  have rec_ : ∀ ev : EventRec, OdFrame eventFrame s (s.record ev) := by
    intro ev
    unfold State.record
    split
    · split
      · rename_i m fm
        dsimp only
        split
        · have e1 : OdFrame eventFrame s (s.endMerge m) := by
            unfold State.endMerge
            dsimp only
            split
            · exact OdFrame.flt
            · exact OdFrame.flt.trans (State.deliverSeq_frame (hd _ _ hc))
          exact (e1.trans OdFrame.flt).trans (State.deliverSeq_frame (hd _ _ (e1.can hc)))
        · exact OdFrame.flt
      · exact OdFrame.flt.trans (State.deliverSeq_frame (hd _ _ hc))
    · exact State.deliverSeq_frame hc
  unfold State.emitAs State.raise
  have k := rec_ { time := s.ft q, quality := s.qual q, cls := c, herd := h, kind := k, unit := u % 4096, event := e, code := co, quad := q, seq := 0, count := 1, details := d }
  split
  · exact k
  · exact k.trans OdFrame.flt

end Sys2Proof.Machine
end

