-- ==== Sys2Proof/Laws/KeptMemory.lean ====
section
/-! SUPPORT. What every command keeps, through the operations of memory, the pool, flash and SRAM. -/

namespace Sys2Proof.Machine

set_option linter.all false
set_option maxRecDepth 4000

theorem odSet_wf {m : Sparse Nat} {e : Ent} {n v : ℕ} (h : sparseWf odDefault m) : sparseWf odDefault (odSet m e n v) :=
  sparseWf_sparseSet odDefault m (odKey e n) v h
theorem State.wr_kept {o s : State} {e : Ent} {n v : ℕ} (h : Kept o s) : Kept o (s.wr e n v) :=
  h.updT rfl (odSet_wf h.od) h.mem h.cxl h.flash h.sram rfl rfl rfl rfl

theorem State.bump_kept {o : State} {s_0 : State} {e_1 : Ent} {n_2 : ℕ} {w_3 : ℕ} {k_4 : ℕ} (h0 : Kept o s_0) :
    Kept o (@State.bump s_0 e_1 n_2 w_3 k_4) := by
  unfold State.bump
  repeat' (first
    | with_reducible first | assumption | refine State.wr_kept ?_
    | dsimp only)

theorem State.count_kept {o : State} {s_0 : State} {i_1 : ℕ} {k_2 : ℕ} (h0 : Kept o s_0) :
    Kept o (@State.count s_0 i_1 k_2) := by
  unfold State.count
  repeat' (first
    | with_reducible first | assumption | refine State.bump_kept ?_
    | dsimp only)

theorem State.send_kept {o : State} {s_0 : State} {o_1 : OutItem} (h0 : Kept o s_0) :
    Kept o (@State.send s_0 o_1) := by
  unfold State.send
  repeat' (first
    | with_reducible first | assumption | refine Kept.same ?_ rfl
    | dsimp only)

theorem State.fresh_kept {o : State} {s_0 : State} (h0 : Kept o s_0) :
    Kept o (@State.fresh s_0) := by
  unfold State.fresh
  repeat' (first
    | with_reducible first | assumption | refine Kept.same ?_ rfl | refine Kept.upd ?_ rfl rfl rfl rfl rfl rfl rfl rfl rfl rfl (Nat.le_refl _) (Nat.le_add_right _ _) (Nat.le_refl _) (Nat.le_refl _)
    | dsimp only)

theorem State.tracePut_kept {o : State} {s_0 : State} {a_1 : ℕ} {rec__2 : ℕ} (h0 : Kept o s_0) :
    Kept o (@State.tracePut s_0 a_1 rec__2) := by
  unfold State.tracePut
  repeat' (first
    | with_reducible first | assumption | refine State.count_kept ?_ | refine State.wr_kept ?_
    | (extract_lets +onlyGivenNames x; first
      | (refine cutS (o := o) (x := x) ?_ (fun _ => ?_) <;> [subst x; clear_value x])
      | (refine cutP (o := o) (x := x) ?_ (fun _ => ?_) <;> [subst x; clear_value x])
      | (refine cutF (o := o) (x := x) ?_ (fun _ => ?_) <;> [subst x; clear_value x])
      | skip)
    | with_reducible first | refine ite_kept ?_ ?_ | refine Kept.same ?_ rfl
    | dsimp only)

theorem State.traceOne_kept {o : State} {s_0 : State} {a_1 : ℕ} {rec__2 : ℕ} (h0 : Kept o s_0) :
    Kept o (@State.traceOne s_0 a_1 rec__2) := by
  unfold State.traceOne
  repeat' (first
    | with_reducible first | assumption | refine State.count_kept ?_ | refine State.tracePut_kept ?_
    | (extract_lets +onlyGivenNames x; first
      | (refine cutS (o := o) (x := x) ?_ (fun _ => ?_) <;> [subst x; clear_value x])
      | (refine cutP (o := o) (x := x) ?_ (fun _ => ?_) <;> [subst x; clear_value x])
      | (refine cutF (o := o) (x := x) ?_ (fun _ => ?_) <;> [subst x; clear_value x])
      | skip)
    | with_reducible first | refine ite_kept ?_ ?_ | refine Kept.same ?_ rfl
    | dsimp only
    | (intro _))

theorem State.trace_kept {o : State} {s_0 : State} {a_1 : ℕ} {t_2 : TraceEvent} {payload_3 : List Byte} (h0 : Kept o s_0) :
    Kept o (@State.trace s_0 a_1 t_2 payload_3) := by
  unfold State.trace
  repeat' (first
    | with_reducible first | assumption | refine State.traceOne_kept ?_
    | (extract_lets +onlyGivenNames x; first
      | (refine cutS (o := o) (x := x) ?_ (fun _ => ?_) <;> [subst x; clear_value x])
      | (refine cutP (o := o) (x := x) ?_ (fun _ => ?_) <;> [subst x; clear_value x])
      | (refine cutF (o := o) (x := x) ?_ (fun _ => ?_) <;> [subst x; clear_value x])
      | skip)
    | with_reducible refine ite_kept ?_ ?_
    | dsimp only
    | (intro _))

theorem State.deliver_kept {o : State} {s_0 : State} {ev_1 : EventRec} (h0 : Kept o s_0) :
    Kept o (@State.deliver s_0 ev_1) := by
  unfold State.deliver
  repeat' (first
    | with_reducible first | assumption | refine State.bump_kept ?_
    | (extract_lets +onlyGivenNames x; first
      | (refine cutS (o := o) (x := x) ?_ (fun _ => ?_) <;> [subst x; clear_value x])
      | (refine cutP (o := o) (x := x) ?_ (fun _ => ?_) <;> [subst x; clear_value x])
      | (refine cutF (o := o) (x := x) ?_ (fun _ => ?_) <;> [subst x; clear_value x])
      | skip)
    | with_reducible refine ite_kept ?_ ?_
    | split
    | with_reducible refine Kept.same ?_ rfl
    | dsimp only
    | (intro _))

theorem State.deliverSeq_kept {o : State} {s_0 : State} {ev_1 : EventRec} (h0 : Kept o s_0) :
    Kept o (@State.deliverSeq s_0 ev_1) := by
  unfold State.deliverSeq
  repeat' (first
    | with_reducible first | assumption | refine State.trace_kept ?_ | refine State.deliver_kept ?_
    | (extract_lets +onlyGivenNames x; first
      | (refine cutS (o := o) (x := x) ?_ (fun _ => ?_) <;> [subst x; clear_value x])
      | (refine cutP (o := o) (x := x) ?_ (fun _ => ?_) <;> [subst x; clear_value x])
      | (refine cutF (o := o) (x := x) ?_ (fun _ => ?_) <;> [subst x; clear_value x])
      | skip)
    | with_reducible refine Kept.same ?_ rfl
    | dsimp only)

theorem State.endMerge_kept {o : State} {s_0 : State} {m_1 : MergeRec} (h0 : Kept o s_0) :
    Kept o (@State.endMerge s_0 m_1) := by
  unfold State.endMerge
  repeat' (first
    | with_reducible first | assumption | refine State.deliverSeq_kept ?_
    | (extract_lets +onlyGivenNames x; first
      | (refine cutS (o := o) (x := x) ?_ (fun _ => ?_) <;> [subst x; clear_value x])
      | (refine cutP (o := o) (x := x) ?_ (fun _ => ?_) <;> [subst x; clear_value x])
      | (refine cutF (o := o) (x := x) ?_ (fun _ => ?_) <;> [subst x; clear_value x])
      | skip)
    | with_reducible first | refine ite_kept ?_ ?_ | refine Kept.same ?_ rfl
    | dsimp only
    | (intro _))

theorem State.record_kept {o : State} {s_0 : State} {ev_1 : EventRec} (h0 : Kept o s_0) :
    Kept o (@State.record s_0 ev_1) := by
  unfold State.record
  repeat' (first
    | with_reducible first | assumption | refine State.endMerge_kept ?_ | refine State.deliverSeq_kept ?_
    | (extract_lets +onlyGivenNames x; first
      | (refine cutS (o := o) (x := x) ?_ (fun _ => ?_) <;> [subst x; clear_value x])
      | (refine cutP (o := o) (x := x) ?_ (fun _ => ?_) <;> [subst x; clear_value x])
      | (refine cutF (o := o) (x := x) ?_ (fun _ => ?_) <;> [subst x; clear_value x])
      | skip)
    | with_reducible refine ite_kept ?_ ?_
    | split
    | with_reducible refine Kept.same ?_ rfl
    | dsimp only
    | (intro _))

theorem State.raise_kept {o s : State} {q cls event kind unit : ℕ} (h : Kept o s) : Kept o (s.raise q cls event kind unit) := by
  unfold State.raise
  split
  · exact h
  · obtain ⟨n1, n2, n3, n4, n5⟩ := h.flt
    refine h.updF ⟨n1, n2, fun x hx => ?_, n4, n5⟩
    rcases List.mem_append.1 hx with hx | hx
    · exact n3 x hx
    · rw [List.mem_singleton.1 hx]
      simp only
      omega

theorem State.emitAs_kept {o : State} {s_0 : State} {a_1 : ℕ} {cls_2 : ℕ} {event_3 : ℕ} {herd_4 : ℕ} {kind_5 : ℕ} {unit_6 : ℕ} {code_7 : ℕ} {details_8 : List ℕ} (h0 : Kept o s_0) :
    Kept o (@State.emitAs s_0 a_1 cls_2 event_3 herd_4 kind_5 unit_6 code_7 details_8) := by
  unfold State.emitAs
  repeat' (first
    | with_reducible first | assumption | refine State.raise_kept ?_ | refine State.record_kept ?_ | refine Kept.same ?_ rfl
    | dsimp only)

theorem State.emit_kept {o : State} {s_0 : State} {a_1 : ℕ} {event_2 : ℕ} {herd_3 : ℕ} {kind_4 : ℕ} {unit_5 : ℕ} {code_6 : ℕ} {details_7 : List ℕ} (h0 : Kept o s_0) :
    Kept o (@State.emit s_0 a_1 event_2 herd_3 kind_4 unit_5 code_6 details_7) := by
  unfold State.emit
  repeat' (first
    | with_reducible first | assumption | refine State.emitAs_kept ?_
    | dsimp only)

theorem State.tally_kept {o : State} {s_0 : State} {herd_1 : ℕ} {i_2 : ℕ} {k_3 : ℕ} (h0 : Kept o s_0) :
    Kept o (@State.tally s_0 herd_1 i_2 k_3) := by
  unfold State.tally
  repeat' (first
    | with_reducible first | assumption | refine State.count_kept ?_ | refine ite_kept ?_ ?_
    | dsimp only)

theorem State.setNandBlock_kept {o : State} {s_0 : State} {b_1 : ℕ} {x_2 : NandBlock} (h0 : Kept o s_0) :
    Kept o (@State.setNandBlock s_0 b_1 x_2) := by
  unfold State.setNandBlock
  repeat' (first
    | with_reducible first | assumption | refine Kept.same ?_ rfl
    | dsimp only)

theorem State.checkpoint_kept {o : State} {s_0 : State} (h0 : Kept o s_0) :
    Kept o (@State.checkpoint s_0) := by
  unfold State.checkpoint
  repeat' (first
    | with_reducible first | assumption | refine State.count_kept ?_ | refine Kept.same ?_ rfl
    | dsimp only)

theorem State.openNext_kept {o : State} {s_0 : State} (h0 : Kept o s_0) :
    Kept o (@State.openNext s_0) := by
  unfold State.openNext
  repeat' (first
    | with_reducible first | assumption | refine State.checkpoint_kept ?_ | refine State.setNandBlock_kept ?_
    | (extract_lets +onlyGivenNames x; first
      | (refine cutS (o := o) (x := x) ?_ (fun _ => ?_) <;> [subst x; clear_value x])
      | (refine cutP (o := o) (x := x) ?_ (fun _ => ?_) <;> [subst x; clear_value x])
      | (refine cutF (o := o) (x := x) ?_ (fun _ => ?_) <;> [subst x; clear_value x])
      | skip)
    | with_reducible refine ite_kept ?_ ?_
    | split
    | with_reducible refine Kept.same ?_ rfl
    | dsimp only)

theorem State.takePlace_kept {o : State} {s_0 : State} (h0 : Kept o s_0) :
    KeptVal o (@State.takePlace s_0) (fun v => v.2) := by
  unfold State.takePlace
  repeat' (first
    | with_reducible first | assumption | refine State.openNext_kept ?_ | refine State.setNandBlock_kept ?_ | exact KeptVal.none | refine KeptVal.some ?_
    | (extract_lets +onlyGivenNames x; first
      | (refine cutS (o := o) (x := x) ?_ (fun _ => ?_) <;> [subst x; clear_value x])
      | (refine cutP (o := o) (x := x) ?_ (fun _ => ?_) <;> [subst x; clear_value x])
      | (refine cutF (o := o) (x := x) ?_ (fun _ => ?_) <;> [subst x; clear_value x])
      | skip)
    | with_reducible refine ite_kept ?_ ?_
    | split
    | with_reducible refine Kept.same ?_ rfl
    | dsimp only)
theorem State.takePlace_some {o : State} {s_0 : State} {v0 : ℕ} {t : State} (e : @State.takePlace s_0 = some (v0, t)) (h0 : Kept o s_0) : Kept o t :=
  State.takePlace_kept (o := o) h0 _ e

theorem State.switchMap_kept {o : State} {s_0 : State} {key_1 : ℕ} {place_2 : ℕ} (h0 : Kept o s_0) :
    Kept o (@State.switchMap s_0 key_1 place_2) := by
  unfold State.switchMap
  repeat' (first
    | with_reducible first | assumption | refine State.bump_kept ?_
    | (extract_lets +onlyGivenNames x; first
      | (refine cutS (o := o) (x := x) ?_ (fun _ => ?_) <;> [subst x; clear_value x])
      | (refine cutP (o := o) (x := x) ?_ (fun _ => ?_) <;> [subst x; clear_value x])
      | (refine cutF (o := o) (x := x) ?_ (fun _ => ?_) <;> [subst x; clear_value x])
      | skip)
    | with_reducible first | refine ite_kept ?_ ?_ | refine Kept.same ?_ rfl
    | dsimp only)

theorem State.nandWrite_kept {o : State} {s_0 : State} {key_1 : ℕ} (h0 : Kept o s_0) :
    Kept o (@State.nandWrite s_0 key_1) := by
  unfold State.nandWrite
  repeat' (first
    | with_reducible first | assumption | refine State.takePlace_some (by assumption) ?_ | refine State.takePlace_kept ?_ | refine State.count_kept ?_ | refine State.bump_kept ?_ | refine State.switchMap_kept ?_
    | (extract_lets +onlyGivenNames x; first
      | (refine cutS (o := o) (x := x) ?_ (fun _ => ?_) <;> [subst x; clear_value x])
      | (refine cutP (o := o) (x := x) ?_ (fun _ => ?_) <;> [subst x; clear_value x])
      | (refine cutF (o := o) (x := x) ?_ (fun _ => ?_) <;> [subst x; clear_value x])
      | skip)
    | split
    | with_reducible refine Kept.same ?_ rfl
    | dsimp only)

theorem State.nandTrim_kept {o : State} {s_0 : State} {key_1 : ℕ} (h0 : Kept o s_0) :
    Kept o (@State.nandTrim s_0 key_1) := by
  unfold State.nandTrim
  repeat' (first
    | with_reducible first | assumption | refine State.wr_kept ?_
    | (extract_lets +onlyGivenNames x; first
      | (refine cutS (o := o) (x := x) ?_ (fun _ => ?_) <;> [subst x; clear_value x])
      | (refine cutP (o := o) (x := x) ?_ (fun _ => ?_) <;> [subst x; clear_value x])
      | (refine cutF (o := o) (x := x) ?_ (fun _ => ?_) <;> [subst x; clear_value x])
      | skip)
    | with_reducible first | refine ite_kept ?_ ?_ | refine Kept.same ?_ rfl
    | dsimp only)

theorem State.issueOne_kept {o : State} {s_0 : State} (h0 : Kept o s_0) :
    Kept o (@State.issueOne s_0) := by
  unfold State.issueOne
  repeat' (first
    | with_reducible first | assumption | refine State.count_kept ?_ | refine State.send_kept ?_
    | (extract_lets +onlyGivenNames x; first
      | (refine cutS (o := o) (x := x) ?_ (fun _ => ?_) <;> [subst x; clear_value x])
      | (refine cutP (o := o) (x := x) ?_ (fun _ => ?_) <;> [subst x; clear_value x])
      | (refine cutF (o := o) (x := x) ?_ (fun _ => ?_) <;> [subst x; clear_value x])
      | skip)
    | split
    | with_reducible refine Kept.same ?_ rfl
    | dsimp only
    | (intro _))

theorem State.issueOps_kept {o : State} {s_0 : State} {a__internal_hyg0_1 : ℕ} (h0 : Kept o s_0) :
    Kept o (@State.issueOps s_0 a__internal_hyg0_1) := by
  induction a__internal_hyg0_1 generalizing s_0 with
  | zero =>
    unfold State.issueOps
    repeat' (first
      | with_reducible first | assumption | refine State.issueOne_kept ?_ | refine ih ?_
      | split
      | dsimp only
      | (intro _))
  | succ n ih =>
    unfold State.issueOps
    repeat' (first
      | with_reducible first | assumption | refine State.issueOne_kept ?_ | refine ih ?_
      | split
      | dsimp only
      | (intro _))

theorem State.pump_kept {o : State} {s_0 : State} (h0 : Kept o s_0) :
    Kept o (@State.pump s_0) := by
  unfold State.pump
  repeat' (first
    | with_reducible first | assumption | refine State.issueOps_kept ?_
    | dsimp only
    | (intro _))

theorem State.addJob_kept {o : State} {s_0 : State} {work_1 : NandWork} {progs_2 : Bool} {ops_3 : List (ℕ × ℕ × ℕ)} (h0 : Kept o s_0) :
    Kept o (@State.addJob s_0 work_1 progs_2 ops_3) := by
  unfold State.addJob
  repeat' (first
    | with_reducible assumption
    | (extract_lets +onlyGivenNames x; first
      | (refine cutS (o := o) (x := x) ?_ (fun _ => ?_) <;> [subst x; clear_value x])
      | (refine cutP (o := o) (x := x) ?_ (fun _ => ?_) <;> [subst x; clear_value x])
      | (refine cutF (o := o) (x := x) ?_ (fun _ => ?_) <;> [subst x; clear_value x])
      | skip)
    | with_reducible refine Kept.same ?_ rfl
    | dsimp only
    | (intro _))

theorem State.readJob_kept {o : State} {s_0 : State} {e_1 : ℕ} {g_2 : ℕ} {c_3 : ℕ} {key_4 : ℕ} (h0 : Kept o s_0) :
    Kept o (@State.readJob s_0 e_1 g_2 c_3 key_4) := by
  unfold State.readJob
  repeat' (first
    | with_reducible first | assumption | refine State.addJob_kept ?_ | refine ite_kept ?_ ?_
    | split
    | with_reducible refine Kept.same ?_ rfl
    | dsimp only
    | (intro _))

theorem State.setGran_kept {o : State} {s_0 : State} {e_1 : ℕ} {g_2 : ℕ} {d_3 : Gran} (h0 : Kept o s_0) :
    Kept o (@State.setGran s_0 e_1 g_2 d_3) :=
  h0.setGrans (sparseWf_sparseSet (fun _ => granNew) _ _ _ h0.gran)

theorem State.putByte_kept {o : State} {s_0 : State} {e_1 : ℕ} {off_2 : ℕ} {b_3 : Byte} (h0 : Kept o s_0) :
    Kept o (@State.putByte s_0 e_1 off_2 b_3) := by
  unfold State.putByte
  repeat' (first
    | with_reducible first | assumption | refine Kept.od (o := o) ?_ | refine Kept.mem (o := o) ?_ | refine Kept.cxl (o := o) ?_ | refine Kept.flash (o := o) ?_ | refine Kept.sram (o := o) ?_ | refine sparseWf_sparseSet _ _ _ _ ?_ | refine sparseWf_sparseDrop _ _ _ _ ?_ | refine sparseWf_filter _ _ _ ?_ | refine sparseWf_sparseCopy _ _ _ _ _ _ ?_
    | (extract_lets +onlyGivenNames x; first
      | (refine cutS (o := o) (x := x) ?_ (fun _ => ?_) <;> [subst x; clear_value x])
      | (refine cutP (o := o) (x := x) ?_ (fun _ => ?_) <;> [subst x; clear_value x])
      | (refine cutF (o := o) (x := x) ?_ (fun _ => ?_) <;> [subst x; clear_value x])
      | skip)
    | with_reducible first | refine ite_kept ?_ ?_ | refine Kept.same ?_ rfl | refine Kept.updT (s := s_0) h0 rfl ?_ ?_ ?_ ?_ ?_ rfl rfl rfl rfl | refine Kept.updT (by assumption) rfl ?_ ?_ ?_ ?_ ?_ rfl rfl rfl rfl
    | dsimp only)

theorem State.copied_kept {o : State} {s_0 : State} {e_1 : ℕ} {g_2 : ℕ} {c_3 : ℕ} (h0 : Kept o s_0) :
    Kept o (@State.copied s_0 e_1 g_2 c_3) := by
  unfold State.copied
  repeat' (first
    | with_reducible first | assumption | refine ite_kept ?_ ?_ | refine Kept.same ?_ rfl
    | dsimp only
    | (intro _))

theorem State.openChunk_kept {o : State} {s_0 : State} {e_1 : ℕ} {g_2 : ℕ} {c_3 : ℕ} (h0 : Kept o s_0) :
    Kept o (@State.openChunk s_0 e_1 g_2 c_3) := by
  unfold State.openChunk
  repeat' (first
    | with_reducible first | assumption | refine State.copied_kept ?_ | refine State.setGran_kept ?_ | refine Kept.od (o := o) ?_ | refine Kept.mem (o := o) ?_ | refine Kept.cxl (o := o) ?_ | refine Kept.flash (o := o) ?_ | refine Kept.sram (o := o) ?_ | refine sparseWf_sparseSet _ _ _ _ ?_ | refine sparseWf_sparseDrop _ _ _ _ ?_ | refine sparseWf_filter _ _ _ ?_ | refine sparseWf_sparseCopy _ _ _ _ _ _ ?_
    | (extract_lets +onlyGivenNames x; first
      | (refine cutS (o := o) (x := x) ?_ (fun _ => ?_) <;> [subst x; clear_value x])
      | (refine cutP (o := o) (x := x) ?_ (fun _ => ?_) <;> [subst x; clear_value x])
      | (refine cutF (o := o) (x := x) ?_ (fun _ => ?_) <;> [subst x; clear_value x])
      | skip)
    | with_reducible first | refine ite_kept ?_ ?_ | refine Kept.same ?_ rfl | refine Kept.updT (s := s_0) h0 rfl ?_ ?_ ?_ ?_ ?_ rfl rfl rfl rfl | refine Kept.updT (by assumption) rfl ?_ ?_ ?_ ?_ ?_ rfl rfl rfl rfl
    | dsimp only)

theorem State.dirtyChunk_kept {o : State} {s_0 : State} {e_1 : ℕ} {g_2 : ℕ} {c_3 : ℕ} (h0 : Kept o s_0) :
    Kept o (@State.dirtyChunk s_0 e_1 g_2 c_3) := by
  unfold State.dirtyChunk
  repeat' (first
    | with_reducible first | assumption | refine State.setGran_kept ?_ | refine State.bump_kept ?_
    | (extract_lets +onlyGivenNames x; first
      | (refine cutS (o := o) (x := x) ?_ (fun _ => ?_) <;> [subst x; clear_value x])
      | (refine cutP (o := o) (x := x) ?_ (fun _ => ?_) <;> [subst x; clear_value x])
      | (refine cutF (o := o) (x := x) ?_ (fun _ => ?_) <;> [subst x; clear_value x])
      | skip)
    | with_reducible first | refine ite_kept ?_ ?_ | refine Kept.same ?_ rfl
    | dsimp only)

theorem State.cleanBit_kept {o : State} {s_0 : State} {e_1 : ℕ} {g_2 : ℕ} {c_3 : ℕ} (h0 : Kept o s_0) :
    Kept o (@State.cleanBit s_0 e_1 g_2 c_3) := by
  unfold State.cleanBit
  repeat' (first
    | with_reducible first | assumption | refine State.setGran_kept ?_ | refine State.wr_kept ?_
    | (extract_lets +onlyGivenNames x; first
      | (refine cutS (o := o) (x := x) ?_ (fun _ => ?_) <;> [subst x; clear_value x])
      | (refine cutP (o := o) (x := x) ?_ (fun _ => ?_) <;> [subst x; clear_value x])
      | (refine cutF (o := o) (x := x) ?_ (fun _ => ?_) <;> [subst x; clear_value x])
      | skip)
    | with_reducible first | refine ite_kept ?_ ?_ | refine Kept.same ?_ rfl
    | dsimp only)

theorem State.mapChunk_kept {o : State} {s_0 : State} {e_1 : ℕ} {g_2 : ℕ} {c_3 : ℕ} (h0 : Kept o s_0) :
    Kept o (@State.mapChunk s_0 e_1 g_2 c_3) := by
  unfold State.mapChunk
  repeat' (first
    | with_reducible first | assumption | refine State.nandWrite_kept ?_
    | (extract_lets +onlyGivenNames x; first
      | (refine cutS (o := o) (x := x) ?_ (fun _ => ?_) <;> [subst x; clear_value x])
      | (refine cutP (o := o) (x := x) ?_ (fun _ => ?_) <;> [subst x; clear_value x])
      | (refine cutF (o := o) (x := x) ?_ (fun _ => ?_) <;> [subst x; clear_value x])
      | skip)
    | with_reducible refine ite_kept ?_ ?_
    | dsimp only)

theorem State.writeByte_kept {o : State} {s_0 : State} {e_1 : ℕ} {off_2 : ℕ} {b_3 : Byte} (h0 : Kept o s_0) :
    Kept o (@State.writeByte s_0 e_1 off_2 b_3) := by
  unfold State.writeByte
  repeat' (first
    | with_reducible first | assumption | refine State.dirtyChunk_kept ?_ | refine State.mapChunk_kept ?_ | refine State.putByte_kept ?_ | refine State.openChunk_kept ?_
    | (extract_lets +onlyGivenNames x; first
      | (refine cutS (o := o) (x := x) ?_ (fun _ => ?_) <;> [subst x; clear_value x])
      | (refine cutP (o := o) (x := x) ?_ (fun _ => ?_) <;> [subst x; clear_value x])
      | (refine cutF (o := o) (x := x) ?_ (fun _ => ?_) <;> [subst x; clear_value x])
      | skip)
    | dsimp only)

theorem State.writePool_kept {o : State} {s_0 : State} {e_1 : ℕ} {off_2 : ℕ} {a__internal_hyg0_3 : List Byte} (h0 : Kept o s_0) :
    Kept o (@State.writePool s_0 e_1 off_2 a__internal_hyg0_3) := by
  induction a__internal_hyg0_3 generalizing s_0 e_1 off_2 with
  | nil =>
    unfold State.writePool
    repeat' (first
      | with_reducible first | assumption | refine State.writeByte_kept ?_ | refine ih ?_
      | split
      | dsimp only
      | (intro _))
  | cons x l ih =>
    unfold State.writePool
    repeat' (first
      | with_reducible first | assumption | refine State.writeByte_kept ?_ | refine ih ?_
      | split
      | dsimp only
      | (intro _))

theorem State.addPoison_kept {o : State} {s_0 : State} {k_1 : ℕ} (h0 : Kept o s_0) :
    Kept o (@State.addPoison s_0 k_1) := by
  unfold State.addPoison
  repeat' (first
    | with_reducible first | assumption | refine ite_kept ?_ ?_ | refine Kept.same ?_ rfl
    | dsimp only)

theorem State.liftPoison_kept {o : State} {s_0 : State} {e_1 : ℕ} {off_2 : ℕ} {n_3 : ℕ} (h0 : Kept o s_0) :
    Kept o (@State.liftPoison s_0 e_1 off_2 n_3) := by
  unfold State.liftPoison
  repeat' (first
    | with_reducible assumption
    | (extract_lets +onlyGivenNames x; first
      | (refine cutS (o := o) (x := x) ?_ (fun _ => ?_) <;> [subst x; clear_value x])
      | (refine cutP (o := o) (x := x) ?_ (fun _ => ?_) <;> [subst x; clear_value x])
      | (refine cutF (o := o) (x := x) ?_ (fun _ => ?_) <;> [subst x; clear_value x])
      | skip)
    | with_reducible refine Kept.same ?_ rfl
    | dsimp only
    | (intro _))

theorem State.giveGranule_kept {o : State} {s_0 : State} {e_1 : ℕ} {g_2 : ℕ} (h0 : Kept o s_0) :
    Kept o (@State.giveGranule s_0 e_1 g_2) := by
  unfold State.giveGranule
  repeat' (first
    | with_reducible first | assumption | refine State.setGran_kept ?_ | refine State.wr_kept ?_
    | (extract_lets +onlyGivenNames x; first
      | (refine cutS (o := o) (x := x) ?_ (fun _ => ?_) <;> [subst x; clear_value x])
      | (refine cutP (o := o) (x := x) ?_ (fun _ => ?_) <;> [subst x; clear_value x])
      | (refine cutF (o := o) (x := x) ?_ (fun _ => ?_) <;> [subst x; clear_value x])
      | skip)
    | with_reducible first | refine ite_kept ?_ ?_ | refine Kept.same ?_ rfl
    | dsimp only)

theorem State.allocate_kept {o : State} {s_0 : State} {e_1 : ℕ} {g_2 : ℕ} (h0 : Kept o s_0) :
    KeptVal o (@State.allocate s_0 e_1 g_2) (fun v => v) := by
  unfold State.allocate
  repeat' (first
    | with_reducible first | assumption | refine State.giveGranule_kept ?_ | exact KeptVal.none | refine KeptVal.some ?_
    | (extract_lets +onlyGivenNames x; first
      | (refine cutS (o := o) (x := x) ?_ (fun _ => ?_) <;> [subst x; clear_value x])
      | (refine cutP (o := o) (x := x) ?_ (fun _ => ?_) <;> [subst x; clear_value x])
      | (refine cutF (o := o) (x := x) ?_ (fun _ => ?_) <;> [subst x; clear_value x])
      | skip)
    | with_reducible refine ite_kept ?_ ?_
    | split
    | with_reducible refine Kept.same ?_ rfl
    | dsimp only
    | (intro _))
theorem State.allocate_some {o : State} {s_0 : State} {e_1 : ℕ} {g_2 : ℕ} {t : State} (e : @State.allocate s_0 e_1 g_2 = some t) (h0 : Kept o s_0) : Kept o t :=
  State.allocate_kept (o := o) h0 _ e

theorem State.recompute_kept {o : State} {s_0 : State} (h0 : Kept o s_0) :
    Kept o (@State.recompute s_0) := by
  unfold State.recompute
  repeat' (first
    | with_reducible first | assumption | refine State.wr_kept ?_ | refine State.emit_kept ?_
    | (extract_lets +onlyGivenNames x; first
      | (refine cutS (o := o) (x := x) ?_ (fun _ => ?_) <;> [subst x; clear_value x])
      | (refine cutP (o := o) (x := x) ?_ (fun _ => ?_) <;> [subst x; clear_value x])
      | (refine cutF (o := o) (x := x) ?_ (fun _ => ?_) <;> [subst x; clear_value x])
      | skip)
    | with_reducible first | refine ite_kept ?_ ?_ | refine Kept.same ?_ rfl
    | dsimp only)

theorem State.bandwidth_kept {o : State} {s_0 : State} (h0 : Kept o s_0) :
    Kept o (@State.bandwidth s_0) := by
  unfold State.bandwidth
  repeat' (first
    | with_reducible first | assumption | refine State.recompute_kept ?_ | refine ite_kept ?_ ?_
    | dsimp only)

theorem State.setRingIndex_kept {o : State} {s_0 : State} {ring_1 : ℕ} {word_2 : ℕ} {v_3 : ℕ} (h0 : Kept o s_0) :
    Kept o (@State.setRingIndex s_0 ring_1 word_2 v_3) := by
  unfold State.setRingIndex
  repeat' (first
    | with_reducible first | assumption | refine State.allocate_some (by assumption) ?_ | refine State.allocate_kept ?_ | refine State.writePool_kept ?_
    | split
    | with_reducible refine Kept.same ?_ rfl
    | dsimp only)

theorem State.setRing_kept {o : State} {s_0 : State} {r_1 : ℕ} {x_2 : RingState} (h0 : Kept o s_0) :
    Kept o (@State.setRing s_0 r_1 x_2) := by
  unfold State.setRing
  repeat' (first
    | with_reducible first | assumption | refine Kept.same ?_ rfl
    | dsimp only)

theorem State.post_kept {o : State} {s_0 : State} {ring_1 : ℕ} {rec__2 : List Byte} (h0 : Kept o s_0) :
    KeptVal o (@State.post s_0 ring_1 rec__2) (fun v => v) := by
  unfold State.post
  repeat' (first
    | with_reducible first | assumption | refine State.allocate_some (by assumption) ?_ | refine State.allocate_kept ?_ | refine State.setRingIndex_kept ?_ | refine State.writePool_kept ?_ | exact KeptVal.none | refine KeptVal.some ?_
    | (extract_lets +onlyGivenNames x; first
      | (refine cutS (o := o) (x := x) ?_ (fun _ => ?_) <;> [subst x; clear_value x])
      | (refine cutP (o := o) (x := x) ?_ (fun _ => ?_) <;> [subst x; clear_value x])
      | (refine cutF (o := o) (x := x) ?_ (fun _ => ?_) <;> [subst x; clear_value x])
      | skip)
    | with_reducible refine ite_kept ?_ ?_
    | split
    | with_reducible refine Kept.same ?_ rfl
    | dsimp only)
theorem State.post_some {o : State} {s_0 : State} {ring_1 : ℕ} {rec__2 : List Byte} {t : State} (e : @State.post s_0 ring_1 rec__2 = some t) (h0 : Kept o s_0) : Kept o t :=
  State.post_kept (o := o) h0 _ e

theorem State.unreserve_kept {o : State} {s_0 : State} {ring_1 : ℕ} (h0 : Kept o s_0) :
    Kept o (@State.unreserve s_0 ring_1) := by
  unfold State.unreserve
  repeat' (first
    | with_reducible first | assumption | refine State.setRing_kept ?_ | refine Kept.same ?_ rfl
    | dsimp only)

theorem State.payOwed_kept {o : State} {s_0 : State} {ring_1 : ℕ} {a__internal_hyg0_2 : ℕ} (h0 : Kept o s_0) :
    Kept o (@State.payOwed s_0 ring_1 a__internal_hyg0_2) := by
  induction a__internal_hyg0_2 generalizing s_0 ring_1 with
  | zero =>
    unfold State.payOwed
    repeat' (first
      | with_reducible first | assumption | refine State.post_some (by assumption) ?_ | refine State.post_kept ?_ | refine State.unreserve_kept ?_ | refine ih ?_ | refine ite_kept ?_ ?_
      | split
      | with_reducible refine Kept.same ?_ rfl
      | dsimp only
      | (intro _))
  | succ n ih =>
    unfold State.payOwed
    repeat' (first
      | with_reducible first | assumption | refine State.post_some (by assumption) ?_ | refine State.post_kept ?_ | refine State.unreserve_kept ?_ | refine ih ?_ | refine ite_kept ?_ ?_
      | split
      | with_reducible refine Kept.same ?_ rfl
      | dsimp only
      | (intro _))

theorem State.postOrOwe_kept {o : State} {s_0 : State} {ring_1 : ℕ} {cid_2 : ℕ} {rec__3 : List Byte} (h0 : Kept o s_0) :
    Kept o (@State.postOrOwe s_0 ring_1 cid_2 rec__3) := by
  unfold State.postOrOwe
  repeat' (first
    | with_reducible first | assumption | refine State.post_some (by assumption) ?_ | refine State.post_kept ?_ | refine State.unreserve_kept ?_ | refine State.payOwed_kept ?_
    | (extract_lets +onlyGivenNames x; first
      | (refine cutS (o := o) (x := x) ?_ (fun _ => ?_) <;> [subst x; clear_value x])
      | (refine cutP (o := o) (x := x) ?_ (fun _ => ?_) <;> [subst x; clear_value x])
      | (refine cutF (o := o) (x := x) ?_ (fun _ => ?_) <;> [subst x; clear_value x])
      | skip)
    | with_reducible first | refine ite_kept ?_ ?_ | refine Kept.same ?_ rfl
    | dsimp only)

theorem State.ownKept_kept {o : State} {s_0 : State} (h0 : Kept o s_0) :
    Kept o (@State.ownKept s_0) := by
  unfold State.ownKept
  repeat' (first
    | with_reducible first | assumption | refine State.wr_kept ?_
    | dsimp only)

theorem State.dropOwn_kept {o : State} {s_0 : State} {p_1 : OwnRec → Bool} (h0 : Kept o s_0) :
    Kept o (@State.dropOwn s_0 p_1) := by
  unfold State.dropOwn
  repeat' (first
    | with_reducible first | assumption | refine State.ownKept_kept ?_ | refine Kept.same ?_ rfl
    | dsimp only
    | (intro _))

theorem State.entryLost_kept {o : State} {s_0 : State} {r_1 : ℕ} {e_2 : ℕ} (h0 : Kept o s_0) :
    Kept o (@State.entryLost s_0 r_1 e_2) := by
  unfold State.entryLost
  repeat' (first
    | with_reducible first | assumption | refine State.wr_kept ?_ | refine State.emit_kept ?_ | refine State.count_kept ?_ | refine State.bump_kept ?_
    | (extract_lets +onlyGivenNames x; first
      | (refine cutS (o := o) (x := x) ?_ (fun _ => ?_) <;> [subst x; clear_value x])
      | (refine cutP (o := o) (x := x) ?_ (fun _ => ?_) <;> [subst x; clear_value x])
      | (refine cutF (o := o) (x := x) ?_ (fun _ => ?_) <;> [subst x; clear_value x])
      | skip)
    | with_reducible refine Kept.same ?_ rfl
    | dsimp only)

theorem State.searched_kept {o : State} {s_0 : State} {herd_1 : ℕ} {r_2 : ℕ} {a_3 : Answer} (h0 : Kept o s_0) :
    Kept o (@State.searched s_0 herd_1 r_2 a_3) := by
  unfold State.searched
  repeat' (first
    | with_reducible first | assumption | refine foldl_kept ?_ (fun _ _ _ => ?_) | refine State.tally_kept ?_ | refine State.bump_kept ?_ | refine State.entryLost_kept ?_
    | (extract_lets +onlyGivenNames x; first
      | (refine cutS (o := o) (x := x) ?_ (fun _ => ?_) <;> [subst x; clear_value x])
      | (refine cutP (o := o) (x := x) ?_ (fun _ => ?_) <;> [subst x; clear_value x])
      | (refine cutF (o := o) (x := x) ?_ (fun _ => ?_) <;> [subst x; clear_value x])
      | skip)
    | with_reducible refine ite_kept ?_ ?_
    | dsimp only
    | (intro _))

theorem State.putEntry_kept {o : State} {s_0 : State} {r_1 : ℕ} {off_2 : ℕ} {v_3 : ℕ} (h0 : Kept o s_0) :
    Kept o (@State.putEntry s_0 r_1 off_2 v_3) := by
  unfold State.putEntry
  repeat' (first
    | with_reducible first | assumption | refine State.wr_kept ?_ | refine State.bump_kept ?_
    | (extract_lets +onlyGivenNames x; first
      | (refine cutS (o := o) (x := x) ?_ (fun _ => ?_) <;> [subst x; clear_value x])
      | (refine cutP (o := o) (x := x) ?_ (fun _ => ?_) <;> [subst x; clear_value x])
      | (refine cutF (o := o) (x := x) ?_ (fun _ => ?_) <;> [subst x; clear_value x])
      | skip)
    | with_reducible first | refine ite_kept ?_ ?_ | refine Kept.same ?_ rfl
    | dsimp only)

theorem foldl_wf {α : Type} {d : Nat → Nat} {f : Sparse Nat → α → Sparse Nat} {i : Sparse Nat} {l : List α} (hi : sparseWf d i)
    (hf : ∀ a x, sparseWf d a → sparseWf d (f a x)) : sparseWf d (l.foldl f i) := by
  induction l generalizing i with
  | nil => exact hi
  | cons x l ih => exact ih (hf _ _ hi)
theorem State.clearSet_kept {o : State} {s : State} {r : Nat} (h : Kept o s) : Kept o (s.clearSet r) := by
  unfold State.clearSet
  refine State.bump_kept (State.wr_kept (Kept.same (s := State.mk _ _ _ _ _ _ _ _ _ _ _ _ _ _ _ _ _ _ _ _ _ _ _) (Kept.updT h rfl (foldl_wf h.od fun _ kv w => sparseWf_sparseSet odDefault _ kv.1 (kv.2 % 2 ^ 511) w) h.mem h.cxl h.flash h.sram rfl rfl rfl rfl) rfl))

theorem State.markAnswered_kept {o : State} {s_0 : State} {id_1 : ℕ} (h0 : Kept o s_0) :
    Kept o (@State.markAnswered s_0 id_1) := by
  unfold State.markAnswered
  repeat' (first
    | with_reducible first | assumption | refine ite_kept ?_ ?_ | refine Kept.same ?_ rfl
    | dsimp only
    | (intro _))

theorem State.answer_kept {o : State} {s_0 : State} {r_1 : Req} {code_2 : ℕ} {detail_3 : ℕ} {data_4 : List Byte} (h0 : Kept o s_0) :
    Kept o (@State.answer s_0 r_1 code_2 detail_3 data_4) := by
  unfold State.answer
  repeat' (first
    | with_reducible first | assumption | refine State.markAnswered_kept ?_
    | (extract_lets +onlyGivenNames x; first
      | (refine cutS (o := o) (x := x) ?_ (fun _ => ?_) <;> [subst x; clear_value x])
      | (refine cutP (o := o) (x := x) ?_ (fun _ => ?_) <;> [subst x; clear_value x])
      | (refine cutF (o := o) (x := x) ?_ (fun _ => ?_) <;> [subst x; clear_value x])
      | skip)
    | split
    | with_reducible refine Kept.same ?_ rfl
    | dsimp only)

theorem State.takePsn_kept {o : State} {s_0 : State} {src_1 : ℕ} {dst_2 : ℕ} (h0 : Kept o s_0) :
    Kept o (@State.takePsn s_0 src_1 dst_2).2 := by
  unfold State.takePsn
  repeat' (first
    | with_reducible assumption
    | (extract_lets +onlyGivenNames x; first
      | (refine cutS (o := o) (x := x) ?_ (fun _ => ?_) <;> [subst x; clear_value x])
      | (refine cutP (o := o) (x := x) ?_ (fun _ => ?_) <;> [subst x; clear_value x])
      | (refine cutF (o := o) (x := x) ?_ (fun _ => ?_) <;> [subst x; clear_value x])
      | skip)
    | with_reducible refine Kept.same ?_ rfl
    | dsimp only)
theorem State.takePsn_eq {o : State} {s_0 : State} {src_1 : ℕ} {dst_2 : ℕ} {v0 : ℕ} {t : State} (e : @State.takePsn s_0 src_1 dst_2 = (v0, t)) (h0 : Kept o s_0) : Kept o t := by
  have h : Kept o (@State.takePsn s_0 src_1 dst_2).2 := State.takePsn_kept h0
  rw [e] at h; exact h

theorem State.classifySearch_kept {o : State} {s_0 : State} {b_1 : FrameBody} {ingress_2 : Option PortId} {egress_3 : ℕ} (h0 : Kept o s_0) :
    Kept o (@State.classifySearch s_0 b_1 ingress_2 egress_3) := by
  unfold State.classifySearch
  repeat' (first
    | with_reducible first | assumption | refine State.searched_kept ?_
    | (extract_lets +onlyGivenNames x; first
      | (refine cutS (o := o) (x := x) ?_ (fun _ => ?_) <;> [subst x; clear_value x])
      | (refine cutP (o := o) (x := x) ?_ (fun _ => ?_) <;> [subst x; clear_value x])
      | (refine cutF (o := o) (x := x) ?_ (fun _ => ?_) <;> [subst x; clear_value x])
      | skip)
    | with_reducible refine ite_kept ?_ ?_
    | dsimp only)

theorem State.traceFrame_kept {o : State} {s_0 : State} {p_1 : ℕ} {out_2 : ℕ} {b_3 : FrameBody} (h0 : Kept o s_0) :
    Kept o (@State.traceFrame s_0 p_1 out_2 b_3) := by
  unfold State.traceFrame
  repeat' (first
    | with_reducible first | assumption | refine State.trace_kept ?_
    | (extract_lets +onlyGivenNames x; first
      | (refine cutS (o := o) (x := x) ?_ (fun _ => ?_) <;> [subst x; clear_value x])
      | (refine cutP (o := o) (x := x) ?_ (fun _ => ?_) <;> [subst x; clear_value x])
      | (refine cutF (o := o) (x := x) ?_ (fun _ => ?_) <;> [subst x; clear_value x])
      | skip)
    | with_reducible refine ite_kept ?_ ?_
    | split
    | with_reducible refine Kept.same ?_ rfl
    | dsimp only)

theorem State.charge_kept {o : State} {s_0 : State} {a_1 : ℕ} {herd_2 : ℕ} {src_3 : ℕ} {n_4 : ℕ} {add_5 : Bool} (h0 : Kept o s_0) :
    Kept o (@State.charge s_0 a_1 herd_2 src_3 n_4 add_5) := by
  unfold State.charge
  repeat' (first
    | with_reducible first | assumption | refine State.wr_kept ?_
    | (extract_lets +onlyGivenNames x; first
      | (refine cutS (o := o) (x := x) ?_ (fun _ => ?_) <;> [subst x; clear_value x])
      | (refine cutP (o := o) (x := x) ?_ (fun _ => ?_) <;> [subst x; clear_value x])
      | (refine cutF (o := o) (x := x) ?_ (fun _ => ?_) <;> [subst x; clear_value x])
      | skip)
    | with_reducible first | refine ite_kept ?_ ?_ | refine Kept.same ?_ rfl
    | dsimp only
    | (intro _))

theorem State.enqueue_kept {o : State} {s_0 : State} {quad_1 : ℕ} {inEnd_2 : ℕ} {ingress_3 : Option PortId} {ports_4 : List PortId} {b_5 : FrameBody} (h0 : Kept o s_0) :
    Kept o (@State.enqueue s_0 quad_1 inEnd_2 ingress_3 ports_4 b_5) := by
  unfold State.enqueue
  repeat' (first
    | with_reducible first | assumption | refine State.charge_kept ?_ | refine State.tally_kept ?_
    | (extract_lets +onlyGivenNames x; first
      | (refine cutS (o := o) (x := x) ?_ (fun _ => ?_) <;> [subst x; clear_value x])
      | (refine cutP (o := o) (x := x) ?_ (fun _ => ?_) <;> [subst x; clear_value x])
      | (refine cutF (o := o) (x := x) ?_ (fun _ => ?_) <;> [subst x; clear_value x])
      | skip)
    | with_reducible first | refine ite_kept ?_ ?_ | refine Kept.same ?_ rfl
    | dsimp only
    | (intro _))

theorem State.sendResp_kept {o : State} {s_0 : State} {quad_1 : ℕ} {inEnd_2 : ℕ} {p_3 : PortId} {b_4 : FrameBody} (h0 : Kept o s_0) :
    Kept o (@State.sendResp s_0 quad_1 inEnd_2 p_3 b_4) := by
  unfold State.sendResp
  repeat' (first
    | with_reducible first | assumption | refine State.bump_kept ?_ | refine State.enqueue_kept ?_
    | (extract_lets +onlyGivenNames x; first
      | (refine cutS (o := o) (x := x) ?_ (fun _ => ?_) <;> [subst x; clear_value x])
      | (refine cutP (o := o) (x := x) ?_ (fun _ => ?_) <;> [subst x; clear_value x])
      | (refine cutF (o := o) (x := x) ?_ (fun _ => ?_) <;> [subst x; clear_value x])
      | skip)
    | with_reducible refine ite_kept ?_ ?_
    | dsimp only)

theorem State.setLink_kept {o : State} {s_0 : State} {p_1 : ℕ} {l_2 : LinkState} (h0 : Kept o s_0) :
    Kept o (@State.setLink s_0 p_1 l_2) :=
  h0.setLinks (sparseWf_sparseSet (fun _ => linkNew) _ _ _ h0.links)

theorem State.sendOn_kept {o : State} {s_0 : State} {p_1 : PortId} {o_2 : OutItem} (h0 : Kept o s_0) :
    Kept o (@State.sendOn s_0 p_1 o_2) := by
  unfold State.sendOn
  repeat' (first
    | with_reducible first | assumption | refine State.send_kept ?_
    | (extract_lets +onlyGivenNames x; first
      | (refine cutS (o := o) (x := x) ?_ (fun _ => ?_) <;> [subst x; clear_value x])
      | (refine cutP (o := o) (x := x) ?_ (fun _ => ?_) <;> [subst x; clear_value x])
      | (refine cutF (o := o) (x := x) ?_ (fun _ => ?_) <;> [subst x; clear_value x])
      | skip)
    | with_reducible first | refine ite_kept ?_ ?_ | refine Kept.same ?_ rfl
    | dsimp only)

theorem State.linkLearn_kept {o : State} {s_0 : State} {p_1 : ℕ} {env_2 : LinkEnv} (h0 : Kept o s_0) :
    Kept o (@State.linkLearn s_0 p_1 env_2) := by
  unfold State.linkLearn
  repeat' (first
    | with_reducible first | assumption | refine State.setLink_kept ?_
    | (extract_lets +onlyGivenNames x; first
      | (refine cutS (o := o) (x := x) ?_ (fun _ => ?_) <;> [subst x; clear_value x])
      | (refine cutP (o := o) (x := x) ?_ (fun _ => ?_) <;> [subst x; clear_value x])
      | (refine cutF (o := o) (x := x) ?_ (fun _ => ?_) <;> [subst x; clear_value x])
      | skip)
    | with_reducible first | refine ite_kept ?_ ?_ | refine Kept.same ?_ rfl
    | dsimp only
    | (intro _))

theorem State.nakGap_kept {o : State} {s_0 : State} {p_1 : PortId} (h0 : Kept o s_0) :
    Kept o (@State.nakGap s_0 p_1) := by
  unfold State.nakGap
  repeat' (first
    | with_reducible first | assumption | refine State.sendOn_kept ?_ | refine State.setLink_kept ?_
    | (extract_lets +onlyGivenNames x; first
      | (refine cutS (o := o) (x := x) ?_ (fun _ => ?_) <;> [subst x; clear_value x])
      | (refine cutP (o := o) (x := x) ?_ (fun _ => ?_) <;> [subst x; clear_value x])
      | (refine cutF (o := o) (x := x) ?_ (fun _ => ?_) <;> [subst x; clear_value x])
      | skip)
    | with_reducible first | refine ite_kept ?_ ?_ | refine Kept.same ?_ rfl
    | dsimp only)

theorem State.linkReceive_kept {o : State} {s_0 : State} {p_1 : PortId} {env_2 : LinkEnv} {b_3 : FrameBody} (h0 : Kept o s_0) :
    Kept o (@State.linkReceive s_0 p_1 env_2 b_3).1 := by
  unfold State.linkReceive
  repeat' (first
    | with_reducible first | assumption | refine State.linkLearn_kept ?_ | refine State.setLink_kept ?_ | refine State.nakGap_kept ?_
    | (extract_lets +onlyGivenNames x; first
      | (refine cutS (o := o) (x := x) ?_ (fun _ => ?_) <;> [subst x; clear_value x])
      | (refine cutP (o := o) (x := x) ?_ (fun _ => ?_) <;> [subst x; clear_value x])
      | (refine cutF (o := o) (x := x) ?_ (fun _ => ?_) <;> [subst x; clear_value x])
      | skip)
    | with_reducible first | refine ite_kept2 ?_ ?_ | refine ite_kept1 ?_ ?_ | refine ite_kept ?_ ?_ | refine Kept.same ?_ rfl
    | dsimp only)
theorem State.linkReceive_eq {o : State} {s_0 : State} {p_1 : PortId} {env_2 : LinkEnv} {b_3 : FrameBody} {t : State} {v1 : Bool} (e : @State.linkReceive s_0 p_1 env_2 b_3 = (t, v1)) (h0 : Kept o s_0) : Kept o t := by
  have h : Kept o (@State.linkReceive s_0 p_1 env_2 b_3).1 := State.linkReceive_kept h0
  rw [e] at h; exact h

theorem State.creditBack_kept {o : State} {s_0 : State} {p_1 : PortId} {c_2 : ℕ} {n_3 : ℕ} (h0 : Kept o s_0) :
    Kept o (@State.creditBack s_0 p_1 c_2 n_3) := by
  unfold State.creditBack
  repeat' (first
    | with_reducible first | assumption | refine State.setLink_kept ?_ | refine State.count_kept ?_ | refine State.bump_kept ?_
    | (extract_lets +onlyGivenNames x; first
      | (refine cutS (o := o) (x := x) ?_ (fun _ => ?_) <;> [subst x; clear_value x])
      | (refine cutP (o := o) (x := x) ?_ (fun _ => ?_) <;> [subst x; clear_value x])
      | (refine cutF (o := o) (x := x) ?_ (fun _ => ?_) <;> [subst x; clear_value x])
      | skip)
    | with_reducible first | refine ite_kept ?_ ?_ | refine Kept.same ?_ rfl
    | dsimp only)

theorem State.homeCount_kept {o : State} {s_0 : State} {e_1 : ℕ} {j_2 : ℕ} {k_3 : ℕ} (h0 : Kept o s_0) :
    Kept o (@State.homeCount s_0 e_1 j_2 k_3) := by
  unfold State.homeCount
  repeat' (first
    | with_reducible first | assumption | refine State.tally_kept ?_
    | split
    | with_reducible refine Kept.same ?_ rfl
    | dsimp only)

theorem State.setFrame_kept {o : State} {s_0 : State} {f_1 : ℕ} {x_2 : CacheFrame} (h0 : Kept o s_0) :
    Kept o (@State.setFrame s_0 f_1 x_2) := by
  unfold State.setFrame
  repeat' (first
    | with_reducible first | assumption | refine Kept.same ?_ rfl
    | dsimp only)

theorem State.copyChunk_kept {o : State} {s_0 : State} {e_1 : ℕ} {g_2 : ℕ} {c_3 : ℕ} {toT1_4 : Bool} (h0 : Kept o s_0) :
    Kept o (@State.copyChunk s_0 e_1 g_2 c_3 toT1_4) := by
  unfold State.copyChunk
  repeat' (first
    | with_reducible first | assumption | refine Kept.od (o := o) ?_ | refine Kept.mem (o := o) ?_ | refine Kept.cxl (o := o) ?_ | refine Kept.flash (o := o) ?_ | refine Kept.sram (o := o) ?_ | refine sparseWf_sparseSet _ _ _ _ ?_ | refine sparseWf_sparseDrop _ _ _ _ ?_ | refine sparseWf_filter _ _ _ ?_ | refine sparseWf_sparseCopy _ _ _ _ _ _ ?_
    | (extract_lets +onlyGivenNames x; first
      | (refine cutS (o := o) (x := x) ?_ (fun _ => ?_) <;> [subst x; clear_value x])
      | (refine cutP (o := o) (x := x) ?_ (fun _ => ?_) <;> [subst x; clear_value x])
      | (refine cutF (o := o) (x := x) ?_ (fun _ => ?_) <;> [subst x; clear_value x])
      | skip)
    | with_reducible first | refine ite_kept ?_ ?_ | refine Kept.same ?_ rfl | refine Kept.updT (s := s_0) h0 rfl ?_ ?_ ?_ ?_ ?_ rfl rfl rfl rfl | refine Kept.updT (by assumption) rfl ?_ ?_ ?_ ?_ ?_ rfl rfl rfl rfl
    | dsimp only)

theorem State.flushedChunk_kept {o : State} {s_0 : State} {e_1 : ℕ} {place_2 : ℕ} (h0 : Kept o s_0) :
    Kept o (@State.flushedChunk s_0 e_1 place_2) := by
  unfold State.flushedChunk
  repeat' (first
    | with_reducible assumption
    | (extract_lets +onlyGivenNames x; first
      | (refine cutS (o := o) (x := x) ?_ (fun _ => ?_) <;> [subst x; clear_value x])
      | (refine cutP (o := o) (x := x) ?_ (fun _ => ?_) <;> [subst x; clear_value x])
      | (refine cutF (o := o) (x := x) ?_ (fun _ => ?_) <;> [subst x; clear_value x])
      | skip)
    | with_reducible refine ite_kept ?_ ?_
    | split
    | with_reducible refine Kept.same ?_ rfl
    | dsimp only
    | (intro _))

theorem State.cleanChunk_kept {o : State} {s_0 : State} {e_1 : ℕ} {g_2 : ℕ} {c_3 : ℕ} (h0 : Kept o s_0) :
    Kept o (@State.cleanChunk s_0 e_1 g_2 c_3) := by
  unfold State.cleanChunk
  repeat' (first
    | with_reducible first | assumption | refine State.nandWrite_kept ?_ | refine State.copyChunk_kept ?_ | refine State.homeCount_kept ?_ | refine State.flushedChunk_kept ?_ | refine State.cleanBit_kept ?_
    | (extract_lets +onlyGivenNames x; first
      | (refine cutS (o := o) (x := x) ?_ (fun _ => ?_) <;> [subst x; clear_value x])
      | (refine cutP (o := o) (x := x) ?_ (fun _ => ?_) <;> [subst x; clear_value x])
      | (refine cutF (o := o) (x := x) ?_ (fun _ => ?_) <;> [subst x; clear_value x])
      | skip)
    | with_reducible refine ite_kept ?_ ?_
    | dsimp only)

theorem State.flashReads_kept {o : State} {s_0 : State} {e_1 : ℕ} {g_2 : ℕ} (h0 : Kept o s_0) :
    Kept o (@State.flashReads s_0 e_1 g_2) := by
  unfold State.flashReads
  repeat' (first
    | with_reducible first | assumption | refine foldl_kept ?_ (fun _ _ _ => ?_) | refine State.readJob_kept ?_ | refine ite_kept ?_ ?_
    | dsimp only
    | (intro _))

theorem State.evict_kept {o : State} {s_0 : State} {e_1 : ℕ} {g_2 : ℕ} (h0 : Kept o s_0) :
    Kept o (@State.evict s_0 e_1 g_2) := by
  unfold State.evict
  repeat' (first
    | with_reducible first | assumption | refine foldl_kept ?_ (fun _ _ _ => ?_) | refine State.cleanChunk_kept ?_ | refine State.homeCount_kept ?_ | refine State.setGran_kept ?_ | refine Kept.od (o := o) ?_ | refine Kept.mem (o := o) ?_ | refine Kept.cxl (o := o) ?_ | refine Kept.flash (o := o) ?_ | refine Kept.sram (o := o) ?_ | refine sparseWf_sparseSet _ _ _ _ ?_ | refine sparseWf_sparseDrop _ _ _ _ ?_ | refine sparseWf_filter _ _ _ ?_ | refine sparseWf_sparseCopy _ _ _ _ _ _ ?_
    | (extract_lets +onlyGivenNames x; first
      | (refine cutS (o := o) (x := x) ?_ (fun _ => ?_) <;> [subst x; clear_value x])
      | (refine cutP (o := o) (x := x) ?_ (fun _ => ?_) <;> [subst x; clear_value x])
      | (refine cutF (o := o) (x := x) ?_ (fun _ => ?_) <;> [subst x; clear_value x])
      | skip)
    | with_reducible first | refine ite_kept ?_ ?_ | refine Kept.same ?_ rfl | refine Kept.updT (s := s_0) h0 rfl ?_ ?_ ?_ ?_ ?_ rfl rfl rfl rfl | refine Kept.updT (by assumption) rfl ?_ ?_ ?_ ?_ ?_ rfl rfl rfl rfl
    | dsimp only
    | (intro _))

theorem State.dropStrangers_kept {o : State} {s_0 : State} (h0 : Kept o s_0) :
    Kept o (@State.dropStrangers s_0) := by
  unfold State.dropStrangers
  repeat' (first
    | with_reducible first | assumption | refine foldl_kept ?_ (fun _ _ _ => ?_) | refine State.evict_kept ?_
    | dsimp only
    | (intro _))

theorem State.startFill_kept {o : State} {s_0 : State} {e_1 : ℕ} {g_2 : ℕ} (h0 : Kept o s_0) :
    Kept o (@State.startFill s_0 e_1 g_2) := by
  unfold State.startFill
  repeat' (first
    | with_reducible first | assumption | refine State.evict_kept ?_ | refine State.setGran_kept ?_ | refine State.setFrame_kept ?_ | refine State.pump_kept ?_ | refine State.flashReads_kept ?_ | refine State.homeCount_kept ?_
    | (extract_lets +onlyGivenNames x; first
      | (refine cutS (o := o) (x := x) ?_ (fun _ => ?_) <;> [subst x; clear_value x])
      | (refine cutP (o := o) (x := x) ?_ (fun _ => ?_) <;> [subst x; clear_value x])
      | (refine cutF (o := o) (x := x) ?_ (fun _ => ?_) <;> [subst x; clear_value x])
      | skip)
    | with_reducible refine ite_kept ?_ ?_
    | split
    | with_reducible refine Kept.same ?_ rfl
    | dsimp only)

theorem State.touch_kept {o : State} {s_0 : State} {e_1 : ℕ} {g_2 : ℕ} (h0 : Kept o s_0) :
    Kept o (@State.touch s_0 e_1 g_2) := by
  unfold State.touch
  repeat' (first
    | with_reducible first | assumption | refine State.homeCount_kept ?_ | refine State.setFrame_kept ?_ | refine State.startFill_kept ?_
    | (extract_lets +onlyGivenNames x; first
      | (refine cutS (o := o) (x := x) ?_ (fun _ => ?_) <;> [subst x; clear_value x])
      | (refine cutP (o := o) (x := x) ?_ (fun _ => ?_) <;> [subst x; clear_value x])
      | (refine cutF (o := o) (x := x) ?_ (fun _ => ?_) <;> [subst x; clear_value x])
      | skip)
    | with_reducible first | refine ite_kept ?_ ?_ | refine Kept.same ?_ rfl
    | dsimp only)

theorem State.fillChunk_kept {o : State} {s_0 : State} {e_1 : ℕ} {g_2 : ℕ} {c_3 : ℕ} (h0 : Kept o s_0) :
    Kept o (@State.fillChunk s_0 e_1 g_2 c_3) := by
  unfold State.fillChunk
  repeat' (first
    | with_reducible first | assumption | refine State.copied_kept ?_ | refine State.copyChunk_kept ?_ | refine ite_kept ?_ ?_
    | dsimp only)

theorem State.endFill_kept {o : State} {s_0 : State} {e_1 : ℕ} {g_2 : ℕ} (h0 : Kept o s_0) :
    Kept o (@State.endFill s_0 e_1 g_2) := by
  unfold State.endFill
  repeat' (first
    | with_reducible first | assumption | refine foldl_kept ?_ (fun _ _ _ => ?_) | refine State.copyChunk_kept ?_ | refine State.homeCount_kept ?_ | refine State.setGran_kept ?_
    | (extract_lets +onlyGivenNames x; first
      | (refine cutS (o := o) (x := x) ?_ (fun _ => ?_) <;> [subst x; clear_value x])
      | (refine cutP (o := o) (x := x) ?_ (fun _ => ?_) <;> [subst x; clear_value x])
      | (refine cutF (o := o) (x := x) ?_ (fun _ => ?_) <;> [subst x; clear_value x])
      | skip)
    | with_reducible refine ite_kept ?_ ?_
    | split
    | with_reducible refine Kept.same ?_ rfl
    | dsimp only
    | (intro _))

theorem State.freeGranule_kept {o : State} {s_0 : State} {e_1 : ℕ} {g_2 : ℕ} (h0 : Kept o s_0) :
    Kept o (@State.freeGranule s_0 e_1 g_2) := by
  unfold State.freeGranule
  repeat' (first
    | with_reducible first | assumption | refine foldl_kept ?_ (fun _ _ _ => ?_) | refine State.cleanBit_kept ?_ | refine State.nandTrim_kept ?_ | refine State.wr_kept ?_ | refine State.setGran_kept ?_ | refine Kept.od (o := o) ?_ | refine Kept.mem (o := o) ?_ | refine Kept.cxl (o := o) ?_ | refine Kept.flash (o := o) ?_ | refine Kept.sram (o := o) ?_ | refine sparseWf_sparseSet _ _ _ _ ?_ | refine sparseWf_sparseDrop _ _ _ _ ?_ | refine sparseWf_filter _ _ _ ?_ | refine sparseWf_sparseCopy _ _ _ _ _ _ ?_
    | (extract_lets +onlyGivenNames x; first
      | (refine cutS (o := o) (x := x) ?_ (fun _ => ?_) <;> [subst x; clear_value x])
      | (refine cutP (o := o) (x := x) ?_ (fun _ => ?_) <;> [subst x; clear_value x])
      | (refine cutF (o := o) (x := x) ?_ (fun _ => ?_) <;> [subst x; clear_value x])
      | skip)
    | with_reducible refine ite_kept ?_ ?_
    | split
    | with_reducible first | refine Kept.same ?_ rfl | refine Kept.updT (s := s_0) h0 rfl ?_ ?_ ?_ ?_ ?_ rfl rfl rfl rfl | refine Kept.updT (by assumption) rfl ?_ ?_ ?_ ?_ ?_ rfl rfl rfl rfl
    | dsimp only
    | (intro _))

theorem State.setTine_kept {o : State} {s_0 : State} {t_1 : ℕ} {x_2 : Tine} (h0 : Kept o s_0) :
    Kept o (@State.setTine s_0 t_1 x_2) := by
  unfold State.setTine
  repeat' (first
    | with_reducible first | assumption | refine Kept.same ?_ rfl
    | dsimp only)

theorem State.setThread_kept {o : State} {s_0 : State} {t_1 : ℕ} {a_2 : ℕ} {x_3 : Thread} (h0 : Kept o s_0) :
    Kept o (@State.setThread s_0 t_1 a_2 x_3) := by
  unfold State.setThread
  repeat' (first
    | with_reducible first | assumption | refine State.setTine_kept ?_
    | (extract_lets +onlyGivenNames x; first
      | (refine cutS (o := o) (x := x) ?_ (fun _ => ?_) <;> [subst x; clear_value x])
      | (refine cutP (o := o) (x := x) ?_ (fun _ => ?_) <;> [subst x; clear_value x])
      | (refine cutF (o := o) (x := x) ?_ (fun _ => ?_) <;> [subst x; clear_value x])
      | skip)
    | with_reducible refine Kept.same ?_ rfl
    | dsimp only)

theorem State.setCmd_kept {o : State} {s_0 : State} {c_1 : Cmd} (h0 : Kept o s_0) :
    Kept o (@State.setCmd s_0 c_1) := by
  unfold State.setCmd
  repeat' (first
    | with_reducible first | assumption | refine ite_kept ?_ ?_ | refine Kept.same ?_ rfl
    | dsimp only
    | (intro _))

theorem State.writeSram_kept {o : State} {s_0 : State} {t_1 : ℕ} {a_2 : ℕ} {a__internal_hyg0_3 : List Byte} (h0 : Kept o s_0) :
    Kept o (@State.writeSram s_0 t_1 a_2 a__internal_hyg0_3) := by
  induction a__internal_hyg0_3 generalizing s_0 t_1 a_2 with
  | nil =>
    unfold State.writeSram
    repeat' (first
      | with_reducible first | assumption | refine ih ?_ | refine Kept.od (o := o) ?_ | refine Kept.mem (o := o) ?_ | refine Kept.cxl (o := o) ?_ | refine Kept.flash (o := o) ?_ | refine Kept.sram (o := o) ?_ | refine sparseWf_sparseSet _ _ _ _ ?_ | refine sparseWf_sparseDrop _ _ _ _ ?_ | refine sparseWf_filter _ _ _ ?_ | refine sparseWf_sparseCopy _ _ _ _ _ _ ?_
      | split
      | with_reducible first | refine Kept.same ?_ rfl | refine Kept.updT (s := s_0) h0 rfl ?_ ?_ ?_ ?_ ?_ rfl rfl rfl rfl | refine Kept.updT (by assumption) rfl ?_ ?_ ?_ ?_ ?_ rfl rfl rfl rfl
      | dsimp only
      | (intro _))
  | cons x l ih =>
    unfold State.writeSram
    repeat' (first
      | with_reducible first | assumption | refine ih ?_ | refine Kept.od (o := o) ?_ | refine Kept.mem (o := o) ?_ | refine Kept.cxl (o := o) ?_ | refine Kept.flash (o := o) ?_ | refine Kept.sram (o := o) ?_ | refine sparseWf_sparseSet _ _ _ _ ?_ | refine sparseWf_sparseDrop _ _ _ _ ?_ | refine sparseWf_filter _ _ _ ?_ | refine sparseWf_sparseCopy _ _ _ _ _ _ ?_
      | split
      | with_reducible first | refine Kept.same ?_ rfl | refine Kept.updT (s := s_0) h0 rfl ?_ ?_ ?_ ?_ ?_ rfl rfl rfl rfl | refine Kept.updT (by assumption) rfl ?_ ?_ ?_ ?_ ?_ rfl rfl rfl rfl
      | dsimp only
      | (intro _))

theorem State.tineCounts_kept {o : State} {s_0 : State} {t_1 : ℕ} (h0 : Kept o s_0) :
    Kept o (@State.tineCounts s_0 t_1) := by
  unfold State.tineCounts
  repeat' (first
    | with_reducible first | assumption | refine State.wr_kept ?_
    | dsimp only)

theorem State.wakeTine_kept {o : State} {s_0 : State} {t_1 : ℕ} (h0 : Kept o s_0) :
    Kept o (@State.wakeTine s_0 t_1) := by
  unfold State.wakeTine
  repeat' (first
    | with_reducible first | assumption | refine foldl_kept ?_ (fun _ _ _ => ?_) | refine State.setTine_kept ?_
    | (extract_lets +onlyGivenNames x; first
      | (refine cutS (o := o) (x := x) ?_ (fun _ => ?_) <;> [subst x; clear_value x])
      | (refine cutP (o := o) (x := x) ?_ (fun _ => ?_) <;> [subst x; clear_value x])
      | (refine cutF (o := o) (x := x) ?_ (fun _ => ?_) <;> [subst x; clear_value x])
      | skip)
    | with_reducible refine ite_kept ?_ ?_
    | split
    | with_reducible refine Kept.same ?_ rfl
    | dsimp only
    | (intro _))

theorem State.endThread_kept {o : State} {s_0 : State} {t_1 : ℕ} {a_2 : ℕ} {code_3 : ℕ} (h0 : Kept o s_0) :
    Kept o (@State.endThread s_0 t_1 a_2 code_3) := by
  unfold State.endThread
  repeat' (first
    | with_reducible first | assumption | refine State.setThread_kept ?_ | refine State.setCmd_kept ?_ | refine State.tineCounts_kept ?_ | refine State.wakeTine_kept ?_
    | (extract_lets +onlyGivenNames x; first
      | (refine cutS (o := o) (x := x) ?_ (fun _ => ?_) <;> [subst x; clear_value x])
      | (refine cutP (o := o) (x := x) ?_ (fun _ => ?_) <;> [subst x; clear_value x])
      | (refine cutF (o := o) (x := x) ?_ (fun _ => ?_) <;> [subst x; clear_value x])
      | skip)
    | with_reducible refine ite_kept ?_ ?_
    | split
    | with_reducible refine Kept.same ?_ rfl
    | dsimp only)

theorem State.dropThreads_kept {o : State} {s_0 : State} {cid_1 : ℕ} (h0 : Kept o s_0) :
    Kept o (@State.dropThreads s_0 cid_1) := by
  unfold State.dropThreads
  repeat' (first
    | with_reducible first | assumption | refine foldl_kept ?_ (fun _ _ _ => ?_) | refine State.tineCounts_kept ?_ | refine State.setTine_kept ?_
    | (extract_lets +onlyGivenNames x; first
      | (refine cutS (o := o) (x := x) ?_ (fun _ => ?_) <;> [subst x; clear_value x])
      | (refine cutP (o := o) (x := x) ?_ (fun _ => ?_) <;> [subst x; clear_value x])
      | (refine cutF (o := o) (x := x) ?_ (fun _ => ?_) <;> [subst x; clear_value x])
      | skip)
    | with_reducible first | refine ite_kept ?_ ?_ | refine Kept.same ?_ rfl
    | dsimp only
    | (intro _))

theorem State.dropRemote_kept {o : State} {s_0 : State} {cid_1 : ℕ} (h0 : Kept o s_0) :
    Kept o (@State.dropRemote s_0 cid_1) := by
  unfold State.dropRemote
  repeat' (first
    | with_reducible first | assumption | refine foldl_kept ?_ (fun _ _ _ => ?_) | refine State.setTine_kept ?_
    | (extract_lets +onlyGivenNames x; first
      | (refine cutS (o := o) (x := x) ?_ (fun _ => ?_) <;> [subst x; clear_value x])
      | (refine cutP (o := o) (x := x) ?_ (fun _ => ?_) <;> [subst x; clear_value x])
      | (refine cutF (o := o) (x := x) ?_ (fun _ => ?_) <;> [subst x; clear_value x])
      | skip)
    | split
    | with_reducible refine Kept.same ?_ rfl
    | dsimp only
    | (intro _))

theorem State.finishCmd_kept {o : State} {s_0 : State} {cid_1 : ℕ} {code_2 : ℕ} (h0 : Kept o s_0) :
    Kept o (@State.finishCmd s_0 cid_1 code_2) := by
  unfold State.finishCmd
  repeat' (first
    | with_reducible first | assumption | refine State.setCmd_kept ?_ | refine State.dropThreads_kept ?_ | refine State.dropRemote_kept ?_ | refine ite_kept ?_ ?_
    | split
    | with_reducible refine Kept.same ?_ rfl
    | dsimp only
    | (intro _))

theorem State.finishWith_kept {o : State} {s_0 : State} {cid_1 : ℕ} {code_2 : ℕ} {res_3 : List ℕ} (h0 : Kept o s_0) :
    Kept o (@State.finishWith s_0 cid_1 code_2 res_3) := by
  unfold State.finishWith
  repeat' (first
    | with_reducible first | assumption | refine State.setCmd_kept ?_ | refine ite_kept ?_ ?_
    | split
    | with_reducible refine Kept.same ?_ rfl
    | dsimp only)

theorem State.noteApplied_kept {o : State} {s_0 : State} {r_1 : Req} {m_2 : RespMsg} (h0 : Kept o s_0) :
    Kept o (@State.noteApplied s_0 r_1 m_2) := by
  unfold State.noteApplied
  repeat' (first
    | with_reducible assumption
    | (extract_lets +onlyGivenNames x; first
      | (refine cutS (o := o) (x := x) ?_ (fun _ => ?_) <;> [subst x; clear_value x])
      | (refine cutP (o := o) (x := x) ?_ (fun _ => ?_) <;> [subst x; clear_value x])
      | (refine cutF (o := o) (x := x) ?_ (fun _ => ?_) <;> [subst x; clear_value x])
      | skip)
    | with_reducible first | refine ite_kept ?_ ?_ | refine Kept.same ?_ rfl
    | dsimp only)

theorem State.traceHome_kept {o : State} {s_0 : State} {r_1 : Req} (h0 : Kept o s_0) :
    Kept o (@State.traceHome s_0 r_1) := by
  unfold State.traceHome
  repeat' (first
    | with_reducible first | assumption | refine State.trace_kept ?_
    | (extract_lets +onlyGivenNames x; first
      | (refine cutS (o := o) (x := x) ?_ (fun _ => ?_) <;> [subst x; clear_value x])
      | (refine cutP (o := o) (x := x) ?_ (fun _ => ?_) <;> [subst x; clear_value x])
      | (refine cutF (o := o) (x := x) ?_ (fun _ => ?_) <;> [subst x; clear_value x])
      | skip)
    | split
    | with_reducible refine Kept.same ?_ rfl
    | dsimp only)

theorem State.answerAgain_kept {o : State} {s_0 : State} {r_1 : Req} (h0 : Kept o s_0) :
    Kept o (@State.answerAgain s_0 r_1) := by
  unfold State.answerAgain
  repeat' (first
    | with_reducible first | assumption | refine State.markAnswered_kept ?_ | refine State.answer_kept ?_ | refine ite_kept ?_ ?_
    | split
    | with_reducible refine Kept.same ?_ rfl
    | dsimp only
    | (intro _))

theorem State.complete_kept {o : State} {s_0 : State} {r_1 : Req} {code_2 : ℕ} {detail_3 : ℕ} {data_4 : List Byte} (h0 : Kept o s_0) :
    Kept o (@State.complete s_0 r_1 code_2 detail_3 data_4) := by
  unfold State.complete
  repeat' (first
    | with_reducible first | assumption | refine State.noteApplied_kept ?_ | refine State.traceHome_kept ?_ | refine State.answer_kept ?_
    | (extract_lets +onlyGivenNames x; first
      | (refine cutS (o := o) (x := x) ?_ (fun _ => ?_) <;> [subst x; clear_value x])
      | (refine cutP (o := o) (x := x) ?_ (fun _ => ?_) <;> [subst x; clear_value x])
      | (refine cutF (o := o) (x := x) ?_ (fun _ => ?_) <;> [subst x; clear_value x])
      | skip)
    | with_reducible refine ite_kept ?_ ?_
    | dsimp only)

theorem State.doorbell_kept {o : State} {s_0 : State} {ring_1 : ℕ} (h0 : Kept o s_0) :
    Kept o (@State.doorbell s_0 ring_1) := by
  unfold State.doorbell
  repeat' (first
    | with_reducible first | assumption | refine State.emit_kept ?_ | refine State.wr_kept ?_ | refine State.setRing_kept ?_
    | (extract_lets +onlyGivenNames x; first
      | (refine cutS (o := o) (x := x) ?_ (fun _ => ?_) <;> [subst x; clear_value x])
      | (refine cutP (o := o) (x := x) ?_ (fun _ => ?_) <;> [subst x; clear_value x])
      | (refine cutF (o := o) (x := x) ?_ (fun _ => ?_) <;> [subst x; clear_value x])
      | skip)
    | with_reducible refine ite_kept ?_ ?_
    | split
    | with_reducible refine Kept.same ?_ rfl
    | dsimp only)

theorem State.doorbells_kept {o : State} {s_0 : State} {e_1 : ℕ} {off_2 : ℕ} {n_3 : ℕ} (h0 : Kept o s_0) :
    Kept o (@State.doorbells s_0 e_1 off_2 n_3) := by
  unfold State.doorbells
  repeat' (first
    | with_reducible first | assumption | refine foldl_kept ?_ (fun _ _ _ => ?_) | refine State.doorbell_kept ?_
    | dsimp only
    | (intro _))

theorem State.hold_kept {o : State} {s_0 : State} {r_1 : Req} {why_2 : HoldWhy} {place_3 : ℕ} {chunks_4 : List ℕ} (h0 : Kept o s_0) :
    Kept o (@State.hold s_0 r_1 why_2 place_3 chunks_4) := by
  unfold State.hold
  repeat' (first
    | with_reducible first | assumption | refine State.homeCount_kept ?_
    | (extract_lets +onlyGivenNames x; first
      | (refine cutS (o := o) (x := x) ?_ (fun _ => ?_) <;> [subst x; clear_value x])
      | (refine cutP (o := o) (x := x) ?_ (fun _ => ?_) <;> [subst x; clear_value x])
      | (refine cutF (o := o) (x := x) ?_ (fun _ => ?_) <;> [subst x; clear_value x])
      | skip)
    | with_reducible first | refine ite_kept ?_ ?_ | refine Kept.same ?_ rfl
    | dsimp only
    | (intro _))

theorem State.prepareWrite_kept {o : State} {s_0 : State} {r_1 : Req} (h0 : Kept o s_0) :
    KeptVal o (@State.prepareWrite s_0 r_1) (fun v => v.1) := by
  unfold State.prepareWrite
  repeat' (first
    | with_reducible first | assumption | refine State.allocate_some (by assumption) ?_ | refine State.allocate_kept ?_ | refine State.fillChunk_kept ?_ | refine State.touch_kept ?_ | exact KeptVal.none | refine KeptVal.some ?_
    | (extract_lets +onlyGivenNames x; first
      | (refine cutS (o := o) (x := x) ?_ (fun _ => ?_) <;> [subst x; clear_value x])
      | (refine cutP (o := o) (x := x) ?_ (fun _ => ?_) <;> [subst x; clear_value x])
      | (refine cutF (o := o) (x := x) ?_ (fun _ => ?_) <;> [subst x; clear_value x])
      | skip)
    | with_reducible refine ite_kept ?_ ?_
    | split
    | with_reducible refine Kept.same ?_ rfl
    | dsimp only)
theorem State.prepareWrite_some {o : State} {s_0 : State} {r_1 : Req} {t : State} {v1 : Option HoldWhy} (e : @State.prepareWrite s_0 r_1 = some (t, v1)) (h0 : Kept o s_0) : Kept o t :=
  State.prepareWrite_kept (o := o) h0 _ e

theorem State.writeMasked_kept {o : State} {s_0 : State} {e_1 : ℕ} {off_2 : ℕ} {mask_3 : ℕ} {a__internal_hyg0_4 : List Byte} (h0 : Kept o s_0) :
    Kept o (@State.writeMasked s_0 e_1 off_2 mask_3 a__internal_hyg0_4) := by
  induction a__internal_hyg0_4 generalizing s_0 e_1 off_2 mask_3 with
  | nil =>
    unfold State.writeMasked
    repeat' (first
      | with_reducible first | assumption | refine State.writeByte_kept ?_ | refine ih ?_ | refine ite_kept ?_ ?_
      | split
      | dsimp only
      | (intro _))
  | cons x l ih =>
    unfold State.writeMasked
    repeat' (first
      | with_reducible first | assumption | refine State.writeByte_kept ?_ | refine ih ?_ | refine ite_kept ?_ ?_
      | split
      | dsimp only
      | (intro _))

theorem State.putReq_kept {o : State} {s_0 : State} {r_1 : Req} (h0 : Kept o s_0) :
    Kept o (@State.putReq s_0 r_1) := by
  unfold State.putReq
  repeat' (first
    | with_reducible first | assumption | refine State.writeMasked_kept ?_ | refine State.writePool_kept ?_
    | (extract_lets +onlyGivenNames x; first
      | (refine cutS (o := o) (x := x) ?_ (fun _ => ?_) <;> [subst x; clear_value x])
      | (refine cutP (o := o) (x := x) ?_ (fun _ => ?_) <;> [subst x; clear_value x])
      | (refine cutF (o := o) (x := x) ?_ (fun _ => ?_) <;> [subst x; clear_value x])
      | skip)
    | split
    | with_reducible refine Kept.same ?_ rfl
    | dsimp only)

theorem State.noteBoard_kept {o : State} {s_0 : State} {r_1 : Req} (h0 : Kept o s_0) :
    Kept o (@State.noteBoard s_0 r_1) := by
  unfold State.noteBoard
  repeat' (first
    | with_reducible first | assumption | refine ite_kept ?_ ?_
    | split
    | with_reducible refine Kept.same ?_ rfl
    | dsimp only
    | (intro _))

theorem State.applyWrite_kept {o : State} {s_0 : State} {r_1 : Req} {through_2 : Bool} (h0 : Kept o s_0) :
    Kept o (@State.applyWrite s_0 r_1 through_2) := by
  unfold State.applyWrite
  repeat' (first
    | with_reducible first | assumption | refine State.nandWrite_kept ?_ | refine State.putReq_kept ?_ | refine State.liftPoison_kept ?_ | refine State.cleanChunk_kept ?_ | refine State.homeCount_kept ?_ | refine State.doorbells_kept ?_ | refine State.noteBoard_kept ?_ | refine State.complete_kept ?_
    | (extract_lets +onlyGivenNames x; first
      | (refine cutS (o := o) (x := x) ?_ (fun _ => ?_) <;> [subst x; clear_value x])
      | (refine cutP (o := o) (x := x) ?_ (fun _ => ?_) <;> [subst x; clear_value x])
      | (refine cutF (o := o) (x := x) ?_ (fun _ => ?_) <;> [subst x; clear_value x])
      | skip)
    | with_reducible refine ite_kept ?_ ?_
    | split
    | with_reducible refine Kept.same ?_ rfl
    | dsimp only)

theorem State.serveWrite_kept {o : State} {s_0 : State} {r_1 : Req} (h0 : Kept o s_0) :
    Kept o (@State.serveWrite s_0 r_1) := by
  unfold State.serveWrite
  repeat' (first
    | with_reducible first | assumption | refine State.complete_kept ?_ | refine State.prepareWrite_some (by assumption) ?_ | refine State.prepareWrite_kept ?_ | refine State.applyWrite_kept ?_ | refine State.hold_kept ?_ | refine ite_kept ?_ ?_
    | split
    | with_reducible refine Kept.same ?_ rfl
    | dsimp only)

theorem State.loadNow_kept {o : State} {s_0 : State} {r_1 : Req} (h0 : Kept o s_0) :
    Kept o (@State.loadNow s_0 r_1) := by
  unfold State.loadNow
  repeat' (first
    | with_reducible first | assumption | refine State.complete_kept ?_
    | (extract_lets +onlyGivenNames x; first
      | (refine cutS (o := o) (x := x) ?_ (fun _ => ?_) <;> [subst x; clear_value x])
      | (refine cutP (o := o) (x := x) ?_ (fun _ => ?_) <;> [subst x; clear_value x])
      | (refine cutF (o := o) (x := x) ?_ (fun _ => ?_) <;> [subst x; clear_value x])
      | skip)
    | with_reducible refine ite_kept ?_ ?_
    | dsimp only)

theorem State.serveLoad_kept {o : State} {s_0 : State} {r_1 : Req} (h0 : Kept o s_0) :
    Kept o (@State.serveLoad s_0 r_1) := by
  unfold State.serveLoad
  repeat' (first
    | with_reducible first | assumption | refine State.homeCount_kept ?_ | refine State.touch_kept ?_ | refine State.hold_kept ?_ | refine State.pump_kept ?_ | refine State.readJob_kept ?_ | refine State.loadNow_kept ?_
    | (extract_lets +onlyGivenNames x; first
      | (refine cutS (o := o) (x := x) ?_ (fun _ => ?_) <;> [subst x; clear_value x])
      | (refine cutP (o := o) (x := x) ?_ (fun _ => ?_) <;> [subst x; clear_value x])
      | (refine cutF (o := o) (x := x) ?_ (fun _ => ?_) <;> [subst x; clear_value x])
      | skip)
    | with_reducible refine ite_kept ?_ ?_
    | dsimp only)

theorem State.bufferBlock_kept {o : State} {s_0 : State} {e_1 : ℕ} {b_2 : ℕ} (h0 : Kept o s_0) :
    Kept o (@State.bufferBlock s_0 e_1 b_2) := by
  unfold State.bufferBlock
  repeat' (first
    | with_reducible assumption
    | (extract_lets +onlyGivenNames x; first
      | (refine cutS (o := o) (x := x) ?_ (fun _ => ?_) <;> [subst x; clear_value x])
      | (refine cutP (o := o) (x := x) ?_ (fun _ => ?_) <;> [subst x; clear_value x])
      | (refine cutF (o := o) (x := x) ?_ (fun _ => ?_) <;> [subst x; clear_value x])
      | skip)
    | with_reducible refine Kept.same ?_ rfl
    | dsimp only)

theorem State.serveBlock_kept {o : State} {s_0 : State} {r_1 : Req} (h0 : Kept o s_0) :
    Kept o (@State.serveBlock s_0 r_1) := by
  unfold State.serveBlock
  repeat' (first
    | with_reducible first | assumption | refine State.complete_kept ?_
    | (extract_lets +onlyGivenNames x; first
      | (refine cutS (o := o) (x := x) ?_ (fun _ => ?_) <;> [subst x; clear_value x])
      | (refine cutP (o := o) (x := x) ?_ (fun _ => ?_) <;> [subst x; clear_value x])
      | (refine cutF (o := o) (x := x) ?_ (fun _ => ?_) <;> [subst x; clear_value x])
      | skip)
    | split
    | with_reducible refine Kept.same ?_ rfl
    | dsimp only)

theorem State.serveExpanded_kept {o : State} {s_0 : State} {r_1 : Req} (h0 : Kept o s_0) :
    Kept o (@State.serveExpanded s_0 r_1) := by
  unfold State.serveExpanded
  repeat' (first
    | with_reducible first | assumption | refine State.complete_kept ?_ | refine State.serveBlock_kept ?_ | refine State.tally_kept ?_ | refine State.hold_kept ?_
    | (extract_lets +onlyGivenNames x; first
      | (refine cutS (o := o) (x := x) ?_ (fun _ => ?_) <;> [subst x; clear_value x])
      | (refine cutP (o := o) (x := x) ?_ (fun _ => ?_) <;> [subst x; clear_value x])
      | (refine cutF (o := o) (x := x) ?_ (fun _ => ?_) <;> [subst x; clear_value x])
      | skip)
    | with_reducible refine ite_kept ?_ ?_
    | dsimp only)

end Sys2Proof.Machine
end

