-- ==== Sys2Proof/Laws/KeptHomes.lean ====
section
/-! SUPPORT. What every command keeps, through the homes, the links, collectives and degraded operation. -/

namespace Sys2Proof.Machine

set_option linter.all false
set_option maxRecDepth 4000

theorem foldState_kept {o : State} {s_0 : State} {l_1 : List ℕ} {f_2 : State → ℕ → State} (h0 : Kept o s_0) (h2 : ∀ x0 x1, Kept o x0 → Kept o (f_2 x0 x1)) :
    Kept o (@foldState s_0 l_1 f_2) := by
  unfold foldState
  repeat' (first
    | with_reducible first | assumption | refine h2 _ _ ?_ | refine foldl_kept ?_ (fun _ _ _ => ?_)
    | dsimp only
    | (intro _))

theorem State.dropReader_kept {o : State} {s_0 : State} {e_1 : ℕ} {r_2 : ℕ} (h0 : Kept o s_0) :
    Kept o (@State.dropReader s_0 e_1 r_2) := by
  unfold State.dropReader
  repeat' (first
    | with_reducible first | assumption | refine State.emit_kept ?_ | refine State.wr_kept ?_
    | dsimp only)

theorem State.sendInvalidate_kept {o : State} {s_0 : State} {e_1 : ℕ} {r_2 : ℕ} {val_3 : ℕ} {addr_4 : ℕ} {aux_5 : ℕ} {cls_6 : ℕ} (h0 : Kept o s_0) :
    KeptVal o (@State.sendInvalidate s_0 e_1 r_2 val_3 addr_4 aux_5 cls_6) (fun v => v.2) := by
  unfold State.sendInvalidate
  repeat' (first
    | with_reducible first | assumption | refine State.takePsn_kept ?_ | refine State.takePsn_eq (by assumption) ?_ | refine State.homeCount_kept ?_ | refine State.enqueue_kept ?_ | exact KeptVal.none | refine KeptVal.some ?_
    | (extract_lets +onlyGivenNames x; first
      | (refine cutS (o := o) (x := x) ?_ (fun _ => ?_) <;> [subst x; clear_value x])
      | (refine cutP (o := o) (x := x) ?_ (fun _ => ?_) <;> [subst x; clear_value x])
      | (refine cutF (o := o) (x := x) ?_ (fun _ => ?_) <;> [subst x; clear_value x])
      | skip)
    | with_reducible refine ite_kept ?_ ?_
    | split
    | with_reducible refine Kept.same ?_ rfl
    | dsimp only)
theorem State.sendInvalidate_some {o : State} {s_0 : State} {e_1 : ℕ} {r_2 : ℕ} {val_3 : ℕ} {addr_4 : ℕ} {aux_5 : ℕ} {cls_6 : ℕ} {v0 : ℕ} {t : State} (e : @State.sendInvalidate s_0 e_1 r_2 val_3 addr_4 aux_5 cls_6 = some (v0, t)) (h0 : Kept o s_0) : Kept o t :=
  State.sendInvalidate_kept (o := o) h0 _ e

theorem State.invalidateAll_kept {o : State} {s_0 : State} {e_1 : ℕ} {val_2 : ℕ} {addr_3 : ℕ} {aux_4 : ℕ} {cls_5 : ℕ} {a__internal_hyg0_6 : List ℕ} (h0 : Kept o s_0) :
    Kept o (@State.invalidateAll s_0 e_1 val_2 addr_3 aux_4 cls_5 a__internal_hyg0_6).1 := by
  induction a__internal_hyg0_6 generalizing s_0 e_1 val_2 addr_3 aux_4 cls_5 with
  | nil =>
    unfold State.invalidateAll
    repeat' (first
      | with_reducible first | assumption | refine State.sendInvalidate_some (by assumption) ?_ | refine State.sendInvalidate_kept ?_ | refine State.dropReader_kept ?_ | refine ih ?_
      | split
      | dsimp only
      | (intro _))
  | cons x l ih =>
    unfold State.invalidateAll
    repeat' (first
      | with_reducible first | assumption | refine State.sendInvalidate_some (by assumption) ?_ | refine State.sendInvalidate_kept ?_ | refine State.dropReader_kept ?_ | refine ih ?_
      | split
      | dsimp only
      | (intro _))
theorem State.invalidateAll_eq {o : State} {s_0 : State} {e_1 : ℕ} {val_2 : ℕ} {addr_3 : ℕ} {aux_4 : ℕ} {cls_5 : ℕ} {a__internal_hyg0_6 : List ℕ} {t : State} {v1 : List (ℕ × ℕ)} (e : @State.invalidateAll s_0 e_1 val_2 addr_3 aux_4 cls_5 a__internal_hyg0_6 = (t, v1)) (h0 : Kept o s_0) : Kept o t := by
  have h : Kept o (@State.invalidateAll s_0 e_1 val_2 addr_3 aux_4 cls_5 a__internal_hyg0_6).1 := State.invalidateAll_kept h0
  rw [e] at h; exact h

theorem State.startRound_kept {o : State} {s_0 : State} {r_1 : Req} (h0 : Kept o s_0) :
    Kept o (@State.startRound s_0 r_1) := by
  unfold State.startRound
  repeat' (first
    | with_reducible first | assumption | refine State.invalidateAll_kept ?_ | refine State.invalidateAll_eq (by assumption) ?_ | refine State.homeCount_kept ?_ | refine State.complete_kept ?_
    | (extract_lets +onlyGivenNames x; first
      | (refine cutS (o := o) (x := x) ?_ (fun _ => ?_) <;> [subst x; clear_value x])
      | (refine cutP (o := o) (x := x) ?_ (fun _ => ?_) <;> [subst x; clear_value x])
      | (refine cutF (o := o) (x := x) ?_ (fun _ => ?_) <;> [subst x; clear_value x])
      | skip)
    | with_reducible first | refine ite_kept ?_ ?_ | refine Kept.same ?_ rfl
    | dsimp only)

theorem State.servePublish_kept {o : State} {s_0 : State} {r_1 : Req} (h0 : Kept o s_0) :
    Kept o (@State.servePublish s_0 r_1) := by
  unfold State.servePublish
  repeat' (first
    | with_reducible first | assumption | refine State.complete_kept ?_ | refine State.startRound_kept ?_ | refine State.wr_kept ?_ | refine State.emit_kept ?_ | refine State.homeCount_kept ?_
    | (extract_lets +onlyGivenNames x; first
      | (refine cutS (o := o) (x := x) ?_ (fun _ => ?_) <;> [subst x; clear_value x])
      | (refine cutP (o := o) (x := x) ?_ (fun _ => ?_) <;> [subst x; clear_value x])
      | (refine cutF (o := o) (x := x) ?_ (fun _ => ?_) <;> [subst x; clear_value x])
      | skip)
    | with_reducible refine ite_kept ?_ ?_
    | dsimp only)

theorem State.startPublish_kept {o : State} {s_0 : State} {r_1 : Req} (h0 : Kept o s_0) :
    Kept o (@State.startPublish s_0 r_1) := by
  unfold State.startPublish
  repeat' (first
    | with_reducible first | assumption | refine State.hold_kept ?_ | refine State.complete_kept ?_ | refine ite_kept ?_ ?_
    | dsimp only)

theorem State.nextPublish_kept {o : State} {s_0 : State} {e_1 : ℕ} {a__internal_hyg0_2 : ℕ} (h0 : Kept o s_0) :
    Kept o (@State.nextPublish s_0 e_1 a__internal_hyg0_2) := by
  induction a__internal_hyg0_2 generalizing s_0 e_1 with
  | zero =>
    unfold State.nextPublish
    repeat' (first
      | with_reducible first | assumption | refine State.servePublish_kept ?_ | refine ih ?_
      | split
      | with_reducible refine Kept.same ?_ rfl
      | dsimp only
      | (intro _))
  | succ n ih =>
    unfold State.nextPublish
    repeat' (first
      | with_reducible first | assumption | refine State.servePublish_kept ?_ | refine ih ?_
      | split
      | with_reducible refine Kept.same ?_ rfl
      | dsimp only
      | (intro _))

theorem State.readerDone_kept {o : State} {s_0 : State} {e_1 : ℕ} {r_2 : ℕ} (h0 : Kept o s_0) :
    Kept o (@State.readerDone s_0 e_1 r_2) := by
  unfold State.readerDone
  repeat' (first
    | with_reducible first | assumption | refine State.nextPublish_kept ?_ | refine State.complete_kept ?_
    | (extract_lets +onlyGivenNames x; first
      | (refine cutS (o := o) (x := x) ?_ (fun _ => ?_) <;> [subst x; clear_value x])
      | (refine cutP (o := o) (x := x) ?_ (fun _ => ?_) <;> [subst x; clear_value x])
      | (refine cutF (o := o) (x := x) ?_ (fun _ => ?_) <;> [subst x; clear_value x])
      | skip)
    | with_reducible refine ite_kept ?_ ?_
    | split
    | with_reducible refine Kept.same ?_ rfl
    | dsimp only
    | (intro _))

theorem State.serveFlush_kept {o : State} {s_0 : State} {r_1 : Req} (h0 : Kept o s_0) :
    Kept o (@State.serveFlush s_0 r_1) := by
  unfold State.serveFlush
  repeat' (first
    | with_reducible first | assumption | refine State.complete_kept ?_ | refine State.hold_kept ?_
    | (extract_lets +onlyGivenNames x; first
      | (refine cutS (o := o) (x := x) ?_ (fun _ => ?_) <;> [subst x; clear_value x])
      | (refine cutP (o := o) (x := x) ?_ (fun _ => ?_) <;> [subst x; clear_value x])
      | (refine cutF (o := o) (x := x) ?_ (fun _ => ?_) <;> [subst x; clear_value x])
      | skip)
    | with_reducible refine ite_kept ?_ ?_
    | dsimp only)

theorem State.execMem_kept {o : State} {s_0 : State} {r_1 : Req} (h0 : Kept o s_0) :
    Kept o (@State.execMem s_0 r_1) := by
  unfold State.execMem
  repeat' (first
    | with_reducible first | assumption | refine State.serveExpanded_kept ?_ | refine State.serveLoad_kept ?_ | refine State.complete_kept ?_ | refine State.serveWrite_kept ?_ | refine State.serveFlush_kept ?_ | refine State.startPublish_kept ?_ | refine ite_kept ?_ ?_
    | split
    | with_reducible refine Kept.same ?_ rfl
    | dsimp only)

theorem State.setDir_kept {o : State} {s_0 : State} {l_1 : ℕ} {d_2 : DirEntry} (h0 : Kept o s_0) :
    Kept o (@State.setDir s_0 l_1 d_2) := by
  unfold State.setDir
  repeat' (first
    | with_reducible first | assumption | refine Kept.same ?_ rfl
    | dsimp only)

theorem State.dirTouch_kept {o s : State} {l : ℕ} (h : Kept o s) : Kept o (s.dirTouch l) := by
  unfold State.dirTouch
  extract_lets k here ws way
  clear_value way
  split
  · exact Kept.same h rfl
  · exact h

theorem State.dropDirStrangers_kept {o : State} {s_0 : State} (h0 : Kept o s_0) :
    Kept o (@State.dropDirStrangers s_0) := by
  unfold State.dropDirStrangers
  repeat' (first
    | with_reducible first | assumption | refine Kept.same ?_ rfl
    | dsimp only
    | (intro _))

theorem State.setHeld_kept {o : State} {s_0 : State} {a_1 : ℕ} {l_2 : ℕ} {x_3 : Option AgentLine} (h0 : Kept o s_0) :
    Kept o (@State.setHeld s_0 a_1 l_2 x_3) := by
  unfold State.setHeld
  repeat' (first
    | with_reducible first | assumption | refine Kept.same ?_ rfl
    | dsimp only)

theorem State.writeBack_kept {o : State} {s_0 : State} {l_1 : ℕ} {bs_2 : List Byte} (h0 : Kept o s_0) :
    Kept o (@State.writeBack s_0 l_1 bs_2) := by
  unfold State.writeBack
  repeat' (first
    | with_reducible first | assumption | refine State.writePool_kept ?_ | refine State.giveGranule_kept ?_
    | (extract_lets +onlyGivenNames x; first
      | (refine cutS (o := o) (x := x) ?_ (fun _ => ?_) <;> [subst x; clear_value x])
      | (refine cutP (o := o) (x := x) ?_ (fun _ => ?_) <;> [subst x; clear_value x])
      | (refine cutF (o := o) (x := x) ?_ (fun _ => ?_) <;> [subst x; clear_value x])
      | skip)
    | with_reducible refine ite_kept ?_ ?_
    | dsimp only)

theorem State.traceCoh_kept {o : State} {s_0 : State} {row_1 : ℕ} {sender_2 : ℕ} {receiver_3 : ℕ} {l_4 : ℕ} (h0 : Kept o s_0) :
    Kept o (@State.traceCoh s_0 row_1 sender_2 receiver_3 l_4) := by
  unfold State.traceCoh
  repeat' (first
    | with_reducible first | assumption | refine State.trace_kept ?_ | refine Kept.same ?_ rfl
    | dsimp only)

theorem State.post'_kept {o : State} {s_0 : State} {m_1 : CohMsg} (h0 : Kept o s_0) :
    Kept o (@State.post' s_0 m_1) := by
  unfold State.post'
  repeat' (first
    | with_reducible first | assumption | refine State.traceCoh_kept ?_
    | (extract_lets +onlyGivenNames x; first
      | (refine cutS (o := o) (x := x) ?_ (fun _ => ?_) <;> [subst x; clear_value x])
      | (refine cutP (o := o) (x := x) ?_ (fun _ => ?_) <;> [subst x; clear_value x])
      | (refine cutF (o := o) (x := x) ?_ (fun _ => ?_) <;> [subst x; clear_value x])
      | skip)
    | split
    | with_reducible refine Kept.same ?_ rfl
    | dsimp only)

theorem State.setTxn_kept {o : State} {s_0 : State} {t_1 : LineTxn} (h0 : Kept o s_0) :
    Kept o (@State.setTxn s_0 t_1) := by
  unfold State.setTxn
  repeat' (first
    | with_reducible first | assumption | refine ite_kept ?_ ?_ | refine Kept.same ?_ rfl
    | dsimp only
    | (intro _))

theorem State.dropTxn_kept {o : State} {s_0 : State} {l_1 : ℕ} (h0 : Kept o s_0) :
    Kept o (@State.dropTxn s_0 l_1) := by
  unfold State.dropTxn
  repeat' (first
    | with_reducible first | assumption | refine Kept.same ?_ rfl
    | dsimp only
    | (intro _))

theorem State.addTxn_kept {o : State} {s_0 : State} {t_1 : LineTxn} (h0 : Kept o s_0) :
    Kept o (@State.addTxn s_0 t_1) := by
  unfold State.addTxn
  repeat' (first
    | with_reducible first | assumption | refine Kept.same ?_ rfl
    | dsimp only)

theorem State.probe_kept {o : State} {s_0 : State} {k_1 : CohKind} {a_2 : ℕ} {other_3 : ℕ} {l_4 : ℕ} (h0 : Kept o s_0) :
    Kept o (@State.probe s_0 k_1 a_2 other_3 l_4) := by
  unfold State.probe
  repeat' (first
    | with_reducible first | assumption | refine State.homeCount_kept ?_ | refine State.post'_kept ?_ | refine Kept.same ?_ rfl
    | dsimp only)

theorem State.probeAll_kept {o : State} {s_0 : State} {k_1 : CohKind} {as_2 : List ℕ} {other_3 : ℕ} {l_4 : ℕ} (h0 : Kept o s_0) :
    Kept o (@State.probeAll s_0 k_1 as_2 other_3 l_4) := by
  unfold State.probeAll
  repeat' (first
    | with_reducible first | assumption | refine foldl_kept ?_ (fun _ _ _ => ?_) | refine State.probe_kept ?_
    | dsimp only
    | (intro _))

theorem State.startGet_kept {o : State} {s_0 : State} {a_1 : ℕ} {l_2 : ℕ} {excl_3 : Bool} (h0 : Kept o s_0) :
    Kept o (@State.startGet s_0 a_1 l_2 excl_3) := by
  unfold State.startGet
  repeat' (first
    | with_reducible first | assumption | refine State.dirTouch_kept ?_ | refine State.post'_kept ?_ | refine State.addTxn_kept ?_ | refine State.probeAll_kept ?_ | refine State.probe_kept ?_
    | (extract_lets +onlyGivenNames x; first
      | (refine cutS (o := o) (x := x) ?_ (fun _ => ?_) <;> [subst x; clear_value x])
      | (refine cutP (o := o) (x := x) ?_ (fun _ => ?_) <;> [subst x; clear_value x])
      | (refine cutF (o := o) (x := x) ?_ (fun _ => ?_) <;> [subst x; clear_value x])
      | skip)
    | with_reducible refine ite_kept ?_ ?_
    | split
    | with_reducible refine Kept.same ?_ rfl
    | dsimp only
    | (intro _))

theorem State.startUncached_kept {o : State} {s_0 : State} {l_1 : ℕ} {store_2 : Bool} {req_3 : Option Req} (h0 : Kept o s_0) :
    Kept o (@State.startUncached s_0 l_1 store_2 req_3) := by
  unfold State.startUncached
  repeat' (first
    | with_reducible first | assumption | refine State.dirTouch_kept ?_ | refine State.probe_kept ?_ | refine State.addTxn_kept ?_ | refine State.probeAll_kept ?_
    | (extract_lets +onlyGivenNames x; first
      | (refine cutS (o := o) (x := x) ?_ (fun _ => ?_) <;> [subst x; clear_value x])
      | (refine cutP (o := o) (x := x) ?_ (fun _ => ?_) <;> [subst x; clear_value x])
      | (refine cutF (o := o) (x := x) ?_ (fun _ => ?_) <;> [subst x; clear_value x])
      | skip)
    | with_reducible refine ite_kept ?_ ?_
    | split
    | with_reducible refine Kept.same ?_ rfl
    | dsimp only)

theorem State.rutLines_kept {o : State} {s_0 : State} (h0 : Kept o s_0) :
    Kept o (@State.rutLines s_0) := by
  unfold State.rutLines
  repeat' (first
    | with_reducible first | assumption | refine State.wr_kept ?_
    | dsimp only)

theorem State.setRut_kept {o : State} {s_0 : State} {x_1 : RutLine} (h0 : Kept o s_0) :
    Kept o (@State.setRut s_0 x_1) := by
  unfold State.setRut
  repeat' (first
    | with_reducible first | assumption | refine ite_kept ?_ ?_ | refine Kept.same ?_ rfl
    | dsimp only
    | (intro _))

theorem State.rutAdmit_kept {o : State} {s_0 : State} {l_1 : ℕ} {a__internal_hyg0_2 : ℕ} (h0 : Kept o s_0) :
    Kept o (@State.rutAdmit s_0 l_1 a__internal_hyg0_2) := by
  induction a__internal_hyg0_2 generalizing s_0 l_1 with
  | zero =>
    unfold State.rutAdmit
    repeat' (first
      | with_reducible first | assumption | refine State.complete_kept ?_ | refine State.setRut_kept ?_ | refine ih ?_ | refine ite_kept ?_ ?_
      | split
      | with_reducible refine Kept.same ?_ rfl
      | dsimp only
      | (intro _))
  | succ n ih =>
    unfold State.rutAdmit
    repeat' (first
      | with_reducible first | assumption | refine State.complete_kept ?_ | refine State.setRut_kept ?_ | refine ih ?_ | refine ite_kept ?_ ?_
      | split
      | with_reducible refine Kept.same ?_ rfl
      | dsimp only
      | (intro _))

theorem State.rutArrive_kept {o : State} {s_0 : State} {l_1 : ℕ} {a_2 : RutReq} (h0 : Kept o s_0) :
    Kept o (@State.rutArrive s_0 l_1 a_2) := by
  unfold State.rutArrive
  repeat' (first
    | with_reducible first | assumption | refine State.rutAdmit_kept ?_ | refine State.setRut_kept ?_
    | (extract_lets +onlyGivenNames x; first
      | (refine cutS (o := o) (x := x) ?_ (fun _ => ?_) <;> [subst x; clear_value x])
      | (refine cutP (o := o) (x := x) ?_ (fun _ => ?_) <;> [subst x; clear_value x])
      | (refine cutF (o := o) (x := x) ?_ (fun _ => ?_) <;> [subst x; clear_value x])
      | skip)
    | with_reducible refine ite_kept ?_ ?_
    | split
    | with_reducible refine Kept.same ?_ rfl
    | dsimp only
    | (intro _))

theorem State.predAdd_kept {o : State} {s_0 : State} {r_1 : Req} {up_2 : Bool} (h0 : Kept o s_0) :
    Kept o (@State.predAdd s_0 r_1 up_2) := by
  unfold State.predAdd
  repeat' (first
    | with_reducible assumption
    | (extract_lets +onlyGivenNames x; first
      | (refine cutS (o := o) (x := x) ?_ (fun _ => ?_) <;> [subst x; clear_value x])
      | (refine cutP (o := o) (x := x) ?_ (fun _ => ?_) <;> [subst x; clear_value x])
      | (refine cutF (o := o) (x := x) ?_ (fun _ => ?_) <;> [subst x; clear_value x])
      | skip)
    | with_reducible first | refine ite_kept ?_ ?_ | refine Kept.same ?_ rfl
    | dsimp only)

theorem State.endUncached_kept {o : State} {s_0 : State} {r_1 : Req} (h0 : Kept o s_0) :
    Kept o (@State.endUncached s_0 r_1) := by
  unfold State.endUncached
  repeat' (first
    | with_reducible first | assumption | refine foldl_kept ?_ (fun _ _ _ => ?_) | refine State.writeBack_kept ?_ | refine State.setDir_kept ?_ | refine State.dropTxn_kept ?_ | refine State.execMem_kept ?_
    | (extract_lets +onlyGivenNames x; first
      | (refine cutS (o := o) (x := x) ?_ (fun _ => ?_) <;> [subst x; clear_value x])
      | (refine cutP (o := o) (x := x) ?_ (fun _ => ?_) <;> [subst x; clear_value x])
      | (refine cutF (o := o) (x := x) ?_ (fun _ => ?_) <;> [subst x; clear_value x])
      | skip)
    | with_reducible refine ite_kept ?_ ?_
    | split
    | with_reducible refine Kept.same ?_ rfl
    | dsimp only
    | (intro _))

theorem State.uncached_kept {o : State} {s_0 : State} {r_1 : Req} (h0 : Kept o s_0) :
    Kept o (@State.uncached s_0 r_1) := by
  unfold State.uncached
  repeat' (first
    | with_reducible first | assumption | refine foldl_kept ?_ (fun _ _ _ => ?_) | refine State.complete_kept ?_ | refine State.startUncached_kept ?_ | refine State.endUncached_kept ?_
    | (extract_lets +onlyGivenNames x; first
      | (refine cutS (o := o) (x := x) ?_ (fun _ => ?_) <;> [subst x; clear_value x])
      | (refine cutP (o := o) (x := x) ?_ (fun _ => ?_) <;> [subst x; clear_value x])
      | (refine cutF (o := o) (x := x) ?_ (fun _ => ?_) <;> [subst x; clear_value x])
      | skip)
    | with_reducible refine ite_kept ?_ ?_
    | split
    | with_reducible refine Kept.same ?_ rfl
    | dsimp only
    | (intro _))

theorem State.agentPut_kept {o : State} {s_0 : State} {a_1 : ℕ} {e_2 : ℕ} {off_3 : ℕ} {a__internal_hyg0_4 : List Byte} (h0 : Kept o s_0) :
    Kept o (@State.agentPut s_0 a_1 e_2 off_3 a__internal_hyg0_4) := by
  induction a__internal_hyg0_4 generalizing s_0 a_1 e_2 off_3 with
  | nil =>
    unfold State.agentPut
    repeat' (first
      | with_reducible first | assumption | refine State.setHeld_kept ?_ | refine ih ?_
      | (extract_lets +onlyGivenNames x; first
        | (refine cutS (o := o) (x := x) ?_ (fun _ => ?_) <;> [subst x; clear_value x])
        | (refine cutP (o := o) (x := x) ?_ (fun _ => ?_) <;> [subst x; clear_value x])
        | (refine cutF (o := o) (x := x) ?_ (fun _ => ?_) <;> [subst x; clear_value x])
        | skip)
      | split
      | with_reducible refine Kept.same ?_ rfl
      | dsimp only
      | (intro _))
  | cons x l ih =>
    unfold State.agentPut
    repeat' (first
      | with_reducible first | assumption | refine State.setHeld_kept ?_ | refine ih ?_
      | (extract_lets +onlyGivenNames x; first
        | (refine cutS (o := o) (x := x) ?_ (fun _ => ?_) <;> [subst x; clear_value x])
        | (refine cutP (o := o) (x := x) ?_ (fun _ => ?_) <;> [subst x; clear_value x])
        | (refine cutF (o := o) (x := x) ?_ (fun _ => ?_) <;> [subst x; clear_value x])
        | skip)
      | split
      | with_reducible refine Kept.same ?_ rfl
      | dsimp only
      | (intro _))

theorem State.agentMasked_kept {o : State} {s_0 : State} {a_1 : ℕ} {e_2 : ℕ} {off_3 : ℕ} {mask_4 : ℕ} {a__internal_hyg0_5 : List Byte} (h0 : Kept o s_0) :
    Kept o (@State.agentMasked s_0 a_1 e_2 off_3 mask_4 a__internal_hyg0_5) := by
  induction a__internal_hyg0_5 generalizing s_0 a_1 e_2 off_3 mask_4 with
  | nil =>
    unfold State.agentMasked
    repeat' (first
      | with_reducible first | assumption | refine State.agentPut_kept ?_ | refine ih ?_ | refine ite_kept ?_ ?_
      | split
      | dsimp only
      | (intro _))
  | cons x l ih =>
    unfold State.agentMasked
    repeat' (first
      | with_reducible first | assumption | refine State.agentPut_kept ?_ | refine ih ?_ | refine ite_kept ?_ ?_
      | split
      | dsimp only
      | (intro _))

theorem State.agentExec_kept {o : State} {s_0 : State} {o_1 : AgentOp} (h0 : Kept o s_0) :
    Kept o (@State.agentExec s_0 o_1) := by
  unfold State.agentExec
  repeat' (first
    | with_reducible first | assumption | refine State.answer_kept ?_ | refine State.allocate_some (by assumption) ?_ | refine State.allocate_kept ?_ | refine State.agentMasked_kept ?_ | refine State.agentPut_kept ?_
    | (extract_lets +onlyGivenNames x; first
      | (refine cutS (o := o) (x := x) ?_ (fun _ => ?_) <;> [subst x; clear_value x])
      | (refine cutP (o := o) (x := x) ?_ (fun _ => ?_) <;> [subst x; clear_value x])
      | (refine cutF (o := o) (x := x) ?_ (fun _ => ?_) <;> [subst x; clear_value x])
      | skip)
    | split
    | with_reducible refine Kept.same ?_ rfl
    | dsimp only)

theorem State.askLine_kept {o : State} {s_0 : State} {a_1 : ℕ} {l_2 : ℕ} {excl_3 : Bool} (h0 : Kept o s_0) :
    Kept o (@State.askLine s_0 a_1 l_2 excl_3) := by
  unfold State.askLine
  repeat' (first
    | with_reducible first | assumption | refine State.traceCoh_kept ?_ | refine State.startGet_kept ?_
    | (extract_lets +onlyGivenNames x; first
      | (refine cutS (o := o) (x := x) ?_ (fun _ => ?_) <;> [subst x; clear_value x])
      | (refine cutP (o := o) (x := x) ?_ (fun _ => ?_) <;> [subst x; clear_value x])
      | (refine cutF (o := o) (x := x) ?_ (fun _ => ?_) <;> [subst x; clear_value x])
      | skip)
    | with_reducible first | refine ite_kept ?_ ?_ | refine Kept.same ?_ rfl
    | dsimp only)

theorem State.agentTry_kept {o : State} {s_0 : State} {a_1 : ℕ} (h0 : Kept o s_0) :
    Kept o (@State.agentTry s_0 a_1) := by
  unfold State.agentTry
  repeat' (first
    | with_reducible first | assumption | refine foldl_kept ?_ (fun _ _ _ => ?_) | refine State.rutArrive_kept ?_ | refine State.uncached_kept ?_ | refine State.answer_kept ?_ | refine State.agentExec_kept ?_ | refine State.askLine_kept ?_
    | (extract_lets +onlyGivenNames x; first
      | (refine cutS (o := o) (x := x) ?_ (fun _ => ?_) <;> [subst x; clear_value x])
      | (refine cutP (o := o) (x := x) ?_ (fun _ => ?_) <;> [subst x; clear_value x])
      | (refine cutF (o := o) (x := x) ?_ (fun _ => ?_) <;> [subst x; clear_value x])
      | skip)
    | with_reducible refine ite_kept ?_ ?_
    | split
    | with_reducible refine Kept.same ?_ rfl
    | dsimp only
    | (intro _))

theorem State.rutRecall_kept {o : State} {s_0 : State} {l_1 : ℕ} (h0 : Kept o s_0) :
    Kept o (@State.rutRecall s_0 l_1) := by
  unfold State.rutRecall
  repeat' (first
    | with_reducible first | assumption | refine State.startUncached_kept ?_
    | (extract_lets +onlyGivenNames x; first
      | (refine cutS (o := o) (x := x) ?_ (fun _ => ?_) <;> [subst x; clear_value x])
      | (refine cutP (o := o) (x := x) ?_ (fun _ => ?_) <;> [subst x; clear_value x])
      | (refine cutF (o := o) (x := x) ?_ (fun _ => ?_) <;> [subst x; clear_value x])
      | skip)
    | with_reducible refine ite_kept ?_ ?_
    | dsimp only
    | (intro _))

theorem State.rutCount_kept {o : State} {s_0 : State} {l_1 : ℕ} (h0 : Kept o s_0) :
    Kept o (@State.rutCount s_0 l_1) := by
  unfold State.rutCount
  repeat' (first
    | with_reducible first | assumption | refine State.homeCount_kept ?_ | refine State.rutLines_kept ?_ | refine State.rutRecall_kept ?_ | refine State.touch_kept ?_ | refine State.bump_kept ?_
    | (extract_lets +onlyGivenNames x; first
      | (refine cutS (o := o) (x := x) ?_ (fun _ => ?_) <;> [subst x; clear_value x])
      | (refine cutP (o := o) (x := x) ?_ (fun _ => ?_) <;> [subst x; clear_value x])
      | (refine cutF (o := o) (x := x) ?_ (fun _ => ?_) <;> [subst x; clear_value x])
      | skip)
    | with_reducible first | refine ite_kept ?_ ?_ | refine Kept.same ?_ rfl
    | dsimp only
    | (intro _))

theorem State.homeStart_kept {o : State} {s_0 : State} {r_1 : Req} (h0 : Kept o s_0) :
    Kept o (@State.homeStart s_0 r_1) := by
  unfold State.homeStart
  extract_lets agent
  clear_value agent
  repeat' (first
    | with_reducible first | assumption | refine State.execMem_kept ?_ | refine State.rutArrive_kept ?_ | refine State.predAdd_kept ?_ | refine State.uncached_kept ?_ | refine State.agentTry_kept ?_
    | (extract_lets +onlyGivenNames x; first
      | (refine cutS (o := o) (x := x) ?_ (fun _ => ?_) <;> [subst x; clear_value x])
      | (refine cutP (o := o) (x := x) ?_ (fun _ => ?_) <;> [subst x; clear_value x])
      | (refine cutF (o := o) (x := x) ?_ (fun _ => ?_) <;> [subst x; clear_value x])
      | skip)
    | with_reducible refine ite_kept ?_ ?_
    | split
    | with_reducible refine Kept.same ?_ rfl
    | dsimp only
    | (intro _))

theorem State.lineFree_kept {o : State} {s_0 : State} {l_1 : ℕ} {a__internal_hyg0_2 : ℕ} (h0 : Kept o s_0) :
    Kept o (@State.lineFree s_0 l_1 a__internal_hyg0_2) := by
  induction a__internal_hyg0_2 generalizing s_0 l_1 with
  | zero =>
    unfold State.lineFree
    repeat' (first
      | with_reducible first | assumption | refine State.rutArrive_kept ?_ | refine State.startGet_kept ?_ | refine State.homeStart_kept ?_ | refine State.uncached_kept ?_ | refine State.execMem_kept ?_ | refine State.agentTry_kept ?_ | refine ih ?_
      | (extract_lets +onlyGivenNames x; first
        | (refine cutS (o := o) (x := x) ?_ (fun _ => ?_) <;> [subst x; clear_value x])
        | (refine cutP (o := o) (x := x) ?_ (fun _ => ?_) <;> [subst x; clear_value x])
        | (refine cutF (o := o) (x := x) ?_ (fun _ => ?_) <;> [subst x; clear_value x])
        | skip)
      | with_reducible refine ite_kept ?_ ?_
      | split
      | with_reducible refine Kept.same ?_ rfl
      | dsimp only
      | (intro _))
  | succ n ih =>
    unfold State.lineFree
    repeat' (first
      | with_reducible first | assumption | refine State.rutArrive_kept ?_ | refine State.startGet_kept ?_ | refine State.homeStart_kept ?_ | refine State.uncached_kept ?_ | refine State.execMem_kept ?_ | refine State.agentTry_kept ?_ | refine ih ?_
      | (extract_lets +onlyGivenNames x; first
        | (refine cutS (o := o) (x := x) ?_ (fun _ => ?_) <;> [subst x; clear_value x])
        | (refine cutP (o := o) (x := x) ?_ (fun _ => ?_) <;> [subst x; clear_value x])
        | (refine cutF (o := o) (x := x) ?_ (fun _ => ?_) <;> [subst x; clear_value x])
        | skip)
      | with_reducible refine ite_kept ?_ ?_
      | split
      | with_reducible refine Kept.same ?_ rfl
      | dsimp only
      | (intro _))

theorem State.freeLine_kept {o : State} {s_0 : State} {l_1 : ℕ} (h0 : Kept o s_0) :
    Kept o (@State.freeLine s_0 l_1) := by
  unfold State.freeLine
  repeat' (first
    | with_reducible first | assumption | refine State.rutRecall_kept ?_ | refine State.lineFree_kept ?_
    | dsimp only)

theorem State.txnStep_kept {o : State} {s_0 : State} {l_1 : ℕ} (h0 : Kept o s_0) :
    Kept o (@State.txnStep s_0 l_1) := by
  unfold State.txnStep
  repeat' (first
    | with_reducible first | assumption | refine foldl_kept ?_ (fun _ _ _ => ?_) | refine State.post'_kept ?_ | refine State.setHeld_kept ?_ | refine State.agentTry_kept ?_ | refine State.freeLine_kept ?_ | refine State.endUncached_kept ?_ | refine State.writeBack_kept ?_ | refine State.dropTxn_kept ?_ | refine State.setDir_kept ?_
    | (extract_lets +onlyGivenNames x; first
      | (refine cutS (o := o) (x := x) ?_ (fun _ => ?_) <;> [subst x; clear_value x])
      | (refine cutP (o := o) (x := x) ?_ (fun _ => ?_) <;> [subst x; clear_value x])
      | (refine cutF (o := o) (x := x) ?_ (fun _ => ?_) <;> [subst x; clear_value x])
      | skip)
    | with_reducible refine ite_kept ?_ ?_
    | split
    | with_reducible refine Kept.same ?_ rfl
    | dsimp only
    | (intro _))

theorem State.homeGo_kept {o : State} {s_0 : State} {r_1 : Req} (h0 : Kept o s_0) :
    Kept o (@State.homeGo s_0 r_1) := by
  unfold State.homeGo
  repeat' (first
    | with_reducible first | assumption | refine State.homeStart_kept ?_ | refine State.hold_kept ?_ | refine ite_kept ?_ ?_
    | dsimp only)

theorem State.homeArrive_kept {o : State} {s_0 : State} {r_1 : Req} (h0 : Kept o s_0) :
    Kept o (@State.homeArrive s_0 r_1) := by
  unfold State.homeArrive
  repeat' (first
    | with_reducible first | assumption | refine foldl_kept ?_ (fun _ _ _ => ?_) | refine State.homeCount_kept ?_ | refine State.answerAgain_kept ?_ | refine State.answer_kept ?_ | refine State.complete_kept ?_ | refine State.rutCount_kept ?_ | refine State.homeGo_kept ?_ | refine State.hold_kept ?_
    | (extract_lets +onlyGivenNames x; first
      | (refine cutS (o := o) (x := x) ?_ (fun _ => ?_) <;> [subst x; clear_value x])
      | (refine cutP (o := o) (x := x) ?_ (fun _ => ?_) <;> [subst x; clear_value x])
      | (refine cutF (o := o) (x := x) ?_ (fun _ => ?_) <;> [subst x; clear_value x])
      | skip)
    | with_reducible refine ite_kept ?_ ?_
    | split
    | with_reducible refine Kept.same ?_ rfl
    | dsimp only
    | (intro _))

theorem State.tryHeld_kept {o : State} {s_0 : State} {a_1 : Held} (h0 : Kept o s_0) :
    Kept o (@State.tryHeld s_0 a_1) := by
  unfold State.tryHeld
  repeat' (first
    | with_reducible first | assumption | refine State.answerAgain_kept ?_ | refine State.homeGo_kept ?_ | refine State.serveWrite_kept ?_ | refine State.loadNow_kept ?_ | refine State.serveBlock_kept ?_ | refine State.complete_kept ?_
    | (extract_lets +onlyGivenNames x; first
      | (refine cutS (o := o) (x := x) ?_ (fun _ => ?_) <;> [subst x; clear_value x])
      | (refine cutP (o := o) (x := x) ?_ (fun _ => ?_) <;> [subst x; clear_value x])
      | (refine cutF (o := o) (x := x) ?_ (fun _ => ?_) <;> [subst x; clear_value x])
      | skip)
    | with_reducible refine ite_kept ?_ ?_
    | split
    | with_reducible refine Kept.same ?_ rfl
    | dsimp only
    | (intro _))

theorem State.heldPass_kept {o : State} {s_0 : State} (h0 : Kept o s_0) :
    Kept o (@State.heldPass s_0) := by
  unfold State.heldPass
  repeat' (first
    | with_reducible first | assumption | refine foldl_kept ?_ (fun _ _ _ => ?_) | refine State.tryHeld_kept ?_ | refine ite_kept ?_ ?_
    | dsimp only
    | (intro _))

theorem State.heldPasses_kept {o : State} {s_0 : State} {a__internal_hyg0_1 : ℕ} (h0 : Kept o s_0) :
    Kept o (@State.heldPasses s_0 a__internal_hyg0_1) := by
  induction a__internal_hyg0_1 generalizing s_0 with
  | zero =>
    unfold State.heldPasses
    repeat' (first
      | with_reducible first | assumption | refine State.heldPass_kept ?_ | refine ih ?_
      | split
      | dsimp only
      | (intro _))
  | succ n ih =>
    unfold State.heldPasses
    repeat' (first
      | with_reducible first | assumption | refine State.heldPass_kept ?_ | refine ih ?_
      | split
      | dsimp only
      | (intro _))

theorem State.release_kept {o : State} {s_0 : State} (h0 : Kept o s_0) :
    Kept o (@State.release s_0) := by
  unfold State.release
  repeat' (first
    | with_reducible first | assumption | refine State.heldPasses_kept ?_
    | dsimp only)

theorem State.setTraining_kept {o : State} {s_0 : State} {p_1 : ℕ} {t_2 : Training} (h0 : Kept o s_0) :
    Kept o (@State.setTraining s_0 p_1 t_2) := by
  unfold State.setTraining
  repeat' (first
    | with_reducible first | assumption | refine Kept.same ?_ rfl
    | dsimp only)

theorem State.startTraining_kept {o : State} {s_0 : State} {p_1 : ℕ} {width_2 : ℕ} {fast_3 : Bool} (h0 : Kept o s_0) :
    Kept o (@State.startTraining s_0 p_1 width_2 fast_3) := by
  unfold State.startTraining
  repeat' (first
    | with_reducible first | assumption | refine State.setTraining_kept ?_ | refine State.wr_kept ?_ | refine Kept.same ?_ rfl
    | dsimp only)

theorem State.freezePenalties_kept {o : State} {s_0 : State} (h0 : Kept o s_0) :
    Kept o (@State.freezePenalties s_0) := by
  unfold State.freezePenalties
  repeat' (first
    | with_reducible first | assumption | refine foldl_kept ?_ (fun _ _ _ => ?_) | refine Kept.same ?_ rfl
    | dsimp only
    | (intro _))

theorem State.penalize_kept {o : State} {s_0 : State} {p_1 : ℕ} (h0 : Kept o s_0) :
    Kept o (@State.penalize s_0 p_1) := by
  unfold State.penalize
  repeat' (first
    | with_reducible assumption
    | (extract_lets +onlyGivenNames x; first
      | (refine cutS (o := o) (x := x) ?_ (fun _ => ?_) <;> [subst x; clear_value x])
      | (refine cutP (o := o) (x := x) ?_ (fun _ => ?_) <;> [subst x; clear_value x])
      | (refine cutF (o := o) (x := x) ?_ (fun _ => ?_) <;> [subst x; clear_value x])
      | skip)
    | with_reducible refine Kept.same ?_ rfl
    | dsimp only)

theorem State.moveRoute_kept {o : State} {s_0 : State} {d_1 : ℕ} (h0 : Kept o s_0) :
    Kept o (@State.moveRoute s_0 d_1) := by
  unfold State.moveRoute
  repeat' (first
    | with_reducible first | assumption | refine State.wr_kept ?_
    | (extract_lets +onlyGivenNames x; first
      | (refine cutS (o := o) (x := x) ?_ (fun _ => ?_) <;> [subst x; clear_value x])
      | (refine cutP (o := o) (x := x) ?_ (fun _ => ?_) <;> [subst x; clear_value x])
      | (refine cutF (o := o) (x := x) ?_ (fun _ => ?_) <;> [subst x; clear_value x])
      | skip)
    | with_reducible refine ite_kept ?_ ?_
    | dsimp only)

theorem State.moveRoutes_kept {o : State} {s_0 : State} (h0 : Kept o s_0) :
    Kept o (@State.moveRoutes s_0) := by
  unfold State.moveRoutes
  repeat' (first
    | with_reducible first | assumption | refine foldState_kept ?_ ?_ | refine State.moveRoute_kept ?_
    | (extract_lets +onlyGivenNames x; first
      | (refine cutS (o := o) (x := x) ?_ (fun _ => ?_) <;> [subst x; clear_value x])
      | (refine cutP (o := o) (x := x) ?_ (fun _ => ?_) <;> [subst x; clear_value x])
      | (refine cutF (o := o) (x := x) ?_ (fun _ => ?_) <;> [subst x; clear_value x])
      | skip)
    | with_reducible refine ite_kept ?_ ?_
    | split
    | with_reducible refine Kept.same ?_ rfl
    | dsimp only
    | (intro _))

theorem State.forward_kept {o : State} {s_0 : State} {r_1 : Req} (h0 : Kept o s_0) :
    Kept o (@State.forward s_0 r_1) := by
  unfold State.forward
  repeat' (first
    | with_reducible first | assumption | refine State.enqueue_kept ?_
    | (extract_lets +onlyGivenNames x; first
      | (refine cutS (o := o) (x := x) ?_ (fun _ => ?_) <;> [subst x; clear_value x])
      | (refine cutP (o := o) (x := x) ?_ (fun _ => ?_) <;> [subst x; clear_value x])
      | (refine cutF (o := o) (x := x) ?_ (fun _ => ?_) <;> [subst x; clear_value x])
      | skip)
    | with_reducible refine ite_kept ?_ ?_
    | split
    | with_reducible refine Kept.same ?_ rfl
    | dsimp only
    | (intro _))

theorem State.reissue_kept {o : State} {s_0 : State} {r_1 : Req} (h0 : Kept o s_0) :
    Kept o (@State.reissue s_0 r_1) := by
  unfold State.reissue
  repeat' (first
    | with_reducible first | assumption | refine State.forward_kept ?_ | refine Kept.same ?_ rfl
    | dsimp only)

theorem State.resend_kept {o : State} {s_0 : State} (h0 : Kept o s_0) :
    Kept o (@State.resend s_0) := by
  unfold State.resend
  repeat' (first
    | with_reducible first | assumption | refine foldl_kept ?_ (fun _ _ _ => ?_) | refine State.answer_kept ?_ | refine State.forward_kept ?_ | refine ite_kept ?_ ?_
    | split
    | with_reducible refine Kept.same ?_ rfl
    | dsimp only
    | (intro _))

theorem State.preferRoute_kept {o : State} {s_0 : State} {d_1 : ℕ} (h0 : Kept o s_0) :
    Kept o (@State.preferRoute s_0 d_1) := by
  unfold State.preferRoute
  repeat' (first
    | with_reducible first | assumption | refine State.moveRoute_kept ?_ | refine State.wr_kept ?_ | refine ite_kept ?_ ?_
    | dsimp only
    | (intro _))

theorem State.endHolds_kept {o : State} {s_0 : State} (h0 : Kept o s_0) :
    Kept o (@State.endHolds s_0) := by
  unfold State.endHolds
  repeat' (first
    | with_reducible first | assumption | refine State.resend_kept ?_
    | (extract_lets +onlyGivenNames x; first
      | (refine cutS (o := o) (x := x) ?_ (fun _ => ?_) <;> [subst x; clear_value x])
      | (refine cutP (o := o) (x := x) ?_ (fun _ => ?_) <;> [subst x; clear_value x])
      | (refine cutF (o := o) (x := x) ?_ (fun _ => ?_) <;> [subst x; clear_value x])
      | skip)
    | with_reducible first | refine ite_kept ?_ ?_ | refine Kept.same ?_ rfl
    | dsimp only
    | (intro _))

theorem State.payFrame_kept {o : State} {s_0 : State} {f_1 : SwFrame} (h0 : Kept o s_0) :
    Kept o (@State.payFrame s_0 f_1) := by
  unfold State.payFrame
  repeat' (first
    | with_reducible first | assumption | refine State.creditBack_kept ?_
    | split
    | with_reducible refine Kept.same ?_ rfl
    | dsimp only)

theorem State.dropFrames_kept {o : State} {s_0 : State} {p_1 : PortId} (h0 : Kept o s_0) :
    Kept o (@State.dropFrames s_0 p_1) := by
  unfold State.dropFrames
  repeat' (first
    | with_reducible first | assumption | refine foldl_kept ?_ (fun _ _ _ => ?_) | refine State.charge_kept ?_ | refine State.creditBack_kept ?_ | refine State.payFrame_kept ?_ | refine State.setLink_kept ?_
    | (extract_lets +onlyGivenNames x; first
      | (refine cutS (o := o) (x := x) ?_ (fun _ => ?_) <;> [subst x; clear_value x])
      | (refine cutP (o := o) (x := x) ?_ (fun _ => ?_) <;> [subst x; clear_value x])
      | (refine cutF (o := o) (x := x) ?_ (fun _ => ?_) <;> [subst x; clear_value x])
      | skip)
    | split
    | with_reducible refine Kept.same ?_ rfl
    | dsimp only
    | (intro _))

theorem State.sendRecords_kept {o : State} {s_0 : State} {p_1 : ℕ} {down_2 : Bool} (h0 : Kept o s_0) :
    Kept o (@State.sendRecords s_0 p_1 down_2) := by
  unfold State.sendRecords
  repeat' (first
    | with_reducible first | assumption | refine foldState_kept ?_ ?_ | refine State.bump_kept ?_ | refine State.send_kept ?_ | refine State.takePsn_kept ?_ | refine State.takePsn_eq (by assumption) ?_ | refine State.forward_kept ?_
    | (extract_lets +onlyGivenNames x; first
      | (refine cutS (o := o) (x := x) ?_ (fun _ => ?_) <;> [subst x; clear_value x])
      | (refine cutP (o := o) (x := x) ?_ (fun _ => ?_) <;> [subst x; clear_value x])
      | (refine cutF (o := o) (x := x) ?_ (fun _ => ?_) <;> [subst x; clear_value x])
      | skip)
    | split
    | with_reducible refine Kept.same ?_ rfl
    | dsimp only
    | (intro _))

theorem State.addDown_kept {o : State} {s_0 : State} {ls_1 : List ℕ} (h0 : Kept o s_0) :
    Kept o (@State.addDown s_0 ls_1) := by
  unfold State.addDown
  repeat' (first
    | with_reducible first | assumption | refine Kept.same ?_ rfl
    | dsimp only
    | (intro _))

theorem State.dropReaders_kept {o : State} {s_0 : State} {gone_1 : ℕ → Bool} (h0 : Kept o s_0) :
    Kept o (@State.dropReaders s_0 gone_1) := by
  unfold State.dropReaders
  repeat' (first
    | with_reducible first | assumption | refine foldl_kept ?_ (fun _ _ _ => ?_) | refine State.readerDone_kept ?_ | refine State.dropReader_kept ?_
    | (extract_lets +onlyGivenNames x; first
      | (refine cutS (o := o) (x := x) ?_ (fun _ => ?_) <;> [subst x; clear_value x])
      | (refine cutP (o := o) (x := x) ?_ (fun _ => ?_) <;> [subst x; clear_value x])
      | (refine cutF (o := o) (x := x) ?_ (fun _ => ?_) <;> [subst x; clear_value x])
      | skip)
    | dsimp only
    | (intro _))

theorem State.bypass_kept {o : State} {s_0 : State} {links_1 : List ℕ} {port_2 : Option ℕ} {until__3 : Option ℕ} {window_4 : Option ℕ} (h0 : Kept o s_0) :
    Kept o (@State.bypass s_0 links_1 port_2 until__3 window_4) := by
  unfold State.bypass
  repeat' (first
    | with_reducible first | assumption | refine foldl_kept ?_ (fun _ _ _ => ?_) | refine foldState_kept ?_ ?_ | refine State.moveRoute_kept ?_ | refine State.dropReaders_kept ?_ | refine State.reissue_kept ?_
    | (extract_lets +onlyGivenNames x; first
      | (refine cutS (o := o) (x := x) ?_ (fun _ => ?_) <;> [subst x; clear_value x])
      | (refine cutP (o := o) (x := x) ?_ (fun _ => ?_) <;> [subst x; clear_value x])
      | (refine cutF (o := o) (x := x) ?_ (fun _ => ?_) <;> [subst x; clear_value x])
      | skip)
    | split
    | with_reducible refine Kept.same ?_ rfl
    | dsimp only
    | (intro _))

theorem State.portGone_kept {o : State} {s_0 : State} {p_1 : PortId} (h0 : Kept o s_0) :
    Kept o (@State.portGone s_0 p_1) := by
  unfold State.portGone
  repeat' (first
    | with_reducible first | assumption | refine foldl_kept ?_ (fun _ _ _ => ?_) | refine State.dropFrames_kept ?_ | refine State.addDown_kept ?_ | refine State.sendRecords_kept ?_ | refine State.bypass_kept ?_ | refine State.dropReaders_kept ?_
    | (extract_lets +onlyGivenNames x; first
      | (refine cutS (o := o) (x := x) ?_ (fun _ => ?_) <;> [subst x; clear_value x])
      | (refine cutP (o := o) (x := x) ?_ (fun _ => ?_) <;> [subst x; clear_value x])
      | (refine cutF (o := o) (x := x) ?_ (fun _ => ?_) <;> [subst x; clear_value x])
      | skip)
    | with_reducible first | refine ite_kept ?_ ?_ | refine Kept.same ?_ rfl
    | dsimp only
    | (intro _))

theorem State.countRetrain_kept {o : State} {s_0 : State} (h0 : Kept o s_0) :
    Kept o (@State.countRetrain s_0) := by
  unfold State.countRetrain
  repeat' (first
    | with_reducible first | assumption | refine State.bump_kept ?_
    | dsimp only)

theorem State.retrainAt_kept {o : State} {s_0 : State} {p_1 : ℕ} {widths_2 : List ℕ} (h0 : Kept o s_0) :
    Kept o (@State.retrainAt s_0 p_1 widths_2) := by
  unfold State.retrainAt
  repeat' (first
    | with_reducible first | assumption | refine State.startTraining_kept ?_ | refine State.wr_kept ?_ | refine State.setTraining_kept ?_
    | (extract_lets +onlyGivenNames x; first
      | (refine cutS (o := o) (x := x) ?_ (fun _ => ?_) <;> [subst x; clear_value x])
      | (refine cutP (o := o) (x := x) ?_ (fun _ => ?_) <;> [subst x; clear_value x])
      | (refine cutF (o := o) (x := x) ?_ (fun _ => ?_) <;> [subst x; clear_value x])
      | skip)
    | split
    | with_reducible refine Kept.same ?_ rfl
    | dsimp only)

theorem State.trainFull_kept {o : State} {s_0 : State} {p_1 : ℕ} (h0 : Kept o s_0) :
    Kept o (@State.trainFull s_0 p_1) := by
  unfold State.trainFull
  repeat' (first
    | with_reducible first | assumption | refine State.startTraining_kept ?_ | refine State.wr_kept ?_
    | split
    | with_reducible refine Kept.same ?_ rfl
    | dsimp only)

theorem State.startPort_kept {o : State} {s_0 : State} {p_1 : ℕ} (h0 : Kept o s_0) :
    Kept o (@State.startPort s_0 p_1) := by
  unfold State.startPort
  repeat' (first
    | with_reducible first | assumption | refine State.trainFull_kept ?_ | refine ite_kept ?_ ?_
    | dsimp only)

theorem State.setShaper_kept {o : State} {s_0 : State} {a_1 : ℕ} {c_2 : ℤ} {e_3 : ℕ} (h0 : Kept o s_0) :
    Kept o (@State.setShaper s_0 a_1 c_2 e_3) := by
  unfold State.setShaper
  repeat' (first
    | with_reducible first | assumption | refine Kept.same ?_ rfl
    | dsimp only)

theorem State.freezeShaper_kept {o : State} {s_0 : State} {a_1 : ℕ} (h0 : Kept o s_0) :
    Kept o (@State.freezeShaper s_0 a_1) := by
  unfold State.freezeShaper
  repeat' (first
    | with_reducible first | assumption | refine State.setShaper_kept ?_
    | dsimp only)

theorem State.freezePort_kept {o : State} {s_0 : State} {p_1 : ℕ} (h0 : Kept o s_0) :
    Kept o (@State.freezePort s_0 p_1) := by
  unfold State.freezePort
  repeat' (first
    | with_reducible first | assumption | refine foldl_kept ?_ (fun _ _ _ => ?_) | refine State.freezeShaper_kept ?_
    | dsimp only
    | (intro _))

theorem State.downEvent_kept {o : State} {s_0 : State} {p_1 : PortId} {next_2 : State → State} (h0 : Kept o s_0) (h2 : ∀ x0, Kept o x0 → Kept o (next_2 x0)) :
    Kept o (@State.downEvent s_0 p_1 next_2) := by
  unfold State.downEvent
  repeat' (first
    | with_reducible first | assumption | refine h2 _ ?_ | refine State.penalize_kept ?_ | refine State.countRetrain_kept ?_ | refine State.bump_kept ?_ | refine State.freezePort_kept ?_ | refine State.wr_kept ?_ | refine State.emit_kept ?_ | refine State.portGone_kept ?_
    | (extract_lets +onlyGivenNames x; first
      | (refine cutS (o := o) (x := x) ?_ (fun _ => ?_) <;> [subst x; clear_value x])
      | (refine cutP (o := o) (x := x) ?_ (fun _ => ?_) <;> [subst x; clear_value x])
      | (refine cutF (o := o) (x := x) ?_ (fun _ => ?_) <;> [subst x; clear_value x])
      | skip)
    | with_reducible refine ite_kept ?_ ?_
    | dsimp only
    | (intro _))

theorem State.portDown_kept {o : State} {s_0 : State} {p_1 : PortId} (h0 : Kept o s_0) :
    Kept o (@State.portDown s_0 p_1) := by
  unfold State.portDown
  repeat' (first
    | with_reducible first | assumption | refine State.downEvent_kept ?_ ?_ | refine State.retrainAt_kept ?_
    | (extract_lets +onlyGivenNames x; first
      | (refine cutS (o := o) (x := x) ?_ (fun _ => ?_) <;> [subst x; clear_value x])
      | (refine cutP (o := o) (x := x) ?_ (fun _ => ?_) <;> [subst x; clear_value x])
      | (refine cutF (o := o) (x := x) ?_ (fun _ => ?_) <;> [subst x; clear_value x])
      | skip)
    | dsimp only
    | (intro _))

theorem State.noteUp_kept {o : State} {s_0 : State} {links_1 : List ℕ} {detected_2 : ℕ} {switch__3 : ℕ} {by__4 : ℕ} (h0 : Kept o s_0) :
    Kept o (@State.noteUp s_0 links_1 detected_2 switch__3 by__4) := by
  unfold State.noteUp
  repeat' (first
    | with_reducible first | assumption | refine foldl_kept ?_ (fun _ _ _ => ?_)
    | (extract_lets +onlyGivenNames x; first
      | (refine cutS (o := o) (x := x) ?_ (fun _ => ?_) <;> [subst x; clear_value x])
      | (refine cutP (o := o) (x := x) ?_ (fun _ => ?_) <;> [subst x; clear_value x])
      | (refine cutF (o := o) (x := x) ?_ (fun _ => ?_) <;> [subst x; clear_value x])
      | skip)
    | with_reducible refine Kept.same ?_ rfl
    | dsimp only
    | (intro _))

theorem State.noteDown_kept {o : State} {s_0 : State} {names_1 : List ℕ} {r_2 : LinkRecord} (h0 : Kept o s_0) :
    Kept o (@State.noteDown s_0 names_1 r_2) := by
  unfold State.noteDown
  repeat' (first
    | with_reducible first | assumption | refine foldl_kept ?_ (fun _ _ _ => ?_) | refine State.bypass_kept ?_ | refine State.addDown_kept ?_
    | (extract_lets +onlyGivenNames x; first
      | (refine cutS (o := o) (x := x) ?_ (fun _ => ?_) <;> [subst x; clear_value x])
      | (refine cutP (o := o) (x := x) ?_ (fun _ => ?_) <;> [subst x; clear_value x])
      | (refine cutF (o := o) (x := x) ?_ (fun _ => ?_) <;> [subst x; clear_value x])
      | skip)
    | with_reducible refine Kept.same ?_ rfl
    | dsimp only
    | (intro _))

theorem State.recordIn_kept {o : State} {s_0 : State} {r_1 : LinkRecord} (h0 : Kept o s_0) :
    Kept o (@State.recordIn s_0 r_1) := by
  unfold State.recordIn
  repeat' (first
    | with_reducible first | assumption | refine State.noteDown_kept ?_ | refine State.noteUp_kept ?_
    | (extract_lets +onlyGivenNames x; first
      | (refine cutS (o := o) (x := x) ?_ (fun _ => ?_) <;> [subst x; clear_value x])
      | (refine cutP (o := o) (x := x) ?_ (fun _ => ?_) <;> [subst x; clear_value x])
      | (refine cutF (o := o) (x := x) ?_ (fun _ => ?_) <;> [subst x; clear_value x])
      | skip)
    | with_reducible first | refine ite_kept ?_ ?_ | refine Kept.same ?_ rfl
    | dsimp only
    | (intro _))

theorem State.takeBoard_kept {o : State} {s_0 : State} (h0 : Kept o s_0) :
    Kept o (@State.takeBoard s_0) := by
  unfold State.takeBoard
  repeat' (first
    | with_reducible first | assumption | refine foldl_kept ?_ (fun _ _ _ => ?_) | refine State.recordIn_kept ?_ | refine Kept.same ?_ rfl
    | dsimp only)

theorem State.setCtx_kept {o : State} {s_0 : State} {c_1 : ℕ} {x_2 : CollCtx} (h0 : Kept o s_0) :
    Kept o (@State.setCtx s_0 c_1 x_2) := by
  unfold State.setCtx
  repeat' (first
    | with_reducible first | assumption | refine Kept.same ?_ rfl
    | dsimp only)

theorem State.setStep_kept {o : State} {s_0 : State} {c_1 : ℕ} {x_2 : CollStep} (h0 : Kept o s_0) :
    Kept o (@State.setStep s_0 c_1 x_2) := by
  unfold State.setStep
  repeat' (first
    | with_reducible first | assumption | refine State.setCtx_kept ?_
    | (extract_lets +onlyGivenNames x; first
      | (refine cutS (o := o) (x := x) ?_ (fun _ => ?_) <;> [subst x; clear_value x])
      | (refine cutP (o := o) (x := x) ?_ (fun _ => ?_) <;> [subst x; clear_value x])
      | (refine cutF (o := o) (x := x) ?_ (fun _ => ?_) <;> [subst x; clear_value x])
      | skip)
    | with_reducible first | refine ite_kept ?_ ?_ | refine Kept.same ?_ rfl
    | dsimp only
    | (intro _))

theorem State.trackColl_kept {o : State} {s_0 : State} {c_1 : ℕ} {id_2 : ℕ} {op_3 : CollOp} {a_4 : CollHdr} {p_5 : PortId} {dst_6 : ℕ} {payload_7 : List Byte} (h0 : Kept o s_0) :
    Kept o (@State.trackColl s_0 c_1 id_2 op_3 a_4 p_5 dst_6 payload_7) := by
  unfold State.trackColl
  repeat' (first
    | with_reducible assumption
    | (extract_lets +onlyGivenNames x; first
      | (refine cutS (o := o) (x := x) ?_ (fun _ => ?_) <;> [subst x; clear_value x])
      | (refine cutP (o := o) (x := x) ?_ (fun _ => ?_) <;> [subst x; clear_value x])
      | (refine cutF (o := o) (x := x) ?_ (fun _ => ?_) <;> [subst x; clear_value x])
      | skip)
    | with_reducible refine Kept.same ?_ rfl
    | dsimp only)

theorem State.sendColl_kept {o : State} {s_0 : State} {c_1 : ℕ} {n_2 : ℕ} {dst_3 : ℕ} {op_4 : CollOp} {chunk_5 : ℕ} {aux_6 : ℕ} {payload_7 : List Byte} (h0 : Kept o s_0) :
    Kept o (@State.sendColl s_0 c_1 n_2 dst_3 op_4 chunk_5 aux_6 payload_7) := by
  unfold State.sendColl
  repeat' (first
    | with_reducible first | assumption | refine State.takePsn_kept ?_ | refine State.takePsn_eq (by assumption) ?_ | refine State.forward_kept ?_
    | (extract_lets +onlyGivenNames x; first
      | (refine cutS (o := o) (x := x) ?_ (fun _ => ?_) <;> [subst x; clear_value x])
      | (refine cutP (o := o) (x := x) ?_ (fun _ => ?_) <;> [subst x; clear_value x])
      | (refine cutF (o := o) (x := x) ?_ (fun _ => ?_) <;> [subst x; clear_value x])
      | skip)
    | with_reducible first | refine ite_kept ?_ ?_ | refine Kept.same ?_ rfl
    | dsimp only
    | (intro _))

theorem State.multicast_kept {o : State} {s_0 : State} {g_1 : ℕ} {herd_2 : ℕ} {quad_3 : ℕ} {inEnd_4 : ℕ} {arrived_5 : Option PortId} {b_6 : FrameBody} (h0 : Kept o s_0) :
    Kept o (@State.multicast s_0 g_1 herd_2 quad_3 inEnd_4 arrived_5 b_6).1 := by
  unfold State.multicast
  repeat' (first
    | with_reducible first | assumption | refine State.bump_kept ?_ | refine State.tally_kept ?_ | refine State.enqueue_kept ?_
    | (extract_lets +onlyGivenNames x; first
      | (refine cutS (o := o) (x := x) ?_ (fun _ => ?_) <;> [subst x; clear_value x])
      | (refine cutP (o := o) (x := x) ?_ (fun _ => ?_) <;> [subst x; clear_value x])
      | (refine cutF (o := o) (x := x) ?_ (fun _ => ?_) <;> [subst x; clear_value x])
      | skip)
    | with_reducible first | refine ite_kept2 ?_ ?_ | refine ite_kept1 ?_ ?_ | refine ite_kept ?_ ?_
    | dsimp only
    | (intro _))
theorem State.multicast_eq {o : State} {s_0 : State} {g_1 : ℕ} {herd_2 : ℕ} {quad_3 : ℕ} {inEnd_4 : ℕ} {arrived_5 : Option PortId} {b_6 : FrameBody} {t : State} {v1 : List PortId} (e : @State.multicast s_0 g_1 herd_2 quad_3 inEnd_4 arrived_5 b_6 = (t, v1)) (h0 : Kept o s_0) : Kept o t := by
  have h : Kept o (@State.multicast s_0 g_1 herd_2 quad_3 inEnd_4 arrived_5 b_6).1 := State.multicast_kept h0
  rw [e] at h; exact h

theorem State.deafEvent_kept {o : State} {s_0 : State} {c_1 : ℕ} {n_2 : ℕ} {ep_3 : ℕ} (h0 : Kept o s_0) :
    Kept o (@State.deafEvent s_0 c_1 n_2 ep_3) := by
  unfold State.deafEvent
  repeat' (first
    | with_reducible first | assumption | refine State.emit_kept ?_ | refine State.setCtx_kept ?_
    | (extract_lets +onlyGivenNames x; first
      | (refine cutS (o := o) (x := x) ?_ (fun _ => ?_) <;> [subst x; clear_value x])
      | (refine cutP (o := o) (x := x) ?_ (fun _ => ?_) <;> [subst x; clear_value x])
      | (refine cutF (o := o) (x := x) ?_ (fun _ => ?_) <;> [subst x; clear_value x])
      | skip)
    | with_reducible first | refine ite_kept ?_ ?_ | refine Kept.same ?_ rfl
    | dsimp only)

theorem State.resultLost_kept {o : State} {s_0 : State} {c_1 : ℕ} {n_2 : ℕ} {ep_3 : ℕ} (h0 : Kept o s_0) :
    Kept o (@State.resultLost s_0 c_1 n_2 ep_3) := by
  unfold State.resultLost
  repeat' (first
    | with_reducible first | assumption | refine State.deafEvent_kept ?_ | refine State.setStep_kept ?_
    | (extract_lets +onlyGivenNames x; first
      | (refine cutS (o := o) (x := x) ?_ (fun _ => ?_) <;> [subst x; clear_value x])
      | (refine cutP (o := o) (x := x) ?_ (fun _ => ?_) <;> [subst x; clear_value x])
      | (refine cutF (o := o) (x := x) ?_ (fun _ => ?_) <;> [subst x; clear_value x])
      | skip)
    | with_reducible first | refine ite_kept ?_ ?_ | refine Kept.same ?_ rfl
    | dsimp only
    | (intro _))

theorem State.sendGroup_kept {o : State} {s_0 : State} {c_1 : ℕ} {n_2 : ℕ} {op_3 : CollOp} {chunk_4 : ℕ} {aux_5 : ℕ} {payload_6 : List Byte} (h0 : Kept o s_0) :
    Kept o (@State.sendGroup s_0 c_1 n_2 op_3 chunk_4 aux_5 payload_6) := by
  unfold State.sendGroup
  repeat' (first
    | with_reducible first | assumption | refine foldl_kept ?_ (fun _ _ _ => ?_) | refine State.takePsn_kept ?_ | refine State.takePsn_eq (by assumption) ?_ | refine State.multicast_kept ?_ | refine State.multicast_eq (by assumption) ?_ | refine State.trackColl_kept ?_ | refine State.resultLost_kept ?_
    | (extract_lets +onlyGivenNames x; first
      | (refine cutS (o := o) (x := x) ?_ (fun _ => ?_) <;> [subst x; clear_value x])
      | (refine cutP (o := o) (x := x) ?_ (fun _ => ?_) <;> [subst x; clear_value x])
      | (refine cutF (o := o) (x := x) ?_ (fun _ => ?_) <;> [subst x; clear_value x])
      | skip)
    | with_reducible refine ite_kept ?_ ?_
    | dsimp only
    | (intro _))

theorem State.writeVals_kept {o : State} {s_0 : State} {herd_1 : ℕ} {addr_2 : ℕ} {bs_3 : List Byte} (h0 : Kept o s_0) :
    KeptVal o (@State.writeVals s_0 herd_1 addr_2 bs_3) (fun v => v) := by
  unfold State.writeVals
  repeat' (first
    | with_reducible first | assumption | refine State.allocate_some (by assumption) ?_ | refine State.allocate_kept ?_ | refine State.liftPoison_kept ?_ | refine State.writePool_kept ?_ | exact KeptVal.none | refine KeptVal.some ?_
    | (extract_lets +onlyGivenNames x; first
      | (refine cutS (o := o) (x := x) ?_ (fun _ => ?_) <;> [subst x; clear_value x])
      | (refine cutP (o := o) (x := x) ?_ (fun _ => ?_) <;> [subst x; clear_value x])
      | (refine cutF (o := o) (x := x) ?_ (fun _ => ?_) <;> [subst x; clear_value x])
      | skip)
    | with_reducible refine ite_kept ?_ ?_
    | split
    | with_reducible refine Kept.same ?_ rfl
    | dsimp only)
theorem State.writeVals_some {o : State} {s_0 : State} {herd_1 : ℕ} {addr_2 : ℕ} {bs_3 : List Byte} {t : State} (e : @State.writeVals s_0 herd_1 addr_2 bs_3 = some t) (h0 : Kept o s_0) : Kept o t :=
  State.writeVals_kept (o := o) h0 _ e

theorem State.putVals_kept {o : State} {s_0 : State} {herd_1 : ℕ} {addr_2 : ℕ} {bs_3 : List Byte} (h0 : Kept o s_0) :
    Kept o (@State.putVals s_0 herd_1 addr_2 bs_3) := by
  unfold State.putVals
  cases e : s_0.writeVals herd_1 addr_2 bs_3 <;> dsimp only [Option.getD]
  repeat' (first
    | with_reducible first | assumption | refine State.writeVals_some (by assumption) ?_ | refine State.writeVals_kept ?_
    | dsimp only)

theorem State.beginStep_kept {o : State} {s_0 : State} {c_1 : ℕ} (h0 : Kept o s_0) :
    Kept o (@State.beginStep s_0 c_1) := by
  unfold State.beginStep
  repeat' (first
    | with_reducible first | assumption | refine State.setStep_kept ?_
    | (extract_lets +onlyGivenNames x; first
      | (refine cutS (o := o) (x := x) ?_ (fun _ => ?_) <;> [subst x; clear_value x])
      | (refine cutP (o := o) (x := x) ?_ (fun _ => ?_) <;> [subst x; clear_value x])
      | (refine cutF (o := o) (x := x) ?_ (fun _ => ?_) <;> [subst x; clear_value x])
      | skip)
    | with_reducible first | refine ite_kept ?_ ?_ | refine Kept.same ?_ rfl
    | dsimp only)

theorem Kept.updDual {o s : State} {d : List DualHold} (h : Kept o s) : Kept o { s with flt := { s.flt with dual := d } } :=
  h.updF h.flt
theorem State.closeStep_kept {o s : State} {c code : ℕ} (h : Kept o s) : Kept o (s.closeStep c code) := by
  unfold State.closeStep
  extract_lets n x present s0 s1 s2 k s3 s4 dual f s5
  have h2 : Kept o s2 := ite_kept (State.bump_kept (State.postOrOwe_kept (State.trace_kept h)))
    (State.bump_kept (State.postOrOwe_kept (State.trace_kept h)))
  have h5 : Kept o s5 := (State.wr_kept (State.setCtx_kept h2)).updDual
  exact State.beginStep_kept h5

theorem State.passStep_kept {o : State} {s_0 : State} {c_1 : ℕ} {code_2 : ℕ} (h0 : Kept o s_0) :
    Kept o (@State.passStep s_0 c_1 code_2) := by
  unfold State.passStep
  repeat' (first
    | with_reducible first | assumption | refine State.closeStep_kept ?_ | refine State.wr_kept ?_
    | split
    | with_reducible refine Kept.same ?_ rfl
    | dsimp only)

theorem State.sendAborts_kept {o : State} {s_0 : State} {c_1 : ℕ} {n_2 : ℕ} {code_3 : ℕ} {up_4 : Bool} (h0 : Kept o s_0) :
    Kept o (@State.sendAborts s_0 c_1 n_2 code_3 up_4) := by
  unfold State.sendAborts
  repeat' (first
    | with_reducible first | assumption | refine foldl_kept ?_ (fun _ _ _ => ?_) | refine State.sendColl_kept ?_ | refine State.sendGroup_kept ?_
    | (extract_lets +onlyGivenNames x; first
      | (refine cutS (o := o) (x := x) ?_ (fun _ => ?_) <;> [subst x; clear_value x])
      | (refine cutP (o := o) (x := x) ?_ (fun _ => ?_) <;> [subst x; clear_value x])
      | (refine cutF (o := o) (x := x) ?_ (fun _ => ?_) <;> [subst x; clear_value x])
      | skip)
    | with_reducible refine ite_kept ?_ ?_
    | dsimp only
    | (intro _))

theorem State.abortStep_kept {o : State} {s_0 : State} {c_1 : ℕ} {code_2 : ℕ} (h0 : Kept o s_0) :
    Kept o (@State.abortStep s_0 c_1 code_2) := by
  unfold State.abortStep
  repeat' (first
    | with_reducible first | assumption | refine State.closeStep_kept ?_ | refine State.sendAborts_kept ?_
    | dsimp only)

theorem State.sendResult_kept {o : State} {s_0 : State} {c_1 : ℕ} {n_2 : ℕ} {i_3 : ℕ} {vals_4 : List ℕ} (h0 : Kept o s_0) :
    Kept o (@State.sendResult s_0 c_1 n_2 i_3 vals_4) := by
  unfold State.sendResult
  repeat' (first
    | with_reducible first | assumption | refine State.sendGroup_kept ?_
    | (extract_lets +onlyGivenNames x; first
      | (refine cutS (o := o) (x := x) ?_ (fun _ => ?_) <;> [subst x; clear_value x])
      | (refine cutP (o := o) (x := x) ?_ (fun _ => ?_) <;> [subst x; clear_value x])
      | (refine cutF (o := o) (x := x) ?_ (fun _ => ?_) <;> [subst x; clear_value x])
      | skip)
    | dsimp only
    | (intro _))

theorem State.updateChunk_kept {o : State} {s_0 : State} {c_1 : ℕ} {n_2 : ℕ} {i_3 : ℕ} {xs_4 : List ℕ} (h0 : Kept o s_0) :
    Kept o (@State.updateChunk s_0 c_1 n_2 i_3 xs_4) := by
  unfold State.updateChunk
  repeat' (first
    | with_reducible first | assumption | refine State.sendResult_kept ?_ | refine State.setStep_kept ?_ | refine State.putVals_kept ?_
    | (extract_lets +onlyGivenNames x; first
      | (refine cutS (o := o) (x := x) ?_ (fun _ => ?_) <;> [subst x; clear_value x])
      | (refine cutP (o := o) (x := x) ?_ (fun _ => ?_) <;> [subst x; clear_value x])
      | (refine cutF (o := o) (x := x) ?_ (fun _ => ?_) <;> [subst x; clear_value x])
      | skip)
    | with_reducible refine ite_kept ?_ ?_
    | split
    | with_reducible refine Kept.same ?_ rfl
    | dsimp only
    | (intro _))

theorem State.kickRing_kept {o : State} {s_0 : State} {ring_1 : ℕ} {herd_2 : ℕ} (h0 : Kept o s_0) :
    Kept o (@State.kickRing s_0 ring_1 herd_2) := by
  unfold State.kickRing
  repeat' (first
    | with_reducible first | assumption | refine State.doorbell_kept ?_ | refine State.setRingIndex_kept ?_ | refine ite_kept ?_ ?_
    | dsimp only)

theorem State.noise_kept {o : State} {s_0 : State} {c_1 : ℕ} (h0 : Kept o s_0) :
    Kept o (@State.noise s_0 c_1).2 := by
  unfold State.noise
  repeat' (first
    | with_reducible assumption
    | (extract_lets +onlyGivenNames x; first
      | (refine cutS (o := o) (x := x) ?_ (fun _ => ?_) <;> [subst x; clear_value x])
      | (refine cutP (o := o) (x := x) ?_ (fun _ => ?_) <;> [subst x; clear_value x])
      | (refine cutF (o := o) (x := x) ?_ (fun _ => ?_) <;> [subst x; clear_value x])
      | skip)
    | with_reducible first | refine ite_kept2 ?_ ?_ | refine ite_kept1 ?_ ?_ | refine ite_kept ?_ ?_ | refine Kept.same ?_ rfl | refine Kept.upd ?_ rfl rfl rfl rfl rfl rfl rfl rfl rfl rfl (Nat.le_refl _) (Nat.le_add_right _ _) (Nat.le_refl _) (Nat.le_refl _)
    | dsimp only)
theorem State.noise_eq {o : State} {s_0 : State} {c_1 : ℕ} {v0 : ℕ} {t : State} (e : @State.noise s_0 c_1 = (v0, t)) (h0 : Kept o s_0) : Kept o t := by
  have h : Kept o (@State.noise s_0 c_1).2 := State.noise_kept h0
  rw [e] at h; exact h

theorem State.aggElem_kept {o : State} {s_0 : State} {c_1 : ℕ} {n_2 : ℕ} {sum_3 : ℕ} (h0 : Kept o s_0) :
    Kept o (@State.aggElem s_0 c_1 n_2 sum_3).2 := by
  unfold State.aggElem
  by_cases e : s_0.rd od3820_SIGMA c_1 % 2 ^ 31 = 0 <;> simp only [e, ite_true, ite_false]
  repeat' (first
    | with_reducible first | assumption | refine State.noise_kept ?_ | refine State.noise_eq (by assumption) ?_
    | (extract_lets +onlyGivenNames x; first
      | (refine cutS (o := o) (x := x) ?_ (fun _ => ?_) <;> [subst x; clear_value x])
      | (refine cutP (o := o) (x := x) ?_ (fun _ => ?_) <;> [subst x; clear_value x])
      | (refine cutF (o := o) (x := x) ?_ (fun _ => ?_) <;> [subst x; clear_value x])
      | skip)
    | with_reducible first | refine ite_kept2 ?_ ?_ | refine ite_kept1 ?_ ?_ | refine ite_kept ?_ ?_
    | dsimp only)
theorem State.aggElem_eq {o : State} {s_0 : State} {c_1 : ℕ} {n_2 : ℕ} {sum_3 : ℕ} {v0 : ℕ} {t : State} (e : @State.aggElem s_0 c_1 n_2 sum_3 = (v0, t)) (h0 : Kept o s_0) : Kept o t := by
  have h : Kept o (@State.aggElem s_0 c_1 n_2 sum_3).2 := State.aggElem_kept h0
  rw [e] at h; exact h

theorem State.aggVals_kept {o : State} {s_0 : State} {c_1 : ℕ} {n_2 : ℕ} {a__internal_hyg0_3 : List ℕ} (h0 : Kept o s_0) :
    Kept o (@State.aggVals s_0 c_1 n_2 a__internal_hyg0_3).2 := by
  induction a__internal_hyg0_3 generalizing s_0 c_1 n_2 with
  | nil =>
    unfold State.aggVals
    repeat' (first
      | with_reducible first | assumption | refine State.aggElem_kept ?_ | refine State.aggElem_eq (by assumption) ?_ | refine ih ?_
      | (extract_lets +onlyGivenNames x; first
        | (refine cutS (o := o) (x := x) ?_ (fun _ => ?_) <;> [subst x; clear_value x])
        | (refine cutP (o := o) (x := x) ?_ (fun _ => ?_) <;> [subst x; clear_value x])
        | (refine cutF (o := o) (x := x) ?_ (fun _ => ?_) <;> [subst x; clear_value x])
        | skip)
      | split
      | dsimp only
      | (intro _))
  | cons x l ih =>
    unfold State.aggVals
    repeat' (first
      | with_reducible first | assumption | refine State.aggElem_kept ?_ | refine State.aggElem_eq (by assumption) ?_ | refine ih ?_
      | (extract_lets +onlyGivenNames x; first
        | (refine cutS (o := o) (x := x) ?_ (fun _ => ?_) <;> [subst x; clear_value x])
        | (refine cutP (o := o) (x := x) ?_ (fun _ => ?_) <;> [subst x; clear_value x])
        | (refine cutF (o := o) (x := x) ?_ (fun _ => ?_) <;> [subst x; clear_value x])
        | skip)
      | split
      | dsimp only
      | (intro _))
theorem State.aggVals_eq {o : State} {s_0 : State} {c_1 : ℕ} {n_2 : ℕ} {a__internal_hyg0_3 : List ℕ} {v0 : List ℕ} {t : State} (e : @State.aggVals s_0 c_1 n_2 a__internal_hyg0_3 = (v0, t)) (h0 : Kept o s_0) : Kept o t := by
  have h : Kept o (@State.aggVals s_0 c_1 n_2 a__internal_hyg0_3).2 := State.aggVals_kept h0
  rw [e] at h; exact h

theorem State.chunkDone_kept {o : State} {s_0 : State} {c_1 : ℕ} {n_2 : ℕ} {i_3 : ℕ} (h0 : Kept o s_0) :
    Kept o (@State.chunkDone s_0 c_1 n_2 i_3) := by
  unfold State.chunkDone
  repeat' (first
    | with_reducible first | assumption | refine State.setStep_kept ?_
    | (extract_lets +onlyGivenNames x; first
      | (refine cutS (o := o) (x := x) ?_ (fun _ => ?_) <;> [subst x; clear_value x])
      | (refine cutP (o := o) (x := x) ?_ (fun _ => ?_) <;> [subst x; clear_value x])
      | (refine cutF (o := o) (x := x) ?_ (fun _ => ?_) <;> [subst x; clear_value x])
      | skip)
    | split
    | with_reducible refine Kept.same ?_ rfl
    | dsimp only)

theorem State.rootChunk_kept {o : State} {s_0 : State} {c_1 : ℕ} {n_2 : ℕ} {i_3 : ℕ} {k_4 : CollChunk} (h0 : Kept o s_0) :
    Kept o (@State.rootChunk s_0 c_1 n_2 i_3 k_4) := by
  unfold State.rootChunk
  repeat' (first
    | with_reducible first | assumption | refine foldl_kept ?_ (fun _ _ _ => ?_) | refine State.setStep_kept ?_ | refine State.sendResult_kept ?_ | refine State.putVals_kept ?_ | refine State.updateChunk_kept ?_ | refine State.chunkDone_kept ?_
    | (extract_lets +onlyGivenNames x; first
      | (refine cutS (o := o) (x := x) ?_ (fun _ => ?_) <;> [subst x; clear_value x])
      | (refine cutP (o := o) (x := x) ?_ (fun _ => ?_) <;> [subst x; clear_value x])
      | (refine cutF (o := o) (x := x) ?_ (fun _ => ?_) <;> [subst x; clear_value x])
      | skip)
    | with_reducible first | refine ite_kept ?_ ?_ | refine Kept.same ?_ rfl
    | dsimp only
    | (intro _))

theorem State.sendPart_kept {o : State} {s_0 : State} {c_1 : ℕ} {n_2 : ℕ} {i_3 : ℕ} {x_4 : CollStep} {k_5 : CollChunk} (h0 : Kept o s_0) :
    Kept o (@State.sendPart s_0 c_1 n_2 i_3 x_4 k_5) := by
  unfold State.sendPart
  repeat' (first
    | with_reducible first | assumption | refine State.sendColl_kept ?_ | refine State.setStep_kept ?_ | refine Kept.same ?_ rfl
    | dsimp only)

theorem State.sealedStep_kept {o : State} {s_0 : State} {c_1 : ℕ} (h0 : Kept o s_0) :
    Kept o (@State.sealedStep s_0 c_1) := by
  unfold State.sealedStep
  repeat' (first
    | with_reducible first | assumption | refine State.closeStep_kept ?_ | refine State.sendAborts_kept ?_
    | dsimp only)

theorem State.releaseChunk_kept {o : State} {s_0 : State} {c_1 : ℕ} {n_2 : ℕ} {i_3 : ℕ} (h0 : Kept o s_0) :
    Kept o (@State.releaseChunk s_0 c_1 n_2 i_3) := by
  unfold State.releaseChunk
  repeat' (first
    | with_reducible first | assumption | refine State.setStep_kept ?_ | refine State.rootChunk_kept ?_ | refine State.sealedStep_kept ?_ | refine State.sendPart_kept ?_
    | (extract_lets +onlyGivenNames x; first
      | (refine cutS (o := o) (x := x) ?_ (fun _ => ?_) <;> [subst x; clear_value x])
      | (refine cutP (o := o) (x := x) ?_ (fun _ => ?_) <;> [subst x; clear_value x])
      | (refine cutF (o := o) (x := x) ?_ (fun _ => ?_) <;> [subst x; clear_value x])
      | skip)
    | with_reducible refine ite_kept ?_ ?_
    | split
    | with_reducible refine Kept.same ?_ rfl
    | dsimp only)

theorem State.finishChunk_kept {o : State} {s_0 : State} {c_1 : ℕ} {n_2 : ℕ} {i_3 : ℕ} (h0 : Kept o s_0) :
    Kept o (@State.finishChunk s_0 c_1 n_2 i_3) := by
  unfold State.finishChunk
  repeat' (first
    | with_reducible first | assumption | refine State.tally_kept ?_ | refine State.bump_kept ?_ | refine State.setStep_kept ?_ | refine State.releaseChunk_kept ?_
    | (extract_lets +onlyGivenNames x; first
      | (refine cutS (o := o) (x := x) ?_ (fun _ => ?_) <;> [subst x; clear_value x])
      | (refine cutP (o := o) (x := x) ?_ (fun _ => ?_) <;> [subst x; clear_value x])
      | (refine cutF (o := o) (x := x) ?_ (fun _ => ?_) <;> [subst x; clear_value x])
      | skip)
    | with_reducible refine ite_kept ?_ ?_
    | split
    | with_reducible refine Kept.same ?_ rfl
    | dsimp only)

theorem State.tryChunk_kept {o : State} {s_0 : State} {c_1 : ℕ} {n_2 : ℕ} {i_3 : ℕ} (h0 : Kept o s_0) :
    Kept o (@State.tryChunk s_0 c_1 n_2 i_3) := by
  unfold State.tryChunk
  repeat' (first
    | with_reducible first | assumption | refine State.finishChunk_kept ?_
    | (extract_lets +onlyGivenNames x; first
      | (refine cutS (o := o) (x := x) ?_ (fun _ => ?_) <;> [subst x; clear_value x])
      | (refine cutP (o := o) (x := x) ?_ (fun _ => ?_) <;> [subst x; clear_value x])
      | (refine cutF (o := o) (x := x) ?_ (fun _ => ?_) <;> [subst x; clear_value x])
      | skip)
    | with_reducible refine ite_kept ?_ ?_
    | split
    | with_reducible refine Kept.same ?_ rfl
    | dsimp only)

theorem State.tryChunks_kept {o : State} {s_0 : State} {c_1 : ℕ} {n_2 : ℕ} (h0 : Kept o s_0) :
    Kept o (@State.tryChunks s_0 c_1 n_2) := by
  unfold State.tryChunks
  repeat' (first
    | with_reducible first | assumption | refine foldl_kept ?_ (fun _ _ _ => ?_) | refine State.tryChunk_kept ?_
    | dsimp only
    | (intro _))

theorem State.aggRelease_kept {o : State} {s_0 : State} {c_1 : ℕ} {n_2 : ℕ} (h0 : Kept o s_0) :
    Kept o (@State.aggRelease s_0 c_1 n_2) := by
  unfold State.aggRelease
  repeat' (first
    | with_reducible first | assumption | refine foldl_kept ?_ (fun _ _ _ => ?_) | refine State.abortStep_kept ?_ | refine State.aggVals_kept ?_ | refine State.aggVals_eq (by assumption) ?_ | refine State.putVals_kept ?_ | refine State.chunkDone_kept ?_
    | (extract_lets +onlyGivenNames x; first
      | (refine cutS (o := o) (x := x) ?_ (fun _ => ?_) <;> [subst x; clear_value x])
      | (refine cutP (o := o) (x := x) ?_ (fun _ => ?_) <;> [subst x; clear_value x])
      | (refine cutF (o := o) (x := x) ?_ (fun _ => ?_) <;> [subst x; clear_value x])
      | skip)
    | with_reducible refine ite_kept ?_ ?_
    | split
    | with_reducible refine Kept.same ?_ rfl
    | dsimp only
    | (intro _))

theorem State.closePass_kept {o : State} {s_0 : State} {c_1 : ℕ} {n_2 : ℕ} (h0 : Kept o s_0) :
    Kept o (@State.closePass s_0 c_1 n_2).1 := by
  unfold State.closePass
  repeat' (first
    | with_reducible first | assumption | refine foldl_kept ?_ (fun _ _ _ => ?_) | refine State.updateChunk_kept ?_
    | (extract_lets +onlyGivenNames x; first
      | (refine cutS (o := o) (x := x) ?_ (fun _ => ?_) <;> [subst x; clear_value x])
      | (refine cutP (o := o) (x := x) ?_ (fun _ => ?_) <;> [subst x; clear_value x])
      | (refine cutF (o := o) (x := x) ?_ (fun _ => ?_) <;> [subst x; clear_value x])
      | skip)
    | with_reducible first | refine ite_kept2 ?_ ?_ | refine ite_kept1 ?_ ?_ | refine ite_kept ?_ ?_
    | dsimp only
    | (intro _))
theorem State.closePass_eq {o : State} {s_0 : State} {c_1 : ℕ} {n_2 : ℕ} {t : State} {v1 : ℕ} (e : @State.closePass s_0 c_1 n_2 = (t, v1)) (h0 : Kept o s_0) : Kept o t := by
  have h : Kept o (@State.closePass s_0 c_1 n_2).1 := State.closePass_kept h0
  rw [e] at h; exact h

theorem State.closeIfDone_kept {o : State} {s_0 : State} {c_1 : ℕ} (h0 : Kept o s_0) :
    Kept o (@State.closeIfDone s_0 c_1) := by
  unfold State.closeIfDone
  repeat' (first
    | with_reducible first | assumption | refine State.aggRelease_kept ?_ | refine State.passStep_kept ?_ | refine State.kickRing_kept ?_ | refine State.closePass_kept ?_ | refine State.closePass_eq (by assumption) ?_
    | (extract_lets +onlyGivenNames x; first
      | (refine cutS (o := o) (x := x) ?_ (fun _ => ?_) <;> [subst x; clear_value x])
      | (refine cutP (o := o) (x := x) ?_ (fun _ => ?_) <;> [subst x; clear_value x])
      | (refine cutF (o := o) (x := x) ?_ (fun _ => ?_) <;> [subst x; clear_value x])
      | skip)
    | with_reducible refine ite_kept ?_ ?_
    | dsimp only)

theorem State.noteFirst_kept {o : State} {s_0 : State} {c_1 : ℕ} {n_2 : ℕ} (h0 : Kept o s_0) :
    Kept o (@State.noteFirst s_0 c_1 n_2) := by
  unfold State.noteFirst
  repeat' (first
    | with_reducible first | assumption | refine State.setStep_kept ?_
    | (extract_lets +onlyGivenNames x; first
      | (refine cutS (o := o) (x := x) ?_ (fun _ => ?_) <;> [subst x; clear_value x])
      | (refine cutP (o := o) (x := x) ?_ (fun _ => ?_) <;> [subst x; clear_value x])
      | (refine cutF (o := o) (x := x) ?_ (fun _ => ?_) <;> [subst x; clear_value x])
      | skip)
    | with_reducible refine Kept.same ?_ rfl
    | dsimp only)

theorem State.addToChunk_kept {o : State} {s_0 : State} {c_1 : ℕ} {n_2 : ℕ} {i_3 : ℕ} {xs_4 : List ℕ} {count_5 : ℕ} {member_6 : Option ℕ} {kid_7 : Option ℕ} (h0 : Kept o s_0) :
    Kept o (@State.addToChunk s_0 c_1 n_2 i_3 xs_4 count_5 member_6 kid_7) := by
  unfold State.addToChunk
  repeat' (first
    | with_reducible first | assumption | refine State.noteFirst_kept ?_ | refine State.setStep_kept ?_
    | (extract_lets +onlyGivenNames x; first
      | (refine cutS (o := o) (x := x) ?_ (fun _ => ?_) <;> [subst x; clear_value x])
      | (refine cutP (o := o) (x := x) ?_ (fun _ => ?_) <;> [subst x; clear_value x])
      | (refine cutF (o := o) (x := x) ?_ (fun _ => ?_) <;> [subst x; clear_value x])
      | skip)
    | with_reducible refine Kept.same ?_ rfl
    | dsimp only)

theorem State.sumFrom_kept {o : State} {s_0 : State} {c_1 : ℕ} {n_2 : ℕ} {ps_3 : List Party} {a__internal_hyg0_4 : ℕ} (h0 : Kept o s_0) :
    Kept o (@State.sumFrom s_0 c_1 n_2 ps_3 a__internal_hyg0_4) := by
  induction a__internal_hyg0_4 generalizing s_0 c_1 n_2 ps_3 with
  | zero =>
    unfold State.sumFrom
    repeat' (first
      | with_reducible first | assumption | refine State.setStep_kept ?_ | refine State.tryChunk_kept ?_ | refine State.addToChunk_kept ?_ | refine ih ?_
      | (extract_lets +onlyGivenNames x; first
        | (refine cutS (o := o) (x := x) ?_ (fun _ => ?_) <;> [subst x; clear_value x])
        | (refine cutP (o := o) (x := x) ?_ (fun _ => ?_) <;> [subst x; clear_value x])
        | (refine cutF (o := o) (x := x) ?_ (fun _ => ?_) <;> [subst x; clear_value x])
        | skip)
      | with_reducible refine ite_kept ?_ ?_
      | split
      | with_reducible refine Kept.same ?_ rfl
      | dsimp only
      | (intro _))
  | succ n ih =>
    unfold State.sumFrom
    repeat' (first
      | with_reducible first | assumption | refine State.setStep_kept ?_ | refine State.tryChunk_kept ?_ | refine State.addToChunk_kept ?_ | refine ih ?_
      | (extract_lets +onlyGivenNames x; first
        | (refine cutS (o := o) (x := x) ?_ (fun _ => ?_) <;> [subst x; clear_value x])
        | (refine cutP (o := o) (x := x) ?_ (fun _ => ?_) <;> [subst x; clear_value x])
        | (refine cutF (o := o) (x := x) ?_ (fun _ => ?_) <;> [subst x; clear_value x])
        | skip)
      | with_reducible refine ite_kept ?_ ?_
      | split
      | with_reducible refine Kept.same ?_ rfl
      | dsimp only
      | (intro _))

theorem State.sumChunks_kept {o : State} {s_0 : State} {c_1 : ℕ} {n_2 : ℕ} (h0 : Kept o s_0) :
    Kept o (@State.sumChunks s_0 c_1 n_2) := by
  unfold State.sumChunks
  repeat' (first
    | with_reducible first | assumption | refine State.sumFrom_kept ?_
    | (extract_lets +onlyGivenNames x; first
      | (refine cutS (o := o) (x := x) ?_ (fun _ => ?_) <;> [subst x; clear_value x])
      | (refine cutP (o := o) (x := x) ?_ (fun _ => ?_) <;> [subst x; clear_value x])
      | (refine cutF (o := o) (x := x) ?_ (fun _ => ?_) <;> [subst x; clear_value x])
      | skip)
    | with_reducible refine ite_kept ?_ ?_
    | dsimp only)

theorem State.tryOpen_kept {o : State} {s_0 : State} {c_1 : ℕ} (h0 : Kept o s_0) :
    Kept o (@State.tryOpen s_0 c_1) := by
  unfold State.tryOpen
  repeat' (first
    | with_reducible first | assumption | refine State.closeIfDone_kept ?_ | refine State.tryChunks_kept ?_ | refine State.sumChunks_kept ?_
    | (extract_lets +onlyGivenNames x; first
      | (refine cutS (o := o) (x := x) ?_ (fun _ => ?_) <;> [subst x; clear_value x])
      | (refine cutP (o := o) (x := x) ?_ (fun _ => ?_) <;> [subst x; clear_value x])
      | (refine cutF (o := o) (x := x) ?_ (fun _ => ?_) <;> [subst x; clear_value x])
      | skip)
    | dsimp only)

theorem State.tryClose_kept {o : State} {s_0 : State} {c_1 : ℕ} (h0 : Kept o s_0) :
    Kept o (@State.tryClose s_0 c_1) := by
  unfold State.tryClose
  repeat' (first
    | with_reducible first | assumption | refine State.closeIfDone_kept ?_ | refine State.tryOpen_kept ?_
    | (extract_lets +onlyGivenNames x; first
      | (refine cutS (o := o) (x := x) ?_ (fun _ => ?_) <;> [subst x; clear_value x])
      | (refine cutP (o := o) (x := x) ?_ (fun _ => ?_) <;> [subst x; clear_value x])
      | (refine cutF (o := o) (x := x) ?_ (fun _ => ?_) <;> [subst x; clear_value x])
      | skip)
    | with_reducible refine ite_kept ?_ ?_
    | dsimp only)

theorem State.stageChunk_kept {o : State} {s_0 : State} {c_1 : ℕ} {n_2 : ℕ} {i_3 : ℕ} {entry_4 : ℕ} {payload_5 : List Byte} (h0 : Kept o s_0) :
    KeptVal o (@State.stageChunk s_0 c_1 n_2 i_3 entry_4 payload_5) (fun v => v) := by
  unfold State.stageChunk
  repeat' (first
    | with_reducible first | assumption | refine foldl_kept ?_ (fun _ _ _ => ?_) | refine State.writeVals_some (by assumption) ?_ | refine State.writeVals_kept ?_ | refine State.noteFirst_kept ?_ | refine State.setStep_kept ?_ | refine State.emit_kept ?_ | exact KeptVal.none | refine KeptVal.some ?_
    | (extract_lets +onlyGivenNames x; first
      | (refine cutS (o := o) (x := x) ?_ (fun _ => ?_) <;> [subst x; clear_value x])
      | (refine cutP (o := o) (x := x) ?_ (fun _ => ?_) <;> [subst x; clear_value x])
      | (refine cutF (o := o) (x := x) ?_ (fun _ => ?_) <;> [subst x; clear_value x])
      | skip)
    | with_reducible refine ite_kept ?_ ?_
    | split
    | with_reducible refine Kept.same ?_ rfl
    | dsimp only
    | (intro _))
theorem State.stageChunk_some {o : State} {s_0 : State} {c_1 : ℕ} {n_2 : ℕ} {i_3 : ℕ} {entry_4 : ℕ} {payload_5 : List Byte} {t : State} (e : @State.stageChunk s_0 c_1 n_2 i_3 entry_4 payload_5 = some t) (h0 : Kept o s_0) : Kept o t :=
  State.stageChunk_kept (o := o) h0 _ e

theorem State.contribute_kept {o : State} {s_0 : State} {c_1 : ℕ} {entry_2 : ℕ} {n_3 : ℕ} {i_4 : ℕ} {payload_5 : List Byte} (h0 : Kept o s_0) :
    Kept8 o (@State.contribute s_0 c_1 entry_2 n_3 i_4 payload_5) := by
  unfold State.contribute
  repeat' (first
    | with_reducible first | assumption | refine Kept8.code ?_ | exact Kept8.wait | exact Kept8.get (by assumption) | refine State.stageChunk_some (by assumption) ?_ | refine State.stageChunk_kept ?_ | refine State.tryClose_kept ?_ | refine State.tryChunk_kept ?_ | refine State.addToChunk_kept ?_
    | (extract_lets +onlyGivenNames x; first
      | (refine cutS (o := o) (x := x) ?_ (fun _ => ?_) <;> [subst x; clear_value x])
      | (refine cutP (o := o) (x := x) ?_ (fun _ => ?_) <;> [subst x; clear_value x])
      | (refine cutF (o := o) (x := x) ?_ (fun _ => ?_) <;> [subst x; clear_value x])
      | skip)
    | with_reducible refine ite_kept ?_ ?_
    | split
    | with_reducible refine Kept.same ?_ rfl
    | dsimp only
    | (intro _))

theorem State.serveContrib_kept {o : State} {s_0 : State} {r_1 : Req} {a_2 : CollHdr} (h0 : Kept o s_0) :
    Kept8 o (@State.serveContrib s_0 r_1 a_2) := by
  unfold State.serveContrib
  repeat' (first
    | with_reducible first | assumption | refine Kept8.code ?_ | exact Kept8.wait | exact Kept8.get (by assumption) | refine State.contribute_kept ?_
    | (extract_lets +onlyGivenNames x; first
      | (refine cutS (o := o) (x := x) ?_ (fun _ => ?_) <;> [subst x; clear_value x])
      | (refine cutP (o := o) (x := x) ?_ (fun _ => ?_) <;> [subst x; clear_value x])
      | (refine cutF (o := o) (x := x) ?_ (fun _ => ?_) <;> [subst x; clear_value x])
      | skip)
    | with_reducible refine ite_kept ?_ ?_
    | split
    | with_reducible refine Kept.same ?_ rfl
    | dsimp only)

theorem State.contribAnswer_kept {o : State} {s_0 : State} {r_1 : Req} {o_2 : Outcome8} (h0 : Kept o s_0) (h2 : Kept8 o o_2) :
    Kept o (@State.contribAnswer s_0 r_1 o_2) := by
  unfold State.contribAnswer
  repeat' (first
    | with_reducible first | assumption | refine Kept8.code ?_ | exact Kept8.wait | exact Kept8.get (by assumption) | refine State.complete_kept ?_ | refine ite_kept ?_ ?_
    | split
    | with_reducible refine Kept.same ?_ rfl
    | dsimp only)

theorem State.noParty_kept {o : State} {s_0 : State} {c_1 : ℕ} {n_2 : ℕ} (h0 : Kept o s_0) :
    Kept o (@State.noParty s_0 c_1 n_2) := by
  unfold State.noParty
  repeat' (first
    | with_reducible first | assumption | refine State.abortStep_kept ?_ | refine State.sealedStep_kept ?_ | refine State.sendColl_kept ?_
    | (extract_lets +onlyGivenNames x; first
      | (refine cutS (o := o) (x := x) ?_ (fun _ => ?_) <;> [subst x; clear_value x])
      | (refine cutP (o := o) (x := x) ?_ (fun _ => ?_) <;> [subst x; clear_value x])
      | (refine cutF (o := o) (x := x) ?_ (fun _ => ?_) <;> [subst x; clear_value x])
      | skip)
    | with_reducible refine ite_kept ?_ ?_
    | dsimp only)

theorem State.servePartial_kept {o : State} {s_0 : State} {r_1 : Req} {a_2 : CollHdr} (h0 : Kept o s_0) :
    Kept8 o (@State.servePartial s_0 r_1 a_2) := by
  unfold State.servePartial
  repeat' (first
    | with_reducible first | assumption | refine Kept8.code ?_ | exact Kept8.wait | exact Kept8.get (by assumption) | refine State.setCtx_kept ?_ | refine State.noteFirst_kept ?_ | refine State.setStep_kept ?_ | refine State.tryClose_kept ?_ | refine State.noParty_kept ?_ | refine State.tryChunks_kept ?_ | refine State.tryChunk_kept ?_ | refine State.addToChunk_kept ?_
    | (extract_lets +onlyGivenNames x; first
      | (refine cutS (o := o) (x := x) ?_ (fun _ => ?_) <;> [subst x; clear_value x])
      | (refine cutP (o := o) (x := x) ?_ (fun _ => ?_) <;> [subst x; clear_value x])
      | (refine cutF (o := o) (x := x) ?_ (fun _ => ?_) <;> [subst x; clear_value x])
      | skip)
    | with_reducible refine ite_kept ?_ ?_
    | split
    | with_reducible refine Kept.same ?_ rfl
    | dsimp only
    | (intro _))

theorem State.partialAnswer_kept {o : State} {s_0 : State} {r_1 : Req} {o_2 : Outcome8} (h0 : Kept o s_0) (h2 : Kept8 o o_2) :
    Kept o (@State.partialAnswer s_0 r_1 o_2) := by
  unfold State.partialAnswer
  repeat' (first
    | with_reducible first | assumption | refine Kept8.code ?_ | exact Kept8.wait | exact Kept8.get (by assumption) | refine State.complete_kept ?_
    | (extract_lets +onlyGivenNames x; first
      | (refine cutS (o := o) (x := x) ?_ (fun _ => ?_) <;> [subst x; clear_value x])
      | (refine cutP (o := o) (x := x) ?_ (fun _ => ?_) <;> [subst x; clear_value x])
      | (refine cutF (o := o) (x := x) ?_ (fun _ => ?_) <;> [subst x; clear_value x])
      | skip)
    | with_reducible refine ite_kept ?_ ?_
    | split
    | with_reducible refine Kept.same ?_ rfl
    | dsimp only
    | (intro _))

theorem State.waitedApplied_kept {o : State} {s_0 : State} {r_1 : Req} (h0 : Kept o s_0) :
    Kept o (@State.waitedApplied s_0 r_1) := by
  unfold State.waitedApplied
  repeat' (first
    | with_reducible first | assumption | refine State.answerAgain_kept ?_
    | (extract_lets +onlyGivenNames x; first
      | (refine cutS (o := o) (x := x) ?_ (fun _ => ?_) <;> [subst x; clear_value x])
      | (refine cutP (o := o) (x := x) ?_ (fun _ => ?_) <;> [subst x; clear_value x])
      | (refine cutF (o := o) (x := x) ?_ (fun _ => ?_) <;> [subst x; clear_value x])
      | skip)
    | split
    | with_reducible refine Kept.same ?_ rfl
    | dsimp only
    | (intro _))

theorem State.retryContribs_kept {o : State} {s0_0 : State} (h0 : Kept o s0_0) :
    Kept o (@State.retryContribs s0_0) := by
  unfold State.retryContribs
  repeat' (first
    | with_reducible first | assumption | refine foldl_kept ?_ (fun _ _ _ => ?_) | refine foldState_kept ?_ ?_ | refine State.tryOpen_kept ?_ | refine State.waitedApplied_kept ?_ | refine State.contribAnswer_kept ?_ ?_ | refine State.serveContrib_kept ?_ | refine State.partialAnswer_kept ?_ ?_ | refine State.servePartial_kept ?_
    | (extract_lets +onlyGivenNames x; first
      | (refine cutS (o := o) (x := x) ?_ (fun _ => ?_) <;> [subst x; clear_value x])
      | (refine cutP (o := o) (x := x) ?_ (fun _ => ?_) <;> [subst x; clear_value x])
      | (refine cutF (o := o) (x := x) ?_ (fun _ => ?_) <;> [subst x; clear_value x])
      | skip)
    | with_reducible refine ite_kept ?_ ?_
    | split
    | with_reducible refine Kept.same ?_ rfl
    | dsimp only
    | (intro _))

theorem State.dropLines_kept {o : State} {s_0 : State} {a_1 : ℕ} (h0 : Kept o s_0) :
    Kept o (@State.dropLines s_0 a_1) := by
  unfold State.dropLines
  repeat' (first
    | with_reducible first | assumption | refine foldl_kept ?_ (fun _ _ _ => ?_) | refine State.setHeld_kept ?_ | refine State.writeBack_kept ?_ | refine State.setDir_kept ?_
    | (extract_lets +onlyGivenNames x; first
      | (refine cutS (o := o) (x := x) ?_ (fun _ => ?_) <;> [subst x; clear_value x])
      | (refine cutP (o := o) (x := x) ?_ (fun _ => ?_) <;> [subst x; clear_value x])
      | (refine cutF (o := o) (x := x) ?_ (fun _ => ?_) <;> [subst x; clear_value x])
      | skip)
    | with_reducible refine ite_kept ?_ ?_
    | split
    | with_reducible refine Kept.same ?_ rfl
    | dsimp only
    | (intro _))

theorem State.poisonLines_kept {o : State} {s_0 : State} {a_1 : ℕ} (h0 : Kept o s_0) :
    Kept o (@State.poisonLines s_0 a_1) := by
  unfold State.poisonLines
  repeat' (first
    | with_reducible first | assumption | refine foldl_kept ?_ (fun _ _ _ => ?_) | refine State.setHeld_kept ?_ | refine State.setDir_kept ?_ | refine State.freeLine_kept ?_
    | (extract_lets +onlyGivenNames x; first
      | (refine cutS (o := o) (x := x) ?_ (fun _ => ?_) <;> [subst x; clear_value x])
      | (refine cutP (o := o) (x := x) ?_ (fun _ => ?_) <;> [subst x; clear_value x])
      | (refine cutF (o := o) (x := x) ?_ (fun _ => ?_) <;> [subst x; clear_value x])
      | skip)
    | with_reducible refine ite_kept ?_ ?_
    | split
    | with_reducible refine Kept.same ?_ rfl
    | dsimp only
    | (intro _))

theorem State.takeTine_kept {o : State} {s_0 : State} {t_1 : ℕ} {herd_2 : ℕ} (h0 : Kept o s_0) :
    Kept o (@State.takeTine s_0 t_1 herd_2) := by
  unfold State.takeTine
  repeat' (first
    | with_reducible first | assumption | refine State.dropLines_kept ?_ | refine State.wr_kept ?_ | refine State.setTine_kept ?_ | refine Kept.od (o := o) ?_ | refine Kept.mem (o := o) ?_ | refine Kept.cxl (o := o) ?_ | refine Kept.flash (o := o) ?_ | refine Kept.sram (o := o) ?_ | refine sparseWf_sparseSet _ _ _ _ ?_ | refine sparseWf_sparseDrop _ _ _ _ ?_ | refine sparseWf_filter _ _ _ ?_ | refine sparseWf_sparseCopy _ _ _ _ _ _ ?_
    | (extract_lets +onlyGivenNames x; first
      | (refine cutS (o := o) (x := x) ?_ (fun _ => ?_) <;> [subst x; clear_value x])
      | (refine cutP (o := o) (x := x) ?_ (fun _ => ?_) <;> [subst x; clear_value x])
      | (refine cutF (o := o) (x := x) ?_ (fun _ => ?_) <;> [subst x; clear_value x])
      | skip)
    | with_reducible first | refine ite_kept ?_ ?_ | refine Kept.same ?_ rfl | refine Kept.updT (s := s_0) h0 rfl ?_ ?_ ?_ ?_ ?_ rfl rfl rfl rfl | refine Kept.updT (by assumption) rfl ?_ ?_ ?_ ?_ ?_ rfl rfl rfl rfl
    | dsimp only)

theorem State.failTine_kept {o : State} {s_0 : State} {t_1 : ℕ} (h0 : Kept o s_0) :
    Kept o (@State.failTine s_0 t_1) := by
  unfold State.failTine
  repeat' (first
    | with_reducible first | assumption | refine foldl_kept ?_ (fun _ _ _ => ?_) | refine State.poisonLines_kept ?_ | refine State.wr_kept ?_ | refine State.dropThreads_kept ?_ | refine State.dropRemote_kept ?_ | refine State.setRing_kept ?_ | refine State.finishCmd_kept ?_ | refine State.tineCounts_kept ?_
    | (extract_lets +onlyGivenNames x; first
      | (refine cutS (o := o) (x := x) ?_ (fun _ => ?_) <;> [subst x; clear_value x])
      | (refine cutP (o := o) (x := x) ?_ (fun _ => ?_) <;> [subst x; clear_value x])
      | (refine cutF (o := o) (x := x) ?_ (fun _ => ?_) <;> [subst x; clear_value x])
      | skip)
    | with_reducible first | refine ite_kept ?_ ?_ | refine Kept.same ?_ rfl
    | dsimp only
    | (intro _))

theorem State.portLost_kept {o : State} {s_0 : State} {p_1 : ℕ} (h0 : Kept o s_0) :
    Kept o (@State.portLost s_0 p_1) := by
  unfold State.portLost
  repeat' (first
    | with_reducible first | assumption | refine State.portGone_kept ?_ | refine State.setTraining_kept ?_ | refine State.wr_kept ?_ | refine State.freezePort_kept ?_ | refine ite_kept ?_ ?_
    | split
    | with_reducible refine Kept.same ?_ rfl
    | dsimp only)

theorem State.dropHome_kept {o : State} {s_0 : State} {a_1 : ℕ} (h0 : Kept o s_0) :
    Kept o (@State.dropHome s_0 a_1) := by
  unfold State.dropHome
  repeat' (first
    | with_reducible assumption
    | (extract_lets +onlyGivenNames x; first
      | (refine cutS (o := o) (x := x) ?_ (fun _ => ?_) <;> [subst x; clear_value x])
      | (refine cutP (o := o) (x := x) ?_ (fun _ => ?_) <;> [subst x; clear_value x])
      | (refine cutF (o := o) (x := x) ?_ (fun _ => ?_) <;> [subst x; clear_value x])
      | skip)
    | with_reducible refine Kept.same ?_ rfl
    | dsimp only
    | (intro _))

theorem State.loseSlice_kept {o : State} {s_0 : State} {a_1 : ℕ} (h0 : Kept o s_0) :
    Kept o (@State.loseSlice s_0 a_1) := by
  unfold State.loseSlice
  repeat' (first
    | with_reducible first | assumption | refine foldState_kept ?_ ?_ | refine State.dropHome_kept ?_ | refine State.wr_kept ?_
    | dsimp only
    | (intro _))

theorem State.loseQuadrant_kept {o : State} {s_0 : State} {a_1 : ℕ} (h0 : Kept o s_0) :
    Kept o (@State.loseQuadrant s_0 a_1) := by
  unfold State.loseQuadrant
  repeat' (first
    | with_reducible first | assumption | refine foldState_kept ?_ ?_ | refine State.failTine_kept ?_ | refine State.portLost_kept ?_ | refine State.loseSlice_kept ?_ | refine State.closeStep_kept ?_
    | (extract_lets +onlyGivenNames x; first
      | (refine cutS (o := o) (x := x) ?_ (fun _ => ?_) <;> [subst x; clear_value x])
      | (refine cutP (o := o) (x := x) ?_ (fun _ => ?_) <;> [subst x; clear_value x])
      | (refine cutF (o := o) (x := x) ?_ (fun _ => ?_) <;> [subst x; clear_value x])
      | skip)
    | with_reducible first | refine ite_kept ?_ ?_ | refine Kept.same ?_ rfl
    | dsimp only
    | (intro _))

theorem State.failHeld_kept {o : State} {s_0 : State} {code_1 : ℕ} {p_2 : Req → Bool} (h0 : Kept o s_0) :
    Kept o (@State.failHeld s_0 code_1 p_2) := by
  unfold State.failHeld
  repeat' (first
    | with_reducible first | assumption | refine foldl_kept ?_ (fun _ _ _ => ?_) | refine State.answer_kept ?_
    | (extract_lets +onlyGivenNames x; first
      | (refine cutS (o := o) (x := x) ?_ (fun _ => ?_) <;> [subst x; clear_value x])
      | (refine cutP (o := o) (x := x) ?_ (fun _ => ?_) <;> [subst x; clear_value x])
      | (refine cutF (o := o) (x := x) ?_ (fun _ => ?_) <;> [subst x; clear_value x])
      | skip)
    | with_reducible refine ite_kept ?_ ?_
    | split
    | with_reducible refine Kept.same ?_ rfl
    | dsimp only
    | (intro _))

theorem State.stopSteps_kept {o : State} {s_0 : State} {code_1 : ℕ} (h0 : Kept o s_0) :
    Kept o (@State.stopSteps s_0 code_1) := by
  unfold State.stopSteps
  repeat' (first
    | with_reducible first | assumption | refine foldState_kept ?_ ?_ | refine State.closeStep_kept ?_ | refine State.sendAborts_kept ?_
    | dsimp only
    | (intro _))

theorem State.stopTines_kept {o : State} {s_0 : State} (h0 : Kept o s_0) :
    Kept o (@State.stopTines s_0) := by
  unfold State.stopTines
  repeat' (first
    | with_reducible first | assumption | refine foldState_kept ?_ ?_ | refine State.finishCmd_kept ?_ | refine State.dropLines_kept ?_
    | (extract_lets +onlyGivenNames x; first
      | (refine cutS (o := o) (x := x) ?_ (fun _ => ?_) <;> [subst x; clear_value x])
      | (refine cutP (o := o) (x := x) ?_ (fun _ => ?_) <;> [subst x; clear_value x])
      | (refine cutF (o := o) (x := x) ?_ (fun _ => ?_) <;> [subst x; clear_value x])
      | skip)
    | dsimp only
    | (intro _))

theorem nested_push {f : Faults} {x : HandlerFrame} {t : ℕ} (n : f.nested) (hx : 1 ≤ x.cls ∧ x.cls ≤ 4) :
    Faults.nested { f with stack := match f.stack with
      | [] => [x]
      | g :: gs => if g.cls < x.cls then x :: { g with ran := g.ran + (t - g.top) } :: gs else g :: gs } := by
  obtain ⟨n1, n2, n3, n4, n5⟩ := n
  cases e : f.stack with
  | nil => exact ⟨List.pairwise_singleton _ _, by simpa using hx, n3, n4, n5⟩
  | cons g gs =>
    rw [e] at n1 n2
    simp only
    split
    · rename_i hg
      simp only [List.pairwise_cons] at n1
      refine ⟨?_, ?_, n3, n4, n5⟩
      · simp only [List.pairwise_cons]
        refine ⟨fun a ha => ?_, n1.1, n1.2⟩
        rcases List.mem_cons.1 ha with rfl | ha
        · exact hg
        · exact (n1.1 a ha).trans hg
      · intro a ha
        rcases List.mem_cons.1 ha with rfl | ha
        · exact hx
        · rcases List.mem_cons.1 ha with rfl | ha
          · exact n2 g (by simp)
          · exact n2 a (by simp [ha])
    · exact ⟨n1, n2, n3, n4, n5⟩
theorem State.push_kept {o s : State} {f : HandlerFrame} (h : Kept o s) (hf : 1 ≤ f.cls ∧ f.cls ≤ 4) : Kept o (s.push f) :=
  State.tally_kept (State.wr_kept (h.updF (nested_push h.flt hf)))

theorem State.syncTines_kept {o : State} {s_0 : State} (h0 : Kept o s_0) :
    Kept o (@State.syncTines s_0) := by
  unfold State.syncTines
  repeat' (first
    | with_reducible first | assumption | refine foldState_kept ?_ ?_ | refine State.dropLines_kept ?_ | refine State.wr_kept ?_
    | (extract_lets +onlyGivenNames x; first
      | (refine cutS (o := o) (x := x) ?_ (fun _ => ?_) <;> [subst x; clear_value x])
      | (refine cutP (o := o) (x := x) ?_ (fun _ => ?_) <;> [subst x; clear_value x])
      | (refine cutF (o := o) (x := x) ?_ (fun _ => ?_) <;> [subst x; clear_value x])
      | skip)
    | with_reducible first | refine ite_kept ?_ ?_ | refine Kept.same ?_ rfl
    | dsimp only
    | (intro _))

theorem State.endTransition_kept {o : State} {s_0 : State} (h0 : Kept o s_0) :
    Kept o (@State.endTransition s_0) := by
  unfold State.endTransition
  repeat' (first
    | with_reducible first | assumption | refine State.wr_kept ?_ | refine State.syncTines_kept ?_ | refine foldState_kept ?_ ?_ | refine State.startPort_kept ?_
    | (extract_lets +onlyGivenNames x; first
      | (refine cutS (o := o) (x := x) ?_ (fun _ => ?_) <;> [subst x; clear_value x])
      | (refine cutP (o := o) (x := x) ?_ (fun _ => ?_) <;> [subst x; clear_value x])
      | (refine cutF (o := o) (x := x) ?_ (fun _ => ?_) <;> [subst x; clear_value x])
      | skip)
    | with_reducible refine ite_kept ?_ ?_
    | split
    | with_reducible refine Kept.same ?_ rfl
    | dsimp only
    | (intro _))

theorem State.enterBasic_kept {o : State} {s_0 : State} {r_1 : Raised} (h0 : Kept o s_0) :
    Kept o (@State.enterBasic s_0 r_1) := by
  unfold State.enterBasic
  refine State.failHeld_kept (State.stopSteps_kept (State.stopTines_kept (State.endTransition_kept (Kept.upd
    (State.push_kept (State.emit_kept (State.wr_kept h0)) ⟨by simp, by simp⟩) rfl rfl rfl rfl rfl rfl rfl rfl rfl rfl (Nat.le_refl _)
    (Nat.le_refl _) (Nat.le_refl _) (Nat.le_refl _)))))
  repeat' (first
    | with_reducible first | assumption | refine State.emit_kept ?_ | refine State.wr_kept ?_ | refine State.push_kept ?_ | refine State.failHeld_kept ?_ | refine State.stopSteps_kept ?_ | refine State.stopTines_kept ?_ | refine State.endTransition_kept ?_
    | (extract_lets +onlyGivenNames x; first
      | (refine cutS (o := o) (x := x) ?_ (fun _ => ?_) <;> [subst x; clear_value x])
      | (refine cutP (o := o) (x := x) ?_ (fun _ => ?_) <;> [subst x; clear_value x])
      | (refine cutF (o := o) (x := x) ?_ (fun _ => ?_) <;> [subst x; clear_value x])
      | skip)
    | with_reducible refine Kept.same ?_ rfl
    | dsimp only
    | (intro _))

theorem State.flushAll_kept {o : State} {s_0 : State} (h0 : Kept o s_0) :
    Kept o (@State.flushAll s_0) := by
  unfold State.flushAll
  repeat' (first
    | with_reducible first | assumption | refine foldl_kept ?_ (fun _ _ _ => ?_) | refine foldState_kept ?_ ?_ | refine State.cleanChunk_kept ?_
    | (extract_lets +onlyGivenNames x; first
      | (refine cutS (o := o) (x := x) ?_ (fun _ => ?_) <;> [subst x; clear_value x])
      | (refine cutP (o := o) (x := x) ?_ (fun _ => ?_) <;> [subst x; clear_value x])
      | (refine cutF (o := o) (x := x) ?_ (fun _ => ?_) <;> [subst x; clear_value x])
      | skip)
    | with_reducible refine ite_kept ?_ ?_
    | dsimp only
    | (intro _))

theorem State.idlePorts_kept {o : State} {s_0 : State} {p_1 : ℕ → Bool} (h0 : Kept o s_0) :
    Kept o (@State.idlePorts s_0 p_1) := by
  unfold State.idlePorts
  repeat' (first
    | with_reducible first | assumption | refine foldState_kept ?_ ?_ | refine State.dropFrames_kept ?_ | refine State.setTraining_kept ?_ | refine State.wr_kept ?_ | refine ite_kept ?_ ?_
    | split
    | with_reducible refine Kept.same ?_ rfl
    | dsimp only
    | (intro _))

theorem State.enterIsolation_kept {o : State} {s_0 : State} {a_1 : ℕ} {event_2 : ℕ} {cause_3 : ℕ} (h0 : Kept o s_0) :
    Kept o (@State.enterIsolation s_0 a_1 event_2 cause_3) := by
  unfold State.enterIsolation
  repeat' (first
    | with_reducible first | assumption | refine foldl_kept ?_ (fun _ _ _ => ?_) | refine State.emit_kept ?_ | refine State.wr_kept ?_ | refine State.endTransition_kept ?_ | refine State.failHeld_kept ?_ | refine State.answer_kept ?_ | refine State.idlePorts_kept ?_ | refine State.flushAll_kept ?_ | refine State.stopSteps_kept ?_
    | (extract_lets +onlyGivenNames x; first
      | (refine cutS (o := o) (x := x) ?_ (fun _ => ?_) <;> [subst x; clear_value x])
      | (refine cutP (o := o) (x := x) ?_ (fun _ => ?_) <;> [subst x; clear_value x])
      | (refine cutF (o := o) (x := x) ?_ (fun _ => ?_) <;> [subst x; clear_value x])
      | skip)
    | with_reducible refine ite_kept ?_ ?_
    | dsimp only
    | (intro _))

theorem State.queued_kept {o : State} {s_0 : State} (h0 : Kept o s_0) :
    Kept o (@State.queued s_0) := by
  unfold State.queued
  repeat' (first
    | with_reducible first | assumption | refine State.wr_kept ?_
    | dsimp only)

theorem State.nest_kept {o s : State} {r : Raised} (h : Kept o s) (hr : 1 ≤ r.cls ∧ r.cls ≤ 3) : Kept o (s.nest r) := by
  unfold State.nest
  dsimp only
  refine ite_kept h (ite_kept (State.enterIsolation_kept h) (ite_kept h ?_))
  split
  · exact State.push_kept h ⟨hr.1, by simp only; omega⟩
  · refine ite_kept (State.enterBasic_kept h) (ite_kept (State.push_kept h ⟨hr.1, by simp only; omega⟩) ?_)
    split
    · split
      · rename_i hc
        obtain ⟨n1, n2, n3, n4, n5⟩ := h.flt
        exact State.queued_kept (h.updF ⟨n1, n2, n3, by simp only [List.length_append, List.length_singleton]; omega, n5⟩)
      · have h1 : Kept o (s.emit r.quad evQueueOverflow 0 r.kind r.unit 0 []) := State.emit_kept h
        generalize s.emit r.quad evQueueOverflow 0 r.kind r.unit 0 [] = s1 at h1 ⊢
        obtain ⟨n1, n2, n3, n4, n5⟩ := h1.flt
        have h2 := h1.updF (f := { s1.flt with raised := s1.flt.raised.filter (fun x => x != ⟨3, r.kind, r.unit, evQueueOverflow, r.quad⟩) })
          ⟨n1, n2, fun x hx => n3 x (List.mem_filter.1 hx).1, n4, n5⟩
        exact ite_kept (State.enterIsolation_kept h2) (ite_kept (State.enterBasic_kept h2) (State.push_kept h2 ⟨by simp, by simp⟩))
    · split
      · rename_i hc
        obtain ⟨n1, n2, n3, n4, n5⟩ := h.flt
        exact State.queued_kept (h.updF ⟨n1, n2, n3, n4, by simp only [List.length_append, List.length_singleton]; omega⟩)
      · exact State.bump_kept h

theorem mem_insertRaised {r x : Raised} {l : List Raised} (h : x ∈ insertRaised r l) : x = r ∨ x ∈ l := by
  induction l with
  | nil => simpa [insertRaised] using h
  | cons y l ih =>
    unfold insertRaised at h
    split at h
    · rcases List.mem_cons.1 h with rfl | h
      · simp
      · rcases ih h with h | h <;> simp [h]
    · simpa using h
theorem mem_sortRaised {x : Raised} {l : List Raised} (h : x ∈ l.foldr insertRaised []) : x ∈ l := by
  induction l with
  | nil => simp at h
  | cons y l ih => rcases mem_insertRaised h with h | h <;> simp [h, ih]
theorem nestAll_kept {o s : State} {l : List Raised} (h : Kept o s) (hl : ∀ r ∈ l, 1 ≤ r.cls ∧ r.cls ≤ 3) :
    Kept o (l.foldl State.nest s) := by
  induction l generalizing s with
  | nil => exact h
  | cons r l ih => exact ih (State.nest_kept h (hl r (by simp))) fun x hx => hl x (by simp [hx])
theorem State.settle_kept {o s : State} {n : ℕ} (h : Kept o s) : Kept o (s.settle n) := by
  induction n generalizing s with
  | zero => exact h
  | succ n ih =>
    obtain ⟨n1, n2, n3, n4, n5⟩ := h.flt
    exact ite_kept h (ih (nestAll_kept (h.updF ⟨n1, n2, by simp, n4, n5⟩) fun r hr => n3 r (mem_sortRaised hr)))

theorem State.startCanary_kept {o : State} {s_0 : State} {t_1 : ℕ} {why_2 : CanaryWhy} {after_3 : ℕ} (h0 : Kept o s_0) :
    Kept o (@State.startCanary s_0 t_1 why_2 after_3) := by
  unfold State.startCanary
  repeat' (first
    | with_reducible first | assumption | refine State.takeTine_kept ?_
    | (extract_lets +onlyGivenNames x; first
      | (refine cutS (o := o) (x := x) ?_ (fun _ => ?_) <;> [subst x; clear_value x])
      | (refine cutP (o := o) (x := x) ?_ (fun _ => ?_) <;> [subst x; clear_value x])
      | (refine cutF (o := o) (x := x) ?_ (fun _ => ?_) <;> [subst x; clear_value x])
      | skip)
    | with_reducible refine Kept.same ?_ rfl
    | dsimp only)

theorem State.startFour_kept {o : State} {s_0 : State} {t_1 : ℕ} {why_2 : CanaryWhy} (h0 : Kept o s_0) :
    Kept o (@State.startFour s_0 t_1 why_2) := by
  unfold State.startFour
  repeat' (first
    | with_reducible first | assumption | refine foldState_kept ?_ ?_ | refine State.startCanary_kept ?_
    | dsimp only
    | (intro _))

theorem State.ringCanary_kept {o : State} {s_0 : State} (h0 : Kept o s_0) :
    Kept o (@State.ringCanary s_0) := by
  unfold State.ringCanary
  repeat' (first
    | with_reducible first | assumption | refine State.bump_kept ?_ | refine State.startCanary_kept ?_
    | (extract_lets +onlyGivenNames x; first
      | (refine cutS (o := o) (x := x) ?_ (fun _ => ?_) <;> [subst x; clear_value x])
      | (refine cutP (o := o) (x := x) ?_ (fun _ => ?_) <;> [subst x; clear_value x])
      | (refine cutF (o := o) (x := x) ?_ (fun _ => ?_) <;> [subst x; clear_value x])
      | skip)
    | split
    | with_reducible refine Kept.same ?_ rfl
    | dsimp only
    | (intro _))

theorem State.dueCanaries_kept {o : State} {s_0 : State} {a__internal_hyg0_1 : ℕ} (h0 : Kept o s_0) :
    Kept o (@State.dueCanaries s_0 a__internal_hyg0_1) := by
  induction a__internal_hyg0_1 generalizing s_0 with
  | zero =>
    unfold State.dueCanaries
    repeat' (first
      | with_reducible first | assumption | refine State.ringCanary_kept ?_ | refine ih ?_
      | split
      | with_reducible refine Kept.same ?_ rfl
      | dsimp only
      | (intro _))
  | succ n ih =>
    unfold State.dueCanaries
    repeat' (first
      | with_reducible first | assumption | refine State.ringCanary_kept ?_ | refine ih ?_
      | split
      | with_reducible refine Kept.same ?_ rfl
      | dsimp only
      | (intro _))

theorem State.startDue_kept {o : State} {s_0 : State} (h0 : Kept o s_0) :
    Kept o (@State.startDue s_0) := by
  unfold State.startDue
  repeat' (first
    | with_reducible first | assumption | refine foldl_kept ?_ (fun _ _ _ => ?_) | refine State.startFour_kept ?_ | refine ite_kept ?_ ?_ | refine Kept.same ?_ rfl
    | dsimp only
    | (intro _))

theorem State.settled_kept {o : State} {s_0 : State} (h0 : Kept o s_0) :
    Kept o (@State.settled s_0) := by
  unfold State.settled
  repeat' (first
    | with_reducible first | assumption | refine State.settle_kept ?_ | refine State.bandwidth_kept ?_ | refine State.takeBoard_kept ?_ | refine State.startDue_kept ?_ | refine State.dueCanaries_kept ?_
    | (extract_lets +onlyGivenNames x; first
      | (refine cutS (o := o) (x := x) ?_ (fun _ => ?_) <;> [subst x; clear_value x])
      | (refine cutP (o := o) (x := x) ?_ (fun _ => ?_) <;> [subst x; clear_value x])
      | (refine cutF (o := o) (x := x) ?_ (fun _ => ?_) <;> [subst x; clear_value x])
      | skip)
    | with_reducible first | refine ite_kept ?_ ?_ | refine Kept.same ?_ rfl
    | dsimp only)

theorem State.done_kept {o : State} {s_0 : State} (h0 : Kept o s_0) :
    KeptOut o (@State.done s_0) := by
  unfold State.done
  repeat' (first
    | with_reducible first | assumption | refine KeptOut.next ?_ | refine State.settled_kept ?_
    | dsimp only)

end Sys2Proof.Machine
end

