-- ==== Sys2Proof/Laws/KeptTransport.lean ====
section
/-! SUPPORT. What every command keeps, through ingress, delivery and the tine instructions. -/

namespace Sys2Proof.Machine

set_option linter.all false
set_option maxRecDepth 4000

theorem State.freeCells_kept {o : State} {s_0 : State} {r_1 : Req} (h0 : Kept o s_0) :
    Kept o (@State.freeCells s_0 r_1) := by
  unfold State.freeCells
  repeat' (first
    | with_reducible first | assumption | refine State.creditBack_kept ?_
    | split
    | with_reducible refine Kept.same ?_ rfl
    | dsimp only)

theorem State.dropReq_kept {o : State} {s_0 : State} {id_1 : ℕ} (h0 : Kept o s_0) :
    Kept o (@State.dropReq s_0 id_1) := by
  unfold State.dropReq
  repeat' (first
    | with_reducible first | assumption | refine Kept.same ?_ rfl
    | dsimp only
    | (intro _))

theorem State.mapReq_kept {o : State} {s_0 : State} {id_1 : ℕ} {f_2 : Req → Req} (h0 : Kept o s_0) :
    Kept o (@State.mapReq s_0 id_1 f_2) := by
  unfold State.mapReq
  repeat' (first
    | with_reducible first | assumption | refine ite_kept ?_ ?_ | refine Kept.same ?_ rfl
    | dsimp only
    | (intro _))

theorem State.setPlace_kept {o : State} {s_0 : State} {id_1 : ℕ} {pl_2 : ReqPlace} (h0 : Kept o s_0) :
    Kept o (@State.setPlace s_0 id_1 pl_2) := by
  unfold State.setPlace
  repeat' (first
    | with_reducible first | assumption | refine State.mapReq_kept ?_ | refine Kept.same ?_ rfl
    | dsimp only
    | (intro _))

theorem State.answerHere_kept {o : State} {s_0 : State} {r_1 : Req} {code_2 : ℕ} {detail_3 : ℕ} (h0 : Kept o s_0) :
    Kept o (@State.answerHere s_0 r_1 code_2 detail_3) := by
  unfold State.answerHere
  repeat' (first
    | with_reducible first | assumption | refine State.answer_kept ?_ | refine State.freeCells_kept ?_
    | dsimp only)

theorem State.takeTokens_kept {o : State} {s_0 : State} {p_1 : PortId} {r_2 : Req} (h0 : Kept o s_0) :
    Kept o (@State.takeTokens s_0 p_1 r_2) := by
  unfold State.takeTokens
  repeat' (first
    | with_reducible assumption
    | (extract_lets +onlyGivenNames x; first
      | (refine cutS (o := o) (x := x) ?_ (fun _ => ?_) <;> [subst x; clear_value x])
      | (refine cutP (o := o) (x := x) ?_ (fun _ => ?_) <;> [subst x; clear_value x])
      | (refine cutF (o := o) (x := x) ?_ (fun _ => ?_) <;> [subst x; clear_value x])
      | skip)
    | with_reducible first | refine ite_kept ?_ ?_ | refine Kept.same ?_ rfl
    | dsimp only)

theorem State.mergeKicks_kept {o : State} {s_0 : State} {r_1 : Req} (h0 : Kept o s_0) :
    Kept o (@State.mergeKicks s_0 r_1).2 := by
  unfold State.mergeKicks
  repeat' (first
    | with_reducible first | assumption | refine foldl_kept ?_ (fun _ _ _ => ?_) | refine State.setPlace_kept ?_ | refine State.freeCells_kept ?_ | refine State.mapReq_kept ?_
    | (extract_lets +onlyGivenNames x; first
      | (refine cutS (o := o) (x := x) ?_ (fun _ => ?_) <;> [subst x; clear_value x])
      | (refine cutP (o := o) (x := x) ?_ (fun _ => ?_) <;> [subst x; clear_value x])
      | (refine cutF (o := o) (x := x) ?_ (fun _ => ?_) <;> [subst x; clear_value x])
      | skip)
    | split
    | with_reducible refine Kept.same ?_ rfl
    | dsimp only
    | (intro _))
theorem State.mergeKicks_eq {o : State} {s_0 : State} {r_1 : Req} {v0 : Req} {t : State} (e : @State.mergeKicks s_0 r_1 = (v0, t)) (h0 : Kept o s_0) : Kept o t := by
  have h : Kept o (@State.mergeKicks s_0 r_1).2 := State.mergeKicks_kept h0
  rw [e] at h; exact h

theorem State.goOn_kept {o : State} {s0_0 : State} {r0_1 : Req} (h0 : Kept o s0_0) :
    Kept o (@State.goOn s0_0 r0_1) := by
  unfold State.goOn
  repeat' (first
    | with_reducible first | assumption | refine State.mergeKicks_kept ?_ | refine State.mergeKicks_eq (by assumption) ?_ | refine State.answerHere_kept ?_ | refine State.setPlace_kept ?_ | refine State.freeCells_kept ?_ | refine State.forward_kept ?_ | refine State.contribAnswer_kept ?_ ?_ | refine State.serveContrib_kept ?_ | refine State.answer_kept ?_ | refine State.homeArrive_kept ?_
    | (extract_lets +onlyGivenNames x; first
      | (refine cutS (o := o) (x := x) ?_ (fun _ => ?_) <;> [subst x; clear_value x])
      | (refine cutP (o := o) (x := x) ?_ (fun _ => ?_) <;> [subst x; clear_value x])
      | (refine cutF (o := o) (x := x) ?_ (fun _ => ?_) <;> [subst x; clear_value x])
      | skip)
    | with_reducible refine ite_kept ?_ ?_
    | split
    | with_reducible refine Kept.same ?_ rfl
    | dsimp only)

theorem State.tryOrder_kept {o : State} {s_0 : State} {id_1 : ℕ} (h0 : Kept o s_0) :
    Kept o (@State.tryOrder s_0 id_1) := by
  unfold State.tryOrder
  repeat' (first
    | with_reducible first | assumption | refine State.goOn_kept ?_ | refine ite_kept ?_ ?_
    | split
    | with_reducible refine Kept.same ?_ rfl
    | dsimp only
    | (intro _))

theorem State.tryRate_kept {o : State} {s_0 : State} {id_1 : ℕ} (h0 : Kept o s_0) :
    Kept o (@State.tryRate s_0 id_1) := by
  unfold State.tryRate
  repeat' (first
    | with_reducible first | assumption | refine State.takeTokens_kept ?_ | refine State.setPlace_kept ?_
    | (extract_lets +onlyGivenNames x; first
      | (refine cutS (o := o) (x := x) ?_ (fun _ => ?_) <;> [subst x; clear_value x])
      | (refine cutP (o := o) (x := x) ?_ (fun _ => ?_) <;> [subst x; clear_value x])
      | (refine cutF (o := o) (x := x) ?_ (fun _ => ?_) <;> [subst x; clear_value x])
      | skip)
    | with_reducible refine ite_kept ?_ ?_
    | split
    | with_reducible refine Kept.same ?_ rfl
    | dsimp only
    | (intro _))

theorem State.advance_kept {o : State} {s_0 : State} {src_1 : Half} (h0 : Kept o s_0) :
    Kept o (@State.advance s_0 src_1) := by
  unfold State.advance
  repeat' (first
    | with_reducible first | assumption | refine foldl_kept ?_ (fun _ _ _ => ?_) | refine State.tryOrder_kept ?_ | refine State.tryRate_kept ?_
    | (extract_lets +onlyGivenNames x; first
      | (refine cutS (o := o) (x := x) ?_ (fun _ => ?_) <;> [subst x; clear_value x])
      | (refine cutP (o := o) (x := x) ?_ (fun _ => ?_) <;> [subst x; clear_value x])
      | (refine cutF (o := o) (x := x) ?_ (fun _ => ?_) <;> [subst x; clear_value x])
      | skip)
    | dsimp only
    | (intro _))

theorem State.fencesGo_kept {o : State} {s_0 : State} (h0 : Kept o s_0) :
    Kept o (@State.fencesGo s_0) := by
  unfold State.fencesGo
  repeat' (first
    | with_reducible first | assumption | refine foldl_kept ?_ (fun _ _ _ => ?_) | refine State.advance_kept ?_
    | dsimp only
    | (intro _))

theorem State.unboundEvent_kept {o : State} {s_0 : State} {p_1 : PortId} (h0 : Kept o s_0) :
    Kept o (@State.unboundEvent s_0 p_1) := by
  unfold State.unboundEvent
  repeat' (first
    | with_reducible first | assumption | refine State.emit_kept ?_
    | (extract_lets +onlyGivenNames x; first
      | (refine cutS (o := o) (x := x) ?_ (fun _ => ?_) <;> [subst x; clear_value x])
      | (refine cutP (o := o) (x := x) ?_ (fun _ => ?_) <;> [subst x; clear_value x])
      | (refine cutF (o := o) (x := x) ?_ (fun _ => ?_) <;> [subst x; clear_value x])
      | skip)
    | with_reducible first | refine ite_kept ?_ ?_ | refine Kept.same ?_ rfl
    | dsimp only
    | (intro _))

theorem State.track_kept {o : State} {s_0 : State} {r_1 : Req} (h0 : Kept o s_0) :
    Kept o (@State.track s_0 r_1) := by
  unfold State.track
  repeat' (first
    | with_reducible first | assumption | refine Kept.same ?_ rfl
    | dsimp only)

theorem State.enter_kept {o : State} {s_0 : State} {r0_1 : Req} (h0 : Kept o s_0) :
    Kept o (@State.enter s_0 r0_1) := by
  unfold State.enter
  repeat' (first
    | with_reducible first | assumption | refine State.track_kept ?_ | refine State.answerHere_kept ?_ | refine State.takePsn_kept ?_ | refine State.takePsn_eq (by assumption) ?_ | refine State.mapReq_kept ?_ | refine State.advance_kept ?_ | refine State.bump_kept ?_
    | (extract_lets +onlyGivenNames x; first
      | (refine cutS (o := o) (x := x) ?_ (fun _ => ?_) <;> [subst x; clear_value x])
      | (refine cutP (o := o) (x := x) ?_ (fun _ => ?_) <;> [subst x; clear_value x])
      | (refine cutF (o := o) (x := x) ?_ (fun _ => ?_) <;> [subst x; clear_value x])
      | skip)
    | with_reducible refine ite_kept ?_ ?_
    | split
    | with_reducible first | refine pairEq (by assumption) ?_ | refine Kept.same ?_ rfl
    | dsimp only
    | (intro _))

theorem State.ingress_kept {o : State} {s_0 : State} {sender_1 : Sender} {op_2 : ReqOp} {a_3 : ReqHdr} {payload_4 : List Byte} (h0 : Kept o s_0) :
    Kept o (@State.ingress s_0 sender_1 op_2 a_3 payload_4) := by
  unfold State.ingress
  repeat' (first
    | with_reducible first | assumption | refine State.emit_kept ?_ | refine State.freeCells_kept ?_ | refine State.answerHere_kept ?_ | refine State.unboundEvent_kept ?_ | refine State.track_kept ?_ | refine State.enter_kept ?_
    | (extract_lets +onlyGivenNames x; first
      | (refine cutS (o := o) (x := x) ?_ (fun _ => ?_) <;> [subst x; clear_value x])
      | (refine cutP (o := o) (x := x) ?_ (fun _ => ?_) <;> [subst x; clear_value x])
      | (refine cutF (o := o) (x := x) ?_ (fun _ => ?_) <;> [subst x; clear_value x])
      | skip)
    | with_reducible refine ite_kept ?_ ?_
    | split
    | with_reducible refine Kept.same ?_ rfl
    | dsimp only
    | (intro _))

theorem State.loseFrame_kept {o : State} {s_0 : State} {p_1 : PortId} {herd_2 : ℕ} {cls_3 : ℕ} {n_4 : ℕ} (h0 : Kept o s_0) :
    Kept o (@State.loseFrame s_0 p_1 herd_2 cls_3 n_4) := by
  unfold State.loseFrame
  repeat' (first
    | with_reducible first | assumption | refine State.creditBack_kept ?_ | refine State.tally_kept ?_ | refine State.bump_kept ?_
    | dsimp only)

theorem State.passOn_kept {o : State} {s_0 : State} {p_1 : PortId} {b_2 : FrameBody} (h0 : Kept o s_0) :
    Kept o (@State.passOn s_0 p_1 b_2) := by
  unfold State.passOn
  repeat' (first
    | with_reducible first | assumption | refine State.loseFrame_kept ?_ | refine State.creditBack_kept ?_ | refine State.bump_kept ?_ | refine State.enqueue_kept ?_
    | (extract_lets +onlyGivenNames x; first
      | (refine cutS (o := o) (x := x) ?_ (fun _ => ?_) <;> [subst x; clear_value x])
      | (refine cutP (o := o) (x := x) ?_ (fun _ => ?_) <;> [subst x; clear_value x])
      | (refine cutF (o := o) (x := x) ?_ (fun _ => ?_) <;> [subst x; clear_value x])
      | skip)
    | with_reducible refine ite_kept ?_ ?_
    | split
    | with_reducible refine Kept.same ?_ rfl
    | dsimp only)

theorem State.transit_kept {o : State} {s_0 : State} {p_1 : PortId} {op_2 : ReqOp} {a_3 : ReqHdr} {payload_4 : List Byte} (h0 : Kept o s_0) :
    Kept o (@State.transit s_0 p_1 op_2 a_3 payload_4) := by
  unfold State.transit
  repeat' (first
    | with_reducible first | assumption | refine State.creditBack_kept ?_ | refine State.bump_kept ?_ | refine State.answer_kept ?_ | refine State.homeArrive_kept ?_ | refine State.send_kept ?_ | refine State.passOn_kept ?_
    | (extract_lets +onlyGivenNames x; first
      | (refine cutS (o := o) (x := x) ?_ (fun _ => ?_) <;> [subst x; clear_value x])
      | (refine cutP (o := o) (x := x) ?_ (fun _ => ?_) <;> [subst x; clear_value x])
      | (refine cutF (o := o) (x := x) ?_ (fun _ => ?_) <;> [subst x; clear_value x])
      | skip)
    | with_reducible refine ite_kept ?_ ?_
    | split
    | with_reducible refine Kept.same ?_ rfl
    | dsimp only)

theorem State.request_kept {o : State} {s_0 : State} {row_1 : ReqOp} {f_2 : ReqFrame} (h0 : Kept o s_0) :
    Kept o (@State.request s_0 row_1 f_2) := by
  unfold State.request
  repeat' (first
    | with_reducible first | assumption | refine State.ingress_kept ?_ | refine State.linkReceive_kept ?_ | refine State.linkReceive_eq (by assumption) ?_ | refine State.tally_kept ?_ | refine State.traceFrame_kept ?_ | refine State.emit_kept ?_ | refine State.creditBack_kept ?_ | refine State.transit_kept ?_
    | (extract_lets +onlyGivenNames x; first
      | (refine cutS (o := o) (x := x) ?_ (fun _ => ?_) <;> [subst x; clear_value x])
      | (refine cutP (o := o) (x := x) ?_ (fun _ => ?_) <;> [subst x; clear_value x])
      | (refine cutF (o := o) (x := x) ?_ (fun _ => ?_) <;> [subst x; clear_value x])
      | skip)
    | with_reducible refine ite_kept ?_ ?_
    | split
    | with_reducible refine Kept.same ?_ rfl
    | dsimp only)

theorem State.setWindow_kept {o : State} {s_0 : State} {src_1 : ℕ} {dst_2 : ℕ} {lf_3 : ℕ} (h0 : Kept o s_0) :
    Kept o (@State.setWindow s_0 src_1 dst_2 lf_3) := by
  unfold State.setWindow
  repeat' (first
    | with_reducible assumption
    | (extract_lets +onlyGivenNames x; first
      | (refine cutS (o := o) (x := x) ?_ (fun _ => ?_) <;> [subst x; clear_value x])
      | (refine cutP (o := o) (x := x) ?_ (fun _ => ?_) <;> [subst x; clear_value x])
      | (refine cutF (o := o) (x := x) ?_ (fun _ => ?_) <;> [subst x; clear_value x])
      | skip)
    | with_reducible refine Kept.same ?_ rfl
    | dsimp only)

theorem State.scopeAdd_kept {o : State} {s_0 : State} {cid_1 : ℕ} {ev_2 : ℕ} {k_3 : ℕ} (h0 : Kept o s_0) :
    Kept o (@State.scopeAdd s_0 cid_1 ev_2 k_3) := by
  unfold State.scopeAdd
  repeat' (first
    | with_reducible first | assumption | refine State.setCmd_kept ?_
    | split
    | with_reducible refine Kept.same ?_ rfl
    | dsimp only)

theorem State.fillAnswer_kept {o : State} {s_0 : State} {t_1 : ℕ} {a_2 : ℕ} {tag_3 : ℕ} {code_4 : ℕ} {data_5 : List Byte} (h0 : Kept o s_0) :
    Kept o (@State.fillAnswer s_0 t_1 a_2 tag_3 code_4 data_5) := by
  unfold State.fillAnswer
  repeat' (first
    | with_reducible first | assumption | refine State.endThread_kept ?_ | refine State.setThread_kept ?_ | refine State.setTine_kept ?_
    | (extract_lets +onlyGivenNames x; first
      | (refine cutS (o := o) (x := x) ?_ (fun _ => ?_) <;> [subst x; clear_value x])
      | (refine cutP (o := o) (x := x) ?_ (fun _ => ?_) <;> [subst x; clear_value x])
      | (refine cutF (o := o) (x := x) ?_ (fun _ => ?_) <;> [subst x; clear_value x])
      | skip)
    | with_reducible first | refine ite_kept ?_ ?_ | refine Kept.same ?_ rfl
    | dsimp only
    | (intro _))

theorem State.tineAnswer_kept {o : State} {s_0 : State} {t_1 : ℕ} {a_2 : ℕ} {tag_3 : ℕ} {code_4 : ℕ} {data_5 : List Byte} (h0 : Kept o s_0) :
    Kept o (@State.tineAnswer s_0 t_1 a_2 tag_3 code_4 data_5) := by
  unfold State.tineAnswer
  repeat' (first
    | with_reducible first | assumption | refine State.fillAnswer_kept ?_ | refine State.setTine_kept ?_ | refine State.writeSram_kept ?_ | refine State.setThread_kept ?_ | refine State.scopeAdd_kept ?_ | refine State.tineCounts_kept ?_ | refine State.wakeTine_kept ?_
    | (extract_lets +onlyGivenNames x; first
      | (refine cutS (o := o) (x := x) ?_ (fun _ => ?_) <;> [subst x; clear_value x])
      | (refine cutP (o := o) (x := x) ?_ (fun _ => ?_) <;> [subst x; clear_value x])
      | (refine cutF (o := o) (x := x) ?_ (fun _ => ?_) <;> [subst x; clear_value x])
      | skip)
    | with_reducible refine ite_kept ?_ ?_
    | split
    | with_reducible refine Kept.same ?_ rfl
    | dsimp only
    | (intro _))

theorem State.unitAnswer_kept {o : State} {s_0 : State} {cid_1 : ℕ} {addr_2 : ℕ} {code_3 : ℕ} {store_4 : Bool} {data_5 : List Byte} (h0 : Kept o s_0) :
    Kept o (@State.unitAnswer s_0 cid_1 addr_2 code_3 store_4 data_5) := by
  unfold State.unitAnswer
  repeat' (first
    | with_reducible first | assumption | refine State.setCmd_kept ?_
    | (extract_lets +onlyGivenNames x; first
      | (refine cutS (o := o) (x := x) ?_ (fun _ => ?_) <;> [subst x; clear_value x])
      | (refine cutP (o := o) (x := x) ?_ (fun _ => ?_) <;> [subst x; clear_value x])
      | (refine cutF (o := o) (x := x) ?_ (fun _ => ?_) <;> [subst x; clear_value x])
      | skip)
    | with_reducible refine ite_kept ?_ ?_
    | split
    | with_reducible refine Kept.same ?_ rfl
    | dsimp only
    | (intro _))

theorem State.reopen_kept {o : State} {s_0 : State} {r_1 : Option Req} (h0 : Kept o s_0) :
    Kept o (@State.reopen s_0 r_1) := by
  unfold State.reopen
  repeat' (first
    | with_reducible assumption
    | split
    | with_reducible refine Kept.same ?_ rfl
    | dsimp only)

theorem State.respOut_kept {o : State} {s_0 : State} {r_1 : Req} {p_2 : PortId} {m_3 : RespMsg} (h0 : Kept o s_0) :
    Kept o (@State.respOut s_0 r_1 p_2 m_3) := by
  unfold State.respOut
  repeat' (first
    | with_reducible first | assumption | refine State.sendResp_kept ?_ | refine State.reopen_kept ?_
    | (extract_lets +onlyGivenNames x; first
      | (refine cutS (o := o) (x := x) ?_ (fun _ => ?_) <;> [subst x; clear_value x])
      | (refine cutP (o := o) (x := x) ?_ (fun _ => ?_) <;> [subst x; clear_value x])
      | (refine cutF (o := o) (x := x) ?_ (fun _ => ?_) <;> [subst x; clear_value x])
      | skip)
    | with_reducible refine ite_kept ?_ ?_
    | split
    | with_reducible refine Kept.same ?_ rfl
    | dsimp only
    | (intro _))

theorem State.collAnswer_kept {o : State} {s_0 : State} {r_1 : Req} {code_2 : Option ℕ} (h0 : Kept o s_0) :
    Kept o (@State.collAnswer s_0 r_1 code_2) := by
  unfold State.collAnswer
  repeat' (first
    | with_reducible first | assumption | refine State.tryClose_kept ?_ | refine State.chunkDone_kept ?_ | refine State.sealedStep_kept ?_ | refine State.resultLost_kept ?_
    | (extract_lets +onlyGivenNames x; first
      | (refine cutS (o := o) (x := x) ?_ (fun _ => ?_) <;> [subst x; clear_value x])
      | (refine cutP (o := o) (x := x) ?_ (fun _ => ?_) <;> [subst x; clear_value x])
      | (refine cutF (o := o) (x := x) ?_ (fun _ => ?_) <;> [subst x; clear_value x])
      | skip)
    | with_reducible refine ite_kept ?_ ?_
    | split
    | with_reducible refine Kept.same ?_ rfl
    | dsimp only)

theorem State.giveOne_kept {o : State} {s_0 : State} {r_1 : Req} {m_2 : RespMsg} (h0 : Kept o s_0) :
    Kept o (@State.giveOne s_0 r_1 m_2) := by
  unfold State.giveOne
  repeat' (first
    | with_reducible first | assumption | refine State.dropReq_kept ?_ | refine State.freeCells_kept ?_ | refine State.respOut_kept ?_ | refine State.send_kept ?_ | refine State.tineAnswer_kept ?_ | refine State.setWindow_kept ?_ | refine State.unitAnswer_kept ?_ | refine State.collAnswer_kept ?_ | refine State.readerDone_kept ?_
    | (extract_lets +onlyGivenNames x; first
      | (refine cutS (o := o) (x := x) ?_ (fun _ => ?_) <;> [subst x; clear_value x])
      | (refine cutP (o := o) (x := x) ?_ (fun _ => ?_) <;> [subst x; clear_value x])
      | (refine cutF (o := o) (x := x) ?_ (fun _ => ?_) <;> [subst x; clear_value x])
      | skip)
    | split
    | with_reducible refine Kept.same ?_ rfl
    | dsimp only
    | (intro _))

theorem State.giveAnswer_kept {o : State} {s_0 : State} {r_1 : Req} {m_2 : RespMsg} (h0 : Kept o s_0) :
    Kept o (@State.giveAnswer s_0 r_1 m_2) := by
  unfold State.giveAnswer
  repeat' (first
    | with_reducible first | assumption | refine foldl_kept ?_ (fun _ _ _ => ?_) | refine State.giveOne_kept ?_ | refine State.endHolds_kept ?_ | refine State.release_kept ?_ | refine State.retryContribs_kept ?_ | refine State.advance_kept ?_
    | (extract_lets +onlyGivenNames x; first
      | (refine cutS (o := o) (x := x) ?_ (fun _ => ?_) <;> [subst x; clear_value x])
      | (refine cutP (o := o) (x := x) ?_ (fun _ => ?_) <;> [subst x; clear_value x])
      | (refine cutF (o := o) (x := x) ?_ (fun _ => ?_) <;> [subst x; clear_value x])
      | skip)
    | with_reducible refine Kept.same ?_ rfl
    | dsimp only
    | (intro _))

theorem State.late_kept {o : State} {s_0 : State} {herd_1 : ℕ} (h0 : Kept o s_0) :
    Kept o (@State.late s_0 herd_1) := by
  unfold State.late
  repeat' (first
    | with_reducible first | assumption | refine State.tally_kept ?_
    | dsimp only)

theorem State.deliverHome_kept {o : State} {s_0 : State} {i_1 : ℕ} {op_2 : RespOp} (h0 : Kept o s_0) :
    Kept o (@State.deliverHome s_0 i_1 op_2) := by
  unfold State.deliverHome
  repeat' (first
    | with_reducible first | assumption | refine State.bump_kept ?_ | refine State.sendResp_kept ?_ | refine State.giveAnswer_kept ?_ | refine State.late_kept ?_
    | (extract_lets +onlyGivenNames x; first
      | (refine cutS (o := o) (x := x) ?_ (fun _ => ?_) <;> [subst x; clear_value x])
      | (refine cutP (o := o) (x := x) ?_ (fun _ => ?_) <;> [subst x; clear_value x])
      | (refine cutF (o := o) (x := x) ?_ (fun _ => ?_) <;> [subst x; clear_value x])
      | skip)
    | with_reducible refine ite_kept ?_ ?_
    | split
    | with_reducible refine Kept.same ?_ rfl
    | dsimp only
    | (intro _))

theorem State.deliverPort_kept {o : State} {s_0 : State} {p_1 : PortId} {op_2 : RespOp} {h0_3 : RespHdr} {payload_4 : List Byte} (h0 : Kept o s_0) :
    Kept o (@State.deliverPort s_0 p_1 op_2 h0_3 payload_4) := by
  unfold State.deliverPort
  repeat' (first
    | with_reducible first | assumption | refine State.giveAnswer_kept ?_ | refine State.creditBack_kept ?_ | refine State.late_kept ?_ | refine State.passOn_kept ?_
    | (extract_lets +onlyGivenNames x; first
      | (refine cutS (o := o) (x := x) ?_ (fun _ => ?_) <;> [subst x; clear_value x])
      | (refine cutP (o := o) (x := x) ?_ (fun _ => ?_) <;> [subst x; clear_value x])
      | (refine cutF (o := o) (x := x) ?_ (fun _ => ?_) <;> [subst x; clear_value x])
      | skip)
    | with_reducible refine ite_kept ?_ ?_
    | split
    | with_reducible refine Kept.same ?_ rfl
    | dsimp only)

theorem State.response_kept {o : State} {s_0 : State} {op_1 : RespOp} {src_2 : RespSource} (h0 : Kept o s_0) :
    Kept o (@State.response s_0 op_1 src_2) := by
  unfold State.response
  repeat' (first
    | with_reducible first | assumption | refine State.deliverHome_kept ?_ | refine State.linkReceive_kept ?_ | refine State.linkReceive_eq (by assumption) ?_ | refine State.tally_kept ?_ | refine State.deliverPort_kept ?_ | refine State.traceFrame_kept ?_
    | (extract_lets +onlyGivenNames x; first
      | (refine cutS (o := o) (x := x) ?_ (fun _ => ?_) <;> [subst x; clear_value x])
      | (refine cutP (o := o) (x := x) ?_ (fun _ => ?_) <;> [subst x; clear_value x])
      | (refine cutF (o := o) (x := x) ?_ (fun _ => ?_) <;> [subst x; clear_value x])
      | skip)
    | with_reducible refine ite_kept ?_ ?_
    | split
    | with_reducible refine Kept.same ?_ rfl
    | dsimp only)

theorem State.lostEvent_kept {o : State} {s_0 : State} {r_1 : Req} (h0 : Kept o s_0) :
    Kept o (@State.lostEvent s_0 r_1) := by
  unfold State.lostEvent
  repeat' (first
    | with_reducible first | assumption | refine State.record_kept ?_ | refine State.raise_kept ?_
    | (extract_lets +onlyGivenNames x; first
      | (refine cutS (o := o) (x := x) ?_ (fun _ => ?_) <;> [subst x; clear_value x])
      | (refine cutP (o := o) (x := x) ?_ (fun _ => ?_) <;> [subst x; clear_value x])
      | (refine cutF (o := o) (x := x) ?_ (fun _ => ?_) <;> [subst x; clear_value x])
      | skip)
    | with_reducible first | refine ite_kept ?_ ?_ | refine Kept.same ?_ rfl
    | dsimp only
    | (intro _))

theorem State.timeOut_kept {o : State} {s_0 : State} {r_1 : Req} (h0 : Kept o s_0) :
    Kept o (@State.timeOut s_0 r_1) := by
  unfold State.timeOut
  repeat' (first
    | with_reducible first | assumption | refine State.lostEvent_kept ?_ | refine State.scopeAdd_kept ?_ | refine State.deafEvent_kept ?_ | refine State.endHolds_kept ?_ | refine State.advance_kept ?_ | refine State.collAnswer_kept ?_ | refine State.dropReq_kept ?_ | refine State.freeCells_kept ?_ | refine State.giveAnswer_kept ?_
    | (extract_lets +onlyGivenNames x; first
      | (refine cutS (o := o) (x := x) ?_ (fun _ => ?_) <;> [subst x; clear_value x])
      | (refine cutP (o := o) (x := x) ?_ (fun _ => ?_) <;> [subst x; clear_value x])
      | (refine cutF (o := o) (x := x) ?_ (fun _ => ?_) <;> [subst x; clear_value x])
      | skip)
    | with_reducible refine ite_kept ?_ ?_
    | split
    | with_reducible refine Kept.same ?_ rfl
    | dsimp only)

theorem State.loadTimeout_kept {o : State} {s_0 : State} {id_1 : ℕ} (h0 : Kept o s_0) :
    Kept o (@State.loadTimeout s_0 id_1) := by
  unfold State.loadTimeout
  repeat' (first
    | with_reducible first | assumption | refine State.deliverHome_kept ?_ | refine State.timeOut_kept ?_ | refine ite_kept ?_ ?_
    | split
    | with_reducible refine Kept.same ?_ rfl
    | dsimp only
    | (intro _))

theorem State.fetch_kept {o : State} {s_0 : State} {t_1 : TineId} {a_2 : ThreadId} {x_3 : Thread} {c_4 : Cmd} (h0 : Kept o s_0) :
    Kept o (@State.fetch s_0 t_1 a_2 x_3 c_4) := by
  unfold State.fetch
  repeat' (first
    | with_reducible first | assumption | refine State.setThread_kept ?_ | refine State.setTine_kept ?_ | refine State.enter_kept ?_
    | (extract_lets +onlyGivenNames x; first
      | (refine cutS (o := o) (x := x) ?_ (fun _ => ?_) <;> [subst x; clear_value x])
      | (refine cutP (o := o) (x := x) ?_ (fun _ => ?_) <;> [subst x; clear_value x])
      | (refine cutF (o := o) (x := x) ?_ (fun _ => ?_) <;> [subst x; clear_value x])
      | skip)
    | with_reducible refine Kept.same ?_ rfl
    | dsimp only)

theorem State.noteIssue_kept {o : State} {s_0 : State} {t_1 : ℕ} {a_2 : ℕ} {herd_3 : ℕ} {op_4 : ℕ} (h0 : Kept o s_0) :
    Kept o (@State.noteIssue s_0 t_1 a_2 herd_3 op_4).1 := by
  unfold State.noteIssue
  repeat' (first
    | with_reducible first | assumption | refine State.tally_kept ?_ | refine State.setTine_kept ?_ | refine State.scopeAdd_kept ?_
    | (extract_lets +onlyGivenNames x; first
      | (refine cutS (o := o) (x := x) ?_ (fun _ => ?_) <;> [subst x; clear_value x])
      | (refine cutP (o := o) (x := x) ?_ (fun _ => ?_) <;> [subst x; clear_value x])
      | (refine cutF (o := o) (x := x) ?_ (fun _ => ?_) <;> [subst x; clear_value x])
      | skip)
    | with_reducible refine Kept.same ?_ rfl
    | dsimp only)
theorem State.noteIssue_eq {o : State} {s_0 : State} {t_1 : ℕ} {a_2 : ℕ} {herd_3 : ℕ} {op_4 : ℕ} {t : State} {v1 : Thread} (e : @State.noteIssue s_0 t_1 a_2 herd_3 op_4 = (t, v1)) (h0 : Kept o s_0) : Kept o t := by
  have h : Kept o (@State.noteIssue s_0 t_1 a_2 herd_3 op_4).1 := State.noteIssue_kept h0
  rw [e] at h; exact h

theorem State.issueIf_kept {o : State} {s_0 : State} {t_1 : TineId} {a_2 : ThreadId} {op_3 : ℕ} {w_4 : TineWord} {ok_5 : Bool} {k_6 : State → Thread → State} (h0 : Kept o s_0) (h6 : ∀ x0 x1, Kept o x0 → Kept o (k_6 x0 x1)) :
    Kept o (@State.issueIf s_0 t_1 a_2 op_3 w_4 ok_5 k_6) := by
  unfold State.issueIf
  repeat' (first
    | with_reducible first | assumption | refine h6 _ _ ?_ | refine State.fetch_kept ?_ | refine State.noteIssue_kept ?_ | refine State.noteIssue_eq (by assumption) ?_ | refine State.endThread_kept ?_
    | (extract_lets +onlyGivenNames x; first
      | (refine cutS (o := o) (x := x) ?_ (fun _ => ?_) <;> [subst x; clear_value x])
      | (refine cutP (o := o) (x := x) ?_ (fun _ => ?_) <;> [subst x; clear_value x])
      | (refine cutF (o := o) (x := x) ?_ (fun _ => ?_) <;> [subst x; clear_value x])
      | skip)
    | with_reducible refine ite_kept ?_ ?_
    | split
    | with_reducible refine Kept.same ?_ rfl
    | dsimp only
    | (intro _))

theorem State.issue_kept {o : State} {s_0 : State} {t_1 : TineId} {a_2 : ThreadId} {op_3 : ℕ} {w_4 : TineWord} {k_5 : State → Thread → State} (h0 : Kept o s_0) (h5 : ∀ x0 x1, Kept o x0 → Kept o (k_5 x0 x1)) :
    Kept o (@State.issue s_0 t_1 a_2 op_3 w_4 k_5) := by
  unfold State.issue
  repeat' (first
    | with_reducible first | assumption | refine h5 _ _ ?_ | refine State.issueIf_kept ?_ ?_
    | dsimp only
    | (intro _))

theorem State.setRd_kept {o : State} {s_0 : State} {t_1 : TineId} {a_2 : ThreadId} {w_3 : TineWord} {x_4 : Thread} {v_5 : ℕ} (h0 : Kept o s_0) :
    Kept o (@State.setRd s_0 t_1 a_2 w_3 x_4 v_5) := by
  unfold State.setRd
  repeat' (first
    | with_reducible first | assumption | refine State.setThread_kept ?_
    | dsimp only)

theorem State.alu_kept {o : State} {s_0 : State} {t_1 : TineId} {a_2 : ThreadId} {op_3 : ℕ} {w_4 : TineWord} {f_5 : Thread → ℕ} (h0 : Kept o s_0) :
    Kept o (@State.alu s_0 t_1 a_2 op_3 w_4 f_5) := by
  unfold State.alu
  repeat' (first
    | with_reducible first | assumption | refine State.issue_kept ?_ ?_ | refine State.setRd_kept ?_
    | dsimp only
    | (intro _))

theorem State.branchIf_kept {o : State} {s_0 : State} {t_1 : TineId} {a_2 : ThreadId} {op_3 : ℕ} {w_4 : TineWord} {f_5 : Thread → Bool} (h0 : Kept o s_0) :
    Kept o (@State.branchIf s_0 t_1 a_2 op_3 w_4 f_5) := by
  unfold State.branchIf
  repeat' (first
    | with_reducible first | assumption | refine State.issue_kept ?_ ?_ | refine State.setThread_kept ?_ | refine ite_kept ?_ ?_
    | dsimp only
    | (intro _))

theorem execTNop_kept {o : State} {t_0 : TineId} {a_1 : ThreadId} {w_2 : TineWord} {s_3 : State} (h3 : Kept o s_3) :
    KeptOut o (@execTNop t_0 a_1 w_2 s_3) := by
  unfold execTNop
  repeat' (first
    | with_reducible first | assumption | refine KeptOut.next ?_ | refine State.issue_kept ?_ ?_ | refine State.setThread_kept ?_
    | dsimp only
    | (intro _))

theorem execTAdd_kept {o : State} {t_0 : TineId} {a_1 : ThreadId} {w_2 : TineWord} {s_3 : State} (h3 : Kept o s_3) :
    KeptOut o (@execTAdd t_0 a_1 w_2 s_3) := by
  unfold execTAdd
  repeat' (first
    | with_reducible first | assumption | refine KeptOut.next ?_ | refine State.alu_kept ?_
    | dsimp only
    | (intro _))

theorem execTSub_kept {o : State} {t_0 : TineId} {a_1 : ThreadId} {w_2 : TineWord} {s_3 : State} (h3 : Kept o s_3) :
    KeptOut o (@execTSub t_0 a_1 w_2 s_3) := by
  unfold execTSub
  repeat' (first
    | with_reducible first | assumption | refine KeptOut.next ?_ | refine State.alu_kept ?_
    | dsimp only
    | (intro _))

theorem execTMul_kept {o : State} {t_0 : TineId} {a_1 : ThreadId} {w_2 : TineWord} {s_3 : State} (h3 : Kept o s_3) :
    KeptOut o (@execTMul t_0 a_1 w_2 s_3) := by
  unfold execTMul
  repeat' (first
    | with_reducible first | assumption | refine KeptOut.next ?_ | refine State.alu_kept ?_
    | dsimp only
    | (intro _))

theorem execTAnd_kept {o : State} {t_0 : TineId} {a_1 : ThreadId} {w_2 : TineWord} {s_3 : State} (h3 : Kept o s_3) :
    KeptOut o (@execTAnd t_0 a_1 w_2 s_3) := by
  unfold execTAnd
  repeat' (first
    | with_reducible first | assumption | refine KeptOut.next ?_ | refine State.alu_kept ?_
    | dsimp only
    | (intro _))

theorem execTOr_kept {o : State} {t_0 : TineId} {a_1 : ThreadId} {w_2 : TineWord} {s_3 : State} (h3 : Kept o s_3) :
    KeptOut o (@execTOr t_0 a_1 w_2 s_3) := by
  unfold execTOr
  repeat' (first
    | with_reducible first | assumption | refine KeptOut.next ?_ | refine State.alu_kept ?_
    | dsimp only
    | (intro _))

theorem execTXor_kept {o : State} {t_0 : TineId} {a_1 : ThreadId} {w_2 : TineWord} {s_3 : State} (h3 : Kept o s_3) :
    KeptOut o (@execTXor t_0 a_1 w_2 s_3) := by
  unfold execTXor
  repeat' (first
    | with_reducible first | assumption | refine KeptOut.next ?_ | refine State.alu_kept ?_
    | dsimp only
    | (intro _))

theorem execTShl_kept {o : State} {t_0 : TineId} {a_1 : ThreadId} {w_2 : TineWord} {s_3 : State} (h3 : Kept o s_3) :
    KeptOut o (@execTShl t_0 a_1 w_2 s_3) := by
  unfold execTShl
  repeat' (first
    | with_reducible first | assumption | refine KeptOut.next ?_ | refine State.alu_kept ?_
    | dsimp only
    | (intro _))

theorem execTShr_kept {o : State} {t_0 : TineId} {a_1 : ThreadId} {w_2 : TineWord} {s_3 : State} (h3 : Kept o s_3) :
    KeptOut o (@execTShr t_0 a_1 w_2 s_3) := by
  unfold execTShr
  repeat' (first
    | with_reducible first | assumption | refine KeptOut.next ?_ | refine State.alu_kept ?_
    | dsimp only
    | (intro _))

theorem execTSra_kept {o : State} {t_0 : TineId} {a_1 : ThreadId} {w_2 : TineWord} {s_3 : State} (h3 : Kept o s_3) :
    KeptOut o (@execTSra t_0 a_1 w_2 s_3) := by
  unfold execTSra
  repeat' (first
    | with_reducible first | assumption | refine KeptOut.next ?_ | refine State.alu_kept ?_
    | dsimp only
    | (intro _))

theorem execTSlt_kept {o : State} {t_0 : TineId} {a_1 : ThreadId} {w_2 : TineWord} {s_3 : State} (h3 : Kept o s_3) :
    KeptOut o (@execTSlt t_0 a_1 w_2 s_3) := by
  unfold execTSlt
  repeat' (first
    | with_reducible first | assumption | refine KeptOut.next ?_ | refine State.alu_kept ?_ | refine ite_keptOut ?_ ?_ | refine ite_kept ?_ ?_
    | dsimp only
    | (intro _))

theorem execTSltu_kept {o : State} {t_0 : TineId} {a_1 : ThreadId} {w_2 : TineWord} {s_3 : State} (h3 : Kept o s_3) :
    KeptOut o (@execTSltu t_0 a_1 w_2 s_3) := by
  unfold execTSltu
  repeat' (first
    | with_reducible first | assumption | refine KeptOut.next ?_ | refine State.alu_kept ?_ | refine ite_keptOut ?_ ?_ | refine ite_kept ?_ ?_
    | dsimp only
    | (intro _))

theorem execTAddi_kept {o : State} {t_0 : TineId} {a_1 : ThreadId} {w_2 : TineWord} {s_3 : State} (h3 : Kept o s_3) :
    KeptOut o (@execTAddi t_0 a_1 w_2 s_3) := by
  unfold execTAddi
  repeat' (first
    | with_reducible first | assumption | refine KeptOut.next ?_ | refine State.alu_kept ?_
    | dsimp only
    | (intro _))

theorem execTLih_kept {o : State} {t_0 : TineId} {a_1 : ThreadId} {w_2 : TineWord} {s_3 : State} (h3 : Kept o s_3) :
    KeptOut o (@execTLih t_0 a_1 w_2 s_3) := by
  unfold execTLih
  repeat' (first
    | with_reducible first | assumption | refine KeptOut.next ?_ | refine State.alu_kept ?_
    | dsimp only
    | (intro _))

theorem execTBeq_kept {o : State} {t_0 : TineId} {a_1 : ThreadId} {w_2 : TineWord} {s_3 : State} (h3 : Kept o s_3) :
    KeptOut o (@execTBeq t_0 a_1 w_2 s_3) := by
  unfold execTBeq
  repeat' (first
    | with_reducible first | assumption | refine KeptOut.next ?_ | refine State.branchIf_kept ?_
    | dsimp only
    | (intro _))

theorem execTBne_kept {o : State} {t_0 : TineId} {a_1 : ThreadId} {w_2 : TineWord} {s_3 : State} (h3 : Kept o s_3) :
    KeptOut o (@execTBne t_0 a_1 w_2 s_3) := by
  unfold execTBne
  repeat' (first
    | with_reducible first | assumption | refine KeptOut.next ?_ | refine State.branchIf_kept ?_
    | dsimp only
    | (intro _))

theorem execTBlt_kept {o : State} {t_0 : TineId} {a_1 : ThreadId} {w_2 : TineWord} {s_3 : State} (h3 : Kept o s_3) :
    KeptOut o (@execTBlt t_0 a_1 w_2 s_3) := by
  unfold execTBlt
  repeat' (first
    | with_reducible first | assumption | refine KeptOut.next ?_ | refine State.branchIf_kept ?_
    | dsimp only
    | (intro _))

theorem execTBge_kept {o : State} {t_0 : TineId} {a_1 : ThreadId} {w_2 : TineWord} {s_3 : State} (h3 : Kept o s_3) :
    KeptOut o (@execTBge t_0 a_1 w_2 s_3) := by
  unfold execTBge
  repeat' (first
    | with_reducible first | assumption | refine KeptOut.next ?_ | refine State.branchIf_kept ?_
    | dsimp only
    | (intro _))

theorem execTJal_kept {o : State} {t_0 : TineId} {a_1 : ThreadId} {w_2 : TineWord} {s_3 : State} (h3 : Kept o s_3) :
    KeptOut o (@execTJal t_0 a_1 w_2 s_3) := by
  unfold execTJal
  repeat' (first
    | with_reducible first | assumption | refine KeptOut.next ?_ | refine State.issue_kept ?_ ?_ | refine State.setThread_kept ?_
    | dsimp only
    | (intro _))

theorem execTJr_kept {o : State} {t_0 : TineId} {a_1 : ThreadId} {w_2 : TineWord} {s_3 : State} (h3 : Kept o s_3) :
    KeptOut o (@execTJr t_0 a_1 w_2 s_3) := by
  unfold execTJr
  repeat' (first
    | with_reducible first | assumption | refine KeptOut.next ?_ | refine State.issue_kept ?_ ?_ | refine State.setThread_kept ?_ | refine Kept.same ?_ rfl
    | dsimp only
    | (intro _))

theorem execTLds_kept {o : State} {t_0 : TineId} {a_1 : ThreadId} {w_2 : TineWord} {s_3 : State} (h3 : Kept o s_3) :
    KeptOut o (@execTLds t_0 a_1 w_2 s_3) := by
  unfold execTLds
  repeat' (first
    | with_reducible first | assumption | refine KeptOut.next ?_ | refine State.issue_kept ?_ ?_ | refine State.setRd_kept ?_ | refine State.endThread_kept ?_ | refine ite_keptOut ?_ ?_ | refine ite_kept ?_ ?_
    | dsimp only
    | (intro _))

theorem execTSts_kept {o : State} {t_0 : TineId} {a_1 : ThreadId} {w_2 : TineWord} {s_3 : State} (h3 : Kept o s_3) :
    KeptOut o (@execTSts t_0 a_1 w_2 s_3) := by
  unfold execTSts
  repeat' (first
    | with_reducible first | assumption | refine KeptOut.next ?_ | refine State.issue_kept ?_ ?_ | refine State.setThread_kept ?_ | refine State.writeSram_kept ?_ | refine State.endThread_kept ?_ | refine ite_keptOut ?_ ?_ | refine ite_kept ?_ ?_
    | dsimp only
    | (intro _))

theorem execTWait_kept {o : State} {t_0 : TineId} {a_1 : ThreadId} {w_2 : TineWord} {s_3 : State} (h3 : Kept o s_3) :
    KeptOut o (@execTWait t_0 a_1 w_2 s_3) := by
  unfold execTWait
  repeat' (first
    | with_reducible first | assumption | refine KeptOut.next ?_ | refine State.issue_kept ?_ ?_ | refine State.wakeTine_kept ?_ | refine State.setThread_kept ?_ | refine Kept.same ?_ rfl
    | dsimp only
    | (intro _))

theorem execTBar_kept {o : State} {t_0 : TineId} {a_1 : ThreadId} {w_2 : TineWord} {s_3 : State} (h3 : Kept o s_3) :
    KeptOut o (@execTBar t_0 a_1 w_2 s_3) := by
  unfold execTBar
  repeat' (first
    | with_reducible first | assumption | refine KeptOut.next ?_ | refine State.issue_kept ?_ ?_ | refine State.wakeTine_kept ?_ | refine State.setThread_kept ?_ | refine Kept.same ?_ rfl
    | dsimp only
    | (intro _))

theorem execTExit_kept {o : State} {t_0 : TineId} {a_1 : ThreadId} {w_2 : TineWord} {s_3 : State} (h3 : Kept o s_3) :
    KeptOut o (@execTExit t_0 a_1 w_2 s_3) := by
  unfold execTExit
  repeat' (first
    | with_reducible first | assumption | refine KeptOut.next ?_ | refine State.issue_kept ?_ ?_ | refine State.endThread_kept ?_
    | dsimp only
    | (intro _))

theorem State.sys_kept {o : State} {s_0 : State} {t_1 : TineId} {a_2 : ThreadId} {w_3 : TineWord} {n_4 : ℕ} {k_5 : State → Thread → State} (h0 : Kept o s_0) (h5 : ∀ x0 x1, Kept o x0 → Kept o (k_5 x0 x1)) :
    Kept o (@State.sys s_0 t_1 a_2 w_3 n_4 k_5) := by
  unfold State.sys
  repeat' (first
    | with_reducible first | assumption | refine h5 _ _ ?_ | refine State.issueIf_kept ?_ ?_ | refine State.setRd_kept ?_ | refine State.fresh_kept ?_ | refine ite_kept ?_ ?_
    | dsimp only
    | (intro _))

theorem execTSysFabricTime_kept {o : State} {t_0 : TineId} {a_1 : ThreadId} {w_2 : TineWord} {s_3 : State} (h3 : Kept o s_3) :
    KeptOut o (@execTSysFabricTime t_0 a_1 w_2 s_3) := by
  unfold execTSysFabricTime
  repeat' (first
    | with_reducible first | assumption | refine KeptOut.next ?_ | refine State.sys_kept ?_ ?_ | refine State.setRd_kept ?_
    | dsimp only
    | (intro _))

theorem execTSysQuality_kept {o : State} {t_0 : TineId} {a_1 : ThreadId} {w_2 : TineWord} {s_3 : State} (h3 : Kept o s_3) :
    KeptOut o (@execTSysQuality t_0 a_1 w_2 s_3) := by
  unfold execTSysQuality
  repeat' (first
    | with_reducible first | assumption | refine KeptOut.next ?_ | refine State.sys_kept ?_ ?_ | refine State.setRd_kept ?_
    | dsimp only
    | (intro _))

theorem execTSysTineNumber_kept {o : State} {t_0 : TineId} {a_1 : ThreadId} {w_2 : TineWord} {s_3 : State} (h3 : Kept o s_3) :
    KeptOut o (@execTSysTineNumber t_0 a_1 w_2 s_3) := by
  unfold execTSysTineNumber
  repeat' (first
    | with_reducible first | assumption | refine KeptOut.next ?_ | refine State.sys_kept ?_ ?_ | refine State.setRd_kept ?_
    | dsimp only
    | (intro _))

theorem execTSysErr_kept {o : State} {t_0 : TineId} {a_1 : ThreadId} {w_2 : TineWord} {s_3 : State} (h3 : Kept o s_3) :
    KeptOut o (@execTSysErr t_0 a_1 w_2 s_3) := by
  unfold execTSysErr
  repeat' (first
    | with_reducible first | assumption | refine KeptOut.next ?_ | refine State.sys_kept ?_ ?_ | refine State.setRd_kept ?_ | refine Kept.same ?_ rfl
    | dsimp only
    | (intro _))

theorem execTSysCycleCount_kept {o : State} {t_0 : TineId} {a_1 : ThreadId} {w_2 : TineWord} {s_3 : State} (h3 : Kept o s_3) :
    KeptOut o (@execTSysCycleCount t_0 a_1 w_2 s_3) := by
  unfold execTSysCycleCount
  repeat' (first
    | with_reducible first | assumption | refine KeptOut.next ?_ | refine State.sys_kept ?_ ?_ | refine State.setRd_kept ?_
    | dsimp only
    | (intro _))

theorem State.remote_kept {o : State} {s_0 : State} {t_1 : TineId} {a_2 : ThreadId} {w_3 : TineWord} {x_4 : Thread} {o_5 : RemoteOp} (h0 : Kept o s_0) :
    Kept o (@State.remote s_0 t_1 a_2 w_3 x_4 o_5) := by
  unfold State.remote
  repeat' (first
    | with_reducible first | assumption | refine State.scopeAdd_kept ?_ | refine State.setThread_kept ?_ | refine State.setTine_kept ?_ | refine State.tally_kept ?_ | refine State.tineCounts_kept ?_ | refine State.enter_kept ?_
    | (extract_lets +onlyGivenNames x; first
      | (refine cutS (o := o) (x := x) ?_ (fun _ => ?_) <;> [subst x; clear_value x])
      | (refine cutP (o := o) (x := x) ?_ (fun _ => ?_) <;> [subst x; clear_value x])
      | (refine cutF (o := o) (x := x) ?_ (fun _ => ?_) <;> [subst x; clear_value x])
      | skip)
    | with_reducible refine ite_kept ?_ ?_
    | split
    | with_reducible refine Kept.same ?_ rfl
    | dsimp only)

theorem State.remoteIf_kept {o : State} {s_0 : State} {t_1 : TineId} {a_2 : ThreadId} {opc_3 : ℕ} {w_4 : TineWord} {ok_5 : Thread → Bool} {a_6 : Thread → ℕ} {n_7 : Thread → ℕ} {b_8 : Thread → ℕ} {m_9 : Thread → ℕ} {o_10 : State → Thread → RemoteOp} (h0 : Kept o s_0) :
    Kept o (@State.remoteIf s_0 t_1 a_2 opc_3 w_4 ok_5 a_6 n_7 b_8 m_9 o_10) := by
  unfold State.remoteIf
  repeat' (first
    | with_reducible first | assumption | refine State.issue_kept ?_ ?_ | refine State.endThread_kept ?_ | refine State.remote_kept ?_ | refine ite_kept ?_ ?_
    | dsimp only
    | (intro _))

theorem execTRld_kept {o : State} {t_0 : TineId} {a_1 : ThreadId} {w_2 : TineWord} {s_3 : State} (h3 : Kept o s_3) :
    KeptOut o (@execTRld t_0 a_1 w_2 s_3) := by
  unfold execTRld
  repeat' (first
    | with_reducible first | assumption | refine KeptOut.next ?_ | refine State.done_kept ?_ | refine State.remoteIf_kept ?_ | refine Kept.same ?_ rfl
    | dsimp only
    | (intro _))

theorem execTRst_kept {o : State} {t_0 : TineId} {a_1 : ThreadId} {w_2 : TineWord} {s_3 : State} (h3 : Kept o s_3) :
    KeptOut o (@execTRst t_0 a_1 w_2 s_3) := by
  unfold execTRst
  repeat' (first
    | with_reducible first | assumption | refine KeptOut.next ?_ | refine State.done_kept ?_ | refine State.remoteIf_kept ?_ | refine Kept.same ?_ rfl
    | dsimp only
    | (intro _))

theorem execTRpst_kept {o : State} {t_0 : TineId} {a_1 : ThreadId} {w_2 : TineWord} {s_3 : State} (h3 : Kept o s_3) :
    KeptOut o (@execTRpst t_0 a_1 w_2 s_3) := by
  unfold execTRpst
  repeat' (first
    | with_reducible first | assumption | refine KeptOut.next ?_ | refine State.done_kept ?_ | refine State.remoteIf_kept ?_ | refine Kept.same ?_ rfl
    | dsimp only
    | (intro _))

theorem execTRatom_kept {o : State} {t_0 : TineId} {a_1 : ThreadId} {w_2 : TineWord} {s_3 : State} (h3 : Kept o s_3) :
    KeptOut o (@execTRatom t_0 a_1 w_2 s_3) := by
  unfold execTRatom
  repeat' (first
    | with_reducible first | assumption | refine KeptOut.next ?_ | refine State.done_kept ?_ | refine State.remoteIf_kept ?_
    | (extract_lets +onlyGivenNames x; first
      | (refine cutS (o := o) (x := x) ?_ (fun _ => ?_) <;> [subst x; clear_value x])
      | (refine cutP (o := o) (x := x) ?_ (fun _ => ?_) <;> [subst x; clear_value x])
      | (refine cutF (o := o) (x := x) ?_ (fun _ => ?_) <;> [subst x; clear_value x])
      | skip)
    | with_reducible first | refine ite_keptOut ?_ ?_ | refine ite_kept ?_ ?_ | refine Kept.same ?_ rfl
    | dsimp only
    | (intro _))

theorem execTRpub_kept {o : State} {t_0 : TineId} {a_1 : ThreadId} {w_2 : TineWord} {s_3 : State} (h3 : Kept o s_3) :
    KeptOut o (@execTRpub t_0 a_1 w_2 s_3) := by
  unfold execTRpub
  repeat' (first
    | with_reducible first | assumption | refine KeptOut.next ?_ | refine State.done_kept ?_ | refine State.remoteIf_kept ?_ | refine Kept.same ?_ rfl
    | dsimp only
    | (intro _))

theorem execTRflush_kept {o : State} {t_0 : TineId} {a_1 : ThreadId} {w_2 : TineWord} {s_3 : State} (h3 : Kept o s_3) :
    KeptOut o (@execTRflush t_0 a_1 w_2 s_3) := by
  unfold execTRflush
  repeat' (first
    | with_reducible first | assumption | refine KeptOut.next ?_ | refine State.done_kept ?_ | refine State.remoteIf_kept ?_ | refine Kept.same ?_ rfl
    | dsimp only
    | (intro _))

theorem execTRfence_kept {o : State} {t_0 : TineId} {a_1 : ThreadId} {w_2 : TineWord} {s_3 : State} (h3 : Kept o s_3) :
    KeptOut o (@execTRfence t_0 a_1 w_2 s_3) := by
  unfold execTRfence
  repeat' (first
    | with_reducible first | assumption | refine KeptOut.next ?_ | refine State.done_kept ?_ | refine State.remoteIf_kept ?_ | refine Kept.same ?_ rfl
    | dsimp only
    | (intro _))

theorem execTRkick_kept {o : State} {t_0 : TineId} {a_1 : ThreadId} {w_2 : TineWord} {s_3 : State} (h3 : Kept o s_3) :
    KeptOut o (@execTRkick t_0 a_1 w_2 s_3) := by
  unfold execTRkick
  repeat' (first
    | with_reducible first | assumption | refine KeptOut.next ?_ | refine State.done_kept ?_ | refine State.remoteIf_kept ?_ | refine Kept.same ?_ rfl
    | dsimp only
    | (intro _))

theorem execTRcompl_kept {o : State} {t_0 : TineId} {a_1 : ThreadId} {w_2 : TineWord} {s_3 : State} (h3 : Kept o s_3) :
    KeptOut o (@execTRcompl t_0 a_1 w_2 s_3) := by
  unfold execTRcompl
  repeat' (first
    | with_reducible first | assumption | refine KeptOut.next ?_ | refine State.done_kept ?_ | refine State.remoteIf_kept ?_ | refine Kept.same ?_ rfl
    | dsimp only
    | (intro _))

theorem execTRldc_kept {o : State} {t_0 : TineId} {a_1 : ThreadId} {w_2 : TineWord} {s_3 : State} (h3 : Kept o s_3) :
    KeptOut o (@execTRldc t_0 a_1 w_2 s_3) := by
  unfold execTRldc
  repeat' (first
    | with_reducible first | assumption | refine KeptOut.next ?_ | refine State.done_kept ?_ | refine State.remoteIf_kept ?_ | refine Kept.same ?_ rfl
    | dsimp only
    | (intro _))

theorem State.toVector_kept {o : State} {s_0 : State} {t_1 : TineId} {a_2 : ThreadId} {x_3 : Thread} {busy_4 : ℕ} (h0 : Kept o s_0) :
    Kept o (@State.toVector s_0 t_1 a_2 x_3 busy_4) := by
  unfold State.toVector
  repeat' (first
    | with_reducible first | assumption | refine State.setThread_kept ?_ | refine State.scopeAdd_kept ?_ | refine State.setTine_kept ?_
    | (extract_lets +onlyGivenNames x; first
      | (refine cutS (o := o) (x := x) ?_ (fun _ => ?_) <;> [subst x; clear_value x])
      | (refine cutP (o := o) (x := x) ?_ (fun _ => ?_) <;> [subst x; clear_value x])
      | (refine cutF (o := o) (x := x) ?_ (fun _ => ?_) <;> [subst x; clear_value x])
      | skip)
    | with_reducible refine Kept.same ?_ rfl
    | dsimp only)

theorem State.vector_kept {o : State} {s_0 : State} {t_1 : TineId} {a_2 : ThreadId} {op_3 : ℕ} {w_4 : TineWord} {two_5 : Bool} {busy_6 : ℕ → ℕ} {out_7 : ℕ → ℕ} {f_8 : List ℕ → List ℕ → List ℕ → List ℕ} (h0 : Kept o s_0) :
    Kept o (@State.vector s_0 t_1 a_2 op_3 w_4 two_5 busy_6 out_7 f_8) := by
  unfold State.vector
  repeat' (first
    | with_reducible first | assumption | refine State.issue_kept ?_ ?_ | refine State.endThread_kept ?_ | refine State.toVector_kept ?_ | refine State.writeSram_kept ?_
    | (extract_lets +onlyGivenNames x; first
      | (refine cutS (o := o) (x := x) ?_ (fun _ => ?_) <;> [subst x; clear_value x])
      | (refine cutP (o := o) (x := x) ?_ (fun _ => ?_) <;> [subst x; clear_value x])
      | (refine cutF (o := o) (x := x) ?_ (fun _ => ?_) <;> [subst x; clear_value x])
      | skip)
    | with_reducible refine ite_kept ?_ ?_
    | dsimp only
    | (intro _))

theorem execTVadd_kept {o : State} {t_0 : TineId} {a_1 : ThreadId} {w_2 : TineWord} {s_3 : State} (h3 : Kept o s_3) :
    KeptOut o (@execTVadd t_0 a_1 w_2 s_3) := by
  unfold execTVadd
  repeat' (first
    | with_reducible first | assumption | refine KeptOut.next ?_ | refine State.vector_kept ?_
    | dsimp only)

theorem execTVmul_kept {o : State} {t_0 : TineId} {a_1 : ThreadId} {w_2 : TineWord} {s_3 : State} (h3 : Kept o s_3) :
    KeptOut o (@execTVmul t_0 a_1 w_2 s_3) := by
  unfold execTVmul
  repeat' (first
    | with_reducible first | assumption | refine KeptOut.next ?_ | refine State.vector_kept ?_
    | dsimp only)

theorem execTVfma_kept {o : State} {t_0 : TineId} {a_1 : ThreadId} {w_2 : TineWord} {s_3 : State} (h3 : Kept o s_3) :
    KeptOut o (@execTVfma t_0 a_1 w_2 s_3) := by
  unfold execTVfma
  repeat' (first
    | with_reducible first | assumption | refine KeptOut.next ?_ | refine State.vector_kept ?_
    | dsimp only
    | (intro _))

theorem execTVmax_kept {o : State} {t_0 : TineId} {a_1 : ThreadId} {w_2 : TineWord} {s_3 : State} (h3 : Kept o s_3) :
    KeptOut o (@execTVmax t_0 a_1 w_2 s_3) := by
  unfold execTVmax
  repeat' (first
    | with_reducible first | assumption | refine KeptOut.next ?_ | refine State.vector_kept ?_
    | dsimp only)

theorem execTVmin_kept {o : State} {t_0 : TineId} {a_1 : ThreadId} {w_2 : TineWord} {s_3 : State} (h3 : Kept o s_3) :
    KeptOut o (@execTVmin t_0 a_1 w_2 s_3) := by
  unfold execTVmin
  repeat' (first
    | with_reducible first | assumption | refine KeptOut.next ?_ | refine State.vector_kept ?_
    | dsimp only)

theorem execTVexp2_kept {o : State} {t_0 : TineId} {a_1 : ThreadId} {w_2 : TineWord} {s_3 : State} (h3 : Kept o s_3) :
    KeptOut o (@execTVexp2 t_0 a_1 w_2 s_3) := by
  unfold execTVexp2
  repeat' (first
    | with_reducible first | assumption | refine KeptOut.next ?_ | refine State.vector_kept ?_
    | dsimp only
    | (intro _))

theorem execTVrcp_kept {o : State} {t_0 : TineId} {a_1 : ThreadId} {w_2 : TineWord} {s_3 : State} (h3 : Kept o s_3) :
    KeptOut o (@execTVrcp t_0 a_1 w_2 s_3) := by
  unfold execTVrcp
  repeat' (first
    | with_reducible first | assumption | refine KeptOut.next ?_ | refine State.vector_kept ?_
    | dsimp only
    | (intro _))

theorem execTVsum_kept {o : State} {t_0 : TineId} {a_1 : ThreadId} {w_2 : TineWord} {s_3 : State} (h3 : Kept o s_3) :
    KeptOut o (@execTVsum t_0 a_1 w_2 s_3) := by
  unfold execTVsum
  repeat' (first
    | with_reducible first | assumption | refine KeptOut.next ?_ | refine State.vector_kept ?_
    | dsimp only
    | (intro _))

theorem State.convert_kept {o : State} {s_0 : State} {t_1 : TineId} {a_2 : ThreadId} {w_3 : TineWord} (h0 : Kept o s_0) :
    Kept o (@State.convert s_0 t_1 a_2 w_3) := by
  unfold State.convert
  repeat' (first
    | with_reducible first | assumption | refine State.issue_kept ?_ ?_ | refine State.endThread_kept ?_ | refine State.writeSram_kept ?_ | refine State.setTine_kept ?_ | refine State.toVector_kept ?_ | refine State.bump_kept ?_
    | (extract_lets +onlyGivenNames x; first
      | (refine cutS (o := o) (x := x) ?_ (fun _ => ?_) <;> [subst x; clear_value x])
      | (refine cutP (o := o) (x := x) ?_ (fun _ => ?_) <;> [subst x; clear_value x])
      | (refine cutF (o := o) (x := x) ?_ (fun _ => ?_) <;> [subst x; clear_value x])
      | skip)
    | with_reducible first | refine ite_kept ?_ ?_ | refine Kept.same ?_ rfl
    | dsimp only
    | (intro _))

theorem execTVcvt_kept {o : State} {t_0 : TineId} {a_1 : ThreadId} {w_2 : TineWord} {s_3 : State} (h3 : Kept o s_3) :
    KeptOut o (@execTVcvt t_0 a_1 w_2 s_3) := by
  unfold execTVcvt
  repeat' (first
    | with_reducible first | assumption | refine KeptOut.next ?_ | refine State.convert_kept ?_
    | dsimp only)

theorem State.matrix_kept {o : State} {s_0 : State} {t_1 : TineId} {a_2 : ThreadId} {w_3 : TineWord} {zero_4 : Bool} (h0 : Kept o s_0) :
    Kept o (@State.matrix s_0 t_1 a_2 w_3 zero_4) := by
  unfold State.matrix
  repeat' (first
    | with_reducible first | assumption | refine State.issue_kept ?_ ?_ | refine State.endThread_kept ?_ | refine State.setThread_kept ?_ | refine State.writeSram_kept ?_ | refine State.scopeAdd_kept ?_ | refine State.setTine_kept ?_
    | (extract_lets +onlyGivenNames x; first
      | (refine cutS (o := o) (x := x) ?_ (fun _ => ?_) <;> [subst x; clear_value x])
      | (refine cutP (o := o) (x := x) ?_ (fun _ => ?_) <;> [subst x; clear_value x])
      | (refine cutF (o := o) (x := x) ?_ (fun _ => ?_) <;> [subst x; clear_value x])
      | skip)
    | with_reducible first | refine ite_kept ?_ ?_ | refine Kept.same ?_ rfl
    | dsimp only
    | (intro _))

theorem execTMma_kept {o : State} {t_0 : TineId} {a_1 : ThreadId} {w_2 : TineWord} {s_3 : State} (h3 : Kept o s_3) :
    KeptOut o (@execTMma t_0 a_1 w_2 s_3) := by
  unfold execTMma
  repeat' (first
    | with_reducible first | assumption | refine KeptOut.next ?_ | refine State.matrix_kept ?_
    | dsimp only)

theorem execTMmaz_kept {o : State} {t_0 : TineId} {a_1 : ThreadId} {w_2 : TineWord} {s_3 : State} (h3 : Kept o s_3) :
    KeptOut o (@execTMmaz t_0 a_1 w_2 s_3) := by
  unfold execTMmaz
  repeat' (first
    | with_reducible first | assumption | refine KeptOut.next ?_ | refine State.matrix_kept ?_
    | dsimp only)

theorem State.unitDone_kept {o : State} {s_0 : State} {t_1 : ℕ} {vec_2 : Bool} (h0 : Kept o s_0) :
    Kept o (@State.unitDone s_0 t_1 vec_2) := by
  unfold State.unitDone
  repeat' (first
    | with_reducible first | assumption | refine State.setTine_kept ?_ | refine State.setThread_kept ?_
    | (extract_lets +onlyGivenNames x; first
      | (refine cutS (o := o) (x := x) ?_ (fun _ => ?_) <;> [subst x; clear_value x])
      | (refine cutP (o := o) (x := x) ?_ (fun _ => ?_) <;> [subst x; clear_value x])
      | (refine cutF (o := o) (x := x) ?_ (fun _ => ?_) <;> [subst x; clear_value x])
      | skip)
    | with_reducible refine ite_kept ?_ ?_
    | split
    | with_reducible refine Kept.same ?_ rfl
    | dsimp only
    | (intro _))

theorem execVectorUnitDone_kept {o : State} {t_0 : TineId} {s_1 : State} (h1 : Kept o s_1) :
    KeptOut o (@execVectorUnitDone t_0 s_1) := by
  unfold execVectorUnitDone
  repeat' (first
    | with_reducible first | assumption | refine KeptOut.next ?_ | refine State.unitDone_kept ?_
    | dsimp only)

theorem execMatrixUnitDone_kept {o : State} {t_0 : TineId} {s_1 : State} (h1 : Kept o s_1) :
    KeptOut o (@execMatrixUnitDone t_0 s_1) := by
  unfold execMatrixUnitDone
  repeat' (first
    | with_reducible first | assumption | refine KeptOut.next ?_ | refine State.unitDone_kept ?_
    | dsimp only)

theorem State.setWork_kept {o : State} {s_0 : State} {cid_1 : ℕ} {f_2 : CmdWork → CmdWork} (h0 : Kept o s_0) :
    Kept o (@State.setWork s_0 cid_1 f_2) := by
  unfold State.setWork
  repeat' (first
    | with_reducible first | assumption | refine State.setCmd_kept ?_
    | split
    | with_reducible refine Kept.same ?_ rfl
    | dsimp only
    | (intro _))

theorem State.addIo_kept {o : State} {s_0 : State} {cid_1 : ℕ} {i_2 : UnitIo} (h0 : Kept o s_0) :
    Kept o (@State.addIo s_0 cid_1 i_2) := by
  unfold State.addIo
  repeat' (first
    | with_reducible first | assumption | refine State.setWork_kept ?_ | refine Kept.same ?_ rfl
    | dsimp only
    | (intro _))

theorem State.clearIo_kept {o : State} {s_0 : State} {cid_1 : ℕ} (h0 : Kept o s_0) :
    Kept o (@State.clearIo s_0 cid_1) := by
  unfold State.clearIo
  repeat' (first
    | with_reducible first | assumption | refine State.setWork_kept ?_ | refine Kept.same ?_ rfl
    | dsimp only
    | (intro _))

theorem State.directLoad_kept {o : State} {s_0 : State} {herd_1 : ℕ} {addr_2 : ℕ} {n_3 : ℕ} (h0 : Kept o s_0) :
    KeptVal o (@State.directLoad s_0 herd_1 addr_2 n_3) (fun v => v.2.2) := by
  unfold State.directLoad
  repeat' (first
    | with_reducible first | assumption | refine State.homeCount_kept ?_ | refine State.touch_kept ?_ | exact KeptVal.none | refine KeptVal.some ?_
    | (extract_lets +onlyGivenNames x; first
      | (refine cutS (o := o) (x := x) ?_ (fun _ => ?_) <;> [subst x; clear_value x])
      | (refine cutP (o := o) (x := x) ?_ (fun _ => ?_) <;> [subst x; clear_value x])
      | (refine cutF (o := o) (x := x) ?_ (fun _ => ?_) <;> [subst x; clear_value x])
      | skip)
    | with_reducible refine ite_kept ?_ ?_
    | split
    | with_reducible refine Kept.same ?_ rfl
    | dsimp only)
theorem State.directLoad_some {o : State} {s_0 : State} {herd_1 : ℕ} {addr_2 : ℕ} {n_3 : ℕ} {v0 : ℕ} {v1 : List Byte} {t : State} (e : @State.directLoad s_0 herd_1 addr_2 n_3 = some (v0, v1, t)) (h0 : Kept o s_0) : Kept o t :=
  State.directLoad_kept (o := o) h0 _ e

theorem State.directStore_kept {o : State} {s_0 : State} {herd_1 : ℕ} {addr_2 : ℕ} {bs_3 : List Byte} (h0 : Kept o s_0) :
    KeptVal o (@State.directStore s_0 herd_1 addr_2 bs_3) (fun v => v.2) := by
  unfold State.directStore
  repeat' (first
    | with_reducible first | assumption | refine State.prepareWrite_some (by assumption) ?_ | refine State.prepareWrite_kept ?_ | refine State.doorbells_kept ?_ | refine State.homeCount_kept ?_ | refine State.liftPoison_kept ?_ | refine State.writePool_kept ?_ | exact KeptVal.none | refine KeptVal.some ?_
    | (extract_lets +onlyGivenNames x; first
      | (refine cutS (o := o) (x := x) ?_ (fun _ => ?_) <;> [subst x; clear_value x])
      | (refine cutP (o := o) (x := x) ?_ (fun _ => ?_) <;> [subst x; clear_value x])
      | (refine cutF (o := o) (x := x) ?_ (fun _ => ?_) <;> [subst x; clear_value x])
      | skip)
    | with_reducible refine ite_kept ?_ ?_
    | split
    | with_reducible refine Kept.same ?_ rfl
    | dsimp only
    | (intro _))
theorem State.directStore_some {o : State} {s_0 : State} {herd_1 : ℕ} {addr_2 : ℕ} {bs_3 : List Byte} {v0 : ℕ} {t : State} (e : @State.directStore s_0 herd_1 addr_2 bs_3 = some (v0, t)) (h0 : Kept o s_0) : Kept o t :=
  State.directStore_kept (o := o) h0 _ e

theorem State.unitSend_kept {o : State} {s_0 : State} {cid_1 : ℕ} {ep_2 : ℕ} {herd_3 : ℕ} {key_4 : ℕ} {store_5 : Bool} {op_6 : ReqOp} {addr_7 : ℕ} {len_8 : ℕ} {aux_9 : ℕ} {attr_10 : ℕ} {payload_11 : List Byte} (h0 : Kept o s_0) :
    Kept o (@State.unitSend s_0 cid_1 ep_2 herd_3 key_4 store_5 op_6 addr_7 len_8 aux_9 attr_10 payload_11) := by
  unfold State.unitSend
  repeat' (first
    | with_reducible first | assumption | refine State.enter_kept ?_ | refine State.addIo_kept ?_
    | (extract_lets +onlyGivenNames x; first
      | (refine cutS (o := o) (x := x) ?_ (fun _ => ?_) <;> [subst x; clear_value x])
      | (refine cutP (o := o) (x := x) ?_ (fun _ => ?_) <;> [subst x; clear_value x])
      | (refine cutF (o := o) (x := x) ?_ (fun _ => ?_) <;> [subst x; clear_value x])
      | skip)
    | split
    | with_reducible refine Kept.same ?_ rfl
    | dsimp only)

theorem State.unitPiece_kept {o : State} {s_0 : State} {cid_1 : ℕ} {ep_2 : ℕ} {herd_3 : ℕ} {a_4 : ℕ} {n_5 : ℕ} (h0 : Kept o s_0) :
    Kept o (@State.unitPiece s_0 cid_1 ep_2 herd_3 a_4 n_5).2 := by
  unfold State.unitPiece
  repeat' (first
    | with_reducible first | assumption | refine State.directLoad_some (by assumption) ?_ | refine State.directLoad_kept ?_ | refine State.unitSend_kept ?_
    | (extract_lets +onlyGivenNames x; first
      | (refine cutS (o := o) (x := x) ?_ (fun _ => ?_) <;> [subst x; clear_value x])
      | (refine cutP (o := o) (x := x) ?_ (fun _ => ?_) <;> [subst x; clear_value x])
      | (refine cutF (o := o) (x := x) ?_ (fun _ => ?_) <;> [subst x; clear_value x])
      | skip)
    | split
    | with_reducible refine Kept.same ?_ rfl
    | dsimp only)
theorem State.unitPiece_eq {o : State} {s_0 : State} {cid_1 : ℕ} {ep_2 : ℕ} {herd_3 : ℕ} {a_4 : ℕ} {n_5 : ℕ} {v0 : Got} {t : State} (e : @State.unitPiece s_0 cid_1 ep_2 herd_3 a_4 n_5 = (v0, t)) (h0 : Kept o s_0) : Kept o t := by
  have h : Kept o (@State.unitPiece s_0 cid_1 ep_2 herd_3 a_4 n_5).2 := State.unitPiece_kept h0
  rw [e] at h; exact h

theorem State.unitPieces_kept {o : State} {s : State} {cid ep herd : ℕ} {l : List (ℕ × ℕ)} (h : Kept o s) :
    Kept o (s.unitPieces cid ep herd l).2 := by
  induction l generalizing s with
  | nil => exact h
  | cons x l ih =>
    obtain ⟨a, n⟩ := x
    have h1 := ih (State.unitPiece_kept (cid_1 := cid) (ep_2 := ep) (herd_3 := herd) (a_4 := a) (n_5 := n) h)
    simp only [State.unitPieces]
    generalize (State.unitPiece _ _ _ _ _ _).2.unitPieces _ _ _ _ = p at h1 ⊢
    split <;> exact h1
theorem State.unitPieces_eq {o : State} {s : State} {cid ep herd : ℕ} {l : List (ℕ × ℕ)} {v0 : Got} {t : State}
    (e : s.unitPieces cid ep herd l = (v0, t)) (h : Kept o s) : Kept o t := pairEq e (State.unitPieces_kept h)

theorem State.unitLoad_kept {o : State} {s_0 : State} {cid_1 : ℕ} {ep_2 : ℕ} {herd_3 : ℕ} {a_4 : ℕ} {n_5 : ℕ} (h0 : Kept o s_0) :
    Kept o (@State.unitLoad s_0 cid_1 ep_2 herd_3 a_4 n_5).2 := by
  unfold State.unitLoad
  repeat' (first
    | with_reducible first | assumption | refine State.unitPieces_kept ?_ | refine State.unitPieces_eq (by assumption) ?_ | refine ite_kept2 ?_ ?_ | refine ite_kept1 ?_ ?_ | refine ite_kept ?_ ?_
    | dsimp only)
theorem State.unitLoad_eq {o : State} {s_0 : State} {cid_1 : ℕ} {ep_2 : ℕ} {herd_3 : ℕ} {a_4 : ℕ} {n_5 : ℕ} {v0 : Got} {t : State} (e : @State.unitLoad s_0 cid_1 ep_2 herd_3 a_4 n_5 = (v0, t)) (h0 : Kept o s_0) : Kept o t := by
  have h : Kept o (@State.unitLoad s_0 cid_1 ep_2 herd_3 a_4 n_5).2 := State.unitLoad_kept h0
  rw [e] at h; exact h

theorem State.unitStorePiece_kept {o : State} {s_0 : State} {cid_1 : ℕ} {ep_2 : ℕ} {herd_3 : ℕ} {key_4 : ℕ} {a_5 : ℕ} {bs_6 : List Byte} (h0 : Kept o s_0) :
    Kept o (@State.unitStorePiece s_0 cid_1 ep_2 herd_3 key_4 a_5 bs_6) := by
  unfold State.unitStorePiece
  repeat' (first
    | with_reducible first | assumption | refine State.directStore_some (by assumption) ?_ | refine State.directStore_kept ?_ | refine State.addIo_kept ?_ | refine State.unitSend_kept ?_
    | (extract_lets +onlyGivenNames x; first
      | (refine cutS (o := o) (x := x) ?_ (fun _ => ?_) <;> [subst x; clear_value x])
      | (refine cutP (o := o) (x := x) ?_ (fun _ => ?_) <;> [subst x; clear_value x])
      | (refine cutF (o := o) (x := x) ?_ (fun _ => ?_) <;> [subst x; clear_value x])
      | skip)
    | with_reducible refine ite_kept ?_ ?_
    | split
    | with_reducible refine Kept.same ?_ rfl
    | dsimp only)

theorem State.unitStore_kept {o : State} {s_0 : State} {cid_1 : ℕ} {ep_2 : ℕ} {herd_3 : ℕ} {a_4 : ℕ} {bs_5 : List Byte} (h0 : Kept o s_0) :
    Kept o (@State.unitStore s_0 cid_1 ep_2 herd_3 a_4 bs_5) := by
  unfold State.unitStore
  repeat' (first
    | with_reducible first | assumption | refine foldl_kept ?_ (fun _ _ _ => ?_) | refine State.unitStorePiece_kept ?_
    | (extract_lets +onlyGivenNames x; first
      | (refine cutS (o := o) (x := x) ?_ (fun _ => ?_) <;> [subst x; clear_value x])
      | (refine cutP (o := o) (x := x) ?_ (fun _ => ?_) <;> [subst x; clear_value x])
      | (refine cutF (o := o) (x := x) ?_ (fun _ => ?_) <;> [subst x; clear_value x])
      | skip)
    | with_reducible refine ite_kept ?_ ?_
    | dsimp only
    | (intro _))

theorem State.setNums_kept {o : State} {s_0 : State} {cid_1 : ℕ} {l_2 : List ℕ} (h0 : Kept o s_0) :
    Kept o (@State.setNums s_0 cid_1 l_2) := by
  unfold State.setNums
  repeat' (first
    | with_reducible first | assumption | refine State.setWork_kept ?_ | refine Kept.same ?_ rfl
    | dsimp only
    | (intro _))

theorem State.setPhase_kept {o : State} {s_0 : State} {cid_1 : ℕ} {p_2 : ℕ} (h0 : Kept o s_0) :
    Kept o (@State.setPhase s_0 cid_1 p_2) := by
  unfold State.setPhase
  repeat' (first
    | with_reducible first | assumption | refine State.setWork_kept ?_ | refine Kept.same ?_ rfl
    | dsimp only
    | (intro _))

end Sys2Proof.Machine
end

