-- ==== Sys2Proof/Laws/KeptUnits.lean ====
section
/-! SUPPORT. What every command keeps, through the units and the attention engine. -/

namespace Sys2Proof.Machine

set_option linter.all false
set_option maxRecDepth 4000

theorem State.ctxWrite_kept {o : State} {s_0 : State} {c_1 : ℕ} {v_2 : ℕ} (h0 : Kept o s_0) :
    Kept o (@State.ctxWrite s_0 c_1 v_2).2 := by
  unfold State.ctxWrite
  repeat' (first
    | with_reducible first | assumption | refine State.beginStep_kept ?_ | refine State.wr_kept ?_ | refine State.setCtx_kept ?_ | refine State.closeStep_kept ?_ | refine State.retryContribs_kept ?_
    | (extract_lets +onlyGivenNames x; first
      | (refine cutS (o := o) (x := x) ?_ (fun _ => ?_) <;> [subst x; clear_value x])
      | (refine cutP (o := o) (x := x) ?_ (fun _ => ?_) <;> [subst x; clear_value x])
      | (refine cutF (o := o) (x := x) ?_ (fun _ => ?_) <;> [subst x; clear_value x])
      | skip)
    | with_reducible first | refine ite_kept2 ?_ ?_ | refine ite_kept1 ?_ ?_ | refine ite_kept ?_ ?_
    | dsimp only)
theorem State.ctxWrite_eq {o : State} {s_0 : State} {c_1 : ℕ} {v_2 : ℕ} {v0 : ℕ} {t : State} (e : @State.ctxWrite s_0 c_1 v_2 = (v0, t)) (h0 : Kept o s_0) : Kept o t := by
  have h : Kept o (@State.ctxWrite s_0 c_1 v_2).2 := State.ctxWrite_kept h0
  rw [e] at h; exact h

theorem State.memberWrite_kept {o : State} {s_0 : State} {i_1 : ℕ} {v_2 : ℕ} (h0 : Kept o s_0) :
    Kept o (@State.memberWrite s_0 i_1 v_2).2 := by
  unfold State.memberWrite
  repeat' (first
    | with_reducible first | assumption | refine State.wr_kept ?_
    | (extract_lets +onlyGivenNames x; first
      | (refine cutS (o := o) (x := x) ?_ (fun _ => ?_) <;> [subst x; clear_value x])
      | (refine cutP (o := o) (x := x) ?_ (fun _ => ?_) <;> [subst x; clear_value x])
      | (refine cutF (o := o) (x := x) ?_ (fun _ => ?_) <;> [subst x; clear_value x])
      | skip)
    | with_reducible first | refine ite_kept2 ?_ ?_ | refine ite_kept1 ?_ ?_ | refine ite_kept ?_ ?_
    | dsimp only
    | (intro _))
theorem State.memberWrite_eq {o : State} {s_0 : State} {i_1 : ℕ} {v_2 : ℕ} {v0 : ℕ} {t : State} (e : @State.memberWrite s_0 i_1 v_2 = (v0, t)) (h0 : Kept o s_0) : Kept o t := by
  have h : Kept o (@State.memberWrite s_0 i_1 v_2).2 := State.memberWrite_kept h0
  rw [e] at h; exact h

theorem State.triggerStep_kept {o : State} {s_0 : State} {c_1 : ℕ} (h0 : Kept o s_0) :
    Kept o (@State.triggerStep s_0 c_1) := by
  unfold State.triggerStep
  repeat' (first
    | with_reducible first | assumption | refine State.setStep_kept ?_ | refine foldState_kept ?_ ?_ | refine State.bump_kept ?_ | refine State.abortStep_kept ?_ | refine State.sendColl_kept ?_ | refine State.tryClose_kept ?_ | refine State.noParty_kept ?_ | refine State.tryChunks_kept ?_ | refine State.tryOpen_kept ?_
    | (extract_lets +onlyGivenNames x; first
      | (refine cutS (o := o) (x := x) ?_ (fun _ => ?_) <;> [subst x; clear_value x])
      | (refine cutP (o := o) (x := x) ?_ (fun _ => ?_) <;> [subst x; clear_value x])
      | (refine cutF (o := o) (x := x) ?_ (fun _ => ?_) <;> [subst x; clear_value x])
      | skip)
    | with_reducible refine ite_kept ?_ ?_
    | split
    | with_reducible refine Kept.same ?_ rfl
    | dsimp only
    | (intro _))

theorem State.takeAbort_kept {o : State} {s_0 : State} {c_1 : ℕ} {n_2 : ℕ} {src_3 : ℕ} {code_4 : ℕ} (h0 : Kept o s_0) :
    Kept o (@State.takeAbort s_0 c_1 n_2 src_3 code_4) := by
  unfold State.takeAbort
  repeat' (first
    | with_reducible first | assumption | refine State.abortStep_kept ?_ | refine State.closeStep_kept ?_ | refine State.sendAborts_kept ?_ | refine ite_kept ?_ ?_
    | dsimp only)

theorem State.collTrunk_kept {o : State} {s_0 : State} {p_1 : PortId} {op_2 : CollOp} {a_3 : CollHdr} {payload_4 : List Byte} (h0 : Kept o s_0) :
    Kept o (@State.collTrunk s_0 p_1 op_2 a_3 payload_4) := by
  unfold State.collTrunk
  repeat' (first
    | with_reducible first | assumption | refine State.creditBack_kept ?_ | refine State.answer_kept ?_ | refine State.noteApplied_kept ?_ | refine State.multicast_kept ?_ | refine State.multicast_eq (by assumption) ?_ | refine State.passOn_kept ?_ | refine State.partialAnswer_kept ?_ ?_ | refine State.servePartial_kept ?_ | refine State.takeAbort_kept ?_ | refine State.complete_kept ?_
    | (extract_lets +onlyGivenNames x; first
      | (refine cutS (o := o) (x := x) ?_ (fun _ => ?_) <;> [subst x; clear_value x])
      | (refine cutP (o := o) (x := x) ?_ (fun _ => ?_) <;> [subst x; clear_value x])
      | (refine cutF (o := o) (x := x) ?_ (fun _ => ?_) <;> [subst x; clear_value x])
      | skip)
    | with_reducible refine ite_kept ?_ ?_
    | split
    | with_reducible refine Kept.same ?_ rfl
    | dsimp only
    | (intro _))

theorem State.collFrame_kept {o : State} {s_0 : State} {op_1 : CollOp} {f_2 : CollFrame} (h0 : Kept o s_0) :
    Kept o (@State.collFrame s_0 op_1 f_2) := by
  unfold State.collFrame
  repeat' (first
    | with_reducible first | assumption | refine State.linkReceive_kept ?_ | refine State.linkReceive_eq (by assumption) ?_ | refine State.tally_kept ?_ | refine State.traceFrame_kept ?_ | refine State.emit_kept ?_ | refine State.creditBack_kept ?_ | refine State.collTrunk_kept ?_ | refine State.ingress_kept ?_
    | (extract_lets +onlyGivenNames x; first
      | (refine cutS (o := o) (x := x) ?_ (fun _ => ?_) <;> [subst x; clear_value x])
      | (refine cutP (o := o) (x := x) ?_ (fun _ => ?_) <;> [subst x; clear_value x])
      | (refine cutF (o := o) (x := x) ?_ (fun _ => ?_) <;> [subst x; clear_value x])
      | skip)
    | with_reducible first | refine ite_kept ?_ ?_ | refine Kept.same ?_ rfl
    | dsimp only)

theorem execCollContrib_kept {o : State} {f_0 : CollFrame} {s_1 : State} (h1 : Kept o s_1) :
    KeptOut o (@execCollContrib f_0 s_1) := by
  unfold execCollContrib
  repeat' (first
    | with_reducible first | assumption | refine KeptOut.next ?_ | refine State.done_kept ?_ | refine State.retryContribs_kept ?_ | refine State.collFrame_kept ?_
    | dsimp only)

theorem execCollPartial_kept {o : State} {f_0 : CollFrame} {s_1 : State} (h1 : Kept o s_1) :
    KeptOut o (@execCollPartial f_0 s_1) := by
  unfold execCollPartial
  repeat' (first
    | with_reducible first | assumption | refine KeptOut.next ?_ | refine State.done_kept ?_ | refine State.retryContribs_kept ?_ | refine State.collFrame_kept ?_
    | dsimp only)

theorem execCollResult_kept {o : State} {f_0 : CollFrame} {s_1 : State} (h1 : Kept o s_1) :
    KeptOut o (@execCollResult f_0 s_1) := by
  unfold execCollResult
  repeat' (first
    | with_reducible first | assumption | refine KeptOut.next ?_ | refine State.done_kept ?_ | refine State.collFrame_kept ?_
    | dsimp only)

theorem execCollAbort_kept {o : State} {f_0 : CollFrame} {s_1 : State} (h1 : Kept o s_1) :
    KeptOut o (@execCollAbort f_0 s_1) := by
  unfold execCollAbort
  repeat' (first
    | with_reducible first | assumption | refine KeptOut.next ?_ | refine State.done_kept ?_ | refine State.retryContribs_kept ?_ | refine State.collFrame_kept ?_
    | dsimp only)

theorem State.stepTimeout_kept {o : State} {s_0 : State} {c_1 : ℕ} (h0 : Kept o s_0) :
    Kept o (@State.stepTimeout s_0 c_1) := by
  unfold State.stepTimeout
  extract_lets x start
  clear_value start
  repeat' (first
    | with_reducible first | assumption | refine State.retryContribs_kept ?_ | refine State.abortStep_kept ?_
    | (extract_lets +onlyGivenNames x; first
      | (refine cutS (o := o) (x := x) ?_ (fun _ => ?_) <;> [subst x; clear_value x])
      | (refine cutP (o := o) (x := x) ?_ (fun _ => ?_) <;> [subst x; clear_value x])
      | (refine cutF (o := o) (x := x) ?_ (fun _ => ?_) <;> [subst x; clear_value x])
      | skip)
    | with_reducible refine ite_kept ?_ ?_
    | split
    | with_reducible refine Kept.same ?_ rfl
    | dsimp only)

theorem execStepTimeoutExpiry_kept {o : State} {c_0 : CtxId} {s_1 : State} (h1 : Kept o s_1) :
    KeptOut o (@execStepTimeoutExpiry c_0 s_1) := by
  unfold execStepTimeoutExpiry
  repeat' (first
    | with_reducible first | assumption | refine KeptOut.next ?_ | refine State.done_kept ?_ | refine State.stepTimeout_kept ?_
    | dsimp only)

theorem State.nodeTimeout_kept {o : State} {s_0 : State} {c_1 : ℕ} (h0 : Kept o s_0) :
    Kept o (@State.nodeTimeout s_0 c_1) := by
  unfold State.nodeTimeout
  repeat' (first
    | with_reducible first | assumption | refine State.retryContribs_kept ?_ | refine State.closeStep_kept ?_ | refine ite_kept ?_ ?_
    | split
    | with_reducible refine Kept.same ?_ rfl
    | dsimp only)

theorem execNodeStepTimeout_kept {o : State} {c_0 : CtxId} {s_1 : State} (h1 : Kept o s_1) :
    KeptOut o (@execNodeStepTimeout c_0 s_1) := by
  unfold execNodeStepTimeout
  repeat' (first
    | with_reducible first | assumption | refine KeptOut.next ?_ | refine State.done_kept ?_ | refine State.nodeTimeout_kept ?_
    | dsimp only)

theorem execEntropyHealthFail_kept {o : State} {a_0 : QuadId} {s_1 : State} (h1 : Kept o s_1) :
    KeptOut o (@execEntropyHealthFail a_0 s_1) := by
  unfold execEntropyHealthFail
  repeat' (first
    | with_reducible first | assumption | refine KeptOut.next ?_ | refine State.emit_kept ?_ | refine State.done_kept ?_ | refine foldState_kept ?_ ?_ | refine State.abortStep_kept ?_
    | (extract_lets +onlyGivenNames x; first
      | (refine cutS (o := o) (x := x) ?_ (fun _ => ?_) <;> [subst x; clear_value x])
      | (refine cutP (o := o) (x := x) ?_ (fun _ => ?_) <;> [subst x; clear_value x])
      | (refine cutF (o := o) (x := x) ?_ (fun _ => ?_) <;> [subst x; clear_value x])
      | skip)
    | with_reducible refine Kept.same ?_ rfl
    | dsimp only
    | (intro _))

theorem State.runCmd_kept {o : State} {s_0 : State} {cid_1 : ℕ} {kind_2 : ℕ} {f_3 : State → Cmd → State} (h0 : Kept o s_0) (h3 : ∀ x0 x1, Kept o x0 → Kept o (f_3 x0 x1)) :
    Kept o (@State.runCmd s_0 cid_1 kind_2 f_3) := by
  unfold State.runCmd
  repeat' (first
    | with_reducible first | assumption | refine h3 _ _ ?_ | refine ite_kept ?_ ?_
    | split
    | with_reducible refine Kept.same ?_ rfl
    | dsimp only
    | (intro _))

theorem State.contributeFrom_kept {o : State} {s : State} {cid c m n k : ℕ} (h : Kept o s) :
    Kept o (s.contributeFrom cid c m n k) := by
  induction k generalizing s with
  | zero => exact h
  | succ k ih =>
    have put : ∀ (a i : Nat) (s : State) (w : Nat), Kept o s → Kept o
        ((((s.setNums cid [i + 1, firstCode a w, 0]).clearIo cid).scopeAdd cid 10 1).contributeFrom cid c m n k) :=
      fun _ _ _ _ h => ih (State.scopeAdd_kept (State.clearIo_kept (State.setNums_kept h)))
    unfold State.contributeFrom
    split
    · exact h
    · dsimp only
      split
      · exact State.finishWith_kept h
      · split
        · rename_i e
          exact State.unitLoad_eq e h
        · rename_i e
          have h1 := State.unitLoad_eq e h
          split
          · exact put _ _ _ _ h1
          · split
            · exact put _ _ _ _ h1
            · split
              · exact ite_kept (State.setNums_kept h1) (ite_kept (put _ _ _ _ h1) h1)
              · rename_i e8
                exact put _ _ _ _ (State.contribute_kept h1 _ _ _ e8)

theorem execCollContribute_kept {o : State} {cid_0 : ℕ} {s_1 : State} (h1 : Kept o s_1) :
    KeptOut o (@execCollContribute cid_0 s_1) := by
  unfold execCollContribute
  repeat' (first
    | with_reducible first | assumption | refine KeptOut.next ?_ | refine State.done_kept ?_ | refine State.runCmd_kept ?_ ?_ | refine State.finishWith_kept ?_ | refine State.contributeFrom_kept ?_
    | (extract_lets +onlyGivenNames x; first
      | (refine cutS (o := o) (x := x) ?_ (fun _ => ?_) <;> [subst x; clear_value x])
      | (refine cutP (o := o) (x := x) ?_ (fun _ => ?_) <;> [subst x; clear_value x])
      | (refine cutF (o := o) (x := x) ?_ (fun _ => ?_) <;> [subst x; clear_value x])
      | skip)
    | split
    | with_reducible refine Kept.same ?_ rfl
    | dsimp only
    | (intro _))

theorem State.broadcastChunk_kept {o : State} {s_0 : State} {cid_1 : ℕ} {cmd_2 : Cmd} {c_3 : ℕ} {n_4 : ℕ} {i_5 : ℕ} {data_6 : List Byte} (h0 : Kept o s_0) :
    Kept o (@State.broadcastChunk s_0 cid_1 cmd_2 c_3 n_4 i_5 data_6) := by
  unfold State.broadcastChunk
  repeat' (first
    | with_reducible first | assumption | refine foldl_kept ?_ (fun _ _ _ => ?_) | refine State.takePsn_kept ?_ | refine State.takePsn_eq (by assumption) ?_ | refine State.multicast_kept ?_ | refine State.multicast_eq (by assumption) ?_ | refine State.deafEvent_kept ?_ | refine State.addIo_kept ?_
    | (extract_lets +onlyGivenNames x; first
      | (refine cutS (o := o) (x := x) ?_ (fun _ => ?_) <;> [subst x; clear_value x])
      | (refine cutP (o := o) (x := x) ?_ (fun _ => ?_) <;> [subst x; clear_value x])
      | (refine cutF (o := o) (x := x) ?_ (fun _ => ?_) <;> [subst x; clear_value x])
      | skip)
    | with_reducible first | refine ite_kept ?_ ?_ | refine Kept.same ?_ rfl
    | dsimp only
    | (intro _))

theorem State.broadcastFrom_kept {o : State} {s_0 : State} {cid_1 : ℕ} {c_2 : ℕ} {n_3 : ℕ} {a__internal_hyg0_4 : ℕ} (h0 : Kept o s_0) :
    Kept o (@State.broadcastFrom s_0 cid_1 c_2 n_3 a__internal_hyg0_4) := by
  induction a__internal_hyg0_4 generalizing s_0 cid_1 c_2 n_3 with
  | zero =>
    unfold State.broadcastFrom
    repeat' (first
      | with_reducible first | assumption | refine State.finishWith_kept ?_ | refine State.unitLoad_kept ?_ | refine State.unitLoad_eq (by assumption) ?_ | refine State.setNums_kept ?_ | refine State.broadcastChunk_kept ?_ | refine ih ?_
      | (extract_lets +onlyGivenNames x; first
        | (refine cutS (o := o) (x := x) ?_ (fun _ => ?_) <;> [subst x; clear_value x])
        | (refine cutP (o := o) (x := x) ?_ (fun _ => ?_) <;> [subst x; clear_value x])
        | (refine cutF (o := o) (x := x) ?_ (fun _ => ?_) <;> [subst x; clear_value x])
        | skip)
      | with_reducible refine ite_kept ?_ ?_
      | split
      | with_reducible refine Kept.same ?_ rfl
      | dsimp only
      | (intro _))
  | succ n ih =>
    unfold State.broadcastFrom
    repeat' (first
      | with_reducible first | assumption | refine State.finishWith_kept ?_ | refine State.unitLoad_kept ?_ | refine State.unitLoad_eq (by assumption) ?_ | refine State.setNums_kept ?_ | refine State.broadcastChunk_kept ?_ | refine ih ?_
      | (extract_lets +onlyGivenNames x; first
        | (refine cutS (o := o) (x := x) ?_ (fun _ => ?_) <;> [subst x; clear_value x])
        | (refine cutP (o := o) (x := x) ?_ (fun _ => ?_) <;> [subst x; clear_value x])
        | (refine cutF (o := o) (x := x) ?_ (fun _ => ?_) <;> [subst x; clear_value x])
        | skip)
      | with_reducible refine ite_kept ?_ ?_
      | split
      | with_reducible refine Kept.same ?_ rfl
      | dsimp only
      | (intro _))

theorem execCollBroadcast_kept {o : State} {cid_0 : ℕ} {s_1 : State} (h1 : Kept o s_1) :
    KeptOut o (@execCollBroadcast cid_0 s_1) := by
  unfold execCollBroadcast
  repeat' (first
    | with_reducible first | assumption | refine KeptOut.next ?_ | refine State.done_kept ?_ | refine State.runCmd_kept ?_ ?_ | refine State.finishWith_kept ?_ | refine State.broadcastFrom_kept ?_
    | (extract_lets +onlyGivenNames x; first
      | (refine cutS (o := o) (x := x) ?_ (fun _ => ?_) <;> [subst x; clear_value x])
      | (refine cutP (o := o) (x := x) ?_ (fun _ => ?_) <;> [subst x; clear_value x])
      | (refine cutF (o := o) (x := x) ?_ (fun _ => ?_) <;> [subst x; clear_value x])
      | skip)
    | with_reducible first | refine ite_keptOut ?_ ?_ | refine ite_kept ?_ ?_
    | dsimp only
    | (intro _))

theorem State.indexList_kept {o : State} {s_0 : State} {cid_1 : ℕ} {cmd_2 : Cmd} (h0 : Kept o s_0) :
    Kept o (@State.indexList s_0 cid_1 cmd_2).2 := by
  unfold State.indexList
  repeat' (first
    | with_reducible first | assumption | refine State.unitLoad_kept ?_ | refine State.unitLoad_eq (by assumption) ?_
    | (extract_lets +onlyGivenNames x; first
      | (refine cutS (o := o) (x := x) ?_ (fun _ => ?_) <;> [subst x; clear_value x])
      | (refine cutP (o := o) (x := x) ?_ (fun _ => ?_) <;> [subst x; clear_value x])
      | (refine cutF (o := o) (x := x) ?_ (fun _ => ?_) <;> [subst x; clear_value x])
      | skip)
    | split
    | with_reducible refine Kept.same ?_ rfl
    | dsimp only)
theorem State.indexList_eq {o : State} {s_0 : State} {cid_1 : ℕ} {cmd_2 : Cmd} {v0 : Option (ℕ × List ℕ)} {t : State} (e : @State.indexList s_0 cid_1 cmd_2 = (v0, t)) (h0 : Kept o s_0) : Kept o t := by
  have h : Kept o (@State.indexList s_0 cid_1 cmd_2).2 := State.indexList_kept h0
  rw [e] at h; exact h

theorem State.gatherFrom_kept {o : State} {s_0 : State} {cid_1 : ℕ} {a__internal_hyg0_2 : ℕ} (h0 : Kept o s_0) :
    Kept o (@State.gatherFrom s_0 cid_1 a__internal_hyg0_2) := by
  induction a__internal_hyg0_2 generalizing s_0 cid_1 with
  | zero =>
    unfold State.gatherFrom
    repeat' (first
      | with_reducible first | assumption | refine State.finishWith_kept ?_ | refine State.unitLoad_kept ?_ | refine State.unitLoad_eq (by assumption) ?_ | refine State.unitStore_kept ?_ | refine State.setNums_kept ?_ | refine ih ?_
      | (extract_lets +onlyGivenNames x; first
        | (refine cutS (o := o) (x := x) ?_ (fun _ => ?_) <;> [subst x; clear_value x])
        | (refine cutP (o := o) (x := x) ?_ (fun _ => ?_) <;> [subst x; clear_value x])
        | (refine cutF (o := o) (x := x) ?_ (fun _ => ?_) <;> [subst x; clear_value x])
        | skip)
      | with_reducible refine ite_kept ?_ ?_
      | split
      | with_reducible refine Kept.same ?_ rfl
      | dsimp only
      | (intro _))
  | succ n ih =>
    unfold State.gatherFrom
    repeat' (first
      | with_reducible first | assumption | refine State.finishWith_kept ?_ | refine State.unitLoad_kept ?_ | refine State.unitLoad_eq (by assumption) ?_ | refine State.unitStore_kept ?_ | refine State.setNums_kept ?_ | refine ih ?_
      | (extract_lets +onlyGivenNames x; first
        | (refine cutS (o := o) (x := x) ?_ (fun _ => ?_) <;> [subst x; clear_value x])
        | (refine cutP (o := o) (x := x) ?_ (fun _ => ?_) <;> [subst x; clear_value x])
        | (refine cutF (o := o) (x := x) ?_ (fun _ => ?_) <;> [subst x; clear_value x])
        | skip)
      | with_reducible refine ite_kept ?_ ?_
      | split
      | with_reducible refine Kept.same ?_ rfl
      | dsimp only
      | (intro _))

theorem State.indexed_kept {o : State} {s_0 : State} {cid_1 : ℕ} {cmd_2 : Cmd} {go_3 : State → State} (h0 : Kept o s_0) (h3 : ∀ x0, Kept o x0 → Kept o (go_3 x0)) :
    Kept o (@State.indexed s_0 cid_1 cmd_2 go_3) := by
  unfold State.indexed
  repeat' (first
    | with_reducible first | assumption | refine h3 _ ?_ | refine State.indexList_kept ?_ | refine State.indexList_eq (by assumption) ?_ | refine State.finishWith_kept ?_ | refine State.clearIo_kept ?_ | refine State.setPhase_kept ?_ | refine State.setNums_kept ?_ | refine ite_kept ?_ ?_
    | split
    | with_reducible refine Kept.same ?_ rfl
    | dsimp only
    | (intro _))

theorem execTableGather_kept {o : State} {cid_0 : ℕ} {s_1 : State} (h1 : Kept o s_1) :
    KeptOut o (@execTableGather cid_0 s_1) := by
  unfold execTableGather
  repeat' (first
    | with_reducible first | assumption | refine KeptOut.next ?_ | refine State.done_kept ?_ | refine State.runCmd_kept ?_ ?_ | refine State.indexed_kept ?_ ?_ | refine State.gatherFrom_kept ?_
    | dsimp only
    | (intro _))

theorem State.addElem_kept {o : State} {s_0 : State} {herd_1 : ℕ} {a_2 : ℕ} {v_3 : List Byte} (h0 : Kept o s_0) :
    KeptVal o (@State.addElem s_0 herd_1 a_2 v_3) (fun v => v.2) := by
  unfold State.addElem
  repeat' (first
    | with_reducible first | assumption | refine State.directLoad_some (by assumption) ?_ | refine State.directLoad_kept ?_ | refine State.directStore_some (by assumption) ?_ | refine State.directStore_kept ?_ | exact KeptVal.none | refine KeptVal.some ?_
    | (extract_lets +onlyGivenNames x; first
      | (refine cutS (o := o) (x := x) ?_ (fun _ => ?_) <;> [subst x; clear_value x])
      | (refine cutP (o := o) (x := x) ?_ (fun _ => ?_) <;> [subst x; clear_value x])
      | (refine cutF (o := o) (x := x) ?_ (fun _ => ?_) <;> [subst x; clear_value x])
      | skip)
    | with_reducible refine ite_kept ?_ ?_
    | split
    | with_reducible refine Kept.same ?_ rfl
    | dsimp only)
theorem State.addElem_some {o : State} {s_0 : State} {herd_1 : ℕ} {a_2 : ℕ} {v_3 : List Byte} {v0 : ℕ} {t : State} (e : @State.addElem s_0 herd_1 a_2 v_3 = some (v0, t)) (h0 : Kept o s_0) : Kept o t :=
  State.addElem_kept (o := o) h0 _ e

theorem State.startAdd_kept {o : State} {s_0 : State} {cid_1 : ℕ} {cmd_2 : Cmd} {a_3 : ℕ} {v_4 : ℕ} (h0 : Kept o s_0) :
    Kept o (@State.startAdd s_0 cid_1 cmd_2 a_3 v_4) := by
  unfold State.startAdd
  repeat' (first
    | with_reducible first | assumption | refine State.setWork_kept ?_ | refine State.unitSend_kept ?_
    | (extract_lets +onlyGivenNames x; first
      | (refine cutS (o := o) (x := x) ?_ (fun _ => ?_) <;> [subst x; clear_value x])
      | (refine cutP (o := o) (x := x) ?_ (fun _ => ?_) <;> [subst x; clear_value x])
      | (refine cutF (o := o) (x := x) ?_ (fun _ => ?_) <;> [subst x; clear_value x])
      | skip)
    | with_reducible refine Kept.same ?_ rfl
    | dsimp only
    | (intro _))

theorem State.swapAdd_kept {o : State} {s_0 : State} {cid_1 : ℕ} {cmd_2 : Cmd} {x_3 : HalfAdd} {old_4 : ℕ} (h0 : Kept o s_0) :
    Kept o (@State.swapAdd s_0 cid_1 cmd_2 x_3 old_4) := by
  unfold State.swapAdd
  repeat' (first
    | with_reducible first | assumption | refine State.setWork_kept ?_ | refine State.unitSend_kept ?_
    | (extract_lets +onlyGivenNames x; first
      | (refine cutS (o := o) (x := x) ?_ (fun _ => ?_) <;> [subst x; clear_value x])
      | (refine cutP (o := o) (x := x) ?_ (fun _ => ?_) <;> [subst x; clear_value x])
      | (refine cutF (o := o) (x := x) ?_ (fun _ => ?_) <;> [subst x; clear_value x])
      | skip)
    | with_reducible first | refine ite_kept ?_ ?_ | refine Kept.same ?_ rfl
    | dsimp only
    | (intro _))

theorem State.goAdd_kept {o : State} {s_0 : State} {cid_1 : ℕ} {cmd_2 : Cmd} {x_3 : HalfAdd} (h0 : Kept o s_0) :
    Kept o (@State.goAdd s_0 cid_1 cmd_2 x_3) := by
  unfold State.goAdd
  repeat' (first
    | with_reducible first | assumption | refine State.setWork_kept ?_ | refine State.addIo_kept ?_ | refine State.swapAdd_kept ?_
    | (extract_lets +onlyGivenNames x; first
      | (refine cutS (o := o) (x := x) ?_ (fun _ => ?_) <;> [subst x; clear_value x])
      | (refine cutP (o := o) (x := x) ?_ (fun _ => ?_) <;> [subst x; clear_value x])
      | (refine cutF (o := o) (x := x) ?_ (fun _ => ?_) <;> [subst x; clear_value x])
      | skip)
    | with_reducible refine ite_kept ?_ ?_
    | split
    | with_reducible refine Kept.same ?_ rfl
    | dsimp only
    | (intro _))

theorem State.goAdds_kept {o : State} {s_0 : State} {cid_1 : ℕ} (h0 : Kept o s_0) :
    Kept o (@State.goAdds s_0 cid_1) := by
  unfold State.goAdds
  repeat' (first
    | with_reducible first | assumption | refine foldl_kept ?_ (fun _ _ _ => ?_) | refine State.goAdd_kept ?_
    | split
    | with_reducible refine Kept.same ?_ rfl
    | dsimp only
    | (intro _))

theorem State.scatterRow_kept {o : State} {s_0 : State} {cid_1 : ℕ} {cmd_2 : Cmd} {a_3 : ℕ} {r_4 : ℕ} {w_5 : ℕ} {data_6 : List Byte} (h0 : Kept o s_0) :
    Kept o (@State.scatterRow s_0 cid_1 cmd_2 a_3 r_4 w_5 data_6) := by
  unfold State.scatterRow
  repeat' (first
    | with_reducible first | assumption | refine foldl_kept ?_ (fun _ _ _ => ?_) | refine State.addElem_some (by assumption) ?_ | refine State.addElem_kept ?_ | refine State.addIo_kept ?_ | refine State.unitSend_kept ?_ | refine State.startAdd_kept ?_
    | (extract_lets +onlyGivenNames x; first
      | (refine cutS (o := o) (x := x) ?_ (fun _ => ?_) <;> [subst x; clear_value x])
      | (refine cutP (o := o) (x := x) ?_ (fun _ => ?_) <;> [subst x; clear_value x])
      | (refine cutF (o := o) (x := x) ?_ (fun _ => ?_) <;> [subst x; clear_value x])
      | skip)
    | with_reducible refine ite_kept ?_ ?_
    | split
    | with_reducible refine Kept.same ?_ rfl
    | dsimp only
    | (intro _))

theorem State.scatterFrom_kept {o : State} {s_0 : State} {cid_1 : ℕ} {a__internal_hyg0_2 : ℕ} (h0 : Kept o s_0) :
    Kept o (@State.scatterFrom s_0 cid_1 a__internal_hyg0_2) := by
  induction a__internal_hyg0_2 generalizing s_0 cid_1 with
  | zero =>
    unfold State.scatterFrom
    repeat' (first
      | with_reducible first | assumption | refine State.goAdds_kept ?_ | refine State.finishWith_kept ?_ | refine State.unitLoad_kept ?_ | refine State.unitLoad_eq (by assumption) ?_ | refine State.scatterRow_kept ?_ | refine State.setNums_kept ?_ | refine ih ?_
      | (extract_lets +onlyGivenNames x; first
        | (refine cutS (o := o) (x := x) ?_ (fun _ => ?_) <;> [subst x; clear_value x])
        | (refine cutP (o := o) (x := x) ?_ (fun _ => ?_) <;> [subst x; clear_value x])
        | (refine cutF (o := o) (x := x) ?_ (fun _ => ?_) <;> [subst x; clear_value x])
        | skip)
      | with_reducible refine ite_kept ?_ ?_
      | split
      | with_reducible refine Kept.same ?_ rfl
      | dsimp only
      | (intro _))
  | succ n ih =>
    unfold State.scatterFrom
    repeat' (first
      | with_reducible first | assumption | refine State.goAdds_kept ?_ | refine State.finishWith_kept ?_ | refine State.unitLoad_kept ?_ | refine State.unitLoad_eq (by assumption) ?_ | refine State.scatterRow_kept ?_ | refine State.setNums_kept ?_ | refine ih ?_
      | (extract_lets +onlyGivenNames x; first
        | (refine cutS (o := o) (x := x) ?_ (fun _ => ?_) <;> [subst x; clear_value x])
        | (refine cutP (o := o) (x := x) ?_ (fun _ => ?_) <;> [subst x; clear_value x])
        | (refine cutF (o := o) (x := x) ?_ (fun _ => ?_) <;> [subst x; clear_value x])
        | skip)
      | with_reducible refine ite_kept ?_ ?_
      | split
      | with_reducible refine Kept.same ?_ rfl
      | dsimp only
      | (intro _))

theorem execTableScatterAdd_kept {o : State} {cid_0 : ℕ} {s_1 : State} (h1 : Kept o s_1) :
    KeptOut o (@execTableScatterAdd cid_0 s_1) := by
  unfold execTableScatterAdd
  repeat' (first
    | with_reducible first | assumption | refine KeptOut.next ?_ | refine State.done_kept ?_ | refine State.runCmd_kept ?_ ?_ | refine State.indexed_kept ?_ ?_ | refine State.scatterFrom_kept ?_
    | dsimp only
    | (intro _))

theorem State.search_kept {o : State} {s_0 : State} {cid_1 : ℕ} {herd_2 : ℕ} {r_3 : ℕ} {key_4 : ℕ} {after_5 : Option (ℕ × ℕ)} (h0 : Kept o s_0) :
    Kept o (@State.search s_0 cid_1 herd_2 r_3 key_4 after_5).2 := by
  unfold State.search
  repeat' (first
    | with_reducible first | assumption | refine State.scopeAdd_kept ?_ | refine State.searched_kept ?_
    | (extract_lets +onlyGivenNames x; first
      | (refine cutS (o := o) (x := x) ?_ (fun _ => ?_) <;> [subst x; clear_value x])
      | (refine cutP (o := o) (x := x) ?_ (fun _ => ?_) <;> [subst x; clear_value x])
      | (refine cutF (o := o) (x := x) ?_ (fun _ => ?_) <;> [subst x; clear_value x])
      | skip)
    | dsimp only)
theorem State.search_eq {o : State} {s_0 : State} {cid_1 : ℕ} {herd_2 : ℕ} {r_3 : ℕ} {key_4 : ℕ} {after_5 : Option (ℕ × ℕ)} {v0 : Answer} {t : State} (e : @State.search s_0 cid_1 herd_2 r_3 key_4 after_5 = (v0, t)) (h0 : Kept o s_0) : Kept o t := by
  have h : Kept o (@State.search s_0 cid_1 herd_2 r_3 key_4 after_5).2 := State.search_kept h0
  rw [e] at h; exact h

theorem State.filterFrom_kept {o : State} {s_0 : State} {cid_1 : ℕ} {a__internal_hyg0_2 : ℕ} (h0 : Kept o s_0) :
    Kept o (@State.filterFrom s_0 cid_1 a__internal_hyg0_2) := by
  induction a__internal_hyg0_2 generalizing s_0 cid_1 with
  | zero =>
    unfold State.filterFrom
    repeat' (first
      | with_reducible first | assumption | refine State.finishWith_kept ?_ | refine State.unitLoad_kept ?_ | refine State.unitLoad_eq (by assumption) ?_ | refine State.search_kept ?_ | refine State.search_eq (by assumption) ?_ | refine State.unitStore_kept ?_ | refine State.setNums_kept ?_ | refine ih ?_
      | (extract_lets +onlyGivenNames x; first
        | (refine cutS (o := o) (x := x) ?_ (fun _ => ?_) <;> [subst x; clear_value x])
        | (refine cutP (o := o) (x := x) ?_ (fun _ => ?_) <;> [subst x; clear_value x])
        | (refine cutF (o := o) (x := x) ?_ (fun _ => ?_) <;> [subst x; clear_value x])
        | skip)
      | with_reducible refine ite_kept ?_ ?_
      | split
      | with_reducible refine Kept.same ?_ rfl
      | dsimp only
      | (intro _))
  | succ n ih =>
    unfold State.filterFrom
    repeat' (first
      | with_reducible first | assumption | refine State.finishWith_kept ?_ | refine State.unitLoad_kept ?_ | refine State.unitLoad_eq (by assumption) ?_ | refine State.search_kept ?_ | refine State.search_eq (by assumption) ?_ | refine State.unitStore_kept ?_ | refine State.setNums_kept ?_ | refine ih ?_
      | (extract_lets +onlyGivenNames x; first
        | (refine cutS (o := o) (x := x) ?_ (fun _ => ?_) <;> [subst x; clear_value x])
        | (refine cutP (o := o) (x := x) ?_ (fun _ => ?_) <;> [subst x; clear_value x])
        | (refine cutF (o := o) (x := x) ?_ (fun _ => ?_) <;> [subst x; clear_value x])
        | skip)
      | with_reducible refine ite_kept ?_ ?_
      | split
      | with_reducible refine Kept.same ?_ rfl
      | dsimp only
      | (intro _))

theorem execTableFilter_kept {o : State} {cid_0 : ℕ} {s_1 : State} (h1 : Kept o s_1) :
    KeptOut o (@execTableFilter cid_0 s_1) := by
  unfold execTableFilter
  repeat' (first
    | with_reducible first | assumption | refine KeptOut.next ?_ | refine State.done_kept ?_ | refine State.runCmd_kept ?_ ?_ | refine State.finishWith_kept ?_ | refine State.filterFrom_kept ?_
    | (extract_lets +onlyGivenNames x; first
      | (refine cutS (o := o) (x := x) ?_ (fun _ => ?_) <;> [subst x; clear_value x])
      | (refine cutP (o := o) (x := x) ?_ (fun _ => ?_) <;> [subst x; clear_value x])
      | (refine cutF (o := o) (x := x) ?_ (fun _ => ?_) <;> [subst x; clear_value x])
      | skip)
    | with_reducible first | refine ite_keptOut ?_ ?_ | refine ite_kept ?_ ?_
    | dsimp only
    | (intro _))

theorem State.placeOn_kept {o : State} {s_0 : State} {t_1 : ℕ} {herd_2 : ℕ} {seq_3 : ℕ} {ordinal_4 : ℕ} (h0 : Kept o s_0) :
    Kept o (@State.placeOn s_0 t_1 herd_2 seq_3 ordinal_4) := by
  unfold State.placeOn
  repeat' (first
    | with_reducible first | assumption | refine State.takeTine_kept ?_ | refine State.setTine_kept ?_
    | (extract_lets +onlyGivenNames x; first
      | (refine cutS (o := o) (x := x) ?_ (fun _ => ?_) <;> [subst x; clear_value x])
      | (refine cutP (o := o) (x := x) ?_ (fun _ => ?_) <;> [subst x; clear_value x])
      | (refine cutF (o := o) (x := x) ?_ (fun _ => ?_) <;> [subst x; clear_value x])
      | skip)
    | with_reducible refine Kept.same ?_ rfl
    | dsimp only)

theorem State.attnCount_kept {o : State} {s_0 : State} {code_1 : ℕ} (h0 : Kept o s_0) :
    Kept o (@State.attnCount s_0 code_1) := by
  unfold State.attnCount
  repeat' (first
    | with_reducible first | assumption | refine State.bump_kept ?_ | refine ite_kept ?_ ?_
    | dsimp only)

theorem State.attnFinish_kept {o : State} {s_0 : State} {cid_1 : ℕ} {code_2 : ℕ} {res_3 : List ℕ} (h0 : Kept o s_0) :
    Kept o (@State.attnFinish s_0 cid_1 code_2 res_3) := by
  unfold State.attnFinish
  repeat' (first
    | with_reducible first | assumption | refine State.finishWith_kept ?_ | refine State.attnCount_kept ?_
    | dsimp only)

theorem State.walkCount_kept {o : State} {s_0 : State} {herd_1 : ℕ} {a_2 : ℕ} {j_3 : ℕ} {k_4 : ℕ} (h0 : Kept o s_0) :
    Kept o (@State.walkCount s_0 herd_1 a_2 j_3 k_4) := by
  unfold State.walkCount
  repeat' (first
    | with_reducible first | assumption | refine State.tally_kept ?_
    | dsimp only)

theorem State.walkLoad_kept {o : State} {s : State} {c : Cmd} {d a n : ℕ} {k : State → ℕ → List Byte → State}
    (hk : ∀ x i b, Kept o x → Kept o (k x i b)) (h : Kept o s) : Kept o (s.walkLoad c d a n k) := by
  unfold State.walkLoad
  split
  · rename_i e
    exact State.unitLoad_eq e h
  · rename_i e
    exact hk _ _ _ (State.unitLoad_eq e h)

theorem State.countBlocks_kept {o : State} {s_0 : State} {bs_1 : List QBlock} (h0 : Kept o s_0) :
    Kept o (@State.countBlocks s_0 bs_1) := by
  unfold State.countBlocks
  repeat' (first
    | with_reducible first | assumption | refine foldl_kept ?_ (fun _ _ _ => ?_) | refine State.bump_kept ?_
    | dsimp only
    | (intro _))

theorem State.setNum_kept {o : State} {s_0 : State} {cid_1 : ℕ} {i_2 : ℕ} {v_3 : ℕ} (h0 : Kept o s_0) :
    Kept o (@State.setNum s_0 cid_1 i_2 v_3) := by
  unfold State.setNum
  repeat' (first
    | with_reducible first | assumption | refine State.setWork_kept ?_ | refine Kept.same ?_ rfl
    | dsimp only
    | (intro _))

theorem State.decodeOut_kept {o : State} {s_0 : State} {c_1 : Cmd} {code_2 : ℕ} {w4_3 : ℕ} {w5_4 : ℕ} {out_5 : List Byte} (h0 : Kept o s_0) :
    Kept o (@State.decodeOut s_0 c_1 code_2 w4_3 w5_4 out_5) := by
  unfold State.decodeOut
  repeat' (first
    | with_reducible first | assumption | refine State.clearIo_kept ?_ | refine State.setNum_kept ?_ | refine State.unitStore_kept ?_ | refine State.setPhase_kept ?_
    | (extract_lets +onlyGivenNames x; first
      | (refine cutS (o := o) (x := x) ?_ (fun _ => ?_) <;> [subst x; clear_value x])
      | (refine cutP (o := o) (x := x) ?_ (fun _ => ?_) <;> [subst x; clear_value x])
      | (refine cutF (o := o) (x := x) ?_ (fun _ => ?_) <;> [subst x; clear_value x])
      | skip)
    | with_reducible refine ite_kept ?_ ?_
    | dsimp only)

theorem State.decodeFail_kept {o : State} {s_0 : State} {c_1 : Cmd} {code_2 : ℕ} {cause_3 : ℕ} (h0 : Kept o s_0) :
    Kept o (@State.decodeFail s_0 c_1 code_2 cause_3) := by
  unfold State.decodeFail
  repeat' (first
    | with_reducible first | assumption | refine State.decodeOut_kept ?_ | refine ite_kept ?_ ?_
    | dsimp only)

theorem State.decodeHeader_kept {o : State} {s_0 : State} {c_1 : Cmd} (h0 : Kept o s_0) :
    Kept o (@State.decodeHeader s_0 c_1) := by
  unfold State.decodeHeader
  repeat' (first
    | with_reducible first | assumption | refine State.walkLoad_kept ?_ ?_ | refine State.decodeFail_kept ?_ | refine State.setPhase_kept ?_ | refine State.clearIo_kept ?_ | refine State.setNum_kept ?_ | refine State.setWork_kept ?_
    | (extract_lets +onlyGivenNames x; first
      | (refine cutS (o := o) (x := x) ?_ (fun _ => ?_) <;> [subst x; clear_value x])
      | (refine cutP (o := o) (x := x) ?_ (fun _ => ?_) <;> [subst x; clear_value x])
      | (refine cutF (o := o) (x := x) ?_ (fun _ => ?_) <;> [subst x; clear_value x])
      | skip)
    | with_reducible first | refine ite_kept ?_ ?_ | refine Kept.same ?_ rfl
    | dsimp only
    | (intro _))

theorem State.startTask_kept {o : State} {s_0 : State} {cid_1 : ℕ} {i_2 : ℕ} (h0 : Kept o s_0) :
    Kept o (@State.startTask s_0 cid_1 i_2) := by
  unfold State.startTask
  repeat' (first
    | with_reducible first | assumption | refine State.takeTine_kept ?_ | refine State.setCmd_kept ?_ | refine State.setWork_kept ?_
    | (extract_lets +onlyGivenNames x; first
      | (refine cutS (o := o) (x := x) ?_ (fun _ => ?_) <;> [subst x; clear_value x])
      | (refine cutP (o := o) (x := x) ?_ (fun _ => ?_) <;> [subst x; clear_value x])
      | (refine cutF (o := o) (x := x) ?_ (fun _ => ?_) <;> [subst x; clear_value x])
      | skip)
    | with_reducible refine ite_kept ?_ ?_
    | split
    | with_reducible refine Kept.same ?_ rfl
    | dsimp only
    | (intro _))

theorem State.startTasks_kept {o : State} {s_0 : State} {cid_1 : ℕ} (h0 : Kept o s_0) :
    Kept o (@State.startTasks s_0 cid_1) := by
  unfold State.startTasks
  repeat' (first
    | with_reducible first | assumption | refine foldState_kept ?_ ?_ | refine State.startTask_kept ?_
    | split
    | with_reducible refine Kept.same ?_ rfl
    | dsimp only
    | (intro _))

theorem State.decodeH0_kept {o : State} {s_0 : State} {c_1 : Cmd} (h0 : Kept o s_0) :
    Kept o (@State.decodeH0 s_0 c_1) := by
  unfold State.decodeH0
  repeat' (first
    | with_reducible first | assumption | refine State.walkLoad_kept ?_ ?_ | refine State.clearIo_kept ?_ | refine State.decodeFail_kept ?_ | refine State.setWork_kept ?_ | refine State.decodeOut_kept ?_ | refine State.walkCount_kept ?_ | refine State.setNum_kept ?_ | refine State.setPhase_kept ?_
    | (extract_lets +onlyGivenNames x; first
      | (refine cutS (o := o) (x := x) ?_ (fun _ => ?_) <;> [subst x; clear_value x])
      | (refine cutP (o := o) (x := x) ?_ (fun _ => ?_) <;> [subst x; clear_value x])
      | (refine cutF (o := o) (x := x) ?_ (fun _ => ?_) <;> [subst x; clear_value x])
      | skip)
    | with_reducible first | refine ite_kept ?_ ?_ | refine Kept.same ?_ rfl
    | dsimp only
    | (intro _))

theorem State.decodeTasks_kept {o : State} {s_0 : State} {c_1 : Cmd} (h0 : Kept o s_0) :
    Kept o (@State.decodeTasks s_0 c_1) := by
  unfold State.decodeTasks
  repeat' (first
    | with_reducible first | assumption | refine State.decodeFail_kept ?_ | refine State.setWork_kept ?_ | refine State.setPhase_kept ?_ | refine State.startTasks_kept ?_ | refine ite_kept ?_ ?_
    | split
    | with_reducible refine Kept.same ?_ rfl
    | dsimp only
    | (intro _))

theorem State.decodeEnd_kept {o : State} {s_0 : State} {c_1 : Cmd} (h0 : Kept o s_0) :
    Kept o (@State.decodeEnd s_0 c_1) := by
  unfold State.decodeEnd
  repeat' (first
    | with_reducible first | assumption | refine State.decodeFail_kept ?_ | refine State.attnFinish_kept ?_ | refine ite_kept ?_ ?_
    | dsimp only)

theorem State.decodePhase_kept {o : State} {s_0 : State} {c_1 : Cmd} (h0 : Kept o s_0) :
    Kept o (@State.decodePhase s_0 c_1) := by
  unfold State.decodePhase
  repeat' (first
    | with_reducible first | assumption | refine State.walkCount_kept ?_ | refine State.decodeFail_kept ?_ | refine State.setCmd_kept ?_ | refine State.decodeH0_kept ?_ | refine State.decodeHeader_kept ?_ | refine State.decodeTasks_kept ?_ | refine State.decodeEnd_kept ?_
    | (extract_lets +onlyGivenNames x; first
      | (refine cutS (o := o) (x := x) ?_ (fun _ => ?_) <;> [subst x; clear_value x])
      | (refine cutP (o := o) (x := x) ?_ (fun _ => ?_) <;> [subst x; clear_value x])
      | (refine cutF (o := o) (x := x) ?_ (fun _ => ?_) <;> [subst x; clear_value x])
      | skip)
    | with_reducible refine ite_kept ?_ ?_
    | split
    | with_reducible refine Kept.same ?_ rfl
    | dsimp only)

theorem State.decodeGo_kept {o : State} {s_0 : State} {cid_1 : ℕ} {a__internal_hyg0_2 : ℕ} (h0 : Kept o s_0) :
    Kept o (@State.decodeGo s_0 cid_1 a__internal_hyg0_2) := by
  induction a__internal_hyg0_2 generalizing s_0 cid_1 with
  | zero =>
    unfold State.decodeGo
    repeat' (first
      | with_reducible first | assumption | refine State.decodePhase_kept ?_ | refine ih ?_ | refine ite_kept ?_ ?_
      | split
      | with_reducible refine Kept.same ?_ rfl
      | dsimp only
      | (intro _))
  | succ n ih =>
    unfold State.decodeGo
    repeat' (first
      | with_reducible first | assumption | refine State.decodePhase_kept ?_ | refine ih ?_ | refine ite_kept ?_ ?_
      | split
      | with_reducible refine Kept.same ?_ rfl
      | dsimp only
      | (intro _))

theorem execAttnDecode_kept {o : State} {cid_0 : ℕ} {s_1 : State} (h1 : Kept o s_1) :
    KeptOut o (@execAttnDecode cid_0 s_1) := by
  unfold execAttnDecode
  repeat' (first
    | with_reducible first | assumption | refine KeptOut.next ?_ | refine State.done_kept ?_ | refine State.runCmd_kept ?_ ?_ | refine State.decodeGo_kept ?_
    | dsimp only
    | (intro _))

theorem State.sectionLoad_kept {o : State} {s : State} {c : Cmd} {m a f d lo hi : ℕ}
    {k : State → ℕ → List Byte → List Byte → State}
    (hk : ∀ x i b b2, Kept o x → Kept o (k x i b b2)) (h : Kept o s) : Kept o (s.sectionLoad c m a f d lo hi k) :=
  State.walkLoad_kept (fun _ _ _ h => State.walkLoad_kept (fun _ _ _ h => hk _ _ _ _ h) h) h

theorem State.endTask_kept {o : State} {s_0 : State} {cid_1 : ℕ} {i_2 : ℕ} {code_3 : ℕ} {part_4 : List ℕ} (h0 : Kept o s_0) :
    Kept o (@State.endTask s_0 cid_1 i_2 code_3 part_4) := by
  unfold State.endTask
  repeat' (first
    | with_reducible first | assumption | refine State.decodeGo_kept ?_ | refine State.setWork_kept ?_ | refine Kept.same ?_ rfl
    | dsimp only
    | (intro _))

theorem State.copyRows_kept {o : State} {s_0 : State} {t_1 : ℕ} {base_2 : ℕ} {rows_3 : List Byte} (h0 : Kept o s_0) :
    Kept o (@State.copyRows s_0 t_1 base_2 rows_3) := by
  unfold State.copyRows
  repeat' (first
    | with_reducible first | assumption | refine State.writeSram_kept ?_
    | (extract_lets +onlyGivenNames x; first
      | (refine cutS (o := o) (x := x) ?_ (fun _ => ?_) <;> [subst x; clear_value x])
      | (refine cutP (o := o) (x := x) ?_ (fun _ => ?_) <;> [subst x; clear_value x])
      | (refine cutF (o := o) (x := x) ?_ (fun _ => ?_) <;> [subst x; clear_value x])
      | skip)
    | dsimp only
    | (intro _))

theorem State.runTask_kept {o : State} {s_0 : State} {c_1 : Cmd} {i_2 : ℕ} {k_3 : PageTask} (h0 : Kept o s_0) :
    Kept o (@State.runTask s_0 c_1 i_2 k_3) := by
  unfold State.runTask
  repeat' (first
    | with_reducible first | assumption | refine State.walkLoad_kept ?_ ?_ | refine State.sectionLoad_kept ?_ ?_ | refine State.copyRows_kept ?_ | refine State.setNum_kept ?_ | refine State.scopeAdd_kept ?_ | refine State.walkCount_kept ?_ | refine State.endTask_kept ?_ | refine State.countBlocks_kept ?_ | refine State.bump_kept ?_
    | (extract_lets +onlyGivenNames x; first
      | (refine cutS (o := o) (x := x) ?_ (fun _ => ?_) <;> [subst x; clear_value x])
      | (refine cutP (o := o) (x := x) ?_ (fun _ => ?_) <;> [subst x; clear_value x])
      | (refine cutF (o := o) (x := x) ?_ (fun _ => ?_) <;> [subst x; clear_value x])
      | skip)
    | with_reducible refine ite_kept ?_ ?_
    | split
    | with_reducible refine Kept.same ?_ rfl
    | dsimp only
    | (intro _))

theorem execPageTaskDone_kept {o : State} {cid_0 : ℕ} {task_1 : ℕ} {s_2 : State} (h2 : Kept o s_2) :
    KeptOut o (@execPageTaskDone cid_0 task_1 s_2) := by
  unfold execPageTaskDone
  repeat' (first
    | with_reducible first | assumption | refine KeptOut.next ?_ | refine State.done_kept ?_ | refine State.runCmd_kept ?_ ?_ | refine State.runTask_kept ?_ | refine ite_keptOut ?_ ?_ | refine ite_kept ?_ ?_
    | split
    | with_reducible refine Kept.same ?_ rfl
    | dsimp only
    | (intro _))

theorem State.putOwn_kept {o : State} {s_0 : State} {r_1 : OwnRec} (h0 : Kept o s_0) :
    Kept o (@State.putOwn s_0 r_1) := by
  unfold State.putOwn
  repeat' (first
    | with_reducible first | assumption | refine State.ownKept_kept ?_ | refine ite_kept ?_ ?_ | refine Kept.same ?_ rfl
    | dsimp only
    | (intro _))

theorem State.ownOp_kept {o : State} {s_0 : State} {cid_1 : ℕ} {op_2 : ℕ} {f_3 : ℕ → ℕ → ℕ → Option OwnRec → ℕ → OwnResult} (h0 : Kept o s_0) :
    Kept o (@State.ownOp s_0 cid_1 op_2 f_3) := by
  unfold State.ownOp
  repeat' (first
    | with_reducible first | assumption | refine State.runCmd_kept ?_ ?_ | refine State.attnFinish_kept ?_ | refine State.walkLoad_kept ?_ ?_ | refine State.putOwn_kept ?_ | refine State.dropOwn_kept ?_
    | (extract_lets +onlyGivenNames x; first
      | (refine cutS (o := o) (x := x) ?_ (fun _ => ?_) <;> [subst x; clear_value x])
      | (refine cutP (o := o) (x := x) ?_ (fun _ => ?_) <;> [subst x; clear_value x])
      | (refine cutF (o := o) (x := x) ?_ (fun _ => ?_) <;> [subst x; clear_value x])
      | skip)
    | with_reducible refine ite_kept ?_ ?_
    | split
    | with_reducible refine Kept.same ?_ rfl
    | dsimp only
    | (intro _))

theorem execOwnClaim_kept {o : State} {cid_0 : ℕ} {s_1 : State} (h1 : Kept o s_1) :
    KeptOut o (@execOwnClaim cid_0 s_1) := by
  unfold execOwnClaim
  repeat' (first
    | with_reducible first | assumption | refine KeptOut.next ?_ | refine State.done_kept ?_ | refine State.ownOp_kept ?_ | refine ite_keptOut ?_ ?_ | refine ite_kept ?_ ?_
    | split
    | with_reducible refine Kept.same ?_ rfl
    | dsimp only
    | (intro _))

theorem execOwnPrepare_kept {o : State} {cid_0 : ℕ} {s_1 : State} (h1 : Kept o s_1) :
    KeptOut o (@execOwnPrepare cid_0 s_1) := by
  unfold execOwnPrepare
  repeat' (first
    | with_reducible first | assumption | refine KeptOut.next ?_ | refine State.done_kept ?_ | refine State.ownOp_kept ?_ | refine ite_keptOut ?_ ?_ | refine ite_kept ?_ ?_
    | split
    | with_reducible refine Kept.same ?_ rfl
    | dsimp only
    | (intro _))

theorem execOwnCommit_kept {o : State} {cid_0 : ℕ} {s_1 : State} (h1 : Kept o s_1) :
    KeptOut o (@execOwnCommit cid_0 s_1) := by
  unfold execOwnCommit
  repeat' (first
    | with_reducible first | assumption | refine KeptOut.next ?_ | refine State.done_kept ?_ | refine State.ownOp_kept ?_ | refine ite_keptOut ?_ ?_ | refine ite_kept ?_ ?_
    | split
    | with_reducible refine Kept.same ?_ rfl
    | dsimp only
    | (intro _))

theorem execOwnAbort_kept {o : State} {cid_0 : ℕ} {s_1 : State} (h1 : Kept o s_1) :
    KeptOut o (@execOwnAbort cid_0 s_1) := by
  unfold execOwnAbort
  repeat' (first
    | with_reducible first | assumption | refine KeptOut.next ?_ | refine State.done_kept ?_ | refine State.ownOp_kept ?_ | refine ite_keptOut ?_ ?_ | refine ite_kept ?_ ?_
    | split
    | with_reducible refine Kept.same ?_ rfl
    | dsimp only
    | (intro _))

theorem execOwnRelease_kept {o : State} {cid_0 : ℕ} {s_1 : State} (h1 : Kept o s_1) :
    KeptOut o (@execOwnRelease cid_0 s_1) := by
  unfold execOwnRelease
  repeat' (first
    | with_reducible first | assumption | refine KeptOut.next ?_ | refine State.done_kept ?_ | refine State.ownOp_kept ?_ | refine ite_keptOut ?_ ?_ | refine ite_kept ?_ ?_
    | split
    | with_reducible refine Kept.same ?_ rfl
    | dsimp only
    | (intro _))

theorem execOwnForce_kept {o : State} {cid_0 : ℕ} {s_1 : State} (h1 : Kept o s_1) :
    KeptOut o (@execOwnForce cid_0 s_1) := by
  unfold execOwnForce
  repeat' (first
    | with_reducible first | assumption | refine KeptOut.next ?_ | refine State.done_kept ?_ | refine State.ownOp_kept ?_ | refine ite_keptOut ?_ ?_ | refine ite_kept ?_ ?_
    | split
    | with_reducible refine Kept.same ?_ rfl
    | dsimp only
    | (intro _))

theorem execOwnQuery_kept {o : State} {cid_0 : ℕ} {s_1 : State} (h1 : Kept o s_1) :
    KeptOut o (@execOwnQuery cid_0 s_1) := by
  unfold execOwnQuery
  repeat' (first
    | with_reducible first | assumption | refine KeptOut.next ?_ | refine State.done_kept ?_ | refine State.ownOp_kept ?_
    | dsimp only
    | (intro _))

theorem execOwnDrop_kept {o : State} {cid_0 : ℕ} {s_1 : State} (h1 : Kept o s_1) :
    KeptOut o (@execOwnDrop cid_0 s_1) := by
  unfold execOwnDrop
  repeat' (first
    | with_reducible first | assumption | refine KeptOut.next ?_ | refine State.done_kept ?_ | refine State.ownOp_kept ?_ | refine ite_keptOut ?_ ?_ | refine ite_kept ?_ ?_
    | split
    | with_reducible refine Kept.same ?_ rfl
    | dsimp only
    | (intro _))

theorem State.handoffExpiry_kept {o : State} {s_0 : State} {i_1 : ℕ} (h0 : Kept o s_0) :
    Kept o (@State.handoffExpiry s_0 i_1) := by
  unfold State.handoffExpiry
  repeat' (first
    | with_reducible first | assumption | refine State.emit_kept ?_ | refine State.bump_kept ?_ | refine State.putOwn_kept ?_
    | (extract_lets +onlyGivenNames x; first
      | (refine cutS (o := o) (x := x) ?_ (fun _ => ?_) <;> [subst x; clear_value x])
      | (refine cutP (o := o) (x := x) ?_ (fun _ => ?_) <;> [subst x; clear_value x])
      | (refine cutF (o := o) (x := x) ?_ (fun _ => ?_) <;> [subst x; clear_value x])
      | skip)
    | with_reducible refine ite_kept ?_ ?_
    | split
    | with_reducible refine Kept.same ?_ rfl
    | dsimp only)

theorem State.appendFail_kept {o : State} {s_0 : State} {c_1 : Cmd} {code_2 : ℕ} (h0 : Kept o s_0) :
    Kept o (@State.appendFail s_0 c_1 code_2) := by
  unfold State.appendFail
  repeat' (first
    | with_reducible first | assumption | refine State.directLoad_some (by assumption) ?_ | refine State.directLoad_kept ?_ | refine State.attnFinish_kept ?_
    | (extract_lets +onlyGivenNames x; first
      | (refine cutS (o := o) (x := x) ?_ (fun _ => ?_) <;> [subst x; clear_value x])
      | (refine cutP (o := o) (x := x) ?_ (fun _ => ?_) <;> [subst x; clear_value x])
      | (refine cutF (o := o) (x := x) ?_ (fun _ => ?_) <;> [subst x; clear_value x])
      | skip)
    | split
    | with_reducible refine Kept.same ?_ rfl
    | dsimp only)

theorem State.appendH0_kept {o : State} {s_0 : State} {c_1 : Cmd} (h0 : Kept o s_0) :
    Kept o (@State.appendH0 s_0 c_1) := by
  unfold State.appendH0
  repeat' (first
    | with_reducible first | assumption | refine State.walkLoad_kept ?_ ?_ | refine State.clearIo_kept ?_ | refine State.setNum_kept ?_ | refine State.appendFail_kept ?_ | refine State.setPhase_kept ?_
    | (extract_lets +onlyGivenNames x; first
      | (refine cutS (o := o) (x := x) ?_ (fun _ => ?_) <;> [subst x; clear_value x])
      | (refine cutP (o := o) (x := x) ?_ (fun _ => ?_) <;> [subst x; clear_value x])
      | (refine cutF (o := o) (x := x) ?_ (fun _ => ?_) <;> [subst x; clear_value x])
      | skip)
    | with_reducible refine ite_kept ?_ ?_
    | dsimp only
    | (intro _))

theorem State.entryWords_kept {o : State} {s : State} {c : Cmd} {h : List ℕ} {b n code : ℕ} {l : List ℕ} {acc : List Byte}
    {k : State → ℕ → List Byte → State} (hk : ∀ x i b, Kept o x → Kept o (k x i b)) (hs : Kept o s) :
    Kept o (s.entryWords c h b n l acc code k) := by
  induction l generalizing s acc code with
  | nil => exact hk _ _ _ hs
  | cons x l ih => exact State.walkLoad_kept (fun _ _ _ h => ih h) hs

theorem State.appendCheck_kept {o : State} {s_0 : State} {c_1 : Cmd} (h0 : Kept o s_0) :
    Kept o (@State.appendCheck s_0 c_1) := by
  unfold State.appendCheck
  repeat' (first
    | with_reducible first | assumption | refine State.walkLoad_kept ?_ ?_ | refine State.appendFail_kept ?_ | refine State.entryWords_kept ?_ ?_ | refine State.setPhase_kept ?_ | refine State.clearIo_kept ?_
    | (extract_lets +onlyGivenNames x; first
      | (refine cutS (o := o) (x := x) ?_ (fun _ => ?_) <;> [subst x; clear_value x])
      | (refine cutP (o := o) (x := x) ?_ (fun _ => ?_) <;> [subst x; clear_value x])
      | (refine cutF (o := o) (x := x) ?_ (fun _ => ?_) <;> [subst x; clear_value x])
      | skip)
    | with_reducible refine ite_kept ?_ ?_
    | dsimp only
    | (intro _))

theorem State.storeRow_kept {o : State} {s_0 : State} {c_1 : Cmd} {t_2 : ℕ} {f_3 : ℕ} {d_4 : ℕ} {key_5 : ℕ} {sec_6 : ℕ} {tok_7 : ℕ} {input_8 : List Byte} (h0 : Kept o s_0) :
    Kept o (@State.storeRow s_0 c_1 t_2 f_3 d_4 key_5 sec_6 tok_7 input_8) := by
  unfold State.storeRow
  repeat' (first
    | with_reducible first | assumption | refine State.unitStore_kept ?_ | refine State.countBlocks_kept ?_ | refine State.setTine_kept ?_ | refine State.unitStorePiece_kept ?_
    | (extract_lets +onlyGivenNames x; first
      | (refine cutS (o := o) (x := x) ?_ (fun _ => ?_) <;> [subst x; clear_value x])
      | (refine cutP (o := o) (x := x) ?_ (fun _ => ?_) <;> [subst x; clear_value x])
      | (refine cutF (o := o) (x := x) ?_ (fun _ => ?_) <;> [subst x; clear_value x])
      | skip)
    | with_reducible first | refine ite_kept ?_ ?_ | refine Kept.same ?_ rfl
    | dsimp only
    | (intro _))

theorem State.appendRows_kept {o : State} {s_0 : State} {cid_1 : ℕ} {a__internal_hyg0_2 : ℕ} (h0 : Kept o s_0) :
    Kept o (@State.appendRows s_0 cid_1 a__internal_hyg0_2) := by
  induction a__internal_hyg0_2 generalizing s_0 cid_1 with
  | zero =>
    unfold State.appendRows
    repeat' (first
      | with_reducible first | assumption | refine State.walkLoad_kept ?_ ?_ | refine State.appendFail_kept ?_ | refine State.setPhase_kept ?_ | refine State.setNum_kept ?_ | refine State.storeRow_kept ?_ | refine ih ?_
      | (extract_lets +onlyGivenNames x; first
        | (refine cutS (o := o) (x := x) ?_ (fun _ => ?_) <;> [subst x; clear_value x])
        | (refine cutP (o := o) (x := x) ?_ (fun _ => ?_) <;> [subst x; clear_value x])
        | (refine cutF (o := o) (x := x) ?_ (fun _ => ?_) <;> [subst x; clear_value x])
        | skip)
      | with_reducible refine ite_kept ?_ ?_
      | split
      | with_reducible refine Kept.same ?_ rfl
      | dsimp only
      | (intro _))
  | succ n ih =>
    unfold State.appendRows
    repeat' (first
      | with_reducible first | assumption | refine State.walkLoad_kept ?_ ?_ | refine State.appendFail_kept ?_ | refine State.setPhase_kept ?_ | refine State.setNum_kept ?_ | refine State.storeRow_kept ?_ | refine ih ?_
      | (extract_lets +onlyGivenNames x; first
        | (refine cutS (o := o) (x := x) ?_ (fun _ => ?_) <;> [subst x; clear_value x])
        | (refine cutP (o := o) (x := x) ?_ (fun _ => ?_) <;> [subst x; clear_value x])
        | (refine cutF (o := o) (x := x) ?_ (fun _ => ?_) <;> [subst x; clear_value x])
        | skip)
      | with_reducible refine ite_kept ?_ ?_
      | split
      | with_reducible refine Kept.same ?_ rfl
      | dsimp only
      | (intro _))

theorem State.appendPhase_kept {o : State} {s_0 : State} {c_1 : Cmd} (h0 : Kept o s_0) :
    Kept o (@State.appendPhase s_0 c_1) := by
  unfold State.appendPhase
  repeat' (first
    | with_reducible first | assumption | refine State.appendFail_kept ?_ | refine State.walkCount_kept ?_ | refine State.placeOn_kept ?_ | refine State.setNum_kept ?_ | refine State.setCmd_kept ?_ | refine State.appendH0_kept ?_ | refine State.appendCheck_kept ?_ | refine State.appendRows_kept ?_
    | (extract_lets +onlyGivenNames x; first
      | (refine cutS (o := o) (x := x) ?_ (fun _ => ?_) <;> [subst x; clear_value x])
      | (refine cutP (o := o) (x := x) ?_ (fun _ => ?_) <;> [subst x; clear_value x])
      | (refine cutF (o := o) (x := x) ?_ (fun _ => ?_) <;> [subst x; clear_value x])
      | skip)
    | with_reducible refine ite_kept ?_ ?_
    | split
    | with_reducible refine Kept.same ?_ rfl
    | dsimp only)

theorem State.appendGo_kept {o : State} {s_0 : State} {cid_1 : ℕ} {a__internal_hyg0_2 : ℕ} (h0 : Kept o s_0) :
    Kept o (@State.appendGo s_0 cid_1 a__internal_hyg0_2) := by
  induction a__internal_hyg0_2 generalizing s_0 cid_1 with
  | zero =>
    unfold State.appendGo
    repeat' (first
      | with_reducible first | assumption | refine State.appendPhase_kept ?_ | refine ih ?_ | refine ite_kept ?_ ?_
      | split
      | with_reducible refine Kept.same ?_ rfl
      | dsimp only
      | (intro _))
  | succ n ih =>
    unfold State.appendGo
    repeat' (first
      | with_reducible first | assumption | refine State.appendPhase_kept ?_ | refine ih ?_ | refine ite_kept ?_ ?_
      | split
      | with_reducible refine Kept.same ?_ rfl
      | dsimp only
      | (intro _))

theorem execAttnAppend_kept {o : State} {cid_0 : ℕ} {s_1 : State} (h1 : Kept o s_1) :
    KeptOut o (@execAttnAppend cid_0 s_1) := by
  unfold execAttnAppend
  repeat' (first
    | with_reducible first | assumption | refine KeptOut.next ?_ | refine State.done_kept ?_ | refine State.runCmd_kept ?_ ?_ | refine State.appendGo_kept ?_
    | dsimp only
    | (intro _))

theorem State.publishAppend_kept {o : State} {s_0 : State} {c_1 : Cmd} (h0 : Kept o s_0) :
    Kept o (@State.publishAppend s_0 c_1) := by
  unfold State.publishAppend
  repeat' (first
    | with_reducible first | assumption | refine State.appendFail_kept ?_ | refine State.directLoad_some (by assumption) ?_ | refine State.directLoad_kept ?_ | refine State.directStore_some (by assumption) ?_ | refine State.directStore_kept ?_
    | (extract_lets +onlyGivenNames x; first
      | (refine cutS (o := o) (x := x) ?_ (fun _ => ?_) <;> [subst x; clear_value x])
      | (refine cutP (o := o) (x := x) ?_ (fun _ => ?_) <;> [subst x; clear_value x])
      | (refine cutF (o := o) (x := x) ?_ (fun _ => ?_) <;> [subst x; clear_value x])
      | skip)
    | with_reducible refine ite_kept ?_ ?_
    | split
    | with_reducible refine Kept.same ?_ rfl
    | dsimp only)

theorem execAppendPublication_kept {o : State} {cid_0 : ℕ} {s_1 : State} (h1 : Kept o s_1) :
    KeptOut o (@execAppendPublication cid_0 s_1) := by
  unfold execAppendPublication
  repeat' (first
    | with_reducible first | assumption | refine KeptOut.next ?_ | refine State.done_kept ?_ | refine State.runCmd_kept ?_ ?_ | refine State.publishAppend_kept ?_
    | dsimp only
    | (intro _))

theorem State.reread_kept {o : State} {s_0 : State} {c_1 : Cmd} (h0 : Kept o s_0) :
    Kept o (@State.reread s_0 c_1) := by
  unfold State.reread
  repeat' (first
    | with_reducible first | assumption | refine State.setPhase_kept ?_ | refine State.decodeGo_kept ?_ | refine State.appendGo_kept ?_
    | (extract_lets +onlyGivenNames x; first
      | (refine cutS (o := o) (x := x) ?_ (fun _ => ?_) <;> [subst x; clear_value x])
      | (refine cutP (o := o) (x := x) ?_ (fun _ => ?_) <;> [subst x; clear_value x])
      | (refine cutF (o := o) (x := x) ?_ (fun _ => ?_) <;> [subst x; clear_value x])
      | skip)
    | with_reducible refine ite_kept ?_ ?_
    | dsimp only)

theorem execEpochReread_kept {o : State} {cid_0 : ℕ} {s_1 : State} (h1 : Kept o s_1) :
    KeptOut o (@execEpochReread cid_0 s_1) := by
  unfold execEpochReread
  repeat' (first
    | with_reducible first | assumption | refine KeptOut.next ?_ | refine State.done_kept ?_ | refine State.reread_kept ?_ | refine ite_keptOut ?_ ?_ | refine ite_kept ?_ ?_
    | split
    | with_reducible refine Kept.same ?_ rfl
    | dsimp only)

theorem execEditTimeoutExpiry_kept {o : State} {cid_0 : ℕ} {s_1 : State} (h1 : Kept o s_1) :
    KeptOut o (@execEditTimeoutExpiry cid_0 s_1) := by
  unfold execEditTimeoutExpiry
  repeat' (first
    | with_reducible first | assumption | refine KeptOut.next ?_ | refine State.done_kept ?_ | refine State.reread_kept ?_ | refine ite_keptOut ?_ ?_ | refine ite_kept ?_ ?_
    | split
    | with_reducible refine Kept.same ?_ rfl
    | dsimp only)

theorem execHandoffTimeoutExpiry_kept {o : State} {rec_0 : ℕ} {s_1 : State} (h1 : Kept o s_1) :
    KeptOut o (@execHandoffTimeoutExpiry rec_0 s_1) := by
  unfold execHandoffTimeoutExpiry
  repeat' (first
    | with_reducible first | assumption | refine KeptOut.next ?_ | refine State.done_kept ?_ | refine State.handoffExpiry_kept ?_
    | dsimp only)

end Sys2Proof.Machine
end

