-- ==== Sys2Proof/Laws/KeptSwitch.lean ====
section
/-! SUPPORT. What every command keeps, through egress, debug, coherence, extents, ports and flash. -/

namespace Sys2Proof.Machine

set_option linter.all false
set_option maxRecDepth 4000

theorem State.setGate_kept {o : State} {s_0 : State} {p_1 : ℕ} {g_2 : GateRun} (h0 : Kept o s_0) :
    Kept o (@State.setGate s_0 p_1 g_2) := by
  unfold State.setGate
  repeat' (first
    | with_reducible first | assumption | refine Kept.same ?_ rfl
    | dsimp only)

theorem State.gateOverrun_kept {o : State} {s_0 : State} {p_1 : ℕ} {was_2 : ℕ → Bool} (h0 : Kept o s_0) :
    Kept o (@State.gateOverrun s_0 p_1 was_2) := by
  unfold State.gateOverrun
  repeat' (first
    | with_reducible first | assumption | refine State.bump_kept ?_ | refine ite_kept ?_ ?_
    | split
    | with_reducible refine Kept.same ?_ rfl
    | dsimp only
    | (intro _))

theorem State.enterGate_kept {o : State} {s_0 : State} {p_1 : ℕ} {seg_2 : ℕ} {i_3 : ℕ} {began_4 : ℕ} {off_5 : ℕ} (h0 : Kept o s_0) :
    Kept o (@State.enterGate s_0 p_1 seg_2 i_3 began_4 off_5) := by
  unfold State.enterGate
  repeat' (first
    | with_reducible first | assumption | refine State.gateOverrun_kept ?_ | refine State.setGate_kept ?_ | refine State.wr_kept ?_
    | (extract_lets +onlyGivenNames x; first
      | (refine cutS (o := o) (x := x) ?_ (fun _ => ?_) <;> [subst x; clear_value x])
      | (refine cutP (o := o) (x := x) ?_ (fun _ => ?_) <;> [subst x; clear_value x])
      | (refine cutF (o := o) (x := x) ?_ (fun _ => ?_) <;> [subst x; clear_value x])
      | skip)
    | with_reducible refine Kept.same ?_ rfl
    | dsimp only
    | (intro _))

theorem State.gateChange_kept {o : State} {s_0 : State} {p_1 : ℕ} {i_2 : ℕ} {at__3 : ℕ} (h0 : Kept o s_0) :
    KeptVal o (@State.gateChange s_0 p_1 i_2 at__3) (fun v => v) := by
  unfold State.gateChange
  repeat' (first
    | with_reducible first | assumption | refine State.enterGate_kept ?_ | exact KeptVal.none | refine KeptVal.some ?_
    | (extract_lets +onlyGivenNames x; first
      | (refine cutS (o := o) (x := x) ?_ (fun _ => ?_) <;> [subst x; clear_value x])
      | (refine cutP (o := o) (x := x) ?_ (fun _ => ?_) <;> [subst x; clear_value x])
      | (refine cutF (o := o) (x := x) ?_ (fun _ => ?_) <;> [subst x; clear_value x])
      | skip)
    | with_reducible refine ite_kept ?_ ?_
    | split
    | with_reducible refine Kept.same ?_ rfl
    | dsimp only
    | (intro _))
theorem State.gateChange_some {o : State} {s_0 : State} {p_1 : ℕ} {i_2 : ℕ} {at__3 : ℕ} {t : State} (e : @State.gateChange s_0 p_1 i_2 at__3 = some t) (h0 : Kept o s_0) : Kept o t :=
  State.gateChange_kept (o := o) h0 _ e

theorem State.gateBoundary_kept {o : State} {s_0 : State} {p_1 : ℕ} (h0 : Kept o s_0) :
    Kept o (@State.gateBoundary s_0 p_1) := by
  unfold State.gateBoundary
  repeat' (first
    | with_reducible first | assumption | refine State.enterGate_kept ?_
    | (extract_lets +onlyGivenNames x; first
      | (refine cutS (o := o) (x := x) ?_ (fun _ => ?_) <;> [subst x; clear_value x])
      | (refine cutP (o := o) (x := x) ?_ (fun _ => ?_) <;> [subst x; clear_value x])
      | (refine cutF (o := o) (x := x) ?_ (fun _ => ?_) <;> [subst x; clear_value x])
      | skip)
    | with_reducible refine ite_kept ?_ ?_
    | dsimp only)

theorem State.gateStartWrite_kept {o : State} {s_0 : State} {p_1 : ℕ} (h0 : Kept o s_0) :
    Kept o (@State.gateStartWrite s_0 p_1).2 := by
  unfold State.gateStartWrite
  repeat' (first
    | with_reducible first | assumption | refine State.setGate_kept ?_ | refine State.wr_kept ?_ | refine State.enterGate_kept ?_
    | (extract_lets +onlyGivenNames x; first
      | (refine cutS (o := o) (x := x) ?_ (fun _ => ?_) <;> [subst x; clear_value x])
      | (refine cutP (o := o) (x := x) ?_ (fun _ => ?_) <;> [subst x; clear_value x])
      | (refine cutF (o := o) (x := x) ?_ (fun _ => ?_) <;> [subst x; clear_value x])
      | skip)
    | with_reducible first | refine ite_kept2 ?_ ?_ | refine ite_kept1 ?_ ?_ | refine ite_kept ?_ ?_ | refine Kept.same ?_ rfl
    | dsimp only)
theorem State.gateStartWrite_eq {o : State} {s_0 : State} {p_1 : ℕ} {v0 : ℕ} {t : State} (e : @State.gateStartWrite s_0 p_1 = (v0, t)) (h0 : Kept o s_0) : Kept o t := by
  have h : Kept o (@State.gateStartWrite s_0 p_1).2 := State.gateStartWrite_kept h0
  rw [e] at h; exact h

theorem State.gateStopWrite_kept {o : State} {s_0 : State} {p_1 : ℕ} (h0 : Kept o s_0) :
    Kept o (@State.gateStopWrite s_0 p_1) := by
  unfold State.gateStopWrite
  repeat' (first
    | with_reducible first | assumption | refine State.setGate_kept ?_ | refine State.wr_kept ?_
    | dsimp only)

theorem State.mapTx_kept {o : State} {s_0 : State} {id_1 : ℕ} {f_2 : TxFrame → TxFrame} (h0 : Kept o s_0) :
    Kept o (@State.mapTx s_0 id_1 f_2) := by
  unfold State.mapTx
  repeat' (first
    | with_reducible first | assumption | refine ite_kept ?_ ?_ | refine Kept.same ?_ rfl
    | dsimp only
    | (intro _))

theorem State.tagHead_kept {o : State} {s_0 : State} {a_1 : ℕ} (h0 : Kept o s_0) :
    Kept o (@State.tagHead s_0 a_1) := by
  unfold State.tagHead
  repeat' (first
    | with_reducible first | assumption | refine State.mapTx_kept ?_
    | (extract_lets +onlyGivenNames x; first
      | (refine cutS (o := o) (x := x) ?_ (fun _ => ?_) <;> [subst x; clear_value x])
      | (refine cutP (o := o) (x := x) ?_ (fun _ => ?_) <;> [subst x; clear_value x])
      | (refine cutF (o := o) (x := x) ?_ (fun _ => ?_) <;> [subst x; clear_value x])
      | skip)
    | with_reducible refine ite_kept ?_ ?_
    | split
    | with_reducible refine Kept.same ?_ rfl
    | dsimp only
    | (intro _))

theorem State.enterTx_kept {o : State} {s_0 : State} {f_1 : SwFrame} {p_2 : PortId} (h0 : Kept o s_0) :
    Kept o (@State.enterTx s_0 f_1 p_2) := by
  unfold State.enterTx
  repeat' (first
    | with_reducible first | assumption | refine State.classifySearch_kept ?_ | refine State.bump_kept ?_ | refine State.charge_kept ?_ | refine State.reopen_kept ?_ | refine State.creditBack_kept ?_ | refine State.tagHead_kept ?_
    | (extract_lets +onlyGivenNames x; first
      | (refine cutS (o := o) (x := x) ?_ (fun _ => ?_) <;> [subst x; clear_value x])
      | (refine cutP (o := o) (x := x) ?_ (fun _ => ?_) <;> [subst x; clear_value x])
      | (refine cutF (o := o) (x := x) ?_ (fun _ => ?_) <;> [subst x; clear_value x])
      | skip)
    | with_reducible refine ite_kept ?_ ?_
    | split
    | with_reducible refine Kept.same ?_ rfl
    | dsimp only)

theorem State.linkSend_kept {o : State} {s_0 : State} {p_1 : PortId} {c_2 : ℕ} {cells_3 : ℕ} {b_4 : FrameBody} (h0 : Kept o s_0) :
    Kept o (@State.linkSend s_0 p_1 c_2 cells_3 b_4) := by
  unfold State.linkSend
  repeat' (first
    | with_reducible first | assumption | refine State.traceFrame_kept ?_ | refine State.tally_kept ?_ | refine State.sendOn_kept ?_ | refine State.setLink_kept ?_
    | (extract_lets +onlyGivenNames x; first
      | (refine cutS (o := o) (x := x) ?_ (fun _ => ?_) <;> [subst x; clear_value x])
      | (refine cutP (o := o) (x := x) ?_ (fun _ => ?_) <;> [subst x; clear_value x])
      | (refine cutF (o := o) (x := x) ?_ (fun _ => ?_) <;> [subst x; clear_value x])
      | skip)
    | with_reducible refine ite_kept ?_ ?_
    | split
    | with_reducible refine Kept.same ?_ rfl
    | dsimp only)

theorem State.transmit_kept {o : State} {s_0 : State} {p_1 : PortId} (h0 : Kept o s_0) :
    Kept o (@State.transmit s_0 p_1) := by
  unfold State.transmit
  repeat' (first
    | with_reducible first | assumption | refine State.setShaper_kept ?_ | refine State.charge_kept ?_ | refine State.bump_kept ?_ | refine State.creditBack_kept ?_ | refine State.tagHead_kept ?_ | refine State.linkSend_kept ?_
    | (extract_lets +onlyGivenNames x; first
      | (refine cutS (o := o) (x := x) ?_ (fun _ => ?_) <;> [subst x; clear_value x])
      | (refine cutP (o := o) (x := x) ?_ (fun _ => ?_) <;> [subst x; clear_value x])
      | (refine cutF (o := o) (x := x) ?_ (fun _ => ?_) <;> [subst x; clear_value x])
      | skip)
    | with_reducible refine ite_kept ?_ ?_
    | split
    | with_reducible refine Kept.same ?_ rfl
    | dsimp only
    | (intro _))

theorem State.periodWrite_kept {o : State} {s_0 : State} {v_1 : ℕ} (h0 : Kept o s_0) :
    Kept o (@State.periodWrite s_0 v_1) := by
  unfold State.periodWrite
  repeat' (first
    | with_reducible first | assumption | refine State.wr_kept ?_
    | (extract_lets +onlyGivenNames x; first
      | (refine cutS (o := o) (x := x) ?_ (fun _ => ?_) <;> [subst x; clear_value x])
      | (refine cutP (o := o) (x := x) ?_ (fun _ => ?_) <;> [subst x; clear_value x])
      | (refine cutF (o := o) (x := x) ?_ (fun _ => ?_) <;> [subst x; clear_value x])
      | skip)
    | with_reducible first | refine ite_kept ?_ ?_ | refine Kept.same ?_ rfl
    | dsimp only)

theorem State.sampleQueue_kept {o s : State} {q : ℕ} (h : Kept o s) : Kept o (s.sampleQueue q) := by
  unfold State.sampleQueue
  refine ite_kept h ?_
  split
  · exact h
  · exact State.wr_kept (State.wr_kept (Kept.same h rfl))

theorem State.clearHist_kept {o : State} {s_0 : State} {a_1 : ℕ} (h0 : Kept o s_0) :
    Kept o (@State.clearHist s_0 a_1) := by
  unfold State.clearHist
  repeat' (first
    | with_reducible first | assumption | refine State.wr_kept ?_
    | dsimp only)

theorem State.creditRelease_kept {o : State} {s_0 : State} {p_1 : PortId} {c_2 : ℕ} (h0 : Kept o s_0) :
    Kept o (@State.creditRelease s_0 p_1 c_2) := by
  unfold State.creditRelease
  repeat' (first
    | with_reducible first | assumption | refine foldl_kept ?_ (fun _ _ _ => ?_) | refine State.setLink_kept ?_
    | (extract_lets +onlyGivenNames x; first
      | (refine cutS (o := o) (x := x) ?_ (fun _ => ?_) <;> [subst x; clear_value x])
      | (refine cutP (o := o) (x := x) ?_ (fun _ => ?_) <;> [subst x; clear_value x])
      | (refine cutF (o := o) (x := x) ?_ (fun _ => ?_) <;> [subst x; clear_value x])
      | skip)
    | with_reducible refine ite_kept ?_ ?_
    | split
    | with_reducible refine Kept.same ?_ rfl
    | dsimp only
    | (intro _))

theorem State.readBack_kept {o : State} {s_0 : State} {id_1 : ℕ} (h0 : Kept o s_0) :
    Kept o (@State.readBack s_0 id_1) := by
  unfold State.readBack
  repeat' (first
    | with_reducible first | assumption | refine State.tally_kept ?_ | refine State.mapTx_kept ?_ | refine State.charge_kept ?_
    | (extract_lets +onlyGivenNames x; first
      | (refine cutS (o := o) (x := x) ?_ (fun _ => ?_) <;> [subst x; clear_value x])
      | (refine cutP (o := o) (x := x) ?_ (fun _ => ?_) <;> [subst x; clear_value x])
      | (refine cutF (o := o) (x := x) ?_ (fun _ => ?_) <;> [subst x; clear_value x])
      | skip)
    | with_reducible refine ite_kept ?_ ?_
    | split
    | with_reducible refine Kept.same ?_ rfl
    | dsimp only
    | (intro _))

theorem State.dropTx_kept {o : State} {s_0 : State} {id_1 : ℕ} (h0 : Kept o s_0) :
    Kept o (@State.dropTx s_0 id_1) := by
  unfold State.dropTx
  repeat' (first
    | with_reducible first | assumption | refine State.charge_kept ?_ | refine State.tagHead_kept ?_ | refine State.creditBack_kept ?_
    | (extract_lets +onlyGivenNames x; first
      | (refine cutS (o := o) (x := x) ?_ (fun _ => ?_) <;> [subst x; clear_value x])
      | (refine cutP (o := o) (x := x) ?_ (fun _ => ?_) <;> [subst x; clear_value x])
      | (refine cutF (o := o) (x := x) ?_ (fun _ => ?_) <;> [subst x; clear_value x])
      | skip)
    | split
    | with_reducible refine Kept.same ?_ rfl
    | dsimp only
    | (intro _))

theorem State.loseTx_kept {o : State} {s_0 : State} {id_1 : ℕ} (h0 : Kept o s_0) :
    Kept o (@State.loseTx s_0 id_1) := by
  unfold State.loseTx
  repeat' (first
    | with_reducible first | assumption | refine State.emit_kept ?_ | refine State.tally_kept ?_ | refine State.bump_kept ?_ | refine State.reopen_kept ?_ | refine State.dropTx_kept ?_
    | (extract_lets +onlyGivenNames x; first
      | (refine cutS (o := o) (x := x) ?_ (fun _ => ?_) <;> [subst x; clear_value x])
      | (refine cutP (o := o) (x := x) ?_ (fun _ => ?_) <;> [subst x; clear_value x])
      | (refine cutF (o := o) (x := x) ?_ (fun _ => ?_) <;> [subst x; clear_value x])
      | skip)
    | split
    | with_reducible refine Kept.same ?_ rfl
    | dsimp only
    | (intro _))

theorem State.setProf_kept {o : State} {s_0 : State} {p_1 : ℕ} {x_2 : Profile} (h0 : Kept o s_0) :
    Kept o (@State.setProf s_0 p_1 x_2) := by
  unfold State.setProf
  repeat' (first
    | with_reducible first | assumption | refine Kept.same ?_ rfl
    | dsimp only)

theorem State.profileWrite_kept {o : State} {s_0 : State} {p_1 : ℕ} {v_2 : ℕ} (h0 : Kept o s_0) :
    Kept o (@State.profileWrite s_0 p_1 v_2).2 := by
  unfold State.profileWrite
  repeat' (first
    | with_reducible first | assumption | refine State.wr_kept ?_
    | (extract_lets +onlyGivenNames x; first
      | (refine cutS (o := o) (x := x) ?_ (fun _ => ?_) <;> [subst x; clear_value x])
      | (refine cutP (o := o) (x := x) ?_ (fun _ => ?_) <;> [subst x; clear_value x])
      | (refine cutF (o := o) (x := x) ?_ (fun _ => ?_) <;> [subst x; clear_value x])
      | skip)
    | with_reducible first | refine ite_kept2 ?_ ?_ | refine ite_kept1 ?_ ?_ | refine ite_kept ?_ ?_
    | dsimp only
    | (intro _))
theorem State.profileWrite_eq {o : State} {s_0 : State} {p_1 : ℕ} {v_2 : ℕ} {v0 : ℕ} {t : State} (e : @State.profileWrite s_0 p_1 v_2 = (v0, t)) (h0 : Kept o s_0) : Kept o t := by
  have h : Kept o (@State.profileWrite s_0 p_1 v_2).2 := State.profileWrite_kept h0
  rw [e] at h; exact h

theorem State.storeBy_kept {o : State} {s_0 : State} {a_1 : ℕ} {herd_2 : ℕ} {a_3 : ℕ} {bs_4 : List Byte} (h0 : Kept o s_0) :
    Kept o (@State.storeBy s_0 a_1 herd_2 a_3 bs_4) := by
  unfold State.storeBy
  repeat' (first
    | with_reducible first | assumption | refine State.directStore_some (by assumption) ?_ | refine State.directStore_kept ?_ | refine State.enter_kept ?_
    | (extract_lets +onlyGivenNames x; first
      | (refine cutS (o := o) (x := x) ?_ (fun _ => ?_) <;> [subst x; clear_value x])
      | (refine cutP (o := o) (x := x) ?_ (fun _ => ?_) <;> [subst x; clear_value x])
      | (refine cutF (o := o) (x := x) ?_ (fun _ => ?_) <;> [subst x; clear_value x])
      | skip)
    | split
    | with_reducible refine Kept.same ?_ rfl
    | dsimp only)

theorem State.latchProfile_kept {o : State} {s_0 : State} {p_1 : ℕ} (h0 : Kept o s_0) :
    KeptVal o (@State.latchProfile s_0 p_1) (fun v => v) := by
  unfold State.latchProfile
  repeat' (first
    | with_reducible first | assumption | refine State.storeBy_kept ?_ | refine State.count_kept ?_ | refine State.wr_kept ?_ | exact KeptVal.none | refine KeptVal.some ?_
    | (extract_lets +onlyGivenNames x; first
      | (refine cutS (o := o) (x := x) ?_ (fun _ => ?_) <;> [subst x; clear_value x])
      | (refine cutP (o := o) (x := x) ?_ (fun _ => ?_) <;> [subst x; clear_value x])
      | (refine cutF (o := o) (x := x) ?_ (fun _ => ?_) <;> [subst x; clear_value x])
      | skip)
    | with_reducible refine ite_kept ?_ ?_
    | split
    | with_reducible refine Kept.same ?_ rfl
    | dsimp only
    | (intro _))
theorem State.latchProfile_some {o : State} {s_0 : State} {p_1 : ℕ} {t : State} (e : @State.latchProfile s_0 p_1 = some t) (h0 : Kept o s_0) : Kept o t :=
  State.latchProfile_kept (o := o) h0 _ e

theorem State.freeProfiles_kept {o : State} {s_0 : State} {herd_1 : ℕ} (h0 : Kept o s_0) :
    Kept o (@State.freeProfiles s_0 herd_1) := by
  unfold State.freeProfiles
  repeat' (first
    | with_reducible first | assumption | refine foldState_kept ?_ ?_ | refine State.wr_kept ?_
    | dsimp only
    | (intro _))

theorem State.traceWrite_kept {o : State} {s_0 : State} {v_1 : ℕ} (h0 : Kept o s_0) :
    Kept o (@State.traceWrite s_0 v_1).2 := by
  unfold State.traceWrite
  repeat' (first
    | with_reducible first | assumption | refine State.wr_kept ?_ | refine foldState_kept ?_ ?_ | refine ite_kept2 ?_ ?_ | refine ite_kept1 ?_ ?_ | refine ite_kept ?_ ?_
    | dsimp only
    | (intro _))
theorem State.traceWrite_eq {o : State} {s_0 : State} {v_1 : ℕ} {v0 : ℕ} {t : State} (e : @State.traceWrite s_0 v_1 = (v0, t)) (h0 : Kept o s_0) : Kept o t := by
  have h : Kept o (@State.traceWrite s_0 v_1).2 := State.traceWrite_kept h0
  rw [e] at h; exact h

theorem State.filterWrite_kept {o : State} {s_0 : State} {f_1 : ℕ} {v_2 : ℕ} (h0 : Kept o s_0) :
    Kept o (@State.filterWrite s_0 f_1 v_2).2 := by
  unfold State.filterWrite
  repeat' (first
    | with_reducible first | assumption | refine State.wr_kept ?_ | refine ite_kept2 ?_ ?_ | refine ite_kept1 ?_ ?_ | refine ite_kept ?_ ?_
    | dsimp only)
theorem State.filterWrite_eq {o : State} {s_0 : State} {f_1 : ℕ} {v_2 : ℕ} {v0 : ℕ} {t : State} (e : @State.filterWrite s_0 f_1 v_2 = (v0, t)) (h0 : Kept o s_0) : Kept o t := by
  have h : Kept o (@State.filterWrite s_0 f_1 v_2).2 := State.filterWrite_kept h0
  rw [e] at h; exact h

theorem State.stotModeWrite_kept {o : State} {s_0 : State} {m_1 : ℕ} (h0 : Kept o s_0) :
    Kept o (@State.stotModeWrite s_0 m_1).2 := by
  unfold State.stotModeWrite
  repeat' (first
    | with_reducible first | assumption | refine State.wr_kept ?_ | refine ite_kept2 ?_ ?_ | refine ite_kept1 ?_ ?_ | refine ite_kept ?_ ?_
    | dsimp only)
theorem State.stotModeWrite_eq {o : State} {s_0 : State} {m_1 : ℕ} {v0 : ℕ} {t : State} (e : @State.stotModeWrite s_0 m_1 = (v0, t)) (h0 : Kept o s_0) : Kept o t := by
  have h : Kept o (@State.stotModeWrite s_0 m_1).2 := State.stotModeWrite_kept h0
  rw [e] at h; exact h

theorem State.startBuild_kept {o : State} {s_0 : State} {dump_1 : Bool} (h0 : Kept o s_0) :
    Kept o (@State.startBuild s_0 dump_1) := by
  unfold State.startBuild
  repeat' (first
    | with_reducible first | assumption | refine State.wr_kept ?_ | refine ite_kept ?_ ?_ | refine Kept.same ?_ rfl
    | dsimp only)

theorem State.stopNow_kept {o : State} {s_0 : State} {cause_1 : ℕ} (h0 : Kept o s_0) :
    Kept o (@State.stopNow s_0 cause_1) := by
  unfold State.stopNow
  repeat' (first
    | with_reducible first | assumption | refine State.wr_kept ?_ | refine State.endTransition_kept ?_ | refine State.startBuild_kept ?_
    | (extract_lets +onlyGivenNames x; first
      | (refine cutS (o := o) (x := x) ?_ (fun _ => ?_) <;> [subst x; clear_value x])
      | (refine cutP (o := o) (x := x) ?_ (fun _ => ?_) <;> [subst x; clear_value x])
      | (refine cutF (o := o) (x := x) ?_ (fun _ => ?_) <;> [subst x; clear_value x])
      | skip)
    | with_reducible first | refine ite_kept ?_ ?_ | refine Kept.same ?_ rfl
    | dsimp only)

theorem State.stotEvent_kept {o : State} {s_0 : State} {cause_1 : ℕ} (h0 : Kept o s_0) :
    Kept o (@State.stotEvent s_0 cause_1) := by
  unfold State.stotEvent
  repeat' (first
    | with_reducible first | assumption | refine State.count_kept ?_ | refine State.wr_kept ?_ | refine State.stopNow_kept ?_
    | (extract_lets +onlyGivenNames x; first
      | (refine cutS (o := o) (x := x) ?_ (fun _ => ?_) <;> [subst x; clear_value x])
      | (refine cutP (o := o) (x := x) ?_ (fun _ => ?_) <;> [subst x; clear_value x])
      | (refine cutF (o := o) (x := x) ?_ (fun _ => ?_) <;> [subst x; clear_value x])
      | skip)
    | with_reducible refine ite_kept ?_ ?_
    | split
    | with_reducible refine Kept.same ?_ rfl
    | dsimp only)

theorem State.flushEnded_kept {o : State} {s_0 : State} (h0 : Kept o s_0) :
    Kept o (@State.flushEnded s_0) := by
  unfold State.flushEnded
  repeat' (first
    | with_reducible first | assumption | refine State.stopNow_kept ?_
    | split
    | with_reducible refine Kept.same ?_ rfl
    | dsimp only)

theorem State.takeMsg_kept {o : State} {s_0 : State} {k_1 : CohKind} {a_2 : ℕ} {l_3 : ℕ} (h0 : Kept o s_0) :
    KeptVal o (@State.takeMsg s_0 k_1 a_2 l_3) (fun v => v.2) := by
  unfold State.takeMsg
  repeat' (first
    | with_reducible first | assumption | exact KeptVal.none | refine KeptVal.some ?_
    | split
    | with_reducible refine Kept.same ?_ rfl
    | dsimp only
    | (intro _))
theorem State.takeMsg_some {o : State} {s_0 : State} {k_1 : CohKind} {a_2 : ℕ} {l_3 : ℕ} {v0 : CohMsg} {t : State} (e : @State.takeMsg s_0 k_1 a_2 l_3 = some (v0, t)) (h0 : Kept o s_0) : Kept o t :=
  State.takeMsg_kept (o := o) h0 _ e

theorem State.ownedData_kept {o : State} {s_0 : State} {a_1 : ℕ} {x_2 : AgentLine} (h0 : Kept o s_0) :
    Kept o (@State.ownedData s_0 a_1 x_2).2 := by
  unfold State.ownedData
  repeat' (first
    | with_reducible first | assumption | refine State.fresh_kept ?_ | refine ite_kept2 ?_ ?_ | refine ite_kept1 ?_ ?_ | refine ite_kept ?_ ?_
    | dsimp only
    | (intro _))
theorem State.ownedData_eq {o : State} {s_0 : State} {a_1 : ℕ} {x_2 : AgentLine} {v0 : List Byte} {t : State} (e : @State.ownedData s_0 a_1 x_2 = (v0, t)) (h0 : Kept o s_0) : Kept o t := by
  have h : Kept o (@State.ownedData s_0 a_1 x_2).2 := State.ownedData_kept h0
  rw [e] at h; exact h

theorem State.sendData_kept {o : State} {s_0 : State} {to__1 : ℕ} {from__2 : ℕ} {l_3 : ℕ} {bs_4 : List Byte} {g_5 : Option AgentLineState} (h0 : Kept o s_0) :
    Kept o (@State.sendData s_0 to__1 from__2 l_3 bs_4 g_5) := by
  unfold State.sendData
  repeat' (first
    | with_reducible first | assumption | refine State.post'_kept ?_ | refine Kept.same ?_ rfl
    | dsimp only)

theorem State.agentGet_kept {o : State} {s_0 : State} {a_1 : ℕ} {e_2 : ℕ} {n_3 : ℕ} {excl_4 : Bool} (h0 : Kept o s_0) :
    Kept o (@State.agentGet s_0 a_1 e_2 n_3 excl_4) := by
  unfold State.agentGet
  repeat' (first
    | with_reducible first | assumption | refine State.rutCount_kept ?_ | refine State.rutArrive_kept ?_ | refine State.traceCoh_kept ?_ | refine State.sendData_kept ?_ | refine State.askLine_kept ?_
    | (extract_lets +onlyGivenNames x; first
      | (refine cutS (o := o) (x := x) ?_ (fun _ => ?_) <;> [subst x; clear_value x])
      | (refine cutP (o := o) (x := x) ?_ (fun _ => ?_) <;> [subst x; clear_value x])
      | (refine cutF (o := o) (x := x) ?_ (fun _ => ?_) <;> [subst x; clear_value x])
      | skip)
    | with_reducible refine ite_kept ?_ ?_
    | split
    | with_reducible refine Kept.same ?_ rfl
    | dsimp only)

theorem execGets_kept {o : State} {a_0 : AgentId} {e_1 : ExtentId} {line_2 : ℕ} {s_3 : State} (h3 : Kept o s_3) :
    KeptOut o (@execGets a_0 e_1 line_2 s_3) := by
  unfold execGets
  repeat' (first
    | with_reducible first | assumption | refine KeptOut.next ?_ | refine State.done_kept ?_ | refine State.release_kept ?_ | refine State.agentGet_kept ?_
    | dsimp only)

theorem execGetm_kept {o : State} {a_0 : AgentId} {e_1 : ExtentId} {line_2 : ℕ} {s_3 : State} (h3 : Kept o s_3) :
    KeptOut o (@execGetm a_0 e_1 line_2 s_3) := by
  unfold execGetm
  repeat' (first
    | with_reducible first | assumption | refine KeptOut.next ?_ | refine State.done_kept ?_ | refine State.release_kept ?_ | refine State.agentGet_kept ?_
    | dsimp only)

theorem State.agentPuts_kept {o : State} {s_0 : State} {a_1 : ℕ} {e_2 : ℕ} {n_3 : ℕ} (h0 : Kept o s_0) :
    Kept o (@State.agentPuts s_0 a_1 e_2 n_3) := by
  unfold State.agentPuts
  repeat' (first
    | with_reducible first | assumption | refine State.dirTouch_kept ?_ | refine State.setHeld_kept ?_ | refine State.traceCoh_kept ?_ | refine State.setDir_kept ?_
    | (extract_lets +onlyGivenNames x; first
      | (refine cutS (o := o) (x := x) ?_ (fun _ => ?_) <;> [subst x; clear_value x])
      | (refine cutP (o := o) (x := x) ?_ (fun _ => ?_) <;> [subst x; clear_value x])
      | (refine cutF (o := o) (x := x) ?_ (fun _ => ?_) <;> [subst x; clear_value x])
      | skip)
    | with_reducible refine ite_kept ?_ ?_
    | split
    | with_reducible refine Kept.same ?_ rfl
    | dsimp only)

theorem State.agentPutm_kept {o : State} {s_0 : State} {a_1 : ℕ} {e_2 : ℕ} {n_3 : ℕ} (h0 : Kept o s_0) :
    Kept o (@State.agentPutm s_0 a_1 e_2 n_3) := by
  unfold State.agentPutm
  repeat' (first
    | with_reducible first | assumption | refine State.setHeld_kept ?_ | refine State.traceCoh_kept ?_ | refine State.ownedData_kept ?_ | refine State.ownedData_eq (by assumption) ?_ | refine State.writeBack_kept ?_ | refine State.dirTouch_kept ?_ | refine State.sendData_kept ?_ | refine State.setDir_kept ?_
    | (extract_lets +onlyGivenNames x; first
      | (refine cutS (o := o) (x := x) ?_ (fun _ => ?_) <;> [subst x; clear_value x])
      | (refine cutP (o := o) (x := x) ?_ (fun _ => ?_) <;> [subst x; clear_value x])
      | (refine cutF (o := o) (x := x) ?_ (fun _ => ?_) <;> [subst x; clear_value x])
      | skip)
    | with_reducible refine ite_kept ?_ ?_
    | split
    | with_reducible refine Kept.same ?_ rfl
    | dsimp only
    | (intro _))

theorem execPuts_kept {o : State} {a_0 : AgentId} {e_1 : ExtentId} {line_2 : ℕ} {s_3 : State} (h3 : Kept o s_3) :
    KeptOut o (@execPuts a_0 e_1 line_2 s_3) := by
  unfold execPuts
  repeat' (first
    | with_reducible first | assumption | refine KeptOut.next ?_ | refine State.done_kept ?_ | refine State.release_kept ?_ | refine State.agentPuts_kept ?_
    | dsimp only)

theorem execPutm_kept {o : State} {a_0 : AgentId} {e_1 : ExtentId} {line_2 : ℕ} {s_3 : State} (h3 : Kept o s_3) :
    KeptOut o (@execPutm a_0 e_1 line_2 s_3) := by
  unfold execPutm
  repeat' (first
    | with_reducible first | assumption | refine KeptOut.next ?_ | refine State.done_kept ?_ | refine State.release_kept ?_ | refine State.agentPutm_kept ?_
    | dsimp only)

theorem State.answerForward_kept {o : State} {s_0 : State} {k_1 : CohKind} {a_2 : ℕ} {e_3 : ℕ} {n_4 : ℕ} (h0 : Kept o s_0) :
    Kept o (@State.answerForward s_0 k_1 a_2 e_3 n_4) := by
  unfold State.answerForward
  repeat' (first
    | with_reducible first | assumption | refine State.takeMsg_some (by assumption) ?_ | refine State.takeMsg_kept ?_ | refine State.ownedData_kept ?_ | refine State.ownedData_eq (by assumption) ?_ | refine State.setHeld_kept ?_ | refine State.sendData_kept ?_ | refine State.writeBack_kept ?_
    | (extract_lets +onlyGivenNames x; first
      | (refine cutS (o := o) (x := x) ?_ (fun _ => ?_) <;> [subst x; clear_value x])
      | (refine cutP (o := o) (x := x) ?_ (fun _ => ?_) <;> [subst x; clear_value x])
      | (refine cutF (o := o) (x := x) ?_ (fun _ => ?_) <;> [subst x; clear_value x])
      | skip)
    | with_reducible refine ite_kept ?_ ?_
    | split
    | with_reducible refine Kept.same ?_ rfl
    | dsimp only)

theorem execFwds_kept {o : State} {a_0 : AgentId} {e_1 : ExtentId} {line_2 : ℕ} {s_3 : State} (h3 : Kept o s_3) :
    KeptOut o (@execFwds a_0 e_1 line_2 s_3) := by
  unfold execFwds
  repeat' (first
    | with_reducible first | assumption | refine KeptOut.next ?_ | refine State.done_kept ?_ | refine State.answerForward_kept ?_
    | dsimp only)

theorem execFwdm_kept {o : State} {a_0 : AgentId} {e_1 : ExtentId} {line_2 : ℕ} {s_3 : State} (h3 : Kept o s_3) :
    KeptOut o (@execFwdm a_0 e_1 line_2 s_3) := by
  unfold execFwdm
  repeat' (first
    | with_reducible first | assumption | refine KeptOut.next ?_ | refine State.done_kept ?_ | refine State.answerForward_kept ?_
    | dsimp only)

theorem execFwdr_kept {o : State} {a_0 : AgentId} {e_1 : ExtentId} {line_2 : ℕ} {s_3 : State} (h3 : Kept o s_3) :
    KeptOut o (@execFwdr a_0 e_1 line_2 s_3) := by
  unfold execFwdr
  repeat' (first
    | with_reducible first | assumption | refine KeptOut.next ?_ | refine State.done_kept ?_ | refine State.answerForward_kept ?_
    | dsimp only)

theorem State.answerInv_kept {o : State} {s_0 : State} {a_1 : ℕ} {e_2 : ℕ} {n_3 : ℕ} (h0 : Kept o s_0) :
    Kept o (@State.answerInv s_0 a_1 e_2 n_3) := by
  unfold State.answerInv
  repeat' (first
    | with_reducible first | assumption | refine State.takeMsg_some (by assumption) ?_ | refine State.takeMsg_kept ?_ | refine State.post'_kept ?_ | refine State.setHeld_kept ?_
    | (extract_lets +onlyGivenNames x; first
      | (refine cutS (o := o) (x := x) ?_ (fun _ => ?_) <;> [subst x; clear_value x])
      | (refine cutP (o := o) (x := x) ?_ (fun _ => ?_) <;> [subst x; clear_value x])
      | (refine cutF (o := o) (x := x) ?_ (fun _ => ?_) <;> [subst x; clear_value x])
      | skip)
    | with_reducible refine ite_kept ?_ ?_
    | split
    | with_reducible refine Kept.same ?_ rfl
    | dsimp only)

theorem execCohInv_kept {o : State} {a_0 : AgentId} {e_1 : ExtentId} {line_2 : ℕ} {s_3 : State} (h3 : Kept o s_3) :
    KeptOut o (@execCohInv a_0 e_1 line_2 s_3) := by
  unfold execCohInv
  repeat' (first
    | with_reducible first | assumption | refine KeptOut.next ?_ | refine State.done_kept ?_ | refine State.answerInv_kept ?_
    | dsimp only)

theorem State.countAck_kept {o : State} {s_0 : State} {l_1 : ℕ} (h0 : Kept o s_0) :
    Kept o (@State.countAck s_0 l_1) := by
  unfold State.countAck
  repeat' (first
    | with_reducible first | assumption | refine State.txnStep_kept ?_ | refine State.setTxn_kept ?_
    | split
    | with_reducible refine Kept.same ?_ rfl
    | dsimp only)

theorem State.takeInvack_kept {o : State} {s_0 : State} {a_1 : ℕ} {e_2 : ℕ} {n_3 : ℕ} (h0 : Kept o s_0) :
    Kept o (@State.takeInvack s_0 a_1 e_2 n_3) := by
  unfold State.takeInvack
  repeat' (first
    | with_reducible first | assumption | refine State.takeMsg_some (by assumption) ?_ | refine State.takeMsg_kept ?_ | refine State.countAck_kept ?_
    | (extract_lets +onlyGivenNames x; first
      | (refine cutS (o := o) (x := x) ?_ (fun _ => ?_) <;> [subst x; clear_value x])
      | (refine cutP (o := o) (x := x) ?_ (fun _ => ?_) <;> [subst x; clear_value x])
      | (refine cutF (o := o) (x := x) ?_ (fun _ => ?_) <;> [subst x; clear_value x])
      | skip)
    | with_reducible refine ite_kept ?_ ?_
    | split
    | with_reducible refine Kept.same ?_ rfl
    | dsimp only)

theorem execInvack_kept {o : State} {a_0 : AgentId} {e_1 : ExtentId} {line_2 : ℕ} {s_3 : State} (h3 : Kept o s_3) :
    KeptOut o (@execInvack a_0 e_1 line_2 s_3) := by
  unfold execInvack
  repeat' (first
    | with_reducible first | assumption | refine KeptOut.next ?_ | refine State.done_kept ?_ | refine State.release_kept ?_ | refine State.takeInvack_kept ?_
    | dsimp only)

theorem State.takeData_kept {o : State} {s_0 : State} {a_1 : ℕ} {e_2 : ℕ} {n_3 : ℕ} (h0 : Kept o s_0) :
    Kept o (@State.takeData s_0 a_1 e_2 n_3) := by
  unfold State.takeData
  repeat' (first
    | with_reducible first | assumption | refine State.takeMsg_some (by assumption) ?_ | refine State.takeMsg_kept ?_ | refine State.txnStep_kept ?_ | refine State.setTxn_kept ?_
    | (extract_lets +onlyGivenNames x; first
      | (refine cutS (o := o) (x := x) ?_ (fun _ => ?_) <;> [subst x; clear_value x])
      | (refine cutP (o := o) (x := x) ?_ (fun _ => ?_) <;> [subst x; clear_value x])
      | (refine cutF (o := o) (x := x) ?_ (fun _ => ?_) <;> [subst x; clear_value x])
      | skip)
    | with_reducible refine ite_kept ?_ ?_
    | split
    | with_reducible refine Kept.same ?_ rfl
    | dsimp only)

theorem execCohData_kept {o : State} {a_0 : AgentId} {e_1 : ExtentId} {line_2 : ℕ} {s_3 : State} (h3 : Kept o s_3) :
    KeptOut o (@execCohData a_0 e_1 line_2 s_3) := by
  unfold execCohData
  repeat' (first
    | with_reducible first | assumption | refine KeptOut.next ?_ | refine State.done_kept ?_ | refine State.release_kept ?_ | refine State.takeData_kept ?_
    | dsimp only)

theorem State.takeCompack_kept {o : State} {s_0 : State} {a_1 : ℕ} {e_2 : ℕ} {n_3 : ℕ} (h0 : Kept o s_0) :
    Kept o (@State.takeCompack s_0 a_1 e_2 n_3) := by
  unfold State.takeCompack
  repeat' (first
    | with_reducible first | assumption | refine State.takeMsg_some (by assumption) ?_ | refine State.takeMsg_kept ?_ | refine State.freeLine_kept ?_ | refine State.dropTxn_kept ?_ | refine State.setDir_kept ?_
    | (extract_lets +onlyGivenNames x; first
      | (refine cutS (o := o) (x := x) ?_ (fun _ => ?_) <;> [subst x; clear_value x])
      | (refine cutP (o := o) (x := x) ?_ (fun _ => ?_) <;> [subst x; clear_value x])
      | (refine cutF (o := o) (x := x) ?_ (fun _ => ?_) <;> [subst x; clear_value x])
      | skip)
    | with_reducible refine ite_kept ?_ ?_
    | split
    | with_reducible refine Kept.same ?_ rfl
    | dsimp only)

theorem execCompack_kept {o : State} {a_0 : AgentId} {e_1 : ExtentId} {line_2 : ℕ} {s_3 : State} (h3 : Kept o s_3) :
    KeptOut o (@execCompack a_0 e_1 line_2 s_3) := by
  unfold execCompack
  repeat' (first
    | with_reducible first | assumption | refine KeptOut.next ?_ | refine State.done_kept ?_ | refine State.release_kept ?_ | refine State.takeCompack_kept ?_
    | dsimp only)

theorem State.poisonTxn_kept {o : State} {s_0 : State} {l_1 : ℕ} (h0 : Kept o s_0) :
    Kept o (@State.poisonTxn s_0 l_1) := by
  unfold State.poisonTxn
  repeat' (first
    | with_reducible first | assumption | refine State.dropTxn_kept ?_ | refine State.freeLine_kept ?_ | refine State.sendData_kept ?_ | refine State.agentTry_kept ?_ | refine foldState_kept ?_ ?_ | refine State.complete_kept ?_
    | (extract_lets +onlyGivenNames x; first
      | (refine cutS (o := o) (x := x) ?_ (fun _ => ?_) <;> [subst x; clear_value x])
      | (refine cutP (o := o) (x := x) ?_ (fun _ => ?_) <;> [subst x; clear_value x])
      | (refine cutF (o := o) (x := x) ?_ (fun _ => ?_) <;> [subst x; clear_value x])
      | skip)
    | with_reducible refine ite_kept ?_ ?_
    | split
    | with_reducible refine Kept.same ?_ rfl
    | dsimp only
    | (intro _))

theorem State.probeEvent_kept {o : State} {s_0 : State} {a_1 : ℕ} {e_2 : ℕ} {l_3 : ℕ} (h0 : Kept o s_0) :
    Kept o (@State.probeEvent s_0 a_1 e_2 l_3) := by
  unfold State.probeEvent
  repeat' (first
    | with_reducible first | assumption | refine State.emit_kept ?_
    | dsimp only)

theorem State.probeTimeout_kept {o : State} {s_0 : State} {a_1 : ℕ} {e_2 : ℕ} {n_3 : ℕ} (h0 : Kept o s_0) :
    Kept o (@State.probeTimeout s_0 a_1 e_2 n_3) := by
  unfold State.probeTimeout
  repeat' (first
    | with_reducible first | assumption | refine State.probeEvent_kept ?_ | refine State.countAck_kept ?_ | refine State.poisonTxn_kept ?_ | refine State.setDir_kept ?_
    | (extract_lets +onlyGivenNames x; first
      | (refine cutS (o := o) (x := x) ?_ (fun _ => ?_) <;> [subst x; clear_value x])
      | (refine cutP (o := o) (x := x) ?_ (fun _ => ?_) <;> [subst x; clear_value x])
      | (refine cutF (o := o) (x := x) ?_ (fun _ => ?_) <;> [subst x; clear_value x])
      | skip)
    | with_reducible refine ite_kept ?_ ?_
    | split
    | with_reducible refine Kept.same ?_ rfl
    | dsimp only
    | (intro _))

theorem execProbeTimeoutExpiry_kept {o : State} {a_0 : AgentId} {e_1 : ExtentId} {line_2 : ℕ} {s_3 : State} (h3 : Kept o s_3) :
    KeptOut o (@execProbeTimeoutExpiry a_0 e_1 line_2 s_3) := by
  unfold execProbeTimeoutExpiry
  repeat' (first
    | with_reducible first | assumption | refine KeptOut.next ?_ | refine State.done_kept ?_ | refine State.release_kept ?_ | refine State.probeTimeout_kept ?_
    | dsimp only)

theorem State.admitFirst_kept {o : State} {s_0 : State} {l_1 : ℕ} {a__internal_hyg0_2 : List RutReq} (h0 : Kept o s_0) :
    Kept o (@State.admitFirst s_0 l_1 a__internal_hyg0_2) := by
  induction a__internal_hyg0_2 generalizing s_0 l_1 with
  | nil =>
    unfold State.admitFirst
    repeat' (first
      | with_reducible first | assumption | refine State.complete_kept ?_ | refine State.setRut_kept ?_ | refine ih ?_ | refine ite_kept ?_ ?_
      | split
      | with_reducible refine Kept.same ?_ rfl
      | dsimp only
      | (intro _))
  | cons x l ih =>
    unfold State.admitFirst
    repeat' (first
      | with_reducible first | assumption | refine State.complete_kept ?_ | refine State.setRut_kept ?_ | refine ih ?_ | refine ite_kept ?_ ?_
      | split
      | with_reducible refine Kept.same ?_ rfl
      | dsimp only
      | (intro _))

theorem State.rutLoad_kept {o : State} {s_0 : State} {l_1 : ℕ} (h0 : Kept o s_0) :
    Kept o (@State.rutLoad s_0 l_1) := by
  unfold State.rutLoad
  repeat' (first
    | with_reducible first | assumption | refine State.admitFirst_kept ?_ | refine State.setRut_kept ?_ | refine State.touch_kept ?_ | refine State.rutRecall_kept ?_ | refine ite_kept ?_ ?_
    | split
    | with_reducible refine Kept.same ?_ rfl
    | dsimp only
    | (intro _))

theorem execRutBufferLoaded_kept {o : State} {e_0 : ExtentId} {line_1 : ℕ} {s_2 : State} (h2 : Kept o s_2) :
    KeptOut o (@execRutBufferLoaded e_0 line_1 s_2) := by
  unfold execRutBufferLoaded
  repeat' (first
    | with_reducible first | assumption | refine KeptOut.next ?_ | refine State.done_kept ?_ | refine State.release_kept ?_ | refine State.rutLoad_kept ?_ | refine ite_keptOut ?_ ?_ | refine ite_kept ?_ ?_
    | dsimp only)

theorem State.rutLeave_kept {o : State} {s_0 : State} {l_1 : ℕ} (h0 : Kept o s_0) :
    Kept o (@State.rutLeave s_0 l_1) := by
  unfold State.rutLeave
  repeat' (first
    | with_reducible first | assumption | refine State.freeLine_kept ?_ | refine State.rutLines_kept ?_ | refine ite_kept ?_ ?_
    | split
    | with_reducible refine Kept.same ?_ rfl
    | dsimp only
    | (intro _))

theorem State.rutExec_kept {o : State} {s_0 : State} {l_1 : ℕ} {a_2 : RutReq} (h0 : Kept o s_0) :
    Kept o (@State.rutExec s_0 l_1 a_2) := by
  unfold State.rutExec
  repeat' (first
    | with_reducible first | assumption | refine State.sendData_kept ?_ | refine State.answerAgain_kept ?_ | refine State.uncached_kept ?_ | refine State.execMem_kept ?_ | refine ite_kept ?_ ?_
    | split
    | with_reducible refine Kept.same ?_ rfl
    | dsimp only)

theorem State.rutCycle_kept {o : State} {s_0 : State} {l_1 : ℕ} (h0 : Kept o s_0) :
    Kept o (@State.rutCycle s_0 l_1) := by
  unfold State.rutCycle
  repeat' (first
    | with_reducible first | assumption | refine foldl_kept ?_ (fun _ _ _ => ?_) | refine State.rutLeave_kept ?_ | refine State.homeCount_kept ?_ | refine State.setRut_kept ?_ | refine State.rutExec_kept ?_ | refine State.rutAdmit_kept ?_
    | (extract_lets +onlyGivenNames x; first
      | (refine cutS (o := o) (x := x) ?_ (fun _ => ?_) <;> [subst x; clear_value x])
      | (refine cutP (o := o) (x := x) ?_ (fun _ => ?_) <;> [subst x; clear_value x])
      | (refine cutF (o := o) (x := x) ?_ (fun _ => ?_) <;> [subst x; clear_value x])
      | skip)
    | with_reducible refine ite_kept ?_ ?_
    | split
    | with_reducible refine Kept.same ?_ rfl
    | dsimp only
    | (intro _))

theorem execRutExecute_kept {o : State} {e_0 : ExtentId} {line_1 : ℕ} {s_2 : State} (h2 : Kept o s_2) :
    KeptOut o (@execRutExecute e_0 line_1 s_2) := by
  unfold execRutExecute
  repeat' (first
    | with_reducible first | assumption | refine KeptOut.next ?_ | refine State.done_kept ?_ | refine State.release_kept ?_ | refine State.rutCycle_kept ?_ | refine ite_keptOut ?_ ?_ | refine ite_kept ?_ ?_
    | dsimp only)

theorem State.rutWindow_kept {o : State} {s_0 : State} {a_1 : ℕ} (h0 : Kept o s_0) :
    Kept o (@State.rutWindow s_0 a_1) := by
  unfold State.rutWindow
  repeat' (first
    | with_reducible first | assumption | refine foldState_kept ?_ ?_ | refine State.rutLeave_kept ?_
    | (extract_lets +onlyGivenNames x; first
      | (refine cutS (o := o) (x := x) ?_ (fun _ => ?_) <;> [subst x; clear_value x])
      | (refine cutP (o := o) (x := x) ?_ (fun _ => ?_) <;> [subst x; clear_value x])
      | (refine cutF (o := o) (x := x) ?_ (fun _ => ?_) <;> [subst x; clear_value x])
      | skip)
    | with_reducible first | refine ite_kept ?_ ?_ | refine Kept.same ?_ rfl
    | dsimp only
    | (intro _))

theorem execRutWindowEnd_kept {o : State} {a_0 : QuadId} {s_1 : State} (h1 : Kept o s_1) :
    KeptOut o (@execRutWindowEnd a_0 s_1) := by
  unfold execRutWindowEnd
  repeat' (first
    | with_reducible first | assumption | refine KeptOut.next ?_ | refine State.done_kept ?_ | refine State.release_kept ?_ | refine State.rutWindow_kept ?_ | refine ite_keptOut ?_ ?_ | refine ite_kept ?_ ?_
    | dsimp only)

theorem State.startHeld_kept {o : State} {s_0 : State} {a_1 : Held} (h0 : Kept o s_0) :
    Kept o (@State.startHeld s_0 a_1) := by
  unfold State.startHeld
  repeat' (first
    | with_reducible first | assumption | refine State.answerAgain_kept ?_ | refine State.homeStart_kept ?_
    | (extract_lets +onlyGivenNames x; first
      | (refine cutS (o := o) (x := x) ?_ (fun _ => ?_) <;> [subst x; clear_value x])
      | (refine cutP (o := o) (x := x) ?_ (fun _ => ?_) <;> [subst x; clear_value x])
      | (refine cutF (o := o) (x := x) ?_ (fun _ => ?_) <;> [subst x; clear_value x])
      | skip)
    | with_reducible first | refine ite_kept ?_ ?_ | refine Kept.same ?_ rfl
    | dsimp only
    | (intro _))

theorem State.homeCycle_kept {o : State} {s_0 : State} (h0 : Kept o s_0) :
    Kept o (@State.homeCycle s_0) := by
  unfold State.homeCycle
  repeat' (first
    | with_reducible first | assumption | refine foldl_kept ?_ (fun _ _ _ => ?_) | refine foldState_kept ?_ ?_ | refine State.nextPublish_kept ?_ | refine State.startHeld_kept ?_ | refine State.freeLine_kept ?_ | refine State.release_kept ?_
    | (extract_lets +onlyGivenNames x; first
      | (refine cutS (o := o) (x := x) ?_ (fun _ => ?_) <;> [subst x; clear_value x])
      | (refine cutP (o := o) (x := x) ?_ (fun _ => ?_) <;> [subst x; clear_value x])
      | (refine cutF (o := o) (x := x) ?_ (fun _ => ?_) <;> [subst x; clear_value x])
      | skip)
    | with_reducible first | refine ite_kept ?_ ?_ | refine Kept.same ?_ rfl
    | dsimp only
    | (intro _))

theorem State.readerWrite_kept {o : State} {s_0 : State} {r_1 : ℕ} {v_2 : ℕ} (h0 : Kept o s_0) :
    Kept o (@State.readerWrite s_0 r_1 v_2).2 := by
  unfold State.readerWrite
  repeat' (first
    | with_reducible first | assumption | refine State.wr_kept ?_
    | (extract_lets +onlyGivenNames x; first
      | (refine cutS (o := o) (x := x) ?_ (fun _ => ?_) <;> [subst x; clear_value x])
      | (refine cutP (o := o) (x := x) ?_ (fun _ => ?_) <;> [subst x; clear_value x])
      | (refine cutF (o := o) (x := x) ?_ (fun _ => ?_) <;> [subst x; clear_value x])
      | skip)
    | with_reducible first | refine ite_kept2 ?_ ?_ | refine ite_kept1 ?_ ?_ | refine ite_kept ?_ ?_
    | dsimp only)
theorem State.readerWrite_eq {o : State} {s_0 : State} {r_1 : ℕ} {v_2 : ℕ} {v0 : ℕ} {t : State} (e : @State.readerWrite s_0 r_1 v_2 = (v0, t)) (h0 : Kept o s_0) : Kept o t := by
  have h : Kept o (@State.readerWrite s_0 r_1 v_2).2 := State.readerWrite_kept h0
  rw [e] at h; exact h

theorem State.thawWrite_kept {o : State} {s_0 : State} {e_1 : ℕ} {v_2 : ℕ} (h0 : Kept o s_0) :
    Kept o (@State.thawWrite s_0 e_1 v_2).2 := by
  unfold State.thawWrite
  repeat' (first
    | with_reducible first | assumption | refine State.wr_kept ?_ | refine ite_kept2 ?_ ?_ | refine ite_kept1 ?_ ?_ | refine ite_kept ?_ ?_
    | dsimp only)
theorem State.thawWrite_eq {o : State} {s_0 : State} {e_1 : ℕ} {v_2 : ℕ} {v0 : ℕ} {t : State} (e : @State.thawWrite s_0 e_1 v_2 = (v0, t)) (h0 : Kept o s_0) : Kept o t := by
  have h : Kept o (@State.thawWrite s_0 e_1 v_2).2 := State.thawWrite_kept h0
  rw [e] at h; exact h

theorem State.invalTimeout_kept {o : State} {s_0 : State} {e_1 : ℕ} {r_2 : ℕ} (h0 : Kept o s_0) :
    Kept o (@State.invalTimeout s_0 e_1 r_2) := by
  unfold State.invalTimeout
  repeat' (first
    | with_reducible first | assumption | refine State.readerDone_kept ?_ | refine State.dropReader_kept ?_ | refine ite_kept ?_ ?_
    | split
    | with_reducible refine Kept.same ?_ rfl
    | dsimp only
    | (intro _))

theorem execInvalTimeoutExpiry_kept {o : State} {e_0 : ExtentId} {r_1 : ReaderId} {s_2 : State} (h2 : Kept o s_2) :
    KeptOut o (@execInvalTimeoutExpiry e_0 r_1 s_2) := by
  unfold execInvalTimeoutExpiry
  repeat' (first
    | with_reducible first | assumption | refine KeptOut.next ?_ | refine State.done_kept ?_ | refine State.release_kept ?_ | refine State.invalTimeout_kept ?_ | refine ite_keptOut ?_ ?_ | refine ite_kept ?_ ?_
    | dsimp only)

theorem State.extEvent_kept {o : State} {s_0 : State} {e_1 : ℕ} {ev_2 : ℕ} {more_3 : List ℕ} (h0 : Kept o s_0) :
    Kept o (@State.extEvent s_0 e_1 ev_2 more_3) := by
  unfold State.extEvent
  repeat' (first
    | with_reducible first | assumption | refine State.emit_kept ?_
    | (extract_lets +onlyGivenNames x; first
      | (refine cutS (o := o) (x := x) ?_ (fun _ => ?_) <;> [subst x; clear_value x])
      | (refine cutP (o := o) (x := x) ?_ (fun _ => ?_) <;> [subst x; clear_value x])
      | (refine cutF (o := o) (x := x) ?_ (fun _ => ?_) <;> [subst x; clear_value x])
      | skip)
    | split
    | with_reducible refine Kept.same ?_ rfl
    | dsimp only)

theorem State.opEnd_kept {o : State} {s_0 : State} {e_1 : ℕ} {op_2 : ℕ} {code_3 : ℕ} {ev_4 : ℕ} (h0 : Kept o s_0) :
    Kept o (@State.opEnd s_0 e_1 op_2 code_3 ev_4) := by
  unfold State.opEnd
  repeat' (first
    | with_reducible first | assumption | refine State.extEvent_kept ?_ | refine State.wr_kept ?_
    | dsimp only)

theorem State.freeVolumeOf_kept {o : State} {s : State} {v : ℕ} (h : Kept o s) : Kept o (s.freeVolumeOf v) := by
  unfold State.freeVolumeOf
  extract_lets keys s1 p n s2
  have h1 : Kept o s1 := foldl_kept h fun _ _ h => State.nandTrim_kept h
  have h2 : Kept o s2 := Kept.updT h1 rfl h1.od h1.mem h1.cxl (sparseWf_sparseDrop _ _ _ _ h1.flash) h1.sram rfl rfl rfl rfl
  exact State.wr_kept (State.wr_kept h2)

theorem State.newVolume_kept {o : State} {s_0 : State} {e_1 : ℕ} (h0 : Kept o s_0) :
    Kept o (@State.newVolume s_0 e_1) := by
  unfold State.newVolume
  repeat' (first
    | with_reducible first | assumption | refine State.wr_kept ?_
    | (extract_lets +onlyGivenNames x; first
      | (refine cutS (o := o) (x := x) ?_ (fun _ => ?_) <;> [subst x; clear_value x])
      | (refine cutP (o := o) (x := x) ?_ (fun _ => ?_) <;> [subst x; clear_value x])
      | (refine cutF (o := o) (x := x) ?_ (fun _ => ?_) <;> [subst x; clear_value x])
      | skip)
    | with_reducible refine ite_kept ?_ ?_
    | split
    | with_reducible refine Kept.same ?_ rfl
    | dsimp only)

theorem State.poisonChunk_kept {o : State} {s_0 : State} {e_1 : ℕ} {g_2 : ℕ} {c_3 : ℕ} (h0 : Kept o s_0) :
    Kept o (@State.poisonChunk s_0 e_1 g_2 c_3) := by
  unfold State.poisonChunk
  repeat' (first
    | with_reducible first | assumption | refine foldl_kept ?_ (fun _ _ _ => ?_) | refine State.addPoison_kept ?_
    | dsimp only)

theorem State.attachVolume_kept {o : State} {s_0 : State} {e_1 : ℕ} {v_2 : ℕ} (h0 : Kept o s_0) :
    Kept o (@State.attachVolume s_0 e_1 v_2) := by
  unfold State.attachVolume
  repeat' (first
    | with_reducible first | assumption | refine foldl_kept ?_ (fun _ _ _ => ?_) | refine State.wr_kept ?_ | refine State.setGran_kept ?_ | refine State.poisonChunk_kept ?_
    | (extract_lets +onlyGivenNames x; first
      | (refine cutS (o := o) (x := x) ?_ (fun _ => ?_) <;> [subst x; clear_value x])
      | (refine cutP (o := o) (x := x) ?_ (fun _ => ?_) <;> [subst x; clear_value x])
      | (refine cutF (o := o) (x := x) ?_ (fun _ => ?_) <;> [subst x; clear_value x])
      | skip)
    | with_reducible first | refine ite_kept ?_ ?_ | refine Kept.same ?_ rfl
    | dsimp only
    | (intro _))

theorem State.takeVolume_kept {o : State} {s_0 : State} {e_1 : ℕ} (h0 : Kept o s_0) :
    Kept o (@State.takeVolume s_0 e_1) := by
  unfold State.takeVolume
  repeat' (first
    | with_reducible first | assumption | refine State.newVolume_kept ?_ | refine State.attachVolume_kept ?_ | refine ite_kept ?_ ?_
    | dsimp only)

theorem State.forgetLines_kept {o : State} {s_0 : State} {lo_1 : ℕ} {hi_2 : ℕ} (h0 : Kept o s_0) :
    Kept o (@State.forgetLines s_0 lo_1 hi_2) := by
  unfold State.forgetLines
  repeat' (first
    | with_reducible first | assumption | refine State.rutLines_kept ?_
    | (extract_lets +onlyGivenNames x; first
      | (refine cutS (o := o) (x := x) ?_ (fun _ => ?_) <;> [subst x; clear_value x])
      | (refine cutP (o := o) (x := x) ?_ (fun _ => ?_) <;> [subst x; clear_value x])
      | (refine cutF (o := o) (x := x) ?_ (fun _ => ?_) <;> [subst x; clear_value x])
      | skip)
    | with_reducible refine Kept.same ?_ rfl
    | dsimp only
    | (intro _))

theorem State.movePlace_kept {o : State} {s_0 : State} {e_1 : ℕ} {place_2 : ℕ} (h0 : Kept o s_0) :
    Kept o (@State.movePlace s_0 e_1 place_2) := by
  unfold State.movePlace
  repeat' (first
    | with_reducible first | assumption | refine foldl_kept ?_ (fun _ _ _ => ?_) | refine State.freeGranule_kept ?_ | refine State.freeVolumeOf_kept ?_ | refine State.wr_kept ?_ | refine State.newVolume_kept ?_ | refine State.allocate_some (by assumption) ?_ | refine State.allocate_kept ?_ | refine State.writePool_kept ?_
    | (extract_lets +onlyGivenNames x; first
      | (refine cutS (o := o) (x := x) ?_ (fun _ => ?_) <;> [subst x; clear_value x])
      | (refine cutP (o := o) (x := x) ?_ (fun _ => ?_) <;> [subst x; clear_value x])
      | (refine cutF (o := o) (x := x) ?_ (fun _ => ?_) <;> [subst x; clear_value x])
      | skip)
    | with_reducible refine ite_kept ?_ ?_
    | split
    | with_reducible refine Kept.same ?_ rfl
    | dsimp only
    | (intro _))

theorem State.applyChange_kept {o : State} {s : State} {e op arg : ℕ} (h : Kept o s) : Kept o (s.applyChange e op arg) := by
  unfold State.applyChange
  refine ite_kept ?_ (ite_kept ?_ (ite_kept ?_ (ite_kept ?_ (ite_kept ?_ ?_))))
  · exact State.wr_kept (State.wr_kept (State.wr_kept (State.wr_kept (ite_kept (State.takeVolume_kept h) h))))
  · exact ite_kept (State.wr_kept (State.wr_kept h)) (State.wr_kept h)
  · exact ite_kept (State.wr_kept h) (ite_kept h (foldl_kept (State.movePlace_kept h) fun _ _ h => State.addPoison_kept h))
  · exact ite_kept (Kept.same (State.wr_kept h) rfl) (State.wr_kept h)
  · refine State.wr_kept (foldl_kept h fun a g ha => ?_)
    cases e : a.allocate _ g with
    | none => exact ha
    | some t => exact State.allocate_some e ha
  · exact State.wr_kept h

theorem State.restState_kept {o : State} {s_0 : State} {e_1 : ℕ} (h0 : Kept o s_0) :
    Kept o (@State.restState s_0 e_1) := by
  unfold State.restState
  repeat' (first
    | with_reducible first | assumption | refine State.wr_kept ?_ | refine ite_kept ?_ ?_
    | dsimp only
    | (intro _))

theorem State.recallFor_kept {o : State} {s_0 : State} {r_1 : Revoke} (h0 : Kept o s_0) :
    Kept o (@State.recallFor s_0 r_1) := by
  unfold State.recallFor
  repeat' (first
    | with_reducible first | assumption | refine foldl_kept ?_ (fun _ _ _ => ?_) | refine State.setDir_kept ?_ | refine State.setHeld_kept ?_ | refine State.writeBack_kept ?_
    | (extract_lets +onlyGivenNames x; first
      | (refine cutS (o := o) (x := x) ?_ (fun _ => ?_) <;> [subst x; clear_value x])
      | (refine cutP (o := o) (x := x) ?_ (fun _ => ?_) <;> [subst x; clear_value x])
      | (refine cutF (o := o) (x := x) ?_ (fun _ => ?_) <;> [subst x; clear_value x])
      | skip)
    | with_reducible refine ite_kept ?_ ?_
    | split
    | with_reducible refine Kept.same ?_ rfl
    | dsimp only
    | (intro _))

theorem State.startRevoke_kept {o : State} {s_0 : State} {e_1 : ℕ} {op_2 : ℕ} {arg_3 : ℕ} (h0 : Kept o s_0) :
    Kept o (@State.startRevoke s_0 e_1 op_2 arg_3) := by
  unfold State.startRevoke
  repeat' (first
    | with_reducible first | assumption | refine State.wr_kept ?_ | refine State.invalidateAll_kept ?_ | refine State.invalidateAll_eq (by assumption) ?_ | refine State.recallFor_kept ?_
    | (extract_lets +onlyGivenNames x; first
      | (refine cutS (o := o) (x := x) ?_ (fun _ => ?_) <;> [subst x; clear_value x])
      | (refine cutP (o := o) (x := x) ?_ (fun _ => ?_) <;> [subst x; clear_value x])
      | (refine cutF (o := o) (x := x) ?_ (fun _ => ?_) <;> [subst x; clear_value x])
      | skip)
    | with_reducible first | refine ite_kept ?_ ?_ | refine Kept.same ?_ rfl
    | dsimp only
    | (intro _))

theorem State.unshareClosing_kept {o : State} {s_0 : State} {e_1 : ℕ} (h0 : Kept o s_0) :
    Kept o (@State.unshareClosing s_0 e_1) := by
  unfold State.unshareClosing
  repeat' (first
    | with_reducible first | assumption | refine State.startRevoke_kept ?_ | refine ite_kept ?_ ?_
    | split
    | with_reducible refine Kept.same ?_ rfl
    | dsimp only
    | (intro _))

theorem State.abandon_kept {o : State} {s_0 : State} {e_1 : ℕ} (h0 : Kept o s_0) :
    Kept o (@State.abandon s_0 e_1) := by
  unfold State.abandon
  repeat' (first
    | with_reducible first | assumption | refine State.wr_kept ?_ | refine State.opEnd_kept ?_
    | (extract_lets +onlyGivenNames x; first
      | (refine cutS (o := o) (x := x) ?_ (fun _ => ?_) <;> [subst x; clear_value x])
      | (refine cutP (o := o) (x := x) ?_ (fun _ => ?_) <;> [subst x; clear_value x])
      | (refine cutF (o := o) (x := x) ?_ (fun _ => ?_) <;> [subst x; clear_value x])
      | skip)
    | with_reducible refine ite_kept ?_ ?_
    | split
    | with_reducible refine Kept.same ?_ rfl
    | dsimp only
    | (intro _))

theorem State.revokeOp_kept {o : State} {s_0 : State} {e_1 : ℕ} (h0 : Kept o s_0) :
    Kept o (@State.revokeOp s_0 e_1) := by
  unfold State.revokeOp
  repeat' (first
    | with_reducible first | assumption | refine State.abandon_kept ?_ | refine State.extEvent_kept ?_ | refine State.wr_kept ?_ | refine State.startRevoke_kept ?_
    | (extract_lets +onlyGivenNames x; first
      | (refine cutS (o := o) (x := x) ?_ (fun _ => ?_) <;> [subst x; clear_value x])
      | (refine cutP (o := o) (x := x) ?_ (fun _ => ?_) <;> [subst x; clear_value x])
      | (refine cutF (o := o) (x := x) ?_ (fun _ => ?_) <;> [subst x; clear_value x])
      | skip)
    | with_reducible refine ite_kept ?_ ?_
    | split
    | with_reducible refine Kept.same ?_ rfl
    | dsimp only
    | (intro _))

theorem State.startOp_kept {o : State} {s_0 : State} {e_1 : ℕ} {op_2 : ℕ} {arg_3 : ℕ} (h0 : Kept o s_0) :
    Kept o (@State.startOp s_0 e_1 op_2 arg_3) := by
  unfold State.startOp
  repeat' (first
    | with_reducible first | assumption | refine State.revokeOp_kept ?_ | refine State.startRevoke_kept ?_ | refine State.opEnd_kept ?_ | refine State.wr_kept ?_ | refine State.applyChange_kept ?_ | refine ite_kept ?_ ?_ | refine Kept.same ?_ rfl
    | dsimp only)

theorem State.opWrite_kept {o : State} {s_0 : State} {e_1 : ℕ} {op_2 : ℕ} (h0 : Kept o s_0) :
    Kept o (@State.opWrite s_0 e_1 op_2).2 := by
  unfold State.opWrite
  repeat' (first
    | with_reducible first | assumption | refine State.unshareClosing_kept ?_ | refine State.startOp_kept ?_
    | (extract_lets +onlyGivenNames x; first
      | (refine cutS (o := o) (x := x) ?_ (fun _ => ?_) <;> [subst x; clear_value x])
      | (refine cutP (o := o) (x := x) ?_ (fun _ => ?_) <;> [subst x; clear_value x])
      | (refine cutF (o := o) (x := x) ?_ (fun _ => ?_) <;> [subst x; clear_value x])
      | skip)
    | with_reducible first | refine ite_kept2 ?_ ?_ | refine ite_kept1 ?_ ?_ | refine ite_kept ?_ ?_
    | dsimp only)
theorem State.opWrite_eq {o : State} {s_0 : State} {e_1 : ℕ} {op_2 : ℕ} {v0 : ℕ} {t : State} (e : @State.opWrite s_0 e_1 op_2 = (v0, t)) (h0 : Kept o s_0) : Kept o t := by
  have h : Kept o (@State.opWrite s_0 e_1 op_2).2 := State.opWrite_kept h0
  rw [e] at h; exact h

theorem State.switchChange_kept {o : State} {s_0 : State} {e_1 : ℕ} (h0 : Kept o s_0) :
    Kept o (@State.switchChange s_0 e_1) := by
  unfold State.switchChange
  repeat' (first
    | with_reducible first | assumption | refine State.applyChange_kept ?_ | refine State.unshareClosing_kept ?_ | refine State.opEnd_kept ?_ | refine State.wr_kept ?_
    | (extract_lets +onlyGivenNames x; first
      | (refine cutS (o := o) (x := x) ?_ (fun _ => ?_) <;> [subst x; clear_value x])
      | (refine cutP (o := o) (x := x) ?_ (fun _ => ?_) <;> [subst x; clear_value x])
      | (refine cutF (o := o) (x := x) ?_ (fun _ => ?_) <;> [subst x; clear_value x])
      | skip)
    | with_reducible refine ite_kept ?_ ?_
    | split
    | with_reducible refine Kept.same ?_ rfl
    | dsimp only
    | (intro _))

theorem execCompositionSwitch_kept {o : State} {e_0 : ExtentId} {s_1 : State} (h1 : Kept o s_1) :
    KeptOut o (@execCompositionSwitch e_0 s_1) := by
  unfold execCompositionSwitch
  repeat' (first
    | with_reducible first | assumption | refine KeptOut.next ?_ | refine State.done_kept ?_ | refine State.release_kept ?_ | refine State.switchChange_kept ?_
    | dsimp only)

theorem State.deadline_kept {o : State} {s_0 : State} {e_1 : ℕ} (h0 : Kept o s_0) :
    Kept o (@State.deadline s_0 e_1) := by
  unfold State.deadline
  repeat' (first
    | with_reducible first | assumption | refine State.unshareClosing_kept ?_ | refine State.abandon_kept ?_ | refine ite_kept ?_ ?_
    | split
    | with_reducible refine Kept.same ?_ rfl
    | dsimp only)

theorem execCompositionDeadlineExpiry_kept {o : State} {e_0 : ExtentId} {s_1 : State} (h1 : Kept o s_1) :
    KeptOut o (@execCompositionDeadlineExpiry e_0 s_1) := by
  unfold execCompositionDeadlineExpiry
  repeat' (first
    | with_reducible first | assumption | refine KeptOut.next ?_ | refine State.done_kept ?_ | refine State.deadline_kept ?_
    | dsimp only)

theorem State.endDrain_kept {o : State} {s_0 : State} {r_1 : Revoke} (h0 : Kept o s_0) :
    Kept o (@State.endDrain s_0 r_1) := by
  unfold State.endDrain
  repeat' (first
    | with_reducible first | assumption | refine foldl_kept ?_ (fun _ _ _ => ?_) | refine State.failHeld_kept ?_ | refine State.answerHere_kept ?_ | refine State.extEvent_kept ?_
    | (extract_lets +onlyGivenNames x; first
      | (refine cutS (o := o) (x := x) ?_ (fun _ => ?_) <;> [subst x; clear_value x])
      | (refine cutP (o := o) (x := x) ?_ (fun _ => ?_) <;> [subst x; clear_value x])
      | (refine cutF (o := o) (x := x) ?_ (fun _ => ?_) <;> [subst x; clear_value x])
      | skip)
    | with_reducible first | refine ite_kept ?_ ?_ | refine Kept.same ?_ rfl
    | dsimp only
    | (intro _))

theorem execRevokeDrainEnd_kept {o : State} {e_0 : ExtentId} {s_1 : State} (h1 : Kept o s_1) :
    KeptOut o (@execRevokeDrainEnd e_0 s_1) := by
  unfold execRevokeDrainEnd
  repeat' (first
    | with_reducible first | assumption | refine KeptOut.next ?_ | refine State.done_kept ?_ | refine State.endDrain_kept ?_ | refine ite_keptOut ?_ ?_ | refine ite_kept ?_ ?_
    | split
    | with_reducible refine Kept.same ?_ rfl
    | dsimp only)

theorem execRevokeTimeoutExpiry_kept {o : State} {e_0 : ExtentId} {s_1 : State} (h1 : Kept o s_1) :
    KeptOut o (@execRevokeTimeoutExpiry e_0 s_1) := by
  unfold execRevokeTimeoutExpiry
  repeat' (first
    | with_reducible first | assumption | refine KeptOut.next ?_ | refine State.done_kept ?_ | refine State.endDrain_kept ?_ | refine ite_keptOut ?_ ?_ | refine ite_kept ?_ ?_
    | split
    | with_reducible refine Kept.same ?_ rfl
    | dsimp only)

theorem State.dropBlocks_kept {o : State} {s_0 : State} {e_1 : ℕ} (h0 : Kept o s_0) :
    Kept o (@State.dropBlocks s_0 e_1) := by
  unfold State.dropBlocks
  repeat' (first
    | with_reducible first | assumption | refine Kept.same ?_ rfl
    | dsimp only
    | (intro _))

theorem State.forgetReaders_kept {o : State} {s_0 : State} {e_1 : ℕ} (h0 : Kept o s_0) :
    Kept o (@State.forgetReaders s_0 e_1) := by
  unfold State.forgetReaders
  repeat' (first
    | with_reducible first | assumption | refine foldl_kept ?_ (fun _ _ _ => ?_) | refine State.wr_kept ?_
    | dsimp only
    | (intro _))

theorem State.revokeFree_kept {o : State} {s_0 : State} {r_1 : Revoke} (h0 : Kept o s_0) :
    Kept o (@State.revokeFree s_0 r_1) := by
  unfold State.revokeFree
  repeat' (first
    | with_reducible first | assumption | refine foldl_kept ?_ (fun _ _ _ => ?_) | refine State.wr_kept ?_ | refine State.unshareClosing_kept ?_ | refine State.extEvent_kept ?_ | refine State.freeGranule_kept ?_ | refine State.forgetLines_kept ?_ | refine State.dropBlocks_kept ?_ | refine State.dropOwn_kept ?_ | refine State.freeVolumeOf_kept ?_ | refine State.forgetReaders_kept ?_
    | (extract_lets +onlyGivenNames x; first
      | (refine cutS (o := o) (x := x) ?_ (fun _ => ?_) <;> [subst x; clear_value x])
      | (refine cutP (o := o) (x := x) ?_ (fun _ => ?_) <;> [subst x; clear_value x])
      | (refine cutF (o := o) (x := x) ?_ (fun _ => ?_) <;> [subst x; clear_value x])
      | skip)
    | with_reducible first | refine ite_kept ?_ ?_ | refine Kept.same ?_ rfl
    | dsimp only
    | (intro _))

theorem execRevokeFree_kept {o : State} {e_0 : ExtentId} {s_1 : State} (h1 : Kept o s_1) :
    KeptOut o (@execRevokeFree e_0 s_1) := by
  unfold execRevokeFree
  repeat' (first
    | with_reducible first | assumption | refine KeptOut.next ?_ | refine State.done_kept ?_ | refine State.release_kept ?_ | refine State.revokeFree_kept ?_
    | split
    | with_reducible refine Kept.same ?_ rfl
    | dsimp only)

theorem execGranuleFillDone_kept {o : State} {e_0 : ExtentId} {g_1 : ℕ} {s_2 : State} (h2 : Kept o s_2) :
    KeptOut o (@execGranuleFillDone e_0 g_1 s_2) := by
  unfold execGranuleFillDone
  repeat' (first
    | with_reducible first | assumption | refine KeptOut.next ?_ | refine State.done_kept ?_ | refine State.release_kept ?_ | refine State.endFill_kept ?_ | refine ite_keptOut ?_ ?_ | refine ite_kept ?_ ?_
    | dsimp only)

theorem execGranuleEviction_kept {o : State} {e_0 : ExtentId} {g_1 : ℕ} {s_2 : State} (h2 : Kept o s_2) :
    KeptOut o (@execGranuleEviction e_0 g_1 s_2) := by
  unfold execGranuleEviction
  repeat' (first
    | with_reducible first | assumption | refine KeptOut.next ?_ | refine State.done_kept ?_ | refine State.release_kept ?_ | refine State.evict_kept ?_ | refine ite_keptOut ?_ ?_ | refine ite_kept ?_ ?_
    | dsimp only)

theorem execBackgroundZeroing_kept {o : State} {e_0 : ExtentId} {g_1 : ℕ} {chunk_2 : Fin 32} {s_3 : State} (h3 : Kept o s_3) :
    KeptOut o (@execBackgroundZeroing e_0 g_1 chunk_2 s_3) := by
  unfold execBackgroundZeroing
  repeat' (first
    | with_reducible first | assumption | refine KeptOut.next ?_ | refine State.done_kept ?_ | refine State.openChunk_kept ?_
    | (extract_lets +onlyGivenNames x; first
      | (refine cutS (o := o) (x := x) ?_ (fun _ => ?_) <;> [subst x; clear_value x])
      | (refine cutP (o := o) (x := x) ?_ (fun _ => ?_) <;> [subst x; clear_value x])
      | (refine cutF (o := o) (x := x) ?_ (fun _ => ?_) <;> [subst x; clear_value x])
      | skip)
    | with_reducible first | refine ite_keptOut ?_ ?_ | refine ite_kept ?_ ?_
    | dsimp only)

theorem State.writeThroughs_kept {o : State} {s_0 : State} {e_1 : ℕ} {place_2 : ℕ} (h0 : Kept o s_0) :
    Kept o (@State.writeThroughs s_0 e_1 place_2) := by
  unfold State.writeThroughs
  repeat' (first
    | with_reducible first | assumption | refine foldl_kept ?_ (fun _ _ _ => ?_) | refine State.applyWrite_kept ?_
    | (extract_lets +onlyGivenNames x; first
      | (refine cutS (o := o) (x := x) ?_ (fun _ => ?_) <;> [subst x; clear_value x])
      | (refine cutP (o := o) (x := x) ?_ (fun _ => ?_) <;> [subst x; clear_value x])
      | (refine cutF (o := o) (x := x) ?_ (fun _ => ?_) <;> [subst x; clear_value x])
      | skip)
    | with_reducible refine ite_kept ?_ ?_
    | split
    | with_reducible refine Kept.same ?_ rfl
    | dsimp only
    | (intro _))

theorem execChunkCleanDone_kept {o : State} {e_0 : ExtentId} {g_1 : ℕ} {chunk_2 : Fin 32} {s_3 : State} (h3 : Kept o s_3) :
    KeptOut o (@execChunkCleanDone e_0 g_1 chunk_2 s_3) := by
  unfold execChunkCleanDone
  repeat' (first
    | with_reducible first | assumption | refine KeptOut.next ?_ | refine State.done_kept ?_ | refine State.release_kept ?_ | refine State.writeThroughs_kept ?_ | refine State.cleanChunk_kept ?_ | refine ite_keptOut ?_ ?_ | refine ite_kept ?_ ?_
    | dsimp only)

theorem State.blockDone_kept {o : State} {s_0 : State} {e_1 : ℕ} {b_2 : ℕ} (h0 : Kept o s_0) :
    Kept o (@State.blockDone s_0 e_1 b_2) := by
  unfold State.blockDone
  repeat' (first
    | with_reducible first | assumption | refine foldl_kept ?_ (fun _ _ _ => ?_) | refine State.release_kept ?_ | refine State.tally_kept ?_ | refine State.bufferBlock_kept ?_ | refine State.complete_kept ?_ | refine State.emit_kept ?_
    | (extract_lets +onlyGivenNames x; first
      | (refine cutS (o := o) (x := x) ?_ (fun _ => ?_) <;> [subst x; clear_value x])
      | (refine cutP (o := o) (x := x) ?_ (fun _ => ?_) <;> [subst x; clear_value x])
      | (refine cutF (o := o) (x := x) ?_ (fun _ => ?_) <;> [subst x; clear_value x])
      | skip)
    | with_reducible refine ite_kept ?_ ?_
    | split
    | with_reducible refine Kept.same ?_ rfl
    | dsimp only
    | (intro _))

theorem execBlockExpansionDone_kept {o : State} {e_0 : ExtentId} {block_1 : ℕ} {s_2 : State} (h2 : Kept o s_2) :
    KeptOut o (@execBlockExpansionDone e_0 block_1 s_2) := by
  unfold execBlockExpansionDone
  repeat' (first
    | with_reducible first | assumption | refine KeptOut.next ?_ | refine State.done_kept ?_ | refine State.blockDone_kept ?_ | refine ite_keptOut ?_ ?_ | refine ite_kept ?_ ?_
    | dsimp only)

theorem State.moveGranule_kept {o : State} {s_0 : State} {e_1 : ℕ} {g_2 : ℕ} {f_3 : ℕ} (h0 : Kept o s_0) :
    Kept o (@State.moveGranule s_0 e_1 g_2 f_3) := by
  unfold State.moveGranule
  repeat' (first
    | with_reducible first | assumption | refine State.setGran_kept ?_ | refine State.setFrame_kept ?_
    | (extract_lets +onlyGivenNames x; first
      | (refine cutS (o := o) (x := x) ?_ (fun _ => ?_) <;> [subst x; clear_value x])
      | (refine cutP (o := o) (x := x) ?_ (fun _ => ?_) <;> [subst x; clear_value x])
      | (refine cutF (o := o) (x := x) ?_ (fun _ => ?_) <;> [subst x; clear_value x])
      | skip)
    | with_reducible first | refine ite_kept ?_ ?_ | refine Kept.same ?_ rfl
    | dsimp only
    | (intro _))

theorem execGranuleMove_kept {o : State} {e_0 : ExtentId} {g_1 : ℕ} {frame_2 : ℕ} {s_3 : State} (h3 : Kept o s_3) :
    KeptOut o (@execGranuleMove e_0 g_1 frame_2 s_3) := by
  unfold execGranuleMove
  repeat' (first
    | with_reducible first | assumption | refine KeptOut.next ?_ | refine State.done_kept ?_ | refine State.release_kept ?_ | refine State.moveGranule_kept ?_
    | dsimp only)

theorem State.enterUp_kept {o : State} {s_0 : State} {p_1 : PortId} (h0 : Kept o s_0) :
    Kept o (@State.enterUp s_0 p_1) := by
  unfold State.enterUp
  repeat' (first
    | with_reducible first | assumption | refine State.wr_kept ?_ | refine State.sendRecords_kept ?_ | refine State.noteUp_kept ?_ | refine State.send_kept ?_ | refine State.resend_kept ?_ | refine State.pump_kept ?_ | refine State.recompute_kept ?_
    | (extract_lets +onlyGivenNames x; first
      | (refine cutS (o := o) (x := x) ?_ (fun _ => ?_) <;> [subst x; clear_value x])
      | (refine cutP (o := o) (x := x) ?_ (fun _ => ?_) <;> [subst x; clear_value x])
      | (refine cutF (o := o) (x := x) ?_ (fun _ => ?_) <;> [subst x; clear_value x])
      | skip)
    | with_reducible first | refine ite_kept ?_ ?_ | refine Kept.same ?_ rfl
    | dsimp only)

theorem State.trained_kept {o : State} {s_0 : State} {p_1 : PortId} (h0 : Kept o s_0) :
    Kept o (@State.trained s_0 p_1) := by
  unfold State.trained
  repeat' (first
    | with_reducible first | assumption | refine State.setTraining_kept ?_ | refine State.enterUp_kept ?_ | refine State.wr_kept ?_
    | (extract_lets +onlyGivenNames x; first
      | (refine cutS (o := o) (x := x) ?_ (fun _ => ?_) <;> [subst x; clear_value x])
      | (refine cutP (o := o) (x := x) ?_ (fun _ => ?_) <;> [subst x; clear_value x])
      | (refine cutF (o := o) (x := x) ?_ (fun _ => ?_) <;> [subst x; clear_value x])
      | skip)
    | with_reducible refine ite_kept ?_ ?_
    | dsimp only)

theorem State.setAmps_kept {o : State} {s_0 : State} {a__internal_hyg0_1 : List (ℕ × ℕ)} (h0 : Kept o s_0) :
    Kept o (@State.setAmps s_0 a__internal_hyg0_1) := by
  induction a__internal_hyg0_1 generalizing s_0 with
  | nil =>
    unfold State.setAmps
    repeat' (first
      | with_reducible first | assumption | refine State.wr_kept ?_ | refine ih ?_
      | split
      | dsimp only
      | (intro _))
  | cons x l ih =>
    unfold State.setAmps
    repeat' (first
      | with_reducible first | assumption | refine State.wr_kept ?_ | refine ih ?_
      | split
      | dsimp only
      | (intro _))

theorem State.freshTags_kept {o : State} {s_0 : State} {p_1 : ℕ} (h0 : Kept o s_0) :
    Kept o (@State.freshTags s_0 p_1) := by
  unfold State.freshTags
  repeat' (first
    | with_reducible first | assumption | refine Kept.same ?_ rfl
    | dsimp only)

theorem State.linkStart_kept {o : State} {s_0 : State} {p_1 : PortId} {r_2 : StageResult} (h0 : Kept o s_0) :
    Kept o (@State.linkStart s_0 p_1 r_2) := by
  unfold State.linkStart
  repeat' (first
    | with_reducible first | assumption | refine State.wr_kept ?_ | refine State.setTraining_kept ?_ | refine State.emit_kept ?_ | refine State.trained_kept ?_ | refine State.freshTags_kept ?_ | refine State.send_kept ?_ | refine State.setLink_kept ?_
    | (extract_lets +onlyGivenNames x; first
      | (refine cutS (o := o) (x := x) ?_ (fun _ => ?_) <;> [subst x; clear_value x])
      | (refine cutP (o := o) (x := x) ?_ (fun _ => ?_) <;> [subst x; clear_value x])
      | (refine cutF (o := o) (x := x) ?_ (fun _ => ?_) <;> [subst x; clear_value x])
      | skip)
    | with_reducible refine ite_kept ?_ ?_
    | split
    | with_reducible refine Kept.same ?_ rfl
    | dsimp only)

theorem State.stageDone_kept {o : State} {s_0 : State} {p_1 : PortId} {r_2 : StageResult} (h0 : Kept o s_0) :
    Kept o (@State.stageDone s_0 p_1 r_2) := by
  unfold State.stageDone
  repeat' (first
    | with_reducible first | assumption | refine State.setTraining_kept ?_ | refine State.setAmps_kept ?_ | refine State.linkStart_kept ?_
    | (extract_lets +onlyGivenNames x; first
      | (refine cutS (o := o) (x := x) ?_ (fun _ => ?_) <;> [subst x; clear_value x])
      | (refine cutP (o := o) (x := x) ?_ (fun _ => ?_) <;> [subst x; clear_value x])
      | (refine cutF (o := o) (x := x) ?_ (fun _ => ?_) <;> [subst x; clear_value x])
      | skip)
    | with_reducible refine ite_kept ?_ ?_
    | split
    | with_reducible refine Kept.same ?_ rfl
    | dsimp only
    | (intro _))

theorem State.cxlTrained_kept {o : State} {s_0 : State} {p_1 : PortId} {r_2 : StageResult} (h0 : Kept o s_0) :
    Kept o (@State.cxlTrained s_0 p_1 r_2) := by
  unfold State.cxlTrained
  repeat' (first
    | with_reducible first | assumption | refine State.trained_kept ?_ | refine State.wr_kept ?_
    | (extract_lets +onlyGivenNames x; first
      | (refine cutS (o := o) (x := x) ?_ (fun _ => ?_) <;> [subst x; clear_value x])
      | (refine cutP (o := o) (x := x) ?_ (fun _ => ?_) <;> [subst x; clear_value x])
      | (refine cutF (o := o) (x := x) ?_ (fun _ => ?_) <;> [subst x; clear_value x])
      | skip)
    | with_reducible refine ite_kept ?_ ?_
    | dsimp only)

theorem execTrainingStageDone_kept {o : State} {p_0 : PortId} {r_1 : StageResult} {s_2 : State} (h2 : Kept o s_2) :
    KeptOut o (@execTrainingStageDone p_0 r_1 s_2) := by
  unfold execTrainingStageDone
  repeat' (first
    | with_reducible first | assumption | refine KeptOut.next ?_ | refine State.done_kept ?_ | refine State.cxlTrained_kept ?_ | refine State.stageDone_kept ?_ | refine ite_keptOut ?_ ?_ | refine ite_kept ?_ ?_
    | dsimp only)

theorem State.stageTimeout_kept {o : State} {s_0 : State} {p_1 : ℕ} (h0 : Kept o s_0) :
    Kept o (@State.stageTimeout s_0 p_1) := by
  unfold State.stageTimeout
  repeat' (first
    | with_reducible first | assumption | refine State.setTraining_kept ?_ | refine State.wr_kept ?_
    | (extract_lets +onlyGivenNames x; first
      | (refine cutS (o := o) (x := x) ?_ (fun _ => ?_) <;> [subst x; clear_value x])
      | (refine cutP (o := o) (x := x) ?_ (fun _ => ?_) <;> [subst x; clear_value x])
      | (refine cutF (o := o) (x := x) ?_ (fun _ => ?_) <;> [subst x; clear_value x])
      | skip)
    | with_reducible first | refine ite_kept ?_ ?_ | refine Kept.same ?_ rfl
    | dsimp only)

theorem execTrainingStageTimeout_kept {o : State} {p_0 : PortId} {s_1 : State} (h1 : Kept o s_1) :
    KeptOut o (@execTrainingStageTimeout p_0 s_1) := by
  unfold execTrainingStageTimeout
  repeat' (first
    | with_reducible first | assumption | refine KeptOut.next ?_ | refine State.done_kept ?_ | refine State.stageTimeout_kept ?_
    | dsimp only)

theorem State.retry_kept {o : State} {s_0 : State} {p_1 : ℕ} (h0 : Kept o s_0) :
    Kept o (@State.retry s_0 p_1) := by
  unfold State.retry
  repeat' (first
    | with_reducible first | assumption | refine State.startTraining_kept ?_ | refine State.wr_kept ?_ | refine State.retrainAt_kept ?_
    | (extract_lets +onlyGivenNames x; first
      | (refine cutS (o := o) (x := x) ?_ (fun _ => ?_) <;> [subst x; clear_value x])
      | (refine cutP (o := o) (x := x) ?_ (fun _ => ?_) <;> [subst x; clear_value x])
      | (refine cutF (o := o) (x := x) ?_ (fun _ => ?_) <;> [subst x; clear_value x])
      | skip)
    | with_reducible refine ite_kept ?_ ?_
    | split
    | with_reducible refine Kept.same ?_ rfl
    | dsimp only)

theorem execTrainingRetry_kept {o : State} {p_0 : PortId} {s_1 : State} (h1 : Kept o s_1) :
    KeptOut o (@execTrainingRetry p_0 s_1) := by
  unfold execTrainingRetry
  repeat' (first
    | with_reducible first | assumption | refine KeptOut.next ?_ | refine State.done_kept ?_ | refine State.retry_kept ?_
    | dsimp only)

theorem State.retrainWrite_kept {o : State} {s_0 : State} {p_1 : PortId} (h0 : Kept o s_0) :
    Kept o (@State.retrainWrite s_0 p_1) := by
  unfold State.retrainWrite
  repeat' (first
    | with_reducible first | assumption | refine State.downEvent_kept ?_ ?_ | refine State.trainFull_kept ?_ | refine State.portGone_kept ?_ | refine State.countRetrain_kept ?_ | refine ite_kept ?_ ?_
    | dsimp only
    | (intro _))

theorem State.cxlFail_kept {o : State} {s_0 : State} {p_1 : PortId} (h0 : Kept o s_0) :
    Kept o (@State.cxlFail s_0 p_1) := by
  unfold State.cxlFail
  repeat' (first
    | with_reducible first | assumption | refine State.portGone_kept ?_ | refine State.setTraining_kept ?_ | refine State.wr_kept ?_ | refine ite_kept ?_ ?_
    | dsimp only)

theorem State.laneBad_kept {o : State} {s_0 : State} {l_1 : ℕ} (h0 : Kept o s_0) :
    Kept o (@State.laneBad s_0 l_1) := by
  unfold State.laneBad
  repeat' (first
    | with_reducible first | assumption | refine State.wr_kept ?_ | refine State.cxlFail_kept ?_ | refine State.portDown_kept ?_ | refine State.retrainAt_kept ?_ | refine State.countRetrain_kept ?_
    | (extract_lets +onlyGivenNames x; first
      | (refine cutS (o := o) (x := x) ?_ (fun _ => ?_) <;> [subst x; clear_value x])
      | (refine cutP (o := o) (x := x) ?_ (fun _ => ?_) <;> [subst x; clear_value x])
      | (refine cutF (o := o) (x := x) ?_ (fun _ => ?_) <;> [subst x; clear_value x])
      | skip)
    | with_reducible refine ite_kept ?_ ?_
    | split
    | with_reducible refine Kept.same ?_ rfl
    | dsimp only)

theorem execLaneSignalLoss_kept {o : State} {l_0 : LaneId} {s_1 : State} (h1 : Kept o s_1) :
    KeptOut o (@execLaneSignalLoss l_0 s_1) := by
  unfold execLaneSignalLoss
  repeat' (first
    | with_reducible first | assumption | refine KeptOut.next ?_ | refine State.done_kept ?_ | refine State.laneBad_kept ?_
    | dsimp only)

theorem execLaneSerCheck_kept {o : State} {l_0 : LaneId} {corrected_1 : Word} {s_2 : State} (h2 : Kept o s_2) :
    KeptOut o (@execLaneSerCheck l_0 corrected_1 s_2) := by
  unfold execLaneSerCheck
  repeat' (first
    | with_reducible first | assumption | refine KeptOut.next ?_ | refine State.bump_kept ?_ | refine State.done_kept ?_ | refine State.laneBad_kept ?_
    | (extract_lets +onlyGivenNames x; first
      | (refine cutS (o := o) (x := x) ?_ (fun _ => ?_) <;> [subst x; clear_value x])
      | (refine cutP (o := o) (x := x) ?_ (fun _ => ?_) <;> [subst x; clear_value x])
      | (refine cutF (o := o) (x := x) ?_ (fun _ => ?_) <;> [subst x; clear_value x])
      | skip)
    | with_reducible first | refine ite_keptOut ?_ ?_ | refine ite_kept ?_ ?_
    | dsimp only)

theorem execPenaltyReuse_kept {o : State} {p_0 : PortId} {s_1 : State} (h1 : Kept o s_1) :
    KeptOut o (@execPenaltyReuse p_0 s_1) := by
  unfold execPenaltyReuse
  repeat' (first
    | with_reducible first | assumption | refine KeptOut.next ?_ | refine State.done_kept ?_ | refine State.enterUp_kept ?_ | refine ite_keptOut ?_ ?_ | refine ite_kept ?_ ?_
    | dsimp only)

theorem State.boardWrite_kept {o : State} {s_0 : State} {r_1 : LinkRecord} (h0 : Kept o s_0) :
    Kept o (@State.boardWrite s_0 r_1) := by
  unfold State.boardWrite
  repeat' (first
    | with_reducible first | assumption | refine State.allocate_some (by assumption) ?_ | refine State.allocate_kept ?_ | refine State.writePool_kept ?_
    | (extract_lets +onlyGivenNames x; first
      | (refine cutS (o := o) (x := x) ?_ (fun _ => ?_) <;> [subst x; clear_value x])
      | (refine cutP (o := o) (x := x) ?_ (fun _ => ?_) <;> [subst x; clear_value x])
      | (refine cutF (o := o) (x := x) ?_ (fun _ => ?_) <;> [subst x; clear_value x])
      | skip)
    | with_reducible refine ite_kept ?_ ?_
    | split
    | with_reducible refine Kept.same ?_ rfl
    | dsimp only)

theorem execLinkStateRecord_kept {o : State} {r_0 : LinkRecord} {s_1 : State} (h1 : Kept o s_1) :
    KeptOut o (@execLinkStateRecord r_0 s_1) := by
  unfold execLinkStateRecord
  repeat' (first
    | with_reducible first | assumption | refine KeptOut.next ?_ | refine State.done_kept ?_ | refine State.recordIn_kept ?_ | refine State.boardWrite_kept ?_
    | (extract_lets +onlyGivenNames x; first
      | (refine cutS (o := o) (x := x) ?_ (fun _ => ?_) <;> [subst x; clear_value x])
      | (refine cutP (o := o) (x := x) ?_ (fun _ => ?_) <;> [subst x; clear_value x])
      | (refine cutF (o := o) (x := x) ?_ (fun _ => ?_) <;> [subst x; clear_value x])
      | skip)
    | with_reducible first | refine ite_keptOut ?_ ?_ | refine ite_kept ?_ ?_
    | split
    | with_reducible refine Kept.same ?_ rfl
    | dsimp only
    | (intro _))

theorem State.linksBack_kept {o : State} {s_0 : State} (h0 : Kept o s_0) :
    Kept o (@State.linksBack s_0) := by
  unfold State.linksBack
  repeat' (first
    | with_reducible first | assumption | refine foldl_kept ?_ (fun _ _ _ => ?_)
    | (extract_lets +onlyGivenNames x; first
      | (refine cutS (o := o) (x := x) ?_ (fun _ => ?_) <;> [subst x; clear_value x])
      | (refine cutP (o := o) (x := x) ?_ (fun _ => ?_) <;> [subst x; clear_value x])
      | (refine cutF (o := o) (x := x) ?_ (fun _ => ?_) <;> [subst x; clear_value x])
      | skip)
    | split
    | with_reducible refine Kept.same ?_ rfl
    | dsimp only
    | (intro _))

theorem State.switchTime_kept {o : State} {s_0 : State} {d_1 : ℕ} (h0 : Kept o s_0) :
    Kept o (@State.switchTime s_0 d_1) := by
  unfold State.switchTime
  repeat' (first
    | with_reducible first | assumption | refine State.linksBack_kept ?_ | refine State.wr_kept ?_ | refine State.moveRoute_kept ?_ | refine State.resend_kept ?_ | refine State.endHolds_kept ?_
    | (extract_lets +onlyGivenNames x; first
      | (refine cutS (o := o) (x := x) ?_ (fun _ => ?_) <;> [subst x; clear_value x])
      | (refine cutP (o := o) (x := x) ?_ (fun _ => ?_) <;> [subst x; clear_value x])
      | (refine cutF (o := o) (x := x) ?_ (fun _ => ?_) <;> [subst x; clear_value x])
      | skip)
    | with_reducible first | refine ite_kept ?_ ?_ | refine Kept.same ?_ rfl
    | dsimp only
    | (intro _))

theorem execSwitchTimeReached_kept {o : State} {dst_0 : A9Id} {s_1 : State} (h1 : Kept o s_1) :
    KeptOut o (@execSwitchTimeReached dst_0 s_1) := by
  unfold execSwitchTimeReached
  repeat' (first
    | with_reducible first | assumption | refine KeptOut.next ?_ | refine State.done_kept ?_ | refine State.switchTime_kept ?_
    | dsimp only)

theorem execCxlLinkFail_kept {o : State} {p_0 : PortId} {s_1 : State} (h1 : Kept o s_1) :
    KeptOut o (@execCxlLinkFail p_0 s_1) := by
  unfold execCxlLinkFail
  repeat' (first
    | with_reducible first | assumption | refine KeptOut.next ?_ | refine State.done_kept ?_ | refine State.cxlFail_kept ?_
    | dsimp only)

theorem State.dcAdd_kept {o : State} {s_0 : State} {p_1 : PortId} {first_2 : ℕ} {count_3 : ℕ} (h0 : Kept o s_0) :
    Kept o (@State.dcAdd s_0 p_1 first_2 count_3) := by
  unfold State.dcAdd
  repeat' (first
    | with_reducible first | assumption | refine ite_kept ?_ ?_ | refine Kept.same ?_ rfl
    | dsimp only)

theorem execCxlDcAdd_kept {o : State} {p_0 : PortId} {region_1 : CxlRegion} {s_2 : State} (h2 : Kept o s_2) :
    KeptOut o (@execCxlDcAdd p_0 region_1 s_2) := by
  unfold execCxlDcAdd
  repeat' (first
    | with_reducible first | assumption | refine KeptOut.next ?_ | refine State.done_kept ?_ | refine State.dcAdd_kept ?_
    | dsimp only)

theorem State.dcRelease_kept {o : State} {s_0 : State} {p_1 : PortId} {first_2 : ℕ} {count_3 : ℕ} (h0 : Kept o s_0) :
    Kept o (@State.dcRelease s_0 p_1 first_2 count_3) := by
  unfold State.dcRelease
  repeat' (first
    | with_reducible first | assumption | refine State.emit_kept ?_
    | (extract_lets +onlyGivenNames x; first
      | (refine cutS (o := o) (x := x) ?_ (fun _ => ?_) <;> [subst x; clear_value x])
      | (refine cutP (o := o) (x := x) ?_ (fun _ => ?_) <;> [subst x; clear_value x])
      | (refine cutF (o := o) (x := x) ?_ (fun _ => ?_) <;> [subst x; clear_value x])
      | skip)
    | with_reducible first | refine ite_kept ?_ ?_ | refine Kept.same ?_ rfl
    | dsimp only
    | (intro _))

theorem execCxlDcReleaseRequest_kept {o : State} {p_0 : PortId} {region_1 : CxlRegion} {s_2 : State} (h2 : Kept o s_2) :
    KeptOut o (@execCxlDcReleaseRequest p_0 region_1 s_2) := by
  unfold execCxlDcReleaseRequest
  repeat' (first
    | with_reducible first | assumption | refine KeptOut.next ?_ | refine State.done_kept ?_ | refine State.dcRelease_kept ?_
    | dsimp only)

theorem State.loseChunk_kept {o : State} {s_0 : State} {key_1 : ℕ} {p_2 : ℕ} (h0 : Kept o s_0) :
    Kept o (@State.loseChunk s_0 key_1 p_2) := by
  unfold State.loseChunk
  repeat' (first
    | with_reducible first | assumption | refine foldl_kept ?_ (fun _ _ _ => ?_) | refine State.wr_kept ?_ | refine State.poisonChunk_kept ?_ | refine State.emit_kept ?_ | refine State.bump_kept ?_
    | (extract_lets +onlyGivenNames x; first
      | (refine cutS (o := o) (x := x) ?_ (fun _ => ?_) <;> [subst x; clear_value x])
      | (refine cutP (o := o) (x := x) ?_ (fun _ => ?_) <;> [subst x; clear_value x])
      | (refine cutF (o := o) (x := x) ?_ (fun _ => ?_) <;> [subst x; clear_value x])
      | skip)
    | with_reducible first | refine ite_kept ?_ ?_ | refine Kept.same ?_ rfl
    | dsimp only
    | (intro _))

theorem State.attachShelf_kept {o : State} {s_0 : State} {p_1 : ℕ} {g_2 : ShelfGeometry} (h0 : Kept o s_0) :
    Kept o (@State.attachShelf s_0 p_1 g_2) := by
  unfold State.attachShelf
  repeat' (first
    | with_reducible first | assumption | refine foldl_kept ?_ (fun _ _ _ => ?_) | refine State.emit_kept ?_ | refine State.wr_kept ?_ | refine State.loseChunk_kept ?_ | refine State.pump_kept ?_ | refine State.recompute_kept ?_
    | (extract_lets +onlyGivenNames x; first
      | (refine cutS (o := o) (x := x) ?_ (fun _ => ?_) <;> [subst x; clear_value x])
      | (refine cutP (o := o) (x := x) ?_ (fun _ => ?_) <;> [subst x; clear_value x])
      | (refine cutF (o := o) (x := x) ?_ (fun _ => ?_) <;> [subst x; clear_value x])
      | skip)
    | with_reducible first | refine ite_kept ?_ ?_ | refine Kept.same ?_ rfl
    | dsimp only
    | (intro _))

theorem execShelfAttach_kept {o : State} {p_0 : PortId} {geo_1 : ShelfGeometry} {s_2 : State} (h2 : Kept o s_2) :
    KeptOut o (@execShelfAttach p_0 geo_1 s_2) := by
  unfold execShelfAttach
  repeat' (first
    | with_reducible first | assumption | refine KeptOut.next ?_ | refine State.done_kept ?_ | refine State.release_kept ?_ | refine State.attachShelf_kept ?_
    | dsimp only)

theorem State.copyBlock_kept {o : State} {s_0 : State} {b_1 : ℕ} (h0 : Kept o s_0) :
    Kept o (@State.copyBlock s_0 b_1) := by
  unfold State.copyBlock
  repeat' (first
    | with_reducible first | assumption | refine foldl_kept ?_ (fun _ _ _ => ?_) | refine State.addJob_kept ?_
    | (extract_lets +onlyGivenNames x; first
      | (refine cutS (o := o) (x := x) ?_ (fun _ => ?_) <;> [subst x; clear_value x])
      | (refine cutP (o := o) (x := x) ?_ (fun _ => ?_) <;> [subst x; clear_value x])
      | (refine cutF (o := o) (x := x) ?_ (fun _ => ?_) <;> [subst x; clear_value x])
      | skip)
    | with_reducible first | refine ite_kept ?_ ?_ | refine Kept.same ?_ rfl
    | dsimp only
    | (intro _))

theorem State.retireBlock_kept {o : State} {s_0 : State} {b_1 : ℕ} (h0 : Kept o s_0) :
    Kept o (@State.retireBlock s_0 b_1) := by
  unfold State.retireBlock
  repeat' (first
    | with_reducible first | assumption | refine foldl_kept ?_ (fun _ _ _ => ?_) | refine State.setNandBlock_kept ?_ | refine State.bump_kept ?_ | refine State.wr_kept ?_ | refine State.addJob_kept ?_
    | (extract_lets +onlyGivenNames x; first
      | (refine cutS (o := o) (x := x) ?_ (fun _ => ?_) <;> [subst x; clear_value x])
      | (refine cutP (o := o) (x := x) ?_ (fun _ => ?_) <;> [subst x; clear_value x])
      | (refine cutF (o := o) (x := x) ?_ (fun _ => ?_) <;> [subst x; clear_value x])
      | skip)
    | with_reducible first | refine ite_kept ?_ ?_ | refine Kept.same ?_ rfl
    | dsimp only
    | (intro _))

theorem State.eraseReady_kept {o : State} {s_0 : State} (h0 : Kept o s_0) :
    Kept o (@State.eraseReady s_0) := by
  unfold State.eraseReady
  repeat' (first
    | with_reducible first | assumption | refine foldl_kept ?_ (fun _ _ _ => ?_) | refine State.addJob_kept ?_ | refine Kept.same ?_ rfl
    | dsimp only
    | (intro _))

theorem State.dropJob_kept {o : State} {s_0 : State} {id_1 : ℕ} (h0 : Kept o s_0) :
    Kept o (@State.dropJob s_0 id_1) := by
  unfold State.dropJob
  repeat' (first
    | with_reducible assumption
    | (extract_lets +onlyGivenNames x; first
      | (refine cutS (o := o) (x := x) ?_ (fun _ => ?_) <;> [subst x; clear_value x])
      | (refine cutP (o := o) (x := x) ?_ (fun _ => ?_) <;> [subst x; clear_value x])
      | (refine cutF (o := o) (x := x) ?_ (fun _ => ?_) <;> [subst x; clear_value x])
      | skip)
    | with_reducible refine Kept.same ?_ rfl
    | dsimp only
    | (intro _))

theorem State.serveFlash_kept {o : State} {s_0 : State} {e_1 : ℕ} {place_2 : ℕ} (h0 : Kept o s_0) :
    Kept o (@State.serveFlash s_0 e_1 place_2) := by
  unfold State.serveFlash
  repeat' (first
    | with_reducible first | assumption | refine foldl_kept ?_ (fun _ _ _ => ?_) | refine State.loadNow_kept ?_ | refine Kept.same ?_ rfl
    | dsimp only
    | (intro _))

theorem State.chunkRead_kept {o : State} {s_0 : State} {e_1 : ℕ} {g_2 : ℕ} {c_3 : ℕ} {copy_4 : Bool} (h0 : Kept o s_0) :
    Kept o (@State.chunkRead s_0 e_1 g_2 c_3 copy_4) := by
  unfold State.chunkRead
  repeat' (first
    | with_reducible first | assumption | refine State.copyChunk_kept ?_ | refine State.release_kept ?_ | refine State.serveFlash_kept ?_
    | (extract_lets +onlyGivenNames x; first
      | (refine cutS (o := o) (x := x) ?_ (fun _ => ?_) <;> [subst x; clear_value x])
      | (refine cutP (o := o) (x := x) ?_ (fun _ => ?_) <;> [subst x; clear_value x])
      | (refine cutF (o := o) (x := x) ?_ (fun _ => ?_) <;> [subst x; clear_value x])
      | skip)
    | with_reducible refine ite_kept ?_ ?_
    | split
    | with_reducible refine Kept.same ?_ rfl
    | dsimp only
    | (intro _))

theorem State.jobDone_kept {o : State} {s : State} {j : NandJob} (h : Kept o s) : Kept o (s.jobDone j) := by
  unfold State.jobDone
  have hd : Kept o (s.dropJob j.id) := State.dropJob_kept h
  split
  · exact State.chunkRead_kept hd
  · split
    · split
      · exact hd
      · rename_i e
        refine State.addJob_kept (State.dropJob_kept ?_)
        split at e
        · exact State.takePlace_some e h
        · cases e
    · exact ite_kept (State.switchMap_kept hd) hd
  · exact hd

theorem State.pageDone_kept {o : State} {s_0 : State} {id_1 : ℕ} (h0 : Kept o s_0) :
    Kept o (@State.pageDone s_0 id_1) := by
  unfold State.pageDone
  repeat' (first
    | with_reducible first | assumption | refine State.jobDone_kept ?_ | refine ite_kept ?_ ?_
    | split
    | with_reducible refine Kept.same ?_ rfl
    | dsimp only
    | (intro _))

theorem State.pageLost_kept {o : State} {s_0 : State} {id_1 : ℕ} {p_2 : ℕ} (h0 : Kept o s_0) :
    Kept o (@State.pageLost s_0 id_1 p_2) := by
  unfold State.pageLost
  repeat' (first
    | with_reducible first | assumption | refine State.dropJob_kept ?_ | refine State.chunkRead_kept ?_ | refine State.loseChunk_kept ?_
    | (extract_lets +onlyGivenNames x; first
      | (refine cutS (o := o) (x := x) ?_ (fun _ => ?_) <;> [subst x; clear_value x])
      | (refine cutP (o := o) (x := x) ?_ (fun _ => ?_) <;> [subst x; clear_value x])
      | (refine cutF (o := o) (x := x) ?_ (fun _ => ?_) <;> [subst x; clear_value x])
      | skip)
    | split
    | with_reducible refine Kept.same ?_ rfl
    | dsimp only
    | (intro _))

theorem State.refreshBlock_kept {o : State} {s_0 : State} {b_1 : ℕ} (h0 : Kept o s_0) :
    Kept o (@State.refreshBlock s_0 b_1) := by
  unfold State.refreshBlock
  repeat' (first
    | with_reducible first | assumption | refine State.bump_kept ?_ | refine State.copyBlock_kept ?_ | refine ite_kept ?_ ?_
    | dsimp only)

theorem State.eraseCounts_kept {o : State} {s_0 : State} {p_1 : ℕ} (h0 : Kept o s_0) :
    Kept o (@State.eraseCounts s_0 p_1) := by
  unfold State.eraseCounts
  repeat' (first
    | with_reducible first | assumption | refine foldl_kept ?_ (fun _ _ _ => ?_) | refine State.wr_kept ?_
    | (extract_lets +onlyGivenNames x; first
      | (refine cutS (o := o) (x := x) ?_ (fun _ => ?_) <;> [subst x; clear_value x])
      | (refine cutP (o := o) (x := x) ?_ (fun _ => ?_) <;> [subst x; clear_value x])
      | (refine cutF (o := o) (x := x) ?_ (fun _ => ?_) <;> [subst x; clear_value x])
      | skip)
    | with_reducible refine ite_kept ?_ ?_
    | dsimp only
    | (intro _))

theorem State.putOps_kept {o : State} {s_0 : State} {ops_1 : List ShelfOp} (h0 : Kept o s_0) :
    Kept o (@State.putOps s_0 ops_1) := by
  unfold State.putOps
  repeat' (first
    | with_reducible first | assumption | refine Kept.same ?_ rfl
    | dsimp only)

theorem State.shelfRetry_kept {o : State} {s_0 : State} {p_1 : ℕ} (h0 : Kept o s_0) :
    Kept o (@State.shelfRetry s_0 p_1) := by
  unfold State.shelfRetry
  repeat' (first
    | with_reducible first | assumption | refine State.count_kept ?_
    | dsimp only)

theorem State.opDone_kept {o : State} {s_0 : State} {p_1 : ℕ} {o_2 : ShelfOp} {c_3 : ShelfResult} (h0 : Kept o s_0) :
    Kept o (@State.opDone s_0 p_1 o_2 c_3) := by
  unfold State.opDone
  repeat' (first
    | with_reducible first | assumption | refine State.shelfRetry_kept ?_ | refine State.putOps_kept ?_ | refine State.setNandBlock_kept ?_ | refine State.pageDone_kept ?_ | refine State.refreshBlock_kept ?_ | refine State.pageLost_kept ?_ | refine State.addJob_kept ?_ | refine State.retireBlock_kept ?_ | refine State.dropJob_kept ?_ | refine State.eraseCounts_kept ?_
    | (extract_lets +onlyGivenNames x; first
      | (refine cutS (o := o) (x := x) ?_ (fun _ => ?_) <;> [subst x; clear_value x])
      | (refine cutP (o := o) (x := x) ?_ (fun _ => ?_) <;> [subst x; clear_value x])
      | (refine cutF (o := o) (x := x) ?_ (fun _ => ?_) <;> [subst x; clear_value x])
      | skip)
    | with_reducible refine ite_kept ?_ ?_
    | split
    | with_reducible refine Kept.same ?_ rfl
    | dsimp only
    | (intro _))

theorem State.shelfDone_kept {o : State} {s_0 : State} {p_1 : ℕ} {c_2 : ShelfResult} (h0 : Kept o s_0) :
    Kept o (@State.shelfDone s_0 p_1 c_2) := by
  unfold State.shelfDone
  repeat' (first
    | with_reducible first | assumption | refine State.shelfRetry_kept ?_ | refine State.pump_kept ?_ | refine State.eraseReady_kept ?_ | refine State.opDone_kept ?_
    | (extract_lets +onlyGivenNames x; first
      | (refine cutS (o := o) (x := x) ?_ (fun _ => ?_) <;> [subst x; clear_value x])
      | (refine cutP (o := o) (x := x) ?_ (fun _ => ?_) <;> [subst x; clear_value x])
      | (refine cutF (o := o) (x := x) ?_ (fun _ => ?_) <;> [subst x; clear_value x])
      | skip)
    | split
    | with_reducible refine Kept.same ?_ rfl
    | dsimp only
    | (intro _))

theorem execShelfCompletion_kept {o : State} {p_0 : PortId} {c_1 : ShelfResult} {s_2 : State} (h2 : Kept o s_2) :
    KeptOut o (@execShelfCompletion p_0 c_1 s_2) := by
  unfold execShelfCompletion
  repeat' (first
    | with_reducible first | assumption | refine KeptOut.next ?_ | refine State.done_kept ?_ | refine State.shelfDone_kept ?_ | refine ite_keptOut ?_ ?_ | refine ite_kept ?_ ?_
    | dsimp only)

theorem State.failDie_kept {o : State} {s_0 : State} {p_1 : ℕ} {die_2 : ℕ} (h0 : Kept o s_0) :
    Kept o (@State.failDie s_0 p_1 die_2) := by
  unfold State.failDie
  repeat' (first
    | with_reducible first | assumption | refine foldl_kept ?_ (fun _ _ _ => ?_) | refine State.setNandBlock_kept ?_ | refine State.bump_kept ?_ | refine State.wr_kept ?_ | refine State.dropJob_kept ?_ | refine State.loseChunk_kept ?_ | refine State.chunkRead_kept ?_ | refine State.emit_kept ?_
    | (extract_lets +onlyGivenNames x; first
      | (refine cutS (o := o) (x := x) ?_ (fun _ => ?_) <;> [subst x; clear_value x])
      | (refine cutP (o := o) (x := x) ?_ (fun _ => ?_) <;> [subst x; clear_value x])
      | (refine cutF (o := o) (x := x) ?_ (fun _ => ?_) <;> [subst x; clear_value x])
      | skip)
    | split
    | with_reducible refine Kept.same ?_ rfl
    | dsimp only
    | (intro _))

theorem State.shelfTimeout_kept {o : State} {s_0 : State} {p_1 : ℕ} {tag_2 : ℕ} (h0 : Kept o s_0) :
    Kept o (@State.shelfTimeout s_0 p_1 tag_2) := by
  unfold State.shelfTimeout
  repeat' (first
    | with_reducible first | assumption | refine State.pump_kept ?_ | refine State.eraseReady_kept ?_ | refine State.failDie_kept ?_ | refine State.shelfRetry_kept ?_ | refine State.putOps_kept ?_
    | (extract_lets +onlyGivenNames x; first
      | (refine cutS (o := o) (x := x) ?_ (fun _ => ?_) <;> [subst x; clear_value x])
      | (refine cutP (o := o) (x := x) ?_ (fun _ => ?_) <;> [subst x; clear_value x])
      | (refine cutF (o := o) (x := x) ?_ (fun _ => ?_) <;> [subst x; clear_value x])
      | skip)
    | with_reducible refine ite_kept ?_ ?_
    | split
    | with_reducible refine Kept.same ?_ rfl
    | dsimp only
    | (intro _))

theorem execShelfOpTimeoutExpiry_kept {o : State} {p_0 : PortId} {tag_1 : ℕ} {s_2 : State} (h2 : Kept o s_2) :
    KeptOut o (@execShelfOpTimeoutExpiry p_0 tag_1 s_2) := by
  unfold execShelfOpTimeoutExpiry
  repeat' (first
    | with_reducible first | assumption | refine KeptOut.next ?_ | refine State.done_kept ?_ | refine State.shelfTimeout_kept ?_
    | dsimp only)

theorem execMapCheckpoint_kept {o : State} {p_0 : PortId} {s_1 : State} (h1 : Kept o s_1) :
    KeptOut o (@execMapCheckpoint p_0 s_1) := by
  unfold execMapCheckpoint
  repeat' (first
    | with_reducible first | assumption | refine KeptOut.next ?_ | refine State.done_kept ?_ | refine State.checkpoint_kept ?_ | refine ite_keptOut ?_ ?_ | refine ite_kept ?_ ?_
    | dsimp only)

theorem State.collect_kept {o : State} {s_0 : State} {p_1 : ℕ} (h0 : Kept o s_0) :
    Kept o (@State.collect s_0 p_1) := by
  unfold State.collect
  repeat' (first
    | with_reducible first | assumption | refine State.pump_kept ?_ | refine State.eraseReady_kept ?_ | refine State.copyBlock_kept ?_ | refine ite_kept ?_ ?_
    | split
    | with_reducible refine Kept.same ?_ rfl
    | dsimp only
    | (intro _))

theorem execGarbageCollection_kept {o : State} {p_0 : PortId} {s_1 : State} (h1 : Kept o s_1) :
    KeptOut o (@execGarbageCollection p_0 s_1) := by
  unfold execGarbageCollection
  repeat' (first
    | with_reducible first | assumption | refine KeptOut.next ?_ | refine State.done_kept ?_ | refine State.collect_kept ?_
    | dsimp only)

theorem State.levelWear_kept {o : State} {s_0 : State} {p_1 : ℕ} (h0 : Kept o s_0) :
    Kept o (@State.levelWear s_0 p_1) := by
  unfold State.levelWear
  repeat' (first
    | with_reducible first | assumption | refine State.pump_kept ?_ | refine State.eraseReady_kept ?_ | refine State.copyBlock_kept ?_ | refine ite_kept ?_ ?_
    | split
    | with_reducible refine Kept.same ?_ rfl
    | dsimp only
    | (intro _))

theorem execWearLevelling_kept {o : State} {p_0 : PortId} {s_1 : State} (h1 : Kept o s_1) :
    KeptOut o (@execWearLevelling p_0 s_1) := by
  unfold execWearLevelling
  repeat' (first
    | with_reducible first | assumption | refine KeptOut.next ?_ | refine State.done_kept ?_ | refine State.levelWear_kept ?_
    | dsimp only)

theorem execBlockRefresh_kept {o : State} {p_0 : PortId} {block_1 : ℕ} {s_2 : State} (h2 : Kept o s_2) :
    KeptOut o (@execBlockRefresh p_0 block_1 s_2) := by
  unfold execBlockRefresh
  repeat' (first
    | with_reducible first | assumption | refine KeptOut.next ?_ | refine State.done_kept ?_ | refine State.pump_kept ?_ | refine State.eraseReady_kept ?_ | refine State.refreshBlock_kept ?_
    | (extract_lets +onlyGivenNames x; first
      | (refine cutS (o := o) (x := x) ?_ (fun _ => ?_) <;> [subst x; clear_value x])
      | (refine cutP (o := o) (x := x) ?_ (fun _ => ?_) <;> [subst x; clear_value x])
      | (refine cutF (o := o) (x := x) ?_ (fun _ => ?_) <;> [subst x; clear_value x])
      | skip)
    | with_reducible first | refine ite_keptOut ?_ ?_ | refine ite_kept ?_ ?_
    | dsimp only)

theorem State.patrol_kept {o : State} {s_0 : State} (h0 : Kept o s_0) :
    Kept o (@State.patrol s_0) := by
  unfold State.patrol
  repeat' (first
    | with_reducible first | assumption | refine foldl_kept ?_ (fun _ _ _ => ?_) | refine State.addJob_kept ?_
    | dsimp only
    | (intro _))

theorem State.stopCopies_kept {o : State} {s_0 : State} (h0 : Kept o s_0) :
    Kept o (@State.stopCopies s_0) := by
  unfold State.stopCopies
  repeat' (first
    | with_reducible first | assumption | refine foldl_kept ?_ (fun _ _ _ => ?_) | refine State.dropJob_kept ?_
    | (extract_lets +onlyGivenNames x; first
      | (refine cutS (o := o) (x := x) ?_ (fun _ => ?_) <;> [subst x; clear_value x])
      | (refine cutP (o := o) (x := x) ?_ (fun _ => ?_) <;> [subst x; clear_value x])
      | (refine cutF (o := o) (x := x) ?_ (fun _ => ?_) <;> [subst x; clear_value x])
      | skip)
    | split
    | with_reducible refine Kept.same ?_ rfl
    | dsimp only
    | (intro _))

theorem State.deleteWrite_kept {o : State} {s_0 : State} {v_1 : ℕ} {value_2 : ℕ} (h0 : Kept o s_0) :
    Kept o (@State.deleteWrite s_0 v_1 value_2).2 := by
  unfold State.deleteWrite
  repeat' (first
    | with_reducible first | assumption | refine State.freeVolumeOf_kept ?_ | refine ite_kept2 ?_ ?_ | refine ite_kept1 ?_ ?_ | refine ite_kept ?_ ?_
    | dsimp only)
theorem State.deleteWrite_eq {o : State} {s_0 : State} {v_1 : ℕ} {value_2 : ℕ} {v0 : ℕ} {t : State} (e : @State.deleteWrite s_0 v_1 value_2 = (v0, t)) (h0 : Kept o s_0) : Kept o t := by
  have h : Kept o (@State.deleteWrite s_0 v_1 value_2).2 := State.deleteWrite_kept h0
  rw [e] at h; exact h

theorem State.detachVolumes_kept {o : State} {s_0 : State} (h0 : Kept o s_0) :
    Kept o (@State.detachVolumes s_0) := by
  unfold State.detachVolumes
  repeat' (first
    | with_reducible first | assumption | refine foldl_kept ?_ (fun _ _ _ => ?_) | refine State.wr_kept ?_ | refine State.freeVolumeOf_kept ?_ | refine ite_kept ?_ ?_
    | dsimp only
    | (intro _))

end Sys2Proof.Machine
end

