-- ==== Sys2Proof/Laws/KeptTime.lean ====
section
/-! SUPPORT. What every command keeps, through matching, launching, the graph, triggers, time and herds. -/

namespace Sys2Proof.Machine

set_option linter.all false
set_option maxRecDepth 4000

theorem State.setWrite_kept {o : State} {s_0 : State} {r_1 : ℕ} {v_2 : ℕ} (h0 : Kept o s_0) :
    Kept o (@State.setWrite s_0 r_1 v_2).2 := by
  unfold State.setWrite
  repeat' (first
    | with_reducible first | assumption | refine State.wr_kept ?_ | refine State.clearSet_kept ?_
    | (extract_lets +onlyGivenNames x; first
      | (refine cutS (o := o) (x := x) ?_ (fun _ => ?_) <;> [subst x; clear_value x])
      | (refine cutP (o := o) (x := x) ?_ (fun _ => ?_) <;> [subst x; clear_value x])
      | (refine cutF (o := o) (x := x) ?_ (fun _ => ?_) <;> [subst x; clear_value x])
      | skip)
    | with_reducible first | refine ite_kept2 ?_ ?_ | refine ite_kept1 ?_ ?_ | refine ite_kept ?_ ?_
    | dsimp only
    | (intro _))
theorem State.setWrite_eq {o : State} {s_0 : State} {r_1 : ℕ} {v_2 : ℕ} {v0 : ℕ} {t : State} (e : @State.setWrite s_0 r_1 v_2 = (v0, t)) (h0 : Kept o s_0) : Kept o t := by
  have h : Kept o (@State.setWrite s_0 r_1 v_2).2 := State.setWrite_kept h0
  rw [e] at h; exact h

theorem State.freeSets_kept {o : State} {s_0 : State} {herd_1 : ℕ} (h0 : Kept o s_0) :
    Kept o (@State.freeSets s_0 herd_1) := by
  unfold State.freeSets
  repeat' (first
    | with_reducible first | assumption | refine foldState_kept ?_ ?_ | refine State.wr_kept ?_ | refine State.clearSet_kept ?_
    | dsimp only
    | (intro _))

theorem State.entryWrite_kept {o : State} {s_0 : State} {e_1 : ℕ} {v_2 : ℕ} (h0 : Kept o s_0) :
    Kept o (@State.entryWrite s_0 e_1 v_2).2 := by
  unfold State.entryWrite
  repeat' (first
    | with_reducible first | assumption | refine State.count_kept ?_ | refine State.putEntry_kept ?_ | refine ite_kept2 ?_ ?_ | refine ite_kept1 ?_ ?_ | refine ite_kept ?_ ?_
    | split
    | with_reducible refine Kept.same ?_ rfl
    | dsimp only)
theorem State.entryWrite_eq {o : State} {s_0 : State} {e_1 : ℕ} {v_2 : ℕ} {v0 : ℕ} {t : State} (e : @State.entryWrite s_0 e_1 v_2 = (v0, t)) (h0 : Kept o s_0) : Kept o t := by
  have h : Kept o (@State.entryWrite s_0 e_1 v_2).2 := State.entryWrite_kept h0
  rw [e] at h; exact h

theorem State.searchFrom_kept {o : State} {s : State} {cid r k : ℕ} {next : Bool} (h : Kept o s) :
    Kept o (s.searchFrom cid r next k) := by
  induction k generalizing s with
  | zero => exact h
  | succ k ih =>
    unfold State.searchFrom
    split
    · exact h
    · rename_i cmd _
      dsimp only
      split
      · exact ite_kept (State.finishWith_kept h) h
      · have h1 : Kept o (s.unitLoad cid (s.tableEp cmd) cmd.herd (cmd.word 1 + 24 * cmd.num 0) 24).2 := State.unitLoad_kept h
        generalize s.unitLoad cid (s.tableEp cmd) cmd.herd (cmd.word 1 + 24 * cmd.num 0) 24 = p1 at h1 ⊢
        obtain ⟨gk, s1⟩ := p1
        dsimp only at h1 ⊢
        have h2 : Kept o (if next = true then s1.unitLoad cid (s.tableEp cmd) cmd.herd (cmd.word 2 + 8 * cmd.num 0) 8
            else (.got eOk [], s1)).2 := ite_kept2 (State.unitLoad_kept h1) h1
        generalize (if next = true then s1.unitLoad cid (s.tableEp cmd) cmd.herd (cmd.word 2 + 8 * cmd.num 0) 8
            else (.got eOk [], s1)) = p2 at h2 ⊢
        obtain ⟨gc, s2⟩ := p2
        dsimp only at h2 ⊢
        split
        · refine ite_kept (State.finishWith_kept h2) (ih (State.setNums_kept (State.unitStore_kept ?_)))
          exact ite_kept2 h2 (State.search_kept h2)
        · exact h2

theorem State.runMatch_kept {o : State} {s_0 : State} {cid_1 : ℕ} {kind_2 : ℕ} {f_3 : State → Cmd → ℕ → State} (h0 : Kept o s_0) (h3 : ∀ x0 x1 x2, Kept o x0 → Kept o (f_3 x0 x1 x2)) :
    Kept o (@State.runMatch s_0 cid_1 kind_2 f_3) := by
  unfold State.runMatch
  repeat' (first
    | with_reducible first | assumption | refine h3 _ _ _ ?_ | refine State.runCmd_kept ?_ ?_ | refine State.finishWith_kept ?_ | refine ite_kept ?_ ?_
    | split
    | with_reducible refine Kept.same ?_ rfl
    | dsimp only
    | (intro _))

theorem execMatchSearch_kept {o : State} {cid_0 : ℕ} {s_1 : State} (h1 : Kept o s_1) :
    KeptOut o (@execMatchSearch cid_0 s_1) := by
  unfold execMatchSearch
  repeat' (first
    | with_reducible first | assumption | refine KeptOut.next ?_ | refine State.done_kept ?_ | refine State.runMatch_kept ?_ ?_ | refine State.searchFrom_kept ?_
    | dsimp only
    | (intro _))

theorem execMatchNext_kept {o : State} {cid_0 : ℕ} {s_1 : State} (h1 : Kept o s_1) :
    KeptOut o (@execMatchNext cid_0 s_1) := by
  unfold execMatchNext
  repeat' (first
    | with_reducible first | assumption | refine KeptOut.next ?_ | refine State.done_kept ?_ | refine State.runMatch_kept ?_ ?_ | refine State.searchFrom_kept ?_
    | dsimp only
    | (intro _))

theorem execMatchUpdate_kept {o : State} {cid_0 : ℕ} {s_1 : State} (h1 : Kept o s_1) :
    KeptOut o (@execMatchUpdate cid_0 s_1) := by
  unfold execMatchUpdate
  repeat' (first
    | with_reducible first | assumption | refine KeptOut.next ?_ | refine foldl_kept ?_ (fun _ _ _ => ?_) | refine State.done_kept ?_ | refine State.runMatch_kept ?_ ?_ | refine State.unitLoad_kept ?_ | refine State.unitLoad_eq (by assumption) ?_ | refine State.finishWith_kept ?_ | refine State.putEntry_kept ?_ | refine State.tally_kept ?_
    | (extract_lets +onlyGivenNames x; first
      | (refine cutS (o := o) (x := x) ?_ (fun _ => ?_) <;> [subst x; clear_value x])
      | (refine cutP (o := o) (x := x) ?_ (fun _ => ?_) <;> [subst x; clear_value x])
      | (refine cutF (o := o) (x := x) ?_ (fun _ => ?_) <;> [subst x; clear_value x])
      | skip)
    | with_reducible first | refine ite_keptOut ?_ ?_ | refine ite_kept ?_ ?_
    | split
    | with_reducible refine Kept.same ?_ rfl
    | dsimp only
    | (intro _))

theorem State.freeThreads_kept {o : State} {s_0 : State} {c_1 : Cmd} (h0 : Kept o s_0) :
    Kept o (@State.freeThreads s_0 c_1) := by
  unfold State.freeThreads
  repeat' (first
    | with_reducible first | assumption | refine foldState_kept ?_ ?_ | refine State.tineCounts_kept ?_ | refine State.setTine_kept ?_
    | (extract_lets +onlyGivenNames x; first
      | (refine cutS (o := o) (x := x) ?_ (fun _ => ?_) <;> [subst x; clear_value x])
      | (refine cutP (o := o) (x := x) ?_ (fun _ => ?_) <;> [subst x; clear_value x])
      | (refine cutF (o := o) (x := x) ?_ (fun _ => ?_) <;> [subst x; clear_value x])
      | skip)
    | with_reducible refine Kept.same ?_ rfl
    | dsimp only
    | (intro _))

theorem State.freeCmd_kept {o : State} {s_0 : State} {cid_1 : ℕ} (h0 : Kept o s_0) :
    Kept o (@State.freeCmd s_0 cid_1) := by
  unfold State.freeCmd
  repeat' (first
    | with_reducible first | assumption | refine State.freeThreads_kept ?_ | refine State.wr_kept ?_
    | (extract_lets +onlyGivenNames x; first
      | (refine cutS (o := o) (x := x) ?_ (fun _ => ?_) <;> [subst x; clear_value x])
      | (refine cutP (o := o) (x := x) ?_ (fun _ => ?_) <;> [subst x; clear_value x])
      | (refine cutF (o := o) (x := x) ?_ (fun _ => ?_) <;> [subst x; clear_value x])
      | skip)
    | with_reducible refine ite_kept ?_ ?_
    | split
    | with_reducible refine Kept.same ?_ rfl
    | dsimp only
    | (intro _))

theorem State.releaseDone_kept {o : State} {s_0 : State} (h0 : Kept o s_0) :
    Kept o (@State.releaseDone s_0) := by
  unfold State.releaseDone
  repeat' (first
    | with_reducible first | assumption | refine foldl_kept ?_ (fun _ _ _ => ?_) | refine State.freeCmd_kept ?_
    | dsimp only
    | (intro _))

theorem State.clearRing_kept {o : State} {s_0 : State} {ring_1 : ℕ} (h0 : Kept o s_0) :
    Kept o (@State.clearRing s_0 ring_1) := by
  unfold State.clearRing
  repeat' (first
    | with_reducible first | assumption | refine State.setRing_kept ?_ | refine Kept.same ?_ rfl
    | dsimp only)

theorem State.ringWrite_kept {o : State} {s_0 : State} {ring_1 : ℕ} {v_2 : ℕ} (h0 : Kept o s_0) :
    Kept o (@State.ringWrite s_0 ring_1 v_2).2 := by
  unfold State.ringWrite
  repeat' (first
    | with_reducible first | assumption | refine State.wr_kept ?_ | refine State.clearRing_kept ?_ | refine State.setRingIndex_kept ?_ | refine State.releaseDone_kept ?_ | refine State.payOwed_kept ?_
    | (extract_lets +onlyGivenNames x; first
      | (refine cutS (o := o) (x := x) ?_ (fun _ => ?_) <;> [subst x; clear_value x])
      | (refine cutP (o := o) (x := x) ?_ (fun _ => ?_) <;> [subst x; clear_value x])
      | (refine cutF (o := o) (x := x) ?_ (fun _ => ?_) <;> [subst x; clear_value x])
      | skip)
    | with_reducible first | refine ite_kept2 ?_ ?_ | refine ite_kept1 ?_ ?_ | refine ite_kept ?_ ?_
    | dsimp only)
theorem State.ringWrite_eq {o : State} {s_0 : State} {ring_1 : ℕ} {v_2 : ℕ} {v0 : ℕ} {t : State} (e : @State.ringWrite s_0 ring_1 v_2 = (v0, t)) (h0 : Kept o s_0) : Kept o t := by
  have h : Kept o (@State.ringWrite s_0 ring_1 v_2).2 := State.ringWrite_kept h0
  rw [e] at h; exact h

theorem State.traceCmd_kept {o : State} {s_0 : State} {c_1 : Cmd} {ty_2 : ℕ} {low_3 : ℕ} {w3_4 : ℕ} (h0 : Kept o s_0) :
    Kept o (@State.traceCmd s_0 c_1 ty_2 low_3 w3_4) := by
  unfold State.traceCmd
  repeat' (first
    | with_reducible first | assumption | refine State.trace_kept ?_ | refine Kept.same ?_ rfl
    | dsimp only)

theorem State.takeFirst_kept {o : State} {s_0 : State} {c_1 : Cmd} (h0 : Kept o s_0) :
    Kept o (@State.takeFirst s_0 c_1) := by
  unfold State.takeFirst
  repeat' (first
    | with_reducible first | assumption | refine State.bump_kept ?_ | refine State.setRing_kept ?_ | refine State.setRingIndex_kept ?_ | refine State.wr_kept ?_
    | (extract_lets +onlyGivenNames x; first
      | (refine cutS (o := o) (x := x) ?_ (fun _ => ?_) <;> [subst x; clear_value x])
      | (refine cutP (o := o) (x := x) ?_ (fun _ => ?_) <;> [subst x; clear_value x])
      | (refine cutF (o := o) (x := x) ?_ (fun _ => ?_) <;> [subst x; clear_value x])
      | skip)
    | split
    | with_reducible refine Kept.same ?_ rfl
    | dsimp only)

theorem State.startProfile_kept {o : State} {s_0 : State} {c_1 : Cmd} (h0 : Kept o s_0) :
    Kept o (@State.startProfile s_0 c_1) := by
  unfold State.startProfile
  repeat' (first
    | with_reducible first | assumption | refine State.setProf_kept ?_ | refine State.unitStorePiece_kept ?_
    | (extract_lets +onlyGivenNames x; first
      | (refine cutS (o := o) (x := x) ?_ (fun _ => ?_) <;> [subst x; clear_value x])
      | (refine cutP (o := o) (x := x) ?_ (fun _ => ?_) <;> [subst x; clear_value x])
      | (refine cutF (o := o) (x := x) ?_ (fun _ => ?_) <;> [subst x; clear_value x])
      | skip)
    | split
    | with_reducible refine Kept.same ?_ rfl
    | dsimp only)

theorem State.launch_kept {o : State} {s : State} {c : Cmd} {tines : List ℕ} (h : Kept o s) : Kept o (s.launch c tines) := by
  unfold State.launch
  extract_lets win base s1 s2 p s3 s4
  have h1 : Kept o s1 := State.bump_kept (State.takeFirst_kept h)
  have h2 : Kept o s2 := ite_kept (State.wr_kept h1) h1
  have h3 : Kept o s3 := Kept.same h2 rfl
  have h4 : Kept o s4 := foldl_kept h3 fun _ _ h => State.placeOn_kept h
  exact State.traceCmd_kept (State.startProfile_kept h4)

theorem State.launchFailed_kept {o : State} {s_0 : State} {c_1 : Cmd} {code_2 : ℕ} {launched_3 : Bool} (h0 : Kept o s_0) :
    Kept o (@State.launchFailed s_0 c_1 code_2 launched_3) := by
  unfold State.launchFailed
  repeat' (first
    | with_reducible first | assumption | refine State.takeFirst_kept ?_ | refine State.wr_kept ?_ | refine State.bump_kept ?_
    | (extract_lets +onlyGivenNames x; first
      | (refine cutS (o := o) (x := x) ?_ (fun _ => ?_) <;> [subst x; clear_value x])
      | (refine cutP (o := o) (x := x) ?_ (fun _ => ?_) <;> [subst x; clear_value x])
      | (refine cutF (o := o) (x := x) ?_ (fun _ => ?_) <;> [subst x; clear_value x])
      | skip)
    | with_reducible first | refine ite_kept ?_ ?_ | refine Kept.same ?_ rfl
    | dsimp only)

theorem State.countWait_kept {o : State} {s_0 : State} {c_1 : Cmd} (h0 : Kept o s_0) :
    Kept o (@State.countWait s_0 c_1) := by
  unfold State.countWait
  repeat' (first
    | with_reducible first | assumption | refine State.count_kept ?_ | refine ite_kept ?_ ?_ | refine Kept.same ?_ rfl
    | dsimp only)

theorem State.serveRings_kept {o : State} {s_0 : State} {a__internal_hyg0_1 : List ℕ} (h0 : Kept o s_0) :
    Kept o (@State.serveRings s_0 a__internal_hyg0_1) := by
  induction a__internal_hyg0_1 generalizing s_0 with
  | nil =>
    unfold State.serveRings
    repeat' (first
      | with_reducible first | assumption | refine State.countWait_kept ?_ | refine State.launchFailed_kept ?_ | refine State.launch_kept ?_ | refine ih ?_
      | (extract_lets +onlyGivenNames x; first
        | (refine cutS (o := o) (x := x) ?_ (fun _ => ?_) <;> [subst x; clear_value x])
        | (refine cutP (o := o) (x := x) ?_ (fun _ => ?_) <;> [subst x; clear_value x])
        | (refine cutF (o := o) (x := x) ?_ (fun _ => ?_) <;> [subst x; clear_value x])
        | skip)
      | split
      | with_reducible refine Kept.same ?_ rfl
      | dsimp only
      | (intro _))
  | cons x l ih =>
    unfold State.serveRings
    repeat' (first
      | with_reducible first | assumption | refine State.countWait_kept ?_ | refine State.launchFailed_kept ?_ | refine State.launch_kept ?_ | refine ih ?_
      | (extract_lets +onlyGivenNames x; first
        | (refine cutS (o := o) (x := x) ?_ (fun _ => ?_) <;> [subst x; clear_value x])
        | (refine cutP (o := o) (x := x) ?_ (fun _ => ?_) <;> [subst x; clear_value x])
        | (refine cutF (o := o) (x := x) ?_ (fun _ => ?_) <;> [subst x; clear_value x])
        | skip)
      | split
      | with_reducible refine Kept.same ?_ rfl
      | dsimp only
      | (intro _))

theorem execCommandLaunch_kept {o : State} {s_0 : State} (h0 : Kept o s_0) :
    KeptOut o (@execCommandLaunch s_0) := by
  unfold execCommandLaunch
  repeat' (first
    | with_reducible first | assumption | refine KeptOut.next ?_ | refine State.done_kept ?_ | refine State.serveRings_kept ?_ | refine ite_keptOut ?_ ?_ | refine ite_kept ?_ ?_
    | dsimp only)

theorem execNopCommand_kept {o : State} {cid_0 : ℕ} {s_1 : State} (h1 : Kept o s_1) :
    KeptOut o (@execNopCommand cid_0 s_1) := by
  unfold execNopCommand
  repeat' (first
    | with_reducible first | assumption | refine KeptOut.next ?_ | refine State.done_kept ?_ | refine State.runCmd_kept ?_ ?_ | refine State.finishWith_kept ?_
    | dsimp only
    | (intro _))

theorem State.startThreads_kept {o : State} {s_0 : State} {c_1 : Cmd} {t_2 : ℕ} {ordinal_3 : ℕ} (h0 : Kept o s_0) :
    Kept o (@State.startThreads s_0 c_1 t_2 ordinal_3) := by
  unfold State.startThreads
  repeat' (first
    | with_reducible first | assumption | refine foldl_kept ?_ (fun _ _ _ => ?_) | refine State.tineCounts_kept ?_ | refine State.setTine_kept ?_
    | (extract_lets +onlyGivenNames x; first
      | (refine cutS (o := o) (x := x) ?_ (fun _ => ?_) <;> [subst x; clear_value x])
      | (refine cutP (o := o) (x := x) ?_ (fun _ => ?_) <;> [subst x; clear_value x])
      | (refine cutF (o := o) (x := x) ?_ (fun _ => ?_) <;> [subst x; clear_value x])
      | skip)
    | with_reducible refine Kept.same ?_ rfl
    | dsimp only
    | (intro _))

theorem execKernelCommand_kept {o : State} {cid_0 : ℕ} {s_1 : State} (h1 : Kept o s_1) :
    KeptOut o (@execKernelCommand cid_0 s_1) := by
  unfold execKernelCommand
  repeat' (first
    | with_reducible first | assumption | refine KeptOut.next ?_ | refine foldl_kept ?_ (fun _ _ _ => ?_) | refine State.done_kept ?_ | refine State.runCmd_kept ?_ ?_ | refine State.startThreads_kept ?_ | refine State.setPhase_kept ?_ | refine ite_keptOut ?_ ?_ | refine ite_kept ?_ ?_
    | dsimp only
    | (intro _))

theorem State.endCmd_kept {o : State} {s_0 : State} {c_1 : Cmd} {code_2 : ℕ} (h0 : Kept o s_0) :
    Kept o (@State.endCmd s_0 c_1 code_2) := by
  unfold State.endCmd
  repeat' (first
    | with_reducible first | assumption | refine State.setProf_kept ?_ | refine State.traceCmd_kept ?_ | refine State.freeCmd_kept ?_ | refine State.unreserve_kept ?_ | refine State.postOrOwe_kept ?_ | refine State.setPhase_kept ?_
    | (extract_lets +onlyGivenNames x; first
      | (refine cutS (o := o) (x := x) ?_ (fun _ => ?_) <;> [subst x; clear_value x])
      | (refine cutP (o := o) (x := x) ?_ (fun _ => ?_) <;> [subst x; clear_value x])
      | (refine cutF (o := o) (x := x) ?_ (fun _ => ?_) <;> [subst x; clear_value x])
      | skip)
    | with_reducible refine ite_kept ?_ ?_
    | split
    | with_reducible refine Kept.same ?_ rfl
    | dsimp only)

theorem State.endProfile_kept {o : State} {s_0 : State} {c_1 : Cmd} {code_2 : ℕ} (h0 : Kept o s_0) :
    Kept o (@State.endProfile s_0 c_1 code_2) := by
  unfold State.endProfile
  repeat' (first
    | with_reducible first | assumption | refine State.setProf_kept ?_ | refine State.setPhase_kept ?_ | refine State.unitStorePiece_kept ?_
    | (extract_lets +onlyGivenNames x; first
      | (refine cutS (o := o) (x := x) ?_ (fun _ => ?_) <;> [subst x; clear_value x])
      | (refine cutP (o := o) (x := x) ?_ (fun _ => ?_) <;> [subst x; clear_value x])
      | (refine cutF (o := o) (x := x) ?_ (fun _ => ?_) <;> [subst x; clear_value x])
      | skip)
    | with_reducible refine ite_kept ?_ ?_
    | split
    | with_reducible refine Kept.same ?_ rfl
    | dsimp only)

theorem State.completion_kept {o : State} {s_0 : State} {cid_1 : ℕ} (h0 : Kept o s_0) :
    Kept o (@State.completion s_0 cid_1) := by
  unfold State.completion
  repeat' (first
    | with_reducible first | assumption | refine State.releaseDone_kept ?_ | refine State.endProfile_kept ?_ | refine State.setCmd_kept ?_ | refine State.endCmd_kept ?_
    | (extract_lets +onlyGivenNames x; first
      | (refine cutS (o := o) (x := x) ?_ (fun _ => ?_) <;> [subst x; clear_value x])
      | (refine cutP (o := o) (x := x) ?_ (fun _ => ?_) <;> [subst x; clear_value x])
      | (refine cutF (o := o) (x := x) ?_ (fun _ => ?_) <;> [subst x; clear_value x])
      | skip)
    | with_reducible refine ite_kept ?_ ?_
    | split
    | with_reducible refine Kept.same ?_ rfl
    | dsimp only)

theorem execCommandCompletion_kept {o : State} {cid_0 : ℕ} {s_1 : State} (h1 : Kept o s_1) :
    KeptOut o (@execCommandCompletion cid_0 s_1) := by
  unfold execCommandCompletion
  repeat' (first
    | with_reducible first | assumption | refine KeptOut.next ?_ | refine State.done_kept ?_ | refine State.completion_kept ?_ | refine ite_keptOut ?_ ?_ | refine ite_kept ?_ ?_
    | dsimp only)

theorem State.hangCheck_kept {o : State} {s_0 : State} (h0 : Kept o s_0) :
    Kept o (@State.hangCheck s_0) := by
  unfold State.hangCheck
  repeat' (first
    | with_reducible first | assumption | refine State.startBuild_kept ?_ | refine State.stotEvent_kept ?_
    | (extract_lets +onlyGivenNames x; first
      | (refine cutS (o := o) (x := x) ?_ (fun _ => ?_) <;> [subst x; clear_value x])
      | (refine cutP (o := o) (x := x) ?_ (fun _ => ?_) <;> [subst x; clear_value x])
      | (refine cutF (o := o) (x := x) ?_ (fun _ => ?_) <;> [subst x; clear_value x])
      | skip)
    | with_reducible first | refine ite_kept ?_ ?_ | refine Kept.same ?_ rfl
    | dsimp only
    | (intro _))

theorem execHangWatchdogCheck_kept {o : State} {s_0 : State} (h0 : Kept o s_0) :
    KeptOut o (@execHangWatchdogCheck s_0) := by
  unfold execHangWatchdogCheck
  repeat' (first
    | with_reducible first | assumption | refine KeptOut.next ?_ | refine State.done_kept ?_ | refine State.hangCheck_kept ?_ | refine ite_keptOut ?_ ?_ | refine ite_kept ?_ ?_
    | dsimp only)

theorem State.graphEntries_kept {o : State} {s_0 : State} {g_1 : WaitGraph} {stalled_2 : ℕ} {cut_3 : Bool} (h0 : Kept o s_0) :
    Kept o (@State.graphEntries s_0 g_1 stalled_2 cut_3) := by
  unfold State.graphEntries
  repeat' (first
    | with_reducible first | assumption | refine State.wr_kept ?_
    | (extract_lets +onlyGivenNames x; first
      | (refine cutS (o := o) (x := x) ?_ (fun _ => ?_) <;> [subst x; clear_value x])
      | (refine cutP (o := o) (x := x) ?_ (fun _ => ?_) <;> [subst x; clear_value x])
      | (refine cutF (o := o) (x := x) ?_ (fun _ => ?_) <;> [subst x; clear_value x])
      | skip)
    | with_reducible refine ite_kept ?_ ?_
    | dsimp only)

theorem State.endBuild_kept {o : State} {s_0 : State} (h0 : Kept o s_0) :
    Kept o (@State.endBuild s_0) := by
  unfold State.endBuild
  repeat' (first
    | with_reducible first | assumption | refine State.graphEntries_kept ?_ | refine State.count_kept ?_ | refine State.stotEvent_kept ?_
    | (extract_lets +onlyGivenNames x; first
      | (refine cutS (o := o) (x := x) ?_ (fun _ => ?_) <;> [subst x; clear_value x])
      | (refine cutP (o := o) (x := x) ?_ (fun _ => ?_) <;> [subst x; clear_value x])
      | (refine cutF (o := o) (x := x) ?_ (fun _ => ?_) <;> [subst x; clear_value x])
      | skip)
    | with_reducible first | refine ite_kept ?_ ?_ | refine Kept.same ?_ rfl | refine Kept.upd ?_ rfl rfl rfl rfl rfl rfl rfl rfl rfl rfl (Nat.le_refl _) (Nat.le_add_right _ _) (Nat.le_refl _) (Nat.le_refl _)
    | dsimp only)

theorem State.buildWrite_kept {o : State} {s_0 : State} (h0 : Kept o s_0) :
    Kept o (@State.buildWrite s_0).2 := by
  unfold State.buildWrite
  repeat' (first
    | with_reducible first | assumption | refine State.startBuild_kept ?_ | refine ite_kept2 ?_ ?_ | refine ite_kept1 ?_ ?_ | refine ite_kept ?_ ?_
    | dsimp only)
theorem State.buildWrite_eq {o : State} {s_0 : State} {v0 : ℕ} {t : State} (e : @State.buildWrite s_0 = (v0, t)) (h0 : Kept o s_0) : Kept o t := by
  have h : Kept o (@State.buildWrite s_0).2 := State.buildWrite_kept h0
  rw [e] at h; exact h

theorem execGraphPeriodExpiry_kept {o : State} {s_0 : State} (h0 : Kept o s_0) :
    KeptOut o (@execGraphPeriodExpiry s_0) := by
  unfold execGraphPeriodExpiry
  repeat' (first
    | with_reducible first | assumption | refine KeptOut.next ?_ | refine State.done_kept ?_ | refine State.startBuild_kept ?_
    | (extract_lets +onlyGivenNames x; first
      | (refine cutS (o := o) (x := x) ?_ (fun _ => ?_) <;> [subst x; clear_value x])
      | (refine cutP (o := o) (x := x) ?_ (fun _ => ?_) <;> [subst x; clear_value x])
      | (refine cutF (o := o) (x := x) ?_ (fun _ => ?_) <;> [subst x; clear_value x])
      | skip)
    | with_reducible first | refine ite_keptOut ?_ ?_ | refine ite_kept ?_ ?_
    | dsimp only)

theorem execGraphBuildDone_kept {o : State} {s_0 : State} (h0 : Kept o s_0) :
    KeptOut o (@execGraphBuildDone s_0) := by
  unfold execGraphBuildDone
  repeat' (first
    | with_reducible first | assumption | refine KeptOut.next ?_ | refine State.done_kept ?_ | refine State.endBuild_kept ?_ | refine ite_keptOut ?_ ?_ | refine ite_kept ?_ ?_
    | dsimp only)

theorem State.endDump_kept {o : State} {s_0 : State} (h0 : Kept o s_0) :
    Kept o (@State.endDump s_0) := by
  unfold State.endDump
  repeat' (first
    | with_reducible first | assumption | refine State.endBuild_kept ?_ | refine State.wr_kept ?_ | refine State.fresh_kept ?_
    | (extract_lets +onlyGivenNames x; first
      | (refine cutS (o := o) (x := x) ?_ (fun _ => ?_) <;> [subst x; clear_value x])
      | (refine cutP (o := o) (x := x) ?_ (fun _ => ?_) <;> [subst x; clear_value x])
      | (refine cutF (o := o) (x := x) ?_ (fun _ => ?_) <;> [subst x; clear_value x])
      | skip)
    | with_reducible first | refine ite_kept ?_ ?_ | refine Kept.same ?_ rfl
    | dsimp only)

theorem execDumpDone_kept {o : State} {s_0 : State} (h0 : Kept o s_0) :
    KeptOut o (@execDumpDone s_0) := by
  unfold execDumpDone
  repeat' (first
    | with_reducible first | assumption | refine KeptOut.next ?_ | refine State.done_kept ?_ | refine State.endDump_kept ?_ | refine ite_keptOut ?_ ?_ | refine ite_kept ?_ ?_
    | dsimp only)

theorem State.slotAction_kept {o : State} {s_0 : State} {n_1 : ℕ} {at__2 : ℕ} (h0 : Kept o s_0) :
    KeptVal o (@State.slotAction s_0 n_1 at__2) (fun v => v) := by
  unfold State.slotAction
  repeat' (first
    | with_reducible first | assumption | refine State.gateChange_some (by assumption) ?_ | refine State.gateChange_kept ?_ | refine State.kickRing_kept ?_ | refine State.latchProfile_some (by assumption) ?_ | refine State.latchProfile_kept ?_ | refine State.retryContribs_kept ?_ | refine State.triggerStep_kept ?_ | exact KeptVal.none | refine KeptVal.some ?_
    | (extract_lets +onlyGivenNames x; first
      | (refine cutS (o := o) (x := x) ?_ (fun _ => ?_) <;> [subst x; clear_value x])
      | (refine cutP (o := o) (x := x) ?_ (fun _ => ?_) <;> [subst x; clear_value x])
      | (refine cutF (o := o) (x := x) ?_ (fun _ => ?_) <;> [subst x; clear_value x])
      | skip)
    | with_reducible refine ite_kept ?_ ?_
    | split
    | with_reducible refine Kept.same ?_ rfl
    | dsimp only
    | (intro _))
theorem State.slotAction_some {o : State} {s_0 : State} {n_1 : ℕ} {at__2 : ℕ} {t : State} (e : @State.slotAction s_0 n_1 at__2 = some t) (h0 : Kept o s_0) : Kept o t :=
  State.slotAction_kept (o := o) h0 _ e

theorem State.slotEnd_kept {o : State} {s_0 : State} {n_1 : ℕ} {now_2 : ℕ} {st_3 : ℕ} (h0 : Kept o s_0) :
    Kept o (@State.slotEnd s_0 n_1 now_2 st_3) := by
  unfold State.slotEnd
  repeat' (first
    | with_reducible first | assumption | refine State.wr_kept ?_
    | (extract_lets +onlyGivenNames x; first
      | (refine cutS (o := o) (x := x) ?_ (fun _ => ?_) <;> [subst x; clear_value x])
      | (refine cutP (o := o) (x := x) ?_ (fun _ => ?_) <;> [subst x; clear_value x])
      | (refine cutF (o := o) (x := x) ?_ (fun _ => ?_) <;> [subst x; clear_value x])
      | skip)
    | with_reducible refine ite_kept ?_ ?_
    | dsimp only)

theorem State.slotMiss_kept {o : State} {s_0 : State} {n_1 : ℕ} {now_2 : ℕ} {row_3 : ℕ} (h0 : Kept o s_0) :
    Kept o (@State.slotMiss s_0 n_1 now_2 row_3) := by
  unfold State.slotMiss
  repeat' (first
    | with_reducible first | assumption | refine State.emit_kept ?_ | refine State.slotEnd_kept ?_
    | dsimp only)

theorem State.fireSlot_kept {o : State} {s_0 : State} {n_1 : ℕ} {row_2 : ℕ} (h0 : Kept o s_0) :
    Kept o (@State.fireSlot s_0 n_1 row_2) := by
  unfold State.fireSlot
  repeat' (first
    | with_reducible first | assumption | refine State.slotMiss_kept ?_ | refine State.slotAction_some (by assumption) ?_ | refine State.slotAction_kept ?_ | refine State.slotEnd_kept ?_ | refine State.bump_kept ?_
    | (extract_lets +onlyGivenNames x; first
      | (refine cutS (o := o) (x := x) ?_ (fun _ => ?_) <;> [subst x; clear_value x])
      | (refine cutP (o := o) (x := x) ?_ (fun _ => ?_) <;> [subst x; clear_value x])
      | (refine cutF (o := o) (x := x) ?_ (fun _ => ?_) <;> [subst x; clear_value x])
      | skip)
    | with_reducible refine ite_kept ?_ ?_
    | split
    | with_reducible refine Kept.same ?_ rfl
    | dsimp only)

theorem State.slotTime_kept {o : State} {s_0 : State} {n_1 : ℕ} {action_2 : ℕ} (h0 : Kept o s_0) :
    Kept o (@State.slotTime s_0 n_1 action_2) := by
  unfold State.slotTime
  repeat' (first
    | with_reducible first | assumption | refine State.fireSlot_kept ?_
    | (extract_lets +onlyGivenNames x; first
      | (refine cutS (o := o) (x := x) ?_ (fun _ => ?_) <;> [subst x; clear_value x])
      | (refine cutP (o := o) (x := x) ?_ (fun _ => ?_) <;> [subst x; clear_value x])
      | (refine cutF (o := o) (x := x) ?_ (fun _ => ?_) <;> [subst x; clear_value x])
      | skip)
    | with_reducible refine ite_kept ?_ ?_
    | dsimp only)

theorem State.jumpSlots_kept {o : State} {s_0 : State} {a_1 : ℕ} {old_2 : ℕ} {new_3 : ℕ} (h0 : Kept o s_0) :
    Kept o (@State.jumpSlots s_0 a_1 old_2 new_3) := by
  unfold State.jumpSlots
  repeat' (first
    | with_reducible first | assumption | refine foldState_kept ?_ ?_ | refine State.fireSlot_kept ?_ | refine ite_kept ?_ ?_
    | dsimp only
    | (intro _))

theorem State.slotWrite_kept {o : State} {s_0 : State} {n_1 : ℕ} {v_2 : ℕ} (h0 : Kept o s_0) :
    Kept o (@State.slotWrite s_0 n_1 v_2).2 := by
  unfold State.slotWrite
  repeat' (first
    | with_reducible first | assumption | refine State.wr_kept ?_ | refine State.fireSlot_kept ?_
    | (extract_lets +onlyGivenNames x; first
      | (refine cutS (o := o) (x := x) ?_ (fun _ => ?_) <;> [subst x; clear_value x])
      | (refine cutP (o := o) (x := x) ?_ (fun _ => ?_) <;> [subst x; clear_value x])
      | (refine cutF (o := o) (x := x) ?_ (fun _ => ?_) <;> [subst x; clear_value x])
      | skip)
    | with_reducible first | refine ite_kept2 ?_ ?_ | refine ite_kept1 ?_ ?_ | refine ite_kept ?_ ?_ | refine Kept.same ?_ rfl
    | dsimp only)
theorem State.slotWrite_eq {o : State} {s_0 : State} {n_1 : ℕ} {v_2 : ℕ} {v0 : ℕ} {t : State} (e : @State.slotWrite s_0 n_1 v_2 = (v0, t)) (h0 : Kept o s_0) : Kept o t := by
  have h : Kept o (@State.slotWrite s_0 n_1 v_2).2 := State.slotWrite_kept h0
  rw [e] at h; exact h

theorem execTriggerFireNone_kept {o : State} {n_0 : TrigId} {s_1 : State} (h1 : Kept o s_1) :
    KeptOut o (@execTriggerFireNone n_0 s_1) := by
  unfold execTriggerFireNone
  repeat' (first
    | with_reducible first | assumption | refine KeptOut.next ?_ | refine State.done_kept ?_ | refine State.slotTime_kept ?_
    | dsimp only)

theorem execTriggerGateChange_kept {o : State} {n_0 : TrigId} {s_1 : State} (h1 : Kept o s_1) :
    KeptOut o (@execTriggerGateChange n_0 s_1) := by
  unfold execTriggerGateChange
  repeat' (first
    | with_reducible first | assumption | refine KeptOut.next ?_ | refine State.done_kept ?_ | refine State.slotTime_kept ?_
    | dsimp only)

theorem execTriggerRingKick_kept {o : State} {n_0 : TrigId} {s_1 : State} (h1 : Kept o s_1) :
    KeptOut o (@execTriggerRingKick n_0 s_1) := by
  unfold execTriggerRingKick
  repeat' (first
    | with_reducible first | assumption | refine KeptOut.next ?_ | refine State.done_kept ?_ | refine State.slotTime_kept ?_
    | dsimp only)

theorem execTriggerCounterLatch_kept {o : State} {n_0 : TrigId} {s_1 : State} (h1 : Kept o s_1) :
    KeptOut o (@execTriggerCounterLatch n_0 s_1) := by
  unfold execTriggerCounterLatch
  repeat' (first
    | with_reducible first | assumption | refine KeptOut.next ?_ | refine State.done_kept ?_ | refine State.slotTime_kept ?_
    | dsimp only)

theorem execTriggerOptimizerStep_kept {o : State} {n_0 : TrigId} {s_1 : State} (h1 : Kept o s_1) :
    KeptOut o (@execTriggerOptimizerStep n_0 s_1) := by
  unfold execTriggerOptimizerStep
  repeat' (first
    | with_reducible first | assumption | refine KeptOut.next ?_ | refine State.done_kept ?_ | refine State.slotTime_kept ?_
    | dsimp only)

theorem State.stepTime_kept {o : State} {s_0 : State} {offset_1 : ℤ} (h0 : Kept o s_0) :
    Kept o (@State.stepTime s_0 offset_1) := by
  unfold State.stepTime
  repeat' (first
    | with_reducible first | assumption | refine State.emit_kept ?_ | refine foldState_kept ?_ ?_ | refine State.jumpSlots_kept ?_
    | (extract_lets +onlyGivenNames x; first
      | (refine cutS (o := o) (x := x) ?_ (fun _ => ?_) <;> [subst x; clear_value x])
      | (refine cutP (o := o) (x := x) ?_ (fun _ => ?_) <;> [subst x; clear_value x])
      | (refine cutF (o := o) (x := x) ?_ (fun _ => ?_) <;> [subst x; clear_value x])
      | skip)
    | with_reducible refine Kept.same ?_ rfl
    | dsimp only
    | (intro _))

theorem State.enterHoldover_kept {o : State} {s_0 : State} (h0 : Kept o s_0) :
    Kept o (@State.enterHoldover s_0) := by
  unfold State.enterHoldover
  repeat' (first
    | with_reducible first | assumption | refine State.wr_kept ?_
    | (extract_lets +onlyGivenNames x; first
      | (refine cutS (o := o) (x := x) ?_ (fun _ => ?_) <;> [subst x; clear_value x])
      | (refine cutP (o := o) (x := x) ?_ (fun _ => ?_) <;> [subst x; clear_value x])
      | (refine cutF (o := o) (x := x) ?_ (fun _ => ?_) <;> [subst x; clear_value x])
      | skip)
    | with_reducible first | refine ite_kept ?_ ?_ | refine Kept.same ?_ rfl
    | dsimp only)

theorem State.freeRun_kept {o : State} {s_0 : State} (h0 : Kept o s_0) :
    Kept o (@State.freeRun s_0) := by
  unfold State.freeRun
  repeat' (first
    | with_reducible first | assumption | refine State.wr_kept ?_ | refine Kept.same ?_ rfl
    | dsimp only)

theorem State.countLock_kept {o : State} {s_0 : State} {offset_1 : ℤ} {upQ_2 : ℕ} (h0 : Kept o s_0) :
    Kept o (@State.countLock s_0 offset_1 upQ_2) := by
  unfold State.countLock
  repeat' (first
    | with_reducible first | assumption | refine State.wr_kept ?_
    | (extract_lets +onlyGivenNames x; first
      | (refine cutS (o := o) (x := x) ?_ (fun _ => ?_) <;> [subst x; clear_value x])
      | (refine cutP (o := o) (x := x) ?_ (fun _ => ?_) <;> [subst x; clear_value x])
      | (refine cutF (o := o) (x := x) ?_ (fun _ => ?_) <;> [subst x; clear_value x])
      | skip)
    | with_reducible first | refine ite_kept ?_ ?_ | refine Kept.same ?_ rfl
    | dsimp only
    | (intro _))

theorem State.noteInc_kept {o : State} {s_0 : State} {v_1 : ℕ} (h0 : Kept o s_0) :
    Kept o (@State.noteInc s_0 v_1) := by
  unfold State.noteInc
  repeat' (first
    | with_reducible first | assumption | refine Kept.same ?_ rfl
    | dsimp only)

theorem State.steerTime_kept {o : State} {s_0 : State} {offset_1 : ℤ} (h0 : Kept o s_0) :
    Kept o (@State.steerTime s_0 offset_1) := by
  unfold State.steerTime
  repeat' (first
    | with_reducible first | assumption | refine State.noteInc_kept ?_
    | (extract_lets +onlyGivenNames x; first
      | (refine cutS (o := o) (x := x) ?_ (fun _ => ?_) <;> [subst x; clear_value x])
      | (refine cutP (o := o) (x := x) ?_ (fun _ => ?_) <;> [subst x; clear_value x])
      | (refine cutF (o := o) (x := x) ?_ (fun _ => ?_) <;> [subst x; clear_value x])
      | skip)
    | with_reducible first | refine ite_kept ?_ ?_ | refine Kept.same ?_ rfl | refine Kept.upd ?_ rfl rfl rfl rfl rfl rfl rfl rfl rfl rfl (Nat.le_refl _) (Nat.le_add_right _ _) (Nat.le_refl _) (Nat.le_refl _)
    | dsimp only)

theorem State.sample_kept {o : State} {s_0 : State} {offset_1 : ℤ} {upQ_2 : ℕ} (h0 : Kept o s_0) :
    Kept o (@State.sample s_0 offset_1 upQ_2) := by
  unfold State.sample
  repeat' (first
    | with_reducible first | assumption | refine State.wr_kept ?_ | refine State.noteInc_kept ?_ | refine State.stepTime_kept ?_ | refine State.countLock_kept ?_ | refine State.emit_kept ?_ | refine State.enterHoldover_kept ?_ | refine State.steerTime_kept ?_
    | (extract_lets +onlyGivenNames x; first
      | (refine cutS (o := o) (x := x) ?_ (fun _ => ?_) <;> [subst x; clear_value x])
      | (refine cutP (o := o) (x := x) ?_ (fun _ => ?_) <;> [subst x; clear_value x])
      | (refine cutF (o := o) (x := x) ?_ (fun _ => ?_) <;> [subst x; clear_value x])
      | skip)
    | with_reducible first | refine ite_kept ?_ ?_ | refine Kept.same ?_ rfl
    | dsimp only)

theorem State.discardSample_kept {o : State} {s_0 : State} (h0 : Kept o s_0) :
    Kept o (@State.discardSample s_0) := by
  unfold State.discardSample
  repeat' (first
    | with_reducible first | assumption | refine Kept.same ?_ rfl
    | dsimp only)

theorem State.sourceEntry_kept {o : State} {s_0 : State} {upstream_1 : Bool} {v_2 : ℕ} (h0 : Kept o s_0) :
    Kept o (@State.sourceEntry s_0 upstream_1 v_2).2 := by
  unfold State.sourceEntry
  repeat' (first
    | with_reducible first | assumption | refine State.wr_kept ?_
    | (extract_lets +onlyGivenNames x; first
      | (refine cutS (o := o) (x := x) ?_ (fun _ => ?_) <;> [subst x; clear_value x])
      | (refine cutP (o := o) (x := x) ?_ (fun _ => ?_) <;> [subst x; clear_value x])
      | (refine cutF (o := o) (x := x) ?_ (fun _ => ?_) <;> [subst x; clear_value x])
      | skip)
    | with_reducible first | refine ite_kept2 ?_ ?_ | refine ite_kept1 ?_ ?_ | refine ite_kept ?_ ?_ | refine Kept.same ?_ rfl
    | dsimp only)
theorem State.sourceEntry_eq {o : State} {s_0 : State} {upstream_1 : Bool} {v_2 : ℕ} {v0 : ℕ} {t : State} (e : @State.sourceEntry s_0 upstream_1 v_2 = (v0, t)) (h0 : Kept o s_0) : Kept o t := by
  have h : Kept o (@State.sourceEntry s_0 upstream_1 v_2).2 := State.sourceEntry_kept h0
  rw [e] at h; exact h

theorem State.todWrite_kept {o : State} {s_0 : State} {v_1 : ℕ} (h0 : Kept o s_0) :
    Kept o (@State.todWrite s_0 v_1).2 := by
  unfold State.todWrite
  repeat' (first
    | with_reducible first | assumption | refine State.freeRun_kept ?_ | refine State.stepTime_kept ?_
    | (extract_lets +onlyGivenNames x; first
      | (refine cutS (o := o) (x := x) ?_ (fun _ => ?_) <;> [subst x; clear_value x])
      | (refine cutP (o := o) (x := x) ?_ (fun _ => ?_) <;> [subst x; clear_value x])
      | (refine cutF (o := o) (x := x) ?_ (fun _ => ?_) <;> [subst x; clear_value x])
      | skip)
    | with_reducible first | refine ite_kept2 ?_ ?_ | refine ite_kept1 ?_ ?_ | refine ite_kept ?_ ?_ | refine Kept.same ?_ rfl
    | dsimp only)
theorem State.todWrite_eq {o : State} {s_0 : State} {v_1 : ℕ} {v0 : ℕ} {t : State} (e : @State.todWrite s_0 v_1 = (v0, t)) (h0 : Kept o s_0) : Kept o t := by
  have h : Kept o (@State.todWrite s_0 v_1).2 := State.todWrite_kept h0
  rw [e] at h; exact h

theorem State.allowStepWrite_kept {o : State} {s_0 : State} (h0 : Kept o s_0) :
    Kept o (@State.allowStepWrite s_0).2 := by
  unfold State.allowStepWrite
  repeat' (first
    | with_reducible first | assumption | refine Kept.same ?_ rfl
    | dsimp only)
theorem State.allowStepWrite_eq {o : State} {s_0 : State} {v0 : ℕ} {t : State} (e : @State.allowStepWrite s_0 = (v0, t)) (h0 : Kept o s_0) : Kept o t := by
  have h : Kept o (@State.allowStepWrite s_0).2 := State.allowStepWrite_kept h0
  rw [e] at h; exact h

theorem State.ptpWrite_kept {o : State} {s_0 : State} {v_1 : ℕ} (h0 : Kept o s_0) :
    Kept o (@State.ptpWrite s_0 v_1).2 := by
  unfold State.ptpWrite
  repeat' (first
    | with_reducible first | assumption | refine State.sample_kept ?_ | refine ite_kept2 ?_ ?_ | refine ite_kept1 ?_ ?_ | refine ite_kept ?_ ?_
    | dsimp only)
theorem State.ptpWrite_eq {o : State} {s_0 : State} {v_1 : ℕ} {v0 : ℕ} {t : State} (e : @State.ptpWrite s_0 v_1 = (v0, t)) (h0 : Kept o s_0) : Kept o t := by
  have h : Kept o (@State.ptpWrite s_0 v_1).2 := State.ptpWrite_kept h0
  rw [e] at h; exact h

theorem State.setTimex_kept {o : State} {s_0 : State} {p_1 : ℕ} {x_2 : TimexState} (h0 : Kept o s_0) :
    Kept o (@State.setTimex s_0 p_1 x_2) := by
  unfold State.setTimex
  repeat' (first
    | with_reducible first | assumption | refine Kept.same ?_ rfl
    | dsimp only)

theorem State.startExchange_kept {o : State} {s_0 : State} {p_1 : PortId} (h0 : Kept o s_0) :
    Kept o (@State.startExchange s_0 p_1) := by
  unfold State.startExchange
  repeat' (first
    | with_reducible first | assumption | refine State.sendOn_kept ?_ | refine State.setTimex_kept ?_
    | (extract_lets +onlyGivenNames x; first
      | (refine cutS (o := o) (x := x) ?_ (fun _ => ?_) <;> [subst x; clear_value x])
      | (refine cutP (o := o) (x := x) ?_ (fun _ => ?_) <;> [subst x; clear_value x])
      | (refine cutF (o := o) (x := x) ?_ (fun _ => ?_) <;> [subst x; clear_value x])
      | skip)
    | with_reducible refine Kept.same ?_ rfl
    | dsimp only)

theorem execTimeExchangePeriod_kept {o : State} {s_0 : State} (h0 : Kept o s_0) :
    KeptOut o (@execTimeExchangePeriod s_0) := by
  unfold execTimeExchangePeriod
  repeat' (first
    | with_reducible first | assumption | refine KeptOut.next ?_ | refine State.done_kept ?_ | refine foldState_kept ?_ ?_ | refine State.startExchange_kept ?_
    | (extract_lets +onlyGivenNames x; first
      | (refine cutS (o := o) (x := x) ?_ (fun _ => ?_) <;> [subst x; clear_value x])
      | (refine cutP (o := o) (x := x) ?_ (fun _ => ?_) <;> [subst x; clear_value x])
      | (refine cutF (o := o) (x := x) ?_ (fun _ => ?_) <;> [subst x; clear_value x])
      | skip)
    | with_reducible first | refine ite_keptOut ?_ ?_ | refine ite_kept ?_ ?_
    | split
    | with_reducible refine Kept.same ?_ rfl
    | dsimp only
    | (intro _))

theorem State.takeSync_kept {o : State} {s_0 : State} {p_1 : PortId} {f_2 : TimexFrame} (h0 : Kept o s_0) :
    Kept o (@State.takeSync s_0 p_1 f_2) := by
  unfold State.takeSync
  repeat' (first
    | with_reducible first | assumption | refine State.sendOn_kept ?_ | refine State.setTimex_kept ?_
    | (extract_lets +onlyGivenNames x; first
      | (refine cutS (o := o) (x := x) ?_ (fun _ => ?_) <;> [subst x; clear_value x])
      | (refine cutP (o := o) (x := x) ?_ (fun _ => ?_) <;> [subst x; clear_value x])
      | (refine cutF (o := o) (x := x) ?_ (fun _ => ?_) <;> [subst x; clear_value x])
      | skip)
    | with_reducible first | refine ite_kept ?_ ?_ | refine Kept.same ?_ rfl
    | dsimp only)

theorem State.takeReply_kept {o : State} {s_0 : State} {p_1 : PortId} {f_2 : TimexFrame} (h0 : Kept o s_0) :
    Kept o (@State.takeReply s_0 p_1 f_2) := by
  unfold State.takeReply
  repeat' (first
    | with_reducible first | assumption | refine State.sendOn_kept ?_ | refine State.setTimex_kept ?_
    | (extract_lets +onlyGivenNames x; first
      | (refine cutS (o := o) (x := x) ?_ (fun _ => ?_) <;> [subst x; clear_value x])
      | (refine cutP (o := o) (x := x) ?_ (fun _ => ?_) <;> [subst x; clear_value x])
      | (refine cutF (o := o) (x := x) ?_ (fun _ => ?_) <;> [subst x; clear_value x])
      | skip)
    | with_reducible refine ite_kept ?_ ?_
    | split
    | with_reducible refine Kept.same ?_ rfl
    | dsimp only)

theorem State.takeFollow_kept {o : State} {s_0 : State} {p_1 : PortId} {f_2 : TimexFrame} (h0 : Kept o s_0) :
    Kept o (@State.takeFollow s_0 p_1 f_2) := by
  unfold State.takeFollow
  repeat' (first
    | with_reducible first | assumption | refine State.setTimex_kept ?_ | refine State.discardSample_kept ?_ | refine State.sample_kept ?_ | refine State.wr_kept ?_
    | (extract_lets +onlyGivenNames x; first
      | (refine cutS (o := o) (x := x) ?_ (fun _ => ?_) <;> [subst x; clear_value x])
      | (refine cutP (o := o) (x := x) ?_ (fun _ => ?_) <;> [subst x; clear_value x])
      | (refine cutF (o := o) (x := x) ?_ (fun _ => ?_) <;> [subst x; clear_value x])
      | skip)
    | with_reducible refine ite_kept ?_ ?_
    | split
    | with_reducible refine Kept.same ?_ rfl
    | dsimp only)

theorem execTimexSync_kept {o : State} {p_0 : PortId} {f_1 : TimexFrame} {s_2 : State} (h2 : Kept o s_2) :
    KeptOut o (@execTimexSync p_0 f_1 s_2) := by
  unfold execTimexSync
  repeat' (first
    | with_reducible first | assumption | refine KeptOut.next ?_ | refine State.done_kept ?_ | refine State.takeSync_kept ?_
    | dsimp only)

theorem execTimexReply_kept {o : State} {p_0 : PortId} {f_1 : TimexFrame} {s_2 : State} (h2 : Kept o s_2) :
    KeptOut o (@execTimexReply p_0 f_1 s_2) := by
  unfold execTimexReply
  repeat' (first
    | with_reducible first | assumption | refine KeptOut.next ?_ | refine State.done_kept ?_ | refine State.takeReply_kept ?_
    | dsimp only)

theorem execTimexFollow_kept {o : State} {p_0 : PortId} {f_1 : TimexFrame} {s_2 : State} (h2 : Kept o s_2) :
    KeptOut o (@execTimexFollow p_0 f_1 s_2) := by
  unfold execTimexFollow
  repeat' (first
    | with_reducible first | assumption | refine KeptOut.next ?_ | refine State.done_kept ?_ | refine State.takeFollow_kept ?_
    | dsimp only)

theorem execTimeSourceTimeout_kept {o : State} {s_0 : State} (h0 : Kept o s_0) :
    KeptOut o (@execTimeSourceTimeout s_0) := by
  unfold execTimeSourceTimeout
  repeat' (first
    | with_reducible first | assumption | refine KeptOut.next ?_ | refine State.done_kept ?_ | refine State.enterHoldover_kept ?_ | refine ite_keptOut ?_ ?_ | refine ite_kept ?_ ?_
    | split
    | with_reducible refine Kept.same ?_ rfl
    | dsimp only)

theorem execHoldoverLimitExpiry_kept {o : State} {s_0 : State} (h0 : Kept o s_0) :
    KeptOut o (@execHoldoverLimitExpiry s_0) := by
  unfold execHoldoverLimitExpiry
  repeat' (first
    | with_reducible first | assumption | refine KeptOut.next ?_ | refine State.done_kept ?_ | refine State.freeRun_kept ?_ | refine ite_keptOut ?_ ?_ | refine ite_kept ?_ ?_
    | split
    | with_reducible refine Kept.same ?_ rfl
    | dsimp only)

theorem State.sideband_kept {o : State} {s_0 : State} (h0 : Kept o s_0) :
    Kept o (@State.sideband s_0) := by
  unfold State.sideband
  repeat' (first
    | with_reducible first | assumption | refine foldState_kept ?_ ?_
    | (extract_lets +onlyGivenNames x; first
      | (refine cutS (o := o) (x := x) ?_ (fun _ => ?_) <;> [subst x; clear_value x])
      | (refine cutP (o := o) (x := x) ?_ (fun _ => ?_) <;> [subst x; clear_value x])
      | (refine cutF (o := o) (x := x) ?_ (fun _ => ?_) <;> [subst x; clear_value x])
      | skip)
    | with_reducible first | refine ite_kept ?_ ?_ | refine Kept.same ?_ rfl
    | dsimp only
    | (intro _))

theorem execSidebandSync_kept {o : State} {s_0 : State} (h0 : Kept o s_0) :
    KeptOut o (@execSidebandSync s_0) := by
  unfold execSidebandSync
  repeat' (first
    | with_reducible first | assumption | refine KeptOut.next ?_ | refine State.done_kept ?_ | refine State.sideband_kept ?_
    | dsimp only)

theorem State.writeLedger_kept {o : State} {s_0 : State} (h0 : Kept o s_0) :
    Kept o (@State.writeLedger s_0) := by
  unfold State.writeLedger
  repeat' (first
    | with_reducible first | assumption | refine State.fresh_kept ?_ | refine State.bump_kept ?_
    | (extract_lets +onlyGivenNames x; first
      | (refine cutS (o := o) (x := x) ?_ (fun _ => ?_) <;> [subst x; clear_value x])
      | (refine cutP (o := o) (x := x) ?_ (fun _ => ?_) <;> [subst x; clear_value x])
      | (refine cutF (o := o) (x := x) ?_ (fun _ => ?_) <;> [subst x; clear_value x])
      | skip)
    | with_reducible refine Kept.same ?_ rfl
    | dsimp only
    | (intro _))

theorem State.ledgerRecord_kept {o : State} {s_0 : State} (h0 : Kept o s_0) :
    Kept o (@State.ledgerRecord s_0) := by
  unfold State.ledgerRecord
  repeat' (first
    | with_reducible first | assumption | refine State.writeLedger_kept ?_ | refine ite_kept ?_ ?_ | refine Kept.same ?_ rfl
    | dsimp only)

theorem State.restoreLedger_kept {o : State} {s_0 : State} {fuses_1 : ℕ} {blank_2 : Bool} (h0 : Kept o s_0) :
    Kept o (@State.restoreLedger s_0 fuses_1 blank_2) := by
  unfold State.restoreLedger
  repeat' (first
    | with_reducible first | assumption | refine foldl_kept ?_ (fun _ _ _ => ?_) | refine State.wr_kept ?_
    | (extract_lets +onlyGivenNames x; first
      | (refine cutS (o := o) (x := x) ?_ (fun _ => ?_) <;> [subst x; clear_value x])
      | (refine cutP (o := o) (x := x) ?_ (fun _ => ?_) <;> [subst x; clear_value x])
      | (refine cutF (o := o) (x := x) ?_ (fun _ => ?_) <;> [subst x; clear_value x])
      | skip)
    | with_reducible refine ite_kept ?_ ?_
    | split
    | with_reducible refine Kept.same ?_ rfl
    | dsimp only
    | (intro _))

theorem execJournalIntervalExpiry_kept {o : State} {s_0 : State} (h0 : Kept o s_0) :
    KeptOut o (@execJournalIntervalExpiry s_0) := by
  unfold execJournalIntervalExpiry
  repeat' (first
    | with_reducible first | assumption | refine KeptOut.next ?_ | refine State.done_kept ?_ | refine State.ledgerRecord_kept ?_ | refine ite_keptOut ?_ ?_ | refine ite_kept ?_ ?_
    | dsimp only)

theorem State.zeroizeKey_kept {o : State} {s_0 : State} {n_1 : ℕ} (h0 : Kept o s_0) :
    Kept o (@State.zeroizeKey s_0 n_1) :=
  State.wr_kept (h0.setKeys (sparseWf_sparseSet (fun _ => 0) _ _ _ h0.keys))

theorem State.zeroizeAll_kept {o : State} {s_0 : State} (h0 : Kept o s_0) :
    Kept o (@State.zeroizeAll s_0) := by
  unfold State.zeroizeAll
  repeat' (first
    | with_reducible first | assumption | refine foldl_kept ?_ (fun _ _ _ => ?_) | refine State.zeroizeKey_kept ?_ | refine Kept.same ?_ rfl
    | dsimp only
    | (intro _))

theorem State.assignSlots_kept {o : State} {s_0 : State} {n_1 : ℕ} (h0 : Kept o s_0) :
    Kept o (@State.assignSlots s_0 n_1) := by
  unfold State.assignSlots
  repeat' (first
    | with_reducible assumption
    | (extract_lets +onlyGivenNames x; first
      | (refine cutS (o := o) (x := x) ?_ (fun _ => ?_) <;> [subst x; clear_value x])
      | (refine cutP (o := o) (x := x) ?_ (fun _ => ?_) <;> [subst x; clear_value x])
      | (refine cutF (o := o) (x := x) ?_ (fun _ => ?_) <;> [subst x; clear_value x])
      | skip)
    | with_reducible refine Kept.same ?_ rfl
    | dsimp only
    | (intro _))

theorem State.toFree_kept {o : State} {s_0 : State} {n_1 : ℕ} (h0 : Kept o s_0) :
    Kept o (@State.toFree s_0 n_1) := by
  unfold State.toFree
  repeat' (first
    | with_reducible first | assumption | refine foldl_kept ?_ (fun _ _ _ => ?_) | refine State.wr_kept ?_ | refine State.zeroizeKey_kept ?_
    | (extract_lets +onlyGivenNames x; first
      | (refine cutS (o := o) (x := x) ?_ (fun _ => ?_) <;> [subst x; clear_value x])
      | (refine cutP (o := o) (x := x) ?_ (fun _ => ?_) <;> [subst x; clear_value x])
      | (refine cutF (o := o) (x := x) ?_ (fun _ => ?_) <;> [subst x; clear_value x])
      | skip)
    | with_reducible refine ite_kept ?_ ?_
    | split
    | with_reducible refine Kept.same ?_ rfl
    | dsimp only
    | (intro _))

theorem State.stopRings_kept {o : State} {s : State} {n : ℕ} (h : Kept o s) : Kept o (s.stopRings n) := by
  unfold State.stopRings
  extract_lets rings s1 s2 again s3 mine
  have h2 : Kept o s2 := foldState_kept (foldl_kept h fun _ _ h => State.wr_kept h) (fun _ _ h => State.finishCmd_kept h)
  have h3 : Kept o s3 := foldl_kept h2 fun _ _ h => Kept.same (State.setRing_kept h) rfl
  exact State.releaseDone_kept (Kept.same h3 rfl)

theorem State.staleSlots_kept {o : State} {s_0 : State} {n_1 : ℕ} (h0 : Kept o s_0) :
    Kept o (@State.staleSlots s_0 n_1) := by
  unfold State.staleSlots
  repeat' (first
    | with_reducible assumption
    | (extract_lets +onlyGivenNames x; first
      | (refine cutS (o := o) (x := x) ?_ (fun _ => ?_) <;> [subst x; clear_value x])
      | (refine cutP (o := o) (x := x) ?_ (fun _ => ?_) <;> [subst x; clear_value x])
      | (refine cutF (o := o) (x := x) ?_ (fun _ => ?_) <;> [subst x; clear_value x])
      | skip)
    | with_reducible refine Kept.same ?_ rfl
    | dsimp only
    | (intro _))

theorem State.closeHerd_kept {o : State} {s_0 : State} {n_1 : ℕ} (h0 : Kept o s_0) :
    Kept o (@State.closeHerd s_0 n_1) := by
  unfold State.closeHerd
  repeat' (first
    | with_reducible first | assumption | refine State.stopRings_kept ?_ | refine State.wr_kept ?_ | refine foldState_kept ?_ ?_ | refine State.completion_kept ?_ | refine State.revokeOp_kept ?_ | refine State.unshareClosing_kept ?_ | refine State.staleSlots_kept ?_ | refine State.freeProfiles_kept ?_ | refine State.freeSets_kept ?_ | refine State.toFree_kept ?_
    | (extract_lets +onlyGivenNames x; first
      | (refine cutS (o := o) (x := x) ?_ (fun _ => ?_) <;> [subst x; clear_value x])
      | (refine cutP (o := o) (x := x) ?_ (fun _ => ?_) <;> [subst x; clear_value x])
      | (refine cutF (o := o) (x := x) ?_ (fun _ => ?_) <;> [subst x; clear_value x])
      | skip)
    | with_reducible refine ite_kept ?_ ?_
    | dsimp only
    | (intro _))

theorem State.herdWrite_kept {o : State} {s_0 : State} {n_1 : ℕ} {v_2 : ℕ} (h0 : Kept o s_0) :
    Kept o (@State.herdWrite s_0 n_1 v_2).2 := by
  unfold State.herdWrite
  repeat' (first
    | with_reducible first | assumption | refine State.wr_kept ?_ | refine State.assignSlots_kept ?_ | refine State.toFree_kept ?_ | refine State.closeHerd_kept ?_
    | (extract_lets +onlyGivenNames x; first
      | (refine cutS (o := o) (x := x) ?_ (fun _ => ?_) <;> [subst x; clear_value x])
      | (refine cutP (o := o) (x := x) ?_ (fun _ => ?_) <;> [subst x; clear_value x])
      | (refine cutF (o := o) (x := x) ?_ (fun _ => ?_) <;> [subst x; clear_value x])
      | skip)
    | with_reducible first | refine ite_kept2 ?_ ?_ | refine ite_kept1 ?_ ?_ | refine ite_kept ?_ ?_ | refine Kept.same ?_ rfl
    | dsimp only)
theorem State.herdWrite_eq {o : State} {s_0 : State} {n_1 : ℕ} {v_2 : ℕ} {v0 : ℕ} {t : State} (e : @State.herdWrite s_0 n_1 v_2 = (v0, t)) (h0 : Kept o s_0) : Kept o t := by
  have h : Kept o (@State.herdWrite s_0 n_1 v_2).2 := State.herdWrite_kept h0
  rw [e] at h; exact h

theorem execHerdCloseDone_kept {o : State} {n_0 : HerdId} {s_1 : State} (h1 : Kept o s_1) :
    KeptOut o (@execHerdCloseDone n_0 s_1) := by
  unfold execHerdCloseDone
  repeat' (first
    | with_reducible first | assumption | refine KeptOut.next ?_ | refine State.done_kept ?_ | refine State.toFree_kept ?_ | refine ite_keptOut ?_ ?_ | refine ite_kept ?_ ?_
    | dsimp only)

end Sys2Proof.Machine
end

