-- ==== Sys2Proof/Laws/KeptFaults.lean ====
section
/-! SUPPORT. What every command keeps, through faults, power, boot and security. -/

namespace Sys2Proof.Machine

set_option linter.all false
set_option maxRecDepth 4000

theorem State.quadrantLost_kept {o : State} {s_0 : State} {a_1 : ℕ} {at__2 : ℕ} {kind_3 : ℕ} {unit_4 : ℕ} (h0 : Kept o s_0) :
    Kept o (@State.quadrantLost s_0 a_1 at__2 kind_3 unit_4) := by
  unfold State.quadrantLost
  repeat' (first
    | with_reducible first | assumption | refine State.emit_kept ?_ | refine State.loseQuadrant_kept ?_ | refine State.enterIsolation_kept ?_
    | (extract_lets +onlyGivenNames x; first
      | (refine cutS (o := o) (x := x) ?_ (fun _ => ?_) <;> [subst x; clear_value x])
      | (refine cutP (o := o) (x := x) ?_ (fun _ => ?_) <;> [subst x; clear_value x])
      | (refine cutF (o := o) (x := x) ?_ (fun _ => ?_) <;> [subst x; clear_value x])
      | skip)
    | with_reducible refine ite_kept ?_ ?_
    | dsimp only)

theorem State.tineFailed_kept {o : State} {s_0 : State} {t_1 : ℕ} (h0 : Kept o s_0) :
    Kept o (@State.tineFailed s_0 t_1) := by
  unfold State.tineFailed
  repeat' (first
    | with_reducible first | assumption | refine State.emit_kept ?_ | refine State.failTine_kept ?_ | refine ite_kept ?_ ?_
    | dsimp only)

theorem State.unitFailed_kept {o : State} {s_0 : State} {a_1 : ℕ} {kind_2 : ℕ} {unit_3 : ℕ} (h0 : Kept o s_0) :
    Kept o (@State.unitFailed s_0 a_1 kind_2 unit_3) := by
  unfold State.unitFailed
  repeat' (first
    | with_reducible first | assumption | refine State.emit_kept ?_
    | dsimp only)

theorem State.reduceFailed_kept {o : State} {s_0 : State} {u_1 : ℕ} (h0 : Kept o s_0) :
    Kept o (@State.reduceFailed s_0 u_1) := by
  unfold State.reduceFailed
  repeat' (first
    | with_reducible first | assumption | refine State.unitFailed_kept ?_ | refine ite_kept ?_ ?_ | refine Kept.same ?_ rfl
    | dsimp only)

theorem execReduceSelfCheckFail_kept {o : State} {u_0 : ReduceId} {s_1 : State} (h1 : Kept o s_1) :
    KeptOut o (@execReduceSelfCheckFail u_0 s_1) := by
  unfold execReduceSelfCheckFail
  repeat' (first
    | with_reducible first | assumption | refine KeptOut.next ?_ | refine State.done_kept ?_ | refine State.reduceFailed_kept ?_
    | dsimp only)

theorem execTineWatchdogExpiry_kept {o : State} {t_0 : TineId} {s_1 : State} (h1 : Kept o s_1) :
    KeptOut o (@execTineWatchdogExpiry t_0 s_1) := by
  unfold execTineWatchdogExpiry
  repeat' (first
    | with_reducible first | assumption | refine KeptOut.next ?_ | refine State.done_kept ?_ | refine State.tineFailed_kept ?_ | refine ite_keptOut ?_ ?_ | refine ite_kept ?_ ?_
    | dsimp only)

theorem execLogicCheck_kept {o : State} {u_0 : LogicUnit} {s_1 : State} (h1 : Kept o s_1) :
    KeptOut o (@execLogicCheck u_0 s_1) := by
  unfold execLogicCheck
  repeat' (first
    | with_reducible first | assumption | refine KeptOut.next ?_ | refine State.done_kept ?_ | refine State.quadrantLost_kept ?_ | refine State.tineFailed_kept ?_
    | split
    | with_reducible refine Kept.same ?_ rfl
    | dsimp only)

theorem State.d2dFail_kept {o : State} {s_0 : State} {a_1 : ℕ} {b_2 : ℕ} {mask_3 : ℕ} (h0 : Kept o s_0) :
    Kept o (@State.d2dFail s_0 a_1 b_2 mask_3) := by
  unfold State.d2dFail
  repeat' (first
    | with_reducible first | assumption | refine State.quadrantLost_kept ?_ | refine State.unitFailed_kept ?_
    | (extract_lets +onlyGivenNames x; first
      | (refine cutS (o := o) (x := x) ?_ (fun _ => ?_) <;> [subst x; clear_value x])
      | (refine cutP (o := o) (x := x) ?_ (fun _ => ?_) <;> [subst x; clear_value x])
      | (refine cutF (o := o) (x := x) ?_ (fun _ => ?_) <;> [subst x; clear_value x])
      | skip)
    | with_reducible first | refine ite_kept ?_ ?_ | refine Kept.same ?_ rfl
    | dsimp only)

theorem execD2dLinkFailure_kept {o : State} {qa_0 : QuadId} {qb_1 : QuadId} {endpoints_2 : BitVec 4} {s_3 : State} (h3 : Kept o s_3) :
    KeptOut o (@execD2dLinkFailure qa_0 qb_1 endpoints_2 s_3) := by
  unfold execD2dLinkFailure
  repeat' (first
    | with_reducible first | assumption | refine KeptOut.next ?_ | refine State.done_kept ?_ | refine State.d2dFail_kept ?_
    | dsimp only)

theorem State.stackLost_kept {o : State} {s_0 : State} {k_1 : ℕ} (h0 : Kept o s_0) :
    Kept o (@State.stackLost s_0 k_1) := by
  unfold State.stackLost
  repeat' (first
    | with_reducible first | assumption | refine State.loseSlice_kept ?_ | refine State.emitAs_kept ?_
    | (extract_lets +onlyGivenNames x; first
      | (refine cutS (o := o) (x := x) ?_ (fun _ => ?_) <;> [subst x; clear_value x])
      | (refine cutP (o := o) (x := x) ?_ (fun _ => ?_) <;> [subst x; clear_value x])
      | (refine cutF (o := o) (x := x) ?_ (fun _ => ?_) <;> [subst x; clear_value x])
      | skip)
    | with_reducible first | refine ite_kept ?_ ?_ | refine Kept.same ?_ rfl
    | dsimp only)

theorem execHbmStackLost_kept {o : State} {k_0 : StackId} {s_1 : State} (h1 : Kept o s_1) :
    KeptOut o (@execHbmStackLost k_0 s_1) := by
  unfold execHbmStackLost
  repeat' (first
    | with_reducible first | assumption | refine KeptOut.next ?_ | refine State.done_kept ?_ | refine State.stackLost_kept ?_
    | dsimp only)

theorem State.coreFailed_kept {o : State} {s_0 : State} {a_1 : ℕ} (h0 : Kept o s_0) :
    Kept o (@State.coreFailed s_0 a_1) := by
  unfold State.coreFailed
  repeat' (first
    | with_reducible first | assumption | refine State.emit_kept ?_ | refine State.enterIsolation_kept ?_
    | (extract_lets +onlyGivenNames x; first
      | (refine cutS (o := o) (x := x) ?_ (fun _ => ?_) <;> [subst x; clear_value x])
      | (refine cutP (o := o) (x := x) ?_ (fun _ => ?_) <;> [subst x; clear_value x])
      | (refine cutF (o := o) (x := x) ?_ (fun _ => ?_) <;> [subst x; clear_value x])
      | skip)
    | with_reducible first | refine ite_kept ?_ ?_ | refine Kept.same ?_ rfl
    | dsimp only)

theorem execMgmtCoreWatchdogExpiry_kept {o : State} {a_0 : QuadId} {s_1 : State} (h1 : Kept o s_1) :
    KeptOut o (@execMgmtCoreWatchdogExpiry a_0 s_1) := by
  unfold execMgmtCoreWatchdogExpiry
  repeat' (first
    | with_reducible first | assumption | refine KeptOut.next ?_ | refine State.done_kept ?_ | refine State.coreFailed_kept ?_
    | dsimp only)

theorem execKeyStoreCheckFail_kept {o : State} {a_0 : QuadId} {s_1 : State} (h1 : Kept o s_1) :
    KeptOut o (@execKeyStoreCheckFail a_0 s_1) := by
  unfold execKeyStoreCheckFail
  repeat' (first
    | with_reducible first | assumption | refine KeptOut.next ?_ | refine State.done_kept ?_ | refine State.raise_kept ?_ | refine State.emit_kept ?_ | refine State.zeroizeAll_kept ?_
    | dsimp only)

theorem State.chargeBin_kept {o : State} {s_0 : State} {t_1 : ℕ} {cls_2 : ℕ} {hot_3 : ℤ} (h0 : Kept o s_0) :
    Kept o (@State.chargeBin s_0 t_1 cls_2 hot_3) := by
  unfold State.chargeBin
  repeat' (first
    | with_reducible first | assumption | refine State.bump_kept ?_ | refine State.wr_kept ?_ | refine State.emit_kept ?_
    | (extract_lets +onlyGivenNames x; first
      | (refine cutS (o := o) (x := x) ?_ (fun _ => ?_) <;> [subst x; clear_value x])
      | (refine cutP (o := o) (x := x) ?_ (fun _ => ?_) <;> [subst x; clear_value x])
      | (refine cutF (o := o) (x := x) ?_ (fun _ => ?_) <;> [subst x; clear_value x])
      | skip)
    | with_reducible refine ite_kept ?_ ?_
    | dsimp only)

theorem State.canaryRan_kept {o : State} {s_0 : State} {k_1 : Canary} (h0 : Kept o s_0) :
    Kept o (@State.canaryRan s_0 k_1) := by
  unfold State.canaryRan
  repeat' (first
    | with_reducible first | assumption | refine State.bump_kept ?_ | refine Kept.same ?_ rfl
    | dsimp only)

theorem State.canaryFails_kept {o : State} {s_0 : State} {t_1 : ℕ} (h0 : Kept o s_0) :
    Kept o (@State.canaryFails s_0 t_1) := by
  unfold State.canaryFails
  repeat' (first
    | with_reducible first | assumption | refine State.chargeBin_kept ?_ | refine State.canaryRan_kept ?_
    | (extract_lets +onlyGivenNames x; first
      | (refine cutS (o := o) (x := x) ?_ (fun _ => ?_) <;> [subst x; clear_value x])
      | (refine cutP (o := o) (x := x) ?_ (fun _ => ?_) <;> [subst x; clear_value x])
      | (refine cutF (o := o) (x := x) ?_ (fun _ => ?_) <;> [subst x; clear_value x])
      | skip)
    | with_reducible refine ite_kept ?_ ?_
    | split
    | with_reducible refine Kept.same ?_ rfl
    | dsimp only
    | (intro _))

theorem State.canaryPasses_kept {o : State} {s_0 : State} {k_1 : Canary} (h0 : Kept o s_0) :
    Kept o (@State.canaryPasses s_0 k_1) := by
  unfold State.canaryPasses
  repeat' (first
    | with_reducible first | assumption | refine State.canaryRan_kept ?_ | refine State.wr_kept ?_
    | (extract_lets +onlyGivenNames x; first
      | (refine cutS (o := o) (x := x) ?_ (fun _ => ?_) <;> [subst x; clear_value x])
      | (refine cutP (o := o) (x := x) ?_ (fun _ => ?_) <;> [subst x; clear_value x])
      | (refine cutF (o := o) (x := x) ?_ (fun _ => ?_) <;> [subst x; clear_value x])
      | skip)
    | with_reducible refine ite_kept ?_ ?_
    | dsimp only
    | (intro _))

theorem State.endCanaries_kept {o : State} {s_0 : State} (h0 : Kept o s_0) :
    Kept o (@State.endCanaries s_0) := by
  unfold State.endCanaries
  repeat' (first
    | with_reducible first | assumption | refine foldl_kept ?_ (fun _ _ _ => ?_) | refine State.canaryPasses_kept ?_
    | dsimp only
    | (intro _))

theorem State.tgCanary_kept {o : State} {s_0 : State} {n_1 : ℕ} (h0 : Kept o s_0) :
    Kept o (@State.tgCanary s_0 n_1) := by
  unfold State.tgCanary
  repeat' (first
    | with_reducible first | assumption | refine State.startCanary_kept ?_ | refine State.bump_kept ?_
    | (extract_lets +onlyGivenNames x; first
      | (refine cutS (o := o) (x := x) ?_ (fun _ => ?_) <;> [subst x; clear_value x])
      | (refine cutP (o := o) (x := x) ?_ (fun _ => ?_) <;> [subst x; clear_value x])
      | (refine cutF (o := o) (x := x) ?_ (fun _ => ?_) <;> [subst x; clear_value x])
      | skip)
    | with_reducible refine ite_kept ?_ ?_
    | split
    | with_reducible refine Kept.same ?_ rfl
    | dsimp only
    | (intro _))

theorem execTgCanaryTimer_kept {o : State} {n_0 : HerdId} {s_1 : State} (h1 : Kept o s_1) :
    KeptOut o (@execTgCanaryTimer n_0 s_1) := by
  unfold execTgCanaryTimer
  repeat' (first
    | with_reducible first | assumption | refine KeptOut.next ?_ | refine State.done_kept ?_ | refine State.tgCanary_kept ?_
    | dsimp only)

theorem State.releaseWrite_kept {o : State} {s_0 : State} {t_1 : ℕ} (h0 : Kept o s_0) :
    Kept o (@State.releaseWrite s_0 t_1).2 := by
  unfold State.releaseWrite
  repeat' (first
    | with_reducible first | assumption | refine ite_kept2 ?_ ?_ | refine ite_kept1 ?_ ?_ | refine ite_kept ?_ ?_ | refine Kept.same ?_ rfl
    | dsimp only)
theorem State.releaseWrite_eq {o : State} {s_0 : State} {t_1 : ℕ} {v0 : ℕ} {t : State} (e : @State.releaseWrite s_0 t_1 = (v0, t)) (h0 : Kept o s_0) : Kept o t := by
  have h : Kept o (@State.releaseWrite s_0 t_1).2 := State.releaseWrite_kept h0
  rw [e] at h; exact h

theorem State.recoverWrite_kept {o : State} {s_0 : State} (h0 : Kept o s_0) :
    Kept o (@State.recoverWrite s_0).2 := by
  unfold State.recoverWrite
  repeat' (first
    | with_reducible first | assumption | refine foldState_kept ?_ ?_ | refine State.startFour_kept ?_
    | (extract_lets +onlyGivenNames x; first
      | (refine cutS (o := o) (x := x) ?_ (fun _ => ?_) <;> [subst x; clear_value x])
      | (refine cutP (o := o) (x := x) ?_ (fun _ => ?_) <;> [subst x; clear_value x])
      | (refine cutF (o := o) (x := x) ?_ (fun _ => ?_) <;> [subst x; clear_value x])
      | skip)
    | with_reducible first | refine ite_kept2 ?_ ?_ | refine ite_kept1 ?_ ?_ | refine ite_kept ?_ ?_ | refine Kept.same ?_ rfl
    | dsimp only
    | (intro _))
theorem State.recoverWrite_eq {o : State} {s_0 : State} {v0 : ℕ} {t : State} (e : @State.recoverWrite s_0 = (v0, t)) (h0 : Kept o s_0) : Kept o t := by
  have h : Kept o (@State.recoverWrite s_0).2 := State.recoverWrite_kept h0
  rw [e] at h; exact h

theorem execBasicModeExit_kept {o : State} {s_0 : State} (h0 : Kept o s_0) :
    KeptOut o (@execBasicModeExit s_0) := by
  unfold execBasicModeExit
  repeat' (first
    | with_reducible first | assumption | refine KeptOut.next ?_ | refine State.done_kept ?_ | refine State.wr_kept ?_ | refine State.release_kept ?_ | refine State.retryContribs_kept ?_ | refine State.emit_kept ?_
    | (extract_lets +onlyGivenNames x; first
      | (refine cutS (o := o) (x := x) ?_ (fun _ => ?_) <;> [subst x; clear_value x])
      | (refine cutP (o := o) (x := x) ?_ (fun _ => ?_) <;> [subst x; clear_value x])
      | (refine cutF (o := o) (x := x) ?_ (fun _ => ?_) <;> [subst x; clear_value x])
      | skip)
    | with_reducible first | refine ite_keptOut ?_ ?_ | refine ite_kept ?_ ?_ | refine Kept.same ?_ rfl
    | dsimp only
    | (intro _))

theorem State.zeroTines_kept {o : State} {s_0 : State} {ts_1 : List ℕ} {herd_2 : ℕ} (h0 : Kept o s_0) :
    Kept o (@State.zeroTines s_0 ts_1 herd_2) := by
  unfold State.zeroTines
  repeat' (first
    | with_reducible first | assumption | refine foldState_kept ?_ ?_ | refine State.wr_kept ?_ | refine State.dropLines_kept ?_ | refine State.takeTine_kept ?_
    | dsimp only
    | (intro _))

theorem State.dualRelease_kept {o : State} {s_0 : State} {d_1 : DualHold} (h0 : Kept o s_0) :
    Kept o (@State.dualRelease s_0 d_1) := by
  unfold State.dualRelease
  repeat' (first
    | with_reducible first | assumption | refine State.retryContribs_kept ?_ | refine State.tryClose_kept ?_ | refine State.releaseChunk_kept ?_ | refine State.zeroTines_kept ?_
    | (extract_lets +onlyGivenNames x; first
      | (refine cutS (o := o) (x := x) ?_ (fun _ => ?_) <;> [subst x; clear_value x])
      | (refine cutP (o := o) (x := x) ?_ (fun _ => ?_) <;> [subst x; clear_value x])
      | (refine cutF (o := o) (x := x) ?_ (fun _ => ?_) <;> [subst x; clear_value x])
      | skip)
    | with_reducible refine Kept.same ?_ rfl
    | dsimp only)

theorem State.dualMismatch_kept {o : State} {s_0 : State} {d_1 : DualHold} {minority_2 : ℕ} (h0 : Kept o s_0) :
    Kept o (@State.dualMismatch s_0 d_1 minority_2) := by
  unfold State.dualMismatch
  repeat' (first
    | with_reducible first | assumption | refine State.emit_kept ?_ | refine State.bump_kept ?_
    | split
    | dsimp only)

theorem State.dualRepeat_kept {o : State} {s_0 : State} {d_1 : DualHold} {v_2 : DualVerdict} (h0 : Kept o s_0) :
    Kept o (@State.dualRepeat s_0 d_1 v_2) := by
  unfold State.dualRepeat
  repeat' (first
    | with_reducible first | assumption | refine State.bump_kept ?_ | refine State.dualRelease_kept ?_ | refine State.dualMismatch_kept ?_ | refine State.chargeBin_kept ?_ | refine State.reduceFailed_kept ?_ | refine State.retryContribs_kept ?_ | refine State.abortStep_kept ?_ | refine State.zeroTines_kept ?_
    | (extract_lets +onlyGivenNames x; first
      | (refine cutS (o := o) (x := x) ?_ (fun _ => ?_) <;> [subst x; clear_value x])
      | (refine cutP (o := o) (x := x) ?_ (fun _ => ?_) <;> [subst x; clear_value x])
      | (refine cutF (o := o) (x := x) ?_ (fun _ => ?_) <;> [subst x; clear_value x])
      | skip)
    | with_reducible refine ite_kept ?_ ?_
    | split
    | with_reducible refine Kept.same ?_ rfl
    | dsimp only
    | (intro _))

theorem execDualRepeatDone_kept {o : State} {a_0 : QuadId} {v_1 : DualVerdict} {s_2 : State} (h2 : Kept o s_2) :
    KeptOut o (@execDualRepeatDone a_0 v_1 s_2) := by
  unfold execDualRepeatDone
  repeat' (first
    | with_reducible first | assumption | refine KeptOut.next ?_ | refine State.done_kept ?_ | refine State.dualRepeat_kept ?_
    | split
    | with_reducible refine Kept.same ?_ rfl
    | dsimp only)

theorem execDualRepeatTimeout_kept {o : State} {a_0 : QuadId} {s_1 : State} (h1 : Kept o s_1) :
    KeptOut o (@execDualRepeatTimeout a_0 s_1) := by
  unfold execDualRepeatTimeout
  repeat' (first
    | with_reducible first | assumption | refine KeptOut.next ?_ | refine State.done_kept ?_ | refine State.dualMismatch_kept ?_ | refine State.dualRelease_kept ?_ | refine State.bump_kept ?_
    | (extract_lets +onlyGivenNames x; first
      | (refine cutS (o := o) (x := x) ?_ (fun _ => ?_) <;> [subst x; clear_value x])
      | (refine cutP (o := o) (x := x) ?_ (fun _ => ?_) <;> [subst x; clear_value x])
      | (refine cutF (o := o) (x := x) ?_ (fun _ => ?_) <;> [subst x; clear_value x])
      | skip)
    | with_reducible first | refine ite_keptOut ?_ ?_ | refine ite_kept ?_ ?_
    | split
    | with_reducible refine Kept.same ?_ rfl
    | dsimp only)

theorem State.eccBad_kept {o : State} {s_0 : State} {a_1 : ℕ} {herd_2 : ℕ} {kind_3 : ℕ} {unit_4 : ℕ} {a_5 : ℕ} {b_6 : ℕ} (h0 : Kept o s_0) :
    Kept o (@State.eccBad s_0 a_1 herd_2 kind_3 unit_4 a_5 b_6) := by
  unfold State.eccBad
  repeat' (first
    | with_reducible first | assumption | refine State.emit_kept ?_ | refine State.bump_kept ?_
    | dsimp only)

theorem State.detect_kept {o s : State} {src : ErrorSource} (h : Kept o s) : Kept o (s.detect src) := by
  have w : ∀ (t : State) (l), Kept o t → Kept o { t with flt := { t.flt with fourDue := l } } := fun t l h => h.updF h.flt
  unfold State.detect
  cases src with
  | corrected kind unit q loc => exact State.emit_kept (ite_kept (State.count_kept (State.bump_kept h)) (State.bump_kept h))
  | poolLine e line kind unit =>
    exact State.eccBad_kept (ite_kept (State.count_kept (State.addPoison_kept h)) (State.addPoison_kept h))
  | tineMemory t k => exact State.eccBad_kept (w _ _ (ite_kept (State.endThread_kept h) h))
  | bufferCell f => exact ite_kept (State.bump_kept (State.loseTx_kept h)) h
  | dirEntry e line => exact State.eccBad_kept (ite_kept (State.release_kept (State.poisonTxn_kept (State.setDir_kept h))) h)
  | extentState e => exact State.eccBad_kept (ite_kept h (State.revokeOp_kept h))
  | ownership i =>
    dsimp only
    split
    · exact h
    · exact State.eccBad_kept (State.revokeOp_kept h)
  | matchEntry i => exact Kept.same h rfl
  | canary t => exact State.canaryFails_kept h
  | alwaysOn q => exact State.enterIsolation_kept h
  | other kind unit q => exact State.emitAs_kept h

theorem execErrorDetected_kept {o : State} {src_0 : ErrorSource} {s_1 : State} (h1 : Kept o s_1) :
    KeptOut o (@execErrorDetected src_0 s_1) := by
  unfold execErrorDetected
  repeat' (first
    | with_reducible first | assumption | refine KeptOut.next ?_ | refine State.done_kept ?_ | refine State.detect_kept ?_
    | dsimp only)

theorem nested_tail {f : Faults} {x : HandlerFrame} {l : List HandlerFrame} {t : ℕ} (n : f.nested)
    (h1 : (x :: l).Pairwise (fun a b => b.cls < a.cls)) (h2 : ∀ y ∈ x :: l, 1 ≤ y.cls ∧ y.cls ≤ 4) :
    Faults.nested { f with stack := { x with top := t } :: l } := by
  obtain ⟨n1, n2, n3, n4, n5⟩ := n
  simp only [List.pairwise_cons] at h1
  refine ⟨List.pairwise_cons.2 ⟨h1.1, h1.2⟩, fun y hy => ?_, n3, n4, n5⟩
  rcases List.mem_cons.1 hy with rfl | hy
  · exact h2 x (by simp)
  · exact h2 y (by simp [hy])
theorem State.resume_kept {o s : State} {l : List HandlerFrame} (h : Kept o s)
    (h1 : l.Pairwise (fun a b => b.cls < a.cls)) (h2 : ∀ y ∈ l, 1 ≤ y.cls ∧ y.cls ≤ 4) : Kept o (s.resume l) := by
  unfold State.resume
  split
  · exact State.wr_kept (h.updF (nested_tail h.flt h1 h2))
  · obtain ⟨n1, n2, n3, n4, n5⟩ := h.flt
    have h3 : Kept o (({ s with flt := { s.flt with stack := [] } } : State).wr od4400_DEPTH 0 0) :=
      State.wr_kept (h.updF ⟨.nil, by simp, n3, n4, n5⟩)
    dsimp only
    generalize State.wr _ od4400_DEPTH 0 0 = s1 at h3 ⊢
    obtain ⟨n1, n2, n3, n4, n5⟩ := h3.flt
    refine ite_kept h3 ?_
    split
    · rename_i e
      rw [e] at n4
      exact State.push_kept (State.queued_kept (h3.updF ⟨n1, n2, n3, by simp only [List.length_cons] at n4; simp only; omega, n5⟩)) ⟨by simp, by simp⟩
    · rename_i e
      rw [e] at n5
      exact State.push_kept (State.queued_kept (h3.updF ⟨n1, n2, n3, n4, by simp only [List.length_cons] at n5; simp only; omega⟩)) ⟨by simp, by simp⟩
    · exact h3

theorem State.handlerTime_kept {o : State} {s_0 : State} {f_1 : HandlerFrame} (h0 : Kept o s_0) :
    Kept o (@State.handlerTime s_0 f_1) := by
  unfold State.handlerTime
  repeat' (first
    | with_reducible first | assumption | refine State.tally_kept ?_
    | dsimp only)

theorem execHandlerEnd_kept {o s : State} (h : Kept o s) : KeptOut o (execHandlerEnd s) := by
  unfold execHandlerEnd
  refine State.done_kept ?_
  split
  · exact h
  · rename_i f fs e
    have n := h.flt
    simp only [Faults.nested, e, List.pairwise_cons] at n
    exact State.resume_kept (State.handlerTime_kept h) n.1.2 fun y hy => n.2.1 y (by simp [hy])

theorem State.overrun_kept {o s : State} {f : HandlerFrame} {fs : List HandlerFrame} (h : Kept o s) (e : s.flt.stack = f :: fs) :
    Kept o (s.overrun f fs) := by
  have n := h.flt
  simp only [Faults.nested, e, List.pairwise_cons] at n
  obtain ⟨⟨n1, n1'⟩, n2, -⟩ := n
  unfold State.overrun
  have h1 : Kept o ((s.handlerTime f).emit f.core evHandlerOverrun 0 7 f.core 0 [f.cls * 65536 + f.kind * 4096 + f.unit]) :=
    State.emit_kept (State.handlerTime_kept h)
  dsimp only
  generalize State.emit _ f.core evHandlerOverrun 0 7 f.core 0 _ = s1 at h1 ⊢
  obtain ⟨m1, m2, m3, m4, m5⟩ := h1.flt
  have h2 := h1.updF (f := { s1.flt with stack := { f with kind := 15, unit := 4095 } :: fs, raised := s1.flt.raised.erase ⟨3, 7, f.core, evHandlerOverrun, f.core⟩ })
    ⟨List.pairwise_cons.2 ⟨n1, n1'⟩, fun y hy => by
      rcases List.mem_cons.1 hy with rfl | hy
      · exact n2 f (by simp)
      · exact n2 y (by simp [hy]), fun x hx => m3 x (List.mem_of_mem_erase hx), m4, m5⟩
  have h3 := State.nest_kept (r := ⟨3, 7, f.core, evHandlerOverrun, f.core⟩) h2 ⟨by simp, by simp⟩
  generalize State.nest _ _ = s3 at h3 ⊢
  obtain ⟨k1, k2, k3, k4, k5⟩ := h3.flt
  have w1 := k1.filter (fun x => !(x.kind == 15 && x.unit == 4095))
  have w2 : ∀ y ∈ s3.flt.stack.filter (fun x => !(x.kind == 15 && x.unit == 4095)), 1 ≤ y.cls ∧ y.cls ≤ 4 :=
    fun y hy => k2 y (List.mem_filter.1 hy).1
  exact ite_kept (State.resume_kept h3 w1 w2) (State.wr_kept (h3.updF ⟨w1, w2, k3, k4, k5⟩))

theorem execHandlerLimitExpiry_kept {o s : State} (h : Kept o s) : KeptOut o (execHandlerLimitExpiry s) := by
  unfold execHandlerLimitExpiry
  refine State.done_kept ?_
  split
  · exact h
  · rename_i e
    exact ite_kept (State.overrun_kept h e) h

theorem State.copyGone_kept {o : State} {s_0 : State} {i_1 : ℕ} {r_2 : LogRec} (h0 : Kept o s_0) :
    Kept o (@State.copyGone s_0 i_1 r_2) := by
  unfold State.copyGone
  repeat' (first
    | with_reducible first | assumption | refine ite_kept ?_ ?_ | refine Kept.same ?_ rfl
    | dsimp only)

theorem State.issueRecord_kept {o : State} {s_0 : State} {i_1 : ℕ} {device_2 : Bool} (h0 : Kept o s_0) :
    Kept o (@State.issueRecord s_0 i_1 device_2) := by
  unfold State.issueRecord
  repeat' (first
    | with_reducible first | assumption | refine State.post_some (by assumption) ?_ | refine State.post_kept ?_ | refine State.copyGone_kept ?_
    | (extract_lets +onlyGivenNames x; first
      | (refine cutS (o := o) (x := x) ?_ (fun _ => ?_) <;> [subst x; clear_value x])
      | (refine cutP (o := o) (x := x) ?_ (fun _ => ?_) <;> [subst x; clear_value x])
      | (refine cutF (o := o) (x := x) ?_ (fun _ => ?_) <;> [subst x; clear_value x])
      | skip)
    | with_reducible refine ite_kept ?_ ?_
    | split
    | with_reducible refine Kept.same ?_ rfl
    | dsimp only)

theorem execEventRecordIssue_kept {o : State} {i_0 : ℕ} {device_1 : Bool} {s_2 : State} (h2 : Kept o s_2) :
    KeptOut o (@execEventRecordIssue i_0 device_1 s_2) := by
  unfold execEventRecordIssue
  repeat' (first
    | with_reducible first | assumption | refine KeptOut.next ?_ | refine State.done_kept ?_ | refine State.issueRecord_kept ?_
    | dsimp only)

theorem execMergeWindowEnd_kept {o : State} {s_0 : State} (h0 : Kept o s_0) :
    KeptOut o (@execMergeWindowEnd s_0) := by
  unfold execMergeWindowEnd
  repeat' (first
    | with_reducible first | assumption | refine KeptOut.next ?_ | refine foldl_kept ?_ (fun _ _ _ => ?_) | refine State.done_kept ?_ | refine State.endMerge_kept ?_
    | dsimp only
    | (intro _))

theorem State.logNext_kept {o : State} {s_0 : State} (h0 : Kept o s_0) :
    Kept o (@State.logNext s_0).2 := by
  unfold State.logNext
  repeat' (first
    | with_reducible first | assumption | refine State.copyGone_kept ?_
    | split
    | with_reducible refine Kept.same ?_ rfl
    | dsimp only
    | (intro _))
theorem State.logNext_eq {o : State} {s_0 : State} {v0 : List Byte} {t : State} (e : @State.logNext s_0 = (v0, t)) (h0 : Kept o s_0) : Kept o t := by
  have h : Kept o (@State.logNext s_0).2 := State.logNext_kept h0
  rw [e] at h; exact h

theorem State.endSealedCmds_kept {o : State} {s_0 : State} (h0 : Kept o s_0) :
    Kept o (@State.endSealedCmds s_0) := by
  unfold State.endSealedCmds
  repeat' (first
    | with_reducible first | assumption | refine foldl_kept ?_ (fun _ _ _ => ?_) | refine foldState_kept ?_ ?_ | refine State.finishCmd_kept ?_ | refine State.setRing_kept ?_
    | (extract_lets +onlyGivenNames x; first
      | (refine cutS (o := o) (x := x) ?_ (fun _ => ?_) <;> [subst x; clear_value x])
      | (refine cutP (o := o) (x := x) ?_ (fun _ => ?_) <;> [subst x; clear_value x])
      | (refine cutF (o := o) (x := x) ?_ (fun _ => ?_) <;> [subst x; clear_value x])
      | skip)
    | with_reducible refine Kept.same ?_ rfl
    | dsimp only
    | (intro _))

theorem State.endSealedStores_kept {o : State} {s_0 : State} (h0 : Kept o s_0) :
    Kept o (@State.endSealedStores s_0) := by
  unfold State.endSealedStores
  repeat' (first
    | with_reducible first | assumption | refine foldState_kept ?_ ?_ | refine State.takeTine_kept ?_ | refine State.closeStep_kept ?_ | refine State.sendAborts_kept ?_
    | (extract_lets +onlyGivenNames x; first
      | (refine cutS (o := o) (x := x) ?_ (fun _ => ?_) <;> [subst x; clear_value x])
      | (refine cutP (o := o) (x := x) ?_ (fun _ => ?_) <;> [subst x; clear_value x])
      | (refine cutF (o := o) (x := x) ?_ (fun _ => ?_) <;> [subst x; clear_value x])
      | skip)
    | with_reducible refine Kept.same ?_ rfl
    | dsimp only
    | (intro _))

theorem State.openD3_kept {o s : State} (h : Kept o s) : Kept o s.openD3 := by
  have w : ∀ t, Kept o t → Kept o { t with sec := { t.sec with bufKey := 0 } } := fun t h => Kept.same h rfl
  exact State.emit_kept (w _ (State.zeroizeAll_kept (State.endSealedStores_kept (foldState_kept (State.endSealedCmds_kept h)
    fun _ _ h => State.dropTx_kept h))))

theorem State.setDebug_kept {o : State} {s_0 : State} (h0 : Kept o s_0) :
    Kept o (@State.setDebug s_0) := by
  unfold State.setDebug
  repeat' (first
    | with_reducible first | assumption | refine State.wr_kept ?_ | refine State.openD3_kept ?_ | refine State.writeLedger_kept ?_
    | (extract_lets +onlyGivenNames x; first
      | (refine cutS (o := o) (x := x) ?_ (fun _ => ?_) <;> [subst x; clear_value x])
      | (refine cutP (o := o) (x := x) ?_ (fun _ => ?_) <;> [subst x; clear_value x])
      | (refine cutF (o := o) (x := x) ?_ (fun _ => ?_) <;> [subst x; clear_value x])
      | skip)
    | with_reducible first | refine ite_kept ?_ ?_ | refine Kept.same ?_ rfl
    | dsimp only)

theorem State.workKeys_kept {o : State} {s_0 : State} (h0 : Kept o s_0) :
    Kept o (@State.workKeys s_0) := by
  unfold State.workKeys
  repeat' (first
    | with_reducible first | assumption | refine State.zeroizeAll_kept ?_
    | (extract_lets +onlyGivenNames x; first
      | (refine cutS (o := o) (x := x) ?_ (fun _ => ?_) <;> [subst x; clear_value x])
      | (refine cutP (o := o) (x := x) ?_ (fun _ => ?_) <;> [subst x; clear_value x])
      | (refine cutF (o := o) (x := x) ?_ (fun _ => ?_) <;> [subst x; clear_value x])
      | skip)
    | with_reducible first | refine ite_kept ?_ ?_ | refine Kept.same ?_ rfl
    | dsimp only
    | (intro _))

theorem State.enterPower_kept {o : State} {s_0 : State} (h0 : Kept o s_0) :
    Kept o (@State.enterPower s_0) := by
  unfold State.enterPower
  repeat' (first
    | with_reducible first | assumption | refine State.setDebug_kept ?_ | refine State.syncTines_kept ?_ | refine State.workKeys_kept ?_ | refine State.wr_kept ?_ | refine State.release_kept ?_ | refine State.retryContribs_kept ?_ | refine foldState_kept ?_ ?_ | refine State.startPort_kept ?_
    | (extract_lets +onlyGivenNames x; first
      | (refine cutS (o := o) (x := x) ?_ (fun _ => ?_) <;> [subst x; clear_value x])
      | (refine cutP (o := o) (x := x) ?_ (fun _ => ?_) <;> [subst x; clear_value x])
      | (refine cutF (o := o) (x := x) ?_ (fun _ => ?_) <;> [subst x; clear_value x])
      | skip)
    | with_reducible refine ite_kept ?_ ?_
    | split
    | with_reducible refine Kept.same ?_ rfl
    | dsimp only
    | (intro _))

theorem State.startStep_kept {o : State} {s_0 : State} {a_1 : ℕ} (h0 : Kept o s_0) :
    Kept o (@State.startStep s_0 a_1) := by
  unfold State.startStep
  repeat' (first
    | with_reducible assumption
    | (extract_lets +onlyGivenNames x; first
      | (refine cutS (o := o) (x := x) ?_ (fun _ => ?_) <;> [subst x; clear_value x])
      | (refine cutP (o := o) (x := x) ?_ (fun _ => ?_) <;> [subst x; clear_value x])
      | (refine cutF (o := o) (x := x) ?_ (fun _ => ?_) <;> [subst x; clear_value x])
      | skip)
    | with_reducible first | refine ite_kept ?_ ?_ | refine Kept.same ?_ rfl
    | dsimp only)

theorem State.startSteps_kept {o : State} {s_0 : State} (h0 : Kept o s_0) :
    Kept o (@State.startSteps s_0) := by
  unfold State.startSteps
  repeat' (first
    | with_reducible first | assumption | refine foldState_kept ?_ ?_ | refine State.startStep_kept ?_
    | (extract_lets +onlyGivenNames x; first
      | (refine cutS (o := o) (x := x) ?_ (fun _ => ?_) <;> [subst x; clear_value x])
      | (refine cutP (o := o) (x := x) ?_ (fun _ => ?_) <;> [subst x; clear_value x])
      | (refine cutF (o := o) (x := x) ?_ (fun _ => ?_) <;> [subst x; clear_value x])
      | skip)
    | with_reducible refine ite_kept ?_ ?_
    | split
    | with_reducible refine Kept.same ?_ rfl
    | dsimp only
    | (intro _))

theorem execPointStepDone_kept {o : State} {a_0 : QuadId} {s_1 : State} (h1 : Kept o s_1) :
    KeptOut o (@execPointStepDone a_0 s_1) := by
  unfold execPointStepDone
  repeat' (first
    | with_reducible first | assumption | refine KeptOut.next ?_ | refine State.done_kept ?_ | refine State.startStep_kept ?_ | refine State.wr_kept ?_
    | split
    | with_reducible refine Kept.same ?_ rfl
    | dsimp only)

theorem State.pointWrite_kept {o : State} {s_0 : State} {a_1 : ℕ} {v_2 : ℕ} (h0 : Kept o s_0) :
    Kept o (@State.pointWrite s_0 a_1 v_2).2 := by
  unfold State.pointWrite
  repeat' (first
    | with_reducible first | assumption | refine State.startStep_kept ?_ | refine State.wr_kept ?_
    | dsimp only)
theorem State.pointWrite_eq {o : State} {s_0 : State} {a_1 : ℕ} {v_2 : ℕ} {v0 : ℕ} {t : State} (e : @State.pointWrite s_0 a_1 v_2 = (v0, t)) (h0 : Kept o s_0) : Kept o t := by
  have h : Kept o (@State.pointWrite s_0 a_1 v_2).2 := State.pointWrite_kept h0
  rw [e] at h; exact h

theorem State.throttled_kept {o : State} {s_0 : State} (h0 : Kept o s_0) :
    Kept o (@State.throttled s_0) := by
  unfold State.throttled
  repeat' (first
    | with_reducible first | assumption | refine State.bump_kept ?_
    | dsimp only)

theorem State.rateStep_kept {o : State} {s_0 : State} (h0 : Kept o s_0) :
    Kept o (@State.rateStep s_0) := by
  unfold State.rateStep
  repeat' (first
    | with_reducible first | assumption | refine State.throttled_kept ?_ | refine ite_kept ?_ ?_ | refine Kept.same ?_ rfl
    | dsimp only)

theorem State.governDown_kept {o : State} {s_0 : State} (h0 : Kept o s_0) :
    Kept o (@State.governDown s_0) := by
  unfold State.governDown
  repeat' (first
    | with_reducible first | assumption | refine State.rateStep_kept ?_ | refine State.startStep_kept ?_ | refine State.throttled_kept ?_ | refine ite_kept ?_ ?_
    | split
    | with_reducible refine Kept.same ?_ rfl
    | dsimp only)

theorem State.governUp_kept {o : State} {s_0 : State} (h0 : Kept o s_0) :
    Kept o (@State.governUp s_0) := by
  unfold State.governUp
  repeat' (first
    | with_reducible first | assumption | refine State.startStep_kept ?_ | refine ite_kept ?_ ?_
    | split
    | with_reducible refine Kept.same ?_ rfl
    | dsimp only)

theorem State.measured_kept {o : State} {s_0 : State} {r_1 : PowerReading} (h0 : Kept o s_0) :
    Kept o (@State.measured s_0 r_1) := by
  unfold State.measured
  repeat' (first
    | with_reducible first | assumption | refine foldState_kept ?_ ?_ | refine State.wr_kept ?_
    | (extract_lets +onlyGivenNames x; first
      | (refine cutS (o := o) (x := x) ?_ (fun _ => ?_) <;> [subst x; clear_value x])
      | (refine cutP (o := o) (x := x) ?_ (fun _ => ?_) <;> [subst x; clear_value x])
      | (refine cutF (o := o) (x := x) ?_ (fun _ => ?_) <;> [subst x; clear_value x])
      | skip)
    | dsimp only
    | (intro _))

theorem State.govern_kept {o : State} {s : State} {mean : ℕ} (h : Kept o s) : Kept o (s.govern mean) := by
  have w : ∀ (x : State) (p : Power), Kept o x → Kept o { x with pwr := p } :=
    fun _ _ h => Kept.same h rfl
  simp only [State.govern]
  split
  · exact ite_kept (w _ _ (State.governDown_kept (w _ _ h))) (w _ _ h)
  · split
    · exact ite_kept (w _ _ (State.governUp_kept (w _ _ h))) (w _ _ h)
    · exact w _ _ h

theorem execPowerGovernorSample_kept {o : State} {r_0 : PowerReading} {s_1 : State} (h1 : Kept o s_1) :
    KeptOut o (@execPowerGovernorSample r_0 s_1) := by
  unfold execPowerGovernorSample
  repeat' (first
    | with_reducible first | assumption | refine KeptOut.next ?_ | refine State.done_kept ?_ | refine State.govern_kept ?_ | refine State.measured_kept ?_
    | dsimp only)

theorem State.sdLost_kept {o : State} {s_0 : State} {a_1 : ℕ} (h0 : Kept o s_0) :
    Kept o (@State.sdLost s_0 a_1) := by
  unfold State.sdLost
  repeat' (first
    | with_reducible first | assumption | refine foldState_kept ?_ ?_ | refine State.setTraining_kept ?_ | refine State.wr_kept ?_ | refine State.downEvent_kept ?_ ?_
    | (extract_lets +onlyGivenNames x; first
      | (refine cutS (o := o) (x := x) ?_ (fun _ => ?_) <;> [subst x; clear_value x])
      | (refine cutP (o := o) (x := x) ?_ (fun _ => ?_) <;> [subst x; clear_value x])
      | (refine cutF (o := o) (x := x) ?_ (fun _ => ?_) <;> [subst x; clear_value x])
      | skip)
    | with_reducible refine ite_kept ?_ ?_
    | split
    | with_reducible refine Kept.same ?_ rfl
    | dsimp only
    | (intro _))

theorem State.refGone_kept {o : State} {s_0 : State} {k_1 : ℕ} (h0 : Kept o s_0) :
    Kept o (@State.refGone s_0 k_1) := by
  unfold State.refGone
  repeat' (first
    | with_reducible first | assumption | refine State.emitAs_kept ?_ | refine State.freeRun_kept ?_ | refine State.sdLost_kept ?_ | refine ite_kept ?_ ?_
    | dsimp only)

theorem State.checkRefs_kept {o : State} {s_0 : State} {r_1 : ReferenceReading} (h0 : Kept o s_0) :
    Kept o (@State.checkRefs s_0 r_1) := by
  unfold State.checkRefs
  repeat' (first
    | with_reducible first | assumption | refine foldState_kept ?_ ?_ | refine State.refGone_kept ?_ | refine State.enterIsolation_kept ?_ | refine State.startPort_kept ?_
    | (extract_lets +onlyGivenNames x; first
      | (refine cutS (o := o) (x := x) ?_ (fun _ => ?_) <;> [subst x; clear_value x])
      | (refine cutP (o := o) (x := x) ?_ (fun _ => ?_) <;> [subst x; clear_value x])
      | (refine cutF (o := o) (x := x) ?_ (fun _ => ?_) <;> [subst x; clear_value x])
      | skip)
    | with_reducible first | refine ite_kept ?_ ?_ | refine Kept.same ?_ rfl
    | dsimp only
    | (intro _))

theorem execReferenceCheck_kept {o : State} {r_0 : ReferenceReading} {s_1 : State} (h1 : Kept o s_1) :
    KeptOut o (@execReferenceCheck r_0 s_1) := by
  unfold execReferenceCheck
  repeat' (first
    | with_reducible first | assumption | refine KeptOut.next ?_ | refine State.done_kept ?_ | refine State.checkRefs_kept ?_
    | dsimp only)

theorem State.readHeat_kept {o : State} {s_0 : State} {r_1 : ThermalReading} (h0 : Kept o s_0) :
    Kept o (@State.readHeat s_0 r_1) := by
  unfold State.readHeat
  repeat' (first
    | with_reducible first | assumption | refine foldl_kept ?_ (fun _ _ _ => ?_) | refine foldState_kept ?_ ?_ | refine State.wr_kept ?_
    | (extract_lets +onlyGivenNames x; first
      | (refine cutS (o := o) (x := x) ?_ (fun _ => ?_) <;> [subst x; clear_value x])
      | (refine cutP (o := o) (x := x) ?_ (fun _ => ?_) <;> [subst x; clear_value x])
      | (refine cutF (o := o) (x := x) ?_ (fun _ => ?_) <;> [subst x; clear_value x])
      | skip)
    | with_reducible first | refine ite_kept ?_ ?_ | refine Kept.same ?_ rfl
    | dsimp only
    | (intro _))

theorem State.thermalCycle_kept {o : State} {s_0 : State} {a_1 : ℕ} (h0 : Kept o s_0) :
    Kept o (@State.thermalCycle s_0 a_1) := by
  unfold State.thermalCycle
  repeat' (first
    | with_reducible first | assumption | refine State.bump_kept ?_
    | (extract_lets +onlyGivenNames x; first
      | (refine cutS (o := o) (x := x) ?_ (fun _ => ?_) <;> [subst x; clear_value x])
      | (refine cutP (o := o) (x := x) ?_ (fun _ => ?_) <;> [subst x; clear_value x])
      | (refine cutF (o := o) (x := x) ?_ (fun _ => ?_) <;> [subst x; clear_value x])
      | skip)
    | with_reducible first | refine ite_kept ?_ ?_ | refine Kept.same ?_ rfl
    | dsimp only)

theorem State.heatCap_kept {o : State} {s_0 : State} {a_1 : ℕ} (h0 : Kept o s_0) :
    Kept o (@State.heatCap s_0 a_1) := by
  unfold State.heatCap
  repeat' (first
    | with_reducible first | assumption | refine State.throttled_kept ?_
    | (extract_lets +onlyGivenNames x; first
      | (refine cutS (o := o) (x := x) ?_ (fun _ => ?_) <;> [subst x; clear_value x])
      | (refine cutP (o := o) (x := x) ?_ (fun _ => ?_) <;> [subst x; clear_value x])
      | (refine cutF (o := o) (x := x) ?_ (fun _ => ?_) <;> [subst x; clear_value x])
      | skip)
    | with_reducible first | refine ite_kept ?_ ?_ | refine Kept.same ?_ rfl
    | dsimp only)

theorem State.spreadCheck_kept {o : State} {s_0 : State} {a_1 : ℕ} (h0 : Kept o s_0) :
    Kept o (@State.spreadCheck s_0 a_1) := by
  unfold State.spreadCheck
  repeat' (first
    | with_reducible first | assumption | refine foldl_kept ?_ (fun _ _ _ => ?_) | refine State.throttled_kept ?_
    | (extract_lets +onlyGivenNames x; first
      | (refine cutS (o := o) (x := x) ?_ (fun _ => ?_) <;> [subst x; clear_value x])
      | (refine cutP (o := o) (x := x) ?_ (fun _ => ?_) <;> [subst x; clear_value x])
      | (refine cutF (o := o) (x := x) ?_ (fun _ => ?_) <;> [subst x; clear_value x])
      | skip)
    | with_reducible first | refine ite_kept ?_ ?_ | refine Kept.same ?_ rfl
    | dsimp only
    | (intro _))

theorem State.heat105_kept {o : State} {s_0 : State} {a_1 : ℕ} (h0 : Kept o s_0) :
    Kept o (@State.heat105 s_0 a_1) := by
  unfold State.heat105
  repeat' (first
    | with_reducible first | assumption | refine State.emitAs_kept ?_
    | (extract_lets +onlyGivenNames x; first
      | (refine cutS (o := o) (x := x) ?_ (fun _ => ?_) <;> [subst x; clear_value x])
      | (refine cutP (o := o) (x := x) ?_ (fun _ => ?_) <;> [subst x; clear_value x])
      | (refine cutF (o := o) (x := x) ?_ (fun _ => ?_) <;> [subst x; clear_value x])
      | skip)
    | with_reducible first | refine ite_kept ?_ ?_ | refine Kept.same ?_ rfl
    | dsimp only)

theorem State.heat112_kept {o : State} {s_0 : State} {a_1 : ℕ} (h0 : Kept o s_0) :
    Kept o (@State.heat112 s_0 a_1) := by
  unfold State.heat112
  repeat' (first
    | with_reducible first | assumption | refine State.enterIsolation_kept ?_
    | (extract_lets +onlyGivenNames x; first
      | (refine cutS (o := o) (x := x) ?_ (fun _ => ?_) <;> [subst x; clear_value x])
      | (refine cutP (o := o) (x := x) ?_ (fun _ => ?_) <;> [subst x; clear_value x])
      | (refine cutF (o := o) (x := x) ?_ (fun _ => ?_) <;> [subst x; clear_value x])
      | skip)
    | with_reducible first | refine ite_kept ?_ ?_ | refine Kept.same ?_ rfl
    | dsimp only)

theorem State.heatAlert_kept {o : State} {s_0 : State} (h0 : Kept o s_0) :
    Kept o (@State.heatAlert s_0) := by
  unfold State.heatAlert
  repeat' (first
    | with_reducible assumption
    | (extract_lets +onlyGivenNames x; first
      | (refine cutS (o := o) (x := x) ?_ (fun _ => ?_) <;> [subst x; clear_value x])
      | (refine cutP (o := o) (x := x) ?_ (fun _ => ?_) <;> [subst x; clear_value x])
      | (refine cutF (o := o) (x := x) ?_ (fun _ => ?_) <;> [subst x; clear_value x])
      | skip)
    | with_reducible refine Kept.same ?_ rfl
    | dsimp only
    | (intro _))

theorem State.heatStacks_kept {o : State} {s_0 : State} {ts_1 : List ℤ} (h0 : Kept o s_0) :
    Kept o (@State.heatStacks s_0 ts_1) := by
  unfold State.heatStacks
  repeat' (first
    | with_reducible first | assumption | refine foldl_kept ?_ (fun _ _ _ => ?_)
    | (extract_lets +onlyGivenNames x; first
      | (refine cutS (o := o) (x := x) ?_ (fun _ => ?_) <;> [subst x; clear_value x])
      | (refine cutP (o := o) (x := x) ?_ (fun _ => ?_) <;> [subst x; clear_value x])
      | (refine cutF (o := o) (x := x) ?_ (fun _ => ?_) <;> [subst x; clear_value x])
      | skip)
    | with_reducible refine ite_kept ?_ ?_
    | split
    | with_reducible refine Kept.same ?_ rfl
    | dsimp only
    | (intro _))

theorem State.thermal_kept {o : State} {s_0 : State} {r_1 : ThermalReading} (h0 : Kept o s_0) :
    Kept o (@State.thermal s_0 r_1) := by
  unfold State.thermal
  repeat' (first
    | with_reducible first | assumption | refine State.heatStacks_kept ?_ | refine State.readHeat_kept ?_ | refine State.startSteps_kept ?_ | refine State.heatAlert_kept ?_ | refine foldState_kept ?_ ?_ | refine State.heat112_kept ?_ | refine State.heat105_kept ?_ | refine State.spreadCheck_kept ?_ | refine State.heatCap_kept ?_ | refine State.thermalCycle_kept ?_
    | (extract_lets +onlyGivenNames x; first
      | (refine cutS (o := o) (x := x) ?_ (fun _ => ?_) <;> [subst x; clear_value x])
      | (refine cutP (o := o) (x := x) ?_ (fun _ => ?_) <;> [subst x; clear_value x])
      | (refine cutF (o := o) (x := x) ?_ (fun _ => ?_) <;> [subst x; clear_value x])
      | skip)
    | dsimp only
    | (intro _))

theorem execThermalSample_kept {o : State} {r_0 : ThermalReading} {s_1 : State} (h1 : Kept o s_1) :
    KeptOut o (@execThermalSample r_0 s_1) := by
  unfold execThermalSample
  repeat' (first
    | with_reducible first | assumption | refine KeptOut.next ?_ | refine State.done_kept ?_ | refine State.thermal_kept ?_
    | dsimp only)

theorem execDroopDetected_kept {o : State} {a_0 : QuadId} {s_1 : State} (h1 : Kept o s_1) :
    KeptOut o (@execDroopDetected a_0 s_1) := by
  unfold execDroopDetected
  repeat' (first
    | with_reducible first | assumption | refine KeptOut.next ?_ | refine State.done_kept ?_ | refine State.bump_kept ?_
    | dsimp only)

theorem State.startTransition_kept {o : State} {s_0 : State} {target_1 : ℕ} (h0 : Kept o s_0) :
    Kept o (@State.startTransition s_0 target_1) := by
  unfold State.startTransition
  repeat' (first
    | with_reducible first | assumption | refine State.wr_kept ?_ | refine Kept.same ?_ rfl
    | dsimp only)

theorem State.gateQuadWrite_kept {o : State} {s_0 : State} {a_1 : ℕ} {v_2 : ℕ} (h0 : Kept o s_0) :
    Kept o (@State.gateQuadWrite s_0 a_1 v_2).2 := by
  unfold State.gateQuadWrite
  repeat' (first
    | with_reducible first | assumption | refine State.startTransition_kept ?_ | refine State.syncTines_kept ?_ | refine State.wr_kept ?_
    | (extract_lets +onlyGivenNames x; first
      | (refine cutS (o := o) (x := x) ?_ (fun _ => ?_) <;> [subst x; clear_value x])
      | (refine cutP (o := o) (x := x) ?_ (fun _ => ?_) <;> [subst x; clear_value x])
      | (refine cutF (o := o) (x := x) ?_ (fun _ => ?_) <;> [subst x; clear_value x])
      | skip)
    | with_reducible first | refine ite_kept2 ?_ ?_ | refine ite_kept1 ?_ ?_ | refine ite_kept ?_ ?_ | refine Kept.same ?_ rfl
    | dsimp only
    | (intro _))
theorem State.gateQuadWrite_eq {o : State} {s_0 : State} {a_1 : ℕ} {v_2 : ℕ} {v0 : ℕ} {t : State} (e : @State.gateQuadWrite s_0 a_1 v_2 = (v0, t)) (h0 : Kept o s_0) : Kept o t := by
  have h : Kept o (@State.gateQuadWrite s_0 a_1 v_2).2 := State.gateQuadWrite_kept h0
  rw [e] at h; exact h

theorem State.requestWrite_kept {o : State} {s_0 : State} {path_1 : OdPath} {v_2 : ℕ} (h0 : Kept o s_0) :
    Kept o (@State.requestWrite s_0 path_1 v_2).2 := by
  unfold State.requestWrite
  repeat' (first
    | with_reducible first | assumption | refine State.startTransition_kept ?_ | refine State.syncTines_kept ?_ | refine State.ledgerRecord_kept ?_ | refine State.idlePorts_kept ?_ | refine State.checkpoint_kept ?_ | refine State.flushAll_kept ?_
    | (extract_lets +onlyGivenNames x; first
      | (refine cutS (o := o) (x := x) ?_ (fun _ => ?_) <;> [subst x; clear_value x])
      | (refine cutP (o := o) (x := x) ?_ (fun _ => ?_) <;> [subst x; clear_value x])
      | (refine cutF (o := o) (x := x) ?_ (fun _ => ?_) <;> [subst x; clear_value x])
      | skip)
    | with_reducible first | refine ite_kept2 ?_ ?_ | refine ite_kept1 ?_ ?_ | refine ite_kept ?_ ?_ | refine Kept.same ?_ rfl
    | dsimp only
    | (intro _))
theorem State.requestWrite_eq {o : State} {s_0 : State} {path_1 : OdPath} {v_2 : ℕ} {v0 : ℕ} {t : State} (e : @State.requestWrite s_0 path_1 v_2 = (v0, t)) (h0 : Kept o s_0) : Kept o t := by
  have h : Kept o (@State.requestWrite s_0 path_1 v_2).2 := State.requestWrite_kept h0
  rw [e] at h; exact h

theorem State.transitionDone_kept {o : State} {s_0 : State} (h0 : Kept o s_0) :
    Kept o (@State.transitionDone s_0) := by
  unfold State.transitionDone
  repeat' (first
    | with_reducible first | assumption | refine State.flushAll_kept ?_ | refine State.enterPower_kept ?_ | refine State.wr_kept ?_
    | (extract_lets +onlyGivenNames x; first
      | (refine cutS (o := o) (x := x) ?_ (fun _ => ?_) <;> [subst x; clear_value x])
      | (refine cutP (o := o) (x := x) ?_ (fun _ => ?_) <;> [subst x; clear_value x])
      | (refine cutF (o := o) (x := x) ?_ (fun _ => ?_) <;> [subst x; clear_value x])
      | skip)
    | with_reducible refine ite_kept ?_ ?_
    | split
    | with_reducible refine Kept.same ?_ rfl
    | dsimp only)

theorem execPowerTransitionDone_kept {o : State} {s_0 : State} (h0 : Kept o s_0) :
    KeptOut o (@execPowerTransitionDone s_0) := by
  unfold execPowerTransitionDone
  repeat' (first
    | with_reducible first | assumption | refine KeptOut.next ?_ | refine State.done_kept ?_ | refine State.transitionDone_kept ?_
    | dsimp only)

theorem State.filtered_kept {o : State} {s_0 : State} {k_1 : ℕ} {short_2 : ℕ} (h0 : Kept o s_0) :
    Kept o (@State.filtered s_0 k_1 short_2) := by
  unfold State.filtered
  repeat' (first
    | with_reducible first | assumption | refine State.bump_kept ?_
    | dsimp only)

theorem State.noteEdge_kept {o : State} {s_0 : State} {k_1 : ℕ} {ns_2 : ℕ} {limit_3 : ℕ} (h0 : Kept o s_0) :
    Kept o (@State.noteEdge s_0 k_1 ns_2 limit_3).1 := by
  unfold State.noteEdge
  repeat' (first
    | with_reducible assumption
    | (extract_lets +onlyGivenNames x; first
      | (refine cutS (o := o) (x := x) ?_ (fun _ => ?_) <;> [subst x; clear_value x])
      | (refine cutP (o := o) (x := x) ?_ (fun _ => ?_) <;> [subst x; clear_value x])
      | (refine cutF (o := o) (x := x) ?_ (fun _ => ?_) <;> [subst x; clear_value x])
      | skip)
    | with_reducible refine Kept.same ?_ rfl
    | dsimp only
    | (intro _))
theorem State.noteEdge_eq {o : State} {s_0 : State} {k_1 : ℕ} {ns_2 : ℕ} {limit_3 : ℕ} {t : State} {v1 : Bool} (e : @State.noteEdge s_0 k_1 ns_2 limit_3 = (t, v1)) (h0 : Kept o s_0) : Kept o t := by
  have h : Kept o (@State.noteEdge s_0 k_1 ns_2 limit_3).1 := State.noteEdge_kept h0
  rw [e] at h; exact h

theorem State.setSince_kept {o : State} {s_0 : State} {k_1 : ℕ} (h0 : Kept o s_0) :
    Kept o (@State.setSince s_0 k_1) := by
  unfold State.setSince
  repeat' (first
    | with_reducible first | assumption | refine Kept.same ?_ rfl
    | dsimp only)

theorem State.rateHold_kept {o : State} {s_0 : State} {k_1 : ℕ} (h0 : Kept o s_0) :
    Kept o (@State.rateHold s_0 k_1) := by
  unfold State.rateHold
  repeat' (first
    | with_reducible first | assumption | refine State.bump_kept ?_ | refine ite_kept ?_ ?_ | refine Kept.same ?_ rfl
    | dsimp only)

theorem State.rateFree_kept {o : State} {s_0 : State} {k_1 : ℕ} (h0 : Kept o s_0) :
    Kept o (@State.rateFree s_0 k_1) := by
  unfold State.rateFree
  repeat' (first
    | with_reducible first | assumption | refine Kept.same ?_ rfl
    | dsimp only)

theorem State.startFlush_kept {o : State} {s_0 : State} (h0 : Kept o s_0) :
    Kept o (@State.startFlush s_0) := by
  unfold State.startFlush
  repeat' (first
    | with_reducible first | assumption | refine State.endTransition_kept ?_ | refine State.stopCopies_kept ?_ | refine State.wr_kept ?_ | refine State.ledgerRecord_kept ?_
    | (extract_lets +onlyGivenNames x; first
      | (refine cutS (o := o) (x := x) ?_ (fun _ => ?_) <;> [subst x; clear_value x])
      | (refine cutP (o := o) (x := x) ?_ (fun _ => ?_) <;> [subst x; clear_value x])
      | (refine cutF (o := o) (x := x) ?_ (fun _ => ?_) <;> [subst x; clear_value x])
      | skip)
    | with_reducible refine ite_kept ?_ ?_
    | split
    | with_reducible refine Kept.same ?_ rfl
    | dsimp only)

theorem State.flushDone_kept {o : State} {s_0 : State} (h0 : Kept o s_0) :
    Kept o (@State.flushDone s_0) := by
  unfold State.flushDone
  repeat' (first
    | with_reducible first | assumption | refine State.flushEnded_kept ?_ | refine State.wr_kept ?_ | refine State.ledgerRecord_kept ?_ | refine State.checkpoint_kept ?_ | refine State.flushAll_kept ?_ | refine ite_kept ?_ ?_
    | dsimp only)

theorem execFlushDone_kept {o : State} {s_0 : State} (h0 : Kept o s_0) :
    KeptOut o (@execFlushDone s_0) := by
  unfold execFlushDone
  repeat' (first
    | with_reducible first | assumption | refine KeptOut.next ?_ | refine State.done_kept ?_ | refine State.flushDone_kept ?_
    | dsimp only)

theorem State.endFlush_kept {o : State} {s_0 : State} (h0 : Kept o s_0) :
    Kept o (@State.endFlush s_0) := by
  unfold State.endFlush
  repeat' (first
    | with_reducible first | assumption | refine State.release_kept ?_ | refine State.retryContribs_kept ?_ | refine State.flushEnded_kept ?_ | refine State.wr_kept ?_ | refine ite_kept ?_ ?_
    | dsimp only)

theorem State.pfwAssert_kept {o : State} {s_0 : State} (h0 : Kept o s_0) :
    Kept o (@State.pfwAssert s_0) := by
  unfold State.pfwAssert
  repeat' (first
    | with_reducible first | assumption | refine State.noteEdge_kept ?_ | refine State.noteEdge_eq (by assumption) ?_ | refine State.setSince_kept ?_ | refine State.rateHold_kept ?_ | refine State.wr_kept ?_ | refine State.startFlush_kept ?_
    | (extract_lets +onlyGivenNames x; first
      | (refine cutS (o := o) (x := x) ?_ (fun _ => ?_) <;> [subst x; clear_value x])
      | (refine cutP (o := o) (x := x) ?_ (fun _ => ?_) <;> [subst x; clear_value x])
      | (refine cutF (o := o) (x := x) ?_ (fun _ => ?_) <;> [subst x; clear_value x])
      | skip)
    | with_reducible refine ite_kept ?_ ?_
    | dsimp only)

theorem execPfwNAssert_kept {o : State} {short_0 : Word} {s_1 : State} (h1 : Kept o s_1) :
    KeptOut o (@execPfwNAssert short_0 s_1) := by
  unfold execPfwNAssert
  repeat' (first
    | with_reducible first | assumption | refine KeptOut.next ?_ | refine State.done_kept ?_ | refine State.pfwAssert_kept ?_ | refine State.filtered_kept ?_
    | dsimp only)

theorem State.pfwRelease_kept {o : State} {s_0 : State} (h0 : Kept o s_0) :
    Kept o (@State.pfwRelease s_0) := by
  unfold State.pfwRelease
  repeat' (first
    | with_reducible first | assumption | refine State.endFlush_kept ?_ | refine State.setSince_kept ?_ | refine State.wr_kept ?_ | refine ite_kept ?_ ?_
    | dsimp only)

theorem execPfwNRelease_kept {o : State} {s_0 : State} (h0 : Kept o s_0) :
    KeptOut o (@execPfwNRelease s_0) := by
  unfold execPfwNRelease
  repeat' (first
    | with_reducible first | assumption | refine KeptOut.next ?_ | refine State.done_kept ?_ | refine State.pfwRelease_kept ?_
    | dsimp only)

theorem State.stotEdge_kept {o : State} {s_0 : State} (h0 : Kept o s_0) :
    Kept o (@State.stotEdge s_0) := by
  unfold State.stotEdge
  repeat' (first
    | with_reducible first | assumption | refine State.setSince_kept ?_ | refine State.noteEdge_kept ?_ | refine State.noteEdge_eq (by assumption) ?_ | refine State.stotEvent_kept ?_ | refine State.wr_kept ?_ | refine State.rateHold_kept ?_
    | (extract_lets +onlyGivenNames x; first
      | (refine cutS (o := o) (x := x) ?_ (fun _ => ?_) <;> [subst x; clear_value x])
      | (refine cutP (o := o) (x := x) ?_ (fun _ => ?_) <;> [subst x; clear_value x])
      | (refine cutF (o := o) (x := x) ?_ (fun _ => ?_) <;> [subst x; clear_value x])
      | skip)
    | with_reducible refine ite_kept ?_ ?_
    | dsimp only)

theorem execStotNEdge_kept {o : State} {short_0 : Word} {s_1 : State} (h1 : Kept o s_1) :
    KeptOut o (@execStotNEdge short_0 s_1) := by
  unfold execStotNEdge
  repeat' (first
    | with_reducible first | assumption | refine KeptOut.next ?_ | refine State.done_kept ?_ | refine State.stotEdge_kept ?_ | refine State.filtered_kept ?_
    | dsimp only)

theorem State.ppsSample_kept {o : State} {s_0 : State} (h0 : Kept o s_0) :
    Kept o (@State.ppsSample s_0) := by
  unfold State.ppsSample
  repeat' (first
    | with_reducible first | assumption | refine State.sample_kept ?_ | refine ite_kept ?_ ?_
    | split
    | with_reducible refine Kept.same ?_ rfl
    | dsimp only)

theorem State.ppsEdge_kept {o : State} {s_0 : State} (h0 : Kept o s_0) :
    Kept o (@State.ppsEdge s_0) := by
  unfold State.ppsEdge
  repeat' (first
    | with_reducible first | assumption | refine State.wr_kept ?_ | refine State.setSince_kept ?_ | refine State.rateHold_kept ?_ | refine State.ppsSample_kept ?_
    | (extract_lets +onlyGivenNames x; first
      | (refine cutS (o := o) (x := x) ?_ (fun _ => ?_) <;> [subst x; clear_value x])
      | (refine cutP (o := o) (x := x) ?_ (fun _ => ?_) <;> [subst x; clear_value x])
      | (refine cutF (o := o) (x := x) ?_ (fun _ => ?_) <;> [subst x; clear_value x])
      | skip)
    | with_reducible first | refine ite_kept ?_ ?_ | refine Kept.same ?_ rfl
    | dsimp only)

theorem execFtPpsEdge_kept {o : State} {short_0 : Word} {s_1 : State} (h1 : Kept o s_1) :
    KeptOut o (@execFtPpsEdge short_0 s_1) := by
  unfold execFtPpsEdge
  repeat' (first
    | with_reducible first | assumption | refine KeptOut.next ?_ | refine State.done_kept ?_ | refine State.ppsEdge_kept ?_ | refine State.filtered_kept ?_
    | dsimp only)

theorem State.restoreN_kept {o : State} {s_0 : State} (h0 : Kept o s_0) :
    Kept o (@State.restoreN s_0) := by
  unfold State.restoreN
  repeat' (first
    | with_reducible first | assumption | refine foldl_kept ?_ (fun _ _ _ => ?_) | refine foldState_kept ?_ ?_ | refine State.wr_kept ?_
    | split
    | with_reducible refine Kept.same ?_ rfl
    | dsimp only
    | (intro _))

theorem State.setFwSlot_kept {o : State} {s_0 : State} {k_1 : ℕ} {x_2 : FwSlot} (h0 : Kept o s_0) :
    Kept o (@State.setFwSlot s_0 k_1 x_2) := by
  unfold State.setFwSlot
  repeat' (first
    | with_reducible first | assumption | refine ite_kept ?_ ?_ | refine Kept.same ?_ rfl
    | dsimp only)

theorem State.finishCommit_kept {o : State} {s_0 : State} {k_1 : ℕ} (h0 : Kept o s_0) :
    Kept o (@State.finishCommit s_0 k_1) := by
  unfold State.finishCommit
  have h0 : Kept o { s_0 with sec := { s_0.sec with fuses := s_0.sec.fuses + 1, fusing := false } } := Kept.upd h0 rfl rfl rfl rfl rfl rfl rfl rfl rfl rfl (Nat.le_refl _) (Nat.le_refl _) (Nat.le_succ _) (Nat.le_refl _)
  repeat' (first
    | with_reducible first | assumption | refine State.setFwSlot_kept ?_ | refine State.ledgerRecord_kept ?_ | refine State.wr_kept ?_
    | (extract_lets +onlyGivenNames x; first
      | (refine cutS (o := o) (x := x) ?_ (fun _ => ?_) <;> [subst x; clear_value x])
      | (refine cutP (o := o) (x := x) ?_ (fun _ => ?_) <;> [subst x; clear_value x])
      | (refine cutF (o := o) (x := x) ?_ (fun _ => ?_) <;> [subst x; clear_value x])
      | skip)
    | with_reducible refine Kept.same ?_ rfl
    | dsimp only)

theorem State.resumeCommit_kept {o : State} {s_0 : State} (h0 : Kept o s_0) :
    Kept o (@State.resumeCommit s_0) := by
  unfold State.resumeCommit
  repeat' (first
    | with_reducible first | assumption | refine foldState_kept ?_ ?_ | refine State.finishCommit_kept ?_ | refine ite_kept ?_ ?_
    | dsimp only
    | (intro _))

theorem State.runSlot_kept {o : State} {s_0 : State} {k_1 : ℕ} {fw_2 : ℕ} (h0 : Kept o s_0) :
    Kept o (@State.runSlot s_0 k_1 fw_2) := by
  unfold State.runSlot
  repeat' (first
    | with_reducible first | assumption | refine State.wr_kept ?_
    | (extract_lets +onlyGivenNames x; first
      | (refine cutS (o := o) (x := x) ?_ (fun _ => ?_) <;> [subst x; clear_value x])
      | (refine cutP (o := o) (x := x) ?_ (fun _ => ?_) <;> [subst x; clear_value x])
      | (refine cutF (o := o) (x := x) ?_ (fun _ => ?_) <;> [subst x; clear_value x])
      | skip)
    | with_reducible first | refine ite_kept ?_ ?_ | refine Kept.same ?_ rfl
    | dsimp only)

theorem State.selectImage_kept {o : State} {s_0 : State} (h0 : Kept o s_0) :
    KeptVal o (@State.selectImage s_0) (fun v => v) := by
  unfold State.selectImage
  repeat' (first
    | with_reducible first | assumption | refine State.runSlot_kept ?_ | refine State.setFwSlot_kept ?_ | refine State.emit_kept ?_ | exact KeptVal.none | refine KeptVal.some ?_
    | (extract_lets +onlyGivenNames x; first
      | (refine cutS (o := o) (x := x) ?_ (fun _ => ?_) <;> [subst x; clear_value x])
      | (refine cutP (o := o) (x := x) ?_ (fun _ => ?_) <;> [subst x; clear_value x])
      | (refine cutF (o := o) (x := x) ?_ (fun _ => ?_) <;> [subst x; clear_value x])
      | skip)
    | with_reducible refine ite_kept ?_ ?_
    | split
    | with_reducible refine Kept.same ?_ rfl
    | dsimp only
    | (intro _))
theorem State.selectImage_some {o : State} {s_0 : State} {t : State} (e : @State.selectImage s_0 = some t) (h0 : Kept o s_0) : Kept o t :=
  State.selectImage_kept (o := o) h0 _ e

theorem State.recover_kept {o : State} {s_0 : State} (h0 : Kept o s_0) :
    Kept o (@State.recover s_0) := by
  unfold State.recover
  repeat' (first
    | with_reducible first | assumption | refine State.wr_kept ?_ | refine Kept.same ?_ rfl
    | dsimp only)

theorem State.bootFirst_kept {o : State} {s_0 : State} (h0 : Kept o s_0) :
    Kept o (@State.bootFirst s_0) := by
  unfold State.bootFirst
  repeat' (first
    | with_reducible first | assumption | refine State.restoreN_kept ?_ | refine State.resumeCommit_kept ?_ | refine State.restoreLedger_kept ?_ | refine State.selectImage_some (by assumption) ?_ | refine State.selectImage_kept ?_ | refine State.recover_kept ?_ | refine State.fresh_kept ?_ | refine State.wr_kept ?_ | refine State.recompute_kept ?_ | refine State.detachVolumes_kept ?_ | refine State.patrol_kept ?_
    | (extract_lets +onlyGivenNames x; first
      | (refine cutS (o := o) (x := x) ?_ (fun _ => ?_) <;> [subst x; clear_value x])
      | (refine cutP (o := o) (x := x) ?_ (fun _ => ?_) <;> [subst x; clear_value x])
      | (refine cutF (o := o) (x := x) ?_ (fun _ => ?_) <;> [subst x; clear_value x])
      | skip)
    | with_reducible refine ite_kept ?_ ?_
    | split
    | with_reducible refine Kept.same ?_ rfl
    | dsimp only
    | (intro _))

theorem State.jiythUp_kept {o : State} {s_0 : State} (h0 : Kept o s_0) :
    Kept o (@State.jiythUp s_0) := by
  unfold State.jiythUp
  repeat' (first
    | with_reducible first | assumption | refine State.wr_kept ?_ | refine foldState_kept ?_ ?_ | refine State.startPort_kept ?_
    | (extract_lets +onlyGivenNames x; first
      | (refine cutS (o := o) (x := x) ?_ (fun _ => ?_) <;> [subst x; clear_value x])
      | (refine cutP (o := o) (x := x) ?_ (fun _ => ?_) <;> [subst x; clear_value x])
      | (refine cutF (o := o) (x := x) ?_ (fun _ => ?_) <;> [subst x; clear_value x])
      | skip)
    | with_reducible refine ite_kept ?_ ?_
    | split
    | with_reducible refine Kept.same ?_ rfl
    | dsimp only
    | (intro _))

theorem State.bootStep_kept {o : State} {s_0 : State} {r_1 : BootResult} (h0 : Kept o s_0) :
    Kept o (@State.bootStep s_0 r_1) := by
  unfold State.bootStep
  repeat' (first
    | with_reducible first | assumption | refine State.wr_kept ?_ | refine State.recover_kept ?_ | refine State.bootFirst_kept ?_ | refine foldState_kept ?_ ?_ | refine State.stackLost_kept ?_ | refine State.jiythUp_kept ?_
    | (extract_lets +onlyGivenNames x; first
      | (refine cutS (o := o) (x := x) ?_ (fun _ => ?_) <;> [subst x; clear_value x])
      | (refine cutP (o := o) (x := x) ?_ (fun _ => ?_) <;> [subst x; clear_value x])
      | (refine cutF (o := o) (x := x) ?_ (fun _ => ?_) <;> [subst x; clear_value x])
      | skip)
    | with_reducible refine ite_kept ?_ ?_
    | dsimp only
    | (intro _))

theorem execBootStageAdvance_kept {o : State} {r_0 : BootResult} {s_1 : State} (h1 : Kept o s_1) :
    KeptOut o (@execBootStageAdvance r_0 s_1) := by
  unfold execBootStageAdvance
  repeat' (first
    | with_reducible first | assumption | refine KeptOut.next ?_ | refine State.done_kept ?_ | refine State.bootStep_kept ?_
    | dsimp only)

theorem execJiythRetrain_kept {o : State} {up_0 : Bool} {s_1 : State} (h1 : Kept o s_1) :
    KeptOut o (@execJiythRetrain up_0 s_1) := by
  unfold execJiythRetrain
  repeat' (first
    | with_reducible first | assumption | refine KeptOut.next ?_ | refine State.done_kept ?_ | refine State.jiythUp_kept ?_ | refine State.wr_kept ?_ | refine ite_keptOut ?_ ?_ | refine ite_kept ?_ ?_
    | dsimp only)

theorem execJiythLinkDown_kept {o : State} {s_0 : State} (h0 : Kept o s_0) :
    KeptOut o (@execJiythLinkDown s_0) := by
  unfold execJiythLinkDown
  repeat' (first
    | with_reducible first | assumption | refine KeptOut.next ?_ | refine State.done_kept ?_ | refine State.wr_kept ?_ | refine ite_keptOut ?_ ?_ | refine ite_kept ?_ ?_
    | dsimp only)

theorem State.resetAll_kept {o s : State} (h : Kept o s) : Kept o s.resetAll :=
  ⟨h.pending, ⟨⟨sparseWf_filter _ _ _ h.od, sparseWf_nil _, sparseWf_nil _, h.flash, sparseWf_nil _, sparseWf_nil _, sparseWf_nil _, sparseWf_nil _⟩,
    ⟨.nil, (by simp [State.resetAll, State.reset, Faults.reset]), (by simp [State.resetAll, State.reset, Faults.reset]), Nat.zero_le _, Nat.zero_le _⟩⟩, h.later⟩

theorem State.enterReset_kept {o : State} {s_0 : State} {cause_1 : ℕ} (h0 : Kept o s_0) :
    Kept o (@State.enterReset s_0 cause_1) := by
  unfold State.enterReset
  repeat' (first
    | with_reducible first | assumption | refine State.setSince_kept ?_ | refine State.resetAll_kept ?_
    | (extract_lets +onlyGivenNames x; first
      | (refine cutS (o := o) (x := x) ?_ (fun _ => ?_) <;> [subst x; clear_value x])
      | (refine cutP (o := o) (x := x) ?_ (fun _ => ?_) <;> [subst x; clear_value x])
      | (refine cutF (o := o) (x := x) ?_ (fun _ => ?_) <;> [subst x; clear_value x])
      | skip)
    | with_reducible refine Kept.same ?_ rfl
    | dsimp only)

theorem State.leaveReset_kept {o : State} {s_0 : State} (h0 : Kept o s_0) :
    Kept o (@State.leaveReset s_0) := by
  unfold State.leaveReset
  repeat' (first
    | with_reducible first | assumption | refine State.wr_kept ?_ | refine State.resetAll_kept ?_
    | (extract_lets +onlyGivenNames x; first
      | (refine cutS (o := o) (x := x) ?_ (fun _ => ?_) <;> [subst x; clear_value x])
      | (refine cutP (o := o) (x := x) ?_ (fun _ => ?_) <;> [subst x; clear_value x])
      | (refine cutF (o := o) (x := x) ?_ (fun _ => ?_) <;> [subst x; clear_value x])
      | skip)
    | dsimp only)

theorem State.resetAssert_kept {o : State} {s_0 : State} (h0 : Kept o s_0) :
    Kept o (@State.resetAssert s_0) := by
  unfold State.resetAssert
  repeat' (first
    | with_reducible first | assumption | refine State.noteEdge_kept ?_ | refine State.noteEdge_eq (by assumption) ?_ | refine State.enterReset_kept ?_
    | (extract_lets +onlyGivenNames x; first
      | (refine cutS (o := o) (x := x) ?_ (fun _ => ?_) <;> [subst x; clear_value x])
      | (refine cutP (o := o) (x := x) ?_ (fun _ => ?_) <;> [subst x; clear_value x])
      | (refine cutF (o := o) (x := x) ?_ (fun _ => ?_) <;> [subst x; clear_value x])
      | skip)
    | with_reducible first | refine ite_kept ?_ ?_ | refine Kept.same ?_ rfl
    | dsimp only)

theorem execResetNAssert_kept {o : State} {s_0 : State} (h0 : Kept o s_0) :
    KeptOut o (@execResetNAssert s_0) := by
  unfold execResetNAssert
  repeat' (first
    | with_reducible first | assumption | refine KeptOut.next ?_ | refine State.done_kept ?_ | refine State.resetAssert_kept ?_
    | dsimp only)

theorem State.resetRelease_kept {o : State} {s_0 : State} (h0 : Kept o s_0) :
    Kept o (@State.resetRelease s_0) := by
  unfold State.resetRelease
  repeat' (first
    | with_reducible first | assumption | refine State.setSince_kept ?_ | refine State.leaveReset_kept ?_
    | (extract_lets +onlyGivenNames x; first
      | (refine cutS (o := o) (x := x) ?_ (fun _ => ?_) <;> [subst x; clear_value x])
      | (refine cutP (o := o) (x := x) ?_ (fun _ => ?_) <;> [subst x; clear_value x])
      | (refine cutF (o := o) (x := x) ?_ (fun _ => ?_) <;> [subst x; clear_value x])
      | skip)
    | with_reducible first | refine ite_kept ?_ ?_ | refine Kept.same ?_ rfl
    | dsimp only)

theorem execResetNRelease_kept {o : State} {s_0 : State} (h0 : Kept o s_0) :
    KeptOut o (@execResetNRelease s_0) := by
  unfold execResetNRelease
  repeat' (first
    | with_reducible first | assumption | refine KeptOut.next ?_ | refine State.done_kept ?_ | refine State.resetRelease_kept ?_
    | dsimp only)

theorem execVddAonUndervoltage_kept {o : State} {s_0 : State} (h0 : Kept o s_0) :
    KeptOut o (@execVddAonUndervoltage s_0) := by
  unfold execVddAonUndervoltage
  repeat' (first
    | with_reducible first | assumption | refine KeptOut.next ?_ | refine State.done_kept ?_ | refine State.enterReset_kept ?_
    | dsimp only)

theorem execRailUndervoltage_kept {o : State} {rail_0 : Fin 13} {s_1 : State} (h1 : Kept o s_1) :
    KeptOut o (@execRailUndervoltage rail_0 s_1) := by
  unfold execRailUndervoltage
  repeat' (first
    | with_reducible first | assumption | refine KeptOut.next ?_ | refine State.done_kept ?_ | refine State.enterIsolation_kept ?_ | refine State.emitAs_kept ?_
    | (extract_lets +onlyGivenNames x; first
      | (refine cutS (o := o) (x := x) ?_ (fun _ => ?_) <;> [subst x; clear_value x])
      | (refine cutP (o := o) (x := x) ?_ (fun _ => ?_) <;> [subst x; clear_value x])
      | (refine cutF (o := o) (x := x) ?_ (fun _ => ?_) <;> [subst x; clear_value x])
      | skip)
    | with_reducible first | refine ite_keptOut ?_ ?_ | refine ite_kept ?_ ?_
    | dsimp only)

theorem State.inputStuck_kept {o : State} {s_0 : State} {k_1 : ℕ} (h0 : Kept o s_0) :
    Kept o (@State.inputStuck s_0 k_1) := by
  unfold State.inputStuck
  repeat' (first
    | with_reducible first | assumption | refine State.wr_kept ?_ | refine State.release_kept ?_ | refine State.flushDone_kept ?_
    | (extract_lets +onlyGivenNames x; first
      | (refine cutS (o := o) (x := x) ?_ (fun _ => ?_) <;> [subst x; clear_value x])
      | (refine cutP (o := o) (x := x) ?_ (fun _ => ?_) <;> [subst x; clear_value x])
      | (refine cutF (o := o) (x := x) ?_ (fun _ => ?_) <;> [subst x; clear_value x])
      | skip)
    | with_reducible first | refine ite_kept ?_ ?_ | refine Kept.same ?_ rfl
    | dsimp only)

theorem execInputStuck_kept {o : State} {pin_0 : Fin 4} {s_1 : State} (h1 : Kept o s_1) :
    KeptOut o (@execInputStuck pin_0 s_1) := by
  unfold execInputStuck
  repeat' (first
    | with_reducible first | assumption | refine KeptOut.next ?_ | refine State.done_kept ?_ | refine State.inputStuck_kept ?_
    | dsimp only)

theorem State.rateRelease_kept {o : State} {s_0 : State} {k_1 : ℕ} (h0 : Kept o s_0) :
    Kept o (@State.rateRelease s_0 k_1) := by
  unfold State.rateRelease
  repeat' (first
    | with_reducible first | assumption | refine State.endFlush_kept ?_ | refine State.rateFree_kept ?_ | refine State.leaveReset_kept ?_ | refine State.wr_kept ?_ | refine ite_kept ?_ ?_
    | dsimp only)

theorem execRateHoldRelease_kept {o : State} {pin_0 : Fin 4} {s_1 : State} (h1 : Kept o s_1) :
    KeptOut o (@execRateHoldRelease pin_0 s_1) := by
  unfold execRateHoldRelease
  repeat' (first
    | with_reducible first | assumption | refine KeptOut.next ?_ | refine State.done_kept ?_ | refine State.rateRelease_kept ?_
    | dsimp only)

theorem State.installWrite_kept {o : State} {s_0 : State} {i_1 : StagedImage} (h0 : Kept o s_0) :
    Kept o (@State.installWrite s_0 i_1).2 := by
  unfold State.installWrite
  repeat' (first
    | with_reducible first | assumption | refine State.wr_kept ?_ | refine State.setFwSlot_kept ?_
    | (extract_lets +onlyGivenNames x; first
      | (refine cutS (o := o) (x := x) ?_ (fun _ => ?_) <;> [subst x; clear_value x])
      | (refine cutP (o := o) (x := x) ?_ (fun _ => ?_) <;> [subst x; clear_value x])
      | (refine cutF (o := o) (x := x) ?_ (fun _ => ?_) <;> [subst x; clear_value x])
      | skip)
    | with_reducible first | refine ite_kept2 ?_ ?_ | refine ite_kept1 ?_ ?_ | refine ite_kept ?_ ?_ | refine Kept.same ?_ rfl
    | dsimp only)
theorem State.installWrite_eq {o : State} {s_0 : State} {i_1 : StagedImage} {v0 : ℕ} {t : State} (e : @State.installWrite s_0 i_1 = (v0, t)) (h0 : Kept o s_0) : Kept o t := by
  have h : Kept o (@State.installWrite s_0 i_1).2 := State.installWrite_kept h0
  rw [e] at h; exact h

theorem State.installEnd_kept {o : State} {s_0 : State} {programmed_1 : Bool} (h0 : Kept o s_0) :
    Kept o (@State.installEnd s_0 programmed_1) := by
  unfold State.installEnd
  repeat' (first
    | with_reducible first | assumption | refine State.setFwSlot_kept ?_ | refine State.wr_kept ?_
    | (extract_lets +onlyGivenNames x; first
      | (refine cutS (o := o) (x := x) ?_ (fun _ => ?_) <;> [subst x; clear_value x])
      | (refine cutP (o := o) (x := x) ?_ (fun _ => ?_) <;> [subst x; clear_value x])
      | (refine cutF (o := o) (x := x) ?_ (fun _ => ?_) <;> [subst x; clear_value x])
      | skip)
    | with_reducible first | refine ite_kept ?_ ?_ | refine Kept.same ?_ rfl
    | dsimp only)

theorem execInstallDone_kept {o : State} {programmed_0 : Bool} {s_1 : State} (h1 : Kept o s_1) :
    KeptOut o (@execInstallDone programmed_0 s_1) := by
  unfold execInstallDone
  repeat' (first
    | with_reducible first | assumption | refine KeptOut.next ?_ | refine State.done_kept ?_ | refine State.installEnd_kept ?_
    | dsimp only)

theorem State.commitWrite_kept {o : State} {s_0 : State} {v_1 : ℕ} (h0 : Kept o s_0) :
    Kept o (@State.commitWrite s_0 v_1).2 := by
  unfold State.commitWrite
  repeat' (first
    | with_reducible first | assumption | refine State.wr_kept ?_ | refine State.setFwSlot_kept ?_
    | (extract_lets +onlyGivenNames x; first
      | (refine cutS (o := o) (x := x) ?_ (fun _ => ?_) <;> [subst x; clear_value x])
      | (refine cutP (o := o) (x := x) ?_ (fun _ => ?_) <;> [subst x; clear_value x])
      | (refine cutF (o := o) (x := x) ?_ (fun _ => ?_) <;> [subst x; clear_value x])
      | skip)
    | with_reducible first | refine ite_kept2 ?_ ?_ | refine ite_kept1 ?_ ?_ | refine ite_kept ?_ ?_ | refine Kept.same ?_ rfl
    | dsimp only)
theorem State.commitWrite_eq {o : State} {s_0 : State} {v_1 : ℕ} {v0 : ℕ} {t : State} (e : @State.commitWrite s_0 v_1 = (v0, t)) (h0 : Kept o s_0) : Kept o t := by
  have h : Kept o (@State.commitWrite s_0 v_1).2 := State.commitWrite_kept h0
  rw [e] at h; exact h

theorem State.fuseBlown_kept {o : State} {s_0 : State} (h0 : Kept o s_0) :
    Kept o (@State.fuseBlown s_0) := by
  unfold State.fuseBlown
  repeat' (first
    | with_reducible first | assumption | refine State.wr_kept ?_ | refine State.finishCommit_kept ?_ | refine ite_kept ?_ ?_
    | dsimp only)

theorem execFuseBlowDone_kept {o : State} {s_0 : State} (h0 : Kept o s_0) :
    KeptOut o (@execFuseBlowDone s_0) := by
  unfold execFuseBlowDone
  repeat' (first
    | with_reducible first | assumption | refine KeptOut.next ?_ | refine State.done_kept ?_ | refine State.fuseBlown_kept ?_
    | dsimp only)

theorem State.velvetExpiry_kept {o : State} {s_0 : State} (h0 : Kept o s_0) :
    Kept o (@State.velvetExpiry s_0) := by
  unfold State.velvetExpiry
  repeat' (first
    | with_reducible first | assumption | refine State.emit_kept ?_ | refine State.wr_kept ?_ | refine State.setFwSlot_kept ?_
    | (extract_lets +onlyGivenNames x; first
      | (refine cutS (o := o) (x := x) ?_ (fun _ => ?_) <;> [subst x; clear_value x])
      | (refine cutP (o := o) (x := x) ?_ (fun _ => ?_) <;> [subst x; clear_value x])
      | (refine cutF (o := o) (x := x) ?_ (fun _ => ?_) <;> [subst x; clear_value x])
      | skip)
    | with_reducible refine ite_kept ?_ ?_
    | split
    | with_reducible refine Kept.same ?_ rfl
    | dsimp only)

theorem execVelvetTimeoutExpiry_kept {o : State} {s_0 : State} (h0 : Kept o s_0) :
    KeptOut o (@execVelvetTimeoutExpiry s_0) := by
  unfold execVelvetTimeoutExpiry
  repeat' (first
    | with_reducible first | assumption | refine KeptOut.next ?_ | refine State.done_kept ?_ | refine State.velvetExpiry_kept ?_
    | dsimp only)

theorem State.setAttest_kept {o : State} {s_0 : State} {x_1 : ℕ} {a_2 : Attest} (h0 : Kept o s_0) :
    Kept o (@State.setAttest s_0 x_1 a_2) := by
  unfold State.setAttest
  repeat' (first
    | with_reducible first | assumption | refine ite_kept ?_ ?_ | refine Kept.same ?_ rfl
    | dsimp only)

theorem State.generateWrite_kept {o : State} {s_0 : State} {x_1 : ℕ} (h0 : Kept o s_0) :
    Kept o (@State.generateWrite s_0 x_1).2 := by
  unfold State.generateWrite
  repeat' (first
    | with_reducible first | assumption | refine State.wr_kept ?_ | refine State.setAttest_kept ?_ | refine ite_kept2 ?_ ?_ | refine ite_kept1 ?_ ?_ | refine ite_kept ?_ ?_ | refine Kept.same ?_ rfl
    | dsimp only)
theorem State.generateWrite_eq {o : State} {s_0 : State} {x_1 : ℕ} {v0 : ℕ} {t : State} (e : @State.generateWrite s_0 x_1 = (v0, t)) (h0 : Kept o s_0) : Kept o t := by
  have h : Kept o (@State.generateWrite s_0 x_1).2 := State.generateWrite_kept h0
  rw [e] at h; exact h

theorem State.reportDone_kept {o : State} {s_0 : State} {x_1 : ℕ} (h0 : Kept o s_0) :
    Kept o (@State.reportDone s_0 x_1) := by
  unfold State.reportDone
  repeat' (first
    | with_reducible first | assumption | refine State.wr_kept ?_ | refine State.setAttest_kept ?_ | refine State.fresh_kept ?_
    | (extract_lets +onlyGivenNames x; first
      | (refine cutS (o := o) (x := x) ?_ (fun _ => ?_) <;> [subst x; clear_value x])
      | (refine cutP (o := o) (x := x) ?_ (fun _ => ?_) <;> [subst x; clear_value x])
      | (refine cutF (o := o) (x := x) ?_ (fun _ => ?_) <;> [subst x; clear_value x])
      | skip)
    | with_reducible first | refine ite_kept ?_ ?_ | refine Kept.same ?_ rfl
    | dsimp only)

theorem execReportReady_kept {o : State} {path_0 : OdPath} {s_1 : State} (h1 : Kept o s_1) :
    KeptOut o (@execReportReady path_0 s_1) := by
  unfold execReportReady
  repeat' (first
    | with_reducible first | assumption | refine KeptOut.next ?_ | refine State.done_kept ?_ | refine State.reportDone_kept ?_
    | dsimp only)

theorem State.keyWrite_kept {o : State} {s_0 : State} {n_1 : ℕ} (h0 : Kept o s_0) :
    Kept o (@State.keyWrite s_0 n_1).2 := by
  unfold State.keyWrite
  exact ite_kept2 h0 (State.wr_kept (h0.setKeys (sparseWf_sparseSet (fun _ => 0) _ _ _ h0.keys)))
theorem State.keyWrite_eq {o : State} {s_0 : State} {n_1 : ℕ} {v0 : ℕ} {t : State} (e : @State.keyWrite s_0 n_1 = (v0, t)) (h0 : Kept o s_0) : Kept o t := by
  have h : Kept o (@State.keyWrite s_0 n_1).2 := State.keyWrite_kept h0
  rw [e] at h; exact h

theorem State.linkKeyWrite_kept {o : State} {s_0 : State} {p_1 : ℕ} (h0 : Kept o s_0) :
    Kept o (@State.linkKeyWrite s_0 p_1).2 := by
  unfold State.linkKeyWrite
  repeat' (first
    | with_reducible assumption
    | (extract_lets +onlyGivenNames x; first
      | (refine cutS (o := o) (x := x) ?_ (fun _ => ?_) <;> [subst x; clear_value x])
      | (refine cutP (o := o) (x := x) ?_ (fun _ => ?_) <;> [subst x; clear_value x])
      | (refine cutF (o := o) (x := x) ?_ (fun _ => ?_) <;> [subst x; clear_value x])
      | skip)
    | with_reducible first | refine ite_kept2 ?_ ?_ | refine ite_kept1 ?_ ?_ | refine ite_kept ?_ ?_ | refine Kept.same ?_ rfl
    | dsimp only)
theorem State.linkKeyWrite_eq {o : State} {s_0 : State} {p_1 : ℕ} {v0 : ℕ} {t : State} (e : @State.linkKeyWrite s_0 p_1 = (v0, t)) (h0 : Kept o s_0) : Kept o t := by
  have h : Kept o (@State.linkKeyWrite s_0 p_1).2 := State.linkKeyWrite_kept h0
  rw [e] at h; exact h

theorem State.setLife_kept {o s : State} {v : ℕ} (h : Kept o s) (hv : s.sec.life ≤ v) : Kept o (s.setLife v) :=
  Kept.upd h rfl rfl rfl rfl rfl rfl rfl rfl rfl rfl (Nat.le_refl _) (Nat.le_refl _) (Nat.le_refl _) hv

theorem State.advanceWrite_kept {o s : State} {path : OdPath} {v : ℕ} (h : Kept o s) : Kept o (s.advanceWrite path v).2 := by
  unfold State.advanceWrite
  dsimp only
  split
  · exact h
  · rename_i hv
    simp only [Bool.not_eq_true, Bool.not_eq_false', Bool.or_eq_true, Bool.and_eq_true, beq_iff_eq] at hv
    refine ite_kept2 h ?_
    split
    · exact ite_kept2 h (State.setDebug_kept (State.setLife_kept h (by omega)))
    · exact ite_kept2 h (State.setDebug_kept (foldl_kept (State.setLife_kept h (by omega)) fun _ _ h => State.zeroizeKey_kept h))
theorem State.advanceWrite_eq {o s : State} {path : OdPath} {v : ℕ} {a : ℕ} {t : State} (e : s.advanceWrite path v = (a, t))
    (h : Kept o s) : Kept o t := pairEq e (State.advanceWrite_kept h)

theorem State.provisionWrite_kept {o s : State} (h : Kept o s) : Kept o s.provisionWrite.2 := by
  unfold State.provisionWrite
  refine ite_kept2 h ?_
  split
  · exact h
  · refine ite_kept2 h (State.setDebug_kept (State.setLife_kept h (by omega)))
theorem State.provisionWrite_eq {o s : State} {a : ℕ} {t : State} (e : s.provisionWrite = (a, t)) (h : Kept o s) : Kept o t :=
  pairEq e (State.provisionWrite_kept h)

theorem State.debugWrite_kept {o : State} {s_0 : State} {v_1 : ℕ} (h0 : Kept o s_0) :
    Kept o (@State.debugWrite s_0 v_1).2 := by
  unfold State.debugWrite
  repeat' (first
    | with_reducible first | assumption | refine State.setDebug_kept ?_ | refine State.wr_kept ?_ | refine ite_kept2 ?_ ?_ | refine ite_kept1 ?_ ?_ | refine ite_kept ?_ ?_
    | dsimp only)
theorem State.debugWrite_eq {o : State} {s_0 : State} {v_1 : ℕ} {v0 : ℕ} {t : State} (e : @State.debugWrite s_0 v_1 = (v0, t)) (h0 : Kept o s_0) : Kept o t := by
  have h : Kept o (@State.debugWrite s_0 v_1).2 := State.debugWrite_kept h0
  rw [e] at h; exact h

end Sys2Proof.Machine
end

