-- ==== Sys2Proof/Laws/KeptMgmt.lean ====
section
/-! SUPPORT. What every command keeps, through the object dictionary and management. -/

namespace Sys2Proof.Machine

set_option linter.all false
set_option maxRecDepth 4000

theorem State.odValue_kept {o : State} {s_0 : State} {r_1 : OdRow} {index_2 : ℕ} {sub_3 : ℕ} {elem_4 : ℕ} (h0 : Kept o s_0) :
    Kept o (@State.odValue s_0 r_1 index_2 sub_3 elem_4).2.2 := by
  unfold State.odValue
  repeat' (first
    | with_reducible first | assumption | refine State.logNext_kept ?_ | refine State.logNext_eq (by assumption) ?_
    | (extract_lets +onlyGivenNames x; first
      | (refine cutS (o := o) (x := x) ?_ (fun _ => ?_) <;> [subst x; clear_value x])
      | (refine cutP (o := o) (x := x) ?_ (fun _ => ?_) <;> [subst x; clear_value x])
      | (refine cutF (o := o) (x := x) ?_ (fun _ => ?_) <;> [subst x; clear_value x])
      | skip)
    | with_reducible first | refine ite_kept2 ?_ ?_ | refine ite_kept1 ?_ ?_ | refine ite_kept ?_ ?_
    | split
    | with_reducible refine Kept.same ?_ rfl
    | dsimp only
    | (intro _))
theorem State.odValue_eq {o : State} {s_0 : State} {r_1 : OdRow} {index_2 : ℕ} {sub_3 : ℕ} {elem_4 : ℕ} {v0 : ℕ} {v1 : List Byte} {t : State} (e : @State.odValue s_0 r_1 index_2 sub_3 elem_4 = (v0, v1, t)) (h0 : Kept o s_0) : Kept o t := by
  have h : Kept o (@State.odValue s_0 r_1 index_2 sub_3 elem_4).2.2 := State.odValue_kept h0
  rw [e] at h; exact h

theorem State.odRead_kept {o : State} {s_0 : State} {r_1 : OdRow} {a_2 : Access} (h0 : Kept o s_0) :
    Kept o (@State.odRead s_0 r_1 a_2).2.2 := by
  unfold State.odRead
  repeat' (first
    | with_reducible first | assumption | refine State.odValue_kept ?_ | refine State.odValue_eq (by assumption) ?_
    | (extract_lets +onlyGivenNames x; first
      | (refine cutS (o := o) (x := x) ?_ (fun _ => ?_) <;> [subst x; clear_value x])
      | (refine cutP (o := o) (x := x) ?_ (fun _ => ?_) <;> [subst x; clear_value x])
      | (refine cutF (o := o) (x := x) ?_ (fun _ => ?_) <;> [subst x; clear_value x])
      | skip)
    | with_reducible first | refine ite_kept2 ?_ ?_ | refine ite_kept1 ?_ ?_ | refine ite_kept ?_ ?_
    | split
    | with_reducible refine Kept.same ?_ rfl
    | dsimp only
    | (intro _))
theorem State.odRead_eq {o : State} {s_0 : State} {r_1 : OdRow} {a_2 : Access} {v0 : ℕ} {v1 : List Byte} {t : State} (e : @State.odRead s_0 r_1 a_2 = (v0, v1, t)) (h0 : Kept o s_0) : Kept o t := by
  have h : Kept o (@State.odRead s_0 r_1 a_2).2.2 := State.odRead_kept h0
  rw [e] at h; exact h

theorem State.plainWrite_kept {o : State} {s_0 : State} {e_1 : Ent} {n_2 : ℕ} {v_3 : ℕ} (h0 : Kept o s_0) :
    Kept o (@State.plainWrite s_0 e_1 n_2 v_3).2 := by
  unfold State.plainWrite
  repeat' (first
    | with_reducible first | assumption | refine State.wr_kept ?_
    | dsimp only)
theorem State.plainWrite_eq {o : State} {s_0 : State} {e_1 : Ent} {n_2 : ℕ} {v_3 : ℕ} {v0 : ℕ} {t : State} (e : @State.plainWrite s_0 e_1 n_2 v_3 = (v0, t)) (h0 : Kept o s_0) : Kept o t := by
  have h : Kept o (@State.plainWrite s_0 e_1 n_2 v_3).2 := State.plainWrite_kept h0
  rw [e] at h; exact h

theorem State.writeIf_kept {o : State} {s_0 : State} {ok_1 : Bool} {code_2 : ℕ} {e_3 : Ent} {n_4 : ℕ} {v_5 : ℕ} (h0 : Kept o s_0) :
    Kept o (@State.writeIf s_0 ok_1 code_2 e_3 n_4 v_5).2 := by
  unfold State.writeIf
  repeat' (first
    | with_reducible first | assumption | refine State.wr_kept ?_ | refine ite_kept2 ?_ ?_ | refine ite_kept1 ?_ ?_ | refine ite_kept ?_ ?_
    | dsimp only)
theorem State.writeIf_eq {o : State} {s_0 : State} {ok_1 : Bool} {code_2 : ℕ} {e_3 : Ent} {n_4 : ℕ} {v_5 : ℕ} {v0 : ℕ} {t : State} (e : @State.writeIf s_0 ok_1 code_2 e_3 n_4 v_5 = (v0, t)) (h0 : Kept o s_0) : Kept o t := by
  have h : Kept o (@State.writeIf s_0 ok_1 code_2 e_3 n_4 v_5).2 := State.writeIf_kept h0
  rw [e] at h; exact h

theorem thenRelease_kept {o : State} {x_0 : ℕ × State} (h0 : Kept o x_0.2) :
    Kept o (@thenRelease x_0).2 := by
  unfold thenRelease
  repeat' (first
    | with_reducible first | assumption | refine State.release_kept ?_
    | dsimp only)
theorem thenRelease_eq {o : State} {x_0 : ℕ × State} {v0 : ℕ} {t : State} (e : @thenRelease x_0 = (v0, t)) (h0 : Kept o x_0.2) : Kept o t := by
  have h : Kept o (@thenRelease x_0).2 := thenRelease_kept h0
  rw [e] at h; exact h

theorem State.applyTime_kept {o : State} {s_0 : State} {sub_1 : ℕ} {v_2 : ℕ} (h0 : Kept o s_0) :
    Kept o (@State.applyTime s_0 sub_1 v_2).2 := by
  unfold State.applyTime
  repeat' (first
    | with_reducible first | assumption | refine State.sourceEntry_kept ?_ | refine State.sourceEntry_eq (by assumption) ?_ | refine State.todWrite_kept ?_ | refine State.todWrite_eq (by assumption) ?_ | refine State.allowStepWrite_kept ?_ | refine State.allowStepWrite_eq (by assumption) ?_ | refine State.ptpWrite_kept ?_ | refine State.ptpWrite_eq (by assumption) ?_ | refine State.plainWrite_kept ?_ | refine State.plainWrite_eq (by assumption) ?_ | refine ite_kept2 ?_ ?_ | refine ite_kept1 ?_ ?_ | refine ite_kept ?_ ?_ | refine Kept.same ?_ rfl
    | dsimp only)
theorem State.applyTime_eq {o : State} {s_0 : State} {sub_1 : ℕ} {v_2 : ℕ} {v0 : ℕ} {t : State} (e : @State.applyTime s_0 sub_1 v_2 = (v0, t)) (h0 : Kept o s_0) : Kept o t := by
  have h : Kept o (@State.applyTime s_0 sub_1 v_2).2 := State.applyTime_kept h0
  rw [e] at h; exact h

theorem State.reformPort_kept {o : State} {s_0 : State} {p_1 : PortId} (h0 : Kept o s_0) :
    Kept o (@State.reformPort s_0 p_1) := by
  unfold State.reformPort
  repeat' (first
    | with_reducible first | assumption | refine State.downEvent_kept ?_ ?_ | refine State.setTraining_kept ?_ | refine State.wr_kept ?_
    | (extract_lets +onlyGivenNames x; first
      | (refine cutS (o := o) (x := x) ?_ (fun _ => ?_) <;> [subst x; clear_value x])
      | (refine cutP (o := o) (x := x) ?_ (fun _ => ?_) <;> [subst x; clear_value x])
      | (refine cutF (o := o) (x := x) ?_ (fun _ => ?_) <;> [subst x; clear_value x])
      | skip)
    | with_reducible refine ite_kept ?_ ?_
    | dsimp only
    | (intro _))

theorem State.modeWrite_kept {o : State} {s_0 : State} {o_1 : ℕ} {v_2 : ℕ} (h0 : Kept o s_0) :
    Kept o (@State.modeWrite s_0 o_1 v_2).2 := by
  unfold State.modeWrite
  repeat' (first
    | with_reducible first | assumption | refine foldl_kept ?_ (fun _ _ _ => ?_) | refine State.resend_kept ?_ | refine State.moveRoutes_kept ?_ | refine State.reformPort_kept ?_ | refine State.wr_kept ?_
    | (extract_lets +onlyGivenNames x; first
      | (refine cutS (o := o) (x := x) ?_ (fun _ => ?_) <;> [subst x; clear_value x])
      | (refine cutP (o := o) (x := x) ?_ (fun _ => ?_) <;> [subst x; clear_value x])
      | (refine cutF (o := o) (x := x) ?_ (fun _ => ?_) <;> [subst x; clear_value x])
      | skip)
    | with_reducible first | refine ite_kept2 ?_ ?_ | refine ite_kept1 ?_ ?_ | refine ite_kept ?_ ?_
    | dsimp only
    | (intro _))
theorem State.modeWrite_eq {o : State} {s_0 : State} {o_1 : ℕ} {v_2 : ℕ} {v0 : ℕ} {t : State} (e : @State.modeWrite s_0 o_1 v_2 = (v0, t)) (h0 : Kept o s_0) : Kept o t := by
  have h : Kept o (@State.modeWrite s_0 o_1 v_2).2 := State.modeWrite_kept h0
  rw [e] at h; exact h

theorem State.roleWrite_kept {o : State} {s_0 : State} {p_1 : ℕ} {v_2 : ℕ} (h0 : Kept o s_0) :
    Kept o (@State.roleWrite s_0 p_1 v_2).2 := by
  unfold State.roleWrite
  repeat' (first
    | with_reducible first | assumption | refine State.resend_kept ?_ | refine State.moveRoutes_kept ?_ | refine State.startPort_kept ?_ | refine State.wr_kept ?_ | refine ite_kept2 ?_ ?_ | refine ite_kept1 ?_ ?_ | refine ite_kept ?_ ?_
    | dsimp only)
theorem State.roleWrite_eq {o : State} {s_0 : State} {p_1 : ℕ} {v_2 : ℕ} {v0 : ℕ} {t : State} (e : @State.roleWrite s_0 p_1 v_2 = (v0, t)) (h0 : Kept o s_0) : Kept o t := by
  have h : Kept o (@State.roleWrite s_0 p_1 v_2).2 := State.roleWrite_kept h0
  rw [e] at h; exact h

theorem State.applyBinding_kept {o : State} {s_0 : State} {path_1 : OdPath} {sub_2 : ℕ} {p_3 : ℕ} {v_4 : ℕ} (h0 : Kept o s_0) :
    Kept o (@State.applyBinding s_0 path_1 sub_2 p_3 v_4).2 := by
  unfold State.applyBinding
  repeat' (first
    | with_reducible first | assumption | refine State.roleWrite_kept ?_ | refine State.roleWrite_eq (by assumption) ?_ | refine State.writeIf_kept ?_ | refine State.writeIf_eq (by assumption) ?_ | refine State.plainWrite_kept ?_ | refine State.plainWrite_eq (by assumption) ?_ | refine ite_kept2 ?_ ?_ | refine ite_kept1 ?_ ?_ | refine ite_kept ?_ ?_ | refine Kept.same ?_ rfl
    | dsimp only)
theorem State.applyBinding_eq {o : State} {s_0 : State} {path_1 : OdPath} {sub_2 : ℕ} {p_3 : ℕ} {v_4 : ℕ} {v0 : ℕ} {t : State} (e : @State.applyBinding s_0 path_1 sub_2 p_3 v_4 = (v0, t)) (h0 : Kept o s_0) : Kept o t := by
  have h : Kept o (@State.applyBinding s_0 path_1 sub_2 p_3 v_4).2 := State.applyBinding_kept h0
  rw [e] at h; exact h

theorem State.applyPort_kept {o : State} {s_0 : State} {sub_1 : ℕ} {p_2 : ℕ} {v_3 : ℕ} (h0 : Kept o s_0) :
    Kept o (@State.applyPort s_0 sub_1 p_2 v_3).2 := by
  unfold State.applyPort
  repeat' (first
    | with_reducible first | assumption | refine State.retrainWrite_kept ?_ | refine State.plainWrite_kept ?_ | refine State.plainWrite_eq (by assumption) ?_ | refine ite_kept2 ?_ ?_ | refine ite_kept1 ?_ ?_ | refine ite_kept ?_ ?_
    | split
    | with_reducible refine Kept.same ?_ rfl
    | dsimp only)
theorem State.applyPort_eq {o : State} {s_0 : State} {sub_1 : ℕ} {p_2 : ℕ} {v_3 : ℕ} {v0 : ℕ} {t : State} (e : @State.applyPort s_0 sub_1 p_2 v_3 = (v0, t)) (h0 : Kept o s_0) : Kept o t := by
  have h : Kept o (@State.applyPort s_0 sub_1 p_2 v_3).2 := State.applyPort_kept h0
  rw [e] at h; exact h

theorem State.routeWrite_kept {o : State} {s_0 : State} {sub_1 : ℕ} {d_2 : ℕ} {v_3 : ℕ} (h0 : Kept o s_0) :
    Kept o (@State.routeWrite s_0 sub_1 d_2 v_3).2 := by
  unfold State.routeWrite
  repeat' (first
    | with_reducible first | assumption | refine State.resend_kept ?_ | refine State.preferRoute_kept ?_ | refine State.wr_kept ?_ | refine Kept.same ?_ rfl
    | dsimp only)
theorem State.routeWrite_eq {o : State} {s_0 : State} {sub_1 : ℕ} {d_2 : ℕ} {v_3 : ℕ} {v0 : ℕ} {t : State} (e : @State.routeWrite s_0 sub_1 d_2 v_3 = (v0, t)) (h0 : Kept o s_0) : Kept o t := by
  have h : Kept o (@State.routeWrite s_0 sub_1 d_2 v_3).2 := State.routeWrite_kept h0
  rw [e] at h; exact h

theorem State.chainWrite_kept {o : State} {s_0 : State} {e_1 : Ent} {v_2 : ℕ} (h0 : Kept o s_0) :
    Kept o (@State.chainWrite s_0 e_1 v_2).2 := by
  unfold State.chainWrite
  repeat' (first
    | with_reducible first | assumption | refine State.wr_kept ?_ | refine ite_kept2 ?_ ?_ | refine ite_kept1 ?_ ?_ | refine ite_kept ?_ ?_
    | dsimp only)
theorem State.chainWrite_eq {o : State} {s_0 : State} {e_1 : Ent} {v_2 : ℕ} {v0 : ℕ} {t : State} (e : @State.chainWrite s_0 e_1 v_2 = (v0, t)) (h0 : Kept o s_0) : Kept o t := by
  have h : Kept o (@State.chainWrite s_0 e_1 v_2).2 := State.chainWrite_kept h0
  rw [e] at h; exact h

theorem State.applySwitch_kept {o : State} {s_0 : State} {sub_1 : ℕ} {v_2 : ℕ} (h0 : Kept o s_0) :
    Kept o (@State.applySwitch s_0 sub_1 v_2).2 := by
  unfold State.applySwitch
  repeat' (first
    | with_reducible first | assumption | refine State.writeIf_kept ?_ | refine State.writeIf_eq (by assumption) ?_ | refine State.wr_kept ?_ | refine State.plainWrite_kept ?_ | refine State.plainWrite_eq (by assumption) ?_ | refine ite_kept2 ?_ ?_ | refine ite_kept1 ?_ ?_ | refine ite_kept ?_ ?_ | refine Kept.same ?_ rfl
    | dsimp only)
theorem State.applySwitch_eq {o : State} {s_0 : State} {sub_1 : ℕ} {v_2 : ℕ} {v0 : ℕ} {t : State} (e : @State.applySwitch s_0 sub_1 v_2 = (v0, t)) (h0 : Kept o s_0) : Kept o t := by
  have h : Kept o (@State.applySwitch s_0 sub_1 v_2).2 := State.applySwitch_kept h0
  rw [e] at h; exact h

theorem State.applyBufHerd_kept {o : State} {s_0 : State} {sub_1 : ℕ} {n_2 : ℕ} {v_3 : ℕ} (h0 : Kept o s_0) :
    Kept o (@State.applyBufHerd s_0 sub_1 n_2 v_3).2 := by
  unfold State.applyBufHerd
  repeat' (first
    | with_reducible first | assumption | refine State.writeIf_kept ?_ | refine State.writeIf_eq (by assumption) ?_ | refine State.wr_kept ?_ | refine State.plainWrite_kept ?_ | refine State.plainWrite_eq (by assumption) ?_ | refine ite_kept2 ?_ ?_ | refine ite_kept1 ?_ ?_ | refine ite_kept ?_ ?_ | refine Kept.same ?_ rfl
    | dsimp only)
theorem State.applyBufHerd_eq {o : State} {s_0 : State} {sub_1 : ℕ} {n_2 : ℕ} {v_3 : ℕ} {v0 : ℕ} {t : State} (e : @State.applyBufHerd s_0 sub_1 n_2 v_3 = (v0, t)) (h0 : Kept o s_0) : Kept o t := by
  have h : Kept o (@State.applyBufHerd s_0 sub_1 n_2 v_3).2 := State.applyBufHerd_kept h0
  rw [e] at h; exact h

theorem State.groupWrite_kept {o : State} {s_0 : State} {g_1 : ℕ} {v_2 : ℕ} (h0 : Kept o s_0) :
    Kept o (@State.groupWrite s_0 g_1 v_2).2 := by
  unfold State.groupWrite
  repeat' (first
    | with_reducible first | assumption | refine State.writeIf_kept ?_ | refine State.writeIf_eq (by assumption) ?_
    | (extract_lets +onlyGivenNames x; first
      | (refine cutS (o := o) (x := x) ?_ (fun _ => ?_) <;> [subst x; clear_value x])
      | (refine cutP (o := o) (x := x) ?_ (fun _ => ?_) <;> [subst x; clear_value x])
      | (refine cutF (o := o) (x := x) ?_ (fun _ => ?_) <;> [subst x; clear_value x])
      | skip)
    | dsimp only
    | (intro _))
theorem State.groupWrite_eq {o : State} {s_0 : State} {g_1 : ℕ} {v_2 : ℕ} {v0 : ℕ} {t : State} (e : @State.groupWrite s_0 g_1 v_2 = (v0, t)) (h0 : Kept o s_0) : Kept o t := by
  have h : Kept o (@State.groupWrite s_0 g_1 v_2).2 := State.groupWrite_kept h0
  rw [e] at h; exact h

theorem State.applyQueue_kept {o : State} {s_0 : State} {sub_1 : ℕ} {a_2 : ℕ} {v_3 : ℕ} (h0 : Kept o s_0) :
    Kept o (@State.applyQueue s_0 sub_1 a_2 v_3).2 := by
  unfold State.applyQueue
  repeat' (first
    | with_reducible first | assumption | refine State.writeIf_kept ?_ | refine State.writeIf_eq (by assumption) ?_ | refine State.wr_kept ?_ | refine State.clearHist_kept ?_ | refine State.setShaper_kept ?_ | refine State.freezeShaper_kept ?_ | refine State.plainWrite_kept ?_ | refine State.plainWrite_eq (by assumption) ?_ | refine ite_kept2 ?_ ?_ | refine ite_kept1 ?_ ?_ | refine ite_kept ?_ ?_ | refine Kept.same ?_ rfl
    | dsimp only)
theorem State.applyQueue_eq {o : State} {s_0 : State} {sub_1 : ℕ} {a_2 : ℕ} {v_3 : ℕ} {v0 : ℕ} {t : State} (e : @State.applyQueue s_0 sub_1 a_2 v_3 = (v0, t)) (h0 : Kept o s_0) : Kept o t := by
  have h : Kept o (@State.applyQueue s_0 sub_1 a_2 v_3).2 := State.applyQueue_kept h0
  rw [e] at h; exact h

theorem State.applyTm_kept {o : State} {s_0 : State} {sub_1 : ℕ} {v_2 : ℕ} (h0 : Kept o s_0) :
    Kept o (@State.applyTm s_0 sub_1 v_2).2 := by
  unfold State.applyTm
  repeat' (first
    | with_reducible first | assumption | refine State.writeIf_kept ?_ | refine State.writeIf_eq (by assumption) ?_ | refine State.periodWrite_kept ?_ | refine State.plainWrite_kept ?_ | refine State.plainWrite_eq (by assumption) ?_ | refine ite_kept2 ?_ ?_ | refine ite_kept1 ?_ ?_ | refine ite_kept ?_ ?_ | refine Kept.same ?_ rfl
    | dsimp only)
theorem State.applyTm_eq {o : State} {s_0 : State} {sub_1 : ℕ} {v_2 : ℕ} {v0 : ℕ} {t : State} (e : @State.applyTm s_0 sub_1 v_2 = (v0, t)) (h0 : Kept o s_0) : Kept o t := by
  have h : Kept o (@State.applyTm s_0 sub_1 v_2).2 := State.applyTm_kept h0
  rw [e] at h; exact h

theorem State.applyLimits_kept {o : State} {s_0 : State} {sub_1 : ℕ} {p_2 : ℕ} {v_3 : ℕ} (h0 : Kept o s_0) :
    Kept o (@State.applyLimits s_0 sub_1 p_2 v_3).2 := by
  unfold State.applyLimits
  repeat' (first
    | with_reducible first | assumption | refine State.plainWrite_kept ?_ | refine State.plainWrite_eq (by assumption) ?_
    | (extract_lets +onlyGivenNames x; first
      | (refine cutS (o := o) (x := x) ?_ (fun _ => ?_) <;> [subst x; clear_value x])
      | (refine cutP (o := o) (x := x) ?_ (fun _ => ?_) <;> [subst x; clear_value x])
      | (refine cutF (o := o) (x := x) ?_ (fun _ => ?_) <;> [subst x; clear_value x])
      | skip)
    | with_reducible first | refine ite_kept2 ?_ ?_ | refine ite_kept1 ?_ ?_ | refine ite_kept ?_ ?_
    | split
    | with_reducible refine Kept.same ?_ rfl
    | dsimp only)
theorem State.applyLimits_eq {o : State} {s_0 : State} {sub_1 : ℕ} {p_2 : ℕ} {v_3 : ℕ} {v0 : ℕ} {t : State} (e : @State.applyLimits s_0 sub_1 p_2 v_3 = (v0, t)) (h0 : Kept o s_0) : Kept o t := by
  have h : Kept o (@State.applyLimits s_0 sub_1 p_2 v_3).2 := State.applyLimits_kept h0
  rw [e] at h; exact h

theorem State.applyGate_kept {o : State} {s_0 : State} {sub_1 : ℕ} {p_2 : ℕ} {v_3 : ℕ} (h0 : Kept o s_0) :
    Kept o (@State.applyGate s_0 sub_1 p_2 v_3).2 := by
  unfold State.applyGate
  repeat' (first
    | with_reducible first | assumption | refine State.gateStartWrite_kept ?_ | refine State.gateStartWrite_eq (by assumption) ?_ | refine State.gateStopWrite_kept ?_ | refine State.plainWrite_kept ?_ | refine State.plainWrite_eq (by assumption) ?_ | refine ite_kept2 ?_ ?_ | refine ite_kept1 ?_ ?_ | refine ite_kept ?_ ?_ | refine Kept.same ?_ rfl
    | dsimp only)
theorem State.applyGate_eq {o : State} {s_0 : State} {sub_1 : ℕ} {p_2 : ℕ} {v_3 : ℕ} {v0 : ℕ} {t : State} (e : @State.applyGate s_0 sub_1 p_2 v_3 = (v0, t)) (h0 : Kept o s_0) : Kept o t := by
  have h : Kept o (@State.applyGate s_0 sub_1 p_2 v_3).2 := State.applyGate_kept h0
  rw [e] at h; exact h

theorem State.gateEntryWrite_kept {o : State} {s_0 : State} {m_1 : ℕ} {v_2 : ℕ} (h0 : Kept o s_0) :
    Kept o (@State.gateEntryWrite s_0 m_1 v_2).2 := by
  unfold State.gateEntryWrite
  repeat' (first
    | with_reducible first | assumption | refine State.writeIf_kept ?_ | refine State.writeIf_eq (by assumption) ?_
    | (extract_lets +onlyGivenNames x; first
      | (refine cutS (o := o) (x := x) ?_ (fun _ => ?_) <;> [subst x; clear_value x])
      | (refine cutP (o := o) (x := x) ?_ (fun _ => ?_) <;> [subst x; clear_value x])
      | (refine cutF (o := o) (x := x) ?_ (fun _ => ?_) <;> [subst x; clear_value x])
      | skip)
    | dsimp only)
theorem State.gateEntryWrite_eq {o : State} {s_0 : State} {m_1 : ℕ} {v_2 : ℕ} {v0 : ℕ} {t : State} (e : @State.gateEntryWrite s_0 m_1 v_2 = (v0, t)) (h0 : Kept o s_0) : Kept o t := by
  have h : Kept o (@State.gateEntryWrite s_0 m_1 v_2).2 := State.gateEntryWrite_kept h0
  rw [e] at h; exact h

theorem State.levelWrite_kept {o : State} {s_0 : State} {n_1 : ℕ} {v_2 : ℕ} (h0 : Kept o s_0) :
    Kept o (@State.levelWrite s_0 n_1 v_2).2 := by
  unfold State.levelWrite
  repeat' (first
    | with_reducible first | assumption | refine State.wr_kept ?_ | refine State.setDebug_kept ?_ | refine ite_kept2 ?_ ?_ | refine ite_kept1 ?_ ?_ | refine ite_kept ?_ ?_
    | dsimp only
    | (intro _))
theorem State.levelWrite_eq {o : State} {s_0 : State} {n_1 : ℕ} {v_2 : ℕ} {v0 : ℕ} {t : State} (e : @State.levelWrite s_0 n_1 v_2 = (v0, t)) (h0 : Kept o s_0) : Kept o t := by
  have h : Kept o (@State.levelWrite s_0 n_1 v_2).2 := State.levelWrite_kept h0
  rw [e] at h; exact h

theorem State.applyHerd_kept {o : State} {s_0 : State} {sub_1 : ℕ} {n_2 : ℕ} {v_3 : ℕ} (h0 : Kept o s_0) :
    Kept o (@State.applyHerd s_0 sub_1 n_2 v_3).2 := by
  unfold State.applyHerd
  repeat' (first
    | with_reducible first | assumption | refine State.herdWrite_kept ?_ | refine State.herdWrite_eq (by assumption) ?_ | refine State.release_kept ?_ | refine State.setDebug_kept ?_ | refine State.dropStrangers_kept ?_ | refine State.levelWrite_kept ?_ | refine State.levelWrite_eq (by assumption) ?_ | refine State.writeIf_kept ?_ | refine State.writeIf_eq (by assumption) ?_ | refine State.wr_kept ?_
    | (extract_lets +onlyGivenNames x; first
      | (refine cutS (o := o) (x := x) ?_ (fun _ => ?_) <;> [subst x; clear_value x])
      | (refine cutP (o := o) (x := x) ?_ (fun _ => ?_) <;> [subst x; clear_value x])
      | (refine cutF (o := o) (x := x) ?_ (fun _ => ?_) <;> [subst x; clear_value x])
      | skip)
    | with_reducible first | refine ite_kept2 ?_ ?_ | refine ite_kept1 ?_ ?_ | refine ite_kept ?_ ?_
    | dsimp only)
theorem State.applyHerd_eq {o : State} {s_0 : State} {sub_1 : ℕ} {n_2 : ℕ} {v_3 : ℕ} {v0 : ℕ} {t : State} (e : @State.applyHerd s_0 sub_1 n_2 v_3 = (v0, t)) (h0 : Kept o s_0) : Kept o t := by
  have h : Kept o (@State.applyHerd s_0 sub_1 n_2 v_3).2 := State.applyHerd_kept h0
  rw [e] at h; exact h

theorem State.reserveWrite_kept {o : State} {s_0 : State} {n_1 : ℕ} {tier_2 : ℕ} {v_3 : ℕ} (h0 : Kept o s_0) :
    Kept o (@State.reserveWrite s_0 n_1 tier_2 v_3).2 := by
  unfold State.reserveWrite
  repeat' (first
    | with_reducible first | assumption | refine State.writeIf_kept ?_ | refine State.writeIf_eq (by assumption) ?_
    | (extract_lets +onlyGivenNames x; first
      | (refine cutS (o := o) (x := x) ?_ (fun _ => ?_) <;> [subst x; clear_value x])
      | (refine cutP (o := o) (x := x) ?_ (fun _ => ?_) <;> [subst x; clear_value x])
      | (refine cutF (o := o) (x := x) ?_ (fun _ => ?_) <;> [subst x; clear_value x])
      | skip)
    | dsimp only)
theorem State.reserveWrite_eq {o : State} {s_0 : State} {n_1 : ℕ} {tier_2 : ℕ} {v_3 : ℕ} {v0 : ℕ} {t : State} (e : @State.reserveWrite s_0 n_1 tier_2 v_3 = (v0, t)) (h0 : Kept o s_0) : Kept o t := by
  have h : Kept o (@State.reserveWrite s_0 n_1 tier_2 v_3).2 := State.reserveWrite_kept h0
  rw [e] at h; exact h

theorem State.quotaWrite_kept {o : State} {s_0 : State} {n_1 : ℕ} {tier_2 : ℕ} {v_3 : ℕ} (h0 : Kept o s_0) :
    Kept o (@State.quotaWrite s_0 n_1 tier_2 v_3).2 := by
  unfold State.quotaWrite
  repeat' (first
    | with_reducible first | assumption | refine State.writeIf_kept ?_ | refine State.writeIf_eq (by assumption) ?_
    | dsimp only)
theorem State.quotaWrite_eq {o : State} {s_0 : State} {n_1 : ℕ} {tier_2 : ℕ} {v_3 : ℕ} {v0 : ℕ} {t : State} (e : @State.quotaWrite s_0 n_1 tier_2 v_3 = (v0, t)) (h0 : Kept o s_0) : Kept o t := by
  have h : Kept o (@State.quotaWrite s_0 n_1 tier_2 v_3).2 := State.quotaWrite_kept h0
  rw [e] at h; exact h

theorem State.waysWrite_kept {o : State} {s_0 : State} {e_1 : Ent} {n_2 : ℕ} {v_3 : ℕ} (h0 : Kept o s_0) :
    Kept o (@State.waysWrite s_0 e_1 n_2 v_3).2 := by
  unfold State.waysWrite
  repeat' (first
    | with_reducible first | assumption | refine State.writeIf_kept ?_ | refine State.writeIf_eq (by assumption) ?_ | refine State.dropDirStrangers_kept ?_ | refine State.dropStrangers_kept ?_
    | (extract_lets +onlyGivenNames x; first
      | (refine cutS (o := o) (x := x) ?_ (fun _ => ?_) <;> [subst x; clear_value x])
      | (refine cutP (o := o) (x := x) ?_ (fun _ => ?_) <;> [subst x; clear_value x])
      | (refine cutF (o := o) (x := x) ?_ (fun _ => ?_) <;> [subst x; clear_value x])
      | skip)
    | with_reducible first | refine ite_kept2 ?_ ?_ | refine ite_kept1 ?_ ?_ | refine ite_kept ?_ ?_
    | dsimp only
    | (intro _))
theorem State.waysWrite_eq {o : State} {s_0 : State} {e_1 : Ent} {n_2 : ℕ} {v_3 : ℕ} {v0 : ℕ} {t : State} (e : @State.waysWrite s_0 e_1 n_2 v_3 = (v0, t)) (h0 : Kept o s_0) : Kept o t := by
  have h : Kept o (@State.waysWrite s_0 e_1 n_2 v_3).2 := State.waysWrite_kept h0
  rw [e] at h; exact h

theorem State.applyAccounts_kept {o : State} {s_0 : State} {sub_1 : ℕ} {n_2 : ℕ} {v_3 : ℕ} (h0 : Kept o s_0) :
    Kept o (@State.applyAccounts s_0 sub_1 n_2 v_3).2 := by
  unfold State.applyAccounts
  repeat' (first
    | with_reducible first | assumption | refine State.waysWrite_kept ?_ | refine State.waysWrite_eq (by assumption) ?_ | refine thenRelease_kept ?_ | refine thenRelease_eq (by assumption) ?_ | refine State.writeIf_kept ?_ | refine State.writeIf_eq (by assumption) ?_ | refine State.reserveWrite_kept ?_ | refine State.reserveWrite_eq (by assumption) ?_ | refine State.quotaWrite_kept ?_ | refine State.quotaWrite_eq (by assumption) ?_ | refine ite_kept2 ?_ ?_ | refine ite_kept1 ?_ ?_ | refine ite_kept ?_ ?_
    | dsimp only)
theorem State.applyAccounts_eq {o : State} {s_0 : State} {sub_1 : ℕ} {n_2 : ℕ} {v_3 : ℕ} {v0 : ℕ} {t : State} (e : @State.applyAccounts s_0 sub_1 n_2 v_3 = (v0, t)) (h0 : Kept o s_0) : Kept o t := by
  have h : Kept o (@State.applyAccounts s_0 sub_1 n_2 v_3).2 := State.applyAccounts_kept h0
  rw [e] at h; exact h

theorem State.cacheSizeWrite_kept {o : State} {s_0 : State} {v_1 : ℕ} (h0 : Kept o s_0) :
    Kept o (@State.cacheSizeWrite s_0 v_1).2 := by
  unfold State.cacheSizeWrite
  repeat' (first
    | with_reducible first | assumption | refine foldl_kept ?_ (fun _ _ _ => ?_) | refine State.evict_kept ?_ | refine State.release_kept ?_ | refine State.wr_kept ?_
    | (extract_lets +onlyGivenNames x; first
      | (refine cutS (o := o) (x := x) ?_ (fun _ => ?_) <;> [subst x; clear_value x])
      | (refine cutP (o := o) (x := x) ?_ (fun _ => ?_) <;> [subst x; clear_value x])
      | (refine cutF (o := o) (x := x) ?_ (fun _ => ?_) <;> [subst x; clear_value x])
      | skip)
    | with_reducible first | refine ite_kept2 ?_ ?_ | refine ite_kept1 ?_ ?_ | refine ite_kept ?_ ?_
    | dsimp only
    | (intro _))
theorem State.cacheSizeWrite_eq {o : State} {s_0 : State} {v_1 : ℕ} {v0 : ℕ} {t : State} (e : @State.cacheSizeWrite s_0 v_1 = (v0, t)) (h0 : Kept o s_0) : Kept o t := by
  have h : Kept o (@State.cacheSizeWrite s_0 v_1).2 := State.cacheSizeWrite_kept h0
  rw [e] at h; exact h

theorem State.applyTiers_kept {o : State} {s_0 : State} {sub_1 : ℕ} {v_2 : ℕ} (h0 : Kept o s_0) :
    Kept o (@State.applyTiers s_0 sub_1 v_2).2 := by
  unfold State.applyTiers
  repeat' (first
    | with_reducible first | assumption | refine State.cacheSizeWrite_kept ?_ | refine State.cacheSizeWrite_eq (by assumption) ?_ | refine State.plainWrite_kept ?_ | refine State.plainWrite_eq (by assumption) ?_ | refine ite_kept2 ?_ ?_ | refine ite_kept1 ?_ ?_ | refine ite_kept ?_ ?_ | refine Kept.same ?_ rfl
    | dsimp only)
theorem State.applyTiers_eq {o : State} {s_0 : State} {sub_1 : ℕ} {v_2 : ℕ} {v0 : ℕ} {t : State} (e : @State.applyTiers s_0 sub_1 v_2 = (v0, t)) (h0 : Kept o s_0) : Kept o t := by
  have h : Kept o (@State.applyTiers s_0 sub_1 v_2).2 := State.applyTiers_kept h0
  rw [e] at h; exact h

theorem State.ceilingWrite_kept {o : State} {s_0 : State} {e_1 : Ent} {v_2 : ℕ} (h0 : Kept o s_0) :
    Kept o (@State.ceilingWrite s_0 e_1 v_2).2 := by
  unfold State.ceilingWrite
  repeat' (first
    | with_reducible first | assumption | refine State.release_kept ?_ | refine State.recompute_kept ?_ | refine State.wr_kept ?_
    | dsimp only)
theorem State.ceilingWrite_eq {o : State} {s_0 : State} {e_1 : Ent} {v_2 : ℕ} {v0 : ℕ} {t : State} (e : @State.ceilingWrite s_0 e_1 v_2 = (v0, t)) (h0 : Kept o s_0) : Kept o t := by
  have h : Kept o (@State.ceilingWrite s_0 e_1 v_2).2 := State.ceilingWrite_kept h0
  rw [e] at h; exact h

theorem State.applyCoherence_kept {o : State} {s_0 : State} {sub_1 : ℕ} {v_2 : ℕ} (h0 : Kept o s_0) :
    Kept o (@State.applyCoherence s_0 sub_1 v_2).2 := by
  unfold State.applyCoherence
  repeat' (first
    | with_reducible first | assumption | refine State.writeIf_kept ?_ | refine State.writeIf_eq (by assumption) ?_ | refine State.plainWrite_kept ?_ | refine State.plainWrite_eq (by assumption) ?_ | refine ite_kept2 ?_ ?_ | refine ite_kept1 ?_ ?_ | refine ite_kept ?_ ?_ | refine Kept.same ?_ rfl
    | dsimp only)
theorem State.applyCoherence_eq {o : State} {s_0 : State} {sub_1 : ℕ} {v_2 : ℕ} {v0 : ℕ} {t : State} (e : @State.applyCoherence s_0 sub_1 v_2 = (v0, t)) (h0 : Kept o s_0) : Kept o t := by
  have h : Kept o (@State.applyCoherence s_0 sub_1 v_2).2 := State.applyCoherence_kept h0
  rw [e] at h; exact h

theorem State.applyRing_kept {o : State} {s_0 : State} {sub_1 : ℕ} {a_2 : ℕ} {v_3 : ℕ} (h0 : Kept o s_0) :
    Kept o (@State.applyRing s_0 sub_1 a_2 v_3).2 := by
  unfold State.applyRing
  repeat' (first
    | with_reducible first | assumption | refine State.ringWrite_kept ?_ | refine State.ringWrite_eq (by assumption) ?_ | refine State.plainWrite_kept ?_ | refine State.plainWrite_eq (by assumption) ?_ | refine ite_kept2 ?_ ?_ | refine ite_kept1 ?_ ?_ | refine ite_kept ?_ ?_ | refine Kept.same ?_ rfl
    | dsimp only)
theorem State.applyRing_eq {o : State} {s_0 : State} {sub_1 : ℕ} {a_2 : ℕ} {v_3 : ℕ} {v0 : ℕ} {t : State} (e : @State.applyRing s_0 sub_1 a_2 v_3 = (v0, t)) (h0 : Kept o s_0) : Kept o t := by
  have h : Kept o (@State.applyRing s_0 sub_1 a_2 v_3).2 := State.applyRing_kept h0
  rw [e] at h; exact h

theorem State.applyFirmware_kept {o : State} {s_0 : State} {sub_1 : ℕ} {v_2 : ℕ} (h0 : Kept o s_0) :
    Kept o (@State.applyFirmware s_0 sub_1 v_2).2 := by
  unfold State.applyFirmware
  repeat' (first
    | with_reducible first | assumption | refine State.installWrite_kept ?_ | refine State.installWrite_eq (by assumption) ?_ | refine State.fresh_kept ?_ | refine State.commitWrite_kept ?_ | refine State.commitWrite_eq (by assumption) ?_ | refine State.plainWrite_kept ?_ | refine State.plainWrite_eq (by assumption) ?_
    | (extract_lets +onlyGivenNames x; first
      | (refine cutS (o := o) (x := x) ?_ (fun _ => ?_) <;> [subst x; clear_value x])
      | (refine cutP (o := o) (x := x) ?_ (fun _ => ?_) <;> [subst x; clear_value x])
      | (refine cutF (o := o) (x := x) ?_ (fun _ => ?_) <;> [subst x; clear_value x])
      | skip)
    | with_reducible first | refine ite_kept2 ?_ ?_ | refine ite_kept1 ?_ ?_ | refine ite_kept ?_ ?_ | refine Kept.same ?_ rfl
    | dsimp only)
theorem State.applyFirmware_eq {o : State} {s_0 : State} {sub_1 : ℕ} {v_2 : ℕ} {v0 : ℕ} {t : State} (e : @State.applyFirmware s_0 sub_1 v_2 = (v0, t)) (h0 : Kept o s_0) : Kept o t := by
  have h : Kept o (@State.applyFirmware s_0 sub_1 v_2).2 := State.applyFirmware_kept h0
  rw [e] at h; exact h

theorem State.applyAttest_kept {o : State} {s_0 : State} {sub_1 : ℕ} {x_2 : ℕ} {v_3 : ℕ} (h0 : Kept o s_0) :
    Kept o (@State.applyAttest s_0 sub_1 x_2 v_3).2 := by
  unfold State.applyAttest
  repeat' (first
    | with_reducible first | assumption | refine State.generateWrite_kept ?_ | refine State.generateWrite_eq (by assumption) ?_ | refine State.writeIf_kept ?_ | refine State.writeIf_eq (by assumption) ?_ | refine ite_kept2 ?_ ?_ | refine ite_kept1 ?_ ?_ | refine ite_kept ?_ ?_ | refine Kept.same ?_ rfl
    | dsimp only)
theorem State.applyAttest_eq {o : State} {s_0 : State} {sub_1 : ℕ} {x_2 : ℕ} {v_3 : ℕ} {v0 : ℕ} {t : State} (e : @State.applyAttest s_0 sub_1 x_2 v_3 = (v0, t)) (h0 : Kept o s_0) : Kept o t := by
  have h : Kept o (@State.applyAttest s_0 sub_1 x_2 v_3).2 := State.applyAttest_kept h0
  rw [e] at h; exact h

theorem State.applyStot_kept {o : State} {s_0 : State} {sub_1 : ℕ} {v_2 : ℕ} (h0 : Kept o s_0) :
    Kept o (@State.applyStot s_0 sub_1 v_2).2 := by
  unfold State.applyStot
  repeat' (first
    | with_reducible first | assumption | refine State.stotModeWrite_kept ?_ | refine State.stotModeWrite_eq (by assumption) ?_ | refine State.stotEvent_kept ?_ | refine State.plainWrite_kept ?_ | refine State.plainWrite_eq (by assumption) ?_ | refine ite_kept2 ?_ ?_ | refine ite_kept1 ?_ ?_ | refine ite_kept ?_ ?_ | refine Kept.same ?_ rfl
    | dsimp only)
theorem State.applyStot_eq {o : State} {s_0 : State} {sub_1 : ℕ} {v_2 : ℕ} {v0 : ℕ} {t : State} (e : @State.applyStot s_0 sub_1 v_2 = (v0, t)) (h0 : Kept o s_0) : Kept o t := by
  have h : Kept o (@State.applyStot s_0 sub_1 v_2).2 := State.applyStot_kept h0
  rw [e] at h; exact h

theorem State.applyPower_kept {o : State} {s_0 : State} {path_1 : OdPath} {sub_2 : ℕ} {v_3 : ℕ} (h0 : Kept o s_0) :
    Kept o (@State.applyPower s_0 path_1 sub_2 v_3).2 := by
  unfold State.applyPower
  repeat' (first
    | with_reducible first | assumption | refine State.requestWrite_kept ?_ | refine State.requestWrite_eq (by assumption) ?_ | refine State.writeIf_kept ?_ | refine State.writeIf_eq (by assumption) ?_ | refine State.plainWrite_kept ?_ | refine State.plainWrite_eq (by assumption) ?_ | refine ite_kept2 ?_ ?_ | refine ite_kept1 ?_ ?_ | refine ite_kept ?_ ?_ | refine Kept.same ?_ rfl
    | dsimp only)
theorem State.applyPower_eq {o : State} {s_0 : State} {path_1 : OdPath} {sub_2 : ℕ} {v_3 : ℕ} {v0 : ℕ} {t : State} (e : @State.applyPower s_0 path_1 sub_2 v_3 = (v0, t)) (h0 : Kept o s_0) : Kept o t := by
  have h : Kept o (@State.applyPower s_0 path_1 sub_2 v_3).2 := State.applyPower_kept h0
  rw [e] at h; exact h

theorem State.applyLow_kept {o : State} {s_0 : State} {path_1 : OdPath} {index_2 : ℕ} {sub_3 : ℕ} {elem_4 : ℕ} {v_5 : ℕ} (h0 : Kept o s_0) :
    Kept o (@State.applyLow s_0 path_1 index_2 sub_3 elem_4 v_5).2 := by
  unfold State.applyLow
  repeat' (first
    | with_reducible first | assumption | refine State.applyTime_kept ?_ | refine State.applyTime_eq (by assumption) ?_ | refine State.slotWrite_kept ?_ | refine State.slotWrite_eq (by assumption) ?_ | refine State.plainWrite_kept ?_ | refine State.plainWrite_eq (by assumption) ?_ | refine State.freezePenalties_kept ?_ | refine State.modeWrite_kept ?_ | refine State.modeWrite_eq (by assumption) ?_ | refine State.applyPort_kept ?_ | refine State.applyPort_eq (by assumption) ?_ | refine State.resend_kept ?_ | refine State.wr_kept ?_ | refine State.routeWrite_kept ?_ | refine State.routeWrite_eq (by assumption) ?_ | refine State.chainWrite_kept ?_ | refine State.chainWrite_eq (by assumption) ?_ | refine State.applySwitch_kept ?_ | refine State.applySwitch_eq (by assumption) ?_ | refine State.applyBufHerd_kept ?_ | refine State.applyBufHerd_eq (by assumption) ?_ | refine State.groupWrite_kept ?_ | refine State.groupWrite_eq (by assumption) ?_ | refine State.applyQueue_kept ?_ | refine State.applyQueue_eq (by assumption) ?_ | refine State.applyTm_kept ?_ | refine State.applyTm_eq (by assumption) ?_ | refine State.applyLimits_kept ?_ | refine State.applyLimits_eq (by assumption) ?_ | refine State.applyGate_kept ?_ | refine State.applyGate_eq (by assumption) ?_ | refine State.gateEntryWrite_kept ?_ | refine State.gateEntryWrite_eq (by assumption) ?_ | refine State.writeIf_kept ?_ | refine State.writeIf_eq (by assumption) ?_ | refine State.applyHerd_kept ?_ | refine State.applyHerd_eq (by assumption) ?_ | refine State.applyBinding_kept ?_ | refine State.applyBinding_eq (by assumption) ?_ | refine ite_kept2 ?_ ?_ | refine ite_kept1 ?_ ?_ | refine ite_kept ?_ ?_ | refine Kept.same ?_ rfl
    | dsimp only)
theorem State.applyLow_eq {o : State} {s_0 : State} {path_1 : OdPath} {index_2 : ℕ} {sub_3 : ℕ} {elem_4 : ℕ} {v_5 : ℕ} {v0 : ℕ} {t : State} (e : @State.applyLow s_0 path_1 index_2 sub_3 elem_4 v_5 = (v0, t)) (h0 : Kept o s_0) : Kept o t := by
  have h : Kept o (@State.applyLow s_0 path_1 index_2 sub_3 elem_4 v_5).2 := State.applyLow_kept h0
  rw [e] at h; exact h

theorem State.applyMid_kept {o : State} {s_0 : State} {index_1 : ℕ} {sub_2 : ℕ} {elem_3 : ℕ} {v_4 : ℕ} (h0 : Kept o s_0) :
    Kept o (@State.applyMid s_0 index_1 sub_2 elem_3 v_4).2 := by
  unfold State.applyMid
  repeat' (first
    | with_reducible first | assumption | refine thenRelease_kept ?_ | refine thenRelease_eq (by assumption) ?_ | refine State.opWrite_kept ?_ | refine State.opWrite_eq (by assumption) ?_ | refine State.applyAccounts_kept ?_ | refine State.applyAccounts_eq (by assumption) ?_ | refine State.chainWrite_kept ?_ | refine State.chainWrite_eq (by assumption) ?_ | refine State.applyTiers_kept ?_ | refine State.applyTiers_eq (by assumption) ?_ | refine State.ceilingWrite_kept ?_ | refine State.ceilingWrite_eq (by assumption) ?_ | refine State.deleteWrite_kept ?_ | refine State.deleteWrite_eq (by assumption) ?_ | refine State.applyCoherence_kept ?_ | refine State.applyCoherence_eq (by assumption) ?_ | refine State.readerWrite_kept ?_ | refine State.readerWrite_eq (by assumption) ?_ | refine State.thawWrite_kept ?_ | refine State.thawWrite_eq (by assumption) ?_ | refine State.waysWrite_kept ?_ | refine State.waysWrite_eq (by assumption) ?_ | refine State.applyRing_kept ?_ | refine State.applyRing_eq (by assumption) ?_ | refine State.ctxWrite_kept ?_ | refine State.ctxWrite_eq (by assumption) ?_ | refine State.memberWrite_kept ?_ | refine State.memberWrite_eq (by assumption) ?_ | refine State.plainWrite_kept ?_ | refine State.plainWrite_eq (by assumption) ?_ | refine ite_kept2 ?_ ?_ | refine ite_kept1 ?_ ?_ | refine ite_kept ?_ ?_ | refine Kept.same ?_ rfl
    | dsimp only)
theorem State.applyMid_eq {o : State} {s_0 : State} {index_1 : ℕ} {sub_2 : ℕ} {elem_3 : ℕ} {v_4 : ℕ} {v0 : ℕ} {t : State} (e : @State.applyMid s_0 index_1 sub_2 elem_3 v_4 = (v0, t)) (h0 : Kept o s_0) : Kept o t := by
  have h : Kept o (@State.applyMid s_0 index_1 sub_2 elem_3 v_4).2 := State.applyMid_kept h0
  rw [e] at h; exact h

theorem State.applyHigh_kept {o : State} {s_0 : State} {path_1 : OdPath} {index_2 : ℕ} {sub_3 : ℕ} {elem_4 : ℕ} {v_5 : ℕ} (h0 : Kept o s_0) :
    Kept o (@State.applyHigh s_0 path_1 index_2 sub_3 elem_4 v_5).2 := by
  unfold State.applyHigh
  repeat' (first
    | with_reducible first | assumption | refine State.setWrite_kept ?_ | refine State.setWrite_eq (by assumption) ?_ | refine State.entryWrite_kept ?_ | refine State.entryWrite_eq (by assumption) ?_ | refine State.advanceWrite_kept ?_ | refine State.advanceWrite_eq (by assumption) ?_ | refine State.debugWrite_kept ?_ | refine State.debugWrite_eq (by assumption) ?_ | refine State.applyFirmware_kept ?_ | refine State.applyFirmware_eq (by assumption) ?_ | refine State.applyAttest_kept ?_ | refine State.applyAttest_eq (by assumption) ?_ | refine State.keyWrite_kept ?_ | refine State.keyWrite_eq (by assumption) ?_ | refine State.linkKeyWrite_kept ?_ | refine State.linkKeyWrite_eq (by assumption) ?_ | refine State.recoverWrite_kept ?_ | refine State.recoverWrite_eq (by assumption) ?_ | refine State.releaseWrite_kept ?_ | refine State.releaseWrite_eq (by assumption) ?_ | refine State.profileWrite_kept ?_ | refine State.profileWrite_eq (by assumption) ?_ | refine State.traceWrite_kept ?_ | refine State.traceWrite_eq (by assumption) ?_ | refine State.filterWrite_kept ?_ | refine State.filterWrite_eq (by assumption) ?_ | refine State.applyStot_kept ?_ | refine State.applyStot_eq (by assumption) ?_ | refine State.buildWrite_kept ?_ | refine State.buildWrite_eq (by assumption) ?_ | refine State.applyPower_kept ?_ | refine State.applyPower_eq (by assumption) ?_ | refine State.pointWrite_kept ?_ | refine State.pointWrite_eq (by assumption) ?_ | refine State.gateQuadWrite_kept ?_ | refine State.gateQuadWrite_eq (by assumption) ?_ | refine State.ceilingWrite_kept ?_ | refine State.ceilingWrite_eq (by assumption) ?_ | refine State.plainWrite_kept ?_ | refine State.plainWrite_eq (by assumption) ?_ | refine ite_kept2 ?_ ?_ | refine ite_kept1 ?_ ?_ | refine ite_kept ?_ ?_ | refine Kept.same ?_ rfl
    | dsimp only)
theorem State.applyHigh_eq {o : State} {s_0 : State} {path_1 : OdPath} {index_2 : ℕ} {sub_3 : ℕ} {elem_4 : ℕ} {v_5 : ℕ} {v0 : ℕ} {t : State} (e : @State.applyHigh s_0 path_1 index_2 sub_3 elem_4 v_5 = (v0, t)) (h0 : Kept o s_0) : Kept o t := by
  have h : Kept o (@State.applyHigh s_0 path_1 index_2 sub_3 elem_4 v_5).2 := State.applyHigh_kept h0
  rw [e] at h; exact h

theorem State.odApply_kept {o : State} {s_0 : State} {path_1 : OdPath} {index_2 : ℕ} {sub_3 : ℕ} {elem_4 : ℕ} {v_5 : ℕ} (h0 : Kept o s_0) :
    Kept o (@State.odApply s_0 path_1 index_2 sub_3 elem_4 v_5).2 := by
  unfold State.odApply
  repeat' (first
    | with_reducible first | assumption | refine State.applyLow_kept ?_ | refine State.applyLow_eq (by assumption) ?_ | refine State.applyMid_kept ?_ | refine State.applyMid_eq (by assumption) ?_ | refine State.applyHigh_kept ?_ | refine State.applyHigh_eq (by assumption) ?_ | refine ite_kept2 ?_ ?_ | refine ite_kept1 ?_ ?_ | refine ite_kept ?_ ?_
    | dsimp only)
theorem State.odApply_eq {o : State} {s_0 : State} {path_1 : OdPath} {index_2 : ℕ} {sub_3 : ℕ} {elem_4 : ℕ} {v_5 : ℕ} {v0 : ℕ} {t : State} (e : @State.odApply s_0 path_1 index_2 sub_3 elem_4 v_5 = (v0, t)) (h0 : Kept o s_0) : Kept o t := by
  have h : Kept o (@State.odApply s_0 path_1 index_2 sub_3 elem_4 v_5).2 := State.odApply_kept h0
  rw [e] at h; exact h

theorem State.refuse_kept {o : State} {s_0 : State} {p_1 : OdPath} (h0 : Kept o s_0) :
    Kept o (@State.refuse s_0 p_1) := by
  unfold State.refuse
  repeat' (first
    | with_reducible first | assumption | refine State.bump_kept ?_
    | dsimp only)

theorem State.configWrite_kept {o : State} {s_0 : State} {a_1 : Access} (h0 : Kept o s_0) :
    Kept o (@State.configWrite s_0 a_1) := by
  unfold State.configWrite
  repeat' (first
    | with_reducible first | assumption | refine State.emit_kept ?_
    | dsimp only)

theorem State.accessWrite_kept {o : State} {s_0 : State} {a_1 : Access} (h0 : Kept o s_0) :
    Kept o (@State.accessWrite s_0 a_1).2 := by
  unfold State.accessWrite
  repeat' (first
    | with_reducible first | assumption | refine State.odApply_kept ?_ | refine State.odApply_eq (by assumption) ?_ | refine State.installWrite_kept ?_ | refine State.installWrite_eq (by assumption) ?_ | refine State.provisionWrite_kept ?_ | refine State.provisionWrite_eq (by assumption) ?_
    | (extract_lets +onlyGivenNames x; first
      | (refine cutS (o := o) (x := x) ?_ (fun _ => ?_) <;> [subst x; clear_value x])
      | (refine cutP (o := o) (x := x) ?_ (fun _ => ?_) <;> [subst x; clear_value x])
      | (refine cutF (o := o) (x := x) ?_ (fun _ => ?_) <;> [subst x; clear_value x])
      | skip)
    | with_reducible first | refine ite_kept2 ?_ ?_ | refine ite_kept1 ?_ ?_ | refine ite_kept ?_ ?_
    | split
    | with_reducible refine Kept.same ?_ rfl
    | dsimp only
    | (intro _))
theorem State.accessWrite_eq {o : State} {s_0 : State} {a_1 : Access} {v0 : ℕ} {t : State} (e : @State.accessWrite s_0 a_1 = (v0, t)) (h0 : Kept o s_0) : Kept o t := by
  have h : Kept o (@State.accessWrite s_0 a_1).2 := State.accessWrite_kept h0
  rw [e] at h; exact h

theorem State.writeAccess_kept {o : State} {s_0 : State} {a_1 : Access} (h0 : Kept o s_0) :
    Kept o (@State.writeAccess s_0 a_1).2.2 := by
  unfold State.writeAccess
  repeat' (first
    | with_reducible first | assumption | refine State.accessWrite_kept ?_ | refine State.accessWrite_eq (by assumption) ?_ | refine State.configWrite_kept ?_
    | (extract_lets +onlyGivenNames x; first
      | (refine cutS (o := o) (x := x) ?_ (fun _ => ?_) <;> [subst x; clear_value x])
      | (refine cutP (o := o) (x := x) ?_ (fun _ => ?_) <;> [subst x; clear_value x])
      | (refine cutF (o := o) (x := x) ?_ (fun _ => ?_) <;> [subst x; clear_value x])
      | skip)
    | with_reducible first | refine ite_kept2 ?_ ?_ | refine ite_kept1 ?_ ?_ | refine ite_kept ?_ ?_
    | split
    | with_reducible refine Kept.same ?_ rfl
    | dsimp only
    | (intro _))
theorem State.writeAccess_eq {o : State} {s_0 : State} {a_1 : Access} {v0 : ℕ} {v1 : List Byte} {t : State} (e : @State.writeAccess s_0 a_1 = (v0, v1, t)) (h0 : Kept o s_0) : Kept o t := by
  have h : Kept o (@State.writeAccess s_0 a_1).2.2 := State.writeAccess_kept h0
  rw [e] at h; exact h

theorem State.tryAccess_kept {o : State} {s_0 : State} {a_1 : Access} (h0 : Kept o s_0) :
    Kept o (@State.tryAccess s_0 a_1).2.2 := by
  unfold State.tryAccess
  repeat' (first
    | with_reducible first | assumption | refine State.writeAccess_kept ?_ | refine State.writeAccess_eq (by assumption) ?_ | refine State.odRead_kept ?_ | refine State.odRead_eq (by assumption) ?_ | refine ite_kept2 ?_ ?_ | refine ite_kept1 ?_ ?_ | refine ite_kept ?_ ?_
    | split
    | with_reducible refine Kept.same ?_ rfl
    | dsimp only)
theorem State.tryAccess_eq {o : State} {s_0 : State} {a_1 : Access} {v0 : ℕ} {v1 : List Byte} {t : State} (e : @State.tryAccess s_0 a_1 = (v0, v1, t)) (h0 : Kept o s_0) : Kept o t := by
  have h : Kept o (@State.tryAccess s_0 a_1).2.2 := State.tryAccess_kept h0
  rw [e] at h; exact h

theorem State.access_kept {o : State} {s_0 : State} {a_1 : Access} (h0 : Kept o s_0) :
    Kept o (@State.access s_0 a_1).2.2 := by
  unfold State.access
  repeat' (first
    | with_reducible first | assumption | refine State.count_kept ?_ | refine State.bump_kept ?_ | refine State.tryAccess_kept ?_ | refine State.tryAccess_eq (by assumption) ?_ | refine State.refuse_kept ?_
    | (extract_lets +onlyGivenNames x; first
      | (refine cutS (o := o) (x := x) ?_ (fun _ => ?_) <;> [subst x; clear_value x])
      | (refine cutP (o := o) (x := x) ?_ (fun _ => ?_) <;> [subst x; clear_value x])
      | (refine cutF (o := o) (x := x) ?_ (fun _ => ?_) <;> [subst x; clear_value x])
      | skip)
    | with_reducible first | refine ite_kept2 ?_ ?_ | refine ite_kept1 ?_ ?_ | refine ite_kept ?_ ?_
    | split
    | with_reducible refine Kept.same ?_ rfl
    | dsimp only
    | (intro _))
theorem State.access_eq {o : State} {s_0 : State} {a_1 : Access} {v0 : ℕ} {v1 : List Byte} {t : State} (e : @State.access s_0 a_1 = (v0, v1, t)) (h0 : Kept o s_0) : Kept o t := by
  have h : Kept o (@State.access s_0 a_1).2.2 := State.access_kept h0
  rw [e] at h; exact h

theorem State.putSlot_kept {o : State} {s_0 : State} {i_1 : ℕ} {m_2 : List Byte} (h0 : Kept o s_0) :
    Kept o (@State.putSlot s_0 i_1 m_2) := by
  unfold State.putSlot
  repeat' (first
    | with_reducible first | assumption | refine Kept.same ?_ rfl
    | dsimp only)

theorem State.answerOd_kept {o : State} {s_0 : State} {a_1 : Access} {code_2 : ℕ} {v_3 : List Byte} (h0 : Kept o s_0) :
    Kept o (@State.answerOd s_0 a_1 code_2 v_3) := by
  unfold State.answerOd
  repeat' (first
    | with_reducible first | assumption | refine State.send_kept ?_ | refine State.putSlot_kept ?_ | refine State.answer_kept ?_ | refine ite_kept ?_ ?_
    | split
    | with_reducible refine Kept.same ?_ rfl
    | dsimp only
    | (intro _))

theorem State.execOd_kept {o : State} {s_0 : State} {a_1 : Access} (h0 : Kept o s_0) :
    Kept o (@State.execOd s_0 a_1) := by
  unfold State.execOd
  repeat' (first
    | with_reducible first | assumption | refine State.access_kept ?_ | refine State.access_eq (by assumption) ?_ | refine State.answerOd_kept ?_
    | (extract_lets +onlyGivenNames x; first
      | (refine cutS (o := o) (x := x) ?_ (fun _ => ?_) <;> [subst x; clear_value x])
      | (refine cutP (o := o) (x := x) ?_ (fun _ => ?_) <;> [subst x; clear_value x])
      | (refine cutF (o := o) (x := x) ?_ (fun _ => ?_) <;> [subst x; clear_value x])
      | skip)
    | dsimp only)

theorem State.setQueue_kept {o : State} {s_0 : State} {p_1 : OdPath} {a_2 : List Access} (h0 : Kept o s_0) :
    Kept o (@State.setQueue s_0 p_1 a_2) := by
  unfold State.setQueue
  repeat' (first
    | with_reducible assumption
    | split
    | with_reducible refine Kept.same ?_ rfl
    | dsimp only)

theorem State.runQueue_kept {o : State} {p_0 : OdPath} {a__internal_hyg0_1 : ℕ} {a__internal_hyg0_2 : State} (h2 : Kept o a__internal_hyg0_2) :
    Kept o (@State.runQueue p_0 a__internal_hyg0_1 a__internal_hyg0_2) := by
  induction a__internal_hyg0_1 generalizing p_0 a__internal_hyg0_2 with
  | zero =>
    unfold State.runQueue
    repeat' (first
      | with_reducible first | assumption | refine State.execOd_kept ?_ | refine State.setQueue_kept ?_ | refine ih ?_
      | split
      | with_reducible refine Kept.same ?_ rfl
      | dsimp only
      | (intro _))
  | succ n ih =>
    unfold State.runQueue
    repeat' (first
      | with_reducible first | assumption | refine State.execOd_kept ?_ | refine State.setQueue_kept ?_ | refine ih ?_
      | split
      | with_reducible refine Kept.same ?_ rfl
      | dsimp only
      | (intro _))

theorem State.odArrive_kept {o : State} {s_0 : State} {a_1 : Access} (h0 : Kept o s_0) :
    Kept o (@State.odArrive s_0 a_1) := by
  unfold State.odArrive
  repeat' (first
    | with_reducible first | assumption | refine State.answerOd_kept ?_ | refine State.refuse_kept ?_ | refine State.execOd_kept ?_ | refine State.runQueue_kept ?_ | refine State.setQueue_kept ?_ | refine ite_kept ?_ ?_
    | dsimp only)

theorem State.programConf_kept {o : State} {s_0 : State} {a_1 : Access} {ok0_2 : Bool} {ok1_3 : Bool} (h0 : Kept o s_0) :
    Kept o (@State.programConf s_0 a_1 ok0_2 ok1_3) := by
  unfold State.programConf
  repeat' (first
    | with_reducible assumption
    | (extract_lets +onlyGivenNames x; first
      | (refine cutS (o := o) (x := x) ?_ (fun _ => ?_) <;> [subst x; clear_value x])
      | (refine cutP (o := o) (x := x) ?_ (fun _ => ?_) <;> [subst x; clear_value x])
      | (refine cutF (o := o) (x := x) ?_ (fun _ => ?_) <;> [subst x; clear_value x])
      | skip)
    | with_reducible first | refine ite_kept ?_ ?_ | refine Kept.same ?_ rfl
    | dsimp only)

theorem State.endStore_kept {o : State} {s_0 : State} {a_1 : Access} {ok_2 : Bool} (h0 : Kept o s_0) :
    Kept o (@State.endStore s_0 a_1 ok_2) := by
  unfold State.endStore
  repeat' (first
    | with_reducible first | assumption | refine State.execOd_kept ?_ | refine State.answerOd_kept ?_ | refine State.refuse_kept ?_ | refine State.count_kept ?_ | refine State.bump_kept ?_ | refine ite_kept ?_ ?_
    | dsimp only)

theorem State.confDone_kept {o : State} {s_0 : State} {ok0_1 : Bool} {ok1_2 : Bool} (h0 : Kept o s_0) :
    Kept o (@State.confDone s_0 ok0_1 ok1_2) := by
  unfold State.confDone
  repeat' (first
    | with_reducible first | assumption | refine State.programConf_kept ?_ | refine State.setQueue_kept ?_ | refine State.runQueue_kept ?_ | refine State.endStore_kept ?_
    | (extract_lets +onlyGivenNames x; first
      | (refine cutS (o := o) (x := x) ?_ (fun _ => ?_) <;> [subst x; clear_value x])
      | (refine cutP (o := o) (x := x) ?_ (fun _ => ?_) <;> [subst x; clear_value x])
      | (refine cutF (o := o) (x := x) ?_ (fun _ => ?_) <;> [subst x; clear_value x])
      | skip)
    | split
    | with_reducible refine Kept.same ?_ rfl
    | dsimp only)

theorem execConfigAreaProgramDone_kept {o : State} {copy0_0 : Bool} {copy1_1 : Bool} {s_2 : State} (h2 : Kept o s_2) :
    KeptOut o (@execConfigAreaProgramDone copy0_0 copy1_1 s_2) := by
  unfold execConfigAreaProgramDone
  repeat' (first
    | with_reducible first | assumption | refine KeptOut.next ?_ | refine State.done_kept ?_ | refine State.confDone_kept ?_
    | dsimp only)

theorem State.message_kept {o : State} {s_0 : State} {path_1 : OdPath} {who_2 : Asker} {m_3 : List Byte} (h0 : Kept o s_0) :
    Kept o (@State.message s_0 path_1 who_2 m_3) := by
  unfold State.message
  repeat' (first
    | with_reducible first | assumption | refine State.odArrive_kept ?_ | refine State.answerOd_kept ?_ | refine State.refuse_kept ?_ | refine ite_kept ?_ ?_
    | dsimp only)

theorem execMailboxDoorbell_kept {o : State} {slot : Word64} {msg : List Byte} {s : State} (h : Kept o s) :
    KeptOut o (execMailboxDoorbell slot msg s) := by
  unfold execMailboxDoorbell
  split
  · exact KeptOut.fault
  · split
    · exact State.done_kept (State.message_kept (Kept.same h rfl))
    · exact State.done_kept h

theorem execRespReadyClear_kept {o : State} {bits_0 : Word64} {s_1 : State} (h1 : Kept o s_1) :
    KeptOut o (@execRespReadyClear bits_0 s_1) := by
  unfold execRespReadyClear
  repeat' (first
    | with_reducible first | assumption | refine KeptOut.next ?_ | refine foldl_kept ?_ (fun _ _ _ => ?_) | refine State.done_kept ?_ | refine ite_keptOut ?_ ?_ | refine ite_kept ?_ ?_ | refine Kept.same ?_ rfl
    | dsimp only
    | (intro _))

theorem execMctpVendorMessage_kept {o : State} {msgType_0 : Byte} {body_1 : List Byte} {s_2 : State} (h2 : Kept o s_2) :
    KeptOut o (@execMctpVendorMessage msgType_0 body_1 s_2) := by
  unfold execMctpVendorMessage
  repeat' (first
    | with_reducible first | assumption | refine KeptOut.next ?_ | refine State.done_kept ?_ | refine State.message_kept ?_ | refine State.bump_kept ?_ | refine ite_keptOut ?_ ?_ | refine ite_kept ?_ ?_
    | dsimp only)

theorem State.control_kept {o : State} {s_0 : State} {cmd_1 : ℕ} {code_2 : ℕ} {data_3 : List ℕ} (h0 : Kept o s_0) :
    Kept o (@State.control s_0 cmd_1 code_2 data_3) := by
  unfold State.control
  repeat' (first
    | with_reducible first | assumption | refine State.send_kept ?_ | refine ite_kept ?_ ?_
    | dsimp only)

theorem execSetEndpointId_kept {o : State} {eid_0 : Byte} {s_1 : State} (h1 : Kept o s_1) :
    KeptOut o (@execSetEndpointId eid_0 s_1) := by
  unfold execSetEndpointId
  repeat' (first
    | with_reducible first | assumption | refine KeptOut.next ?_ | refine State.done_kept ?_ | refine State.control_kept ?_ | refine State.wr_kept ?_ | refine ite_keptOut ?_ ?_ | refine ite_kept ?_ ?_
    | dsimp only)

theorem execGetEndpointId_kept {o : State} {s_0 : State} (h0 : Kept o s_0) :
    KeptOut o (@execGetEndpointId s_0) := by
  unfold execGetEndpointId
  repeat' (first
    | with_reducible first | assumption | refine KeptOut.next ?_ | refine State.done_kept ?_ | refine State.control_kept ?_
    | dsimp only)

theorem execGetMctpVersionSupport_kept {o : State} {s_0 : State} (h0 : Kept o s_0) :
    KeptOut o (@execGetMctpVersionSupport s_0) := by
  unfold execGetMctpVersionSupport
  repeat' (first
    | with_reducible first | assumption | refine KeptOut.next ?_ | refine State.done_kept ?_ | refine State.control_kept ?_
    | dsimp only)

theorem execGetMessageTypeSupport_kept {o : State} {s_0 : State} (h0 : Kept o s_0) :
    KeptOut o (@execGetMessageTypeSupport s_0) := by
  unfold execGetMessageTypeSupport
  repeat' (first
    | with_reducible first | assumption | refine KeptOut.next ?_ | refine State.done_kept ?_ | refine State.control_kept ?_
    | dsimp only)

theorem execI3cDynamicAddressAssign_kept {o : State} {addr_0 : Byte} {s_1 : State} (h1 : Kept o s_1) :
    KeptOut o (@execI3cDynamicAddressAssign addr_0 s_1) := by
  unfold execI3cDynamicAddressAssign
  repeat' (first
    | with_reducible first | assumption | refine KeptOut.next ?_ | refine State.done_kept ?_ | refine State.wr_kept ?_ | refine ite_keptOut ?_ ?_ | refine ite_kept ?_ ?_
    | dsimp only)

theorem State.runMgmtReq_kept {o : State} {s_0 : State} {r_1 : Req} (h0 : Kept o s_0) :
    Kept o (@State.runMgmtReq s_0 r_1) := by
  unfold State.runMgmtReq
  repeat' (first
    | with_reducible first | assumption | refine State.answerOd_kept ?_ | refine State.refuse_kept ?_ | refine State.execOd_kept ?_ | refine ite_kept ?_ ?_
    | dsimp only)

theorem State.runMgmt_kept {o : State} {s_0 : State} (h0 : Kept o s_0) :
    Kept o (@State.runMgmt s_0) := by
  unfold State.runMgmt
  repeat' (first
    | with_reducible first | assumption | refine foldl_kept ?_ (fun _ _ _ => ?_) | refine State.runMgmtReq_kept ?_ | refine State.answerOd_kept ?_ | refine State.refuse_kept ?_
    | (extract_lets +onlyGivenNames x; first
      | (refine cutS (o := o) (x := x) ?_ (fun _ => ?_) <;> [subst x; clear_value x])
      | (refine cutP (o := o) (x := x) ?_ (fun _ => ?_) <;> [subst x; clear_value x])
      | (refine cutF (o := o) (x := x) ?_ (fun _ => ?_) <;> [subst x; clear_value x])
      | skip)
    | with_reducible refine ite_kept ?_ ?_
    | dsimp only
    | (intro _))

theorem State.jtagWrite_kept {o : State} {s_0 : State} {e_1 : ℕ} {off_2 : ℕ} {data_3 : List Byte} (h0 : Kept o s_0) :
    Kept o (@State.jtagWrite s_0 e_1 off_2 data_3) := by
  unfold State.jtagWrite
  repeat' (first
    | with_reducible first | assumption | refine State.fresh_kept ?_ | refine State.writePool_kept ?_ | refine ite_kept ?_ ?_
    | dsimp only
    | (intro _))

theorem State.jtag_kept {o : State} {s_0 : State} {op_1 : JtagOp} (h0 : Kept o s_0) :
    Kept o (@State.jtag s_0 op_1) := by
  unfold State.jtag
  repeat' (first
    | with_reducible first | assumption | refine State.send_kept ?_ | refine State.fresh_kept ?_ | refine State.jtagWrite_kept ?_
    | (extract_lets +onlyGivenNames x; first
      | (refine cutS (o := o) (x := x) ?_ (fun _ => ?_) <;> [subst x; clear_value x])
      | (refine cutP (o := o) (x := x) ?_ (fun _ => ?_) <;> [subst x; clear_value x])
      | (refine cutF (o := o) (x := x) ?_ (fun _ => ?_) <;> [subst x; clear_value x])
      | skip)
    | with_reducible refine ite_kept ?_ ?_
    | split
    | with_reducible refine Kept.same ?_ rfl
    | dsimp only
    | (intro _))

theorem execJtagAccess_kept {o : State} {op_0 : JtagOp} {s_1 : State} (h1 : Kept o s_1) :
    KeptOut o (@execJtagAccess op_0 s_1) := by
  unfold execJtagAccess
  repeat' (first
    | with_reducible first | assumption | refine KeptOut.next ?_ | refine State.done_kept ?_ | refine State.jtag_kept ?_
    | dsimp only)

theorem State.odPut_kept {o : State} {s_0 : State} {path_1 : OdPath} {e_2 : Ent} {n_3 : ℕ} {v_4 : ℕ} (h0 : Kept o s_0) :
    Kept o (@State.odPut s_0 path_1 e_2 n_3 v_4) := by
  unfold State.odPut
  repeat' (first
    | with_reducible first | assumption | refine State.odArrive_kept ?_
    | dsimp only)

theorem execOdWrite_kept {o : State} {path_0 : OdPath} {a_1 : OdAddr} {value_2 : List Byte} {s_3 : State} (h3 : Kept o s_3) :
    KeptOut o (@execOdWrite path_0 a_1 value_2 s_3) := by
  unfold execOdWrite
  repeat' (first
    | with_reducible first | assumption | refine KeptOut.next ?_ | refine State.done_kept ?_ | refine State.odArrive_kept ?_ | refine Kept.same ?_ rfl
    | dsimp only)

theorem execSourceWrite_kept {o : State} {path_0 : OdPath} {upstream_1 : Bool} {value_2 : Half} {s_3 : State} (h3 : Kept o s_3) :
    KeptOut o (@execSourceWrite path_0 upstream_1 value_2 s_3) := by
  unfold execSourceWrite
  repeat' (first
    | with_reducible first | assumption | refine KeptOut.next ?_ | refine State.done_kept ?_ | refine State.odArrive_kept ?_ | refine ite_keptOut ?_ ?_ | refine ite_kept ?_ ?_
    | dsimp only)

theorem execEntryRecordWrite_kept {o : State} {path_0 : OdPath} {i_1 : EntryId} {value_2 : List Byte} {s_3 : State} (h3 : Kept o s_3) :
    KeptOut o (@execEntryRecordWrite path_0 i_1 value_2 s_3) := by
  unfold execEntryRecordWrite
  repeat' (first
    | with_reducible first | assumption | refine KeptOut.next ?_ | refine State.done_kept ?_ | refine State.odArrive_kept ?_
    | dsimp only)

theorem execFwInstall_kept {o : State} {path_0 : OdPath} {img_1 : StagedImage} {s_2 : State} (h2 : Kept o s_2) :
    KeptOut o (@execFwInstall path_0 img_1 s_2) := by
  unfold execFwInstall
  repeat' (first
    | with_reducible first | assumption | refine KeptOut.next ?_ | refine State.done_kept ?_ | refine State.odArrive_kept ?_
    | dsimp only)

theorem execAdvanceProvisioned_kept {o : State} {path_0 : OdPath} {s_1 : State} (h1 : Kept o s_1) :
    KeptOut o (@execAdvanceProvisioned path_0 s_1) := by
  unfold execAdvanceProvisioned
  repeat' (first
    | with_reducible first | assumption | refine KeptOut.next ?_ | refine State.done_kept ?_ | refine State.odArrive_kept ?_ | refine Kept.same ?_ rfl
    | dsimp only)

theorem execLogNext_kept {o : State} {path_0 : OdPath} {s_1 : State} (h1 : Kept o s_1) :
    KeptOut o (@execLogNext path_0 s_1) := by
  unfold execLogNext
  repeat' (first
    | with_reducible first | assumption | refine KeptOut.next ?_ | refine State.done_kept ?_ | refine State.odArrive_kept ?_ | refine Kept.same ?_ rfl
    | dsimp only)

theorem execHerdConfigure_kept {o : State} {path_0 : OdPath} {n_1 : HerdId} {s_2 : State} (h2 : Kept o s_2) :
    KeptOut o (@execHerdConfigure path_0 n_1 s_2) := by
  unfold execHerdConfigure
  repeat' (first
    | with_reducible first | assumption | refine KeptOut.next ?_ | refine State.done_kept ?_ | refine State.odPut_kept ?_
    | dsimp only)

theorem execHerdActivate_kept {o : State} {path_0 : OdPath} {n_1 : HerdId} {s_2 : State} (h2 : Kept o s_2) :
    KeptOut o (@execHerdActivate path_0 n_1 s_2) := by
  unfold execHerdActivate
  repeat' (first
    | with_reducible first | assumption | refine KeptOut.next ?_ | refine State.done_kept ?_ | refine State.odPut_kept ?_
    | dsimp only)

theorem execHerdUnconfigure_kept {o : State} {path_0 : OdPath} {n_1 : HerdId} {s_2 : State} (h2 : Kept o s_2) :
    KeptOut o (@execHerdUnconfigure path_0 n_1 s_2) := by
  unfold execHerdUnconfigure
  repeat' (first
    | with_reducible first | assumption | refine KeptOut.next ?_ | refine State.done_kept ?_ | refine State.odPut_kept ?_
    | dsimp only)

theorem execHerdClose_kept {o : State} {path_0 : OdPath} {n_1 : HerdId} {s_2 : State} (h2 : Kept o s_2) :
    KeptOut o (@execHerdClose path_0 n_1 s_2) := by
  unfold execHerdClose
  repeat' (first
    | with_reducible first | assumption | refine KeptOut.next ?_ | refine State.done_kept ?_ | refine State.odPut_kept ?_
    | dsimp only)

theorem execTodSet_kept {o : State} {path_0 : OdPath} {value_1 : Word64} {s_2 : State} (h2 : Kept o s_2) :
    KeptOut o (@execTodSet path_0 value_1 s_2) := by
  unfold execTodSet
  repeat' (first
    | with_reducible first | assumption | refine KeptOut.next ?_ | refine State.done_kept ?_ | refine State.odPut_kept ?_
    | dsimp only)

theorem execAllowStep_kept {o : State} {path_0 : OdPath} {s_1 : State} (h1 : Kept o s_1) :
    KeptOut o (@execAllowStep path_0 s_1) := by
  unfold execAllowStep
  repeat' (first
    | with_reducible first | assumption | refine KeptOut.next ?_ | refine State.done_kept ?_ | refine State.odPut_kept ?_
    | dsimp only)

theorem execPtpOffset_kept {o : State} {path_0 : OdPath} {value_1 : Word64} {s_2 : State} (h2 : Kept o s_2) :
    KeptOut o (@execPtpOffset path_0 value_1 s_2) := by
  unfold execPtpOffset
  repeat' (first
    | with_reducible first | assumption | refine KeptOut.next ?_ | refine State.done_kept ?_ | refine State.odPut_kept ?_
    | dsimp only)

theorem execTriggerArm_kept {o : State} {path_0 : OdPath} {n_1 : TrigId} {s_2 : State} (h2 : Kept o s_2) :
    KeptOut o (@execTriggerArm path_0 n_1 s_2) := by
  unfold execTriggerArm
  repeat' (first
    | with_reducible first | assumption | refine KeptOut.next ?_ | refine State.done_kept ?_ | refine State.odPut_kept ?_
    | dsimp only)

theorem execTriggerDisarm_kept {o : State} {path_0 : OdPath} {n_1 : TrigId} {s_2 : State} (h2 : Kept o s_2) :
    KeptOut o (@execTriggerDisarm path_0 n_1 s_2) := by
  unfold execTriggerDisarm
  repeat' (first
    | with_reducible first | assumption | refine KeptOut.next ?_ | refine State.done_kept ?_ | refine State.odPut_kept ?_
    | dsimp only)

theorem execExtCreate_kept {o : State} {path_0 : OdPath} {e_1 : ExtentId} {s_2 : State} (h2 : Kept o s_2) :
    KeptOut o (@execExtCreate path_0 e_1 s_2) := by
  unfold execExtCreate
  repeat' (first
    | with_reducible first | assumption | refine KeptOut.next ?_ | refine State.done_kept ?_ | refine State.odPut_kept ?_
    | dsimp only)

theorem execExtGrow_kept {o : State} {path_0 : OdPath} {e_1 : ExtentId} {s_2 : State} (h2 : Kept o s_2) :
    KeptOut o (@execExtGrow path_0 e_1 s_2) := by
  unfold execExtGrow
  repeat' (first
    | with_reducible first | assumption | refine KeptOut.next ?_ | refine State.done_kept ?_ | refine State.odPut_kept ?_
    | dsimp only)

theorem execExtShrink_kept {o : State} {path_0 : OdPath} {e_1 : ExtentId} {s_2 : State} (h2 : Kept o s_2) :
    KeptOut o (@execExtShrink path_0 e_1 s_2) := by
  unfold execExtShrink
  repeat' (first
    | with_reducible first | assumption | refine KeptOut.next ?_ | refine State.done_kept ?_ | refine State.odPut_kept ?_
    | dsimp only)

theorem execExtPlace_kept {o : State} {path_0 : OdPath} {e_1 : ExtentId} {s_2 : State} (h2 : Kept o s_2) :
    KeptOut o (@execExtPlace path_0 e_1 s_2) := by
  unfold execExtPlace
  repeat' (first
    | with_reducible first | assumption | refine KeptOut.next ?_ | refine State.done_kept ?_ | refine State.odPut_kept ?_
    | dsimp only)

theorem execExtRehome_kept {o : State} {path_0 : OdPath} {e_1 : ExtentId} {s_2 : State} (h2 : Kept o s_2) :
    KeptOut o (@execExtRehome path_0 e_1 s_2) := by
  unfold execExtRehome
  repeat' (first
    | with_reducible first | assumption | refine KeptOut.next ?_ | refine State.done_kept ?_ | refine State.odPut_kept ?_
    | dsimp only)

theorem execExtRevoke_kept {o : State} {path_0 : OdPath} {e_1 : ExtentId} {s_2 : State} (h2 : Kept o s_2) :
    KeptOut o (@execExtRevoke path_0 e_1 s_2) := by
  unfold execExtRevoke
  repeat' (first
    | with_reducible first | assumption | refine KeptOut.next ?_ | refine State.done_kept ?_ | refine State.odPut_kept ?_
    | dsimp only)

theorem execExtReady_kept {o : State} {path_0 : OdPath} {e_1 : ExtentId} {s_2 : State} (h2 : Kept o s_2) :
    KeptOut o (@execExtReady path_0 e_1 s_2) := by
  unfold execExtReady
  repeat' (first
    | with_reducible first | assumption | refine KeptOut.next ?_ | refine State.done_kept ?_ | refine State.odPut_kept ?_
    | dsimp only)

theorem execExtShare_kept {o : State} {path_0 : OdPath} {e_1 : ExtentId} {s_2 : State} (h2 : Kept o s_2) :
    KeptOut o (@execExtShare path_0 e_1 s_2) := by
  unfold execExtShare
  repeat' (first
    | with_reducible first | assumption | refine KeptOut.next ?_ | refine State.done_kept ?_ | refine State.odPut_kept ?_
    | dsimp only)

theorem execExtUnshare_kept {o : State} {path_0 : OdPath} {e_1 : ExtentId} {s_2 : State} (h2 : Kept o s_2) :
    KeptOut o (@execExtUnshare path_0 e_1 s_2) := by
  unfold execExtUnshare
  repeat' (first
    | with_reducible first | assumption | refine KeptOut.next ?_ | refine State.done_kept ?_ | refine State.odPut_kept ?_
    | dsimp only)

theorem execThaw_kept {o : State} {path_0 : OdPath} {e_1 : ExtentId} {value_2 : Word} {s_3 : State} (h3 : Kept o s_3) :
    KeptOut o (@execThaw path_0 e_1 value_2 s_3) := by
  unfold execThaw
  repeat' (first
    | with_reducible first | assumption | refine KeptOut.next ?_ | refine State.done_kept ?_ | refine State.odPut_kept ?_
    | dsimp only)

theorem execReaderRegister_kept {o : State} {path_0 : OdPath} {r_1 : ReaderId} {s_2 : State} (h2 : Kept o s_2) :
    KeptOut o (@execReaderRegister path_0 r_1 s_2) := by
  unfold execReaderRegister
  repeat' (first
    | with_reducible first | assumption | refine KeptOut.next ?_ | refine State.done_kept ?_ | refine State.odPut_kept ?_
    | dsimp only)

theorem execRingStart_kept {o : State} {path_0 : OdPath} {r_1 : QueueId} {s_2 : State} (h2 : Kept o s_2) :
    KeptOut o (@execRingStart path_0 r_1 s_2) := by
  unfold execRingStart
  repeat' (first
    | with_reducible first | assumption | refine KeptOut.next ?_ | refine State.done_kept ?_ | refine State.odPut_kept ?_
    | dsimp only)

theorem execRingStop_kept {o : State} {path_0 : OdPath} {r_1 : QueueId} {s_2 : State} (h2 : Kept o s_2) :
    KeptOut o (@execRingStop path_0 r_1 s_2) := by
  unfold execRingStop
  repeat' (first
    | with_reducible first | assumption | refine KeptOut.next ?_ | refine State.done_kept ?_ | refine State.odPut_kept ?_
    | dsimp only)

theorem execRingResume_kept {o : State} {path_0 : OdPath} {r_1 : QueueId} {s_2 : State} (h2 : Kept o s_2) :
    KeptOut o (@execRingResume path_0 r_1 s_2) := by
  unfold execRingResume
  repeat' (first
    | with_reducible first | assumption | refine KeptOut.next ?_ | refine State.done_kept ?_ | refine State.odPut_kept ?_
    | dsimp only)

theorem execRingReset_kept {o : State} {path_0 : OdPath} {r_1 : QueueId} {s_2 : State} (h2 : Kept o s_2) :
    KeptOut o (@execRingReset path_0 r_1 s_2) := by
  unfold execRingReset
  repeat' (first
    | with_reducible first | assumption | refine KeptOut.next ?_ | refine State.done_kept ?_ | refine State.odPut_kept ?_
    | dsimp only)

theorem execContextStart_kept {o : State} {path_0 : OdPath} {c_1 : CtxId} {s_2 : State} (h2 : Kept o s_2) :
    KeptOut o (@execContextStart path_0 c_1 s_2) := by
  unfold execContextStart
  repeat' (first
    | with_reducible first | assumption | refine KeptOut.next ?_ | refine State.done_kept ?_ | refine State.odPut_kept ?_
    | dsimp only)

theorem execContextStop_kept {o : State} {path_0 : OdPath} {c_1 : CtxId} {s_2 : State} (h2 : Kept o s_2) :
    KeptOut o (@execContextStop path_0 c_1 s_2) := by
  unfold execContextStop
  repeat' (first
    | with_reducible first | assumption | refine KeptOut.next ?_ | refine State.done_kept ?_ | refine State.odPut_kept ?_
    | dsimp only)

theorem execContextResume_kept {o : State} {path_0 : OdPath} {c_1 : CtxId} {s_2 : State} (h2 : Kept o s_2) :
    KeptOut o (@execContextResume path_0 c_1 s_2) := by
  unfold execContextResume
  repeat' (first
    | with_reducible first | assumption | refine KeptOut.next ?_ | refine State.done_kept ?_ | refine State.odPut_kept ?_
    | dsimp only)

theorem execContextReset_kept {o : State} {path_0 : OdPath} {c_1 : CtxId} {s_2 : State} (h2 : Kept o s_2) :
    KeptOut o (@execContextReset path_0 c_1 s_2) := by
  unfold execContextReset
  repeat' (first
    | with_reducible first | assumption | refine KeptOut.next ?_ | refine State.done_kept ?_ | refine State.odPut_kept ?_
    | dsimp only)

theorem execMemberActivate_kept {o : State} {path_0 : OdPath} {i_1 : MemberId} {s_2 : State} (h2 : Kept o s_2) :
    KeptOut o (@execMemberActivate path_0 i_1 s_2) := by
  unfold execMemberActivate
  repeat' (first
    | with_reducible first | assumption | refine KeptOut.next ?_ | refine State.done_kept ?_ | refine State.odPut_kept ?_
    | dsimp only)

theorem execRuleSetActivate_kept {o : State} {path_0 : OdPath} {r_1 : SetId} {s_2 : State} (h2 : Kept o s_2) :
    KeptOut o (@execRuleSetActivate path_0 r_1 s_2) := by
  unfold execRuleSetActivate
  repeat' (first
    | with_reducible first | assumption | refine KeptOut.next ?_ | refine State.done_kept ?_ | refine State.odPut_kept ?_
    | dsimp only)

theorem execRuleSetFree_kept {o : State} {path_0 : OdPath} {r_1 : SetId} {s_2 : State} (h2 : Kept o s_2) :
    KeptOut o (@execRuleSetFree path_0 r_1 s_2) := by
  unfold execRuleSetFree
  repeat' (first
    | with_reducible first | assumption | refine KeptOut.next ?_ | refine State.done_kept ?_ | refine State.odPut_kept ?_
    | dsimp only)

theorem execMcgroupActivate_kept {o : State} {path_0 : OdPath} {g_1 : McId} {s_2 : State} (h2 : Kept o s_2) :
    KeptOut o (@execMcgroupActivate path_0 g_1 s_2) := by
  unfold execMcgroupActivate
  repeat' (first
    | with_reducible first | assumption | refine KeptOut.next ?_ | refine State.done_kept ?_ | refine State.odPut_kept ?_
    | dsimp only)

theorem execGateStart_kept {o : State} {path_0 : OdPath} {p_1 : PortId} {s_2 : State} (h2 : Kept o s_2) :
    KeptOut o (@execGateStart path_0 p_1 s_2) := by
  unfold execGateStart
  repeat' (first
    | with_reducible first | assumption | refine KeptOut.next ?_ | refine State.done_kept ?_ | refine State.odPut_kept ?_
    | dsimp only)

theorem execGateStop_kept {o : State} {path_0 : OdPath} {p_1 : PortId} {s_2 : State} (h2 : Kept o s_2) :
    KeptOut o (@execGateStop path_0 p_1 s_2) := by
  unfold execGateStop
  repeat' (first
    | with_reducible first | assumption | refine KeptOut.next ?_ | refine State.done_kept ?_ | refine State.odPut_kept ?_
    | dsimp only)

theorem execHistClear_kept {o : State} {path_0 : OdPath} {a_1 : QueueId} {s_2 : State} (h2 : Kept o s_2) :
    KeptOut o (@execHistClear path_0 a_1 s_2) := by
  unfold execHistClear
  repeat' (first
    | with_reducible first | assumption | refine KeptOut.next ?_ | refine State.done_kept ?_ | refine State.odPut_kept ?_
    | dsimp only)

theorem execPortRetrain_kept {o : State} {path_0 : OdPath} {p_1 : PortId} {s_2 : State} (h2 : Kept o s_2) :
    KeptOut o (@execPortRetrain path_0 p_1 s_2) := by
  unfold execPortRetrain
  repeat' (first
    | with_reducible first | assumption | refine KeptOut.next ?_ | refine State.done_kept ?_ | refine State.odPut_kept ?_
    | dsimp only)

theorem execVolumeDelete_kept {o : State} {path_0 : OdPath} {v_1 : VolId} {value_2 : Word64} {s_3 : State} (h3 : Kept o s_3) :
    KeptOut o (@execVolumeDelete path_0 v_1 value_2 s_3) := by
  unfold execVolumeDelete
  repeat' (first
    | with_reducible first | assumption | refine KeptOut.next ?_ | refine State.done_kept ?_ | refine State.odPut_kept ?_
    | dsimp only)

theorem execCommitPlain_kept {o : State} {path_0 : OdPath} {s_1 : State} (h1 : Kept o s_1) :
    KeptOut o (@execCommitPlain path_0 s_1) := by
  unfold execCommitPlain
  repeat' (first
    | with_reducible first | assumption | refine KeptOut.next ?_ | refine State.done_kept ?_ | refine State.odPut_kept ?_
    | dsimp only)

theorem execCommitProtected_kept {o : State} {path_0 : OdPath} {s_1 : State} (h1 : Kept o s_1) :
    KeptOut o (@execCommitProtected path_0 s_1) := by
  unfold execCommitProtected
  repeat' (first
    | with_reducible first | assumption | refine KeptOut.next ?_ | refine State.done_kept ?_ | refine State.odPut_kept ?_
    | dsimp only)

theorem execAttestGenerate_kept {o : State} {path_0 : OdPath} {s_1 : State} (h1 : Kept o s_1) :
    KeptOut o (@execAttestGenerate path_0 s_1) := by
  unfold execAttestGenerate
  repeat' (first
    | with_reducible first | assumption | refine KeptOut.next ?_ | refine State.done_kept ?_ | refine State.odPut_kept ?_
    | dsimp only)

theorem execKeyLoad_kept {o : State} {path_0 : OdPath} {n_1 : HerdId} {s_2 : State} (h2 : Kept o s_2) :
    KeptOut o (@execKeyLoad path_0 n_1 s_2) := by
  unfold execKeyLoad
  repeat' (first
    | with_reducible first | assumption | refine KeptOut.next ?_ | refine State.done_kept ?_ | refine State.odPut_kept ?_
    | dsimp only)

theorem execLinkLoad_kept {o : State} {path_0 : OdPath} {p_1 : PortId} {s_2 : State} (h2 : Kept o s_2) :
    KeptOut o (@execLinkLoad path_0 p_1 s_2) := by
  unfold execLinkLoad
  repeat' (first
    | with_reducible first | assumption | refine KeptOut.next ?_ | refine State.done_kept ?_ | refine State.odPut_kept ?_
    | dsimp only)

theorem execAdvanceDeployed_kept {o : State} {path_0 : OdPath} {s_1 : State} (h1 : Kept o s_1) :
    KeptOut o (@execAdvanceDeployed path_0 s_1) := by
  unfold execAdvanceDeployed
  repeat' (first
    | with_reducible first | assumption | refine KeptOut.next ?_ | refine State.done_kept ?_ | refine State.odPut_kept ?_
    | dsimp only)

theorem execAdvanceReturned_kept {o : State} {path_0 : OdPath} {s_1 : State} (h1 : Kept o s_1) :
    KeptOut o (@execAdvanceReturned path_0 s_1) := by
  unfold execAdvanceReturned
  repeat' (first
    | with_reducible first | assumption | refine KeptOut.next ?_ | refine State.done_kept ?_ | refine State.odPut_kept ?_
    | dsimp only)

theorem execDebugLevelWrite_kept {o : State} {path_0 : OdPath} {level_1 : Byte} {s_2 : State} (h2 : Kept o s_2) :
    KeptOut o (@execDebugLevelWrite path_0 level_1 s_2) := by
  unfold execDebugLevelWrite
  repeat' (first
    | with_reducible first | assumption | refine KeptOut.next ?_ | refine State.done_kept ?_ | refine State.odPut_kept ?_
    | dsimp only)

theorem execFaultRecover_kept {o : State} {path_0 : OdPath} {s_1 : State} (h1 : Kept o s_1) :
    KeptOut o (@execFaultRecover path_0 s_1) := by
  unfold execFaultRecover
  repeat' (first
    | with_reducible first | assumption | refine KeptOut.next ?_ | refine State.done_kept ?_ | refine State.odPut_kept ?_
    | dsimp only)

theorem execTineRelease_kept {o : State} {path_0 : OdPath} {t_1 : TineId} {s_2 : State} (h2 : Kept o s_2) :
    KeptOut o (@execTineRelease path_0 t_1 s_2) := by
  unfold execTineRelease
  repeat' (first
    | with_reducible first | assumption | refine KeptOut.next ?_ | refine State.done_kept ?_ | refine State.odPut_kept ?_
    | dsimp only)

theorem execProfileActivate_kept {o : State} {path_0 : OdPath} {n_1 : ProfileId} {s_2 : State} (h2 : Kept o s_2) :
    KeptOut o (@execProfileActivate path_0 n_1 s_2) := by
  unfold execProfileActivate
  repeat' (first
    | with_reducible first | assumption | refine KeptOut.next ?_ | refine State.done_kept ?_ | refine State.odPut_kept ?_
    | dsimp only)

theorem execProfileFree_kept {o : State} {path_0 : OdPath} {n_1 : ProfileId} {s_2 : State} (h2 : Kept o s_2) :
    KeptOut o (@execProfileFree path_0 n_1 s_2) := by
  unfold execProfileFree
  repeat' (first
    | with_reducible first | assumption | refine KeptOut.next ?_ | refine State.done_kept ?_ | refine State.odPut_kept ?_
    | dsimp only)

theorem execTraceStart_kept {o : State} {path_0 : OdPath} {s_1 : State} (h1 : Kept o s_1) :
    KeptOut o (@execTraceStart path_0 s_1) := by
  unfold execTraceStart
  repeat' (first
    | with_reducible first | assumption | refine KeptOut.next ?_ | refine State.done_kept ?_ | refine State.odPut_kept ?_
    | dsimp only)

theorem execTraceStop_kept {o : State} {path_0 : OdPath} {s_1 : State} (h1 : Kept o s_1) :
    KeptOut o (@execTraceStop path_0 s_1) := by
  unfold execTraceStop
  repeat' (first
    | with_reducible first | assumption | refine KeptOut.next ?_ | refine State.done_kept ?_ | refine State.odPut_kept ?_
    | dsimp only)

theorem execTraceFilterOn_kept {o : State} {path_0 : OdPath} {i_1 : FilterId} {s_2 : State} (h2 : Kept o s_2) :
    KeptOut o (@execTraceFilterOn path_0 i_1 s_2) := by
  unfold execTraceFilterOn
  repeat' (first
    | with_reducible first | assumption | refine KeptOut.next ?_ | refine State.done_kept ?_ | refine State.odPut_kept ?_
    | dsimp only)

theorem execStotNow_kept {o : State} {path_0 : OdPath} {s_1 : State} (h1 : Kept o s_1) :
    KeptOut o (@execStotNow path_0 s_1) := by
  unfold execStotNow
  repeat' (first
    | with_reducible first | assumption | refine KeptOut.next ?_ | refine State.done_kept ?_ | refine State.odPut_kept ?_
    | dsimp only)

theorem execGraphBuild_kept {o : State} {path_0 : OdPath} {s_1 : State} (h1 : Kept o s_1) :
    KeptOut o (@execGraphBuild path_0 s_1) := by
  unfold execGraphBuild
  repeat' (first
    | with_reducible first | assumption | refine KeptOut.next ?_ | refine State.done_kept ?_ | refine State.odPut_kept ?_
    | dsimp only)

theorem execQuadrantGate_kept {o : State} {path_0 : OdPath} {a_1 : QuadId} {s_2 : State} (h2 : Kept o s_2) :
    KeptOut o (@execQuadrantGate path_0 a_1 s_2) := by
  unfold execQuadrantGate
  repeat' (first
    | with_reducible first | assumption | refine KeptOut.next ?_ | refine State.done_kept ?_ | refine State.odPut_kept ?_
    | dsimp only)

theorem execQuadrantUngate_kept {o : State} {path_0 : OdPath} {a_1 : QuadId} {s_2 : State} (h2 : Kept o s_2) :
    KeptOut o (@execQuadrantUngate path_0 a_1 s_2) := by
  unfold execQuadrantUngate
  repeat' (first
    | with_reducible first | assumption | refine KeptOut.next ?_ | refine State.done_kept ?_ | refine State.odPut_kept ?_
    | dsimp only)

theorem execRequestP0_kept {o : State} {path_0 : OdPath} {s_1 : State} (h1 : Kept o s_1) :
    KeptOut o (@execRequestP0 path_0 s_1) := by
  unfold execRequestP0
  repeat' (first
    | with_reducible first | assumption | refine KeptOut.next ?_ | refine State.done_kept ?_ | refine State.odPut_kept ?_
    | dsimp only)

theorem execRequestP2_kept {o : State} {path_0 : OdPath} {s_1 : State} (h1 : Kept o s_1) :
    KeptOut o (@execRequestP2 path_0 s_1) := by
  unfold execRequestP2
  repeat' (first
    | with_reducible first | assumption | refine KeptOut.next ?_ | refine State.done_kept ?_ | refine State.odPut_kept ?_
    | dsimp only)

theorem execRequestP3_kept {o : State} {path_0 : OdPath} {s_1 : State} (h1 : Kept o s_1) :
    KeptOut o (@execRequestP3 path_0 s_1) := by
  unfold execRequestP3
  repeat' (first
    | with_reducible first | assumption | refine KeptOut.next ?_ | refine State.done_kept ?_ | refine State.odPut_kept ?_
    | dsimp only)

theorem execRequestP4_kept {o : State} {path_0 : OdPath} {s_1 : State} (h1 : Kept o s_1) :
    KeptOut o (@execRequestP4 path_0 s_1) := by
  unfold execRequestP4
  repeat' (first
    | with_reducible first | assumption | refine KeptOut.next ?_ | refine State.done_kept ?_ | refine State.odPut_kept ?_
    | dsimp only)

theorem State.framed_kept {o : State} {s_0 : State} (h0 : Kept o s_0) :
    KeptOut o (@State.framed s_0) := by
  unfold State.framed
  repeat' (first
    | with_reducible first | assumption | refine KeptOut.next ?_ | refine State.done_kept ?_ | refine State.runMgmt_kept ?_
    | dsimp only)

theorem execStore_kept {o : State} {f_0 : ReqFrame} {s_1 : State} (h1 : Kept o s_1) :
    KeptOut o (@execStore f_0 s_1) := by
  unfold execStore
  repeat' (first
    | with_reducible first | assumption | refine KeptOut.next ?_ | refine State.framed_kept ?_ | refine State.request_kept ?_
    | dsimp only)

theorem execLoad_kept {o : State} {f_0 : ReqFrame} {s_1 : State} (h1 : Kept o s_1) :
    KeptOut o (@execLoad f_0 s_1) := by
  unfold execLoad
  repeat' (first
    | with_reducible first | assumption | refine KeptOut.next ?_ | refine State.framed_kept ?_ | refine State.request_kept ?_
    | dsimp only)

theorem execPstore_kept {o : State} {f_0 : ReqFrame} {s_1 : State} (h1 : Kept o s_1) :
    KeptOut o (@execPstore f_0 s_1) := by
  unfold execPstore
  repeat' (first
    | with_reducible first | assumption | refine KeptOut.next ?_ | refine State.framed_kept ?_ | refine State.request_kept ?_
    | dsimp only)

theorem execAtomicSwap_kept {o : State} {f_0 : ReqFrame} {s_1 : State} (h1 : Kept o s_1) :
    KeptOut o (@execAtomicSwap f_0 s_1) := by
  unfold execAtomicSwap
  repeat' (first
    | with_reducible first | assumption | refine KeptOut.next ?_ | refine State.framed_kept ?_ | refine State.request_kept ?_
    | dsimp only)

theorem execAtomicCas_kept {o : State} {f_0 : ReqFrame} {s_1 : State} (h1 : Kept o s_1) :
    KeptOut o (@execAtomicCas f_0 s_1) := by
  unfold execAtomicCas
  repeat' (first
    | with_reducible first | assumption | refine KeptOut.next ?_ | refine State.framed_kept ?_ | refine State.request_kept ?_
    | dsimp only)

theorem execAtomicAdd_kept {o : State} {f_0 : ReqFrame} {s_1 : State} (h1 : Kept o s_1) :
    KeptOut o (@execAtomicAdd f_0 s_1) := by
  unfold execAtomicAdd
  repeat' (first
    | with_reducible first | assumption | refine KeptOut.next ?_ | refine State.framed_kept ?_ | refine State.request_kept ?_
    | dsimp only)

theorem execAtomicAnd_kept {o : State} {f_0 : ReqFrame} {s_1 : State} (h1 : Kept o s_1) :
    KeptOut o (@execAtomicAnd f_0 s_1) := by
  unfold execAtomicAnd
  repeat' (first
    | with_reducible first | assumption | refine KeptOut.next ?_ | refine State.framed_kept ?_ | refine State.request_kept ?_
    | dsimp only)

theorem execAtomicOr_kept {o : State} {f_0 : ReqFrame} {s_1 : State} (h1 : Kept o s_1) :
    KeptOut o (@execAtomicOr f_0 s_1) := by
  unfold execAtomicOr
  repeat' (first
    | with_reducible first | assumption | refine KeptOut.next ?_ | refine State.framed_kept ?_ | refine State.request_kept ?_
    | dsimp only)

theorem execAtomicXor_kept {o : State} {f_0 : ReqFrame} {s_1 : State} (h1 : Kept o s_1) :
    KeptOut o (@execAtomicXor f_0 s_1) := by
  unfold execAtomicXor
  repeat' (first
    | with_reducible first | assumption | refine KeptOut.next ?_ | refine State.framed_kept ?_ | refine State.request_kept ?_
    | dsimp only)

theorem execAtomicSmax_kept {o : State} {f_0 : ReqFrame} {s_1 : State} (h1 : Kept o s_1) :
    KeptOut o (@execAtomicSmax f_0 s_1) := by
  unfold execAtomicSmax
  repeat' (first
    | with_reducible first | assumption | refine KeptOut.next ?_ | refine State.framed_kept ?_ | refine State.request_kept ?_
    | dsimp only)

theorem execAtomicSmin_kept {o : State} {f_0 : ReqFrame} {s_1 : State} (h1 : Kept o s_1) :
    KeptOut o (@execAtomicSmin f_0 s_1) := by
  unfold execAtomicSmin
  repeat' (first
    | with_reducible first | assumption | refine KeptOut.next ?_ | refine State.framed_kept ?_ | refine State.request_kept ?_
    | dsimp only)

theorem execAtomicUmax_kept {o : State} {f_0 : ReqFrame} {s_1 : State} (h1 : Kept o s_1) :
    KeptOut o (@execAtomicUmax f_0 s_1) := by
  unfold execAtomicUmax
  repeat' (first
    | with_reducible first | assumption | refine KeptOut.next ?_ | refine State.framed_kept ?_ | refine State.request_kept ?_
    | dsimp only)

theorem execAtomicUmin_kept {o : State} {f_0 : ReqFrame} {s_1 : State} (h1 : Kept o s_1) :
    KeptOut o (@execAtomicUmin f_0 s_1) := by
  unfold execAtomicUmin
  repeat' (first
    | with_reducible first | assumption | refine KeptOut.next ?_ | refine State.framed_kept ?_ | refine State.request_kept ?_
    | dsimp only)

theorem execAtomicFadd_kept {o : State} {f_0 : ReqFrame} {s_1 : State} (h1 : Kept o s_1) :
    KeptOut o (@execAtomicFadd f_0 s_1) := by
  unfold execAtomicFadd
  repeat' (first
    | with_reducible first | assumption | refine KeptOut.next ?_ | refine State.framed_kept ?_ | refine State.request_kept ?_
    | dsimp only)

theorem execPublish_kept {o : State} {f_0 : ReqFrame} {s_1 : State} (h1 : Kept o s_1) :
    KeptOut o (@execPublish f_0 s_1) := by
  unfold execPublish
  repeat' (first
    | with_reducible first | assumption | refine KeptOut.next ?_ | refine State.framed_kept ?_ | refine State.request_kept ?_
    | dsimp only)

theorem execInvalidate_kept {o : State} {f_0 : ReqFrame} {s_1 : State} (h1 : Kept o s_1) :
    KeptOut o (@execInvalidate f_0 s_1) := by
  unfold execInvalidate
  repeat' (first
    | with_reducible first | assumption | refine KeptOut.next ?_ | refine State.framed_kept ?_ | refine State.request_kept ?_
    | dsimp only)

theorem execFlush_kept {o : State} {f_0 : ReqFrame} {s_1 : State} (h1 : Kept o s_1) :
    KeptOut o (@execFlush f_0 s_1) := by
  unfold execFlush
  repeat' (first
    | with_reducible first | assumption | refine KeptOut.next ?_ | refine State.framed_kept ?_ | refine State.request_kept ?_
    | dsimp only)

theorem execFence_kept {o : State} {f_0 : ReqFrame} {s_1 : State} (h1 : Kept o s_1) :
    KeptOut o (@execFence f_0 s_1) := by
  unfold execFence
  repeat' (first
    | with_reducible first | assumption | refine KeptOut.next ?_ | refine State.framed_kept ?_ | refine State.request_kept ?_
    | dsimp only)

theorem execKick_kept {o : State} {f_0 : ReqFrame} {s_1 : State} (h1 : Kept o s_1) :
    KeptOut o (@execKick f_0 s_1) := by
  unfold execKick
  repeat' (first
    | with_reducible first | assumption | refine KeptOut.next ?_ | refine State.framed_kept ?_ | refine State.request_kept ?_
    | dsimp only)

theorem execComplete_kept {o : State} {f_0 : ReqFrame} {s_1 : State} (h1 : Kept o s_1) :
    KeptOut o (@execComplete f_0 s_1) := by
  unfold execComplete
  repeat' (first
    | with_reducible first | assumption | refine KeptOut.next ?_ | refine State.framed_kept ?_ | refine State.request_kept ?_
    | dsimp only)

theorem execMgmtRead_kept {o : State} {f_0 : ReqFrame} {s_1 : State} (h1 : Kept o s_1) :
    KeptOut o (@execMgmtRead f_0 s_1) := by
  unfold execMgmtRead
  repeat' (first
    | with_reducible first | assumption | refine KeptOut.next ?_ | refine State.framed_kept ?_ | refine State.request_kept ?_
    | dsimp only)

theorem execMgmtWrite_kept {o : State} {f_0 : ReqFrame} {s_1 : State} (h1 : Kept o s_1) :
    KeptOut o (@execMgmtWrite f_0 s_1) := by
  unfold execMgmtWrite
  repeat' (first
    | with_reducible first | assumption | refine KeptOut.next ?_ | refine State.framed_kept ?_ | refine State.request_kept ?_
    | dsimp only)

theorem State.responds_kept {o : State} {s_0 : State} {op_1 : RespOp} {src_2 : RespSource} (h0 : Kept o s_0) :
    Kept o (@State.responds s_0 op_1 src_2) := by
  unfold State.responds
  repeat' (first
    | with_reducible first | assumption | refine State.response_kept ?_ | refine ite_kept ?_ ?_
    | dsimp only)

theorem execRespData_kept {o : State} {src_0 : RespSource} {s_1 : State} (h1 : Kept o s_1) :
    KeptOut o (@execRespData src_0 s_1) := by
  unfold execRespData
  repeat' (first
    | with_reducible first | assumption | refine KeptOut.next ?_ | refine State.framed_kept ?_ | refine State.responds_kept ?_
    | dsimp only)

theorem execRespAck_kept {o : State} {src_0 : RespSource} {s_1 : State} (h1 : Kept o s_1) :
    KeptOut o (@execRespAck src_0 s_1) := by
  unfold execRespAck
  repeat' (first
    | with_reducible first | assumption | refine KeptOut.next ?_ | refine State.framed_kept ?_ | refine State.responds_kept ?_
    | dsimp only)

theorem execRespMgmt_kept {o : State} {src_0 : RespSource} {s_1 : State} (h1 : Kept o s_1) :
    KeptOut o (@execRespMgmt src_0 s_1) := by
  unfold execRespMgmt
  repeat' (first
    | with_reducible first | assumption | refine KeptOut.next ?_ | refine State.framed_kept ?_ | refine State.responds_kept ?_
    | dsimp only)

theorem execLoadTimeoutExpiry_kept {o : State} {req_0 : ℕ} {s_1 : State} (h1 : Kept o s_1) :
    KeptOut o (@execLoadTimeoutExpiry req_0 s_1) := by
  unfold execLoadTimeoutExpiry
  repeat' (first
    | with_reducible first | assumption | refine KeptOut.next ?_ | refine State.framed_kept ?_ | refine State.loadTimeout_kept ?_ | refine ite_keptOut ?_ ?_ | refine ite_kept ?_ ?_
    | dsimp only)

theorem execEndpointRequestRelease_kept {o : State} {p_0 : PortId} {s_1 : State} (h1 : Kept o s_1) :
    KeptOut o (@execEndpointRequestRelease p_0 s_1) := by
  unfold execEndpointRequestRelease
  repeat' (first
    | with_reducible first | assumption | refine KeptOut.next ?_ | refine State.framed_kept ?_ | refine State.advance_kept ?_ | refine ite_keptOut ?_ ?_ | refine ite_kept ?_ ?_
    | dsimp only)

theorem State.linkDrop_kept {o : State} {s_0 : State} {p_1 : PortId} {why_2 : DropCause} {timex_3 : Bool} (h0 : Kept o s_0) :
    Kept o (@State.linkDrop s_0 p_1 why_2 timex_3) := by
  unfold State.linkDrop
  repeat' (first
    | with_reducible first | assumption | refine State.tally_kept ?_ | refine State.bump_kept ?_ | refine State.nakGap_kept ?_
    | (extract_lets +onlyGivenNames x; first
      | (refine cutS (o := o) (x := x) ?_ (fun _ => ?_) <;> [subst x; clear_value x])
      | (refine cutP (o := o) (x := x) ?_ (fun _ => ?_) <;> [subst x; clear_value x])
      | (refine cutF (o := o) (x := x) ?_ (fun _ => ?_) <;> [subst x; clear_value x])
      | skip)
    | with_reducible refine ite_kept ?_ ?_
    | dsimp only)

theorem execLinkFrameDrop_kept {o : State} {p_0 : PortId} {why_1 : DropCause} {timex_2 : Bool} {s_3 : State} (h3 : Kept o s_3) :
    KeptOut o (@execLinkFrameDrop p_0 why_1 timex_2 s_3) := by
  unfold execLinkFrameDrop
  repeat' (first
    | with_reducible first | assumption | refine KeptOut.next ?_ | refine State.framed_kept ?_ | refine State.linkDrop_kept ?_
    | dsimp only)

theorem State.replay_kept {o : State} {s_0 : State} {p_1 : PortId} (h0 : Kept o s_0) :
    Kept o (@State.replay s_0 p_1) := by
  unfold State.replay
  repeat' (first
    | with_reducible first | assumption | refine foldl_kept ?_ (fun _ _ _ => ?_) | refine State.portDown_kept ?_ | refine State.setLink_kept ?_ | refine State.tally_kept ?_ | refine State.sendOn_kept ?_
    | (extract_lets +onlyGivenNames x; first
      | (refine cutS (o := o) (x := x) ?_ (fun _ => ?_) <;> [subst x; clear_value x])
      | (refine cutP (o := o) (x := x) ?_ (fun _ => ?_) <;> [subst x; clear_value x])
      | (refine cutF (o := o) (x := x) ?_ (fun _ => ?_) <;> [subst x; clear_value x])
      | skip)
    | with_reducible first | refine ite_kept ?_ ?_ | refine Kept.same ?_ rfl
    | dsimp only
    | (intro _))

theorem execNakReceived_kept {o : State} {p_0 : PortId} {env_1 : LinkEnv} {s_2 : State} (h2 : Kept o s_2) :
    KeptOut o (@execNakReceived p_0 env_1 s_2) := by
  unfold execNakReceived
  repeat' (first
    | with_reducible first | assumption | refine KeptOut.next ?_ | refine State.framed_kept ?_ | refine State.replay_kept ?_ | refine State.linkLearn_kept ?_ | refine ite_keptOut ?_ ?_ | refine ite_kept ?_ ?_
    | dsimp only)

theorem execReplayTimerExpiry_kept {o : State} {p_0 : PortId} {s_1 : State} (h1 : Kept o s_1) :
    KeptOut o (@execReplayTimerExpiry p_0 s_1) := by
  unfold execReplayTimerExpiry
  repeat' (first
    | with_reducible first | assumption | refine KeptOut.next ?_ | refine State.framed_kept ?_ | refine State.replay_kept ?_ | refine ite_keptOut ?_ ?_ | refine ite_kept ?_ ?_
    | dsimp only)

theorem State.iterate_kept {o : State} {s_0 : State} {r_1 : MatchRun} (h0 : Kept o s_0) :
    Kept o (@State.iterate s_0 r_1).1 := by
  unfold State.iterate
  repeat' (first
    | with_reducible first | assumption | refine foldl_kept ?_ (fun _ _ _ => ?_)
    | (extract_lets +onlyGivenNames x; first
      | (refine cutS (o := o) (x := x) ?_ (fun _ => ?_) <;> [subst x; clear_value x])
      | (refine cutP (o := o) (x := x) ?_ (fun _ => ?_) <;> [subst x; clear_value x])
      | (refine cutF (o := o) (x := x) ?_ (fun _ => ?_) <;> [subst x; clear_value x])
      | skip)
    | with_reducible first | refine ite_kept2 ?_ ?_ | refine ite_kept1 ?_ ?_ | refine ite_kept ?_ ?_
    | split
    | with_reducible refine Kept.same ?_ rfl
    | dsimp only
    | (intro _))
theorem State.iterate_eq {o : State} {s_0 : State} {r_1 : MatchRun} {t : State} {v1 : MatchRun} (e : @State.iterate s_0 r_1 = (t, v1)) (h0 : Kept o s_0) : Kept o t := by
  have h : Kept o (@State.iterate s_0 r_1).1 := State.iterate_kept h0
  rw [e] at h; exact h

theorem State.iterateRun_kept {o : State} {s_0 : State} {a_1 : ℕ} {n_2 : ℕ} (h0 : Kept o s_0) :
    Kept o (@State.iterateRun s_0 a_1 n_2) := by
  unfold State.iterateRun
  repeat' (first
    | with_reducible first | assumption | refine State.iterate_kept ?_ | refine State.iterate_eq (by assumption) ?_
    | (extract_lets +onlyGivenNames x; first
      | (refine cutS (o := o) (x := x) ?_ (fun _ => ?_) <;> [subst x; clear_value x])
      | (refine cutP (o := o) (x := x) ?_ (fun _ => ?_) <;> [subst x; clear_value x])
      | (refine cutF (o := o) (x := x) ?_ (fun _ => ?_) <;> [subst x; clear_value x])
      | skip)
    | with_reducible refine ite_kept ?_ ?_
    | split
    | with_reducible refine Kept.same ?_ rfl
    | dsimp only
    | (intro _))

theorem State.arrive_kept {o : State} {s_0 : State} {f_1 : SwFrame} {o_2 : ℕ} (h0 : Kept o s_0) :
    Kept o (@State.arrive s_0 f_1 o_2) := by
  unfold State.arrive
  repeat' (first
    | with_reducible first | assumption | refine foldl_kept ?_ (fun _ _ _ => ?_) | refine State.enterTx_kept ?_ | refine State.charge_kept ?_ | refine State.tally_kept ?_
    | (extract_lets +onlyGivenNames x; first
      | (refine cutS (o := o) (x := x) ?_ (fun _ => ?_) <;> [subst x; clear_value x])
      | (refine cutP (o := o) (x := x) ?_ (fun _ => ?_) <;> [subst x; clear_value x])
      | (refine cutF (o := o) (x := x) ?_ (fun _ => ?_) <;> [subst x; clear_value x])
      | skip)
    | with_reducible first | refine ite_kept ?_ ?_ | refine Kept.same ?_ rfl
    | dsimp only
    | (intro _))

theorem State.crossCell_kept {o : State} {s_0 : State} {a_1 : ℕ} {x_2 : ℕ × ℕ × ℕ} (h0 : Kept o s_0) :
    Kept o (@State.crossCell s_0 a_1 x_2) := by
  unfold State.crossCell
  repeat' (first
    | with_reducible first | assumption | refine State.tally_kept ?_
    | (extract_lets +onlyGivenNames x; first
      | (refine cutS (o := o) (x := x) ?_ (fun _ => ?_) <;> [subst x; clear_value x])
      | (refine cutP (o := o) (x := x) ?_ (fun _ => ?_) <;> [subst x; clear_value x])
      | (refine cutF (o := o) (x := x) ?_ (fun _ => ?_) <;> [subst x; clear_value x])
      | skip)
    | with_reducible refine ite_kept ?_ ?_
    | split
    | with_reducible refine Kept.same ?_ rfl
    | dsimp only
    | (intro _))

theorem State.drainQueue_kept {o : State} {s_0 : State} {a_1 : ℕ} {i_2 : ℕ} {o_3 : ℕ} {c_4 : ℕ} {a__internal_hyg0_5 : ℕ} (h0 : Kept o s_0) :
    Kept o (@State.drainQueue s_0 a_1 i_2 o_3 c_4 a__internal_hyg0_5) := by
  induction a__internal_hyg0_5 generalizing s_0 a_1 i_2 o_3 c_4 with
  | zero =>
    unfold State.drainQueue
    repeat' (first
      | with_reducible first | assumption | refine State.arrive_kept ?_ | refine State.payFrame_kept ?_ | refine State.charge_kept ?_ | refine ih ?_
      | (extract_lets +onlyGivenNames x; first
        | (refine cutS (o := o) (x := x) ?_ (fun _ => ?_) <;> [subst x; clear_value x])
        | (refine cutP (o := o) (x := x) ?_ (fun _ => ?_) <;> [subst x; clear_value x])
        | (refine cutF (o := o) (x := x) ?_ (fun _ => ?_) <;> [subst x; clear_value x])
        | skip)
      | with_reducible refine ite_kept ?_ ?_
      | split
      | with_reducible refine Kept.same ?_ rfl
      | dsimp only
      | (intro _))
  | succ n ih =>
    unfold State.drainQueue
    repeat' (first
      | with_reducible first | assumption | refine State.arrive_kept ?_ | refine State.payFrame_kept ?_ | refine State.charge_kept ?_ | refine ih ?_
      | (extract_lets +onlyGivenNames x; first
        | (refine cutS (o := o) (x := x) ?_ (fun _ => ?_) <;> [subst x; clear_value x])
        | (refine cutP (o := o) (x := x) ?_ (fun _ => ?_) <;> [subst x; clear_value x])
        | (refine cutF (o := o) (x := x) ?_ (fun _ => ?_) <;> [subst x; clear_value x])
        | skip)
      | with_reducible refine ite_kept ?_ ?_
      | split
      | with_reducible refine Kept.same ?_ rfl
      | dsimp only
      | (intro _))

theorem State.drainQueues_kept {o : State} {s_0 : State} {a_1 : ℕ} (h0 : Kept o s_0) :
    Kept o (@State.drainQueues s_0 a_1) := by
  unfold State.drainQueues
  repeat' (first
    | with_reducible first | assumption | refine foldl_kept ?_ (fun _ _ _ => ?_) | refine State.drainQueue_kept ?_
    | (extract_lets +onlyGivenNames x; first
      | (refine cutS (o := o) (x := x) ?_ (fun _ => ?_) <;> [subst x; clear_value x])
      | (refine cutP (o := o) (x := x) ?_ (fun _ => ?_) <;> [subst x; clear_value x])
      | (refine cutF (o := o) (x := x) ?_ (fun _ => ?_) <;> [subst x; clear_value x])
      | skip)
    | dsimp only
    | (intro _))

theorem State.matchSlot_kept {o : State} {s_0 : State} {a_1 : ℕ} (h0 : Kept o s_0) :
    Kept o (@State.matchSlot s_0 a_1) := by
  unfold State.matchSlot
  repeat' (first
    | with_reducible first | assumption | refine foldl_kept ?_ (fun _ _ _ => ?_) | refine State.count_kept ?_ | refine State.crossCell_kept ?_ | refine State.iterateRun_kept ?_ | refine State.drainQueues_kept ?_
    | (extract_lets +onlyGivenNames x; first
      | (refine cutS (o := o) (x := x) ?_ (fun _ => ?_) <;> [subst x; clear_value x])
      | (refine cutP (o := o) (x := x) ?_ (fun _ => ?_) <;> [subst x; clear_value x])
      | (refine cutF (o := o) (x := x) ?_ (fun _ => ?_) <;> [subst x; clear_value x])
      | skip)
    | with_reducible first | refine ite_kept ?_ ?_ | refine Kept.same ?_ rfl
    | dsimp only
    | (intro _))

theorem execCellCrossing_kept {o : State} {a_0 : QuadId} {s_1 : State} (h1 : Kept o s_1) :
    KeptOut o (@execCellCrossing a_0 s_1) := by
  unfold execCellCrossing
  repeat' (first
    | with_reducible first | assumption | refine KeptOut.next ?_ | refine State.done_kept ?_ | refine State.matchSlot_kept ?_ | refine ite_keptOut ?_ ?_ | refine ite_kept ?_ ?_
    | dsimp only)

theorem execFrameReadback_kept {o : State} {frame_0 : ℕ} {s_1 : State} (h1 : Kept o s_1) :
    KeptOut o (@execFrameReadback frame_0 s_1) := by
  unfold execFrameReadback
  repeat' (first
    | with_reducible first | assumption | refine KeptOut.next ?_ | refine State.done_kept ?_ | refine State.readBack_kept ?_
    | dsimp only)

theorem execCreditRelease_kept {o : State} {p_0 : PortId} {cls_1 : Fin 8} {s_2 : State} (h2 : Kept o s_2) :
    KeptOut o (@execCreditRelease p_0 cls_1 s_2) := by
  unfold execCreditRelease
  repeat' (first
    | with_reducible first | assumption | refine KeptOut.next ?_ | refine State.done_kept ?_ | refine State.creditRelease_kept ?_
    | dsimp only)

theorem execFrameTransmit_kept {o : State} {p_0 : PortId} {s_1 : State} (h1 : Kept o s_1) :
    KeptOut o (@execFrameTransmit p_0 s_1) := by
  unfold execFrameTransmit
  repeat' (first
    | with_reducible first | assumption | refine KeptOut.next ?_ | refine State.done_kept ?_ | refine State.fencesGo_kept ?_ | refine State.transmit_kept ?_
    | dsimp only)

theorem execGateEntryBoundary_kept {o : State} {p_0 : PortId} {s_1 : State} (h1 : Kept o s_1) :
    KeptOut o (@execGateEntryBoundary p_0 s_1) := by
  unfold execGateEntryBoundary
  repeat' (first
    | with_reducible first | assumption | refine KeptOut.next ?_ | refine State.done_kept ?_ | refine State.gateBoundary_kept ?_
    | dsimp only)

theorem execQueueSample_kept {o : State} {a_0 : QueueId} {s_1 : State} (h1 : Kept o s_1) :
    KeptOut o (@execQueueSample a_0 s_1) := by
  unfold execQueueSample
  repeat' (first
    | with_reducible first | assumption | refine KeptOut.next ?_ | refine State.done_kept ?_ | refine State.sampleQueue_kept ?_
    | dsimp only)

end Sys2Proof.Machine
end

