-- ==== Sys2Proof/Laws/KeptStep.lean ====
section
/-! SUPPORT. What every command keeps, and a cycle of the time clock: one lemma each. -/

namespace Sys2Proof.Machine

set_option linter.all false
set_option maxRecDepth 4000

theorem exec_kept {o : State} {i_0 : Instr} {s_1 : State} (h1 : Kept o s_1) :
    KeptOut o (@exec i_0 s_1) := by
  unfold exec
  repeat' (first
    | with_reducible first | assumption | refine KeptOut.next ?_ | refine execLoad_kept ?_ | refine execStore_kept ?_ | refine execPstore_kept ?_ | refine execAtomicSwap_kept ?_ | refine execAtomicCas_kept ?_ | refine execAtomicAdd_kept ?_ | refine execAtomicAnd_kept ?_ | refine execAtomicOr_kept ?_ | refine execAtomicXor_kept ?_ | refine execAtomicSmax_kept ?_ | refine execAtomicSmin_kept ?_ | refine execAtomicUmax_kept ?_ | refine execAtomicUmin_kept ?_ | refine execAtomicFadd_kept ?_ | refine execPublish_kept ?_ | refine execInvalidate_kept ?_ | refine execFlush_kept ?_ | refine execFence_kept ?_ | refine execKick_kept ?_ | refine execComplete_kept ?_ | refine execMgmtRead_kept ?_ | refine execMgmtWrite_kept ?_ | refine execTimexSync_kept ?_ | refine execTimexReply_kept ?_ | refine execTimexFollow_kept ?_ | refine execTimeExchangePeriod_kept ?_ | refine execRespData_kept ?_ | refine execRespAck_kept ?_ | refine execRespMgmt_kept ?_ | refine execLinkFrameDrop_kept ?_ | refine execNakReceived_kept ?_ | refine execReplayTimerExpiry_kept ?_ | refine execLoadTimeoutExpiry_kept ?_ | refine execEndpointRequestRelease_kept ?_ | refine execHerdConfigure_kept ?_ | refine execHerdActivate_kept ?_ | refine execHerdUnconfigure_kept ?_ | refine execHerdClose_kept ?_ | refine execHerdCloseDone_kept ?_ | refine execOdWrite_kept ?_ | refine execConfigAreaProgramDone_kept ?_ | refine execSourceWrite_kept ?_ | refine execTodSet_kept ?_ | refine execAllowStep_kept ?_ | refine execPtpOffset_kept ?_ | refine execFtPpsEdge_kept ?_ | refine execTimeSourceTimeout_kept ?_ | refine execHoldoverLimitExpiry_kept ?_ | refine execSidebandSync_kept ?_ | refine execTriggerArm_kept ?_ | refine execTriggerDisarm_kept ?_ | refine execTriggerFireNone_kept ?_ | refine execTriggerGateChange_kept ?_ | refine execTriggerRingKick_kept ?_ | refine execTriggerCounterLatch_kept ?_ | refine execTriggerOptimizerStep_kept ?_ | refine execJournalIntervalExpiry_kept ?_ | refine execExtCreate_kept ?_ | refine execExtGrow_kept ?_ | refine execExtShrink_kept ?_ | refine execExtPlace_kept ?_ | refine execExtRehome_kept ?_ | refine execExtRevoke_kept ?_ | refine execExtReady_kept ?_ | refine execExtShare_kept ?_ | refine execExtUnshare_kept ?_ | refine execCompositionSwitch_kept ?_ | refine execCompositionDeadlineExpiry_kept ?_ | refine execRevokeDrainEnd_kept ?_ | refine execRevokeTimeoutExpiry_kept ?_ | refine execRevokeFree_kept ?_ | refine execGranuleFillDone_kept ?_ | refine execGranuleEviction_kept ?_ | refine execBackgroundZeroing_kept ?_ | refine execChunkCleanDone_kept ?_ | refine execBlockExpansionDone_kept ?_ | refine execThaw_kept ?_ | refine execReaderRegister_kept ?_ | refine execInvalTimeoutExpiry_kept ?_ | refine execGets_kept ?_ | refine execGetm_kept ?_ | refine execPuts_kept ?_ | refine execPutm_kept ?_ | refine execFwds_kept ?_ | refine execFwdm_kept ?_ | refine execFwdr_kept ?_ | refine execCohInv_kept ?_ | refine execInvack_kept ?_ | refine execCohData_kept ?_ | refine execCompack_kept ?_ | refine execProbeTimeoutExpiry_kept ?_ | refine execRutBufferLoaded_kept ?_ | refine execRutExecute_kept ?_ | refine execRutWindowEnd_kept ?_ | refine execTNop_kept ?_ | refine execTAdd_kept ?_ | refine execTSub_kept ?_ | refine execTMul_kept ?_ | refine execTAnd_kept ?_ | refine execTOr_kept ?_ | refine execTXor_kept ?_ | refine execTShl_kept ?_ | refine execTShr_kept ?_ | refine execTSra_kept ?_ | refine execTSlt_kept ?_ | refine execTSltu_kept ?_ | refine execTAddi_kept ?_ | refine execTLih_kept ?_ | refine execTBeq_kept ?_ | refine execTBne_kept ?_ | refine execTBlt_kept ?_ | refine execTBge_kept ?_ | refine execTJal_kept ?_ | refine execTJr_kept ?_ | refine execTLds_kept ?_ | refine execTSts_kept ?_ | refine execTWait_kept ?_ | refine execTBar_kept ?_ | refine execTExit_kept ?_ | refine execTSysFabricTime_kept ?_ | refine execTSysQuality_kept ?_ | refine execTSysTineNumber_kept ?_ | refine execTSysErr_kept ?_ | refine execTSysCycleCount_kept ?_ | refine execTRld_kept ?_ | refine execTRst_kept ?_ | refine execTRpst_kept ?_ | refine execTRatom_kept ?_ | refine execTRpub_kept ?_ | refine execTRflush_kept ?_ | refine execTRfence_kept ?_ | refine execTRkick_kept ?_ | refine execTRcompl_kept ?_ | refine execTRldc_kept ?_ | refine execTVadd_kept ?_ | refine execTVmul_kept ?_ | refine execTVfma_kept ?_ | refine execTVmax_kept ?_ | refine execTVmin_kept ?_ | refine execTVexp2_kept ?_ | refine execTVrcp_kept ?_ | refine execTVcvt_kept ?_ | refine execTVsum_kept ?_ | refine execTMma_kept ?_ | refine execTMmaz_kept ?_ | refine execVectorUnitDone_kept ?_ | refine execMatrixUnitDone_kept ?_ | refine execRingStart_kept ?_ | refine execRingStop_kept ?_ | refine execRingResume_kept ?_ | refine execRingReset_kept ?_ | refine execCommandLaunch_kept ?_ | refine execNopCommand_kept ?_ | refine execKernelCommand_kept ?_ | refine execCommandCompletion_kept ?_ | refine execContextStart_kept ?_ | refine execContextStop_kept ?_ | refine execContextResume_kept ?_ | refine execContextReset_kept ?_ | refine execMemberActivate_kept ?_ | refine execCollContrib_kept ?_ | refine execCollPartial_kept ?_ | refine execCollResult_kept ?_ | refine execCollAbort_kept ?_ | refine execStepTimeoutExpiry_kept ?_ | refine execNodeStepTimeout_kept ?_ | refine execEntropyHealthFail_kept ?_ | refine execCollContribute_kept ?_ | refine execCollBroadcast_kept ?_ | refine execTableGather_kept ?_ | refine execTableScatterAdd_kept ?_ | refine execTableFilter_kept ?_ | refine execAttnDecode_kept ?_ | refine execEpochReread_kept ?_ | refine execEditTimeoutExpiry_kept ?_ | refine execPageTaskDone_kept ?_ | refine execAttnAppend_kept ?_ | refine execAppendPublication_kept ?_ | refine execOwnClaim_kept ?_ | refine execOwnPrepare_kept ?_ | refine execOwnCommit_kept ?_ | refine execOwnAbort_kept ?_ | refine execOwnRelease_kept ?_ | refine execOwnForce_kept ?_ | refine execOwnQuery_kept ?_ | refine execOwnDrop_kept ?_ | refine execHandoffTimeoutExpiry_kept ?_ | refine execRuleSetActivate_kept ?_ | refine execRuleSetFree_kept ?_ | refine execEntryRecordWrite_kept ?_ | refine execMatchSearch_kept ?_ | refine execMatchNext_kept ?_ | refine execMatchUpdate_kept ?_ | refine execCellCrossing_kept ?_ | refine execFrameReadback_kept ?_ | refine execCreditRelease_kept ?_ | refine execMcgroupActivate_kept ?_ | refine execFrameTransmit_kept ?_ | refine execGateStart_kept ?_ | refine execGateStop_kept ?_ | refine execGateEntryBoundary_kept ?_ | refine execQueueSample_kept ?_ | refine execHistClear_kept ?_ | refine execPortRetrain_kept ?_ | refine execLaneSignalLoss_kept ?_ | refine execLaneSerCheck_kept ?_ | refine execTrainingStageDone_kept ?_ | refine execTrainingStageTimeout_kept ?_ | refine execTrainingRetry_kept ?_ | refine execPenaltyReuse_kept ?_ | refine execLinkStateRecord_kept ?_ | refine execSwitchTimeReached_kept ?_ | refine execCxlLinkFail_kept ?_ | refine execCxlDcAdd_kept ?_ | refine execCxlDcReleaseRequest_kept ?_ | refine execShelfAttach_kept ?_ | refine execShelfCompletion_kept ?_ | refine execShelfOpTimeoutExpiry_kept ?_ | refine execMapCheckpoint_kept ?_ | refine execGarbageCollection_kept ?_ | refine execWearLevelling_kept ?_ | refine execBlockRefresh_kept ?_ | refine execVolumeDelete_kept ?_ | refine execMailboxDoorbell_kept ?_ | refine execRespReadyClear_kept ?_ | refine execSetEndpointId_kept ?_ | refine execGetEndpointId_kept ?_ | refine execGetMctpVersionSupport_kept ?_ | refine execGetMessageTypeSupport_kept ?_ | refine execMctpVendorMessage_kept ?_ | refine execFwInstall_kept ?_ | refine execInstallDone_kept ?_ | refine execCommitPlain_kept ?_ | refine execCommitProtected_kept ?_ | refine execFuseBlowDone_kept ?_ | refine execVelvetTimeoutExpiry_kept ?_ | refine execAttestGenerate_kept ?_ | refine execReportReady_kept ?_ | refine execKeyLoad_kept ?_ | refine execLinkLoad_kept ?_ | refine execAdvanceProvisioned_kept ?_ | refine execAdvanceDeployed_kept ?_ | refine execAdvanceReturned_kept ?_ | refine execDebugLevelWrite_kept ?_ | refine execErrorDetected_kept ?_ | refine execHandlerEnd_kept ?_ | refine execHandlerLimitExpiry_kept ?_ | refine execFaultRecover_kept ?_ | refine execBasicModeExit_kept ?_ | refine execTineWatchdogExpiry_kept ?_ | refine execTgCanaryTimer_kept ?_ | refine execTineRelease_kept ?_ | refine execDualRepeatDone_kept ?_ | refine execDualRepeatTimeout_kept ?_ | refine execMgmtCoreWatchdogExpiry_kept ?_ | refine execD2dLinkFailure_kept ?_ | refine execLogicCheck_kept ?_ | refine execHbmStackLost_kept ?_ | refine execKeyStoreCheckFail_kept ?_ | refine execReduceSelfCheckFail_kept ?_ | refine execEventRecordIssue_kept ?_ | refine execMergeWindowEnd_kept ?_ | refine execLogNext_kept ?_ | refine execProfileActivate_kept ?_ | refine execProfileFree_kept ?_ | refine execTraceStart_kept ?_ | refine execTraceStop_kept ?_ | refine execTraceFilterOn_kept ?_ | refine execStotNow_kept ?_ | refine execStotNEdge_kept ?_ | refine execDumpDone_kept ?_ | refine execHangWatchdogCheck_kept ?_ | refine execGraphBuild_kept ?_ | refine execGraphPeriodExpiry_kept ?_ | refine execGraphBuildDone_kept ?_ | refine execPowerGovernorSample_kept ?_ | refine execReferenceCheck_kept ?_ | refine execPointStepDone_kept ?_ | refine execThermalSample_kept ?_ | refine execDroopDetected_kept ?_ | refine execQuadrantGate_kept ?_ | refine execQuadrantUngate_kept ?_ | refine execRequestP0_kept ?_ | refine execRequestP2_kept ?_ | refine execRequestP3_kept ?_ | refine execRequestP4_kept ?_ | refine execPowerTransitionDone_kept ?_ | refine execPfwNAssert_kept ?_ | refine execPfwNRelease_kept ?_ | refine execFlushDone_kept ?_ | refine execResetNAssert_kept ?_ | refine execResetNRelease_kept ?_ | refine execBootStageAdvance_kept ?_ | refine execJiythRetrain_kept ?_ | refine execVddAonUndervoltage_kept ?_ | refine execRailUndervoltage_kept ?_ | refine execInputStuck_kept ?_ | refine execRateHoldRelease_kept ?_ | refine execJiythLinkDown_kept ?_ | refine execI3cDynamicAddressAssign_kept ?_ | refine execJtagAccess_kept ?_ | refine execGranuleMove_kept ?_
    | (extract_lets +onlyGivenNames x; first
      | (refine cutS (o := o) (x := x) ?_ (fun _ => ?_) <;> [subst x; clear_value x])
      | (refine cutP (o := o) (x := x) ?_ (fun _ => ?_) <;> [subst x; clear_value x])
      | (refine cutF (o := o) (x := x) ?_ (fun _ => ?_) <;> [subst x; clear_value x])
      | skip)
    | with_reducible first | refine ite_keptOut ?_ ?_ | refine ite_kept ?_ ?_
    | split
    | with_reducible refine Kept.same ?_ rfl
    | dsimp only
    | (intro _))

theorem State.countTime_kept {o : State} {s_0 : State} (h0 : Kept o s_0) :
    Kept o (@State.countTime s_0) := by
  unfold State.countTime
  repeat' (first
    | with_reducible assumption
    | (extract_lets +onlyGivenNames x; first
      | (refine cutS (o := o) (x := x) ?_ (fun _ => ?_) <;> [subst x; clear_value x])
      | (refine cutP (o := o) (x := x) ?_ (fun _ => ?_) <;> [subst x; clear_value x])
      | (refine cutF (o := o) (x := x) ?_ (fun _ => ?_) <;> [subst x; clear_value x])
      | skip)
    | with_reducible first | refine ite_kept ?_ ?_ | refine Kept.same ?_ rfl
    | dsimp only
    | (intro _))

theorem State.countTines_kept {o : State} {s_0 : State} (h0 : Kept o s_0) :
    Kept o (@State.countTines s_0) := by
  unfold State.countTines
  repeat' (first
    | with_reducible assumption
    | (extract_lets +onlyGivenNames x; first
      | (refine cutS (o := o) (x := x) ?_ (fun _ => ?_) <;> [subst x; clear_value x])
      | (refine cutP (o := o) (x := x) ?_ (fun _ => ?_) <;> [subst x; clear_value x])
      | (refine cutF (o := o) (x := x) ?_ (fun _ => ?_) <;> [subst x; clear_value x])
      | skip)
    | with_reducible first | refine ite_kept ?_ ?_ | refine Kept.same ?_ rfl
    | dsimp only
    | (intro _))

theorem State.countSecond_kept {o : State} {s_0 : State} (h0 : Kept o s_0) :
    Kept o (@State.countSecond s_0) := by
  unfold State.countSecond
  repeat' (first
    | with_reducible first | assumption | refine foldState_kept ?_ ?_ | refine State.bump_kept ?_
    | dsimp only
    | (intro _))

theorem State.payAll_kept {o : State} {s_0 : State} (h0 : Kept o s_0) :
    Kept o (@State.payAll s_0) := by
  unfold State.payAll
  repeat' (first
    | with_reducible first | assumption | refine foldl_kept ?_ (fun _ _ _ => ?_) | refine State.releaseDone_kept ?_ | refine State.payOwed_kept ?_
    | dsimp only
    | (intro _))

theorem State.advanceUnits_kept {o : State} {s_0 : State} (h0 : Kept o s_0) :
    Kept o (@State.advanceUnits s_0) := by
  unfold State.advanceUnits
  repeat' (first
    | with_reducible first | assumption | refine foldl_kept ?_ (fun _ _ _ => ?_) | refine State.advance_kept ?_
    | (extract_lets +onlyGivenNames x; first
      | (refine cutS (o := o) (x := x) ?_ (fun _ => ?_) <;> [subst x; clear_value x])
      | (refine cutP (o := o) (x := x) ?_ (fun _ => ?_) <;> [subst x; clear_value x])
      | (refine cutF (o := o) (x := x) ?_ (fun _ => ?_) <;> [subst x; clear_value x])
      | skip)
    | split
    | with_reducible refine Kept.same ?_ rfl
    | dsimp only
    | (intro _))

theorem State.countCore_kept {o : State} {s_0 : State} (h0 : Kept o s_0) :
    Kept o (@State.countCore s_0) := by
  unfold State.countCore
  repeat' (first
    | with_reducible first | assumption | refine State.homeCycle_kept ?_
    | (extract_lets +onlyGivenNames x; first
      | (refine cutS (o := o) (x := x) ?_ (fun _ => ?_) <;> [subst x; clear_value x])
      | (refine cutP (o := o) (x := x) ?_ (fun _ => ?_) <;> [subst x; clear_value x])
      | (refine cutF (o := o) (x := x) ?_ (fun _ => ?_) <;> [subst x; clear_value x])
      | skip)
    | with_reducible refine ite_kept ?_ ?_
    | dsimp only)

theorem State.tick_kept {o : State} {s_0 : State} (h0 : Kept o s_0) :
    Kept o (@State.tick s_0) := by
  unfold State.tick
  extract_lets inc x s0 s1 s2 s3
  have h1 : Kept o s0 :=
    Kept.upd h0 rfl rfl rfl rfl rfl rfl rfl rfl rfl rfl (Nat.le_succ _) (Nat.le_refl _) (Nat.le_refl _) (Nat.le_refl _)
  split
  · exact h1
  · show Kept o (if s3.halted then s3 else s3.countCore.payAll.advanceUnits).runMgmt
    have h2 : Kept o s1 := State.countTines_kept (State.countTime_kept h1)
    have h3 : Kept o s3 := State.endCanaries_kept (ite_kept (State.countSecond_kept h2) h2)
    exact State.runMgmt_kept (ite_kept h3 (State.advanceUnits_kept (State.payAll_kept (State.countCore_kept h3))))

/-- What holds of a state that meets the invariant, to begin with. -/
theorem Kept.self {s : State} (h : s.Inv) : Kept s s := ⟨rfl, h, Nat.le_refl _, Nat.le_refl _, Nat.le_refl _, Nat.le_refl _⟩

end Sys2Proof.Machine
end

