-- ==== Sys2Proof/Laws/PerInstr.lean ====
section
/-! SUPPORT. What holds of every command as syntax, one lemma for each command. -/

namespace Sys2Proof.Laws.Carried

set_option Elab.async false

/-- The bytes that a command carries in from outside. -/
def bytes : Instr → List Byte
  | .load f => f.payload
  | .store f => f.payload
  | .pstore f => f.payload
  | .atomicSwap f => f.payload
  | .atomicCas f => f.payload
  | .atomicAdd f => f.payload
  | .atomicAnd f => f.payload
  | .atomicOr f => f.payload
  | .atomicXor f => f.payload
  | .atomicSmax f => f.payload
  | .atomicSmin f => f.payload
  | .atomicUmax f => f.payload
  | .atomicUmin f => f.payload
  | .atomicFadd f => f.payload
  | .publish f => f.payload
  | .invalidate f => f.payload
  | .flush f => f.payload
  | .fence f => f.payload
  | .kick f => f.payload
  | .complete f => f.payload
  | .mgmtRead f => f.payload
  | .mgmtWrite f => f.payload
  | .collContrib f => f.payload
  | .collPartial f => f.payload
  | .collResult f => f.payload
  | .collAbort f => f.payload
  | .respData (.port _ _ _ p) => p
  | .respAck (.port _ _ _ p) => p
  | .respMgmt (.port _ _ _ p) => p
  | .odWrite _ _ v => v
  | .entryRecordWrite _ _ v => v
  | .mailboxDoorbell _ m => m
  | .mctpVendorMessage _ b => b
  | .jtagAccess (.memWrite _ _ d) => d
  | _ => []

/-- A well-formed command carries at most 4,096 bytes. -/
def Statement (i : Instr) : Prop := wellFormed i = true → (bytes i).length ≤ 4096

/-- A frame that fits carries no more than that. -/
theorem of_frame {p : List Byte} (h : frameFits p = true) : p.length ≤ 4096 := by
  simp only [frameFits, decide_eq_true_eq] at h
  omega

/-- So does a request that fits. -/
theorem of_request {f : ReqFrame} (h : requestFits f = true) : f.payload.length ≤ 4096 := by
  simp only [requestFits, Bool.and_eq_true] at h
  exact of_frame h.1

theorem load {a} : Statement (.load a) := fun h => of_request h
theorem store {a} : Statement (.store a) := fun h => of_request h
theorem pstore {a} : Statement (.pstore a) := fun h => of_request h
theorem atomicSwap {a} : Statement (.atomicSwap a) := fun h => of_request h
theorem atomicCas {a} : Statement (.atomicCas a) := fun h => of_request h
theorem atomicAdd {a} : Statement (.atomicAdd a) := fun h => of_request h
theorem atomicAnd {a} : Statement (.atomicAnd a) := fun h => of_request h
theorem atomicOr {a} : Statement (.atomicOr a) := fun h => of_request h
theorem atomicXor {a} : Statement (.atomicXor a) := fun h => of_request h
theorem atomicSmax {a} : Statement (.atomicSmax a) := fun h => of_request h
theorem atomicSmin {a} : Statement (.atomicSmin a) := fun h => of_request h
theorem atomicUmax {a} : Statement (.atomicUmax a) := fun h => of_request h
theorem atomicUmin {a} : Statement (.atomicUmin a) := fun h => of_request h
theorem atomicFadd {a} : Statement (.atomicFadd a) := fun h => of_request h
theorem publish {a} : Statement (.publish a) := fun h => of_request h
theorem invalidate {a} : Statement (.invalidate a) := fun h => of_request h
theorem flush {a} : Statement (.flush a) := fun h => of_request h
theorem fence {a} : Statement (.fence a) := fun h => of_request h
theorem kick {a} : Statement (.kick a) := fun h => of_request h
theorem complete {a} : Statement (.complete a) := fun h => of_request h
theorem mgmtRead {a} : Statement (.mgmtRead a) := fun h => of_request h
theorem mgmtWrite {a} : Statement (.mgmtWrite a) := fun h => of_request h
theorem timexSync {a} {b} : Statement (.timexSync a b) := fun _ => Nat.zero_le _
theorem timexReply {a} {b} : Statement (.timexReply a b) := fun _ => Nat.zero_le _
theorem timexFollow {a} {b} : Statement (.timexFollow a b) := fun _ => Nat.zero_le _
theorem timeExchangePeriod : Statement (.timeExchangePeriod) := fun _ => Nat.zero_le _
theorem respData {a} : Statement (.respData a) := by
  cases a with
  | home k => exact fun _ => Nat.zero_le _
  | port p e h b => exact fun h => of_frame h
theorem respAck {a} : Statement (.respAck a) := by
  cases a with
  | home k => exact fun _ => Nat.zero_le _
  | port p e h b => exact fun h => of_frame h
theorem respMgmt {a} : Statement (.respMgmt a) := by
  cases a with
  | home k => exact fun _ => Nat.zero_le _
  | port p e h b => exact fun h => of_frame h
theorem linkFrameDrop {a} {b} {c} : Statement (.linkFrameDrop a b c) := fun _ => Nat.zero_le _
theorem nakReceived {a} {b} : Statement (.nakReceived a b) := fun _ => Nat.zero_le _
theorem replayTimerExpiry {a} : Statement (.replayTimerExpiry a) := fun _ => Nat.zero_le _
theorem loadTimeoutExpiry {a} : Statement (.loadTimeoutExpiry a) := fun _ => Nat.zero_le _
theorem endpointRequestRelease {a} : Statement (.endpointRequestRelease a) := fun _ => Nat.zero_le _
theorem herdConfigure {a} {b} : Statement (.herdConfigure a b) := fun _ => Nat.zero_le _
theorem herdActivate {a} {b} : Statement (.herdActivate a b) := fun _ => Nat.zero_le _
theorem herdUnconfigure {a} {b} : Statement (.herdUnconfigure a b) := fun _ => Nat.zero_le _
theorem herdClose {a} {b} : Statement (.herdClose a b) := fun _ => Nat.zero_le _
theorem herdCloseDone {a} : Statement (.herdCloseDone a) := fun _ => Nat.zero_le _
theorem odWrite {a} {b} {c} : Statement (.odWrite a b c) := fun h => of_frame h
theorem configAreaProgramDone {a} {b} : Statement (.configAreaProgramDone a b) := fun _ => Nat.zero_le _
theorem sourceWrite {a} {b} {c} : Statement (.sourceWrite a b c) := fun _ => Nat.zero_le _
theorem todSet {a} {b} : Statement (.todSet a b) := fun _ => Nat.zero_le _
theorem allowStep {a} : Statement (.allowStep a) := fun _ => Nat.zero_le _
theorem ptpOffset {a} {b} : Statement (.ptpOffset a b) := fun _ => Nat.zero_le _
theorem ftPpsEdge {a} : Statement (.ftPpsEdge a) := fun _ => Nat.zero_le _
theorem timeSourceTimeout : Statement (.timeSourceTimeout) := fun _ => Nat.zero_le _
theorem holdoverLimitExpiry : Statement (.holdoverLimitExpiry) := fun _ => Nat.zero_le _
theorem sidebandSync : Statement (.sidebandSync) := fun _ => Nat.zero_le _
theorem triggerArm {a} {b} : Statement (.triggerArm a b) := fun _ => Nat.zero_le _
theorem triggerDisarm {a} {b} : Statement (.triggerDisarm a b) := fun _ => Nat.zero_le _
theorem triggerFireNone {a} : Statement (.triggerFireNone a) := fun _ => Nat.zero_le _
theorem triggerGateChange {a} : Statement (.triggerGateChange a) := fun _ => Nat.zero_le _
theorem triggerRingKick {a} : Statement (.triggerRingKick a) := fun _ => Nat.zero_le _
theorem triggerCounterLatch {a} : Statement (.triggerCounterLatch a) := fun _ => Nat.zero_le _
theorem triggerOptimizerStep {a} : Statement (.triggerOptimizerStep a) := fun _ => Nat.zero_le _
theorem journalIntervalExpiry : Statement (.journalIntervalExpiry) := fun _ => Nat.zero_le _
theorem extCreate {a} {b} : Statement (.extCreate a b) := fun _ => Nat.zero_le _
theorem extGrow {a} {b} : Statement (.extGrow a b) := fun _ => Nat.zero_le _
theorem extShrink {a} {b} : Statement (.extShrink a b) := fun _ => Nat.zero_le _
theorem extPlace {a} {b} : Statement (.extPlace a b) := fun _ => Nat.zero_le _
theorem extRehome {a} {b} : Statement (.extRehome a b) := fun _ => Nat.zero_le _
theorem extRevoke {a} {b} : Statement (.extRevoke a b) := fun _ => Nat.zero_le _
theorem extReady {a} {b} : Statement (.extReady a b) := fun _ => Nat.zero_le _
theorem extShare {a} {b} : Statement (.extShare a b) := fun _ => Nat.zero_le _
theorem extUnshare {a} {b} : Statement (.extUnshare a b) := fun _ => Nat.zero_le _
theorem compositionSwitch {a} : Statement (.compositionSwitch a) := fun _ => Nat.zero_le _
theorem compositionDeadlineExpiry {a} : Statement (.compositionDeadlineExpiry a) := fun _ => Nat.zero_le _
theorem revokeDrainEnd {a} : Statement (.revokeDrainEnd a) := fun _ => Nat.zero_le _
theorem revokeTimeoutExpiry {a} : Statement (.revokeTimeoutExpiry a) := fun _ => Nat.zero_le _
theorem revokeFree {a} : Statement (.revokeFree a) := fun _ => Nat.zero_le _
theorem granuleFillDone {a} {b} : Statement (.granuleFillDone a b) := fun _ => Nat.zero_le _
theorem granuleEviction {a} {b} : Statement (.granuleEviction a b) := fun _ => Nat.zero_le _
theorem backgroundZeroing {a} {b} {c} : Statement (.backgroundZeroing a b c) := fun _ => Nat.zero_le _
theorem chunkCleanDone {a} {b} {c} : Statement (.chunkCleanDone a b c) := fun _ => Nat.zero_le _
theorem blockExpansionDone {a} {b} : Statement (.blockExpansionDone a b) := fun _ => Nat.zero_le _
theorem thaw {a} {b} {c} : Statement (.thaw a b c) := fun _ => Nat.zero_le _
theorem readerRegister {a} {b} : Statement (.readerRegister a b) := fun _ => Nat.zero_le _
theorem invalTimeoutExpiry {a} {b} : Statement (.invalTimeoutExpiry a b) := fun _ => Nat.zero_le _
theorem gets {a} {b} {c} : Statement (.gets a b c) := fun _ => Nat.zero_le _
theorem getm {a} {b} {c} : Statement (.getm a b c) := fun _ => Nat.zero_le _
theorem puts {a} {b} {c} : Statement (.puts a b c) := fun _ => Nat.zero_le _
theorem putm {a} {b} {c} : Statement (.putm a b c) := fun _ => Nat.zero_le _
theorem fwds {a} {b} {c} : Statement (.fwds a b c) := fun _ => Nat.zero_le _
theorem fwdm {a} {b} {c} : Statement (.fwdm a b c) := fun _ => Nat.zero_le _
theorem fwdr {a} {b} {c} : Statement (.fwdr a b c) := fun _ => Nat.zero_le _
theorem cohInv {a} {b} {c} : Statement (.cohInv a b c) := fun _ => Nat.zero_le _
theorem invack {a} {b} {c} : Statement (.invack a b c) := fun _ => Nat.zero_le _
theorem cohData {a} {b} {c} : Statement (.cohData a b c) := fun _ => Nat.zero_le _
theorem compack {a} {b} {c} : Statement (.compack a b c) := fun _ => Nat.zero_le _
theorem probeTimeoutExpiry {a} {b} {c} : Statement (.probeTimeoutExpiry a b c) := fun _ => Nat.zero_le _
theorem rutBufferLoaded {a} {b} : Statement (.rutBufferLoaded a b) := fun _ => Nat.zero_le _
theorem rutExecute {a} {b} : Statement (.rutExecute a b) := fun _ => Nat.zero_le _
theorem rutWindowEnd {a} : Statement (.rutWindowEnd a) := fun _ => Nat.zero_le _
theorem tNop {a} {b} {c} : Statement (.tNop a b c) := fun _ => Nat.zero_le _
theorem tAdd {a} {b} {c} : Statement (.tAdd a b c) := fun _ => Nat.zero_le _
theorem tSub {a} {b} {c} : Statement (.tSub a b c) := fun _ => Nat.zero_le _
theorem tMul {a} {b} {c} : Statement (.tMul a b c) := fun _ => Nat.zero_le _
theorem tAnd {a} {b} {c} : Statement (.tAnd a b c) := fun _ => Nat.zero_le _
theorem tOr {a} {b} {c} : Statement (.tOr a b c) := fun _ => Nat.zero_le _
theorem tXor {a} {b} {c} : Statement (.tXor a b c) := fun _ => Nat.zero_le _
theorem tShl {a} {b} {c} : Statement (.tShl a b c) := fun _ => Nat.zero_le _
theorem tShr {a} {b} {c} : Statement (.tShr a b c) := fun _ => Nat.zero_le _
theorem tSra {a} {b} {c} : Statement (.tSra a b c) := fun _ => Nat.zero_le _
theorem tSlt {a} {b} {c} : Statement (.tSlt a b c) := fun _ => Nat.zero_le _
theorem tSltu {a} {b} {c} : Statement (.tSltu a b c) := fun _ => Nat.zero_le _
theorem tAddi {a} {b} {c} : Statement (.tAddi a b c) := fun _ => Nat.zero_le _
theorem tLih {a} {b} {c} : Statement (.tLih a b c) := fun _ => Nat.zero_le _
theorem tBeq {a} {b} {c} : Statement (.tBeq a b c) := fun _ => Nat.zero_le _
theorem tBne {a} {b} {c} : Statement (.tBne a b c) := fun _ => Nat.zero_le _
theorem tBlt {a} {b} {c} : Statement (.tBlt a b c) := fun _ => Nat.zero_le _
theorem tBge {a} {b} {c} : Statement (.tBge a b c) := fun _ => Nat.zero_le _
theorem tJal {a} {b} {c} : Statement (.tJal a b c) := fun _ => Nat.zero_le _
theorem tJr {a} {b} {c} : Statement (.tJr a b c) := fun _ => Nat.zero_le _
theorem tLds {a} {b} {c} : Statement (.tLds a b c) := fun _ => Nat.zero_le _
theorem tSts {a} {b} {c} : Statement (.tSts a b c) := fun _ => Nat.zero_le _
theorem tWait {a} {b} {c} : Statement (.tWait a b c) := fun _ => Nat.zero_le _
theorem tBar {a} {b} {c} : Statement (.tBar a b c) := fun _ => Nat.zero_le _
theorem tExit {a} {b} {c} : Statement (.tExit a b c) := fun _ => Nat.zero_le _
theorem tSysFabricTime {a} {b} {c} : Statement (.tSysFabricTime a b c) := fun _ => Nat.zero_le _
theorem tSysQuality {a} {b} {c} : Statement (.tSysQuality a b c) := fun _ => Nat.zero_le _
theorem tSysTineNumber {a} {b} {c} : Statement (.tSysTineNumber a b c) := fun _ => Nat.zero_le _
theorem tSysErr {a} {b} {c} : Statement (.tSysErr a b c) := fun _ => Nat.zero_le _
theorem tSysCycleCount {a} {b} {c} : Statement (.tSysCycleCount a b c) := fun _ => Nat.zero_le _
theorem tRld {a} {b} {c} : Statement (.tRld a b c) := fun _ => Nat.zero_le _
theorem tRst {a} {b} {c} : Statement (.tRst a b c) := fun _ => Nat.zero_le _
theorem tRpst {a} {b} {c} : Statement (.tRpst a b c) := fun _ => Nat.zero_le _
theorem tRatom {a} {b} {c} : Statement (.tRatom a b c) := fun _ => Nat.zero_le _
theorem tRpub {a} {b} {c} : Statement (.tRpub a b c) := fun _ => Nat.zero_le _
theorem tRflush {a} {b} {c} : Statement (.tRflush a b c) := fun _ => Nat.zero_le _
theorem tRfence {a} {b} {c} : Statement (.tRfence a b c) := fun _ => Nat.zero_le _
theorem tRkick {a} {b} {c} : Statement (.tRkick a b c) := fun _ => Nat.zero_le _
theorem tRcompl {a} {b} {c} : Statement (.tRcompl a b c) := fun _ => Nat.zero_le _
theorem tRldc {a} {b} {c} : Statement (.tRldc a b c) := fun _ => Nat.zero_le _
theorem tVadd {a} {b} {c} : Statement (.tVadd a b c) := fun _ => Nat.zero_le _
theorem tVmul {a} {b} {c} : Statement (.tVmul a b c) := fun _ => Nat.zero_le _
theorem tVfma {a} {b} {c} : Statement (.tVfma a b c) := fun _ => Nat.zero_le _
theorem tVmax {a} {b} {c} : Statement (.tVmax a b c) := fun _ => Nat.zero_le _
theorem tVmin {a} {b} {c} : Statement (.tVmin a b c) := fun _ => Nat.zero_le _
theorem tVexp2 {a} {b} {c} : Statement (.tVexp2 a b c) := fun _ => Nat.zero_le _
theorem tVrcp {a} {b} {c} : Statement (.tVrcp a b c) := fun _ => Nat.zero_le _
theorem tVcvt {a} {b} {c} : Statement (.tVcvt a b c) := fun _ => Nat.zero_le _
theorem tVsum {a} {b} {c} : Statement (.tVsum a b c) := fun _ => Nat.zero_le _
theorem tMma {a} {b} {c} : Statement (.tMma a b c) := fun _ => Nat.zero_le _
theorem tMmaz {a} {b} {c} : Statement (.tMmaz a b c) := fun _ => Nat.zero_le _
theorem vectorUnitDone {a} : Statement (.vectorUnitDone a) := fun _ => Nat.zero_le _
theorem matrixUnitDone {a} : Statement (.matrixUnitDone a) := fun _ => Nat.zero_le _
theorem ringStart {a} {b} : Statement (.ringStart a b) := fun _ => Nat.zero_le _
theorem ringStop {a} {b} : Statement (.ringStop a b) := fun _ => Nat.zero_le _
theorem ringResume {a} {b} : Statement (.ringResume a b) := fun _ => Nat.zero_le _
theorem ringReset {a} {b} : Statement (.ringReset a b) := fun _ => Nat.zero_le _
theorem commandLaunch : Statement (.commandLaunch) := fun _ => Nat.zero_le _
theorem nopCommand {a} : Statement (.nopCommand a) := fun _ => Nat.zero_le _
theorem kernelCommand {a} : Statement (.kernelCommand a) := fun _ => Nat.zero_le _
theorem commandCompletion {a} : Statement (.commandCompletion a) := fun _ => Nat.zero_le _
theorem contextStart {a} {b} : Statement (.contextStart a b) := fun _ => Nat.zero_le _
theorem contextStop {a} {b} : Statement (.contextStop a b) := fun _ => Nat.zero_le _
theorem contextResume {a} {b} : Statement (.contextResume a b) := fun _ => Nat.zero_le _
theorem contextReset {a} {b} : Statement (.contextReset a b) := fun _ => Nat.zero_le _
theorem memberActivate {a} {b} : Statement (.memberActivate a b) := fun _ => Nat.zero_le _
theorem collContrib {a} : Statement (.collContrib a) := fun h => of_frame h
theorem collPartial {a} : Statement (.collPartial a) := fun h => of_frame h
theorem collResult {a} : Statement (.collResult a) := fun h => of_frame h
theorem collAbort {a} : Statement (.collAbort a) := fun h => of_frame h
theorem stepTimeoutExpiry {a} : Statement (.stepTimeoutExpiry a) := fun _ => Nat.zero_le _
theorem nodeStepTimeout {a} : Statement (.nodeStepTimeout a) := fun _ => Nat.zero_le _
theorem entropyHealthFail {a} : Statement (.entropyHealthFail a) := fun _ => Nat.zero_le _
theorem collContribute {a} : Statement (.collContribute a) := fun _ => Nat.zero_le _
theorem collBroadcast {a} : Statement (.collBroadcast a) := fun _ => Nat.zero_le _
theorem tableGather {a} : Statement (.tableGather a) := fun _ => Nat.zero_le _
theorem tableScatterAdd {a} : Statement (.tableScatterAdd a) := fun _ => Nat.zero_le _
theorem tableFilter {a} : Statement (.tableFilter a) := fun _ => Nat.zero_le _
theorem attnDecode {a} : Statement (.attnDecode a) := fun _ => Nat.zero_le _
theorem epochReread {a} : Statement (.epochReread a) := fun _ => Nat.zero_le _
theorem editTimeoutExpiry {a} : Statement (.editTimeoutExpiry a) := fun _ => Nat.zero_le _
theorem pageTaskDone {a} {b} : Statement (.pageTaskDone a b) := fun _ => Nat.zero_le _
theorem attnAppend {a} : Statement (.attnAppend a) := fun _ => Nat.zero_le _
theorem appendPublication {a} : Statement (.appendPublication a) := fun _ => Nat.zero_le _
theorem ownClaim {a} : Statement (.ownClaim a) := fun _ => Nat.zero_le _
theorem ownPrepare {a} : Statement (.ownPrepare a) := fun _ => Nat.zero_le _
theorem ownCommit {a} : Statement (.ownCommit a) := fun _ => Nat.zero_le _
theorem ownAbort {a} : Statement (.ownAbort a) := fun _ => Nat.zero_le _
theorem ownRelease {a} : Statement (.ownRelease a) := fun _ => Nat.zero_le _
theorem ownForce {a} : Statement (.ownForce a) := fun _ => Nat.zero_le _
theorem ownQuery {a} : Statement (.ownQuery a) := fun _ => Nat.zero_le _
theorem ownDrop {a} : Statement (.ownDrop a) := fun _ => Nat.zero_le _
theorem handoffTimeoutExpiry {a} : Statement (.handoffTimeoutExpiry a) := fun _ => Nat.zero_le _
theorem ruleSetActivate {a} {b} : Statement (.ruleSetActivate a b) := fun _ => Nat.zero_le _
theorem ruleSetFree {a} {b} : Statement (.ruleSetFree a b) := fun _ => Nat.zero_le _
theorem entryRecordWrite {a} {b} {c} : Statement (.entryRecordWrite a b c) := fun h => of_frame h
theorem matchSearch {a} : Statement (.matchSearch a) := fun _ => Nat.zero_le _
theorem matchNext {a} : Statement (.matchNext a) := fun _ => Nat.zero_le _
theorem matchUpdate {a} : Statement (.matchUpdate a) := fun _ => Nat.zero_le _
theorem cellCrossing {a} : Statement (.cellCrossing a) := fun _ => Nat.zero_le _
theorem frameReadback {a} : Statement (.frameReadback a) := fun _ => Nat.zero_le _
theorem creditRelease {a} {b} : Statement (.creditRelease a b) := fun _ => Nat.zero_le _
theorem mcgroupActivate {a} {b} : Statement (.mcgroupActivate a b) := fun _ => Nat.zero_le _
theorem frameTransmit {a} : Statement (.frameTransmit a) := fun _ => Nat.zero_le _
theorem gateStart {a} {b} : Statement (.gateStart a b) := fun _ => Nat.zero_le _
theorem gateStop {a} {b} : Statement (.gateStop a b) := fun _ => Nat.zero_le _
theorem gateEntryBoundary {a} : Statement (.gateEntryBoundary a) := fun _ => Nat.zero_le _
theorem queueSample {a} : Statement (.queueSample a) := fun _ => Nat.zero_le _
theorem histClear {a} {b} : Statement (.histClear a b) := fun _ => Nat.zero_le _
theorem portRetrain {a} {b} : Statement (.portRetrain a b) := fun _ => Nat.zero_le _
theorem laneSignalLoss {a} : Statement (.laneSignalLoss a) := fun _ => Nat.zero_le _
theorem laneSerCheck {a} {b} : Statement (.laneSerCheck a b) := fun _ => Nat.zero_le _
theorem trainingStageDone {a} {b} : Statement (.trainingStageDone a b) := fun _ => Nat.zero_le _
theorem trainingStageTimeout {a} : Statement (.trainingStageTimeout a) := fun _ => Nat.zero_le _
theorem trainingRetry {a} : Statement (.trainingRetry a) := fun _ => Nat.zero_le _
theorem penaltyReuse {a} : Statement (.penaltyReuse a) := fun _ => Nat.zero_le _
theorem linkStateRecord {a} : Statement (.linkStateRecord a) := fun _ => Nat.zero_le _
theorem switchTimeReached {a} : Statement (.switchTimeReached a) := fun _ => Nat.zero_le _
theorem cxlLinkFail {a} : Statement (.cxlLinkFail a) := fun _ => Nat.zero_le _
theorem cxlDcAdd {a} {b} : Statement (.cxlDcAdd a b) := fun _ => Nat.zero_le _
theorem cxlDcReleaseRequest {a} {b} : Statement (.cxlDcReleaseRequest a b) := fun _ => Nat.zero_le _
theorem shelfAttach {a} {b} : Statement (.shelfAttach a b) := fun _ => Nat.zero_le _
theorem shelfCompletion {a} {b} : Statement (.shelfCompletion a b) := fun _ => Nat.zero_le _
theorem shelfOpTimeoutExpiry {a} {b} : Statement (.shelfOpTimeoutExpiry a b) := fun _ => Nat.zero_le _
theorem mapCheckpoint {a} : Statement (.mapCheckpoint a) := fun _ => Nat.zero_le _
theorem garbageCollection {a} : Statement (.garbageCollection a) := fun _ => Nat.zero_le _
theorem wearLevelling {a} : Statement (.wearLevelling a) := fun _ => Nat.zero_le _
theorem blockRefresh {a} {b} : Statement (.blockRefresh a b) := fun _ => Nat.zero_le _
theorem volumeDelete {a} {b} {c} : Statement (.volumeDelete a b c) := fun _ => Nat.zero_le _
theorem mailboxDoorbell {a} {b} : Statement (.mailboxDoorbell a b) := by
  intro h
  simp only [wellFormed, messageFits, decide_eq_true_eq] at h
  simp only [bytes]; omega
theorem respReadyClear {a} : Statement (.respReadyClear a) := fun _ => Nat.zero_le _
theorem setEndpointId {a} : Statement (.setEndpointId a) := fun _ => Nat.zero_le _
theorem getEndpointId : Statement (.getEndpointId) := fun _ => Nat.zero_le _
theorem getMctpVersionSupport : Statement (.getMctpVersionSupport) := fun _ => Nat.zero_le _
theorem getMessageTypeSupport : Statement (.getMessageTypeSupport) := fun _ => Nat.zero_le _
theorem mctpVendorMessage {a} {b} : Statement (.mctpVendorMessage a b) := by
  intro h
  simp only [wellFormed, decide_eq_true_eq] at h
  simp only [bytes]; omega
theorem fwInstall {a} {b} : Statement (.fwInstall a b) := fun _ => Nat.zero_le _
theorem installDone {a} : Statement (.installDone a) := fun _ => Nat.zero_le _
theorem commitPlain {a} : Statement (.commitPlain a) := fun _ => Nat.zero_le _
theorem commitProtected {a} : Statement (.commitProtected a) := fun _ => Nat.zero_le _
theorem fuseBlowDone : Statement (.fuseBlowDone) := fun _ => Nat.zero_le _
theorem velvetTimeoutExpiry : Statement (.velvetTimeoutExpiry) := fun _ => Nat.zero_le _
theorem attestGenerate {a} : Statement (.attestGenerate a) := fun _ => Nat.zero_le _
theorem reportReady {a} : Statement (.reportReady a) := fun _ => Nat.zero_le _
theorem keyLoad {a} {b} : Statement (.keyLoad a b) := fun _ => Nat.zero_le _
theorem linkLoad {a} {b} : Statement (.linkLoad a b) := fun _ => Nat.zero_le _
theorem advanceProvisioned {a} : Statement (.advanceProvisioned a) := fun _ => Nat.zero_le _
theorem advanceDeployed {a} : Statement (.advanceDeployed a) := fun _ => Nat.zero_le _
theorem advanceReturned {a} : Statement (.advanceReturned a) := fun _ => Nat.zero_le _
theorem debugLevelWrite {a} {b} : Statement (.debugLevelWrite a b) := fun _ => Nat.zero_le _
theorem errorDetected {a} : Statement (.errorDetected a) := fun _ => Nat.zero_le _
theorem handlerEnd : Statement (.handlerEnd) := fun _ => Nat.zero_le _
theorem handlerLimitExpiry : Statement (.handlerLimitExpiry) := fun _ => Nat.zero_le _
theorem faultRecover {a} : Statement (.faultRecover a) := fun _ => Nat.zero_le _
theorem basicModeExit : Statement (.basicModeExit) := fun _ => Nat.zero_le _
theorem tineWatchdogExpiry {a} : Statement (.tineWatchdogExpiry a) := fun _ => Nat.zero_le _
theorem tgCanaryTimer {a} : Statement (.tgCanaryTimer a) := fun _ => Nat.zero_le _
theorem tineRelease {a} {b} : Statement (.tineRelease a b) := fun _ => Nat.zero_le _
theorem dualRepeatDone {a} {b} : Statement (.dualRepeatDone a b) := fun _ => Nat.zero_le _
theorem dualRepeatTimeout {a} : Statement (.dualRepeatTimeout a) := fun _ => Nat.zero_le _
theorem mgmtCoreWatchdogExpiry {a} : Statement (.mgmtCoreWatchdogExpiry a) := fun _ => Nat.zero_le _
theorem d2dLinkFailure {a} {b} {c} : Statement (.d2dLinkFailure a b c) := fun _ => Nat.zero_le _
theorem logicCheck {a} : Statement (.logicCheck a) := fun _ => Nat.zero_le _
theorem hbmStackLost {a} : Statement (.hbmStackLost a) := fun _ => Nat.zero_le _
theorem keyStoreCheckFail {a} : Statement (.keyStoreCheckFail a) := fun _ => Nat.zero_le _
theorem reduceSelfCheckFail {a} : Statement (.reduceSelfCheckFail a) := fun _ => Nat.zero_le _
theorem eventRecordIssue {a} {b} : Statement (.eventRecordIssue a b) := fun _ => Nat.zero_le _
theorem mergeWindowEnd : Statement (.mergeWindowEnd) := fun _ => Nat.zero_le _
theorem logNext {a} : Statement (.logNext a) := fun _ => Nat.zero_le _
theorem profileActivate {a} {b} : Statement (.profileActivate a b) := fun _ => Nat.zero_le _
theorem profileFree {a} {b} : Statement (.profileFree a b) := fun _ => Nat.zero_le _
theorem traceStart {a} : Statement (.traceStart a) := fun _ => Nat.zero_le _
theorem traceStop {a} : Statement (.traceStop a) := fun _ => Nat.zero_le _
theorem traceFilterOn {a} {b} : Statement (.traceFilterOn a b) := fun _ => Nat.zero_le _
theorem stotNow {a} : Statement (.stotNow a) := fun _ => Nat.zero_le _
theorem stotNEdge {a} : Statement (.stotNEdge a) := fun _ => Nat.zero_le _
theorem dumpDone : Statement (.dumpDone) := fun _ => Nat.zero_le _
theorem hangWatchdogCheck : Statement (.hangWatchdogCheck) := fun _ => Nat.zero_le _
theorem graphBuild {a} : Statement (.graphBuild a) := fun _ => Nat.zero_le _
theorem graphPeriodExpiry : Statement (.graphPeriodExpiry) := fun _ => Nat.zero_le _
theorem graphBuildDone : Statement (.graphBuildDone) := fun _ => Nat.zero_le _
theorem powerGovernorSample {a} : Statement (.powerGovernorSample a) := fun _ => Nat.zero_le _
theorem referenceCheck {a} : Statement (.referenceCheck a) := fun _ => Nat.zero_le _
theorem pointStepDone {a} : Statement (.pointStepDone a) := fun _ => Nat.zero_le _
theorem thermalSample {a} : Statement (.thermalSample a) := fun _ => Nat.zero_le _
theorem droopDetected {a} : Statement (.droopDetected a) := fun _ => Nat.zero_le _
theorem quadrantGate {a} {b} : Statement (.quadrantGate a b) := fun _ => Nat.zero_le _
theorem quadrantUngate {a} {b} : Statement (.quadrantUngate a b) := fun _ => Nat.zero_le _
theorem requestP0 {a} : Statement (.requestP0 a) := fun _ => Nat.zero_le _
theorem requestP2 {a} : Statement (.requestP2 a) := fun _ => Nat.zero_le _
theorem requestP3 {a} : Statement (.requestP3 a) := fun _ => Nat.zero_le _
theorem requestP4 {a} : Statement (.requestP4 a) := fun _ => Nat.zero_le _
theorem powerTransitionDone : Statement (.powerTransitionDone) := fun _ => Nat.zero_le _
theorem pfwNAssert {a} : Statement (.pfwNAssert a) := fun _ => Nat.zero_le _
theorem pfwNRelease : Statement (.pfwNRelease) := fun _ => Nat.zero_le _
theorem flushDone : Statement (.flushDone) := fun _ => Nat.zero_le _
theorem resetNAssert : Statement (.resetNAssert) := fun _ => Nat.zero_le _
theorem resetNRelease : Statement (.resetNRelease) := fun _ => Nat.zero_le _
theorem bootStageAdvance {a} : Statement (.bootStageAdvance a) := fun _ => Nat.zero_le _
theorem jiythRetrain {a} : Statement (.jiythRetrain a) := fun _ => Nat.zero_le _
theorem vddAonUndervoltage : Statement (.vddAonUndervoltage) := fun _ => Nat.zero_le _
theorem railUndervoltage {a} : Statement (.railUndervoltage a) := fun _ => Nat.zero_le _
theorem inputStuck {a} : Statement (.inputStuck a) := fun _ => Nat.zero_le _
theorem rateHoldRelease {a} : Statement (.rateHoldRelease a) := fun _ => Nat.zero_le _
theorem jiythLinkDown : Statement (.jiythLinkDown) := fun _ => Nat.zero_le _
theorem i3cDynamicAddressAssign {a} : Statement (.i3cDynamicAddressAssign a) := fun _ => Nat.zero_le _
theorem jtagAccess {a} : Statement (.jtagAccess a) := by
  intro h
  cases a <;> simp_all [wellFormed, jtagFits, bytes]
theorem granuleMove {a} {b} {c} : Statement (.granuleMove a b c) := fun _ => Nat.zero_le _

end Sys2Proof.Laws.Carried
end

