-- ==== Sys2Proof/Laws/Tines.lean ====
section
/-! SUPPORT. Laws of tines, threads and their SRAM: what setting one thread, a count of a command or a store leaves as it was;
and the arithmetic of the scalar instructions. -/

namespace Sys2Proof.Machine

set_option Elab.async false

/-- Setting an entry of the object dictionary leaves every tine. -/
@[simp] theorem State.tine_wr (s : State) (e n v t) : (s.wr e n v).tine t = s.tine t := rfl

/-- A tine that has a thread is not a new one. -/
theorem Tine.ne_new {u : Tine} (h : u.threads ≠ []) : u ≠ tineNew := by
  rintro rfl; exact h rfl

/-- Setting a key to a value that is not the default leaves no empty table. -/
theorem sparseSet_ne_nil {α : Type} [DecidableEq α] (d : α) (m : Sparse α) (k : Nat) (v : α) (h : v ≠ d) : sparseSet d m k v ≠ [] := by
  cases m with
  | nil => simp [sparseSet, h]
  | cons a m => obtain ⟨i, w⟩ := a; simp only [sparseSet, h, if_false]; split <;> [simp; (split <;> simp)]

/-- The tine just set. -/
theorem State.tine_setTine_same {s : State} {t : Nat} {u : Tine} (h : u.threads ≠ []) : (s.setTine t u).tine t = u :=
  sparseGet_sparseSet_ne _ _ _ _ (Tine.ne_new h)

/-- Setting a tine leaves the others. -/
theorem State.tine_setTine_other {s : State} {t t' : Nat} {u : Tine} (h : u.threads ≠ []) (n : t' ≠ t) : (s.setTine t u).tine t' = s.tine t' :=
  sparseGet_sparseSet_ne_other _ _ _ _ _ (Tine.ne_new h) n

/-- A live thread is not a new one. -/
theorem Thread.ne_new {x : Thread} (h : x.live = true) : x ≠ threadNew := by rintro rfl; cases h

/-- The tine of a live thread has a thread. -/
theorem State.thread_live_threads {s : State} {t h : Nat} (l : (s.thread t h).live = true) : (s.tine t).threads ≠ [] := by
  intro e; simp [State.thread, e, sparseGet, threadNew] at l

/-- A count of a command leaves the object dictionary. -/
theorem scopeAdd_od (s : State) (a b c : Nat) : (s.scopeAdd a b c).od = s.od := by
  unfold State.scopeAdd; split <;> rfl

/-- A count of a command leaves the tines. -/
theorem scopeAdd_tines (s : State) (a b c : Nat) : (s.scopeAdd a b c).cpu.tines = s.cpu.tines := by
  unfold State.scopeAdd; split <;> rfl

/-- A count of a command changes the compute state alone. -/
theorem scopeAdd_rest (s : State) (a b c : Nat) : s.scopeAdd a b c = { s with cpu := (s.scopeAdd a b c).cpu } := by
  unfold State.scopeAdd; split <;> rfl

/-- What a function reads of the commands in flight, where setting one command does not change what it reads of that one. -/
theorem find_setCmd {β : Type} (f : Cmd → β) {s : State} {d c : Cmd} {cid : Nat} (e : s.cmd d.cid = some c) (r : f d = f c) :
    ((s.setCmd d).cmd cid).map f = (s.cmd cid).map f := by
  have hc : c.cid = d.cid := by simpa using List.find?_some e
  simp only [State.cmd, State.setCmd] at *
  generalize s.cpu.cmds = l at *
  have key : ∀ l : List Cmd, l.find? (fun c => c.cid == d.cid) = some c →
      ((l.map (fun x => if x.cid = d.cid then d else x)).find? (fun c => c.cid == cid)).map f
        = (l.find? (fun c => c.cid == cid)).map f := by
    intro l
    induction l with
    | nil => simp
    | cons y l ih =>
      intro e
      by_cases hy : y.cid = d.cid
      · have : y = c := by simpa [hy] using e
        subst this
        simp only [List.map_cons, hy, if_true, List.find?_cons]
        by_cases hd : d.cid = cid
        · simp [hd, r]
        · have hne : (d.cid == cid) = false := by simpa using hd
          simp only [hne]
          have g : ∀ m : List Cmd, (m.map (fun x => if x.cid = d.cid then d else x)).find? (fun c => c.cid == cid)
              = m.find? (fun c => c.cid == cid) := by
            intro m
            induction m with
            | nil => rfl
            | cons z m im =>
              by_cases hz : z.cid = d.cid
              · simp [hz, hne, im]
              · simp only [List.map_cons, hz, if_false, List.find?_cons, im]
          rw [g]
      · have hy' : (y.cid == d.cid) = false := by simpa using hy
        rw [List.find?_cons, hy'] at e
        simp only [List.map_cons, hy, if_false, List.find?_cons]
        split
        · rfl
        · exact ih e
  exact key l e

/-- A count of a command leaves what a function reads of each command besides its counts. -/
theorem scopeAdd_cmds {β : Type} (f : Cmd → β) (hf : ∀ d l, f { d with scope := l } = f d) (s : State) (a b c cid : Nat) : ((s.scopeAdd a b c).cmd cid).map f = (s.cmd cid).map f := by
  unfold State.scopeAdd
  split
  · rename_i d e
    have hd : d.cid = a := by simpa using List.find?_some e
    exact find_setCmd f (c := d) (by rw [← hd] at e; exact e) (hf _ _)
  · rfl

/-- Setting a thread to one that is not new: the thread stands so, and no other thread and no other part of the state changes. -/
theorem State.setThread_spec (s : State) (t h : Nat) {y : Thread} (hy : y ≠ threadNew) :
    (s.setThread t h y).thread t h = y ∧ (∀ t' h', (t', h') ≠ (t, h) → (s.setThread t h y).thread t' h' = s.thread t' h') ∧
    (∀ t', { (s.setThread t h y).tine t' with threads := [] } = { s.tine t' with threads := [] }) ∧
    s.setThread t h y = { s with cpu := (s.setThread t h y).cpu } := by
  have hne : sparseSet threadNew (s.tine t).threads h y ≠ [] := sparseSet_ne_nil _ _ _ _ hy
  have a2 : (s.setThread t h y).tine t = { s.tine t with threads := sparseSet threadNew (s.tine t).threads h y } :=
    State.tine_setTine_same (u := { s.tine t with threads := sparseSet threadNew (s.tine t).threads h y }) hne
  have a3 : ∀ t', t' ≠ t → (s.setThread t h y).tine t' = s.tine t' := fun t' n =>
    State.tine_setTine_other (u := { s.tine t with threads := sparseSet threadNew (s.tine t).threads h y }) hne n
  refine ⟨?_, fun t' h' n => ?_, fun t' => ?_, rfl⟩
  · simp only [State.thread, a2]; exact sparseGet_sparseSet_ne _ _ _ _ hy
  · by_cases e : t' = t
    · subst e
      simp only [State.thread, a2]
      exact sparseGet_sparseSet_ne_other _ _ _ _ _ hy (fun q => n (by rw [q]))
    · simp only [State.thread, a3 t' e]
  · by_cases e : t' = t
    · subst e; rw [a2]
    · rw [a3 t' e]

/-- A register is written modulo 2^64. -/
theorem setReg_congr {x : Thread} {r a b : Nat} (h : a % 2 ^ 64 = b % 2 ^ 64) : x.setReg r a = x.setReg r b := by
  unfold Thread.setReg; split <;> [rfl; rw [h]]

/-- Writing a register leaves the thread live. -/
theorem setReg_live {x : Thread} {r a : Nat} : (x.setReg r a).live = x.live := by
  unfold Thread.setReg; split <;> rfl

/-- Writing a register leaves the pc. -/
theorem setReg_pc {x : Thread} {r a : Nat} : (x.setReg r a).pc = x.pc := by
  unfold Thread.setReg; split <;> rfl

/-- The signed value of 64 bits. -/
theorem signed64 (a : Nat) : signed 64 a = (BitVec.ofNat 64 a).toInt := by
  simp only [signed, BitVec.toInt_eq_toNat_cond, BitVec.toNat_ofNat]
  split <;> rename_i h
  · rw [if_pos (by omega)]
  · rw [if_neg (by omega)]

/-- The signed comparison of 64 bits. -/
theorem slt_iff (a b : Nat) : signed 64 a < signed 64 b ↔ BitVec.slt (BitVec.ofNat 64 a) (BitVec.ofNat 64 b) = true := by
  rw [signed64, signed64, BitVec.slt_iff_toInt_lt]

/-- Narrowing to 64 bits. -/
theorem unsigned64 (v : Int) : unsigned 64 v = (BitVec.ofInt 64 v).toNat := by
  simp [unsigned, BitVec.toNat_ofInt]

/-- The sign extension of IMM. -/
theorem sext32_eq (i : Word) : sext32 i.toNat = (i.signExtend 64).toNat := by
  have h : signed 32 i.toNat = i.toInt := by
    simp only [signed, BitVec.toInt_eq_toNat_cond]
    have := i.isLt
    rw [Nat.mod_eq_of_lt this]
    split <;> rename_i h
    · rw [if_pos (by omega)]
    · rw [if_neg (by omega)]
  rw [sext32, unsigned64, h, BitVec.signExtend]

/-- A store to SRAM changes SRAM alone. -/
theorem writeSram_eq (s : State) (t a : Nat) (bs : List Byte) : ∃ m, s.writeSram t a bs = { s with cpu := { s.cpu with sram := m } } := by
  induction bs generalizing s a with
  | nil => exact ⟨_, rfl⟩
  | cons b bs ih =>
    obtain ⟨m, e⟩ := ih { s with cpu := { s.cpu with sram := sparseSet 0 s.cpu.sram (sramKey t a) b } } (a + 1)
    exact ⟨m, by simp only [State.writeSram]; rw [e]⟩

/-- Each byte of SRAM after a store. -/
theorem writeSram_get {s : State} {t a : Nat} {bs : List Byte} (w : Memory.wf s.cpu.sram) (k : Nat) :
    sparseGet 0 (s.writeSram t a bs).cpu.sram k =
      if sramKey t a ≤ k ∧ k < sramKey t a + bs.length then bs.getD (k - sramKey t a) 0 else sparseGet 0 s.cpu.sram k := by
  induction bs generalizing s a with
  | nil => rw [if_neg (by simp)]; rfl
  | cons b bs ih =>
    simp only [State.writeSram]
    rw [ih (sparseWf_sparseSet _ _ _ _ w)]
    have e : sramKey t (a + 1) = sramKey t a + 1 := by simp only [sramKey]; omega
    rw [e]
    by_cases h : k = sramKey t a
    · subst h
      rw [if_neg (by omega), if_pos (by simp)]
      show sparseGet 0 (sparseSet 0 s.cpu.sram _ b) _ = _
      rw [sparseGet_sparseSet_same _ _ _ _ w.1]; simp
    · show (if _ then _ else sparseGet 0 (sparseSet 0 s.cpu.sram _ b) _) = _
      rw [sparseGet_sparseSet_other _ _ _ _ _ _ w.1 h]
      by_cases g : sramKey t a + 1 ≤ k ∧ k < sramKey t a + 1 + bs.length
      · rw [if_pos g, if_pos ⟨by omega, by simp only [List.length_cons]; omega⟩]
        obtain ⟨d, rfl⟩ : ∃ d, k = sramKey t a + 1 + d := ⟨k - (sramKey t a + 1), by omega⟩
        have e1 : sramKey t a + 1 + d - (sramKey t a + 1) = d := by omega
        have e2 : sramKey t a + 1 + d - sramKey t a = d + 1 := by omega
        rw [e1, e2]; simp
      · rw [if_neg g, if_neg (by simp only [List.length_cons]; omega)]

/-- A store to SRAM reads back. -/
theorem readSram_writeSram {s : State} {t a : Nat} {bs : List Byte} (w : Memory.wf s.cpu.sram) :
    (s.writeSram t a bs).readSram t a bs.length = bs := by
  apply List.ext_getElem
  · simp [State.readSram]
  · intro i h1 h2
    simp only [State.readSram, List.getElem_map, List.getElem_range]
    rw [writeSram_get w]
    have e : sramKey t (a + i) = sramKey t a + i := by simp only [sramKey]; omega
    rw [e, if_pos ⟨by omega, by omega⟩]
    have : sramKey t a + i - sramKey t a = i := by omega
    rw [this]; simp [h2]

end Sys2Proof.Machine
end

