-- ==== Sys2Proof/Tests/Slice0.lean ====
section
/-! SUPPORT. Small tests: the well-formedness checks refuse an ill-formed term each, and for each statement states and operands
that meet its hypotheses, clause by clause. -/

namespace Sys2Proof.Tests

set_option Elab.async false

open Sys2Proof.Machine Sys2Proof.Claims

/-! ## States to test on -/

/-- The state after reset with some elements of the object dictionary set. -/
def st (l : List (Ent × Nat × Nat)) : State := l.foldl (fun s x => s.wr x.1 x.2.1 x.2.2) State.reset

/-- The invariant, as a check. -/
def invOk (s : State) : Bool :=
  decide (sparseWf odDefault s.od) && decide (Memory.wf s.pool.mem) && decide (Memory.wf s.pool.cxl) && decide (Memory.wf s.pool.flash) &&
  decide (Memory.wf s.cpu.sram) && decide (sparseWf (fun _ => linkNew) s.tr.links) && decide (sparseWf (fun _ => 0) s.sec.keys) &&
  decide (sparseWf (fun _ => granNew) s.pool.gran) && decide (s.flt.stack.Pairwise (fun a b => b.cls < a.cls)) &&
  decide (∀ x ∈ s.flt.stack, 1 ≤ x.cls ∧ x.cls ≤ 4) && decide (∀ x ∈ s.flt.raised, 1 ≤ x.cls ∧ x.cls ≤ 3) &&
  decide (s.flt.contained.length ≤ 64) && decide (s.flt.correctable.length ≤ 64)

theorem inv_of {s : State} (h : invOk s = true) : s.Inv := by
  simp only [invOk, Bool.and_eq_true, decide_eq_true_eq] at h
  obtain ⟨⟨⟨⟨⟨⟨⟨⟨⟨⟨⟨⟨a, b⟩, c⟩, d⟩, e⟩, f⟩, g⟩, h⟩, i⟩, j⟩, k⟩, l⟩, m⟩ := h
  exact ⟨⟨a, b, c, d, e, f, g, h⟩, i, j, k, l, m⟩

/-- Extent 1 of herd 1, at address 2 MiB, of one granule, with its home at slice 0 and class `cls`. -/
def extOd (cls : Nat) : List (Ent × Nat × Nat) :=
  [(od1100_UNIT_BASE, 0, 0x100), (od1100_TINE_BASE, 0, 0x200), (od1100_COMPANION_EP, 0, 0x300), (od2800_STATE, 1, 2), (od2820_STATE, 1, 1),
   (od2820_HERD, 1, 1), (od2820_BASE, 1, 2097152), (od2820_GRANULES, 1, 1), (od2820_CLASS, 1, cls), (od2820_HOME, 1, 0x100)]

/-- A command of herd 1 with a window of 4 KiB in the SRAM of tine 0. -/
def cmd1 : Cmd :=
  { cid := 1, ring := 1, slot := 0, desc := [2 ^ 56, 2097152, 0, 2 ^ 48 + 4 * 2 ^ 32, 0, 0, 0, 0], herd := 1, event := 2, start := 0, startQ := 0,
    reissued := 0, tines := [0], base := [0], exits := [], code := none, results := [], finished := false, ended := none, launched := true,
    work := ⟨0, 0, 0, [], [], [], []⟩, scope := [] }

/-- A ready thread of that command with the given registers. -/
def thread1 (regs : List Nat) (wait : ThreadWait) : Thread := ⟨true, 1, 0, 2097152, regs, 0, wait, 0⟩

/-- A word of a tine with registers 1 to 4 as its operands. -/
def word1 : TineWord := ⟨0, 1, 2, 3, 4, 0⟩

/-- The state in which that thread may issue the word with the opcode `op`, which the instruction cache holds at its pc. -/
def runningWord (op : Nat) (w : TineWord) (regs : List Nat) (wait : ThreadWait := .ready) : State :=
  let s := st (extOd 0)
  { s with cpu := { s.cpu with cmds := [cmd1], tines := [(0, { tineNew with
    threads := [(0, thread1 regs wait)], icache := [(2097152, wordOf op w)] })] } }

def running (op : Nat) (regs : List Nat) (wait : ThreadWait := .ready) : State := runningWord op word1 regs wait

theorem mayIssue_of {s : State} {t : TineId} {h : ThreadId} {op : Nat} {w : TineWord} {x : Thread} {c : Cmd}
    (k : s.thread t.val h.val = x ∧ x.live = true ∧ x.wait = .ready ∧ s.tineRuns t.val = true ∧ s.threadTurn t.val h.val = true ∧
      s.cmd x.cid = some c ∧ s.icached t.val x.pc = some (wordOf op w)) :
    MayIssue s t h op w x c := ⟨⟨k.1, k.2.1, k.2.2.1, k.2.2.2.1, k.2.2.2.2.1, k.2.2.2.2.2.1⟩, k.2.2.2.2.2.2⟩

/-- A header of a request in class 0 with everything else 0. -/
def hdr0 : ReqHdr := ⟨0, false, false, false, 1, 0, 0, 0, 5, 0, 0, 0, 0, 2097152, 0, 0, 0⟩

/-- An envelope of a frame that comes first on its link. -/
def env0 : LinkEnv := ⟨0, 0xFFFF, 0, 0⟩

/-- Port 0 up, with a role, bound to herd 1 as endpoint 7. -/
def portOd (role : Nat) : List (Ent × Nat × Nat) :=
  [(od2118_STATE, 0, 3), (od2118_WIDTH, 0, 8), (od2810_ROLE, 0, role), (od2810_HERD, 0, 1), (od2810_ENDPOINT, 0, 7)]

/-- A request outstanding from an endpoint port. -/
def req1 : Req :=
  { id := 3, sender := .port 0, op := .load, hdr := { hdr0 with src := 7, dst := 0x100 }, payload := [], ext := 1, born := 0, place := .home,
    path := none, dest := 0x100 }
/-! ## Tines -/

/-- ScalarInstructionsComplete: ADD, and a SYS whose IMM is 5. WaitBarExitComplete: WAIT, BAR and EXIT. -/
theorem witness_scalar : scalar (.tAdd 0 0 word1) ≠ none ∧ (running 1 []).Inv ∧ MayIssue (running 1 []) 0 0 1 word1 (thread1 [] .ready) cmd1 :=
  ⟨by simp [scalar], inv_of (by decide +kernel), mayIssue_of (by decide +kernel)⟩

theorem witness_sys :
    let w : TineWord := { word1 with imm := 5 }
    tineOf (.tSysErr 0 0 w) = some (0, 0, 0x1F, w) ∧ 4 < w.imm.toNat ∧ (runningWord 0x1F w []).Inv ∧
    MayIssue (runningWord 0x1F w []) 0 0 0x1F w (thread1 [] .ready) cmd1 :=
  ⟨rfl, by decide, inv_of (by decide +kernel), mayIssue_of (by decide +kernel)⟩

theorem witness_wait_bar_exit : ∀ op ∈ [0x1C, 0x1D, 0x1E],
    (running op []).Inv ∧ MayIssue (running op []) 0 0 op word1 (thread1 [] .ready) cmd1 := by
  simp only [List.forall_mem_cons, List.not_mem_nil, false_imp_iff, implies_true, and_true]
  exact ⟨⟨inv_of (by decide +kernel), mayIssue_of (by decide +kernel)⟩, ⟨inv_of (by decide +kernel), mayIssue_of (by decide +kernel)⟩,
    inv_of (by decide +kernel), mayIssue_of (by decide +kernel)⟩

/-- SramAccessesComplete: the last eight bytes of the window, and the first that lie outside. -/
theorem witness_sram_inside : ∀ op ∈ [0x18, 0x19], (running op [0, 0, 4088]).Inv ∧
    MayIssue (running op [0, 0, 4088]) 0 0 op word1 (thread1 [0, 0, 4088] .ready) cmd1 ∧
    (running op [0, 0, 4088]).inWindow 1 0 (sramAddr (thread1 [0, 0, 4088] .ready) word1) 8 = true := by
  simp only [List.forall_mem_cons, List.not_mem_nil, false_imp_iff, implies_true, and_true]
  exact ⟨⟨inv_of (by decide +kernel), mayIssue_of (by decide +kernel), by decide +kernel⟩,
    inv_of (by decide +kernel), mayIssue_of (by decide +kernel), by decide +kernel⟩

theorem witness_sram_outside : ∀ op ∈ [0x18, 0x19], (running op [0, 0, 4089]).Inv ∧
    MayIssue (running op [0, 0, 4089]) 0 0 op word1 (thread1 [0, 0, 4089] .ready) cmd1 ∧
    (running op [0, 0, 4089]).inWindow 1 0 (sramAddr (thread1 [0, 0, 4089] .ready) word1) 8 = false := by
  simp only [List.forall_mem_cons, List.not_mem_nil, false_imp_iff, implies_true, and_true]
  exact ⟨⟨inv_of (by decide +kernel), mayIssue_of (by decide +kernel), by decide +kernel⟩,
    inv_of (by decide +kernel), mayIssue_of (by decide +kernel), by decide +kernel⟩

/-- RemoteInstructionsComplete: RST of eight bytes from the window to extent 1. -/
theorem witness_remote :
    let s := running 0x21 [0, 0, 2097152, 0, 8]
    let x := thread1 [0, 0, 2097152, 0, 8] .ready
    s.Inv ∧ MayIssue s 0 0 0x21 word1 x cmd1 ∧ remoteLen (x.rc word1) = true ∧ s.inWindow x.cid 0 (x.rb word1) (x.rc word1) = true ∧
    s.sbRoom 0 0 cmd1 (x.ra word1) = true :=
  ⟨inv_of (by decide +kernel), mayIssue_of (by decide +kernel), by decide +kernel⟩

/-- TheArithmeticUnitsComplete: VADD of eight elements, VCVT of 32, MMA and MMAZ with K 32 over bytes. -/
theorem witness_vector :
    let s := running 0x30 [0, 1024, 0, 64, 8]
    let x := thread1 [0, 1024, 0, 64, 8] .ready
    s.Inv ∧ MayIssue s 0 0 0x30 word1 x cmd1 ∧ vectorOk 0 (x.rc word1) = true ∧ s.inWindow x.cid 0 (x.ra word1) (arrayBytes 0 8) = true ∧
    s.inWindow x.cid 0 (x.rb word1) (arrayBytes 0 8) = true ∧ s.inWindow x.cid 0 (x.rdVal word1) 32 = true :=
  ⟨inv_of (by decide +kernel), mayIssue_of (by decide +kernel), by decide +kernel⟩

theorem witness_convert :
    let s := running 0x37 [0, 1024, 0, 0, 32]
    let x := thread1 [0, 1024, 0, 0, 32] .ready
    s.Inv ∧ MayIssue s 0 0 0x37 word1 x cmd1 ∧ vectorOk 0 (x.rc word1) = true ∧ x.ra word1 + arrayBytes 0 32 ≤ x.rdVal word1 ∧
    s.inWindow x.cid 0 (x.ra word1) (arrayBytes 0 32) = true ∧ s.inWindow x.cid 0 (x.rdVal word1) (arrayBytes 0 32) = true :=
  ⟨inv_of (by decide +kernel), mayIssue_of (by decide +kernel), by decide +kernel⟩

/-- The command with a window of 32 KiB. -/
def cmdWide : Cmd := { cmd1 with desc := [2 ^ 56, 2097152, 0, 2 ^ 48 + 32 * 2 ^ 32, 0, 0, 0, 0] }

/-- The state in which its thread may issue a matrix instruction over format 1. -/
def runningMatrix (op : Nat) : State :=
  let s := runningWord op { word1 with fmt := 1 } [0, 16384, 0, 8192, 32]
  { s with cpu := { s.cpu with cmds := [cmdWide] } }

theorem witness_matrix : ∀ op ∈ [0x40, 0x41],
    let w : TineWord := { word1 with fmt := 1 }
    let x := thread1 [0, 16384, 0, 8192, 32] .ready
    let s := runningMatrix op
    s.Inv ∧ MayIssue s 0 0 op w x cmdWide ∧ x.rc w = 32 ∧ w.fmt.toNat ≠ 0 ∧ fmtKnown w.fmt.toNat = true ∧
    s.inWindow x.cid 0 (x.ra w) (32 * arrayBytes 1 32) = true ∧ s.inWindow x.cid 0 (x.rb w) (32 * arrayBytes 1 32) = true ∧
    s.inWindow x.cid 0 (x.rdVal w) 4096 = true := by
  simp only [List.forall_mem_cons, List.not_mem_nil, false_imp_iff, implies_true, and_true]
  exact ⟨⟨inv_of (by decide +kernel), mayIssue_of (by decide +kernel), by decide +kernel⟩,
    inv_of (by decide +kernel), mayIssue_of (by decide +kernel), by decide +kernel⟩

/-- WaitingThreadsIssueNothing: a thread that waits, one that is not live, a tine that does not run, a thread that is not due while
another is; a thread whose instruction is the oldest of the vector and of the matrix unit. -/
theorem witness_waiting :
    let two := { running 0 [] with cpu := { (running 0 []).cpu with tines := [(0, { tineNew with
      threads := [(0, { thread1 [] .ready with due := 1 }), (1, thread1 [] .ready)], turn := 0 })] } }
    ((running 0 [] .bar).thread 0 0).wait ≠ .ready ∧ ((running 0 []).thread 0 1).live = false ∧
    ({ running 0 [] with pins := { Pins.reset with inReset := true } } : State).tineRuns 0 = false ∧ two.threadTurn 0 0 = false := by
  decide +kernel

theorem witness_units :
    let v := { running 0 [] .vector with cpu := { (running 0 [] .vector).cpu with
      tines := [(0, { tineNew with threads := [(0, thread1 [] .vector)], vec := [0] })] } }
    let m := { running 0 [] .matrix with cpu := { (running 0 [] .matrix).cpu with
      tines := [(0, { tineNew with threads := [(0, thread1 [] .matrix)], mat := [0] })] } }
    v.Inv ∧ m.Inv ∧ (v.thread 0 0).live = true ∧ (v.tine 0).vec = [0] ∧ (v.thread 0 0).wait = .vector ∧ (m.thread 0 0).live = true ∧
    (m.tine 0).mat = [0] ∧ (m.thread 0 0).wait = .matrix :=
  ⟨inv_of (by decide +kernel), inv_of (by decide +kernel), by decide +kernel⟩

/-- WaitingThreadsIssueNothing: a word that the cache lacks, one with the reserved opcode 0x0E, and one other than the command's. -/
theorem witness_word :
    let none := { running 1 [] with cpu := { (running 1 []).cpu with tines := [(0, { tineNew with threads := [(0, thread1 [] .ready)] })] } }
    let bad := running 0x0E []
    let sub := running 2 []
    (none.Inv ∧ ItsTurn none 0 0 (thread1 [] .ready) cmd1 ∧ none.icached 0 2097152 = .none) ∧
    (bad.Inv ∧ ItsTurn bad 0 0 (thread1 [] .ready) cmd1 ∧ (bad.icached 0 2097152).any (fun v => !opKnown (v / 2 ^ 56)) = true) ∧
    (sub.Inv ∧ ItsTurn sub 0 0 (thread1 [] .ready) cmd1 ∧
      (sub.icached 0 2097152).any (fun v => opKnown (v / 2 ^ 56) && v != wordOf 1 word1) = true) :=
  ⟨⟨inv_of (by decide +kernel), by constructor <;> decide +kernel, by decide +kernel⟩,
    ⟨inv_of (by decide +kernel), by constructor <;> decide +kernel, by decide +kernel⟩,
    inv_of (by decide +kernel), by constructor <;> decide +kernel, by decide +kernel⟩

/-! ## Transport and switch -/

/-- A LOAD frame as it comes by. -/
def load1 (via : Via) : ReqFrame := ⟨via, hdr0, [], none⟩

/-- The companion's Jiyth link is up. -/
def jiyth : List (Ent × Nat × Nat) := [(od1120_JY_STATE, 0, 2), (od1100_COMPANION_EP, 0, 0x300), (od4C40_BOOT_STAGE, 0, 5)]

/-- RequestsEnterTheA9: a frame from the companion, on an endpoint port, on a trunk port, on a tray port. -/
theorem witness_requests :
    (requestOf (.load (load1 .companion))).isSome = true ∧ (requestOf (.load (load1 (.port 0 env0)))).isSome = true ∧
    (st jiyth).Inv ∧ (st jiyth).halted = false ∧ (st jiyth).rd od1120_JY_STATE 0 = 2 ∧ tagFree (st jiyth) .companion 5 ∧
    (let s := st (portOd 1 ++ [(od2800_STATE, 1, 2)])
     s.Inv ∧ s.halted = false ∧ s.portUp 0 = true ∧ env0.seq.toNat = (s.link 0).rxSeq ∧ s.rd od2810_ROLE 0 = 1 ∧
       s.rd od2810_HERD 0 ≠ 0xFFF ∧ s.herdActive 1 = true ∧ tagFree s (.port 0) 5) ∧
    (∀ role ∈ [2, 3], (st (portOd role)).Inv ∧ (st (portOd role)).halted = false ∧ (st (portOd role)).portUp 0 = true ∧
      env0.seq.toNat = ((st (portOd role)).link 0).rxSeq ∧ (st (portOd role)).rd od2810_ROLE 0 = role) := by
  simp only [List.forall_mem_cons, List.not_mem_nil, false_imp_iff, implies_true, and_true]
  exact
  ⟨rfl, rfl, inv_of (by decide +kernel), by decide +kernel, by decide +kernel, by simp [tagFree]; decide +kernel,
   ⟨inv_of (by decide +kernel), by decide +kernel, by decide +kernel, by decide +kernel, by decide +kernel, by decide +kernel,
    by decide +kernel, by simp [tagFree]; decide +kernel⟩,
   ⟨inv_of (by decide +kernel), by decide +kernel⟩, inv_of (by decide +kernel), by decide +kernel⟩

/-- StrayFramesAreTurnedAway: a frame that comes out of order; an unbound endpoint port; a TAG outstanding; a response that answers nothing. -/
theorem witness_stray :
    ({ env0 with seq := 1 } : LinkEnv).seq.toNat ≠ ((st (portOd 1)).link 0).rxSeq ∧
    (let s := st (portOd 1 ++ [(od2810_HERD, 0, 0xFFF)])
     s.Inv ∧ s.portUp 0 = true ∧ env0.seq.toNat = (s.link 0).rxSeq ∧ s.rd od2810_ROLE 0 = 1 ∧ s.rd od2810_HERD 0 = 0xFFF ∧
       tagFree s (.port 0) 5) ∧
    (let s := { st (portOd 1) with tr := { Transport.reset with outstanding := [req1] } }
     s.Inv ∧ s.portUp 0 = true ∧ env0.seq.toNat = (s.link 0).rxSeq ∧ s.rd od2810_ROLE 0 = 1 ∧ ¬ tagFree s (.port 0) 5) ∧
    (let s := st (portOd 2 ++ [(od2120_LOCATION, 7, 3), (od2100_A9_NUMBER, 0, 3)])
     let h : RespHdr := ⟨0, 0, 1, 0x100, 7, 0, 9, 0, 0, 0, 0, 0, 0⟩
     let v := respReceived s 0 env0 .ack h []
     s.Inv ∧ s.portUp 0 = true ∧ env0.seq.toNat = (s.link 0).rxSeq ∧ v.requestOf (v.newLf h) (some 0) = none ∧ s.isHere h.dst.toNat = true) :=
  ⟨by decide +kernel,
   ⟨inv_of (by decide +kernel), by decide +kernel, by decide +kernel, by decide +kernel, by decide +kernel, by simp [tagFree]; decide +kernel⟩,
   ⟨inv_of (by decide +kernel), by decide +kernel, by decide +kernel, by decide +kernel, by simp [tagFree, req1, hdr0]⟩,
   inv_of (by decide +kernel), by decide +kernel⟩

/-- The response to that request. -/
def resp1 : RespHdr := ⟨0, 0, 1, 0x100, 7, 0, 5, 0, 0, 0, 0, 0, 0⟩

/-- ResponsesTimeoutsAndReleasesComplete: the answer of a home; an answer on a port; a request older than LOAD_TIMEOUT,
without a response and with one that waits. -/
theorem witness_responses :
    (let s := { st (portOd 1) with tr := { Transport.reset with outstanding := [req1], resps := [⟨.port 0, .ack, resp1, []⟩] } }
     s.Inv ∧ s.halted = false ∧ s.tr.resps[0]? = some ⟨.port 0, .ack, resp1, []⟩ ∧
     s.tr.outstanding.find? (fun x => x.sender == .port 0 && x.hdr.tag == resp1.tag && x.hdr.psn == resp1.psn) = some req1) ∧
    (let s := { st (portOd 2) with tr := { Transport.reset with outstanding := [{ req1 with place := .queue }] } }
     let v := respReceived s 0 env0 .ack resp1 []
     s.Inv ∧ s.halted = false ∧ s.portUp 0 = true ∧ env0.seq.toNat = (s.link 0).rxSeq ∧
     v.requestOf (v.newLf resp1) (some 0) = some { req1 with place := .queue }) ∧
    (∀ resps : List RespMsg, (resps = [] ∨ resps = [⟨.port 0, .data, resp1, []⟩]) →
     let s := { st (portOd 1 ++ [(od2200_LOAD_TIMEOUT, 0, 1)]) with
       tr := { Transport.reset with outstanding := [req1], resps := resps }, time := { TimeState.reset with span := 2 ^ 60 } }
     s.Inv ∧ s.halted = false ∧ s.tr.outstanding.find? (fun x => x.id == 3) = some req1 ∧
     s.past req1.born (s.rd od2200_LOAD_TIMEOUT 0 * 1000) = true ∧
     (resps = [] ∨ (req1.sender = .port 0 ∧ resp1.tag = req1.hdr.tag ∧ resp1.psn = req1.hdr.psn))) := by
  refine ⟨⟨inv_of (by decide +kernel), by decide +kernel⟩, ⟨inv_of (by decide +kernel), by decide +kernel⟩, fun resps h => ?_⟩
  rcases h with rfl | rfl
  · exact ⟨inv_of (by decide +kernel), by decide +kernel⟩
  · exact ⟨inv_of (by decide +kernel), by decide +kernel⟩

/-- A link with one frame not acknowledged, replayed `n` times. -/
def sentOnce (n : Nat) : State :=
  let s := st (portOd 2)
  { s with tr := { s.tr with links := [(0, { linkNew with unacked := [⟨0, .req .load hdr0 []⟩], txSeq := 1, replays := n })] }, time := { TimeState.reset with span := 2 ^ 72 } }

/-- TheLinkLayerDropsAndReplays: a drop; a NAK before and at the ninth replay; the timer likewise. -/
theorem witness_link :
    (sentOnce 7).Inv ∧ (sentOnce 7).halted = false ∧ (sentOnce 7).rd od2118_STATE 0 = 3 ∧ (sentOnce 7).portUp 0 = true ∧
    (((sentOnce 7).linkLearn 0 ⟨0, 0xFFFF, 0, 0⟩).link 0).unacked ≠ [] ∧ (((sentOnce 7).linkLearn 0 ⟨0, 0xFFFF, 0, 0⟩).link 0).replays = 7 ∧
    (sentOnce 8).Inv ∧ (sentOnce 8).portUp 0 = true ∧ (((sentOnce 8).linkLearn 0 ⟨0, 0xFFFF, 0, 0⟩).link 0).replays = 8 ∧
    (sentOnce 8).past ((sentOnce 8).link 0).timer ((sentOnce 8).rd od2200_REPLAY_TIMER 0) = true ∧ ((sentOnce 8).link 0).unacked ≠ [] :=
  ⟨inv_of (by decide +kernel), by decide +kernel, by decide +kernel, by decide +kernel, by decide +kernel, by decide +kernel,
   inv_of (by decide +kernel), by decide +kernel⟩

/-- A frame in the transmit queue 5 of port 0. -/
def txFrame (spilled : Bool) : TxFrame :=
  { id := 4, queue := 5, port := 0, cells := 1, bytes := 56, source := 3, spilled := spilled, entered := 0, tag := some 0, ingress := none,
    body := .req .load hdr0 [], answers := none }

/-- TheSwitchAndItsQueuesComplete: a matcher slot; a frame that may go; a frame to read back; a credit held; a gate list that is to
start, and one that runs; a queue to sample. -/
theorem witness_switch :
    (State.reset.Inv ∧ State.reset.flt.quadsLost.contains 0 = false) ∧
    (let s := { st (portOd 2 ++ [(od2400_TYPE, 5, 1), (od2400_PORT, 5, 0)]) with
       sw := { Switch.reset with tx := [txFrame false] },
       tr := { Transport.reset with links := [(0, { linkNew with credits := [9, 0, 0, 0, 0, 0, 0, 0] })] } }
     s.Inv ∧ s.portUp 0 = true ∧ (sparseGet (0, 0) s.tm.sending 0).1 ≤ s.up ∧ s.chosen 0 = some (txFrame false) ∧ 0 < (txFrame false).bytes) ∧
    (let s := { st (portOd 2) with sw := { Switch.reset with tx := [txFrame true] } }
     s.Inv ∧ s.sw.tx.find? (fun x => x.id == 4) = some (txFrame true) ∧ (txFrame true).spilled = true) ∧
    (let s := { st (portOd 2) with sw := { Switch.reset with heldCr := [⟨0, 3, 1⟩] } }
     s.Inv ∧ s.sw.heldCr = [⟨0, 3, 1⟩] ∧ s.canSupply 0 1 = true) ∧
    (let s := { st (portOd 2 ++ [(od2450_STATE, 0, 1)]) with tm := { TrafficMgr.reset with gates := [(0, ⟨0, 0, 0, true⟩)] } }
     s.Inv ∧ s.rd od2450_STATE 0 ≠ 0 ∧ (s.gateRun 0).waits = true ∧ gateAt (s.gateRun 0).began (s.gateRun 0).off ≤ s.gateNow 0) ∧
    (let s := { st (portOd 2 ++ [(od2450_STATE, 0, 2)]) with tm := { TrafficMgr.reset with gates := [(0, ⟨0, 0, 0, false⟩)] } }
     s.Inv ∧ s.rd od2450_STATE 0 ≠ 0 ∧ (s.gateRun 0).waits = false ∧
     gateAt (s.gateRun 0).began ((s.gateRun 0).off + gateNs (s.gateWord 0 (s.rd od2450_CURRENT 0))) ≤ s.gateNow 0) ∧
    (let s := { st (portOd 2 ++ [(od2400_TYPE, 5, 1), (od2400_PORT, 5, 0)]) with time := { TimeState.reset with ctr := ⟨2 ^ 90, 2 ^ 90, 2 ^ 90, 2 ^ 90⟩ } }
     s.Inv ∧ s.rd od2400_TYPE 5 ≠ 0 ∧ (s.sampleDue 5 (s.queueQuad 5)).isSome = true) :=
  ⟨⟨inv_of (by decide +kernel), by decide +kernel⟩, ⟨inv_of (by decide +kernel), by decide +kernel⟩,
   ⟨inv_of (by decide +kernel), by decide +kernel⟩, ⟨inv_of (by decide +kernel), by decide +kernel⟩,
   ⟨inv_of (by decide +kernel), by decide +kernel⟩, ⟨inv_of (by decide +kernel), by decide +kernel⟩,
   inv_of (by decide +kernel), by decide +kernel⟩

/-! ## Time, triggers, management -/

/-- Port 0 times its link. -/
def timed (up : Nat) : List (Ent × Nat × Nat) :=
  [(od2000_SOURCE, 0, 1), (od2118_STATE, 0, 3), (od2000_UPSTREAM_PORT, 0, up), (od2000_TIME_PORTS, 0, 1)]

/-- TimeCommandsComplete: SYNC, REPLY and FOLLOW on port 0; an exchange period; a source timed out; the holdover limit. -/
theorem witness_time :
    (let s := st (timed 5)
     s.Inv ∧ s.timeLink 0 = true ∧ s.timesPort 0 = true) ∧
    (let s := { st (timed 5) with tr := { Transport.reset with timex := [(0, { timexNew with sent := some (4, 100) })] } }
     s.Inv ∧ s.timeLink 0 = true ∧ s.timesPort 0 = true ∧ (s.timexOf 0).sent = some (4, 100)) ∧
    (let s := { st (timed 0) with tr := { Transport.reset with timex := [(0, { timexNew with replied := some (4, 100, 120, 1) })] } }
     s.Inv ∧ s.timeLink 0 = true ∧ s.rd od2000_SOURCE 0 = 1 ∧ s.rd od2000_UPSTREAM_PORT 0 = 0 ∧
       (s.timexOf 0).replied = some (4, 100, 120, 1)) ∧
    (let s := { st (timed 0) with time := { TimeState.reset with ctr := quadAll (2 ^ 72) } }
     s.Inv ∧ ftToNs (s.ft 0) / 64000 ≠ s.time.tickExch) ∧
    (let s := { st (timed 0 ++ [(od2000_QUALITY, 0, 0)]) with time := { TimeState.reset with span := 2 ^ 82 } }
     s.Inv ∧ s.sourceTimeout.isSome = true ∧ s.rd od2000_QUALITY 0 = 0 ∧ s.past s.time.lastSample (s.sourceTimeout.getD 0) = true) ∧
    (let s := { st [(od2000_QUALITY, 0, 1)] with time := { TimeState.reset with holdover := some 0, span := 2 ^ 102 } }
     s.Inv ∧ s.time.holdover = some 0 ∧ s.rd od2000_QUALITY 0 = 1 ∧ s.past 0 (s.rd od2000_HOLDOVER_LIMIT 0 * 1000000000) = true) :=
  ⟨⟨inv_of (by decide +kernel), by decide +kernel⟩, ⟨inv_of (by decide +kernel), by decide +kernel⟩,
   ⟨inv_of (by decide +kernel), by decide +kernel⟩, ⟨inv_of (by decide +kernel), by decide +kernel⟩,
   ⟨inv_of (by decide +kernel), by decide +kernel⟩, inv_of (by decide +kernel), by decide +kernel⟩

/-- TheJournalTakesARecord, at level 3 and below it. -/
theorem witness_journal :
    (let s := { st [(od4100_DEBUG_EFFECTIVE, 0, 3)] with time := { TimeState.reset with span := 2 ^ 102 } }
     s.Inv ∧ s.past s.time.journalAt (s.rd od5020_JOURNAL_INTERVAL 0 * 1000000000) = true ∧ s.coresRun = true ∧
       s.rd od4100_DEBUG_EFFECTIVE 0 = 3) ∧
    (let s := { State.reset with time := { TimeState.reset with span := 2 ^ 102 } }
     s.Inv ∧ s.past s.time.journalAt (s.rd od5020_JOURNAL_INTERVAL 0 * 1000000000) = true ∧ s.coresRun = true ∧
       s.rd od4100_DEBUG_EFFECTIVE 0 ≠ 3) :=
  ⟨⟨inv_of (by decide +kernel), by decide +kernel⟩, inv_of (by decide +kernel), by decide +kernel⟩

/-- Slot 0 of herd 1 armed for a step of context 0 at time 0. -/
def slotOd (action target : Nat) : List (Ent × Nat × Nat) :=
  [(od2010_STATE, 0, 1), (od2010_ACTION, 0, action), (od2010_TARGET, 0, target), (od2010_HERD, 0, 1), (od2800_STATE, 1, 2)]

theorem slotDue_of {s : State} {n : TrigId} {a : Nat} (h : s.slotArmed n.val = true ∧ s.rd od2010_ACTION n.val = a ∧
    s.rd od2010_TIME n.val ≤ s.ft (slotQuad n.val) ∧ s.slotFirst n.val = true) : SlotDue s n a := ⟨h.1, h.2.1, h.2.2.1, h.2.2.2⟩

/-- TriggersFireOrMiss: a slot that fires, and one whose target has no owner. -/
theorem witness_trigger :
    (let s := st (slotOd 0 0)
     s.Inv ∧ SlotDue s 0 0 ∧ s.missRow 0 (lateRow s 0) = 0) ∧
    (let s := st (slotOd 2 9)
     s.Inv ∧ SlotDue s 0 2 ∧ s.missRow 0 (lateRow s 0) ≠ 0) :=
  ⟨⟨inv_of (by decide +kernel), slotDue_of (by decide +kernel), by decide +kernel⟩,
   inv_of (by decide +kernel), slotDue_of (by decide +kernel), by decide +kernel⟩

/-- Path J open. -/
def openJ : State := st jiyth

/-- AcceptedAccessesTakeEffect: HERD_CONFIGURE of a free herd; LOG_NEXT; the advance of a blank device to PROVISIONED. -/
theorem witness_accepted :
    (openJ.Inv ∧ PathFree openJ .j ∧ isN ⟨0x2800, 1⟩ = false ∧
     ((accessed openJ).odCheck (putAcc .j od2800_STATE 1 1)).isRight = true ∧ ((accessed openJ).applyHerd 1 1 1).1 = abOk ∧
     ((accessed openJ).applyHerd 1 1 1).2.queueOf .j = []) ∧
    (((accessed openJ).odCheck ⟨false, .j, addrOf od4430_LOG_NEXT 0, [], 64, 0, .direct, .plain⟩).isRight = true ∧
      (accessed openJ).logNext.1.length ≤ 64 ∧ (accessed openJ).logNext.2.queueOf .j = []) ∧
    (let s := { openJ with sec := { Security.reset with life := 0 } }
     s.Inv ∧ PathFree s .j ∧ (accessed s).provisionWrite.1 = abOk ∧ (accessed s).provisionWrite.2.queueOf .j = []) :=
  ⟨⟨inv_of (by decide +kernel), ⟨by decide +kernel, rfl⟩, by decide +kernel⟩, by decide +kernel, inv_of (by decide +kernel),
   ⟨by decide +kernel, rfl⟩, by decide +kernel⟩

/-- RefusedWritesChangeNothing: no such object; a move of Table 1.5 that is not listed; a closed path; a full queue. -/
theorem witness_refused :
    (openJ.Inv ∧ PathFree openJ .j ∧ (accessed openJ).odCheck (writeAcc .j ⟨0x1FFF, 1, 0⟩ [0] .plain) = .inl abNoObject ∧
      openJ.odCheck (writeAcc .j ⟨0x1FFF, 1, 0⟩ [0] .plain) = .inl abNoObject ∧ abNoObject ≠ abOk) ∧
    (((accessed openJ).odCheck (putAcc .j od2800_STATE 1 2)).isRight = true ∧ ((accessed openJ).applyHerd 1 1 2).1 = abRange) ∧
    (State.reset.Inv ∧ State.reset.pathOpen .j = false) ∧
    (let s := { openJ with mg := { Mgmt.reset with queueJ := List.replicate (pathDepth .j) (writeAcc .j ⟨0x1FFF, 1, 0⟩ [0] .plain) } }
     s.Inv ∧ s.pathOpen .j = true ∧ pathDepth .j ≤ (s.queueOf .j).length) :=
  ⟨⟨inv_of (by decide +kernel), ⟨by decide +kernel, rfl⟩, by decide +kernel⟩, by decide +kernel,
   ⟨inv_of (by decide +kernel), by decide +kernel⟩, inv_of (by decide +kernel), by decide +kernel⟩

/-- StoredWritesWaitForBothCopies: an N entry written on path J; the area programmed, with a copy that fails and without. -/
theorem witness_stored :
    (openJ.Inv ∧ openJ.queueOf .j = [] ∧ openJ.queueOf .b = [] ∧ PathFree openJ .j ∧ openJ.mg.conf = none ∧ isN od4110_VELVET_TIMEOUT = true ∧
     (openJ.odCheck (putAcc .j od4110_VELVET_TIMEOUT 0 600)).isRight = true) ∧
    (let a := putAcc .j od4110_VELVET_TIMEOUT 0 600
     let s := { openJ with mg := { Mgmt.reset with conf := some .j, queueJ := [a] } }
     let v := ({ s with mg := { s.mg with conf := none } }.setQueue .j []).programConf a true true
     s.Inv ∧ s.mg.conf = some .j ∧ s.queueOf .j = [a] ∧ s.queueOf .b = [] ∧ (v.execOd a).queueOf .j = [] ∧ (v.execOd a).queueOf .b = []) :=
  ⟨⟨inv_of (by decide +kernel), by decide +kernel, by decide +kernel, ⟨by decide +kernel, rfl⟩, by decide +kernel⟩,
   inv_of (by decide +kernel), by decide +kernel⟩

/-- MessagesAreAccesses, ManagementWiresComplete: both paths open; the last slot and the first that does not exist; a memory access
at level 3 within an extent of an open herd, of a sealed one, and outside. -/
theorem witness_messages :
    openJ.Inv ∧ openJ.pathOpen .j = true ∧ openJ.pathOpen .b = true ∧ (63 : Word64).toNat < 64 ∧ 64 ≤ (64 : Word64).toNat := 
  ⟨inv_of (by decide +kernel), by decide +kernel⟩

/-- Extent 1 with debug level 3, its herd at a LEVEL. -/
def debugged (level : Nat) : State := st (extOd 0 ++ [(od4100_DEBUG_EFFECTIVE, 0, 3), (od2800_LEVEL, 1, level)])

theorem witness_jtag :
    ((debugged 0).Inv ∧ (debugged 0).rd od4100_DEBUG_EFFECTIVE 0 = 3 ∧ (debugged 0).jtagReach 1 2097144 8 = true ∧
      (debugged 0).sealedHerd ((debugged 0).extHerd 1) = false) ∧
    ((debugged 2).Inv ∧ (debugged 2).rd od4100_DEBUG_EFFECTIVE 0 = 3 ∧ (debugged 2).jtagReach 1 2097144 8 = true ∧
      (debugged 2).sealedHerd ((debugged 2).extHerd 1) = true) ∧
    (debugged 0).jtagReach 1 2097145 8 = false :=
  ⟨⟨inv_of (by decide +kernel), by decide +kernel⟩, ⟨inv_of (by decide +kernel), by decide +kernel⟩, by decide +kernel⟩

/-! ## The pool and coherence -/

/-- Extent 1 with a change, `up` units of the model's time after it began. -/
def changing (op up : Nat) : State :=
  let s := st (extOd 0)
  { s with pool := { s.pool with changes := [⟨1, op, 0, 0⟩] }, time := { TimeState.reset with span := up } }

/-- ChangesSwitchOrAreAbandoned, before and after the deadline. -/
theorem witness_changes :
    (let s := changing 8 0
     s.Inv ∧ s.changeOf 1 = some ⟨1, 8, 0, 0⟩ ∧ s.deadlineGone 0 = false ∧ s.own.any (fun o => o.ext == 1 && o.state == 2) = false) ∧
    (let s := changing 8 (2 ^ 82)
     s.Inv ∧ s.changeOf 1 = some ⟨1, 8, 0, 0⟩ ∧ s.past 0 (s.rd od2840_COMPOSITION_DEADLINE 0 * 1000) = true) :=
  ⟨⟨inv_of (by decide +kernel), by decide +kernel⟩, inv_of (by decide +kernel), by decide +kernel⟩

/-- Extent 1 with a revoke at a step. -/
def revoking (op step up : Nat) : State :=
  let s := st (extOd 0)
  { s with pool := { s.pool with revokes := [⟨1, op, 2, 0, step⟩] }, time := { TimeState.reset with span := up } }

/-- RevokesDrainAndFree: nothing left; the timeout; step 4 of a REVOKE, of a SHRINK and of an UNSHARE. -/
theorem witness_revokes :
    (let s := revoking 6 2 (2 ^ 82)
     s.Inv ∧ s.revokeAt 1 2 = some ⟨1, 6, 2, 0, 2⟩ ∧ s.revokeLeft ⟨1, 6, 2, 0, 2⟩ = [] ∧ s.past 0 (s.rd od2840_REVOKE_TIMEOUT 0 * 1000) = true) ∧
    ((revoking 6 3 0).Inv ∧ (revoking 6 3 0).revokeAt 1 3 = some ⟨1, 6, 2, 0, 3⟩) ∧
    (∀ op ∈ [3, 9], (revoking op 3 0).Inv ∧ (revoking op 3 0).revokeAt 1 3 = some ⟨1, op, 2, 0, 3⟩ ∧
      ∀ h ∈ ((revoking op 3 0).extHerds 1).tail, (revoking op 3 0).herdState h ≠ 3) := by
  refine ⟨⟨inv_of (by decide +kernel), by decide +kernel⟩, ⟨inv_of (by decide +kernel), by decide +kernel⟩, ?_⟩
  simp only [List.forall_mem_cons, List.not_mem_nil, false_imp_iff, implies_true, and_true]
  exact ⟨⟨inv_of (by decide +kernel), by decide +kernel⟩, inv_of (by decide +kernel), by decide +kernel⟩

/-- Granule 0 of extent 1 with a descriptor. -/
def granule (g : Gran) (l : List (Ent × Nat × Nat)) : State :=
  let s := st (extOd 0 ++ l)
  { s with pool := { s.pool with gran := [(2 ^ 32, g)], frames := [(5, ⟨1, 0, 0⟩)] } }

/-- TheTiersWork: a fill ends; a clean granule may be evicted; a chunk of T1 is zeroed; a chunk of T2 is cleaned; a block expands; a
granule moves to another place of its tier. -/
theorem witness_tiers :
    (let s := granule { granNew with tier := 2, cached := true, frame := 5 } []
     s.Inv ∧ s.readsOut 1 0 = false ∧ s.trayLost 1 0 = false ∧ s.evictable 1 0 = true ∧ (s.gran 1 0).tier = 2 ∧ s.mayClean 1 0 7 = true) ∧
    (let s := granule { granNew with tier := 1 } [(od2C00_SCRUB_RATE, 0, 1)]
     s.Inv ∧ s.rd od2C00_SCRUB_RATE 0 ≠ 0 ∧ (s.gran 1 0).tier = 1 ∧ s.trayLost 1 0 = false ∧
       ∀ kv ∈ s.pool.gran, ¬ (kv.2.tier = 1 ∧ kv.2.loc = 9)) ∧
    (let s0 := st (extOd 0 ++ [(od2820_CSTATE, 1, 2)])
     let s := { s0 with pool := { s0.pool with held := [⟨.expand, 1, 7, [], req1⟩] } }
     s.Inv ∧ s.mode = 0 ∧ s.flushMode = false ∧ s.rd od2820_CSTATE 1 = 2 ∧
       s.pool.held.any (fun h => h.why == .expand && h.ext == 1 && h.place == 7) = true ∧ (s.expandBlock 1 7).isSome = true) :=
  ⟨⟨inv_of (by decide +kernel), by decide +kernel⟩, ⟨inv_of (by decide +kernel), by decide +kernel⟩, inv_of (by decide +kernel), by decide +kernel⟩

/-- TheTiersWork: a frame that a cached granule may move to: way 6 of its set, which is free. -/
theorem witness_move :
    let s := granule { granNew with tier := 2, cached := true, frame := 5 } []
    let f := 16 * s.setOf (s.gran 1 0) + 6
    s.Inv ∧ (s.gran 1 0).tier = 2 ∧ (s.gran 1 0).cached = true ∧ (s.gran 1 0).moving = false ∧ s.frame f = frameNone ∧
    f < s.cacheSets * 16 ∧ f / 16 = s.setOf (s.gran 1 0) ∧ f % 16 ∈ s.waysOf (s.extHerd 1) := by
  intro s f
  have hs : s.setOf (s.gran 1 0) < s.cacheSets := Nat.mod_lt _ (by decide +kernel)
  have h5 : f ≠ 5 := by simp only [f]; omega
  refine ⟨inv_of (by decide +kernel), by decide +kernel, by decide +kernel, by decide +kernel, ?_, by simp only [f]; omega, by simp only [f]; omega, ?_⟩
  · show sparseGet frameNone [(5, CacheFrame.mk 1 0 0)] f = frameNone
    simp only [sparseGet]; split
    · omega
    · split <;> rfl
  · rw [show f % 16 = 6 by simp only [f]; omega]
    decide +kernel

/-- Extent 1 in class H, with a line of tine 3 and a message for it. -/
def agent3 (x : Option AgentLine) (m : List CohMsg) (t : List LineTxn) (up : Nat) : State :=
  let s := st (extOd 2)
  { s with time := { TimeState.reset with span := up }, coh := { s.coh with msgs := m, txns := t, agents := match x with | some y => [(agentKey 3 (lineNo 1 0), y)] | none => [] } }

/-- The transaction of a line for agent 4. -/
def txn4 : LineTxn := ⟨lineNo 1 0, some 4, true, none, some 1, 0, none, false⟩

/-- The line of extent 1 with an entry of the directory. -/
def dir1 (s : State) (d : DirEntry) : State := { s with coh := { s.coh with dir := [(lineNo 1 0, d)] } }

/-- AgentsExchangeLines: GETS of a line not held, of one that is poisoned and of one in rut; PUTS of an S line; PUTM of an M line
that the agent does not own, of one that it owns, and of one that is probed. -/
theorem witness_gets :
    (let s := agent3 none [] [] 0
     let u := s.rutCount (lineNo 1 0)
     s.Inv ∧ s.hLine 1 0 = true ∧ s.agentWorks 3 = true ∧ s.held 3 (lineNo 1 0) = none ∧ u.inRut (lineNo 1 0) = false ∧
       (u.dirOf (lineNo 1 0)).state ≠ .p ∧ u.askedLine 3 (lineNo 1 0) = false ∧ u.cacheRoom 3 = true) ∧
    (let s := dir1 (agent3 none [] [] 0) dirPoison
     let u := s.rutCount (lineNo 1 0)
     s.Inv ∧ s.hLine 1 0 = true ∧ s.agentWorks 3 = true ∧ s.held 3 (lineNo 1 0) = none ∧ u.inRut (lineNo 1 0) = false ∧
       (u.dirOf (lineNo 1 0)).state = .p) ∧
    (let s0 := agent3 none [] [] 0
     let s := { s0 with coh := { s0.coh with rut := [⟨lineNo 1 0, 0, false, false, [], [], 0⟩] } }
     s.Inv ∧ s.hLine 1 0 = true ∧ s.agentWorks 3 = true ∧ s.held 3 (lineNo 1 0) = none ∧ (s.rutCount (lineNo 1 0)).inRut (lineNo 1 0) = true) :=
  ⟨⟨inv_of (by decide +kernel), by decide +kernel⟩, ⟨inv_of (by decide +kernel), by decide +kernel⟩, inv_of (by decide +kernel), by decide +kernel⟩

theorem witness_puts :
    (let s := agent3 (some ⟨.s, [1]⟩) [] [] 0
     s.Inv ∧ s.hLine 1 0 = true ∧ s.held 3 (lineNo 1 0) = some ⟨.s, [1]⟩) ∧
    (let s := agent3 (some ⟨.m, [1]⟩) [] [] 0
     s.Inv ∧ s.held 3 (lineNo 1 0) = some ⟨.m, [1]⟩ ∧ s.owns 3 (lineNo 1 0) = false) ∧
    (∀ m : List CohMsg, (m = [] ∨ m = [⟨.fwds, 3, 4, lineNo 1 0, [], 0, none, 0⟩]) →
     let s := dir1 (agent3 (some ⟨.m, [1]⟩) m [] 0) (dirOwned 3)
     let o := s.ownedData 3 ⟨.m, [1]⟩
     let v := (((o.2.traceCoh 3 3 257 (lineNo 1 0)).setHeld 3 (lineNo 1 0) none).dirTouch (lineNo 1 0)).writeBack (lineNo 1 0) o.1
     s.Inv ∧ s.held 3 (lineNo 1 0) = some ⟨.m, [1]⟩ ∧ s.owns 3 (lineNo 1 0) = true ∧
       v.coh.msgs.find? (fun m => m.agent == 3 && m.line == lineNo 1 0 && (m.kind == .fwds || m.kind == .fwdm || m.kind == .fwdr)) = m.head? ∧
       v.lineBusy (lineNo 1 0) = false) := by
  refine ⟨⟨inv_of (by decide +kernel), by decide +kernel⟩, ⟨inv_of (by decide +kernel), by decide +kernel⟩, fun m h => ?_⟩
  rcases h with rfl | rfl
  · exact ⟨inv_of (by decide +kernel), by decide +kernel⟩
  · exact ⟨inv_of (by decide +kernel), by decide +kernel⟩

/-- ProbesAndTransactionsEnd: a forward to an owner; an INV; an INVACK, DATA and COMPACK of a transaction; a probe timeout. -/
theorem witness_probes :
    (let m : CohMsg := ⟨.fwds, 3, 4, lineNo 1 0, [], 0, none, 0⟩
     let s := agent3 (some ⟨.m, [1]⟩) [m] [] 0
     s.hLine 1 0 = true ∧ s.agentWorks 3 = true ∧ s.held 3 (lineNo 1 0) = some ⟨.m, [1]⟩ ∧ inFlight s .fwds 3 (lineNo 1 0) = some m) ∧
    (let m : CohMsg := ⟨.inv, 3, 4, lineNo 1 0, [], 0, none, 0⟩
     let s := agent3 (some ⟨.s, [1]⟩) [m] [] (2 ^ 82)
     s.Inv ∧ s.hLine 1 0 = true ∧ inFlight s .inv 3 (lineNo 1 0) = some m ∧ s.past m.sent (s.rd od3000_PROBE_TIMEOUT 0 * 1000) = true) ∧
    (∀ k ∈ [CohKind.invack, .data, .compack],
      let m : CohMsg := ⟨k, 3, 4, lineNo 1 0, [], 0, some .m, 0⟩
      let s := agent3 none [m] [txn4] 0
      s.hLine 1 0 = true ∧ s.txnOf (lineNo 1 0) = some txn4 ∧ inFlight s k 3 (lineNo 1 0) = some m) ∧
    (agent3 none [] [txn4] 0).Inv :=
  ⟨by decide +kernel, ⟨inv_of (by decide +kernel), by decide +kernel⟩, by decide +kernel, inv_of (by decide +kernel)⟩

/-- A line of extent 1 in rut. -/
def rutLine (loaded : Bool) : RutLine :=
  ⟨lineNo 1 0, 0, loaded, false, if loaded then [⟨7, none, false, req1⟩] else [], [⟨7, none, false, req1⟩], 0⟩

/-- RutAndReadersComplete: a buffer that may be loaded; a loaded one with a request admitted; a window's end; a reader that is
late. -/
theorem witness_rut :
    (let s0 := granule { granNew with tier := 1 } []
     let s := { s0 with coh := { s0.coh with rut := [rutLine false] } }
     s.Inv ∧ s.halted = false ∧ s.coh.rut.find? (fun x => x.line == lineNo 1 0) = some (rutLine false) ∧ s.rutReady (lineNo 1 0) = true) ∧
    (let s0 := granule { granNew with tier := 1 } []
     let s := { s0 with coh := { s0.coh with rut := [rutLine true] } }
     s.Inv ∧ s.halted = false ∧ s.coh.rut.find? (fun x => x.line == lineNo 1 0) = some (rutLine true) ∧ s.lineBusy (lineNo 1 0) = false ∧
       s.mayStart (lineNo 1 0) = true ∧ (rutLine true).admitted ≠ []) ∧
    (let s := { State.reset with time := { TimeState.reset with span := 2 ^ 82 } }
     s.Inv ∧ s.halted = false ∧ s.past (quadGet s.coh.window 0) (quadGet s.coh.rutSet 0).2.1 = true ∧ s.coh.rut = []) ∧
    (let r : PubRound := ⟨1, req1, [(6, 8)], 0⟩
     let s := { State.reset with time := { TimeState.reset with span := 2 ^ 102 }, coh := { Coherence.reset with rounds := [r] } }
     s.Inv ∧ s.halted = false ∧ s.coh.rounds.find? (fun p => p.ext == 1 && p.left.any (fun x => x.1 == 6)) = some r ∧
       s.past r.sentAt (s.rd od3000_INVAL_TIMEOUT 0 * 1000) = true) :=
  ⟨⟨inv_of (by decide +kernel), by decide +kernel⟩, ⟨inv_of (by decide +kernel), by decide +kernel⟩,
   ⟨inv_of (by decide +kernel), by decide +kernel⟩, inv_of (by decide +kernel), by decide +kernel⟩

/-! ## Commands and collectives -/

/-- Ring 1 of herd 1 with one descriptor of zeros, a NOP, and ring 2 for its records in a STATE. -/
def ringOd (event : Nat) : List (Ent × Nat × Nat) :=
  extOd 0 ++ [(od2400_TYPE, 1, 2), (od3410_STATE, 1, 1), (od3410_HERD, 1, 1), (od3410_BASE, 1, 2097152), (od3410_CTRL, 1, 2097152),
    (od3410_SLOTS, 1, 16), (od3410_EVENT, 1, 2), (od2400_TYPE, 2, 3), (od3410_STATE, 2, event), (od3410_HERD, 2, 1), (od3410_CTRL, 2, 2097152),
    (od3410_SLOTS, 2, 16)]

/-- That ring with its producer index at 1. -/
def ringed (event mode : Nat) : State :=
  let s := st (ringOd event ++ [(od4400_MODE, 0, mode)])
  { s with cpu := { s.cpu with rings := [(1, ⟨1, 0, [], 0⟩)] } }

/-- CommandsLaunchAndComplete: a ring whose first command can launch; one whose command the mode bars; one that must wait; a command
that is over. -/
theorem witness_launch :
    ((ringed 1 0).Inv ∧ (ringed 1 0).halted = false ∧ (ringed 1 0).servedRings = [1] ∧ (ringed 1 0).launchWay ((ringed 1 0).firstCmd 1) = .go []) ∧
    ((ringed 1 1).Inv ∧ (ringed 1 1).servedRings = [1] ∧ (ringed 1 1).launchWay ((ringed 1 1).firstCmd 1) = .fail eDegraded true) ∧
    ((ringed 0 0).Inv ∧ (ringed 0 0).servedRings = [1] ∧ (ringed 0 0).launchWay ((ringed 0 0).firstCmd 1) = .wait) :=
  ⟨⟨inv_of (by decide +kernel), by decide +kernel, by decide +kernel, rfl⟩, ⟨inv_of (by decide +kernel), by decide +kernel, rfl⟩,
   inv_of (by decide +kernel), by decide +kernel, rfl⟩

/-- A command of a KIND in flight, with word 3 and a phase. -/
def inFlightCmd (kind word3 phase : Nat) (finished : Bool) (l : List (Ent × Nat × Nat)) : State :=
  let s := st (extOd 0 ++ l)
  { s with cpu := { s.cpu with cmds := [{ cmd1 with desc := [kind * 2 ^ 56, 2097152, 0, word3, 0, 0, 0, 0], finished := finished, work := ⟨phase, 0, 0, [], [], [], []⟩ }] } }

theorem witness_completion :
    let s := inFlightCmd 0 0 0 true []
    let c : Cmd := { cmd1 with desc := [0, 2097152, 0, 0, 0, 0, 0, 0], finished := true }
    let v := (s.setCmd { s.cmdEnds c with code := some 0, finished := true }).endProfile c 0
    s.Inv ∧ s.halted = false ∧ s.cmd 1 = some c ∧ c.work.phase ≠ recordedPhase ∧ s.overWith c = some 0 ∧ v.ioSettled 1 = true ∧
      (v.cmd 1).isSome = true :=
  ⟨inv_of (by decide +kernel), by decide +kernel⟩

/-- A command that is over while a store of its unit is on its way. -/
theorem witness_completion_waits :
    let c : Cmd := { cmd1 with finished := true, work := ⟨0, 0, 0, [], [], [⟨2097152, true, none, []⟩], []⟩ }
    let s := { st (extOd 0) with cpu := { Compute.reset with cmds := [c] } }
    let v := (s.setCmd { s.cmdEnds c with code := some 0, finished := true }).endProfile c 0
    s.Inv ∧ s.halted = false ∧ s.cmd 1 = some c ∧ c.work.phase ≠ recordedPhase ∧ s.overWith c = some 0 ∧ v.ioSettled 1 = false ∧
      (v.cmd 1).isSome = true :=
  ⟨inv_of (by decide +kernel), by decide +kernel⟩

theorem inFlight_of {s : State} {cid kind : Nat} {c : Cmd} (h : s.cmd cid = some c ∧ c.finished = false ∧ c.kind = kind ∧ s.halted = false ∧
    s.flushMode = false) : InFlight s cid kind c := ⟨h.1, h.2.1, h.2.2.1, h.2.2.2.1, h.2.2.2.2⟩

/-- UnitsTakeUpTheirCommands: a NOP, and a KERNEL with two threads on a tine that has none. -/
theorem witness_unit :
    (let s := inFlightCmd 0 0 0 false []
     s.Inv ∧ InFlight s 1 0 { cmd1 with desc := [0, 2097152, 0, 0, 0, 0, 0, 0] }) ∧
    (let s := inFlightCmd 1 (2 ^ 56 + 2 * 2 ^ 48) 0 false []
     let c : Cmd := { cmd1 with desc := [2 ^ 56, 2097152, 0, 2 ^ 56 + 2 * 2 ^ 48, 0, 0, 0, 0] }
     s.Inv ∧ InFlight s 1 1 c ∧ c.work.phase = 0 ∧ c.tines = [0] ∧ (s.tine 0).threads = [] ∧ bitsOf (c.word 3) 55 48 = 2) :=
  ⟨⟨inv_of (by decide +kernel), inFlight_of (by decide +kernel)⟩, inv_of (by decide +kernel), inFlight_of (by decide +kernel), by decide +kernel⟩

/-- MatchAndAttentionCommandsComplete: a search outside normal mode, of a set that is not active, of one that is; an update of no
record; a page task without rows; a command that waits for an even EPOCH. -/
theorem witness_match :
    (let s := inFlightCmd 0x30 0 0 false [(od4400_MODE, 0, 1)]
     let c : Cmd := { cmd1 with desc := [0x30 * 2 ^ 56, 2097152, 0, 0, 0, 0, 0, 0] }
     s.Inv ∧ InFlight s 1 0x30 c ∧ s.mode ≠ 0) ∧
    (let s := inFlightCmd 0x30 0 0 false []
     let c : Cmd := { cmd1 with desc := [0x30 * 2 ^ 56, 2097152, 0, 0, 0, 0, 0, 0] }
     s.Inv ∧ InFlight s 1 0x30 c ∧ s.mode = 0 ∧ s.cmdSet c = none) ∧
    (let s := inFlightCmd 0x32 (2 ^ 32) 0 false [(od4010_STATE, 0, 1), (od4010_HERD, 0, 1), (od4010_COUNT, 0, 4)]
     let c : Cmd := { cmd1 with desc := [0x32 * 2 ^ 56, 2097152, 0, 2 ^ 32, 0, 0, 0, 0] }
     s.Inv ∧ InFlight s 1 0x32 c ∧ s.mode = 0 ∧ s.cmdSet c = some 0 ∧
       (s.unitLoad 1 (s.tableEp c) 1 (c.word 1) 64).1 = .got eOk (List.replicate 64 0) ∧ recordReservedOk 0 = true ∧ recWord 0 7 < s.rd od4010_COUNT 0) :=
  ⟨⟨inv_of (by decide +kernel), inFlight_of (by decide +kernel), by decide +kernel⟩,
   ⟨inv_of (by decide +kernel), inFlight_of (by decide +kernel), by decide +kernel⟩,
   inv_of (by decide +kernel), inFlight_of (by decide +kernel), by decide +kernel, by decide +kernel, rfl, by decide +kernel⟩

/-- A page task that runs on tine 0 and names no section. -/
def task0 : PageTask := ⟨0, 0, none, none, 1, 1, 0, 16, some 0, 0, none, []⟩

theorem witness_attention :
    (let s0 := inFlightCmd 0x20 0 4 false []
     let c : Cmd := { cmd1 with desc := [0x20 * 2 ^ 56, 2097152, 0, 0, 0, 0, 0, 0], work := ⟨4, 0, 0, [], [task0], [], []⟩ }
     let s := { s0 with cpu := { s0.cpu with cmds := [c] } }
     s.Inv ∧ InFlight s 1 0x20 c ∧ c.work.tasks[0]? = some task0 ∧ c.work.phase = 4 ∧ task0.tine.isSome = true ∧ task0.code = none ∧
       task0.kaddr = none) ∧
    (let c : Cmd := { cmd1 with desc := [0x20 * 2 ^ 56, 2097152, 0, 0, 0, 0, 0, 0], work := ⟨2, 0, 0, [0, 0, 0], [], [], []⟩ }
     let s := { st (extOd 0) with cpu := { Compute.reset with cmds := [c] }, time := { TimeState.reset with span := 2 ^ 102 } }
     s.Inv ∧ s.cmd 1 = some c ∧ s.halted = false ∧ editing c = true ∧ s.past (c.num 2) 1000 = true ∧
       s.past c.work.since (s.rd od3C00_EDIT_TIMEOUT 0 * 1000) = true) :=
  ⟨⟨inv_of (by decide +kernel), inFlight_of (by decide +kernel), by decide +kernel⟩, inv_of (by decide +kernel), by decide +kernel⟩

/-- A page list at the start of extent 1: one KV head, one segment, one block. -/
def listed : State :=
  let s := granule { granNew with tier := 1, zmask := 0 } []
  { s with
    pool := { s.pool with mem := [(2 ^ 48 + 8, 1), (2 ^ 48 + 10, 1), (2 ^ 48 + 12, 1), (2 ^ 48 + 49, 0x11)] }
    cpu := { s.cpu with cmds := [{ cmd1 with desc := [0x22 * 2 ^ 56, 2097152, 0, 2 ^ 24, 0, 7 * 2 ^ 48, 0, 0] }] } }

/-- OwnershipMovesAsTableNineSixSays: a CLAIM of a list without a record; a hand-off that has lasted too long. -/
theorem witness_own :
    (let c : Cmd := { cmd1 with desc := [0x22 * 2 ^ 56, 2097152, 0, 2 ^ 24, 0, 7 * 2 ^ 48, 0, 0] }
     let x := listed.unitLoad 1 (listed.walker (listed.listQuad c)) 1 (c.word 1) 128
     ownCommand (.ownClaim 1) = some (1, 1) ∧ listed.Inv ∧ InFlight listed 1 0x22 c ∧ bitsOf (c.word 3) 31 24 = 1 ∧ listed.mode ≠ 2 ∧
       listed.listPlace c.herd (c.word 1) = (eOk, 1) ∧ (∃ data, x.1 = .got eOk data) ∧
       x.2.listOk 1 (c.word 1) (wordsOf 16 (match x.1 with | .got _ d => d | .wait => [])) = true) ∧
    (let r : OwnRec := ⟨1, 2097152, 2, 7, 8, 4, 0⟩
     let s := { st (extOd 0) with own := [r], time := { TimeState.reset with ctr := quadAll (2 ^ 103) } }
     s.Inv ∧ s.own[0]? = some r ∧ r.state = 2 ∧ r.prep + usToFt (s.rd od3C20_HANDOFF_TIMEOUT 0) ≤ s.ft (s.extQuad r.ext)) :=
  ⟨⟨rfl, inv_of (by decide +kernel), inFlight_of (by decide +kernel), by decide +kernel, by decide +kernel, by decide +kernel, ⟨_, rfl⟩,
    by decide +kernel⟩, inv_of (by decide +kernel), by decide +kernel⟩

/-- RevokesReadersAndListsComplete: the list of that CLAIM is at its home here. The witnesses of its other clauses are those of
RevokesDrainAndFree and RutAndReadersComplete, the rut line with one request admitted, and a rut line on which nothing waits. -/
theorem witness_list :
    let c : Cmd := { cmd1 with desc := [0x22 * 2 ^ 56, 2097152, 0, 2 ^ 24, 0, 7 * 2 ^ 48, 0, 0] }
    listed.Inv ∧ InFlight listed 1 0x22 c ∧ bitsOf (c.word 3) 31 24 = 1 ∧ listed.mode ≠ 2 ∧ ListHere listed c 1 :=
  ⟨inv_of (by decide +kernel), inFlight_of (by decide +kernel), by decide +kernel, by decide +kernel, by constructor <;> decide +kernel⟩

theorem witness_rut_alone :
    let s0 := granule { granNew with tier := 1 } []
    let x : RutLine := { rutLine false with waiting := [] }
    let s := { s0 with coh := { s0.coh with rut := [x] } }
    s.Inv ∧ s.halted = false ∧ s.coh.rut.find? (fun x => x.line == lineNo 1 0) = some x ∧ s.rutReady (lineNo 1 0) = true ∧ x.waiting = [] ∧
    (rutLine true).admitted = [⟨7, none, false, req1⟩] :=
  ⟨inv_of (by decide +kernel), by decide +kernel⟩

/-- A collective header of context 0, toward an endpoint. -/
def coll0 (dst : Half) : CollHdr := ⟨0, false, false, false, 1, 9, dst, 0, 5, 0, 0, 0, 0, 0, 0, 0, 0, 0, 0⟩

/-- CollectiveFramesAndTimeoutsComplete: a CONTRIB; a PARTIAL and an ABORT for a reduce unit here, a RESULT and an ABORT for a group;
the step timeout of a root and of a node. -/
theorem witness_coll :
    (let s := st (portOd 1 ++ [(od2800_STATE, 1, 2)])
     s.Inv ∧ s.portUp 0 = true ∧ env0.seq.toNat = (s.link 0).rxSeq ∧ s.rd od2810_ROLE 0 = 1 ∧ s.herdActive (s.rd od2810_HERD 0) = true ∧
       s.rd od2810_HERD 0 ≠ 0xFFF ∧ tagFree s (.port 0) 5) ∧
    (let s := st (portOd 2 ++ [(odReduceEp 0, 0, 0x104)])
     s.Inv ∧ s.portUp 0 = true ∧ env0.seq.toNat = (s.link 0).rxSeq ∧ s.rd od2810_ROLE 0 = 2 ∧ (coll0 0x104).rlx = false ∧
       (coll0 0x104).dst.toNat = s.reduceEp 0 ∧ (coll0 0x104).dst ≠ 0xFFFF ∧ collReserved .abort (coll0 0x104) = true ∧
       s.psnApplied (collHere s .part ⟨0, env0, coll0 0x104, []⟩) = false ∧ s.psnApplied (collHere s .abort ⟨0, env0, coll0 0x104, []⟩) = false ∧
       (coll0 0xFFFF).dst = 0xFFFF ∧ s.psnApplied (collHere s .result ⟨0, env0, coll0 0xFFFF, []⟩) = false) ∧
    (let s0 := st [(od3800_STATE, 0, 1), (od3800_PARENT, 0, 0xFFFF)]
     let s := { s0 with time := { TimeState.reset with span := 2 ^ 102 }, co := { s0.co with ctxs := [(0, ⟨[{ stepNew 0 with first := some (0, 0, 0), fired := some (0, 0, 0) }], [], []⟩)] } }
     s.Inv ∧ (s.stepOf 0 (s.openStep 0)).first = some (0, 0, 0) ∧ (s.stepOf 0 (s.openStep 0)).fired = some (0, 0, 0) ∧ s.ctxRunning 0 = true ∧
       s.ctxRoot 0 = true ∧ s.past 0 (s.rd od3800_STEP_TIMEOUT 0 * 1000) = true ∧ s.rd od3800_MISSING 0 = 0) ∧
    (let s0 := st [(od3800_STATE, 0, 1), (od3800_PARENT, 0, 0x104)]
     let s := { s0 with time := { TimeState.reset with span := 2 ^ 102 }, co := { s0.co with ctxs := [(0, ⟨[{ stepNew 0 with first := some (0, 0, 0) }], [], []⟩)] } }
     s.Inv ∧ (s.stepOf 0 (s.openStep 0)).first = some (0, 0, 0) ∧ s.ctxRunning 0 = true ∧ s.ctxRoot 0 = false ∧
       s.past 0 (2 * s.rd od3800_STEP_TIMEOUT 0 * 1000) = true) :=
  ⟨⟨inv_of (by decide +kernel), by decide +kernel, by decide +kernel, by decide +kernel, by decide +kernel, by decide +kernel,
     by simp [tagFree]; decide +kernel⟩,
   ⟨inv_of (by decide +kernel), by decide +kernel⟩, ⟨inv_of (by decide +kernel), by decide +kernel⟩, inv_of (by decide +kernel), by decide +kernel⟩

/-! ## Ports and shelves -/

/-- Octet 0 as one port of eight lanes, with port 0 in a STATE. -/
def octet0 (state bad : Nat) : List (Ent × Nat × Nat) :=
  [(od2110_MODE, 0, 1), (od2118_STATE, 0, state), (od2118_WIDTH, 0, 8), (od2118_BAD_LANES, 0, bad)]

/-- Port 0 training at a stage, `up` units of the model's time after the stage began. -/
def trains (stage up : Nat) : State :=
  let s := st (octet0 2 0)
  { s with ports := { s.ports with train := [(0, ⟨stage, false, 0, 8, none⟩)] }, time := { TimeState.reset with span := up } }

theorem trainsAt_of {s : State} {p : PortId} {n : Nat} (h : s.rd od2118_STATE p.val = 2 ∧ s.halted = false ∧ s.isCxl p.val = false ∧
    (s.training p.val).stage = n) : TrainsAt s p n := ⟨h.1, h.2.1, h.2.2.1, h.2.2.2⟩

/-- PortsFailAndTryAgain: a lane of no port; the first and the last lane of a port that is up, or suppressed; a port that uses four of its lanes;
a stage that is over; a retry; a port suppressed, below REUSE and not. -/
theorem witness_ports :
    (State.reset.Inv ∧ State.reset.portOfLane 0 = none) ∧
    (∀ n ∈ [3, 4], let s := st (octet0 n 0)
     s.Inv ∧ s.portOfLane 0 = some (0, 0) ∧ s.portOfLane 7 = some (0, 7) ∧ s.isCxl 0 = false ∧ sparseGet 0 s.ports.laneAt 0 = 0 ∧
       s.rd od2118_WIDTH 0 = 8 ∧ s.rd od2118_STATE 0 = n) ∧
    (let s := st (octet0 3 0 ++ [(od2118_WIDTH, 0, 4)])
     s.Inv ∧ s.portOfLane 4 = some (0, 4) ∧ sparseGet 0 s.ports.laneAt 0 + s.rd od2118_WIDTH 0 ≤ 4) ∧
    (∀ n ∈ [1, 2, 3, 4], (trains n (2 ^ 82)).past ((trains n (2 ^ 82)).training 0).since 500000000 = true) ∧
    (trains 1 (2 ^ 82)).Inv ∧ TrainsAt (trains 1 (2 ^ 82)) 0 1 ∧ TrainsAt (trains 2 (2 ^ 82)) 0 2 ∧ TrainsAt (trains 3 (2 ^ 82)) 0 3 ∧
    TrainsAt (trains 4 (2 ^ 82)) 0 4 ∧
    (let s0 := st (octet0 1 0)
     let s := { s0 with ports := { s0.ports with train := [(0, ⟨0, false, 0, 8, some 0⟩)] }, time := { TimeState.reset with span := 2 ^ 82 } }
     s.Inv ∧ (s.training 0).retry = some 0 ∧ s.rd od2118_STATE 0 = 1 ∧ s.mode ≠ 2 ∧ s.halted = false ∧ s.past 0 10000000 = true ∧
       lanesGood (s.rd od2118_BAD_LANES 0) (sparseGet 0 s.ports.laneAt 0) (s.training 0).width = true) ∧
    ((st (octet0 4 0)).Inv ∧ (st (octet0 4 0)).rd od2118_STATE 0 = 4 ∧ (st (octet0 4 0)).halted = false ∧
      (st (octet0 4 0)).penalty 0 < (st (octet0 4 0)).rd od2100_REUSE 0) ∧
    (let s0 := st (octet0 4 0)
     let s := { s0 with ports := { s0.ports with penaltyQ := [(0, 2 ^ 80)] } }
     s.Inv ∧ s.rd od2118_STATE 0 = 4 ∧ s.rd od2100_REUSE 0 ≤ s.penalty 0) := by
  simp only [List.forall_mem_cons, List.not_mem_nil, false_imp_iff, implies_true, and_true]
  exact
  ⟨⟨inv_of (by decide +kernel), by decide +kernel⟩,
   ⟨⟨inv_of (by decide +kernel), by decide +kernel⟩, inv_of (by decide +kernel), by decide +kernel⟩,
   ⟨inv_of (by decide +kernel), by decide +kernel⟩, by decide +kernel, inv_of (by decide +kernel), trainsAt_of (by decide +kernel),
   trainsAt_of (by decide +kernel), trainsAt_of (by decide +kernel), trainsAt_of (by decide +kernel),
   ⟨inv_of (by decide +kernel), by decide +kernel⟩, ⟨inv_of (by decide +kernel), by decide +kernel⟩, inv_of (by decide +kernel), by decide +kernel⟩

/-- PortsTrain: the end of stage 4 with another width, with a tag that does not verify, and well, below SUPPRESS and above. -/
theorem witness_train :
    let good : StageResult := ⟨[], 3, 0, 8, true, 64⟩
    let p0 := (trains 4 0)
    p0.Inv ∧ TrainsAt p0 0 4 ∧ ({ good with width := 4 } : StageResult).width.toNat ≠ p0.rd od2118_WIDTH 0 ∧
    good.width.toNat = p0.rd od2118_WIDTH 0 ∧ good.authOk = true ∧ ({ good with authOk := false } : StageResult).authOk = false ∧
    p0.penalty 0 ≤ p0.rd od2100_SUPPRESS 0 ∧
    (let s := { p0 with ports := { p0.ports with penaltyQ := [(0, 2 ^ 80)] } }
     s.Inv ∧ ¬ s.penalty 0 ≤ s.rd od2100_SUPPRESS 0) := by
  refine ⟨inv_of (by decide +kernel), trainsAt_of (by decide +kernel), by decide +kernel, by decide +kernel, by decide +kernel, by decide +kernel,
    by decide +kernel, inv_of (by decide +kernel), by decide +kernel⟩

/-- A record of reporter 2 about a link of this A9. -/
def record2 (st : BitVec 2) : LinkRecord := ⟨2, 5, st, 0x8300, 0, 100, 200⟩

/-- RoutesFollowLinkStates: a record that is not later; one that does not stand; one that stands, down and up; a destination whose
time has come without a hold that drains, and with one. -/
theorem witness_routes :
    (let s := State.reset
     s.Inv ∧ later (s.boardWrite (record2 1)) (record2 1) ∧ (record2 1).reporter.val ≠ (s.boardWrite (record2 1)).rd od2100_A9_NUMBER 0 ∧
       (seen (s.boardWrite (record2 1)) (record2 1)).recordStands (record2 1) (recordNames (s.boardWrite (record2 1)) (record2 1)) = true) ∧
    (let s := { State.reset with ports := { Ports.reset with lastSeq := [(2, 9)] } }
     s.Inv ∧ ¬ later (s.boardWrite (record2 1)) (record2 1)) ∧
    (let s := { State.reset with ports := { Ports.reset with known := [(0x8300, ⟨500, true, none, 7⟩)] } }
     s.Inv ∧ later (s.boardWrite (record2 2)) (record2 2) ∧
       (seen (s.boardWrite (record2 2)) (record2 2)).recordStands (record2 2) (recordNames (s.boardWrite (record2 2)) (record2 2)) = false) ∧
    (let s := { State.reset with ports := { Ports.reset with holds := [⟨3, 0, true⟩] } }
     s.Inv ∧ ∃ h ∈ s.linksBack.ports.holds, h.dest = 3 ∧ h.drain = true ∧ h.until_ ≤ s.linksBack.ft 0) ∧
    (∀ h ∈ State.reset.linksBack.ports.holds, h.dest = 3 → h.drain = true → State.reset.linksBack.ft 0 < h.until_) :=
  ⟨⟨inv_of (by decide +kernel), by unfold later; decide +kernel, by decide +kernel, by decide +kernel⟩,
   ⟨inv_of (by decide +kernel), by unfold later; decide +kernel⟩, ⟨inv_of (by decide +kernel), by unfold later; decide +kernel, by decide +kernel⟩,
   ⟨inv_of (by decide +kernel), by decide +kernel⟩, by decide +kernel⟩

/-- CxlDevicesComeAndGo: a link that fails; a region that may be added, up to the last granule; a granule in it, and none. -/
theorem witness_cxl :
    let s := st [(od2110_MODE, 0, 6), (od2118_STATE, 0, 3)]
    let g := granule { granNew with tier := 2, loc := 7 } [(od2110_MODE, 0, 6), (od2118_STATE, 0, 3)]
    s.Inv ∧ s.isCxl 0 = true ∧ 2 ≤ s.rd od2118_STATE 0 ∧ s.rd od2118_STATE 0 = 3 ∧ s.ports.regions.any (regionMeets 0 16777215 1) = false ∧
    (∀ kv ∈ s.pool.gran, kv.2.tier = 2 → kv.2.loc < 7 ∨ 8 ≤ kv.2.loc) ∧ g.Inv ∧ g.isCxl 0 = true ∧ g.rd od2118_STATE 0 = 3 ∧
    ∃ kv ∈ g.pool.gran, kv.2.tier = 2 ∧ 7 ≤ kv.2.loc ∧ kv.2.loc < 7 + 1 := by
  refine ⟨inv_of (by decide +kernel), by decide +kernel, by decide +kernel, by decide +kernel, by decide +kernel, by decide +kernel,
    inv_of (by decide +kernel), by decide +kernel, by decide +kernel, by decide +kernel⟩

/-- A geometry that meets Table 14.1. -/
def geo1 : ShelfGeometry := ⟨16384, 64, 256, 512, 1, 1, 1000, 10⟩

/-- Shelf port 0 accepted, with blocks and operations. -/
def shelf (blocks : Sparse NandBlock) (ops : List ShelfOp) (up : Nat) (l : List (Ent × Nat × Nat)) : State :=
  let s := st ([(od2118_STATE, 0, 3), (od2810_ROLE, 0, 3), (od2C30_STATE, 0, 1)] ++ l)
  { s with nand := { s.nand with geo := [(0, geo1)], blocks := blocks, ops := ops }, time := { TimeState.reset with span := up } }

/-- ShelvesAndTheirTranslationComplete: a shelf refused and one accepted; a completion that matches none, and that ends a read with and
without a retry left, a program, an erase; a timeout, first and again; a checkpoint; the three ways to copy a block. -/
theorem witness_shelf :
    ((shelf [] [] 0 []).Inv ∧ (shelf [] [] 0 []).rd od2118_STATE 0 = 3 ∧ (shelf [] [] 0 []).rd od2810_ROLE 0 = 3 ∧
      (shelf [] [] 0 []).isCxl 0 = false ∧ geometryOk { geo1 with page := 8192 } = false ∧ geometryOk geo1 = true ∧
      rawBytes geo1 ≤ 256 * 1024 * gib ∧ (shelf [] [] 0 []).geo 0 = geo1 ∧ (shelf [] [] 0 []).shelves.foldl (fun a x => if x = 0 then a else a + rawBytes ((shelf [] [] 0 []).geo x)) 0 = 0) ∧
    (∀ x ∈ [(1, 15), (1, 3), (2, 0), (3, 0)],
      let o : ShelfOp := ⟨0, x.1, x.2, 0, 1, some 9, 0, false⟩
      completes (shelf [(0, ⟨1, 0, 0, 0, 0⟩)] [o] 0 []) 0 ⟨9, 1, 0, 0, 0⟩ o) ∧
    (∀ o ∈ (shelf [] [] 0 []).nand.ops, ¬ (opDie o = 0 * 4096 + 0 * 64 + 0 ∧ o.tag = some 9)) ∧
    (∀ again : Bool, let o : ShelfOp := ⟨0, 1, 0, 0, 1, some 9, 0, again⟩
      (shelf [] [o] (2 ^ 102) []).nand.ops.find? (fun o => blockPort o.block == 0 && o.tag == some 9 &&
        (shelf [] [o] (2 ^ 102) []).past o.sent ((shelf [] [o] (2 ^ 102) []).rd od2C20_SHELF_OP_TIMEOUT 0 * 1000000)) = some o) ∧
    ((shelf [] [] 0 []).shelfUp 0 = true ∧ (shelf [] [] 0 []).nand.opens = []) ∧
    (let s := shelf [(7, ⟨2, 0, 2 ^ 40, 0, 0⟩)] [] 0 [(od2C30_ERASE_MAX, 0, 2 ^ 40), (od2C30_GOOD_BLOCKS, 0, 512), (od2C20_GC_START, 0, 400)]
     s.Inv ∧ s.shelfUp 0 = true ∧ s.flushMode = false ∧
       (s.freeBlocks - s.rd od2C20_RESERVE_BLOCKS 0) * 100 < s.rd od2C20_GC_START 0 * s.goodBlocks ∧
       s.leastFull 0 (fun b => (s.chunksIn (· == b)).length) = some 7 ∧ s.leastFull 0 (fun b => (s.nandBlock b).erases) = some 7 ∧
       s.rd od2C20_WEAR_SPREAD 0 < s.rd od2C30_ERASE_MAX 0 - s.rd od2C30_ERASE_MIN 0 ∧ (s.nandBlock (blockKey 0 0 7)).state = 2 ∧
       7 ∉ s.nand.reclaim ∧ s.rd od2C20_READ_LIMIT 0 < (s.nandBlock (blockKey 0 0 7)).reads) := by
  refine ⟨⟨inv_of (by decide +kernel), by decide +kernel⟩, ?_, by decide +kernel, by decide +kernel, by decide +kernel,
    inv_of (by decide +kernel), by decide +kernel⟩
  intro x hx
  simp only [List.mem_cons, List.not_mem_nil, or_false] at hx
  rcases hx with rfl | rfl | rfl | rfl <;> exact ⟨by decide +kernel, by decide +kernel⟩

/-! ## Herds, faults, canaries -/

/-- Herd 1 in a STATE. -/
def herd (n : Nat) : State := st [(od2800_STATE, 1, n)]

/-- HerdsMoveAsTableOneFiveSays: each state of Table 1.5, an ACTIVE write that each check decides, and a CLOSING herd that is done and
one that is not. -/
theorem witness_herd :
    ((herd 0).Inv ∧ (herd 0).herdState 1 = 0) ∧
    ((herd 1).Inv ∧ (herd 1).herdState 1 = 1 ∧ ((herd 1).noExtents 1 && !(herd 1).boundTo 1) = true) ∧
    (let s := st (extOd 0 ++ [(od2800_STATE, 1, 1)])
     s.Inv ∧ s.herdState 1 = 1 ∧ (s.noExtents 1 && !s.boundTo 1) = false) ∧
    ((herd 2).Inv ∧ (herd 2).herdState 1 = 2) ∧
    ((herd 3).Inv ∧ (herd 3).herdState 1 = 3 ∧ (herd 3).noExtents 1 = true ∧ (herd 3).ringsStopped 1 = true) ∧
    (let s := st (extOd 0 ++ [(od2800_STATE, 1, 3)])
     s.Inv ∧ s.herdState 1 = 3 ∧ s.noExtents 1 = false) ∧
    ((herd 1).rd od1100_COMPANION_EP 0 = 0xFFFF) :=
  ⟨⟨inv_of (by decide +kernel), by decide +kernel⟩, ⟨inv_of (by decide +kernel), by decide +kernel⟩,
   ⟨inv_of (by decide +kernel), by decide +kernel⟩, ⟨inv_of (by decide +kernel), by decide +kernel⟩,
   ⟨inv_of (by decide +kernel), by decide +kernel⟩, ⟨inv_of (by decide +kernel), by decide +kernel⟩, by decide +kernel⟩

/-- The endpoints of the device set and herd 1 CONFIGURED. -/
def admitted (l : List (Ent × Nat × Nat)) : State := st (extOd 0 ++ [(od2820_STATE, 1, 0), (od2800_STATE, 1, 1)] ++ l)

/-- The admission checks: all pass; a reserve of T1 that does not fit. -/
theorem witness_admission :
    ((admitted []).Inv ∧ (admitted []).herdState 1 = 1 ∧ (admitted []).sec.life = 2 ∧ (admitted []).rd od1100_COMPANION_EP 0 ≠ 0xFFFF ∧
      (admitted []).rd od1100_TINE_BASE 0 ≠ 0xFFFF ∧ (admitted []).rd od1100_UNIT_BASE 0 ≠ 0xFFFF ∧ (admitted []).rd od2800_LEVEL 1 ≠ 2 ∧
      (admitted []).rd od2800_TIME_GATED 1 ≠ 1 ∧ (∀ t ∈ [1, 2, 3], (admitted []).reserveFits 1 t ((admitted []).rd (odReserve t) 1) = true) ∧
      (admitted []).dirtyFits 1 ((admitted []).rd od2830_DIRTY_RESERVE 1) = true) ∧
    (admitted [(odReserve 1, 1, 2 ^ 50)]).Inv ∧
    (admitted [(odReserve 1, 1, 2 ^ 50)]).reserveFits 1 1 ((admitted [(odReserve 1, 1, 2 ^ 50)]).rd (odReserve 1) 1) = false :=
  ⟨⟨inv_of (by decide +kernel), by decide +kernel⟩, inv_of (by decide +kernel), by decide +kernel⟩

/-! ## Units lost, canaries, repeats, error sources -/

/-- FailedUnitsAreLost: tines in and out of service; a tine whose watchdog is due; quadrants; links; stacks, cores and reduce units. -/
theorem witness_failed :
    (State.reset.Inv ∧ State.reset.rd od3400_STATE 0 ≠ 3 ∧ State.reset.flt.quadsLost.contains 1 = false ∧
      (sparseGet 0 State.reset.flt.d2dDown 11 ||| 15) = 15 ∧ (0 : Nat) ∉ State.reset.flt.stacksLost ∧ 3 ∉ State.reset.flt.coresFailed ∧
      63 ∉ State.reset.flt.unitsFailed) ∧
    (let s := st [(od3400_STATE, 255, 3)]
     s.Inv ∧ s.rd od3400_STATE 255 = 3) ∧
    (let s := { running 0 [] with time := { TimeState.reset with span := 2 ^ 102 } }
     s.Inv ∧ s.rd od3400_STATE 0 ≠ 3 ∧ s.tineRuns 0 = true ∧ (s.liveThreads 0).any (fun kv => kv.2.wait == .ready) = true ∧
       s.past (s.tine 0).issued (s.rd od4400_TINE_WATCHDOG 0 * 1000) = true) ∧
    (let s := { State.reset with flt := { State.reset.flt with d2dDown := [(1, 8)] } }
     s.Inv ∧ sparseGet 0 s.flt.d2dDown 1 ||| 8 = 8 ∧ (sparseGet 0 s.flt.d2dDown 1 ||| 4) ≠ 8 ∧ (sparseGet 0 s.flt.d2dDown 1 ||| 4) ≠ 15) :=
  ⟨⟨inv_of (by decide +kernel), by decide +kernel⟩, ⟨inv_of (by decide +kernel), by decide +kernel⟩,
   ⟨inv_of (by decide +kernel), by decide +kernel⟩, ⟨inv_of (by decide +kernel), by decide +kernel⟩⟩

/-- A sealed, time-gated herd 1 with a ring on tine 5, `ctr` cycles of fabric time after reset. -/
def gated (tines mode ctr : Nat) : State :=
  let s := st (extOd 0 ++ [(od2800_LEVEL, 1, 2), (od2800_TIME_GATED, 1, 1), (od2400_TYPE, 1, 2), (od3410_STATE, 1, 1), (od3410_HERD, 1, 1),
    (od3410_TINES, 1, tines), (od4408_TG_CANARY_PERIOD, 1, 1), (od4400_MODE, 0, mode)])
  { s with time := { s.time with ctr := ⟨ctr, ctr, ctr, ctr⟩ } }

/-- A hold of reduce unit 0 on tine 0. -/
def hold0 (agreed : List Bool) (started : Nat) : DualHold := ⟨0, 0, 0, 0, [0], agreed, started⟩

/-- CanariesAndRepeatsComplete. -/
theorem witness_canaries :
    (let s := gated (2 ^ 5) 0 (2 ^ 70)
     s.Inv ∧ s.timeGated 1 = true ∧ s.rd od4408_TG_CANARY_PERIOD 1 ≠ 0 ∧ s.canariesRun = true ∧ s.mode = 0 ∧
       sparseGet 0 s.flt.tgDone 1 < s.ft 0 / max 1 (nsToFt (s.rd od4408_TG_CANARY_PERIOD 1 * 1000000)) ∧ s.reservedTines (some 1) = 2 ^ 5) ∧
    (let s := gated 0 0 (2 ^ 70)
     s.Inv ∧ s.timeGated 1 = true ∧ s.rd od4408_TG_CANARY_PERIOD 1 ≠ 0 ∧ s.canariesRun = true ∧ s.mode = 0 ∧ s.reservedTines (some 1) = 0) ∧
    (let s := { gated 0 1 0 with flt := { State.reset.flt with recovering := true } }
     s.Inv ∧ s.mode = 1 ∧ s.flt.recovering = true ∧ ∀ k ∈ s.flt.canaries, k.why ≠ .recover) ∧
    (let s := { State.reset with flt := { State.reset.flt with dual := [hold0 [] 0] } }
     s.Inv ∧ s.dualOf 0 = some (hold0 [] 0) ∧ (hold0 [] 0).agreed = [] ∧
       s.dualTine (s.rd od3800_HERD (hold0 [] 0).ctx) (hold0 [] 0).tines = some 1) ∧
    (let s := { State.reset with flt := { State.reset.flt with dual := [hold0 [false] 0] }, time := { TimeState.reset with span := 2 ^ 82 } }
     s.Inv ∧ s.dualOf 0 = some (hold0 [false] 0) ∧ s.past (hold0 [false] 0).started 20000 = true) :=
  ⟨⟨inv_of (by decide +kernel), by decide +kernel⟩, ⟨inv_of (by decide +kernel), by decide +kernel⟩,
   ⟨inv_of (by decide +kernel), by decide +kernel⟩, ⟨inv_of (by decide +kernel), by decide +kernel⟩,
   ⟨inv_of (by decide +kernel), by decide +kernel⟩⟩

/-- ErrorSourcesAct. -/
theorem witness_sources :
    ((running 0 []).Inv ∧ ((running 0 []).thread 0 0).live = true) ∧
    ((st (extOd 2)).Inv ∧ (st (extOd 2)).hLine 1 0 = true ∧ (st (extOd 2)).extState 1 ≠ 0 ∧ ((st (extOd 2)).extSlice 1).isSome = true) ∧
    (let s := { st (extOd 2) with own := [⟨1, 0, 0, 0, 0, 0, 0⟩] }
     s.Inv ∧ s.own[0]? = some ⟨1, 0, 0, 0, 0, 0, 0⟩) ∧
    ((4095 : Nat) ∉ State.reset.mt.bad) ∧
    (let k : Canary := ⟨7, 1, .ring, 0, 0⟩
     let s := { State.reset with flt := { State.reset.flt with canaries := [k] } }
     s.Inv ∧ s.flt.canaries.find? (fun k => k.tine == 7 && decide (k.started ≤ s.clk)) = some k ∧ ∀ x ∈ s.flt.canaries, x.why ≠ .release) :=
  ⟨⟨inv_of (by decide +kernel), by decide +kernel⟩, ⟨inv_of (by decide +kernel), by decide +kernel⟩,
   ⟨inv_of (by decide +kernel), by decide +kernel⟩, by decide +kernel, ⟨inv_of (by decide +kernel), by decide +kernel⟩⟩

/-! ## Handlers and events -/

/-- The device with a handler stack and the two queues of errors that wait. -/
def handling (mode : Nat) (fs : List HandlerFrame) (co cr : List (Nat × Nat × Nat)) (up : Nat) : State :=
  let s := st [(od4400_MODE, 0, mode)]
  { s with flt := { s.flt with stack := fs, contained := co, correctable := cr }, time := { TimeState.reset with span := up } }

/-- A handler frame of a class that started with the clock at 0. -/
def frame (cls : Nat) : HandlerFrame := ⟨cls, 3, 0, 0, 0, 0⟩

/-- HandlersEnd, and TheHandlerStackNeverExceedsFour: a stack of four, of one with each queue, in isolation hold; a limit exceeded and
not. -/
theorem witness_handlers :
    ((handling 2 [frame 4, frame 3, frame 2, frame 1] [] [] 0).Inv) ∧
    ((handling 0 [frame 2] [(3, 1, 9)] [(1, 1, 8)] 0).Inv ∧ (handling 0 [frame 2] [(3, 1, 9)] [(1, 1, 8)] 0).mode ≠ 2) ∧
    ((handling 0 [frame 2] [] [(1, 1, 8)] 0).Inv ∧ (handling 0 [frame 2] [] [(1, 1, 8)] 0).mode ≠ 2) ∧
    ((handling 2 [frame 4] [(3, 1, 9)] [] 0).Inv ∧ (handling 2 [frame 4] [(3, 1, 9)] [] 0).mode = 2) ∧
    ((handling 0 [frame 1] [] [] 0).Inv ∧ (handling 0 [frame 1] [] [] 0).frameRan (frame 1) * 1000000000 < handlerLimit 1 * 2 ^ 72) ∧
    ((handling 0 [frame 1] [] [] (2 ^ 102)).Inv ∧ handlerLimit 1 * 2 ^ 72 ≤ (handling 0 [frame 1] [] [] (2 ^ 102)).frameRan (frame 1) * 1000000000) :=
  ⟨inv_of (by decide +kernel), ⟨inv_of (by decide +kernel), by decide +kernel⟩, ⟨inv_of (by decide +kernel), by decide +kernel⟩,
   ⟨inv_of (by decide +kernel), by decide +kernel⟩, ⟨inv_of (by decide +kernel), by decide +kernel⟩,
   ⟨inv_of (by decide +kernel), by decide +kernel⟩⟩

/-- An event record of herd 1. -/
def rec1 : LogRec := ⟨⟨0, 3, 1, 1, 3, 0, 0x101, 0, 0, 0, 1, []⟩, false, true⟩

/-- Herd 1's event ring is ring 2, and a record of it is in the log. -/
def logging : State :=
  let s := st (ringOd 1 ++ [(od3410_BASE, 2, 2097152), (od4408_HERD_RING, 1, 2), (od2830_T1_QUOTA, 1, 2 ^ 40)])
  { s with flt := { s.flt with log := [rec1] } }

theorem copyDue_of {s : State} {i : Nat} {r : LogRec} {d : Bool} (h : s.flt.log[i]? = some r ∧ s.mode ≠ 2 ∧
    (if d then r.devDue else r.herdDue) = true ∧ s.olderWaits i r d = false ∧ s.eventRingOf (copyRing s r d).1 (copyRing s r d).2 = true ∧
    s.ringFree (copyRing s r d).1 ≠ 0) : CopyDue s i r d := ⟨h.1, h.2.1, h.2.2.1, h.2.2.2.1, h.2.2.2.2.1, h.2.2.2.2.2⟩

/-- EventRecordsGoOut: a copy that is due and has room; no merge window that is over; one that is. -/
theorem witness_events :
    (logging.Inv ∧ CopyDue logging 0 rec1 false ∧ (logging.post (copyRing logging rec1 false).1 (eventBytes rec1.ev true)).isSome = true) ∧
    (let m : MergeRec := ⟨rec1.ev, 0, 2⟩
     let s := { State.reset with flt := { State.reset.flt with merges := [m] } }
     s.Inv ∧ ∀ m ∈ s.flt.merges, s.past m.since 1000000 = false) ∧
    (let m : MergeRec := ⟨rec1.ev, 0, 2⟩
     let s := { State.reset with flt := { State.reset.flt with merges := [m] }, time := { TimeState.reset with span := 2 ^ 82 } }
     s.Inv ∧ s.flt.merges = [m] ∧ s.past m.since 1000000 = true) :=
  ⟨⟨inv_of (by decide +kernel), copyDue_of (by decide +kernel), by decide +kernel⟩, ⟨inv_of (by decide +kernel), by decide +kernel⟩,
   ⟨inv_of (by decide +kernel), by decide +kernel⟩⟩

/-! ## Inputs, reset, boot, images, power, debug -/

/-- The device with its inputs at some levels, `up` units of the model's time after they changed. -/
def inputs (l : List (Ent × Nat × Nat)) (low : Bool) (held : List Nat) (up : Nat) : State :=
  let s := st l
  { s with pins := { s.pins with low := low, held := held }, time := { TimeState.reset with span := up } }

/-- ControlInputsComplete: edges within their rates; PFW_N low; a flush; inputs that stand too long and that do not; rate holds. -/
theorem witness_inputs :
    (State.reset.Inv ∧ State.reset.pins.inReset = false ∧ State.reset.rd od4C48_LEVEL 0 = 0 ∧ State.reset.pins.held = [] ∧
      State.reset.rd od4C48_STUCK 1 = 0 ∧ sparseGet [] State.reset.pins.edges 2 = [] ∧
      (∀ k : Fin 4, State.reset.past (State.reset.levelSince k.val) (stuckNs k.val) = false ∧
        State.reset.past (State.reset.levelSince k.val) (releaseNs k.val) = false)) ∧
    (withinRate State.reset 0 100000000 4 ∧ withinRate State.reset 1 1000000 16) ∧
    (let s := { State.reset with pins := { State.reset.pins with edges := [(0, [1, 2, 3])] } }
     s.Inv ∧ withinRate s 0 100000000 4) ∧
    ((inputs [(od4C48_LEVEL, 0, 1), (od4C00_FLUSH_STATE, 0, 1)] false [] 0).Inv ∧
      (inputs [(od4C48_LEVEL, 0, 1), (od4C00_FLUSH_STATE, 0, 1)] false [] 0).rd od4C48_LEVEL 0 = 1 ∧
      (inputs [(od4C48_LEVEL, 0, 1), (od4C00_FLUSH_STATE, 0, 1)] false [] 0).rd od4C00_FLUSH_STATE 0 = 1) ∧
    (let s := inputs [(od4C48_LEVEL, 0, 1), (od4C48_LEVEL, 1, 1), (od4C48_LEVEL, 2, 1)] true [] (2 ^ 102)
     s.Inv ∧ (∀ k : Fin 4, s.past (s.levelSince k.val) (stuckNs k.val) = true) ∧ (∀ k : Fin 3, s.rd od4C48_LEVEL k.val ≠ 0 ∧
       s.rd od4C48_STUCK k.val ≠ 1) ∧ s.stotDriven = false) ∧
    (let s := inputs [] false [0, 1, 2, 3] (2 ^ 102)
     s.Inv ∧ (∀ k : Fin 4, s.past (s.levelSince k.val) (releaseNs k.val) = true) ∧ s.rd od4C48_LEVEL 0 = 0 ∧ 0 ∈ s.pins.held ∧
       s.pins.low = false ∧ 3 ∈ s.pins.held) :=
  ⟨⟨inv_of (by decide +kernel), by decide +kernel⟩, ⟨by unfold withinRate; decide +kernel, by unfold withinRate; decide +kernel⟩,
   ⟨inv_of (by decide +kernel), by unfold withinRate; decide +kernel⟩, ⟨inv_of (by decide +kernel), by decide +kernel⟩,
   ⟨inv_of (by decide +kernel), by decide +kernel⟩, ⟨inv_of (by decide +kernel), by decide +kernel⟩⟩

/-- ResetClearsTheMachine: RESET_N high, with the eighth edge in a second; RESET_N low. -/
theorem witness_reset :
    (let s := { State.reset with pins := { State.reset.pins with edges := [(3, [1, 2, 3, 4, 5, 6, 7])] } }
     s.Inv ∧ s.pins.low = false ∧ s.pins.held = [] ∧ s.pins.inReset = false ∧ withinRate s 3 1000000000 8) ∧
    ((inputs [] true [] 0).Inv ∧ (inputs [] true [] 0).pins.low = true ∧ (inputs [] true [] 0).pins.held = []) :=
  ⟨⟨inv_of (by decide +kernel), by decide +kernel, by decide +kernel, by decide +kernel, by unfold withinRate; decide +kernel⟩,
   ⟨inv_of (by decide +kernel), by decide +kernel⟩⟩

/-- BootGoesThroughItsStages: each stage; the recovery mode; the Jiyth link down and up. -/
theorem witness_boot :
    (∀ n : Fin 5, (st [(od4C40_BOOT_STAGE, 0, n.val)]).pins.inReset = false ∧ (st [(od4C40_BOOT_STAGE, 0, n.val)]).pins.recovery = false ∧
      (st [(od4C40_BOOT_STAGE, 0, n.val)]).rd od4C40_BOOT_STAGE 0 = n.val ∧ (st [(od4C40_BOOT_STAGE, 0, n.val)]).flushMode = false) ∧
    (∀ n : Fin 5, (st [(od4C40_BOOT_STAGE, 0, n.val)]).Inv) ∧
    (let s := { State.reset with pins := { State.reset.pins with recovery := true } }
     s.Inv ∧ s.pins.inReset = false ∧ s.pins.recovery = true) ∧
    (let s := st [(od4C40_BOOT_STAGE, 0, 3), (od4C00_STATE, 0, 3)]
     s.Inv ∧ s.rd od1120_JY_STATE 0 ≠ 2 ∧ 3 ≤ s.rd od4C40_BOOT_STAGE 0 ∧ s.rd od4C00_STATE 0 ≤ 3) ∧
    ((st [(od1120_JY_STATE, 0, 2)]).Inv ∧ (st [(od1120_JY_STATE, 0, 2)]).rd od1120_JY_STATE 0 = 2) := by
  refine ⟨by decide +kernel, ?_, ⟨inv_of (by decide +kernel), by decide +kernel⟩, ⟨inv_of (by decide +kernel), by decide +kernel⟩,
    ⟨inv_of (by decide +kernel), by decide +kernel⟩⟩
  have h : ∀ n : Fin 5, invOk (st [(od4C40_BOOT_STAGE, 0, n.val)]) = true := by decide +kernel
  exact fun n => inv_of (h n)

/-- ImagesAndReportsComplete: an install; a fuse to blow; a trial image whose time is over; a report of each path. -/
theorem witness_images :
    (let s := { State.reset with sec := { State.reset.sec with install := some ⟨0, 1, 1, 4096, true, true, 5⟩, fusing := true, velvet := some 0 }, time := { TimeState.reset with span := 2 ^ 102 } }
     s.Inv ∧ s.sec.install.isSome = true ∧ s.sec.fusing = true ∧ s.past 0 (s.rd od4110_VELVET_TIMEOUT 0 * 1000000000) = true) ∧
    (let s := st [(od4130_STATE, 0, 1), (od4130_STATE, 1, 1), (od4130_STATE, 2, 1)]
     s.Inv ∧ s.rd od4100_DEBUG_EFFECTIVE 0 ≠ 3 ∧ ∀ p ∈ [OdPath.j, .b, .f], s.rd od4130_STATE (pathIx p) = 1) :=
  ⟨⟨inv_of (by decide +kernel), by decide +kernel⟩, ⟨inv_of (by decide +kernel), by decide +kernel⟩⟩

/-- A reading of the power governor. -/
def power (p : Nat) : PowerReading := ⟨p, [0, 0, 0, 0], []⟩

/-- A governor that acted at time 0, `up` units of the model's time later. -/
def governed (acting : Bool) (below : Option Nat) (actions : List (Nat × Nat)) (up : Nat) : State :=
  { State.reset with pwr := { State.reset.pwr with acting := acting, below := below, acted := 0, actions := actions }, time := { TimeState.reset with span := up } }

/-- PowerAndHeatComplete: a step between points; the governor above, at and far below its cap, at the bounds of each range; a reference
lost and regained; a transition that ends. -/
theorem witness_power :
    (let s := { State.reset with pwr := { State.reset.pwr with stepping := quadSet State.reset.pwr.stepping 3 (some 2) } }
     s.Inv ∧ quadGet s.pwr.stepping 3 = some 2) ∧
    (let s := governed false none [] 0
     s.Inv ∧ (s.measured (power ((s.measured (power 0)).powerCap + 1))).powerCap < (s.measured (power 0)).powerCap + 1 ∧
       (s.measured (power 0)).pwr.acting = false ∧ (s.measured (power (s.measured (power 0)).powerCap)).powerCap * 90 ≤ (s.measured (power 0)).powerCap * 100) ∧
    (let s := governed true none [] (2 ^ 82)
     s.Inv ∧ (s.measured (power 0)).past (s.measured (power 0)).pwr.acted 100000 = true) ∧
    (let s := governed true (some 0) [(0, 1)] (2 ^ 102)
     s.Inv ∧ 0 * 100 < (s.measured (power 0)).powerCap * 90 ∧ (s.measured (power 0)).pwr.below = some 0 ∧
       (s.measured (power 0)).past 0 10000000 = true ∧ (s.measured (power 0)).past (s.measured (power 0)).pwr.acted 1000000 = true ∧
       (s.measured (power 0)).pwr.actions ≠ []) ∧
    (State.reset.pwr.refLost = [] ∧ refsLost ⟨false, false, 0⟩ = [] ∧ refsLost ⟨true, false, 0⟩ = [0] ∧ refsLost ⟨false, false, 8⟩ = [5]) ∧
    (let s := { State.reset with pwr := { State.reset.pwr with refLost := [5] } }
     s.Inv ∧ s.pwr.refLost = [3 + 2]) ∧
    (let s := { State.reset with pwr := { State.reset.pwr with trans := some (35, 0) } }
     s.Inv ∧ s.pwr.trans = some (35, 0) ∧ s.ungateDue (35 % 4) = false) :=
  ⟨⟨inv_of (by decide +kernel), by decide +kernel⟩, ⟨inv_of (by decide +kernel), by decide +kernel⟩,
   ⟨inv_of (by decide +kernel), by decide +kernel⟩, ⟨inv_of (by decide +kernel), by decide +kernel⟩, by decide +kernel,
   ⟨inv_of (by decide +kernel), by decide +kernel⟩, ⟨inv_of (by decide +kernel), by decide +kernel⟩⟩

/-- A command has waited at the same place since time 0, which is longer than HANG_TIMEOUT. -/
def hung (up : Nat) : State :=
  let s := ringed 0 0
  { s with time := { TimeState.reset with span := up }, dbg := { s.dbg with hang := s.hangSuspects.map (fun x => (x.1, x.2, 0)) } }

/-- DebugCommandsComplete: a dump; a build that is due and one that runs; nothing that hangs; something that does. -/
theorem witness_debug :
    ((st [(od48A0_STATE, 0, 2)]).Inv ∧ (st [(od48A0_STATE, 0, 2)]).coresRun = true ∧ (st [(od48A0_STATE, 0, 2)]).rd od48A0_STATE 0 = 2) ∧
    (let s := { st [(od48B0_PERIOD, 0, 1)] with time := { TimeState.reset with span := 2 ^ 82 } }
     s.Inv ∧ s.coresRun = true ∧ s.rd od48B0_PERIOD 0 ≠ 0 ∧ s.dbg.building = none ∧ s.past s.dbg.lastBuild (s.rd od48B0_PERIOD 0 * 1000000) = true) ∧
    (let s := { State.reset with dbg := { State.reset.dbg with building := some 0 } }
     s.Inv ∧ s.dbg.building = some 0 ∧ s.stotMode ≠ 2) ∧
    ((hung 0).Inv ∧ (hung 0).coresRun = true ∧ ∀ x ∈ (hung 0).hangSeen, (hung 0).nsSince x.2.2 ≤ (hung 0).rd od48A0_HANG_TIMEOUT 0 * 1000000) ∧
    ((hung (2 ^ 102)).Inv ∧ (hung (2 ^ 102)).coresRun = true ∧ (hung (2 ^ 102)).stotMode ≠ 2 ∧
      ∃ x ∈ (hung (2 ^ 102)).hangSeen, (hung (2 ^ 102)).rd od48A0_HANG_TIMEOUT 0 * 1000000 < (hung (2 ^ 102)).nsSince x.2.2) :=
  ⟨⟨inv_of (by decide +kernel), by decide +kernel⟩, ⟨inv_of (by decide +kernel), by decide +kernel⟩,
   ⟨inv_of (by decide +kernel), by decide +kernel⟩, ⟨inv_of (by decide +kernel), by decide +kernel⟩,
   ⟨inv_of (by decide +kernel), by decide +kernel⟩⟩

/-! ## Whole steps and shared operations -/

/-- A queue of two commands. -/
def queued (inReset : Bool) : State :=
  { State.reset with pending := [.handlerEnd, .basicModeExit], pins := { State.reset.pins with inReset := inReset } }

/-- StepsRunTheQueue; EveryStepKeepsTheInvariant, TheHandlerStackNeverExceedsFour, NothingThatIsSpentComesBack: a command at the front
of the queue, and an empty queue in and out of reset. -/
theorem witness_step :
    ((queued false).Inv ∧ (queued false).pending = .handlerEnd :: [.basicModeExit] ∧ ∃ t, step (queued false) = .next t) ∧
    (State.reset.Inv ∧ State.reset.pending = [] ∧ State.reset.pins.inReset = false ∧ ∃ t, step State.reset = .next t) ∧
    (let s := { queued true with pending := [] }
     s.Inv ∧ s.pending = [] ∧ s.pins.inReset = true ∧ ∃ t, step s = .next t) ∧
    (let s := { handling 0 [frame 4, frame 3, frame 2, frame 1] [(3, 1, 9)] [] 0 with pending := [.handlerLimitExpiry] }
     s.Inv ∧ ∃ t, step s = .next t) :=
  ⟨⟨inv_of (by decide +kernel), rfl, _, rfl⟩, ⟨inv_of (by decide +kernel), by decide +kernel, by decide +kernel, _, rfl⟩,
   ⟨inv_of (by decide +kernel), by decide +kernel, by decide +kernel, _, rfl⟩, ⟨inv_of (by decide +kernel), _, rfl⟩⟩

/-- VmaxAndVminOrderTheirOperands: the least NaN, the infinity below it, and the two zeros. -/
theorem witness_vmax :
    isNan32 0x7F800001 ∧ isNan32 0xFFFFFFFF ∧ ¬ isNan32 0x7F800000 ∧ ¬ isNan32 0xFF800000 ∧ order32 0x80000000 < order32 0 := by
  unfold isNan32; decide +kernel

/-- JtagReadsTheCountersOfOd4800: the counters have an entry, at every effective level. -/
theorem witness_counter :
    (odRow 0x4800 1).isSome = true ∧ (∀ n : Fin 3, 1 ≤ (st [(od4100_DEBUG_EFFECTIVE, 0, n.val + 1)]).rd od4100_DEBUG_EFFECTIVE 0) := by
  decide +kernel

/-- WritesReadBack: granule 0 of extent 1 is allocated; a write of its last two bytes. -/
theorem witness_write :
    let s := granule { granNew with tier := 1 } []
    s.Inv ∧ 2097150 + [(1 : Byte), 2].length ≤ 2 ^ 48 ∧
      ∀ k, k < [(1 : Byte), 2].length → (s.gran 1 ((2097150 + k) / granuleBytes)).tier ≠ 0 :=
  ⟨inv_of (by decide +kernel), by decide, by
    intro k hk
    have : k = 0 ∨ k = 1 := by simp only [List.length_cons, List.length_nil] at hk; omega
    rcases this with rfl | rfl <;> decide +kernel⟩

/-- A request of tine 0 at the start of extent 1. -/
def own1 (op : ReqOp) : Req := { req1 with sender := .tine 0 0, op := op, hdr := { req1.hdr with src := 0x200, herd := 1 }, place := .rate }

/-- TheFirstWriteAllocates: a load of an unallocated granule; a write to one that its herd's quota bars, one that it
admits, and one to a frozen extent. -/
theorem witness_allocate :
    (let s := st (extOd 0)
     s.Inv ∧ s.reqOff (own1 .load) = 0 ∧ (s.gran 1 0).tier = 0 ∧ s.poisoned 1 0 (spanOf .load (own1 .load).hdr) = false ∧
       0 % granuleBytes + lenBytes (own1 .load).hdr ≤ granuleBytes ∧ writes .store = true ∧ s.barred (own1 .store) = false ∧ s.extPersist 1 = false ∧
       s.mayAllocate (s.extHerd 1) (s.extPlace 1 + 1) granuleBytes = false) ∧
    (let s := st (extOd 0 ++ [(od2830_T1_QUOTA, 1, 2097152)])
     s.Inv ∧ s.reqOff (own1 .store) = 0 ∧ (s.gran 1 0).tier = 0 ∧ s.poisoned 1 0 (spanOf .store (own1 .store).hdr) = false ∧
       s.barred (own1 .store) = false ∧ s.extPersist 1 = false ∧ s.mayAllocate (s.extHerd 1) (s.extPlace 1 + 1) granuleBytes = true) ∧
    (let s := st (extOd 0 ++ [(od3020_FROZEN, 1, 1)])
     s.Inv ∧ s.reqOff (own1 .store) = 0 ∧ (s.gran 1 0).tier = 0 ∧ s.poisoned 1 0 (spanOf .store (own1 .store).hdr) = false ∧
       s.barred (own1 .store) = true) :=
  ⟨⟨inv_of (by decide +kernel), by decide +kernel⟩, ⟨inv_of (by decide +kernel), by decide +kernel⟩,
   ⟨inv_of (by decide +kernel), by decide +kernel⟩⟩

/-- AnIdleIngressPassesRequestsOn: a request that passes its checks, and one that no extent holds. -/
theorem witness_ingress :
    let s := st (extOd 0)
    (s.Inv ∧ s.tr.outstanding = [] ∧ (own1 .load).place = .rate ∧ homeOp (own1 .load).op = true ∧
      (s.track (own1 .load)).checkIn (own1 .load) = .inr (1, 0x100) ∧ 1 ≠ traceExt ∧ (s.homeSlice 0x100).isSome = true ∧
      passes s (own1 .load) 0x100) ∧
    (let r := { own1 .load with hdr := { (own1 .load).hdr with addr := 0 } }
     (s.track r).checkIn r = .inl eAccess ∧ ∀ p, r.sender ≠ .port p) :=
  ⟨⟨inv_of (by decide +kernel), by decide +kernel, by decide +kernel, by decide +kernel, by decide +kernel, by decide +kernel,
    by decide +kernel, by show 1 ≤ State.windowOf _ _ _; decide +kernel⟩, by decide +kernel, by intro p h; cases h⟩

/-- A tine with bins that have failed, in a STATE, with a canary of a RELEASE that runs. -/
def canaried (state bins : Nat) (l : List Canary) : State :=
  let s := st [(od3400_STATE, 9, state), (od4410_FAIL_BINS, 9, bins)]
  { s with flt := { s.flt with canaries := l } }

/-- QuarantineAndRelease: the third bin and the second; a RELEASE in the last STATE that takes it and the first that does not; the last
canary of a RELEASE. -/
theorem witness_quarantine :
    ((canaried 1 3 []).Inv ∧ (canaried 1 3 []).rd od3400_STATE 9 ≤ 1 ∧
      3 ≤ (((canaried 1 3 []).wr od4410_FAIL_BINS 9 (3 ||| 2 ^ (4 * tempBin 250 + 2)))).failedBins 9) ∧
    ((canaried 0 1 []).Inv ∧ ((canaried 0 1 []).wr od4410_FAIL_BINS 9 (1 ||| 2 ^ (4 * tempBin 250 + 2))).failedBins 9 < 3) ∧
    ((canaried 3 0 []).Inv ∧ 3 ≤ (canaried 3 0 []).rd od3400_STATE 9) ∧
    (let k : Canary := ⟨9, 3, .release, 0, 0⟩
     let s := canaried 2 7 [k]
     s.Inv ∧ k ∈ s.flt.canaries ∧ s.rd od3400_STATE 9 ≤ 2 ∧ (s.flt.canaries.erase k).any (fun x => x.tine == 9 && x.why == .release) = false) :=
  ⟨⟨inv_of (by decide +kernel), by decide +kernel⟩, ⟨inv_of (by decide +kernel), by decide +kernel⟩,
   ⟨inv_of (by decide +kernel), by decide +kernel⟩, ⟨inv_of (by decide +kernel), by decide +kernel⟩⟩

/-! ## Well-formedness: each check refuses a term, and takes the term at its bound -/

theorem test_wf_frame : wellFormed (.store ⟨.companion, hdr0, List.replicate 2049 0, none⟩) = false ∧
    wellFormed (.store ⟨.companion, hdr0, List.replicate 2048 0, none⟩) = true := by decide +kernel

theorem test_wf_opcode : wellFormed (.store ⟨.companion, hdr0, [], some 1⟩) = false ∧
    wellFormed (.store ⟨.companion, hdr0, [], some 0x3F⟩) = true := by decide +kernel

theorem test_wf_source : wellFormed (.respData (.port 0 env0 resp1 (List.replicate 2049 0))) = false ∧
    wellFormed (.respData (.port 0 env0 resp1 (List.replicate 2048 0))) = true := by decide +kernel

theorem test_wf_message : wellFormed (.mailboxDoorbell 0 (List.replicate 1041 0)) = false ∧
    wellFormed (.mailboxDoorbell 0 (List.replicate 1040 0)) = true := by decide +kernel

theorem test_wf_line : wellFormed (.rutBufferLoaded 1 (2 ^ 41)) = false ∧ wellFormed (.rutBufferLoaded 1 (2 ^ 41 - 1)) = true := by decide +kernel

theorem test_wf_granule : wellFormed (.granuleFillDone 1 (2 ^ 32)) = false ∧ wellFormed (.granuleFillDone 1 (2 ^ 32 - 1)) = true := by decide +kernel

theorem test_wf_error_line : wellFormed (.errorDetected (.dirEntry 1 (2 ^ 41))) = false ∧
    wellFormed (.errorDetected (.dirEntry 1 (2 ^ 41 - 1))) = true := by decide +kernel

theorem test_wf_jtag : wellFormed (.jtagAccess (.memRead 1 0 4097)) = false ∧ wellFormed (.jtagAccess (.memRead 1 (2 ^ 48) 8)) = false ∧
    wellFormed (.jtagAccess (.memRead 1 (2 ^ 48 - 1) 4096)) = true := by decide +kernel

theorem test_wf_mctp : wellFormed (.mctpVendorMessage 0x7F (List.replicate 1045 0)) = false ∧
    wellFormed (.mctpVendorMessage 0x7F (List.replicate 1044 0)) = true := by decide +kernel

theorem test_wf_power : wellFormed (.powerGovernorSample ⟨0, [0, 0, 0], List.replicate 13 (0, 0)⟩) = false ∧
    wellFormed (.powerGovernorSample ⟨0, [0, 0, 0, 0], List.replicate 12 (0, 0)⟩) = false ∧
    wellFormed (.powerGovernorSample ⟨0, [0, 0, 0, 0], List.replicate 13 (0, 0)⟩) = true := by decide +kernel

theorem test_wf_thermal : wellFormed (.thermalSample ⟨List.replicate 255 0, List.replicate 4 0, List.replicate 8 0⟩) = false ∧
    wellFormed (.thermalSample ⟨List.replicate 256 0, List.replicate 4 0, List.replicate 8 0⟩) = true := by decide +kernel

theorem test_wf_amps : ∀ r : StageResult, r.amps.length = 17 → wellFormed (.trainingStageDone 0 r) = false := by
  intro r h; simp [wellFormed, h]

/-! ## The manual's worked examples and rules, on values worked out by hand -/

/-- The next state of an outcome. -/
def after (o : Host.Outcome State Fault Refusal) : State := match o with | .next s => s | _ => State.reset

/-- Register 1 of thread 0 of tine 0 after an instruction whose operand registers 2 and 3 hold the given values. -/
def result (op : Nat) (i : Instr) (a b : Nat) : Nat := ((after (exec i (running op [0, 0, a, b]))).thread 0 0).rdVal word1

/-- Table 6.6: ADD wraps, SUB borrows, SLT compares signed and SLTU unsigned, SRA takes the sign along. -/
theorem test_scalar :
    result 1 (.tAdd 0 0 word1) (2 ^ 64 - 1) 5 = 4 ∧ result 2 (.tSub 0 0 word1) 5 7 = 2 ^ 64 - 2 ∧
    result 0x0A (.tSlt 0 0 word1) (2 ^ 64 - 1) 0 = 1 ∧ result 0x0B (.tSltu 0 0 word1) (2 ^ 64 - 1) 0 = 0 ∧
    result 9 (.tSra 0 0 word1) (2 ^ 64 - 8) 1 = 2 ^ 64 - 4 ∧ result 8 (.tShr 0 0 word1) (2 ^ 64 - 8) 1 = 2 ^ 63 - 4 := by decide +kernel

/-- The example of R192: 5.0, −0.8, 0.3 and 2.7 as MXFP4 E2M1. -/
theorem test_quantize_mxfp4 :
    (encodeArray 7 ([0x40A00000, 0xBF4CCCCD, 0x3E99999A, 0x402CCCCD] ++ List.replicate 28 0 |>.map dec32) []).bytes =
      [0xA6, 0x51] ++ List.replicate 14 0 ++ [0x7F] ++ List.replicate 7 0 := by decide +kernel

/-- R197, R198: one divided by zero is infinite, the square root of −0 is −0, and −0 lies below +0. -/
theorem test_float :
    div32 0x3F800000 0 = 0x7F800000 ∧ div32 0xBF800000 0 = 0xFF800000 ∧ sqrt32 0x80000000 = 0x80000000 ∧
    max32 0x80000000 0 = 0 ∧ min32 0 0x80000000 = 0x80000000 ∧ add32 0x3F800000 0x3F800000 = 0x40000000 := by decide +kernel

/-- The example of R230: the scales of parties whose squares add up to 4.0 and to 0.64, with CLIP 1.0. -/
theorem test_party_scale :
    partyScale 0x3F800000 0x4010000000000000 = 0x3F000000 ∧ partyScale 0x3F800000 0x3FE47AE147AE147B = 0x3F800000 := by decide +kernel

/-- The example of R108: 600 J, a reserve of 100 J, 250 W and 48,000 MB/s give 1,464,843 chunks. -/
theorem test_ceiling :
    (shelf [] [] 0 [(od4C20_HOLDUP_J, 0, 600), (od2C10_RESERVE_J, 0, 100), (od2C10_FLUSH_POWER, 0, 250), (od2C10_FLUSH_BW, 0, 48000)]).ceilingNow =
      95999950848 := by decide +kernel

/-- The example after R113: 4 GiB of hard-coherent capacity and a cache of 128 GiB leave 363 GiB. -/
theorem test_reservable :
    (st [(od3000_H_CAPACITY, 0, 4), (od2C00_CACHE_SIZE, 0, 128)]).t1Reservable = 363 * gib := by decide +kernel

/-- The example of OD 2020: fabric time 0x02A9_97A5_8000_0000 is half a second into June 2025. -/
theorem test_utc :
    let c := 0x02A997A580000000 * 2 ^ 40
    ({ State.reset with time := { State.reset.time with ctr := ⟨c, c, c, c⟩ } }).utc =
      "2025-06-01T00:00:00.500000000Z".toList.map (fun c => BitVec.ofNat 8 c.toNat) ++ [0, 0] := by decide +kernel

/-- The entries of the example after R281, as offset and record: KEY, MASK and PRIORITY. -/
def entry1 (k m p : Nat) : Nat := k + m * 2 ^ 192 + p * 2 ^ 368

/-- That example: key 0x1234 matches all four entries, and they rank 1, 3, 0, 2; key 0x5678 matches only offset 2. -/
theorem test_match :
    let es := [(0, entry1 0x1200 0xFF00 10), (1, entry1 0x1234 0xFFFF 20), (2, entry1 0 0 1), (3, entry1 0x1230 0xFFF0 20)]
    let rank := fun key out => ((bestOf (es.filter (fun x => entryMatches key x.2 && !out.contains x.1))).map (·.1))
    rank 0x1234 [] = some 1 ∧ rank 0x1234 [1] = some 3 ∧ rank 0x1234 [1, 3] = some 0 ∧ rank 0x1234 [1, 3, 0] = some 2 ∧
      rank 0x5678 [] = some 2 ∧ rank 0x5678 [2] = none := by decide +kernel

/-- The example of R330: three down events at 1,000 each stay within SUPPRESS at its default, a fourth does not. -/
theorem test_penalty :
    let s := { State.reset with time := { TimeState.reset with span := 5 } }
    let s3 := ((s.penalize 0).penalize 0).penalize 0
    s3.penalty 0 ≤ s3.rd od2100_SUPPRESS 0 ∧ s3.rd od2100_SUPPRESS 0 < (s3.penalize 0).penalty 0 := by decide +kernel

/-- Table 6.11: a VSUM of 512 elements keeps the vector unit for 8 + 512 ÷ 128 = 12 tine cycles. -/
theorem test_vsum : busy8 512 = 12 ∧ vsum (List.replicate 512 0x3F800000) = 0x44000000 := by decide +kernel

/-- FIPS 202, the standard of the SHAKE256 that R386 names: the first bytes of the digest of no bytes. -/
theorem test_shake : shake256 [] % 2 ^ 64 = 0x138DA80B2BDDB946 := by decide +kernel

/-- Table 1.5: a FREE herd takes STATE 1, and no other write. -/
theorem test_herd :
    ((st jiyth).applyHerd 1 1 1).1 = abOk ∧ ((st jiyth).applyHerd 1 1 1).2.herdState 1 = 1 ∧ ((st jiyth).applyHerd 1 1 2).1 ≠ abOk := by
  decide +kernel

end Sys2Proof.Tests
end

namespace Sys2Proof.Proofs.VectorOrder

/-! ## VMAX and VMIN (R198)

A word that is not a NaN is a sign and a magnitude, the number in its low 31 bits. The value of a finite word counts units of
2^(−149), and this count rises strictly with the magnitude; so the order of the decoded values is the order of the words. -/

open Sys2Proof.Machine Sys2Proof.Claims

/-- The significand of a finite binary32 magnitude, with the hidden bit of a normal one. -/
def significand (p : Nat) : Nat := if p < 2 ^ 23 then p else 2 ^ 23 + p % 2 ^ 23

/-- The exponent of a finite binary32 magnitude over that of the subnormals. -/
def scale (p : Nat) : Nat := p / 2 ^ 23 - 1

/-- A finite binary32 magnitude in units of the least subnormal. -/
def quanta (p : Nat) : Nat := significand p * 2 ^ scale p

/-! ### What a word decodes to -/

theorem bitAt_eq_decide (a : Nat) (ha : a < 2 ^ 32) : bitAt a 31 = decide (2 ^ 31 ≤ a) := by
  rw [bitAt, beq_eq_decide]
  exact decide_eq_decide.mpr (by omega)

/-- The model's decoder at the widths of binary32. -/
theorem dec32_eq (a : Nat) : dec32 a =
    if a / 2 ^ 23 % 2 ^ 8 = 255 then
      if a % 2 ^ 23 = 0 then .inf (bitAt a 31) else .nan (bitAt a 31) (a % 2 ^ 23 % 2 ^ 22 * 2 ^ 29)
    else if a / 2 ^ 23 % 2 ^ 8 = 0 then .fin (bitAt a 31) (a % 2 ^ 23) (-149)
    else .fin (bitAt a 31) (2 ^ 23 + a % 2 ^ 23) ((a / 2 ^ 23 % 2 ^ 8 : Nat) - 127 - 23) := rfl

theorem dec32_of_nan {a : Nat} (h : isNan32 a) :
    dec32 a = .nan (bitAt a 31) (a % 2 ^ 23 % 2 ^ 22 * 2 ^ 29) := by
  unfold isNan32 at h
  rw [dec32_eq, if_pos (by omega), if_neg (by omega)]

theorem dec32_of_inf {a : Nat} (h : a % 2 ^ 31 = 0x7F800000) : dec32 a = .inf (bitAt a 31) := by
  rw [dec32_eq, if_pos (by omega), if_pos (by omega)]

theorem dec32_of_finite {a : Nat} (h : a % 2 ^ 31 < 0x7F800000) :
    dec32 a = .fin (bitAt a 31) (significand (a % 2 ^ 31)) (scale (a % 2 ^ 31) + -149) := by
  rw [dec32_eq, if_neg (by omega)]
  unfold significand scale
  by_cases hz : a / 2 ^ 23 % 2 ^ 8 = 0
  · rw [if_pos hz, if_pos (by omega), Fp.fin.injEq]
    exact ⟨rfl, by omega, by omega⟩
  · have he : a / 2 ^ 23 % 2 ^ 8 = a % 2 ^ 31 / 2 ^ 23 := by omega
    rw [if_neg hz, if_neg (by omega), Fp.fin.injEq, he]
    exact ⟨rfl, by omega, by omega⟩

/-- A word that is not a NaN is an infinity or finite. -/
theorem inf_or_finite {a : Nat} (h : ¬ isNan32 a) : a % 2 ^ 31 = 0x7F800000 ∨ a % 2 ^ 31 < 0x7F800000 := by
  unfold isNan32 at h; omega

theorem isNan_dec32 (a : Nat) : (dec32 a).isNan = true ↔ isNan32 a := by
  by_cases h : isNan32 a
  · simp [h, dec32_of_nan h, Fp.isNan]
  · rcases inf_or_finite h with hi | hf
    · simp [h, dec32_of_inf hi, Fp.isNan]
    · simp [h, dec32_of_finite hf, Fp.isNan]

/-- The model's encoder of a NaN at the widths of binary32. -/
theorem enc32_nan (s : Bool) (p : Nat) :
    enc32 (.nan s p) = (if s then 2 ^ 31 else 0) + 255 * 2 ^ 23 + 2 ^ 22 + p / 2 ^ 29 := rfl

/-- A decoded NaN encodes to the word with its quiet bit set. -/
theorem enc32_dec32_of_nan {a : Nat} (ha : a < 2 ^ 32) (h : isNan32 a) : enc32 (dec32 a) = quiet32 a := by
  rw [dec32_of_nan h, enc32_nan, bitAt_eq_decide a ha, quiet32]
  unfold isNan32 at h
  simp only [decide_eq_true_eq]
  split <;> split <;> omega

/-! ### The count of units rises with the magnitude -/

theorem quanta_lt_succ (p : Nat) : quanta p < quanta (p + 1) := by
  unfold quanta significand
  by_cases hs : p + 1 < 2 ^ 23
  · have h0 : scale p = 0 := by unfold scale; omega
    have h1 : scale (p + 1) = 0 := by unfold scale; omega
    rw [if_pos (by omega), if_pos hs, h0, h1]
    omega
  by_cases hb : (p + 1) % 2 ^ 23 = 0
  · -- The next magnitude begins a binade: its significand is 2^23 again, at twice the unit unless p is subnormal.
    rw [if_neg hs, hb]
    by_cases hp : p < 2 ^ 23
    · have h0 : scale p = 0 := by unfold scale; omega
      have h1 : scale (p + 1) = 0 := by unfold scale; omega
      rw [if_pos hp, h0, h1]
      omega
    · have h1 : scale (p + 1) = scale p + 1 := by unfold scale; omega
      rw [if_neg hp, h1]
      calc (2 ^ 23 + p % 2 ^ 23) * 2 ^ scale p
          < 2 ^ 24 * 2 ^ scale p := Nat.mul_lt_mul_of_pos_right (by omega) (by positivity)
        _ = (2 ^ 23 + 0) * 2 ^ (scale p + 1) := by ring
  · have h1 : scale (p + 1) = scale p := by unfold scale; omega
    rw [if_neg (by omega), if_neg hs, h1]
    exact Nat.mul_lt_mul_of_pos_right (by omega) (by positivity)

theorem quanta_strictMono : StrictMono quanta := strictMono_nat_of_lt_succ quanta_lt_succ

/-! ### The order of the decoded values is the order of the words -/

/-- The order of two signed magnitudes, a negative one below a positive one also where both are zero. -/
def signedLt : Bool → Bool → Nat → Nat → Bool
  | true, false, _, _ => true
  | false, true, _, _ => false
  | true, true, x, y => decide (y < x)
  | false, false, x, y => decide (x < y)

theorem order32_eq {a : Nat} (ha : a < 2 ^ 32) :
    order32 a = if bitAt a 31 then -((a % 2 ^ 31 : Nat) : Int) - 1 else (a % 2 ^ 31 : Nat) := by
  rw [bitAt_eq_decide a ha, order32]
  simp only [decide_eq_true_eq]
  split <;> split <;> omega

theorem order32_lt {a b : Nat} (ha : a < 2 ^ 32) (hb : b < 2 ^ 32) :
    decide (order32 a < order32 b) = signedLt (bitAt a 31) (bitAt b 31) (a % 2 ^ 31) (b % 2 ^ 31) := by
  rw [order32_eq ha, order32_eq hb]
  cases bitAt a 31 <;> cases bitAt b 31 <;> simp [signedLt] <;> omega

/-- The order of signed magnitudes depends on how the magnitudes compare only. -/
theorem signedLt_congr (s t : Bool) {x y x' y' : Nat} (h : x < y ↔ x' < y') (g : y < x ↔ y' < x') :
    signedLt s t x y = signedLt s t x' y' := by
  cases s <;> cases t <;> simp only [signedLt, h, g]

theorem fpLt_inf_inf (s t : Bool) (x : Nat) : fpLt (.inf s) (.inf t) = signedLt s t x x := by
  cases s <;> cases t <;> simp [fpLt, signedLt]

/-- An infinity compares as any magnitude above that of the finite value. -/
theorem fpLt_inf_fin (s t : Bool) (m : Nat) (e : Int) {x y : Nat} (h : y < x) :
    fpLt (.inf s) (.fin t m e) = signedLt s t x y := by
  cases s <;> cases t <;> simp [fpLt, signedLt, h, h.le]

theorem fpLt_fin_inf (s t : Bool) (m : Nat) (e : Int) {x y : Nat} (h : x < y) :
    fpLt (.fin s m e) (.inf t) = signedLt s t x y := by
  cases s <;> cases t <;> simp [fpLt, signedLt, h, h.le]

/-- A common power of two may be taken out of both sides of a comparison. -/
theorem mul_pow_sub_lt_iff {g j k : Nat} (hj : g ≤ j) (hk : g ≤ k) (m n : Nat) :
    m * 2 ^ (j - g) < n * 2 ^ (k - g) ↔ m * 2 ^ j < n * 2 ^ k := by
  rw [← Nat.mul_lt_mul_right (a := 2 ^ g) (by positivity), mul_assoc, mul_assoc, ← pow_add, ← pow_add,
    Nat.sub_add_cancel hj, Nat.sub_add_cancel hk]

theorem fpLt_fin_fin (s t : Bool) (m n : Nat) (e f : Int) :
    fpLt (.fin s m e) (.fin t n f) = signedLt s t (m * 2 ^ (e - min e f).toNat) (n * 2 ^ (f - min e f).toNat) := by
  cases s <;> cases t <;> rfl

/-- Finite values over a common least exponent c compare as their counts of 2^c. -/
theorem fpLt_fin_of_scale (s t : Bool) (m n j k : Nat) (c : Int) :
    fpLt (.fin s m (j + c)) (.fin t n (k + c)) = signedLt s t (m * 2 ^ j) (n * 2 ^ k) := by
  have hj : ((j : Int) + c - min (j + c) (k + c)).toNat = j - min j k := by omega
  have hk : ((k : Int) + c - min (j + c) (k + c)).toNat = k - min j k := by omega
  rw [fpLt_fin_fin, hj, hk]
  exact signedLt_congr s t (mul_pow_sub_lt_iff (Nat.min_le_left j k) (Nat.min_le_right j k) m n)
    (mul_pow_sub_lt_iff (Nat.min_le_right j k) (Nat.min_le_left j k) n m)

/-- A decoded word that is not a NaN compares by its sign and its magnitude. -/
theorem fpLt_dec32 {a b : Nat} (na : ¬ isNan32 a) (nb : ¬ isNan32 b) :
    fpLt (dec32 a) (dec32 b) = signedLt (bitAt a 31) (bitAt b 31) (a % 2 ^ 31) (b % 2 ^ 31) := by
  rcases inf_or_finite na with ia | fa <;> rcases inf_or_finite nb with ib | fb
  · rw [dec32_of_inf ia, dec32_of_inf ib, ia, ib, fpLt_inf_inf]
  · rw [dec32_of_inf ia, dec32_of_finite fb, ia, fpLt_inf_fin _ _ _ _ fb]
  · rw [dec32_of_finite fa, dec32_of_inf ib, ib, fpLt_fin_inf _ _ _ _ fa]
  · rw [dec32_of_finite fa, dec32_of_finite fb, fpLt_fin_of_scale]
    exact signedLt_congr _ _ quanta_strictMono.lt_iff_lt quanta_strictMono.lt_iff_lt

theorem fpLt_dec32_iff {a b : Nat} (ha : a < 2 ^ 32) (hb : b < 2 ^ 32) (na : ¬ isNan32 a) (nb : ¬ isNan32 b) :
    fpLt (dec32 a) (dec32 b) = true ↔ order32 a < order32 b := by
  rw [fpLt_dec32 na nb, ← order32_lt ha hb, decide_eq_true_eq]

/-! ### What VMAX and VMIN return -/

theorem max32_of_nan_left {a : Nat} (b : Nat) (ha : a < 2 ^ 32) (na : isNan32 a) : max32 a b = quiet32 a := by
  simp only [max32, (isNan_dec32 a).mpr na, if_true, enc32_dec32_of_nan ha na]

theorem min32_of_nan_left {a : Nat} (b : Nat) (ha : a < 2 ^ 32) (na : isNan32 a) : min32 a b = quiet32 a := by
  simp only [min32, (isNan_dec32 a).mpr na, if_true, enc32_dec32_of_nan ha na]

theorem max32_of_nan_right {a b : Nat} (hb : b < 2 ^ 32) (na : ¬ isNan32 a) (nb : isNan32 b) : max32 a b = quiet32 b := by
  simp only [max32, isNan_dec32, na, nb, if_true, if_false, enc32_dec32_of_nan hb nb]

theorem min32_of_nan_right {a b : Nat} (hb : b < 2 ^ 32) (na : ¬ isNan32 a) (nb : isNan32 b) : min32 a b = quiet32 b := by
  simp only [min32, isNan_dec32, na, nb, if_true, if_false, enc32_dec32_of_nan hb nb]

theorem max32_of_not_nan {a b : Nat} (ha : a < 2 ^ 32) (hb : b < 2 ^ 32) (na : ¬ isNan32 a) (nb : ¬ isNan32 b) :
    max32 a b = if order32 a < order32 b then b else a := by
  simp only [max32, isNan_dec32, na, nb, if_false, fpLt_dec32_iff ha hb na nb]

theorem min32_of_not_nan {a b : Nat} (ha : a < 2 ^ 32) (hb : b < 2 ^ 32) (na : ¬ isNan32 a) (nb : ¬ isNan32 b) :
    min32 a b = if order32 b < order32 a then b else a := by
  simp only [min32, isNan_dec32, na, nb, if_false, fpLt_dec32_iff hb ha nb na]

/-- Settles O54: it holds. A NaN operand is decoded and encoded again with its quiet bit set; the order of two other operands
is that of their words, because the count of least subnormals rises with the magnitude. -/
theorem vmaxAndVminOrderTheirOperands : Obligations.VmaxAndVminOrderTheirOperands := by
  unfold Obligations.VmaxAndVminOrderTheirOperands
  intro a b ha hb
  exact ⟨fun na => ⟨max32_of_nan_left b ha na, min32_of_nan_left b ha na⟩,
    fun na nb => ⟨max32_of_nan_right hb na nb, min32_of_nan_right hb na nb⟩,
    fun na nb => ⟨max32_of_not_nan ha hb na nb, min32_of_not_nan ha hb na nb⟩⟩

end Sys2Proof.Proofs.VectorOrder

namespace Sys2Proof.Proofs.HandlerStack

/-! ## The end of a handler (R409, R411, R413)

When the stack empties, what follows depends on the mode and on the two queues. Counting the handler's time and writing the depth
change neither, so both can be read in the state before the handler ended. -/

open Sys2Proof.Machine Sys2Proof.Claims

/-! ### What the two commands do to a stack -/

theorem exec_handlerEnd {s : State} {f : HandlerFrame} {fs : List HandlerFrame} (e : s.flt.stack = f :: fs) :
    exec .handlerEnd s = .next ((s.handlerTime f).resume fs).settled := by
  change execHandlerEnd s = _
  rw [execHandlerEnd, e]
  rfl

theorem exec_handlerLimitExpiry {s : State} {f : HandlerFrame} {fs : List HandlerFrame} (e : s.flt.stack = f :: fs) :
    exec .handlerLimitExpiry s =
      .next (if handlerLimit f.cls * 2 ^ 72 ≤ s.frameRan f * 1000000000 then s.overrun f fs else s).settled := by
  change execHandlerLimitExpiry s = _
  rw [execHandlerLimitExpiry, e]
  rfl

/-! ### What counting and emptying leave as they were -/

/-- The state with an empty handler stack. -/
def emptied (s : State) : State := (withStack s []).wr od4400_DEPTH 0 0

theorem emptied_mode {s : State} (c : s.canonical) : (emptied s).mode = s.mode :=
  State.rd_wr_ne (s := withStack s []) c (by decide) (by decide) (by decide) (by decide) (by decide)

@[simp] theorem handlerTime_flt (s : State) (f : HandlerFrame) : (s.handlerTime f).flt = s.flt :=
  State.tally_flt ..

@[simp] theorem handlerTime_clk (s : State) (f : HandlerFrame) : (s.handlerTime f).clk = s.clk :=
  congrArg TimeState.span (State.tally_time ..)

theorem handlerTime_frame {s : State} (f : HandlerFrame) (c : s.canonical) : OdFrame [0x4800] s (s.handlerTime f) :=
  OdFrame.tally c (by decide)

theorem emptied_handlerTime_mode {s : State} (f : HandlerFrame) (c : s.canonical) :
    (emptied (s.handlerTime f)).mode = s.mode := by
  have frame := handlerTime_frame f c
  exact (emptied_mode (frame.can c)).trans (frame.rd od4400_MODE 0 (by decide) (by decide) (by decide))

/-! ### What follows the end of a frame -/

theorem resume_cons (s : State) (g : HandlerFrame) (gs : List HandlerFrame) :
    s.resume (g :: gs) = (withStack s ({ g with top := s.clk } :: gs)).wr od4400_DEPTH 0 (gs.length + 1) := rfl

/-- The frame pushed for an error, given as its kind, unit and quadrant, that waited in the queue of a class. -/
def queuedFrame (s : State) (cls : Nat) (x : Nat × Nat × Nat) : HandlerFrame :=
  ⟨cls, x.1, x.2.1, s.coreFor ⟨cls, x.1, x.2.1, 0, x.2.2⟩, 0, s.clk⟩

theorem resume_nil_of_isolation {s : State} (m : (emptied s).mode = 2) : s.resume [] = emptied s :=
  if_pos m

theorem resume_nil_of_contained {s : State} {x : Nat × Nat × Nat} {xs : List (Nat × Nat × Nat)} (m : (emptied s).mode ≠ 2)
    (q : s.flt.contained = x :: xs) :
    let w := ({ emptied s with flt := { (emptied s).flt with contained := xs } }).queued
    s.resume [] = w.push (queuedFrame w 2 x) := by
  refine (if_neg m).trans ?_
  split
  next h => cases h.symm.trans q; rfl
  next h _ => cases h.symm.trans q
  next h _ => cases h.symm.trans q

theorem resume_nil_of_correctable {s : State} {x : Nat × Nat × Nat} {xs : List (Nat × Nat × Nat)} (m : (emptied s).mode ≠ 2)
    (q : s.flt.contained = []) (q' : s.flt.correctable = x :: xs) :
    let w := ({ emptied s with flt := { (emptied s).flt with correctable := xs } }).queued
    s.resume [] = w.push (queuedFrame w 1 x) := by
  refine (if_neg m).trans ?_
  split
  next h => cases h.symm.trans q
  next h => cases h.symm.trans q'; rfl
  next h => cases h.symm.trans q'

theorem resume_nil_of_queues_empty {s : State} (q : s.flt.contained = []) (q' : s.flt.correctable = []) :
    s.resume [] = emptied s := by
  refine ite_eq_left_iff.mpr fun _ => ?_
  split
  next h => cases h.symm.trans q
  next h => cases h.symm.trans q'
  next => rfl

/-- Settles O41: it holds. Counting the handler's time leaves the clock, the mode and the queues as they were, so what follows
the top frame is what the state before says. -/
theorem handlersEnd : Obligations.HandlersEnd := by
  unfold Obligations.HandlersEnd
  rintro f s ⟨c, -⟩
  have sameMode := emptied_handlerTime_mode f c
  refine ⟨fun g gs e => ?_, fun e => ⟨fun h => ?_, fun m x xs q => ?_, fun m q x xs q' => ?_⟩,
    fun fs e => ⟨fun below => ?_, fun reached => ?_⟩⟩
  · rw [exec_handlerEnd e, resume_cons, handlerTime_clk]
  · rw [exec_handlerEnd e]
    rcases h with m | ⟨q, q'⟩
    · rw [resume_nil_of_isolation (sameMode.trans m)]
      rfl
    · rw [resume_nil_of_queues_empty (by simpa using q) (by simpa using q')]
      rfl
  · rw [exec_handlerEnd e, resume_nil_of_contained (sameMode.trans_ne m) (by simpa using q), ← handlerTime_clk s f]
    rfl
  · rw [exec_handlerEnd e, resume_nil_of_correctable (sameMode.trans_ne m) (by simpa using q) (by simpa using q'), ← handlerTime_clk s f]
    rfl
  · rw [exec_handlerLimitExpiry e, if_neg (Nat.not_le.mpr below)]
  · rw [exec_handlerLimitExpiry e, if_pos reached]

end Sys2Proof.Proofs.HandlerStack

namespace Sys2Proof.Proofs.JtagCounters

/-! ## The counters through JTAG (R432) -/

open Sys2Proof.Machine Sys2Proof.Claims

/-- OD 4800 has one entry, of 8 bytes. -/
theorem width_of_odRow_counter {r : OdRow} (h : odRow 0x4800 1 = some r) : r.width = 8 := by
  have row : odRow 0x4800 1 = some ⟨od4800_COUNTER, .u64, 8, .ro, 7, 0, [], some 2048⟩ := rfl
  cases row.symm.trans h
  rfl

/-- A counter is worked out when it is read; `State.counter` is what the dictionary reads. -/
@[simp] theorem odLive_counter (s : State) (n : Nat) : s.odLive 0x4800 1 n = some (s.counter n) := rfl

theorem odValue_counter (s : State) (r : OdRow) (n : Nat) :
    s.odValue r 0x4800 1 n = (abOk, toLe r.width (s.counter n), s) := by
  simp [State.odValue]

theorem jtag_counter {s : State} (n : BitVec 11) (level : 1 ≤ s.rd od4100_DEBUG_EFFECTIVE 0) :
    s.jtag (.counter n) = s.send (.jtag (.counter n) (toLe 8 (s.counter n.toNat))) :=
  if_pos level

theorem exec_jtagAccess (op : JtagOp) (s : State) : exec (.jtagAccess op) s = .next (s.jtag op).settled := rfl

/-- Settles O55: it holds. Both paths take the 8 low bytes of the same `State.counter`. -/
theorem jtagReadsTheCountersOfOd4800 : Obligations.JtagReadsTheCountersOfOd4800 := by
  unfold Obligations.JtagReadsTheCountersOfOd4800
  intro s n r row level
  have value : (s.odValue r 0x4800 1 n.toNat).2.1 = toLe 8 (s.counter n.toNat) := by
    rw [odValue_counter, width_of_odRow_counter row]
  rw [exec_jtagAccess, jtag_counter n level, value]

end Sys2Proof.Proofs.JtagCounters

namespace Sys2Proof.Proofs.Steps

/-! ## What every step keeps (R382, R396, R409, R410, R412)

A step is a command on the state without the front of its queue, or one cycle of the time clock. Each keeps the invariant and
takes nothing back, which the laws say once of every command; the bound on the handler stack follows from its nesting. -/

open Sys2Proof.Machine Sys2Proof.Claims

/-- The state with the front command of its queue gone. -/
def behindFront (s : State) : State := { s with pending := s.pending.tail }

theorem behindFront_inv {s : State} (h : s.Inv) : (behindFront s).Inv := h

/-- The next state of a step keeps everything that a command or a cycle keeps of the state behind the front command. -/
theorem step_kept {s t : State} (h : s.Inv) (e : step s = .next t) : Kept (behindFront s) t := by
  unfold step at e
  split at e
  next q =>
    have same : behindFront s = s := congrArg (fun l => { s with pending := l }) (show s.pending.tail = s.pending by rw [q]; rfl)
    rw [same]
    exact State.done_kept (State.tick_kept (Kept.self h)) t e
  next c rest q =>
    have same : ({ s with pending := rest } : State) = behindFront s := by simp only [behindFront, q, List.tail_cons]
    rw [same] at e
    exact exec_kept (Kept.self (behindFront_inv h)) t e

/-- Numbers from 1 to n that fall strictly are at most n, and they are n only when the first of them is n. -/
theorem length_le_of_falling {l : List Nat} {n : Nat} (fall : l.Pairwise (fun a b => b < a)) (range : ∀ x ∈ l, 1 ≤ x ∧ x ≤ n) :
    l.length ≤ n ∧ (l.length = n → 0 < n → l.head? = some n) := by
  induction l generalizing n with
  | nil => exact ⟨n.zero_le, fun e p => absurd e (Nat.ne_of_lt p)⟩
  | cons a l ih =>
    obtain ⟨below, fall⟩ := List.pairwise_cons.mp fall
    obtain ⟨low, high⟩ := range a List.mem_cons_self
    have rest : l.length ≤ a - 1 := (ih fall fun x m => by
      have := below x m
      have := range x (List.mem_cons_of_mem a m)
      omega).1
    rw [List.length_cons]
    exact ⟨by omega, fun e _ => by rw [List.head?_cons]; congr; omega⟩

theorem stack_le_four {f : Faults} (h : f.nested) :
    f.stack.length ≤ 4 ∧ (f.stack.length = 4 → (f.stack.head?.map (·.cls)) = some 4) := by
  obtain ⟨fall, range, -⟩ := h
  have bound := length_le_of_falling (l := f.stack.map (·.cls)) (n := 4) (List.pairwise_map.mpr fall)
    (fun x m => by obtain ⟨y, hy, rfl⟩ := List.mem_map.mp m; exact range y hy)
  rw [List.length_map, List.head?_map] at bound
  exact ⟨bound.1, fun e => bound.2 e (by decide)⟩

/-- Settles O51: it holds. -/
theorem everyStepKeepsTheInvariant : Obligations.EveryStepKeepsTheInvariant := by
  unfold Obligations.EveryStepKeepsTheInvariant
  exact fun s t h e => (step_kept h e).inv

/-- Settles O52: it holds. The classes on the stack fall from at most 4 to at least 1. -/
theorem theHandlerStackNeverExceedsFour : Obligations.TheHandlerStackNeverExceedsFour := by
  unfold Obligations.TheHandlerStackNeverExceedsFour
  intro s t h e
  have nested := (step_kept h e).flt
  obtain ⟨-, -, -, contained, correctable⟩ := id nested
  exact ⟨(stack_le_four nested).1, contained, correctable, (stack_le_four nested).2⟩

/-- Settles O53: it holds. -/
theorem nothingThatIsSpentComesBack : Obligations.NothingThatIsSpentComesBack := by
  unfold Obligations.NothingThatIsSpentComesBack
  intro s t h e
  obtain ⟨pending, -, up, -, fuses, life⟩ := step_kept h e
  exact ⟨up, fuses, life, pending⟩

end Sys2Proof.Proofs.Steps

namespace Sys2Proof.Proofs.TineIssue

/-! ## What an issue does besides its instruction (R157, R176, R177)

The reasoning rules of an instruction that may issue: its effect starts from `counted`, the state with the issue noted, which
reads as the state before in everything but the counts. -/

open Sys2Proof.Machine Sys2Proof.Claims

/-- The opcode is the top byte of an instruction's word (Table 6.9). -/
theorem wordOf_div (op : Nat) (w : TineWord) : wordOf op w / 2 ^ 56 = op := by
  unfold wordOf
  have := w.fmt.isLt; have := w.rd.isLt; have := w.ra.isLt; have := w.rb.isLt; have := w.rc.isLt; have := w.imm.isLt
  omega

theorem tally_od_congr {s u : State} (e : s.od = u.od) (herd i k : Nat) : (s.tally herd i k).od = (u.tally herd i k).od := by
  obtain ⟨pending, outbox, up, freeN, od, _⟩ := s
  cases e
  unfold State.tally State.timeGated State.sealedHerd State.count State.bump State.wr State.rd
  dsimp only
  split <;> rfl

/-- A count leaves every entry but the counters of OD 4800. -/
theorem rd_tally {s : State} (can : s.canonical) {e : Ent} (hi : e.index < 65536) (hs : e.sub < 256) (ne : e ≠ od4800_COUNTER)
    (herd i k n : Nat) : (s.tally herd i k).rd e n = s.rd e n := by
  unfold State.tally
  split
  · rfl
  · exact State.rd_wr_other can (counter_ne hi hs ne)

/-! ### The state in which an effect takes place -/

/-- A tine with an issue of a thread noted. -/
def noted (s : State) (t h : Nat) : Tine := { s.tine t with issued := s.clk, count := (s.tine t).count + 1, turn := h }

section Counted
variable (s : State) (t : TineId) (h : ThreadId) (x : Thread) (c : Cmd)

theorem counted_tines : (counted s t h x c).cpu.tines = (s.setTine t.val (noted s t.val h.val)).cpu.tines := by
  unfold counted
  rw [scopeAdd_tines, scopeAdd_tines, State.tally_cpu]
  rfl

theorem counted_od : (counted s t h x c).od = (s.tally c.herd (0x400 + 2 * t.val) 1).od := by
  unfold counted
  rw [scopeAdd_od, scopeAdd_od]
  exact tally_od_congr (s := s.setTine t.val (noted s t.val h.val)) (u := s) rfl ..

theorem counted_eq : counted s t h x c = { s with od := (counted s t h x c).od, cpu := (counted s t h x c).cpu } := by
  unfold counted
  generalize hu : s.setTine _ _ = u
  obtain ⟨od, e⟩ := State.tally_eq u c.herd (0x400 + 2 * t.val) 1
  rw [e, scopeAdd_rest _ x.cid 1 1, scopeAdd_rest _ x.cid 0 1, ← hu]
  rfl

/-- Counting a command's events leaves the compute state but for the commands. -/
theorem scopeAdd_cpu (u : State) (cid ev k : Nat) : (u.scopeAdd cid ev k).cpu = { u.cpu with cmds := (u.scopeAdd cid ev k).cpu.cmds } := by
  unfold State.scopeAdd
  split <;> rfl

theorem counted_cpu : (counted s t h x c).cpu =
    { s.cpu with tines := (counted s t h x c).cpu.tines, cmds := (counted s t h x c).cpu.cmds } := by
  unfold counted
  rw [scopeAdd_cpu _ x.cid 1 1, scopeAdd_cpu _ x.cid 0 1, State.tally_cpu]
  rfl

variable {s t h x c}

theorem counted_sameOd (can : s.canonical) : SameOd s (counted s t h x c) := by
  intro e n hi hs ne
  rw [State.rd, counted_od]
  exact rd_tally can hi hs ne ..

theorem counted_canonical (can : s.canonical) : (counted s t h x c).canonical := by
  have sram : (counted s t h x c).cpu.sram = s.cpu.sram := by rw [counted_cpu]
  obtain ⟨-, mem, cxl, flash, sramWf, links, keys, gran⟩ := id can
  rw [State.canonical, sram, counted_od, counted_eq]
  have : (s.tally c.herd (0x400 + 2 * t.val) 1).canonical := (OdFrame.tally (l := [0x4800]) can (by decide)).can can
  exact ⟨this.1, mem, cxl, flash, sramWf, links, keys, gran⟩

/-- What a function reads of a command besides its counts is as it was. -/
theorem counted_cmd {β : Type} (f : Cmd → β) (hf : ∀ d l, f { d with scope := l } = f d) (cid : Nat) :
    ((counted s t h x c).cmd cid).map f = (s.cmd cid).map f := by
  unfold counted
  rw [scopeAdd_cmds f hf, scopeAdd_cmds f hf, State.cmd, State.tally_cpu]
  rfl

theorem counted_inWindow (cid a n : Nat) : (counted s t h x c).inWindow cid t.val a n = s.inWindow cid t.val a n := by
  have key : ∀ u : State, u.inWindow cid t.val a n = (((u.cmd cid).map (fun c => c.window t.val)).map
      (fun w => decide (w.1 ≤ a) && decide (a + n ≤ w.1 + w.2))).getD false := by
    intro u
    unfold State.inWindow
    cases u.cmd cid <;> rfl
  rw [key, key, counted_cmd _ (fun _ _ => rfl)]

theorem counted_readSram (t' a n : Nat) : (counted s t h x c).readSram t' a n = s.readSram t' a n := by
  unfold State.readSram
  rw [counted_cpu]

/-- The issuing tine has its issue noted; its threads and everything else of it are as they were. -/
theorem counted_tine (live : (s.tine t.val).threads ≠ []) : (counted s t h x c).tine t.val = noted s t.val h.val := by
  rw [State.tine, counted_tines]
  exact State.tine_setTine_same (u := noted s t.val h.val) live

theorem counted_tine_other (live : (s.tine t.val).threads ≠ []) {t' : Nat} (ne : t' ≠ t.val) :
    (counted s t h x c).tine t' = s.tine t' := by
  rw [State.tine, counted_tines]
  exact State.tine_setTine_other (u := noted s t.val h.val) live ne

theorem counted_thread (live : (s.tine t.val).threads ≠ []) (t' h' : Nat) : (counted s t h x c).thread t' h' = s.thread t' h' := by
  unfold State.thread
  by_cases e : t' = t.val
  · rw [e, counted_tine live]; rfl
  · rw [counted_tine_other live e]

theorem counted_tineRest (live : (s.tine t.val).threads ≠ []) (t' : Nat) :
    tineRest ((counted s t h x c).tine t') = tineRest (s.tine t') := by
  by_cases e : t' = t.val
  · rw [e, counted_tine live]; rfl
  · rw [counted_tine_other live e]

end Counted

/-! ### The instruction that issues -/

section Issue
variable {s : State} {t : TineId} {h : ThreadId} {op : Nat} {w : TineWord} {x : Thread} {c : Cmd}

theorem threads_ne_nil_of_turn (m : ItsTurn s t h x c) : (s.tine t.val).threads ≠ [] :=
  State.thread_live_threads (h := h.val) (by rw [m.thread]; exact m.live)

theorem noteIssue_eq (m : ItsTurn s t h x c) : s.noteIssue t.val h.val c.herd op = (counted s t h x c, issuing s t op x) := by
  rw [State.noteIssue, m.thread]
  rfl

/-- A thread whose turn it is comes to the word at its pc. -/
theorem issueIf_of_turn (m : ItsTurn s t h x c) (ok : Bool) (k : State → Thread → State) :
    s.issueIf t h op w ok k = match s.icached t.val x.pc with
      | none => s.fetch t h x c
      | some v => if !opKnown (v / 2 ^ 56) then (counted s t h x c).endThread t.val h.val eFormat
        else if v = wordOf op w && ok then k (counted s t h x c) (issuing s t op x) else s := by
  simp only [State.issueIf, m.thread, m.live, m.ready, m.runs, m.turn, m.cmd]
  cases s.icached t.val x.pc with
  | none => rfl
  | some v => dsimp only; rw [noteIssue_eq m]; rfl

/-- An instruction that may issue takes its effect on the counted state. -/
theorem issueIf_eq (m : MayIssue s t h op w x c) (known : opKnown op = true) {ok : Bool} (hok : ok = true)
    (k : State → Thread → State) : s.issueIf t h op w ok k = k (counted s t h x c) (issuing s t op x) := by
  rw [issueIf_of_turn m.toItsTurn, m.word]
  dsimp only
  rw [wordOf_div, known, hok]
  simp

theorem issue_eq (m : MayIssue s t h op w x c) (known : opKnown op = true) (k : State → Thread → State) :
    s.issue t h op w k = k (counted s t h x c) (issuing s t op x) := issueIf_eq m known rfl k

/-- An effect that sets the issuing thread to a live one changes that thread and the counts alone. -/
theorem onlyThread_setThread (can : s.canonical) (m : ItsTurn s t h x c) {y : Thread} (live : y.live = true) :
    OnlyThread s ((counted s t h x c).setThread t.val h.val y) t h y := by
  have some_ := threads_ne_nil_of_turn m
  obtain ⟨own, others, rest, -⟩ := State.setThread_spec (counted s t h x c) t.val h.val (Thread.ne_new live)
  refine ⟨own, fun t' h' ne => (others t' h' ne).trans (counted_thread some_ t' h'), fun t' => ?_, ?_,
    fun cid => counted_cmd cmdRest (fun _ _ => rfl) cid, counted_sameOd can, ?_⟩
  · rw [← counted_tineRest some_ t']
    exact congrArg (fun u : Tine => { u with issued := 0, count := 0, turn := 0 }) (rest t')
  · show cpuRest _ = _
    simp only [State.setThread, State.setTine, cpuRest]
    rw [counted_cpu]
  · simp only [State.setThread, State.setTine]
    rw [counted_eq]

end Issue

end Sys2Proof.Proofs.TineIssue

namespace Sys2Proof.Proofs.ScalarInstructions

/-! ## Scalar instructions, SRAM accesses, WAIT, BAR and EXIT (R154, R161, R164, R173, R177)

Each instruction that may issue acts on the counted state. What remains of a scalar instruction is that the model's arithmetic on
numbers is the table's arithmetic on 64-bit words: a register keeps a result modulo 2^64. -/

open Sys2Proof.Machine Sys2Proof.Claims Sys2Proof.Proofs.TineIssue

/-! ### Threads -/

@[simp] theorem issuing_live (s : State) (t : TineId) (op : Nat) (x : Thread) : (issuing s t op x).live = x.live := rfl
@[simp] theorem next_live (x : Thread) : x.next.live = x.live := rfl
@[simp] theorem branch_live (x : Thread) (i : Word) : (x.branch i).live = x.live := rfl
@[simp] theorem toRd_live (w : TineWord) (x : Thread) (v : Nat) : (toRd w x v).live = x.live := setReg_live

/-- A register keeps the low 64 bits of a result. -/
theorem toRd_congr (w : TineWord) (x : Thread) {a b : Nat} (e : a % 2 ^ 64 = b % 2 ^ 64) : toRd w x a = toRd w x b := by
  rw [toRd, setReg_congr e]; rfl

/-- A branch with its target as 64-bit arithmetic. -/
theorem branch_eq (x : Thread) (i : Word) :
    x.branch i = { x with pc := (BitVec.ofNat 64 x.pc + 8#64 * i.signExtend 64).toNat } := by
  simp only [Thread.branch, sext32_eq, BitVec.toNat_add, BitVec.toNat_mul, BitVec.toNat_ofNat]
  congr 1
  omega

/-! ### Completion -/

section Completion
variable {i : Instr} {s : State} {t : TineId} {h : ThreadId} {op : Nat} {w : TineWord} {x : Thread} {c : Cmd}
  (inv : s.Inv) (m : MayIssue s t h op w x c)
include inv m

/-- An instruction whose effect is to set its thread completes so. -/
theorem completes_of_setThread (g : State → Thread → Thread) (known : opKnown op = true) {y : Thread}
    (run : exec i s = .next (s.issue t h op w (fun s x => s.setThread t.val h.val (g s x))))
    (res : g (counted s t h x c) (issuing s t op x) = y) (live : y.live = x.live) :
    ∃ u, exec i s = .next u ∧ OnlyThread s u t h y := by
  refine ⟨_, run, ?_⟩
  rw [issue_eq m known, res]
  exact onlyThread_setThread inv.1 m.toItsTurn (live.trans m.live)

/-- An instruction that writes [RD] with what the table gives, modulo 2^64, completes so. -/
theorem completes_of_alu (f : Thread → Nat) (known : opKnown op = true) {v : Nat}
    (run : exec i s = .next (s.alu t h op w f)) (res : f (issuing s t op x) % 2 ^ 64 = v % 2 ^ 64) :
    ∃ u, exec i s = .next u ∧ OnlyThread s u t h (toRd w (issuing s t op x) v) :=
  completes_of_setThread inv m (fun _ y => toRd w y (f y)) known run (toRd_congr w _ res) (toRd_live ..)

/-- A branch completes as the table says where its condition is the table's. -/
theorem completes_of_branchIf (f : Thread → Bool) (known : opKnown op = true) {p : Prop} [Decidable p]
    (run : exec i s = .next (s.branchIf t h op w f)) (res : f (issuing s t op x) = true ↔ p) :
    ∃ u, exec i s = .next u ∧
      OnlyThread s u t h (if p then (issuing s t op x).branch w.imm else (issuing s t op x).next) :=
  completes_of_setThread inv m (fun _ y => if f y then y.branch w.imm else y.next) known run
    (by simp only [res]) (by split <;> rfl)

/-- A SYS with an IMM of the table completes with the value of its row. -/
theorem completes_of_sys (n : Nat) (g : State → Thread → Thread) (is : op = 0x1F) (imm : w.imm.toNat = n)
    (run : exec i s = .next (s.sys t h w n (fun s x => s.setThread t.val h.val (g s x)))) {y : Thread}
    (res : g (counted s t h x c) (issuing s t op x) = y) (live : y.live = x.live) :
    ∃ u, exec i s = .next u ∧ OnlyThread s u t h y := by
  subst is
  refine ⟨_, run, ?_⟩
  rw [State.sys, issueIf_eq m (by decide) (by simp [imm])]
  rw [if_pos imm, res]
  exact onlyThread_setThread inv.1 m.toItsTurn (live.trans m.live)

end Completion

/-! ### The table's arithmetic -/

theorem sub_mod (a b : Nat) : (a + (2 ^ 64 - b % 2 ^ 64)) % 2 ^ 64 % 2 ^ 64 = (BitVec.ofNat 64 a - BitVec.ofNat 64 b).toNat % 2 ^ 64 := by
  rw [BitVec.toNat_sub, BitVec.toNat_ofNat, BitVec.toNat_ofNat]
  omega

theorem mul_mod (a b : Nat) : a * b % 2 ^ 64 % 2 ^ 64 = (BitVec.ofNat 64 a * BitVec.ofNat 64 b).toNat % 2 ^ 64 := by
  simp [Nat.mul_mod]

theorem shl_mod (a k : Nat) : a * 2 ^ k % 2 ^ 64 % 2 ^ 64 = (BitVec.ofNat 64 a <<< k).toNat % 2 ^ 64 := by
  simp [BitVec.toNat_shiftLeft, Nat.shiftLeft_eq, Nat.mul_mod]

/-- A bitwise operation on 64-bit words is the one on numbers, modulo 2^64. -/
theorem bitwise_mod {f : Nat → Nat → Nat} {a b : Nat} {g : BitVec 64}
    (word : g.toNat = f (BitVec.ofNat 64 a).toNat (BitVec.ofNat 64 b).toNat)
    (mod : ∀ {n x y : Nat}, f x y % 2 ^ n = f (x % 2 ^ n) (y % 2 ^ n)) : f a b % 2 ^ 64 = g.toNat % 2 ^ 64 := by
  rw [word, BitVec.toNat_ofNat, BitVec.toNat_ofNat, ← mod, Nat.mod_mod]

theorem lih_eq (i : Word) (a : Nat) : i.toNat * 2 ^ 32 + a % 2 ^ 32 = (i ++ BitVec.ofNat 32 a).toNat := by
  rw [BitVec.toNat_append, BitVec.toNat_ofNat, ← Nat.shiftLeft_add_eq_or_of_lt (Nat.mod_lt _ (by decide)), Nat.shiftLeft_eq]

theorem sra_eq (a k : Nat) : unsigned 64 (signed 64 a / (2 ^ k : Nat)) = ((BitVec.ofNat 64 a).sshiftRight k).toNat := by
  rw [unsigned64, signed64, BitVec.sshiftRight, Int.shiftRight_eq_div_pow]

theorem slt_eq (a b : Nat) : (if signed 64 a < signed 64 b then 1 else 0) = (BitVec.slt (BitVec.ofNat 64 a) (BitVec.ofNat 64 b)).toNat := by
  by_cases e : signed 64 a < signed 64 b
  · rw [if_pos e, (slt_iff a b).mp e]; rfl
  · rw [if_neg e, Bool.eq_false_iff.mpr (mt (slt_iff a b).mpr e)]; rfl

/-! ### What a counted state reads -/

theorem counted_ft (s : State) (t h x c q) : (counted s t h x c).ft q = s.ft q := by
  rw [counted_eq]; rfl

theorem counted_qual {s : State} (can : s.canonical) (t h x c q) : (counted s t h x c).qual q = s.qual q := by
  have time : (counted s t h x c).time = s.time := by rw [counted_eq]
  rw [State.qual, time, counted_sameOd can od2000_QUALITY 0 (by decide) (by decide) (by decide)]
  rfl

theorem counted_cycles (s : State) (t h x c) : (counted s t h x c).cpu.cycles = s.cpu.cycles := by
  rw [counted_cpu]

/-- Every row of Table 6.6 that is scalar gives the result of the table. -/
theorem scalar_completes {i : Instr} {t : TineId} {h : ThreadId} {op : Nat} {w : TineWord} {f : State → Thread → Thread}
    (row : scalar i = some (t, h, f)) (word : tineOf i = some (t, h, op, w)) {s : State} {x : Thread} {c : Cmd} (inv : s.Inv)
    (m : MayIssue s t h op w x c) : ∃ u, exec i s = .next u ∧ OnlyThread s u t h (f s (issuing s t op x)) := by
  unfold scalar at row
  split at row
  case h_1 => -- NOP
    cases row; cases word
    exact completes_of_setThread inv m (fun _ y => y.next) (by decide) rfl rfl rfl
  case h_2 => -- ADD
    cases row; cases word
    exact completes_of_alu inv m _ (by decide) rfl (Nat.mod_mod ..)
  case h_3 => -- SUB
    cases row; cases word
    exact completes_of_alu inv m _ (by decide) rfl (sub_mod ..)
  case h_4 => -- MUL
    cases row; cases word
    exact completes_of_alu inv m _ (by decide) rfl (mul_mod ..)
  case h_5 => -- AND
    cases row; cases word
    exact completes_of_alu inv m _ (by decide) rfl (bitwise_mod (BitVec.toNat_and ..) Nat.and_mod_two_pow)
  case h_6 => -- OR
    cases row; cases word
    exact completes_of_alu inv m _ (by decide) rfl (bitwise_mod (BitVec.toNat_or ..) Nat.or_mod_two_pow)
  case h_7 => -- XOR
    cases row; cases word
    exact completes_of_alu inv m _ (by decide) rfl (bitwise_mod (BitVec.toNat_xor ..) Nat.xor_mod_two_pow)
  case h_8 => -- SHL
    cases row; cases word
    exact completes_of_alu inv m _ (by decide) rfl (shl_mod ..)
  case h_9 => -- SHR
    cases row; cases word
    exact completes_of_alu inv m _ (by decide) rfl (by rw [Nat.shiftRight_eq_div_pow])
  case h_10 => -- SRA
    cases row; cases word
    exact completes_of_alu inv m _ (by decide) rfl (by rw [sra_eq])
  case h_11 => -- SLT
    cases row; cases word
    exact completes_of_alu inv m _ (by decide) rfl (by rw [slt_eq])
  case h_12 => -- SLTU
    cases row; cases word
    exact completes_of_alu inv m _ (by decide) rfl (by rw [Bool.toNat, Bool.cond_decide])
  case h_13 => -- ADDI
    cases row; cases word
    exact completes_of_alu inv m _ (by decide) rfl (by simp [sext32_eq])
  case h_14 => -- LIH
    cases row; cases word
    exact completes_of_alu inv m _ (by decide) rfl (by rw [lih_eq])
  case h_15 => -- BEQ
    cases row; cases word
    exact completes_of_branchIf inv m _ (by decide) rfl (by simp)
  case h_16 => -- BNE
    cases row; cases word
    exact completes_of_branchIf inv m _ (by decide) rfl (by simp)
  case h_17 => -- BLT
    cases row; cases word
    exact completes_of_branchIf inv m _ (by decide) rfl (decide_eq_true_iff.trans (slt_iff ..))
  case h_18 => -- BGE
    cases row; cases word
    simpa only [ite_not] using completes_of_branchIf inv m (fun y => decide (signed 64 (y.rb _) ≤ signed 64 (y.ra _))) (by decide) rfl
      (decide_eq_true_iff.trans (not_lt.symm.trans (slt_iff ..).not))
  case h_19 => -- JAL
    cases row; cases word
    exact completes_of_setThread inv m (fun _ y => (y.setReg _ (y.pc + 8)).branch _) (by decide) rfl
      (by rw [branch_eq, setReg_pc]) setReg_live
  case h_20 => -- JR
    cases row; cases word
    exact completes_of_setThread inv m (fun _ y => { y with pc := y.ra _ }) (by decide) rfl rfl rfl
  case h_21 => -- SYS, the fabric time
    split at row <;> cases row; cases word
    exact completes_of_sys inv m 0 (fun u y => toRd _ y (u.ft (t.val / 64))) rfl (by simp [*]) rfl (by rw [counted_ft]) (toRd_live ..)
  case h_22 => -- SYS, the quality
    split at row <;> cases row; cases word
    exact completes_of_sys inv m 1 (fun u y => toRd _ y (u.qual (t.val / 64))) rfl (by simp [*]) rfl (by rw [counted_qual inv.1]) (toRd_live ..)
  case h_23 => -- SYS, the tine number
    split at row <;> cases row; cases word
    exact completes_of_sys inv m 2 (fun _ y => toRd _ y t.val) rfl (by simp [*]) rfl rfl (toRd_live ..)
  case h_24 => -- SYS, ERR
    split at row <;> cases row; cases word
    exact completes_of_sys inv m 3 (fun _ y => toRd _ { y with err := 0 } y.err) rfl (by simp [*]) rfl rfl (toRd_live ..)
  case h_25 => -- SYS, the cycle count
    split at row <;> cases row; cases word
    exact completes_of_sys inv m 4 (fun u y => toRd _ y (quadGet u.cpu.cycles (t.val / 64) / 16 % 2 ^ 64)) rfl (by simp [*]) rfl
      (by rw [counted_cycles]; exact toRd_congr _ _ (Nat.mod_mod ..)) (toRd_live ..)
  case h_26 => cases row

/-- A SYS with an IMM that the table does not list completes with a free value, whatever row stands for it (log entry 83). -/
theorem sysOther_completes {i : Instr} {t : TineId} {h : ThreadId} {w : TineWord} {s : State} {x : Thread} {c : Cmd}
    {k : State → Thread → State} (n : Nat) (inv : s.Inv) (m : MayIssue s t h 0x1F w x c) (listed : n ≤ 4) (imm : 4 < w.imm.toNat)
    (run : exec i s = .next (s.sys t h w n k)) :
    ∃ u v, exec i s = .next u ∧ OnlyThread s { u with freeN := s.freeN } t h (toRd w (issuing s t 0x1F x) v) := by
  refine ⟨_, Config.sysOther (counted s t h x c).freeN, run, ?_⟩
  rw [State.sys, issueIf_eq m (by decide) (by simp [imm]), if_neg (by omega)]
  have only := onlyThread_setThread inv.1 m.toItsTurn (y := toRd w (issuing s t 0x1F x) (Config.sysOther (counted s t h x c).freeN))
    ((toRd_live ..).trans m.live)
  have freeN : (counted s t h x c).freeN = s.freeN := by rw [counted_eq]
  rw [← freeN]
  exact only

/-- Settles O2: it holds. -/
theorem scalarInstructionsComplete : Obligations.ScalarInstructionsComplete := by
  unfold Obligations.ScalarInstructionsComplete
  refine ⟨fun i t h op w f row word s x c inv m => scalar_completes row word inv m, fun i t h w word imm s x c inv m => ?_⟩
  cases i <;> cases word
  case tSysFabricTime => exact sysOther_completes 0 inv m (by decide) imm rfl
  case tSysQuality => exact sysOther_completes 1 inv m (by decide) imm rfl
  case tSysTineNumber => exact sysOther_completes 2 inv m (by decide) imm rfl
  case tSysErr => exact sysOther_completes 3 inv m (by decide) imm rfl
  case tSysCycleCount => exact sysOther_completes 4 inv m (by decide) imm rfl

/-! ### SRAM (R154) -/

section Sram
variable {s : State} {t : TineId} {h : ThreadId} {w : TineWord} {x : Thread} {c : Cmd}

theorem exec_tLds (m : MayIssue s t h 0x18 w x c) : exec (.tLds t h w) s = .next
    (if s.inWindow x.cid t.val (sramAddr x w) 8 then
      (counted s t h x c).setRd t h w (issuing s t 0x18 x) (leNat (s.readSram t.val (sramAddr x w) 8))
    else (counted s t h x c).endThread t.val h.val eAccess) := by
  change execTLds t h w s = _
  rw [execTLds, issue_eq m (by decide), ← counted_inWindow (s := s) (h := h) (x := x) (c := c),
    ← counted_readSram (s := s) (t := t) (h := h) (x := x) (c := c)]
  rfl

theorem exec_tSts (m : MayIssue s t h 0x19 w x c) : exec (.tSts t h w) s = .next
    (if s.inWindow x.cid t.val (sramAddr x w) 8 then
      ((counted s t h x c).writeSram t.val (sramAddr x w) (toLe 8 (x.rb w))).setThread t.val h.val (issuing s t 0x19 x).next
    else (counted s t h x c).endThread t.val h.val eAccess) := by
  change execTSts t h w s = _
  rw [execTSts, issue_eq m (by decide), ← counted_inWindow (s := s) (h := h) (x := x) (c := c)]
  rfl

/-- A store to SRAM with SRAM put back leaves the state as the thread's step alone left it. -/
theorem setThread_writeSram_restored (u : State) (t' h' a : Nat) (bs : List Byte) (y : Thread) :
    ({ (u.writeSram t' a bs).setThread t' h' y with
      cpu := { ((u.writeSram t' a bs).setThread t' h' y).cpu with sram := u.cpu.sram } } : State) = u.setThread t' h' y := by
  obtain ⟨sram, e⟩ := writeSram_eq u t' a bs
  rw [e]
  rfl

theorem counted_sram (s : State) (t h x c) : (counted s t h x c).cpu.sram = s.cpu.sram := by
  rw [counted_cpu]

end Sram

theorem toLe_length (n v : Nat) : (toLe n v).length = n := by
  induction n generalizing v with
  | zero => rfl
  | succ n ih => rw [toLe, List.length_cons, ih]

/-- Settles O3: it holds. -/
theorem sramAccessesComplete : Obligations.SramAccessesComplete := by
  unfold Obligations.SramAccessesComplete
  refine ⟨fun t h w s x c inv m inside => ?_, fun t h w s x c inv m inside => ?_,
    fun t h w s x c inv outside => ⟨fun m => ?_, fun m => ?_⟩⟩
  · refine ⟨_, (exec_tLds m).trans (by rw [if_pos inside]), ?_⟩
    exact onlyThread_setThread inv.1 m.toItsTurn ((toRd_live ..).trans m.live)
  · refine ⟨_, (exec_tSts m).trans (by rw [if_pos inside]), ?_, fun k out => ?_, ?_⟩
    · have back := readSram_writeSram (t := t.val) (a := sramAddr x w) (bs := toLe 8 (x.rb w)) (counted_canonical (t := t) (h := h) (x := x) (c := c) inv.1).2.2.2.2.1
      rwa [toLe_length] at back
    · refine (writeSram_get (counted_canonical inv.1).2.2.2.2.1 k).trans ?_
      rw [toLe_length, if_neg (by omega), counted_sram]
    · rw [← counted_sram s t h x c, setThread_writeSram_restored]
      exact onlyThread_setThread inv.1 m.toItsTurn m.live
  · rw [exec_tLds m, outside]; rfl
  · rw [exec_tSts m, outside]; rfl

/-- Settles O4: it holds. -/
theorem waitBarExitComplete : Obligations.WaitBarExitComplete := by
  unfold Obligations.WaitBarExitComplete
  intro t h w s x c _
  exact ⟨fun m => congrArg Host.Outcome.next (issue_eq m (by decide) _), fun m => congrArg Host.Outcome.next (issue_eq m (by decide) _),
    fun m => congrArg Host.Outcome.next (issue_eq m (by decide) _)⟩

end Sys2Proof.Proofs.ScalarInstructions

namespace Sys2Proof.Proofs.RemoteInstructions

/-! ## Remote instructions (R159, R160, R177)

A remote instruction checks its length, its operands' windows and the limits of R160 on the counted state. What these checks and
the request's header read is untouched by the counts, so they come out as on the state before. -/

open Sys2Proof.Machine Sys2Proof.Claims Sys2Proof.Proofs.TineIssue

/-- What leads an address to its home is the extent table, which the counters are no part of. -/
theorem homeOf_congr {s u : State} (same : SameOd s u) (ext : u.extents = s.extents) (changes : u.pool.changes = s.pool.changes)
    (herd addr : Nat) : u.homeOf herd addr = s.homeOf herd addr := by
  have force : u.extInForce = s.extInForce := by
    funext e
    simp only [State.extInForce, State.extState, State.extHerd, State.herdState, State.changeOf, changes,
      same od2820_STATE _ (by decide) (by decide) (by decide), same od2820_HERD _ (by decide) (by decide) (by decide),
      same od2800_STATE _ (by decide) (by decide) (by decide)]
    rfl
  simp only [State.homeOf, State.extAt, ext, force, State.extMapped, State.extHerd, State.extShared, State.extBytes,
    State.extGranules, State.extBase, same od2820_HERD _ (by decide) (by decide) (by decide),
    same od2820_SHARED _ (by decide) (by decide) (by decide), same od2820_BASE _ (by decide) (by decide) (by decide),
    same od2820_GRANULES _ (by decide) (by decide) (by decide), same od2820_HOME _ (by decide) (by decide) (by decide)]
  rfl

section Counted
variable {s : State} {t : TineId} {h : ThreadId} {x : Thread} {c : Cmd}

theorem counted_extents : (counted s t h x c).extents = s.extents := by
  rw [State.extents, counted_od]
  exact extents_tally ..

theorem counted_homeOf (can : s.canonical) (herd addr : Nat) : (counted s t h x c).homeOf herd addr = s.homeOf herd addr :=
  homeOf_congr (counted_sameOd can) counted_extents (by rw [counted_eq]) herd addr

/-- The limits of R160 read nothing that an issue counts. -/
theorem counted_sbRoom (can : s.canonical) (live : (s.tine t.val).threads ≠ []) {d : Cmd} (herd : d.herd = c.herd) (addr : Nat) :
    (counted s t h x c).sbRoom t.val h.val d addr = s.sbRoom t.val h.val c addr := by
  have tr : (counted s t h x c).tr = s.tr := by rw [counted_eq]
  simp only [State.sbRoom, State.sbCount, State.windowOf, counted_homeOf can, counted_tine live, noted, tr, herd,
    counted_sameOd can od1100_TINE_BASE _ (by decide) (by decide) (by decide),
    counted_sameOd can od2408_INTERNAL_CAP _ (by decide) (by decide) (by decide)]
  rfl

/-- The command of an issue is in flight as before but for its counts. -/
theorem counted_cmd_some {d : Cmd} {cid : Nat} (e : s.cmd cid = some d) :
    ∃ d', (counted s t h x c).cmd cid = some d' ∧ d'.herd = d.herd ∧ d'.desc = d.desc := by
  have same := counted_cmd (s := s) (t := t) (h := h) (x := x) (c := c) (fun d => (d.herd, d.desc)) (fun _ _ => rfl) cid
  rw [e] at same
  obtain ⟨d', e', pair⟩ := Option.map_eq_some_iff.mp same
  exact ⟨d', e', congrArg Prod.fst pair, congrArg Prod.snd pair⟩

end Counted

/-! ### The operation as it leaves the thread -/

/-- The scoreboard entry of an operation (R163). -/
def entryOf (s : State) (t h : Nat) (d : Cmd) (o : RemoteOp) : SbEntry :=
  { thread := h, op := o.op, herd := d.herd, dst := s.homeOf d.herd o.addr, addr := o.addr, tag := (s.tine t).freeTag,
    psn := sparseGet 0 s.tr.psn ((s.rd od1100_TINE_BASE 0 + t) % 65536 * 65536 + s.homeOf d.herd o.addr),
    time := s.ft (t / 64), quality := s.qual (t / 64), sram := o.sram }

/-- The tine with the entry. -/
def withEntry (s : State) (t h : Nat) (d : Cmd) (o : RemoteOp) : Tine :=
  { s.tine t with sb := (s.tine t).sb ++ [entryOf s t h d o], nextTag := ((s.tine t).freeTag + 1) % 65536 }

/-- The state with the entry held and the thread gone on, before anything is counted. -/
def held (s : State) (t h : Nat) (y : Thread) (d : Cmd) (o : RemoteOp) : State :=
  (s.setTine t (withEntry s t h d o)).setThread t h y.next

/-- The state with the operation counted. -/
def sentOnce (s : State) (t h : Nat) (y : Thread) (d : Cmd) (o : RemoteOp) : State :=
  (((held s t h y d o).tineCounts t).tally d.herd (0x400 + 2 * t + 1) 1).scopeAdd y.cid 2 1

/-- The state that the request enters, with the bytes counted too. -/
def sent (s : State) (t h : Nat) (y : Thread) (d : Cmd) (o : RemoteOp) : State :=
  (sentOnce s t h y d o).scopeAdd y.cid 3 o.payload.length

/-- The request of an operation. -/
def requestOf (s : State) (t : TineId) (h : ThreadId) (w : TineWord) (d : Cmd) (o : RemoteOp) : Req :=
  { id := s.tr.nextId, sender := .tine t h, op := o.op, hdr := s.remoteHdr t.val d w (s.tine t.val).freeTag o,
    payload := o.payload, ext := 0, born := s.clk, place := .rate, path := none, dest := 0xFFFF }

section Sent
variable {s : State} {t h : Nat} {y : Thread} {d : Cmd} {o : RemoteOp}

theorem sent_tines : (sent s t h y d o).cpu.tines = (held s t h y d o).cpu.tines := by
  unfold sent sentOnce State.tineCounts
  rw [scopeAdd_tines, scopeAdd_tines, State.tally_cpu]
  rfl

theorem held_eq : held s t h y d o = { s with cpu := { s.cpu with tines := (held s t h y d o).cpu.tines } } := rfl

theorem sent_cpuRest : cpuRest (sent s t h y d o).cpu = cpuRest s.cpu := by
  unfold sent sentOnce State.tineCounts
  rw [scopeAdd_cpu _ y.cid 3, scopeAdd_cpu _ y.cid 2, State.tally_cpu]
  rfl

theorem sentOnce_eq : sentOnce s t h y d o = { s with od := (sentOnce s t h y d o).od, cpu := (sentOnce s t h y d o).cpu } := by
  unfold sentOnce
  generalize hu : (held s t h y d o).tineCounts t = u
  obtain ⟨od, e⟩ := State.tally_eq u d.herd (0x400 + 2 * t + 1) 1
  rw [e, scopeAdd_rest _ y.cid 2, ← hu]
  rfl

theorem sent_eq : sent s t h y d o = { s with od := (sent s t h y d o).od, cpu := (sent s t h y d o).cpu } := by
  unfold sent
  rw [scopeAdd_rest, sentOnce_eq]

/-- The counts of a tine and of its herd leave where the tines' endpoints begin. -/
theorem sentOnce_tineBase (can : s.canonical) : (sentOnce s t h y d o).rd od1100_TINE_BASE 0 = s.rd od1100_TINE_BASE 0 := by
  have can1 : (held s t h y d o).canonical := can
  have can2 : ((held s t h y d o).tineCounts t).canonical := State.canonical_wr (State.canonical_wr can1)
  rw [sentOnce, State.rd, scopeAdd_od]
  refine (rd_tally can2 (by decide) (by decide) (by decide) ..).trans ?_
  refine (State.rd_wr_ne (State.canonical_wr can1) (by decide) (by decide) (by decide) (by decide) (by decide)).trans ?_
  exact State.rd_wr_ne can1 (by decide) (by decide) (by decide) (by decide) (by decide)

theorem sent_thread (live : (s.tine t).threads ≠ []) (alive : y.live = true) :
    (sent s t h y d o).thread t h = y.next ∧
    (∀ t' h', (t', h') ≠ (t, h) → (sent s t h y d o).thread t' h' = s.thread t' h') ∧
    ((sent s t h y d o).tine t).sb = (s.tine t).sb ++ [entryOf s t h d o] := by
  obtain ⟨own, others, rest, -⟩ := State.setThread_spec (s.setTine t (withEntry s t h d o)) t h (Thread.ne_new (x := y.next) alive)
  have tine : ∀ t', (sent s t h y d o).tine t' = (held s t h y d o).tine t' := fun t' => by rw [State.tine, sent_tines]; rfl
  have thread : ∀ t' h', (sent s t h y d o).thread t' h' = (held s t h y d o).thread t' h' :=
    fun t' h' => by rw [State.thread, tine]; rfl
  have entered : (s.setTine t (withEntry s t h d o)).tine t = withEntry s t h d o := State.tine_setTine_same live
  refine ⟨(thread t h).trans own, fun t' h' ne => ((thread t' h').trans (others t' h' ne)).trans ?_, ?_⟩
  · unfold State.thread
    by_cases e : t' = t
    · rw [e, entered]; rfl
    · rw [State.tine_setTine_other (u := withEntry s t h d o) live e]
  · have sb := congrArg Tine.sb (rest t)
    rw [tine]
    exact sb.trans (congrArg Tine.sb entered)

end Sent

/-- Where no limit bars it, an operation leaves the thread as the table says. -/
theorem remote_eq {s : State} {t : TineId} {h : ThreadId} {w : TineWord} {y : Thread} {d : Cmd} {o : RemoteOp} (can : s.canonical)
    (cmd : s.cmd y.cid = some d) (room : s.sbRoom t.val h.val d o.addr = true) :
    s.remote t h w y o = (sent s t.val h.val y d o).enter (requestOf s t h w d o) := by
  have tr : (sentOnce s t.val h.val y d o).tr = s.tr := by rw [sentOnce_eq]
  have time : (sentOnce s t.val h.val y d o).time = s.time := by rw [sentOnce_eq]
  have request : ({ requestOf (sentOnce s t.val h.val y d o) t h w d o with
      hdr := (sentOnce s t.val h.val y d o).remoteHdr t.val d w (s.tine t.val).freeTag o } : Req) = requestOf s t h w d o := by
    simp only [requestOf, State.remoteHdr, State.clk, tr, time, sentOnce_tineBase can]
  rw [← request]
  unfold State.remote
  rw [cmd]
  simp only [room]
  rfl

/-! ### Completion -/

/-- What a remote instruction completes with: the state that the request enters, the request, and the entry that waits for it. -/
structure Completes (s : State) (t : TineId) (h : ThreadId) (w : TineWord) (y : Thread) (c : Cmd) (o : RemoteOp)
    (v : State) (r : Req) (e : SbEntry) : Prop where
  sb : (v.tine t.val).sb = (s.tine t.val).sb ++ [e]
  thread : v.thread t.val h.val = y.next
  others : ∀ t' h', (t', h') ≠ (t.val, h.val) → v.thread t' h' = s.thread t' h'
  cpu : cpuRest v.cpu = cpuRest s.cpu
  rest : v = { s with od := v.od, cpu := v.cpu }
  entry : e.thread = h.val ∧ e.op = o.op ∧ e.addr = o.addr ∧ e.sram = o.sram ∧ e.tag = (s.tine t.val).freeTag
  request : r.sender = .tine t h ∧ r.op = o.op ∧ r.payload = o.payload ∧ r.hdr = s.remoteHdr t.val c w (s.tine t.val).freeTag o

section Completion
variable {i : Instr} {s : State} {t : TineId} {h : ThreadId} {op : Nat} {w : TineWord} {x : Thread} {c : Cmd}

/-- The header of a remote operation reads nothing that an issue counts. -/
theorem counted_remoteHdr (can : s.canonical) {d : Cmd} (herd : d.herd = c.herd) (desc : d.desc = c.desc) (tag : Nat) (o : RemoteOp) :
    (counted s t h x c).remoteHdr t.val d w tag o = s.remoteHdr t.val c w tag o := by
  simp only [State.remoteHdr, herd, desc, counted_sameOd can od1100_TINE_BASE _ (by decide) (by decide) (by decide)]

theorem completes_of_remote (can : s.canonical) (m : ItsTurn s t h x c) (o : RemoteOp) (room : s.sbRoom t.val h.val c o.addr = true) :
    ∃ v r e, (counted s t h x c).remote t h w (issuing s t op x) o = v.enter r ∧
      Completes s t h w (issuing s t op x) c o v r e := by
  have live := threads_ne_nil_of_turn m
  obtain ⟨d, cmd, herd, desc⟩ := counted_cmd_some (s := s) (t := t) (h := h) (x := x) (c := c) m.cmd
  have tine : (counted s t h x c).tine t.val = noted s t.val h.val := counted_tine live
  have cpu := counted_cpu s t h x c
  have freeTag : ((counted s t h x c).tine t.val).freeTag = (s.tine t.val).freeTag := by rw [tine]; rfl
  obtain ⟨own, others, sb⟩ := sent_thread (s := counted s t h x c) (h := h.val) (d := d) (o := o) (by rwa [tine])
    (show (issuing s t op x).live = true from m.live)
  refine ⟨_, _, entryOf (counted s t h x c) t.val h.val d o, remote_eq (counted_canonical can) cmd ((counted_sbRoom can live herd o.addr).trans room), ?_, own,
    fun t' h' ne => (others t' h' ne).trans (counted_thread live t' h'), ?_, ?_, ⟨rfl, rfl, rfl, rfl, ?_⟩, rfl, rfl, rfl, ?_⟩
  · rw [sb, tine]; rfl
  · rw [sent_cpuRest, cpuRest, cpu]; rfl
  · rw [sent_eq, counted_eq]
  · rw [entryOf, freeTag]
  · rw [requestOf, freeTag, counted_remoteHdr can herd desc]

/-- A remote instruction that passes its checks completes with the operation that it asks for. -/
theorem completes_of_remoteIf (inv : s.Inv) (m : MayIssue s t h op w x c) (known : opKnown op = true) {ok : Thread → Bool}
    {a n b k : Thread → Nat} {ask : State → Thread → RemoteOp} (o : RemoteOp)
    (run : exec i s = (s.remoteIf t h op w ok a n b k ask).done) (allowed : ok (issuing s t op x) = true)
    (src : n (issuing s t op x) = 0 ∨ s.inWindow x.cid t.val (a (issuing s t op x)) (n (issuing s t op x)) = true)
    (dst : k (issuing s t op x) = 0 ∨ s.inWindow x.cid t.val (b (issuing s t op x)) (k (issuing s t op x)) = true)
    (asked : ask (counted s t h x c) (issuing s t op x) = o) (room : s.sbRoom t.val h.val c o.addr = true) :
    ∃ v r e, exec i s = .next (v.enter r).settled ∧ Completes s t h w (issuing s t op x) c o v r e := by
  obtain ⟨v, r, e, run', all⟩ := completes_of_remote (op := op) (w := w) inv.1 m.toItsTurn o room
  refine ⟨v, r, e, ?_, all⟩
  rw [← run', run, State.remoteIf, issue_eq m known, allowed, asked]
  have inside : ∀ p q, (counted s t h x c).inWindow (issuing s t op x).cid t.val p q = s.inWindow x.cid t.val p q :=
    counted_inWindow x.cid
  rw [if_neg (by decide), if_pos (by rw [inside, inside]; exact ⟨src, dst⟩)]
  rfl

/-- Every remote row of Table 6.6 completes. -/
theorem remoteOf_completes {ok : Thread → Bool} {src dst : Thread → Nat × Nat} {o : State → Thread → RemoteOp}
    (row : remoteOf i = some (t, h, w, ok, src, dst, o)) (word : tineOf i = some (t, h, op, w)) (inv : s.Inv)
    (m : MayIssue s t h op w x c) (allowed : ok x = true) (reads : (src x).2 = 0 ∨ s.inWindow x.cid t.val (src x).1 (src x).2 = true)
    (writes : (dst x).2 = 0 ∨ s.inWindow x.cid t.val (dst x).1 (dst x).2 = true) (room : s.sbRoom t.val h.val c (o s x).addr = true) :
    ∃ v r e, exec i s = .next (v.enter r).settled ∧ Completes s t h w (issuing s t op x) c (o s x) v r e := by
  unfold remoteOf at row
  split at row
  case h_1 => -- RLD
    cases row; cases word
    exact completes_of_remoteIf inv m (by decide) _ rfl allowed reads writes rfl room
  case h_2 => -- RST
    cases row; cases word
    exact completes_of_remoteIf inv m (by decide) _ rfl allowed reads writes (by rw [counted_readSram]; rfl) room
  case h_3 => -- RPST
    cases row; cases word
    exact completes_of_remoteIf inv m (by decide) _ rfl allowed reads writes (by rw [counted_readSram]; rfl) room
  case h_4 => -- RATOM
    cases row; cases word
    exact completes_of_remoteIf inv m (by decide) _ rfl allowed reads writes (by rw [counted_readSram]; rfl) room
  case h_5 => -- RPUB
    cases row; cases word
    exact completes_of_remoteIf inv m (by decide) _ rfl allowed reads writes rfl room
  case h_6 => -- RFLUSH
    cases row; cases word
    exact completes_of_remoteIf inv m (by decide) _ rfl allowed reads writes rfl room
  case h_7 => -- RFENCE
    cases row; cases word
    exact completes_of_remoteIf inv m (by decide) _ rfl allowed reads writes rfl room
  case h_8 => -- RKICK
    cases row; cases word
    exact completes_of_remoteIf inv m (by decide) _ rfl allowed reads writes rfl room
  case h_9 => -- RCOMPL
    cases row; cases word
    exact completes_of_remoteIf inv m (by decide) _ rfl allowed reads writes (by rw [counted_readSram]; rfl) room
  case h_10 => -- RLDC
    cases row; cases word
    exact completes_of_remoteIf inv m (by decide) _ rfl allowed reads writes rfl room
  case h_11 => cases row

end Completion

/-- Settles O5: it holds. -/
theorem remoteInstructionsComplete : Obligations.RemoteInstructionsComplete := by
  unfold Obligations.RemoteInstructionsComplete
  intro i t h op w ok src dst o row word s x c inv m allowed reads writes room
  obtain ⟨v, r, e, run, sb, thread, others, cpu, rest, ⟨e1, e2, e3, e4, e5⟩, r1, r2, r3, r4⟩ :=
    remoteOf_completes row word inv m allowed reads writes room
  exact ⟨v, r, e, run, sb, thread, others, cpu, rest, e1, e2, e3, e4, e5, r1, r2, r3, r4⟩

end Sys2Proof.Proofs.RemoteInstructions

namespace Sys2Proof.Proofs.TineUnits

/-! ## Threads that wait, and the vector and matrix units (R157, R158, R164, R173, R176, R179, R190–R201) -/

open Sys2Proof.Machine Sys2Proof.Claims Sys2Proof.Proofs.TineIssue

/-! ### Every instruction of Table 6.6 is an issue -/

/-- A function of the state that is the issue of one instruction at a thread. -/
def IsIssue (t : TineId) (h : ThreadId) (op : Nat) (w : TineWord) (f : State → State) : Prop :=
  ∃ ok k, ∀ s : State, f s = s.issueIf t h op w ok k

section Shapes
variable (t : TineId) (h : ThreadId) (w : TineWord)

theorem isIssue_issue (op k) : IsIssue t h op w (fun s => s.issue t h op w k) := ⟨true, k, fun _ => rfl⟩
theorem isIssue_alu (op f) : IsIssue t h op w (fun s => s.alu t h op w f) := isIssue_issue ..
theorem isIssue_branchIf (op f) : IsIssue t h op w (fun s => s.branchIf t h op w f) := isIssue_issue ..
theorem isIssue_sys (n k) : IsIssue t h 0x1F w (fun s => s.sys t h w n k) := ⟨_, _, fun _ => rfl⟩
theorem isIssue_remoteIf (op ok a n b m o) : IsIssue t h op w (fun s => s.remoteIf t h op w ok a n b m o) := isIssue_issue ..
theorem isIssue_vector (op two busy out f) : IsIssue t h op w (fun s => s.vector t h op w two busy out f) := isIssue_issue ..
theorem isIssue_convert : IsIssue t h 0x37 w (fun s => s.convert t h w) := isIssue_issue ..
theorem isIssue_matrix (zero) : IsIssue t h (if zero then 0x41 else 0x40) w (fun s => s.matrix t h w zero) := isIssue_issue ..

end Shapes

/-- An instruction of Table 6.6 is the issue of one instruction, and a remote one then lets what it enabled go on. -/
theorem exec_isIssue {i : Instr} {t : TineId} {h : ThreadId} {op : Nat} {w : TineWord} (word : tineOf i = some (t, h, op, w)) :
    ∃ f, IsIssue t h op w f ∧ ((∀ s, exec i s = .next (f s)) ∨ ∀ s, exec i s = .next (f s).settled) := by
  cases i <;> cases word
  case tAdd | tSub | tMul | tAnd | tOr | tXor | tShl | tShr | tSra | tSlt | tSltu | tAddi | tLih =>
    exact ⟨_, isIssue_alu .., .inl fun _ => rfl⟩
  case tBeq | tBne | tBlt | tBge => exact ⟨_, isIssue_branchIf .., .inl fun _ => rfl⟩
  case tNop | tJal | tJr | tLds | tSts | tWait | tBar | tExit => exact ⟨_, isIssue_issue .., .inl fun _ => rfl⟩
  case tSysFabricTime | tSysQuality | tSysTineNumber | tSysErr | tSysCycleCount => exact ⟨_, isIssue_sys .., .inl fun _ => rfl⟩
  case tRld | tRst | tRpst | tRatom | tRpub | tRflush | tRfence | tRkick | tRcompl | tRldc =>
    exact ⟨_, isIssue_remoteIf .., .inr fun _ => rfl⟩
  case tVadd | tVmul | tVfma | tVmax | tVmin | tVexp2 | tVrcp | tVsum => exact ⟨_, isIssue_vector .., .inl fun _ => rfl⟩
  case tVcvt => exact ⟨_, isIssue_convert .., .inl fun _ => rfl⟩
  case tMma => exact ⟨_, isIssue_matrix _ _ _ false, .inl fun _ => rfl⟩
  case tMmaz => exact ⟨_, isIssue_matrix _ _ _ true, .inl fun _ => rfl⟩

/-- What an issue comes to, its instruction comes to. -/
theorem exec_of_issueIf {i : Instr} {t : TineId} {h : ThreadId} {op : Nat} {w : TineWord} {s u : State}
    (word : tineOf i = some (t, h, op, w)) (e : ∀ ok k, s.issueIf t h op w ok k = u) :
    exec i s = .next u ∨ exec i s = .next u.settled := by
  obtain ⟨f, ⟨ok, k, issue⟩, run⟩ := exec_isIssue word
  rw [← e ok k, ← issue]
  exact run.imp (fun r => r s) (fun r => r s)

theorem issueIf_idle {s : State} {t : TineId} {h : ThreadId} {op : Nat} {w : TineWord} {ok : Bool} {k : State → Thread → State}
    (idle : (s.thread t.val h.val).live = false ∨ (s.thread t.val h.val).wait ≠ .ready ∨ s.tineRuns t.val = false ∨
      s.threadTurn t.val h.val = false) : s.issueIf t h op w ok k = s := by
  unfold State.issueIf
  refine if_pos ?_
  rcases idle with e | e | e | e <;> simp [e]

/-! ### Units that end (R158) -/

/-- Setting a tine to one with the same threads leaves them. -/
theorem thread_setTine {s : State} {t : Nat} {v : Tine} (same : v.threads = (s.tine t).threads) (live : (s.tine t).threads ≠ [])
    (t' h' : Nat) : (s.setTine t v).thread t' h' = s.thread t' h' := by
  unfold State.thread
  by_cases e : t' = t
  · rw [e, State.tine_setTine_same (by rwa [same]), same]
  · rw [State.tine_setTine_other (by rwa [same]) e]

/-- A tine with an instruction gone from one of its units, and when it last issued. -/
def unitLeft (u : Tine) (vec : Bool) (rest : List Nat) (i : Nat) : Tine :=
  if vec then { u with issued := i, vec := rest } else { u with issued := i, mat := rest }

theorem unitLeft_threads (u : Tine) (vec : Bool) (rest : List Nat) (i : Nat) : (unitLeft u vec rest i).threads = u.threads := by
  cases vec <;> rfl

theorem unitDone_eq {s : State} {t h : Nat} {rest : List Nat} {vec : Bool}
    (front : (if vec then (s.tine t).vec else (s.tine t).mat) = h :: rest) (live : (s.thread t h).live = true)
    (waits : (s.thread t h).wait = if vec then .vector else .matrix) :
    ∃ i, s.unitDone t vec = (s.setTine t (unitLeft (s.tine t) vec rest i)).setThread t h { s.thread t h with wait := .ready } := by
  have thread : ∀ i, (s.setTine t (unitLeft (s.tine t) vec rest i)).thread t h = s.thread t h :=
    fun i => thread_setTine (unitLeft_threads ..) (State.thread_live_threads live) t h
  refine ⟨if !(s.tine t).threads.any (fun kv => kv.2.live && kv.2.wait == ThreadWait.ready) then s.clk else (s.tine t).issued, ?_⟩
  have left : ∀ b : Bool, (if vec = true
        then { (if b = true then { s.tine t with issued := s.clk } else s.tine t) with vec := rest }
        else { (if b = true then { s.tine t with issued := s.clk } else s.tine t) with mat := rest }) =
      unitLeft (s.tine t) vec rest (if b = true then s.clk else (s.tine t).issued) := by
    intro b
    cases vec <;> cases b <;> rfl
  unfold State.unitDone
  dsimp only
  rw [front]
  dsimp only
  rw [left, thread, live, waits]
  simp

/-- A unit that ends the oldest instruction given to it has its live thread ready again, and nothing else of another thread, of
the scoreboard or of the other unit changes. -/
theorem unitDone_spec {s : State} {t h : Nat} {rest : List Nat} {vec : Bool}
    (front : (if vec then (s.tine t).vec else (s.tine t).mat) = h :: rest) (live : (s.thread t h).live = true)
    (waits : (s.thread t h).wait = if vec then .vector else .matrix) :
    let u := s.unitDone t vec
    u.thread t h = { s.thread t h with wait := .ready } ∧ (u.tine t).vec = (if vec then rest else (s.tine t).vec) ∧
    (u.tine t).mat = (if vec then (s.tine t).mat else rest) ∧ (u.tine t).sb = (s.tine t).sb ∧
    (∀ t' h', (t', h') ≠ (t, h) → u.thread t' h' = s.thread t' h') ∧ u = { s with cpu := u.cpu } := by
  obtain ⟨i, e⟩ := unitDone_eq front live waits
  have some_ := State.thread_live_threads live
  have same := unitLeft_threads (s.tine t) vec rest i
  obtain ⟨own, others, left, -⟩ := State.setThread_spec (s.setTine t (unitLeft (s.tine t) vec rest i)) t h
    (Thread.ne_new (x := { s.thread t h with wait := .ready }) live)
  have tine := left t
  rw [State.tine_setTine_same (by rwa [same])] at tine
  intro u
  have hu : u = _ := e
  rw [hu]
  refine ⟨own, (congrArg Tine.vec tine).trans ?_, (congrArg Tine.mat tine).trans ?_, (congrArg Tine.sb tine).trans ?_,
    fun t' h' ne => (others t' h' ne).trans (thread_setTine same some_ t' h'), rfl⟩ <;> cases vec <;> rfl

/-- Settles O7: it holds. Every instruction of Table 6.6 is one issue, which a thread that is not due does not make. -/
theorem waitingThreadsIssueNothing : Obligations.WaitingThreadsIssueNothing := by
  unfold Obligations.WaitingThreadsIssueNothing
  refine ⟨fun i t h op w word s idle => exec_of_issueIf word fun _ _ => issueIf_idle idle,
    fun t h rest s _ live => ⟨fun front waits => ?_, fun front waits => ?_⟩,
    fun i t h op w word s x c _ m => ⟨fun lacks => ?_, fun v holds => ⟨fun unknown => ?_, fun known other => ?_⟩⟩⟩
  · obtain ⟨thread, vec, mat, sb, others, rest⟩ := unitDone_spec (vec := true) front live waits
    exact ⟨_, rfl, thread, vec, mat, sb, others, rest⟩
  · obtain ⟨thread, vec, mat, sb, others, rest⟩ := unitDone_spec (vec := false) front live waits
    exact ⟨_, rfl, thread, mat, vec, sb, others, rest⟩
  · exact exec_of_issueIf word fun ok k => by rw [issueIf_of_turn m, lacks]
  · exact exec_of_issueIf word fun ok k => by rw [issueIf_of_turn m, holds]; exact if_pos (by rw [unknown]; rfl)
  · refine exec_of_issueIf word fun ok k => ?_
    rw [issueIf_of_turn m, holds]
    dsimp only
    rw [known]
    simp [other]

end Sys2Proof.Proofs.TineUnits

namespace Sys2Proof.Proofs.ArithmeticUnits

/-! ## The vector and matrix units take an instruction (R158, R179, R190, R193–R201)

Where an instruction's count and format are allowed and its arrays lie in its thread's window, its checks all pass on the counted
state, whose SRAM, windows and generator are those of the state before. -/

open Sys2Proof.Machine Sys2Proof.Claims Sys2Proof.Proofs.TineIssue

/-! ### Lists of rows -/

/-- An element of rows of one length, put end to end. -/
theorem getElem?_flatMap_of_length {α β : Type} {f : α → List β} {n : Nat} (len : ∀ a, (f a).length = n) (l : List α) (i j : Nat)
    (hj : j < n) : (l.flatMap f)[n * i + j]? = l[i]?.bind (fun a => (f a)[j]?) := by
  induction l generalizing i with
  | nil => simp
  | cons a l ih =>
    rw [List.flatMap_cons]
    cases i with
    | zero => rw [List.getElem?_append_left (by rw [len]; omega)]; simp
    | succ i =>
      rw [List.getElem?_append_right (by rw [len]; nlinarith), len, show n * (i + 1) + j - n = n * i + j by rw [Nat.mul_succ]; omega, ih]
      rfl

theorem length_flatMap_of_length {α β : Type} {f : α → List β} {n : Nat} (len : ∀ a, (f a).length = n) (l : List α) :
    (l.flatMap f).length = n * l.length := by
  rw [List.length_flatMap, List.map_congr_left (fun a _ => len a), List.map_const', List.sum_replicate, smul_eq_mul, Nat.mul_comm]

theorem bytes32_length (l : List Nat) : (bytes32 l).length = 4 * l.length :=
  length_flatMap_of_length (fun v => ScalarInstructions.toLe_length 4 v) l

section Units
variable {s : State} {t : TineId} {h : ThreadId} {op : Nat} {w : TineWord} {x : Thread} {c : Cmd}

/-- The windows that an issuing thread has are those it had. -/
theorem counted_inside {a n : Nat} (inside : s.inWindow x.cid t.val a n = true) :
    (counted s t h x c).inWindow (issuing s t op x).cid t.val a n = true := (counted_inWindow ..).trans inside

/-! ### The vector unit (R158, R193–R200) -/

theorem vector_eq (m : MayIssue s t h op w x c) (known : opKnown op = true) {two : Bool} {busy out : Nat → Nat}
    {f : List Nat → List Nat → List Nat → List Nat} (ok : vectorOk w.fmt.toNat (x.rc w) = true)
    (ra : s.inWindow x.cid t.val (x.ra w) (arrayBytes w.fmt.toNat (x.rc w)) = true)
    (rb : two = true → s.inWindow x.cid t.val (x.rb w) (arrayBytes w.fmt.toNat (x.rc w)) = true)
    (rd : s.inWindow x.cid t.val (x.rdVal w) (4 * out (x.rc w)) = true) :
    s.vector t h op w two busy out f = ((counted s t h x c).writeSram t.val (x.rdVal w) (bytes32 (f
      (arrayTo32 w.fmt.toNat (x.rc w) (s.readSram t.val (x.ra w) (arrayBytes w.fmt.toNat (x.rc w))))
      (if two then arrayTo32 w.fmt.toNat (x.rc w) (s.readSram t.val (x.rb w) (arrayBytes w.fmt.toNat (x.rc w))) else [])
      (words32 (out (x.rc w)) (s.readSram t.val (x.rdVal w) (4 * out (x.rc w))))))).toVector t h (issuing s t op x) (busy (x.rc w)) := by
  have okay : vectorOk w.fmt.toNat ((issuing s t op x).rc w) = true := ok
  have second : (!two || (counted s t h x c).inWindow (issuing s t op x).cid t.val ((issuing s t op x).rb w)
      (arrayBytes w.fmt.toNat ((issuing s t op x).rc w))) = true := by
    cases two with
    | false => rfl
    | true => exact counted_inside (rb rfl)
  rw [State.vector, issue_eq m known]
  dsimp only
  rw [if_neg (by rw [okay]; decide), if_neg]
  · simp only [counted_readSram]
    rfl
  · have first := counted_inside (h := h) (c := c) (op := op) ra
    have dest := counted_inside (h := h) (c := c) (op := op) rd
    rw [Bool.not_eq_true', Bool.eq_false_iff, not_not, Bool.and_eq_true, Bool.and_eq_true]
    exact ⟨⟨first, second⟩, dest⟩

/-- Every vector row of Table 6.6 gives its instruction to the unit with its values at [RD]. -/
theorem vectorOf_exec {i : Instr} {two : Bool} {busy out : Nat → Nat} {f : List Nat → List Nat → List Nat → List Nat}
    (row : vectorOf i = some (t, h, w, two, busy, out, f)) (word : tineOf i = some (t, h, op, w)) :
    opKnown op = true ∧ exec i s = .next (s.vector t h op w two busy out f) := by
  unfold vectorOf at row
  split at row
  case h_9 => cases row
  all_goals cases row; cases word; exact ⟨by decide, rfl⟩

/-! ### VCVT (R190, R193) -/

/-- Two arrays that lie apart, or start together with the result no wider, do not overlap as VCVT forbids. -/
theorem overlap_eq_false {a d na nd wd ws : Nat} (apart : d + nd ≤ a ∨ a + na ≤ d ∨ a = d ∧ wd ≤ ws) :
    (decide (a < d + nd) && decide (d < a + na) && !(a == d && decide (wd ≤ ws))) = false := by
  rcases apart with e | e | ⟨e, e'⟩
  · rw [decide_eq_false (Nat.not_lt.mpr e)]; rfl
  · rw [decide_eq_false (Nat.not_lt.mpr e), Bool.and_false]; rfl
  · rw [e, decide_eq_true e', beq_self_eq_true]; simp

/-- The draws that a conversion takes from a tine's generator, and the generator after them. -/
def drawsOf (imm dst : Nat) (vs : List Fp) (g : Nat) : List Nat × Nat :=
  if bitAt imm 4 then drawsFrom (roundedElems dst vs) g else ([], g)

theorem convert_eq (m : MayIssue s t h 0x37 w x c) (src : vectorOk w.fmt.toNat (x.rc w) = true)
    (dst : vectorOk (w.imm.toNat % 16) (x.rc w) = true) (reserved : bitsOf w.imm.toNat 15 5 = 0)
    (apart : x.rdVal w + arrayBytes (w.imm.toNat % 16) (x.rc w) ≤ x.ra w ∨ x.ra w + arrayBytes w.fmt.toNat (x.rc w) ≤ x.rdVal w ∨
      x.ra w = x.rdVal w ∧ fmtWidth (w.imm.toNat % 16) ≤ fmtWidth w.fmt.toNat)
    (ra : s.inWindow x.cid t.val (x.ra w) (arrayBytes w.fmt.toNat (x.rc w)) = true)
    (rd : s.inWindow x.cid t.val (x.rdVal w) (arrayBytes (w.imm.toNat % 16) (x.rc w)) = true) :
    let vs := decodeArray w.fmt.toNat (x.rc w) (s.readSram t.val (x.ra w) (arrayBytes w.fmt.toNat (x.rc w)))
    let draws := drawsOf w.imm.toNat (w.imm.toNat % 16) vs (s.tine t.val).sr
    let q := encodeArray (w.imm.toNat % 16) vs draws.1
    let u := counted s t h x c
    s.convert t h w = (((((u.setTine t.val { u.tine t.val with sr := draws.2 }).writeSram t.val (x.rdVal w) q.bytes).bump
      od3440_SATURATED 0 64 q.sat).bump od3440_NAN_BLOCKS 0 64 q.nans).toVector t h (issuing s t 0x37 x) (busy8 (x.rc w))) := by
  have okSrc : vectorOk w.fmt.toNat ((issuing s t 0x37 x).rc w) = true := src
  have okDst : vectorOk (w.imm.toNat % 16) ((issuing s t 0x37 x).rc w) = true := dst
  have inRa := counted_inside (h := h) (c := c) (op := 0x37) ra
  have inRd := counted_inside (h := h) (c := c) (op := 0x37) rd
  have lap : (decide ((issuing s t 0x37 x).ra w < (issuing s t 0x37 x).rdVal w + arrayBytes (w.imm.toNat % 16) ((issuing s t 0x37 x).rc w)) &&
      decide ((issuing s t 0x37 x).rdVal w < (issuing s t 0x37 x).ra w + arrayBytes w.fmt.toNat ((issuing s t 0x37 x).rc w)) &&
      !((issuing s t 0x37 x).ra w == (issuing s t 0x37 x).rdVal w && decide (fmtWidth (w.imm.toNat % 16) ≤ fmtWidth w.fmt.toNat))) = false :=
    overlap_eq_false apart
  have sr : ((counted s t h x c).tine t.val).sr = (s.tine t.val).sr := by
    rw [counted_tine (threads_ne_nil_of_turn m.toItsTurn)]; rfl
  rw [State.convert, issue_eq m (by decide)]
  dsimp only
  rw [okSrc, okDst, lap, if_neg (by simp [reserved]), if_neg]
  · simp only [counted_readSram, sr]
    rfl
  · rw [Bool.not_eq_true', Bool.eq_false_iff, not_not, Bool.and_eq_true]
    exact ⟨inRa, inRd⟩

/-! ### The matrix unit (R179, R201) -/

/-- The 32 rows of a matrix operand, decoded. -/
def rowsOf (s : State) (t base f k : Nat) : List (List Fp) :=
  (List.range 32).map (fun i => decodeArray f k (s.readSram t (base + i * arrayBytes f k) (arrayBytes f k)))

/-- The tile that accumulates the block products of two operands onto what stood there, or onto 0. -/
def tileOf (k : Nat) (zero : Bool) (old : List Nat) (as bs : List (List Fp)) : List Nat :=
  as.zipIdx.flatMap (fun p => bs.zipIdx.map (fun c => mmaElem (k / 32) (if zero then 0 else old.getD (32 * p.2 + c.2) 0) p.1 c.1))

theorem rowsOf_getElem? (s : State) (t base f k : Nat) {i : Nat} (hi : i < 32) :
    (rowsOf s t base f k)[i]? = some (decodeArray f k (s.readSram t (base + i * arrayBytes f k) (arrayBytes f k))) := by
  rw [rowsOf, List.getElem?_map, List.getElem?_range hi]; rfl

theorem rowsOf_length (s : State) (t base f k : Nat) : (rowsOf s t base f k).length = 32 := by simp [rowsOf]

theorem tileOf_length {k : Nat} {zero : Bool} {old : List Nat} {as bs : List (List Fp)} (la : as.length = 32) (lb : bs.length = 32) :
    (tileOf k zero old as bs).length = 1024 := by
  rw [tileOf, length_flatMap_of_length (n := 32) (fun _ => by simp [lb])]
  simp [la]

theorem tileOf_getElem? {k : Nat} {zero : Bool} {old : List Nat} {as bs : List (List Fp)} (lb : bs.length = 32) {i j : Nat}
    (hj : j < 32) {a b : List Fp} (ha : as[i]? = some a) (hb : bs[j]? = some b) :
    (tileOf k zero old as bs)[32 * i + j]? = some (mmaElem (k / 32) (if zero then 0 else old.getD (32 * i + j) 0) a b) := by
  rw [tileOf, getElem?_flatMap_of_length (fun _ => by simp [lb]) _ _ _ hj]
  simp [List.getElem?_zipIdx, ha, hb]

/-- The tile that an instruction of the matrix unit gives. -/
def matrixTile (s : State) (t : TineId) (w : TineWord) (x : Thread) (zero : Bool) : List Nat :=
  tileOf (x.rc w) zero (words32 1024 (s.readSram t.val (x.rdVal w) 4096)) (rowsOf s t.val (x.ra w) w.fmt.toNat (x.rc w))
    (rowsOf s t.val (x.rb w) w.fmt.toNat (x.rc w))

/-- A tine with one more thread in line for its matrix unit. -/
def inLine (u : Tine) (h : Nat) : Tine := { u with mat := u.mat ++ [h] }

/-- A thread has given an instruction to the matrix unit, with its tile stored. -/
def toMatrix (u : State) (t : TineId) (h : ThreadId) (x : Thread) (a : Nat) (tile : List Nat) : State :=
  let s1 := (u.writeSram t.val a (bytes32 tile)).setThread t.val h.val { x.next with wait := .matrix }
  s1.setTine t.val (inLine (s1.tine t.val) h.val)

theorem matrix_eq {zero : Bool} (m : MayIssue s t h (if zero then 0x41 else 0x40) w x c) (low : 32 ≤ x.rc w) (high : x.rc w ≤ 8192)
    (whole : x.rc w % 32 = 0) (real : w.fmt.toNat ≠ 0) (fmt : fmtKnown w.fmt.toNat = true)
    (ra : s.inWindow x.cid t.val (x.ra w) (32 * arrayBytes w.fmt.toNat (x.rc w)) = true)
    (rb : s.inWindow x.cid t.val (x.rb w) (32 * arrayBytes w.fmt.toNat (x.rc w)) = true)
    (rd : s.inWindow x.cid t.val (x.rdVal w) 4096 = true) :
    ∃ busy, s.matrix t h w zero = (toMatrix (counted s t h x c) t h (issuing s t (if zero then 0x41 else 0x40) x) (x.rdVal w)
      (matrixTile s t w x zero)).scopeAdd x.cid 6 busy := by
  have known : opKnown (if zero then 0x41 else 0x40) = true := by cases zero <;> decide
  have inRa := counted_inside (h := h) (c := c) (op := if zero then 0x41 else 0x40) ra
  have inRb := counted_inside (h := h) (c := c) (op := if zero then 0x41 else 0x40) rb
  have inRd := counted_inside (h := h) (c := c) (op := if zero then 0x41 else 0x40) rd
  have okay : (decide (32 ≤ (issuing s t (if zero then 0x41 else 0x40) x).rc w) && decide ((issuing s t (if zero then 0x41 else 0x40) x).rc w ≤ 8192) &&
      (issuing s t (if zero then 0x41 else 0x40) x).rc w % 32 == 0 && decide (w.fmt.toNat ≠ 0) && fmtKnown w.fmt.toNat) = true := by
    have rc : (issuing s t (if zero then 0x41 else 0x40) x).rc w = x.rc w := rfl
    simp [rc, low, high, whole, real, fmt]
  rw [State.matrix, issue_eq m known]
  dsimp only
  rw [okay, if_neg (by decide), if_neg]
  · simp only [counted_readSram]
    exact ⟨_, rfl⟩
  · rw [Bool.not_eq_true', Bool.eq_false_iff, not_not, Bool.and_eq_true, Bool.and_eq_true]
    exact ⟨⟨inRa, inRb⟩, inRd⟩

/-- The tile reads back, and the thread waits for the unit that it stands in line for. -/
theorem toMatrix_spec {u : State} (can : u.canonical) (y : Thread) (live : y.live = true) (a : Nat) {tile : List Nat}
    (len : tile.length = 1024) (cid busy : Nat) :
    let v := (toMatrix u t h y a tile).scopeAdd cid 6 busy
    v.readSram t.val a 4096 = bytes32 tile ∧ v.thread t.val h.val = { y.next with wait := .matrix } ∧ h.val ∈ (v.tine t.val).mat := by
  obtain ⟨own, -, -, -⟩ := State.setThread_spec (u.writeSram t.val a (bytes32 tile)) t.val h.val
    (Thread.ne_new (x := { y.next with wait := .matrix }) live)
  have some_ := State.thread_live_threads (s := (u.writeSram t.val a (bytes32 tile)).setThread t.val h.val { y.next with wait := .matrix })
    (t := t.val) (h := h.val) (by rw [own]; exact live)
  have sram : ((toMatrix u t h y a tile).scopeAdd cid 6 busy).cpu.sram = (u.writeSram t.val a (bytes32 tile)).cpu.sram := by
    rw [scopeAdd_cpu]; rfl
  have tine : ∀ t', ((toMatrix u t h y a tile).scopeAdd cid 6 busy).tine t' = (toMatrix u t h y a tile).tine t' := by
    intro t'; rw [State.tine, scopeAdd_tines]; rfl
  refine ⟨?_, ?_, ?_⟩
  · have back := readSram_writeSram (t := t.val) (a := a) (bs := bytes32 tile) can.2.2.2.2.1
    rw [bytes32_length, len] at back
    unfold State.readSram at back ⊢
    rw [sram]
    exact back
  · rw [State.thread, tine]
    exact (TineUnits.thread_setTine (v := inLine _ h.val) rfl some_ t.val h.val).trans own
  · rw [tine, toMatrix, State.tine_setTine_same (u := inLine _ h.val) some_]
    simp [inLine]

end Units

/-- Settles O6: it holds. -/
theorem theArithmeticUnitsComplete : Obligations.TheArithmeticUnitsComplete := by
  unfold Obligations.TheArithmeticUnitsComplete
  refine ⟨fun i t h op w two busy out f row word s x c inv m ok ra rb rd => ?_,
    fun t h w s x c inv m okSrc okDst reserved apart ra rd => ?_,
    fun t h w zero s x c inv m low high whole real fmt ra rb rd => ?_⟩
  · obtain ⟨known, run⟩ := vectorOf_exec (s := s) row word
    rw [run, vector_eq m known ok ra rb rd]
  · change Host.Outcome.next (s.convert t h w) = _
    rw [convert_eq m okSrc okDst reserved apart ra rd]
    rfl
  · obtain ⟨busy, run⟩ := matrix_eq m low high whole real fmt ra rb rd
    have len : (matrixTile s t w x zero).length = 1024 := tileOf_length (rowsOf_length ..) (rowsOf_length ..)
    obtain ⟨back, thread, waits⟩ := toMatrix_spec (t := t) (h := h) (counted_canonical (t := t) (h := h) (x := x) (c := c) inv.1)
      (issuing s t (if zero then 0x41 else 0x40) x) m.live (x.rdVal w) len x.cid busy
    refine ⟨matrixTile s t w x zero, _, ?_, back, len, fun i j hi hj => ?_, thread, waits⟩
    · rw [← run]; cases zero <;> rfl
    · exact tileOf_getElem? (rowsOf_length ..) hj (rowsOf_getElem? _ _ _ _ _ hi) (rowsOf_getElem? _ _ _ _ _ hj)

end Sys2Proof.Proofs.ArithmeticUnits

namespace Sys2Proof.Proofs.ResetState

/-! ## The state after reset, and the queue (R51, R358, log entry 6) -/

open Sys2Proof.Machine Sys2Proof.Claims

/-- After reset an entry reads its default. -/
theorem rd_reset {e : Ent} (hi : e.index < 65536) (hs : e.sub < 256) (n : Nat) :
    State.reset.rd e n = odDefaultAt e.index e.sub n := by
  change odDefault (odKey e n) = _
  simp only [odDefault, odKey, odKeyOf]
  congr 1 <;> omega

/-- The indices with elements whose default is not the one of their table (R31, R66, R299, Table 19.5, and the device's own). -/
def ownDefaults : List Nat := [0x2400, 0x2020, 0x4C10, 0x2800, 0x1000, 0x4100, 0x4104, 0x410C]

/-- After reset an entry of any other index reads its table's default. -/
theorem rd_reset_of_table {e : Ent} (hi : e.index < 65536) (hs : e.sub < 256) (plain : e.index ∉ ownDefaults) (n : Nat) {v : Nat}
    (row : odTableDefault (e.index * 256 + e.sub) = v) : State.reset.rd e n = v := by
  rw [rd_reset hi hs, ← row]
  simp only [ownDefaults, List.mem_cons, List.not_mem_nil, or_false, not_or] at plain
  simp [odDefaultAt, plain]

/-- Settles O1: it holds. -/
theorem stepsRunTheQueue : Obligations.StepsRunTheQueue := by
  unfold Obligations.StepsRunTheQueue
  refine ⟨fun c rest s q => by rw [step, q], fun s _ q => ⟨by rw [step, q]; rfl, fun held => ?_, fun _ => rfl⟩⟩
  rw [State.tick, held]
  rfl

/-- Settles O50: it holds. Every table is empty. -/
theorem resetMeetsTheInvariant : Obligations.ResetMeetsTheInvariant := by
  unfold Obligations.ResetMeetsTheInvariant
  exact ⟨⟨sparseWf_nil _, sparseWf_nil _, sparseWf_nil _, sparseWf_nil _, sparseWf_nil _, sparseWf_nil _, sparseWf_nil _,
    sparseWf_nil _⟩, .nil, by simp [State.reset, Faults.reset], by simp [State.reset, Faults.reset], by decide, by decide⟩

/-- Settles O49: it holds. -/
theorem resetHoldsWhatTheManualGives : Obligations.ResetHoldsWhatTheManualGives := by
  unfold Obligations.ResetHoldsWhatTheManualGives
  intro s
  refine ⟨rfl, ?_, fun p _ => ⟨?_, ?_, ?_⟩, fun n pos _ => ?_, fun e _ => ?_, rfl, rfl, rfl, rfl, rfl, rfl, rfl, rfl, rfl, rfl, rfl, rfl,
    ?_, ?_, ?_, rfl, rfl⟩
  · exact rd_reset_of_table (by decide) (by decide) (by decide) 0 (by decide +kernel)
  · exact rd_reset_of_table (by decide) (by decide) (by decide) p (by decide +kernel)
  · exact rd_reset_of_table (by decide) (by decide) (by decide) p (by decide +kernel)
  · exact rd_reset_of_table (by decide) (by decide) (by decide) p (by decide +kernel)
  · rw [State.herdState, rd_reset (by decide) (by decide)]
    simp [odDefaultAt, od2800_STATE, Nat.pos_iff_ne_zero.mp pos]
    rfl
  · exact rd_reset_of_table (by decide) (by decide) (by decide) e (by decide +kernel)
  · exact rd_reset_of_table (by decide) (by decide) (by decide) 0 (by decide +kernel)
  · exact rd_reset_of_table (by decide) (by decide) (by decide) 0 (by decide +kernel)
  · exact rd_reset_of_table (by decide) (by decide) (by decide) 0 (by decide +kernel)

end Sys2Proof.Proofs.ResetState

namespace Sys2Proof.Proofs.FramesIn

/-! ## Frames that come in (R25–R29, R70–R72, R81)

A frame at a port is received by the link layer, traced and counted before it is handled. These change the link, the counters and
the trace alone, so what the handling reads of the binding and of the requests outstanding is as before. -/

open Sys2Proof.Machine Sys2Proof.Claims

/-! ### The link layer -/

section Link
variable {s : State} {p : PortId} {env : LinkEnv} {b : FrameBody}

theorem linkReceive_inOrder (seq : env.seq.toNat = (s.link p.val).rxSeq) : (s.linkReceive p env b).2 = true := by
  rw [State.linkReceive, if_pos seq]

theorem linkReceive_gap (seq : env.seq.toNat ≠ (s.link p.val).rxSeq) : s.linkReceive p env b = (nakOnce s p, false) := by
  rw [State.linkReceive, if_neg seq]
  rfl

/-- A frame received in order changes its link alone. -/
theorem linkReceive_eq (seq : env.seq.toNat = (s.link p.val).rxSeq) :
    ∃ l, (s.linkReceive p env b).1 = { s with tr := { s.tr with links := l } } := by
  rw [State.linkReceive, if_pos seq]
  exact ⟨_, rfl⟩

theorem linkReceive_canonical (can : s.Inv) : (s.linkReceive p env b).1.canonical :=
  (State.linkReceive_kept (Kept.self can)).inv.1

end Link

/-! ### What a frame leaves in place before it is handled -/

/-- A state as it stands when a frame that came in is handled: the binding, the locations and the requests outstanding are those
of the state before. -/
structure Arrived (s u : State) : Prop where
  rd : ∀ e n, e.index < 65536 → e.sub < 256 → e.index ∉ traceFrameOd → u.rd e n = s.rd e n
  outstanding : u.tr.outstanding = s.tr.outstanding

theorem Arrived.herdActive {s u : State} (h : Arrived s u) (n : Nat) : u.herdActive n = s.herdActive n := by
  rw [State.herdActive, State.herdState, h.rd od2800_STATE n (by decide) (by decide) (by decide)]
  rfl

theorem Arrived.isHere {s u : State} (h : Arrived s u) (ep : Nat) : u.isHere ep = s.isHere ep := by
  simp only [State.isHere, State.locate, h.rd od2120_LOCATION _ (by decide) (by decide) (by decide),
    h.rd od2100_A9_NUMBER _ (by decide) (by decide) (by decide)]

section Arrive
variable {s : State} {p : PortId} {env : LinkEnv} {b : FrameBody}

theorem arrived_linkReceive (seq : env.seq.toNat = (s.link p.val).rxSeq) : Arrived s (s.linkReceive p env b).1 := by
  obtain ⟨l, e⟩ := linkReceive_eq (b := b) seq
  rw [e]
  exact ⟨fun _ _ _ _ _ => rfl, rfl⟩

theorem Arrived.traceFrame {u : State} (h : Arrived s u) (can : u.canonical) (q out : Nat) (b : FrameBody) :
    Arrived s (u.traceFrame q out b) :=
  ⟨fun e n hi hs out => ((State.trace_frame can).rd e n hi hs out).trans (h.rd e n hi hs out),
    (congrArg Transport.outstanding (State.trace_tr ..)).trans h.outstanding⟩

theorem Arrived.tally {u : State} (h : Arrived s u) (can : u.canonical) (herd i k : Nat) : Arrived s (u.tally herd i k) :=
  ⟨fun e n hi hs out => ((OdFrame.tally (l := traceFrameOd) can (by decide)).rd e n hi hs out).trans (h.rd e n hi hs out),
    (congrArg Transport.outstanding (State.tally_tr ..)).trans h.outstanding⟩

theorem canonical_traceFrame {u : State} (can : u.canonical) (q out : Nat) (b : FrameBody) : (u.traceFrame q out b).canonical :=
  (State.trace_frame can).can can

theorem canonical_tally {u : State} (can : u.canonical) (herd i k : Nat) : (u.tally herd i k).canonical :=
  (OdFrame.tally (l := traceFrameOd) can (by decide)).can can

theorem arrived_request (inv : s.Inv) (seq : env.seq.toNat = (s.link p.val).rxSeq) (op : ReqOp) (f : ReqFrame) (hdr : ReqHdr)
    (herd : Nat) : Arrived s (reqReceived s p env op f hdr herd) :=
  ((arrived_linkReceive seq).traceFrame (linkReceive_canonical inv) ..).tally (canonical_traceFrame (linkReceive_canonical inv) ..) ..

theorem arrived_response (inv : s.Inv) (seq : env.seq.toNat = (s.link p.val).rxSeq) (op : RespOp) (h : RespHdr)
    (payload : List Byte) : Arrived s (respReceived s p env op h payload) :=
  ((arrived_linkReceive seq).tally (linkReceive_canonical inv) ..).traceFrame (canonical_tally (linkReceive_canonical inv) ..) ..

end Arrive

/-! ### Requests -/

/-- Every request row brings its operation to the ingress. -/
theorem exec_request {i : Instr} {op : ReqOp} {f : ReqFrame} (row : requestOf i = some (op, f)) (s : State) :
    exec i s = .next (s.request op f).runMgmt.settled := by
  unfold requestOf at row
  split at row
  case h_23 => cases row
  all_goals cases row; rfl

section Request
variable {s : State} {p : PortId} {env : LinkEnv} {op : ReqOp} {f : ReqFrame}

theorem request_companion (via : f.via = .companion) (up : s.rd od1120_JY_STATE 0 = 2) (runs : s.halted = false) :
    s.request op f = s.ingress .companion (opFor op f) f.hdr f.payload := by
  unfold State.request
  rw [via]
  dsimp only
  rw [if_pos ⟨up, by rw [runs]; rfl⟩]
  rfl

/-- The header that the edge leaves a request: stamped by the binding, but for one of a trunk or of a tray. -/
def edgeHdr (s : State) (p : PortId) (f : ReqFrame) : ReqHdr :=
  if s.rd od2810_ROLE p.val = 2 ∨ s.rd od2810_ROLE p.val = 3 then f.hdr
  else stampedHdr f (s.rd od2810_HERD p.val) (s.rd od2810_ENDPOINT p.val)

/-- What the ingress does with a request frame that the link layer has received, by the role of its port. -/
def byRole (s : State) (p : PortId) (op : ReqOp) (f : ReqFrame) : State :=
  let s1 := s.traceFrame p.val 0 (.req op (edgeHdr s p f) f.payload)
  if s.rd od2810_ROLE p.val = 3 then
    (s1.creditBack p f.hdr.cls.toNat (cellsOf (reqBytes f.payload))).emit (portQuad p.val) evTrayRequest 0 1 p.val 0 [opcodeOf op]
  else if s.rd od2810_ROLE p.val = 2 then (s1.tally f.hdr.herd.toNat (4 * p.val) 1).transit p op f.hdr f.payload
  else (s1.tally (s1.rd od2810_HERD p.val) (4 * p.val) 1).ingress (.port p) op f.hdr f.payload

theorem request_eq (via : f.via = .port p env) (up : s.portUp p.val = true) :
    s.request op f = (let r := s.linkReceive p env (.req (opFor op f) f.hdr f.payload)
      if !r.2 then r.1.tally 0 (4 * p.val + 2) 1 else byRole r.1 p (opFor op f) f) := by
  unfold State.request
  rw [via]
  dsimp only
  rw [up, if_neg (by decide)]
  rfl

theorem request_gap (via : f.via = .port p env) (up : s.portUp p.val = true) (seq : env.seq.toNat ≠ (s.link p.val).rxSeq) :
    s.request op f = (nakOnce s p).tally 0 (4 * p.val + 2) 1 := by
  rw [request_eq via up, linkReceive_gap seq]
  rfl

section InOrder
variable (inv : s.Inv) (via : f.via = .port p env) (up : s.portUp p.val = true) (seq : env.seq.toNat = (s.link p.val).rxSeq)
include via up seq

theorem request_inOrder : s.request op f = byRole (s.linkReceive p env (.req (opFor op f) f.hdr f.payload)).1 p (opFor op f) f := by
  rw [request_eq via up]
  dsimp only
  rw [linkReceive_inOrder seq]
  rfl

/-- One on a tray port is turned away. -/
theorem request_tray (role : s.rd od2810_ROLE p.val = 3) : s.request op f =
    (let v := (s.linkReceive p env (.req (opFor op f) f.hdr f.payload)).1.traceFrame p.val 0 (.req (opFor op f) f.hdr f.payload)
    (v.creditBack p f.hdr.cls.toNat (cellsOf (reqBytes f.payload))).emit (portQuad p.val) evTrayRequest 0 1 p.val 0
      [opcodeOf (opFor op f)]) := by
  have role' := (arrived_linkReceive (b := .req (opFor op f) f.hdr f.payload) seq).rd od2810_ROLE p.val (by decide) (by decide) (by decide)
  rw [role] at role'
  rw [request_inOrder via up seq, byRole, edgeHdr, if_pos role', if_pos (.inr role')]

/-- One on a trunk passes on. -/
theorem request_trunk (role : s.rd od2810_ROLE p.val = 2) : s.request op f =
    (reqReceived s p env op f f.hdr f.hdr.herd.toNat).transit p (opFor op f) f.hdr f.payload := by
  have role' := (arrived_linkReceive (b := .req (opFor op f) f.hdr f.payload) seq).rd od2810_ROLE p.val (by decide) (by decide) (by decide)
  rw [role] at role'
  rw [request_inOrder via up seq, byRole, edgeHdr, if_neg (by rw [role']; decide), if_pos role', if_pos (.inl role')]
  rfl

include inv in
/-- One on a port of another role comes to the ingress with the stamp of the binding. -/
theorem request_edge (role : s.rd od2810_ROLE p.val ≤ 1) : s.request op f =
    (reqReceived s p env op f (stampedHdr f (s.rd od2810_HERD p.val) (s.rd od2810_ENDPOINT p.val)) (s.rd od2810_HERD p.val)).ingress
      (.port p) (opFor op f) f.hdr f.payload := by
  have at0 := arrived_linkReceive (b := .req (opFor op f) f.hdr f.payload) seq
  have role' := at0.rd od2810_ROLE p.val (by decide) (by decide) (by decide)
  have at1 := at0.traceFrame (linkReceive_canonical inv) p.val 0 (.req (opFor op f)
    (stampedHdr f (s.rd od2810_HERD p.val) (s.rd od2810_ENDPOINT p.val)) f.payload)
  rw [request_inOrder via up seq, byRole, edgeHdr, role', if_neg (by omega), if_neg (by omega), if_neg (by omega),
    at0.rd od2810_HERD p.val (by decide) (by decide) (by decide), at0.rd od2810_ENDPOINT p.val (by decide) (by decide) (by decide),
    at1.rd od2810_HERD p.val (by decide) (by decide) (by decide)]
  rfl

end InOrder

/-! ### The ingress -/

theorem any_tag_eq_false {s : State} {x : Sender} {tag : Half} (free : tagFree s x tag) :
    (s.tr.outstanding.any (fun r => r.sender == x && r.hdr.tag == tag)) = false := by
  rw [List.any_eq_false]
  intro r hr
  simpa using free r hr

theorem any_tag_eq_true {s : State} {x : Sender} {tag : Half} (taken : ¬ tagFree s x tag) :
    (s.tr.outstanding.any (fun r => r.sender == x && r.hdr.tag == tag)) = true := by
  unfold tagFree at taken
  push Not at taken
  obtain ⟨r, hr, hx, ht⟩ := taken
  exact List.any_eq_true.mpr ⟨r, hr, by simp [hx, ht]⟩

theorem tagFree_congr {s u : State} (h : Arrived s u) (x : Sender) (tag : Half) : tagFree u x tag ↔ tagFree s x tag := by
  rw [tagFree, h.outstanding, tagFree]

theorem ingress_companion (free : tagFree s .companion f.hdr.tag) : s.ingress .companion (opFor op f) f.hdr f.payload =
    s.enter (stamped s .companion op f 0 (s.rd od1100_COMPANION_EP 0)) := by
  unfold State.ingress
  dsimp only
  rw [any_tag_eq_false free]
  rfl

section AtPort
variable {u : State} (at_ : Arrived s u)
include at_

theorem ingress_bound (role : s.rd od2810_ROLE p.val = 1) (herd : s.rd od2810_HERD p.val ≠ 0xFFF)
    (active : s.herdActive (s.rd od2810_HERD p.val) = true) (free : tagFree s (.port p) f.hdr.tag) :
    u.ingress (.port p) (opFor op f) f.hdr f.payload =
      u.enter (stamped u (.port p) op f (s.rd od2810_HERD p.val) (s.rd od2810_ENDPOINT p.val)) := by
  unfold State.ingress
  dsimp only [State.stamp]
  rw [any_tag_eq_false ((tagFree_congr at_ ..).mpr free), if_neg (by decide), at_.rd od2810_ROLE p.val (by decide) (by decide) (by decide),
    at_.rd od2810_HERD p.val (by decide) (by decide) (by decide), at_.rd od2810_ENDPOINT p.val (by decide) (by decide) (by decide),
    if_neg (by simp [role, herd, at_.herdActive, active])]
  rfl

theorem ingress_unbound (unbound : s.rd od2810_ROLE p.val ≠ 1 ∨ s.rd od2810_HERD p.val = 0xFFF ∨ s.herdActive (s.rd od2810_HERD p.val) = false)
    (free : tagFree s (.port p) f.hdr.tag) :
    u.ingress (.port p) (opFor op f) f.hdr f.payload =
      let r := stamped u (.port p) op f (s.rd od2810_HERD p.val) (s.rd od2810_ENDPOINT p.val)
      ((u.track r).unboundEvent p).answerHere r eAccess 0 := by
  unfold State.ingress
  dsimp only [State.stamp]
  rw [any_tag_eq_false ((tagFree_congr at_ ..).mpr free), if_neg (by decide), at_.rd od2810_ROLE p.val (by decide) (by decide) (by decide),
    at_.rd od2810_HERD p.val (by decide) (by decide) (by decide), at_.rd od2810_ENDPOINT p.val (by decide) (by decide) (by decide),
    if_pos (by simpa [at_.herdActive] using unbound)]
  rfl

theorem ingress_repeated (taken : ¬ tagFree s (.port p) f.hdr.tag) :
    u.ingress (.port p) (opFor op f) f.hdr f.payload =
      (u.freeCells (stamped u (.port p) op f (s.rd od2810_HERD p.val) (s.rd od2810_ENDPOINT p.val))).emit (portQuad p.val) evTagDuplicate
        (s.rd od2810_HERD p.val) 1 p.val 0 [s.rd od2810_ENDPOINT p.val * 65536 + f.hdr.tag.toNat] := by
  unfold State.ingress
  dsimp only [State.stamp]
  rw [any_tag_eq_true (mt (tagFree_congr at_ ..).mp taken), if_pos rfl,
    at_.rd od2810_HERD p.val (by decide) (by decide) (by decide), at_.rd od2810_ENDPOINT p.val (by decide) (by decide) (by decide)]
  rfl

end AtPort
end Request

/-- Settles O8: it holds. -/
theorem requestsEnterTheA9 : Obligations.RequestsEnterTheA9 := by
  unfold Obligations.RequestsEnterTheA9
  intro i op f row s inv runs
  refine ⟨fun via up free => ?_, fun p env via up seq => ⟨fun role herd active free => ?_, fun role => ?_, fun role => ?_⟩⟩
  · rw [exec_request row, request_companion via up runs, ingress_companion free]
  · rw [exec_request row, request_edge inv via up seq (by omega), ingress_bound (arrived_request inv seq ..) role herd active free]
  · rw [exec_request row, request_trunk via up seq role]
  · rw [exec_request row, request_tray via up seq role]

end Sys2Proof.Proofs.FramesIn

namespace Sys2Proof.Proofs.AnswersAndReplays

/-! ## Stray frames, responses and replays (R70–R72, R81, R91, R92, R316) -/

open Sys2Proof.Machine Sys2Proof.Claims Sys2Proof.Proofs.FramesIn

/-! ### Responses -/

theorem exec_response {i : Instr} {op : RespOp} {src : RespSource} (row : respOf i = some (op, src)) {s : State}
    (runs : s.halted = false) : exec i s = .next (s.response op src).runMgmt.settled := by
  have now : s.responds op src = s.response op src := by rw [State.responds, runs]; rfl
  unfold respOf at row
  split at row
  case h_4 => cases row
  all_goals cases row; exact congrArg (fun u => Host.Outcome.next u.runMgmt.settled) now

theorem halted_of_portUp {s : State} {p : Nat} (up : s.portUp p = true) : s.halted = false := by
  simp only [State.portUp, Bool.and_eq_true, Bool.not_eq_true'] at up
  exact up.2

section Port
variable {s : State} {op : RespOp} {p : PortId} {env : LinkEnv} {h : RespHdr} {payload : List Byte}

theorem response_inOrder (up : s.portUp p.val = true) (seq : env.seq.toNat = (s.link p.val).rxSeq) :
    s.response op (.port p env h payload) = (respReceived s p env op h payload).deliverPort p op h payload := by
  unfold State.response
  dsimp only
  rw [up, if_neg (by decide), linkReceive_inOrder seq]
  rfl

theorem deliverPort_of_requestOf {v : State} {r : Req} (asked : v.requestOf (v.newLf h) (some p) = some r) :
    v.deliverPort p op h payload = (v.creditBack p h.cls.toNat (cellsOf (40 + payload.length))).giveAnswer r
      { sender := r.sender, op := op, hdr := v.newLf h, payload := payload } := by
  unfold State.deliverPort
  dsimp only
  rw [asked]
  rfl

theorem deliverPort_stray {v : State} (asked : v.requestOf (v.newLf h) (some p) = none) (here : v.isHere h.dst.toNat = true) :
    v.deliverPort p op h payload = (v.creditBack p h.cls.toNat (cellsOf (40 + payload.length))).tally h.herd.toNat 0x7C0 1 := by
  unfold State.deliverPort
  dsimp only
  rw [asked]
  exact if_pos (.inr (.inl here))

end Port

/-- Settles O9: it holds. -/
theorem strayFramesAreTurnedAway : Obligations.StrayFramesAreTurnedAway := by
  unfold Obligations.StrayFramesAreTurnedAway
  constructor
  · intro i op f row s p env inv via up
    refine ⟨fun seq => ?_, ?_⟩
    · rw [exec_request row, request_gap via up seq]
    · intro seq role
      refine ⟨fun unbound free => ?_, fun taken => ?_⟩
      · rw [exec_request row, request_edge inv via up seq role, ingress_unbound (arrived_request inv seq ..) ?_ free]
        rcases unbound with r0 | rest
        · exact .inl (by omega)
        · exact .inr rest
      · rw [exec_request row, request_edge inv via up seq role, ingress_repeated (arrived_request inv seq ..) taken]
  · intro i op p env h payload row s inv up seq v asked here
    rw [exec_response row (halted_of_portUp up), response_inOrder up seq]
    rw [deliverPort_stray asked ((arrived_response inv seq ..).isHere _ |>.trans here)]

/-! ### The load timeout and the release of a port -/

section Home
variable {s : State}

theorem deliverHome_of_asked {k : Nat} {m : RespMsg} {r : Req} (there : s.tr.resps[k]? = some m) (own : ∀ p, m.sender ≠ .trunk p)
    (asked : s.tr.outstanding.find? (fun x => x.sender == m.sender && x.hdr.tag == m.hdr.tag && x.hdr.psn == m.hdr.psn) = some r) :
    s.deliverHome k m.op =
      (let v := { s with tr := { s.tr with resps := s.tr.resps.eraseIdx k } }
      v.giveAnswer r { m with hdr := v.newLf m.hdr }) := by
  unfold State.deliverHome
  dsimp only
  rw [there]
  dsimp only
  rw [if_neg (by simp)]
  split
  next p h => exact absurd h (own p)
  next => rw [asked]

section Timeout
variable {n : Nat} {r : Req} (asked : s.tr.outstanding.find? (fun x => x.id == n) = some r) (own : ∀ p, r.sender ≠ .trunk p)
  (due : s.past r.born (s.rd od2200_LOAD_TIMEOUT 0 * 1000) = true)
include asked own due

theorem loadTimeout_eq : s.loadTimeout n =
    match s.tr.resps.findIdx? (fun m => m.sender == r.sender && m.hdr.tag == r.hdr.tag && m.hdr.psn == r.hdr.psn) with
    | some i => s.deliverHome i (respKind r.op)
    | none => s.timeOut r := by
  unfold State.loadTimeout
  rw [asked]
  dsimp only
  split
  next p h => exact absurd h (own p)
  next => exact if_pos due

theorem loadTimeout_unanswered (none_ : ∀ m ∈ s.tr.resps, ¬ (m.sender = r.sender ∧ m.hdr.tag = r.hdr.tag ∧ m.hdr.psn = r.hdr.psn)) :
    s.loadTimeout n = s.timeOut r := by
  rw [loadTimeout_eq asked own due, List.findIdx?_eq_none_iff.mpr]
  intro m hm
  simpa [and_assoc] using none_ m hm

theorem loadTimeout_answered {m : RespMsg} (only : s.tr.resps = [m]) (sender : m.sender = r.sender) (tag : m.hdr.tag = r.hdr.tag)
    (psn : m.hdr.psn = r.hdr.psn) : s.loadTimeout n = s.deliverHome 0 (respKind r.op) := by
  rw [loadTimeout_eq asked own due, only]
  simp [sender, tag, psn]

end Timeout
end Home

/-- Settles O10: it holds. -/
theorem responsesTimeoutsAndReleasesComplete : Obligations.ResponsesTimeoutsAndReleasesComplete := by
  unfold Obligations.ResponsesTimeoutsAndReleasesComplete
  refine ⟨fun i op src row s inv runs => ⟨?_, ?_⟩, fun s inv runs => ⟨fun n r asked own due => ⟨fun unanswered => ?_,
    fun m only sender tag psn => ?_⟩, fun p => ?_⟩⟩
  · rintro k m r rfl there rfl own asked
    rw [exec_response row runs]
    exact congrArg (fun u : State => Host.Outcome.next u.runMgmt.settled) (deliverHome_of_asked there own asked)
  · rintro p env h payload r rfl up seq v asked
    rw [exec_response row runs, response_inOrder up seq, deliverPort_of_requestOf asked]
  all_goals change Host.Outcome.next (if s.halted then s else _).runMgmt.settled = _; rw [runs]
  · rw [if_neg (by decide), loadTimeout_unanswered asked own due unanswered]
  · rw [if_neg (by decide), loadTimeout_answered asked own due only sender tag psn]
  · rfl

/-! ### The link layer -/

theorem replay_eq {s : State} {p : PortId} (some_ : (s.link p.val).unacked ≠ []) :
    s.replay p = if 8 ≤ (s.link p.val).replays then s.portDown p else replayed s p := by
  unfold State.replay
  dsimp only
  rw [if_neg (by simpa using some_)]
  rfl

theorem linkDrop_eq {s : State} {p : PortId} {why : DropCause} {timex : Bool} (runs : s.halted = false)
    (receives : s.rd od2118_STATE p.val = 3) (checked : timex = true → why ≠ .seq) : s.linkDrop p why timex =
    (let v := if why = .auth then (s.tally 0 (4 * p.val + 2) 1).bump od4150_AUTH_FAILS p.val 64 1 else s.tally 0 (4 * p.val + 2) 1
    if timex then v else nakOnce v p) := by
  unfold State.linkDrop
  dsimp only
  rw [receives, runs, if_neg (by simpa using checked)]
  rfl

/-- Settles O11: it holds. -/
theorem theLinkLayerDropsAndReplays : Obligations.TheLinkLayerDropsAndReplays := by
  unfold Obligations.TheLinkLayerDropsAndReplays
  intro p s inv
  refine ⟨?_, fun env up waits => ?_, fun up due waits => ?_⟩
  · intro why runs receives v
    constructor
    · exact congrArg (fun u : State => Host.Outcome.next u.runMgmt.settled) (linkDrop_eq runs receives nofun)
    · exact fun checked => congrArg (fun u : State => Host.Outcome.next u.runMgmt.settled) (linkDrop_eq runs receives fun _ => checked)
  · change Host.Outcome.next (if s.portUp p.val then (s.linkLearn p.val env).replay p else s).runMgmt.settled = _
    rw [if_pos up, replay_eq waits]
  · change Host.Outcome.next (if s.portUp p.val ∧ s.past (s.link p.val).timer (s.rd od2200_REPLAY_TIMER 0) then s.replay p
      else s).runMgmt.settled = _
    rw [if_pos ⟨up, due⟩, replay_eq waits]

end Sys2Proof.Proofs.AnswersAndReplays

namespace Sys2Proof.Proofs.TimeCommands

/-! ## Fabric time and the life ledger (R52–R58, R67, R68, R84) -/

open Sys2Proof.Machine Sys2Proof.Claims

/-! ### Time exchanges -/

section Exchange
variable {s : State} {p : PortId} {f : TimexFrame} {t1 : Nat}

theorem takeSync_eq (link : s.timeLink p.val = true) (timed : s.timesPort p.val = true ∨ p.val = s.rd od2000_UPSTREAM_PORT 0) :
    s.takeSync p f = (s.setTimex p.val { s.timexOf p.val with
      replied := some (f.xseq.toNat, f.time.toNat, s.ft (portQuad p.val), f.quality.toNat) }).sendOn p
        (.timex p 1 (s.timeFrame p.val f.xseq.toNat 0)) := by
  unfold State.takeSync
  rw [if_pos (by simpa [link] using timed)]

theorem takeReply_eq (link : s.timeLink p.val = true) (timed : s.timesPort p.val = true)
    (sent : (s.timexOf p.val).sent = some (f.xseq.toNat, t1)) :
    s.takeReply p f = (s.setTimex p.val { s.timexOf p.val with sent := none }).sendOn p
      (.timex p 2 (s.timeFrame p.val f.xseq.toNat (s.ft (portQuad p.val)))) := by
  unfold State.takeReply
  rw [if_pos (by rw [link, timed]; rfl), sent]
  exact if_pos rfl

theorem takeFollow_eq {t2 q1 : Nat} (link : s.timeLink p.val = true) (source : s.rd od2000_SOURCE 0 = 1)
    (upstream : p.val = s.rd od2000_UPSTREAM_PORT 0) (replied : (s.timexOf p.val).replied = some (f.xseq.toNat, t1, t2, q1)) :
    s.takeFollow p f =
      (let upQ := max q1 f.quality.toNat
      let out : Int := (t2 : Int) - t1
      let back : Int := (f.time.toNat : Int) - t2
      let v := s.setTimex p.val { s.timexOf p.val with replied := none }
      if 2 ≤ upQ then v.discardSample else
        (v.wr od2000_PATH_DELAY 0 (unsigned 64 ((out + back) / 2))).sample ((out - back - s.asymmetry p.val) / 2) upQ) := by
  unfold State.takeFollow
  rw [if_pos (by rw [link, source, ← upstream]; simp), replied]
  exact if_pos rfl

end Exchange

/-- The ports on which an exchange starts. -/
def startsOn (s : State) (p : Nat) : Bool := s.timesPort p && s.timeLink p && p != s.rd od2000_UPSTREAM_PORT 0

/-- Exchanges leave the dictionary and the pins, and so the ports they go out on, as they are. -/
theorem startsOn_startExchange (s : State) (p : PortId) : startsOn (s.startExchange p) = startsOn s := by
  have frame : ∃ x y z, s.startExchange p = { s with tr := x, outbox := y, sec := z } := by
    unfold State.startExchange State.sendOn
    dsimp only
    split <;> exact ⟨_, _, _, rfl⟩
  obtain ⟨x, y, z, e⟩ := frame
  rw [e]
  rfl

/-- A fold that leaves a test as it is may test first. -/
theorem foldl_filter_of_invariant {α : Type} (test : State → α → Bool) (f : State → α → State)
    (keeps : ∀ s x, test (f s x) = test s) (l : List α) (s : State) :
    l.foldl (fun u x => if test u x then f u x else u) s = (l.filter (test s)).foldl f s := by
  induction l generalizing s with
  | nil => rfl
  | cons x xs ih =>
    rw [List.foldl_cons, ih, List.filter_cons]
    by_cases h : test s x
    · rw [if_pos h, if_pos h, keeps, List.foldl_cons]
    · rw [if_neg h, if_neg h]

theorem foldState_range {n : Nat} (f : State → Nat → State) (g : State → Fin n → State) (same : ∀ u p, f u p.val = g u p) (s : State) :
    foldState s (List.range n) f = (List.finRange n).foldl g s := by
  rw [foldState, ← List.map_coe_finRange_eq_range, List.foldl_map]
  congr 1
  funext u p
  exact same u p

/-- An exchange starts on a port that takes it. -/
def startHere (u : State) (p : PortId) : State := if startsOn u p.val then u.startExchange p else u

theorem startAll (v : State) : foldState v (List.range 256) (fun s p => if hp : p < 256 then
    if s.timesPort p && s.timeLink p && p != s.rd od2000_UPSTREAM_PORT 0 then s.startExchange ⟨p, hp⟩ else s else s) =
    ((List.finRange 256).filter (fun p => startsOn v p.val)).foldl (fun u p => u.startExchange p) v :=
  (foldState_range _ startHere (fun _ p => dif_pos p.isLt) v).trans
    (foldl_filter_of_invariant (fun u (p : PortId) => startsOn u p.val) (fun u p => u.startExchange p)
      (fun u p => funext fun q => congrFun (startsOn_startExchange u p) q.val) (List.finRange 256) v)

theorem startsOn_tickExch (s : State) (k : Nat) : startsOn { s with time := { s.time with tickExch := k } } = startsOn s := rfl

theorem exec_timeExchangePeriod {s : State} (due : ftToNs (s.ft 0) / 64000 ≠ s.time.tickExch) : exec .timeExchangePeriod s =
    .next ((((List.finRange 256).filter (fun (p : PortId) => startsOn s p.val)).foldl (fun (u : State) p => u.startExchange p)
      { s with time := { s.time with tickExch := ftToNs (s.ft 0) / 64000 } }).settled) := by
  change execTimeExchangePeriod s = _
  unfold execTimeExchangePeriod exchangeNs
  generalize ftToNs (s.ft 0) / 64000 = k at due ⊢
  dsimp only
  rw [if_neg due, startAll, startsOn_tickExch]
  rfl

/-! ### Quality -/

theorem exec_timeSourceTimeout {s : State} {ns : Nat} (timed : s.sourceTimeout = some ns) (locked : s.rd od2000_QUALITY 0 = 0)
    (due : s.past s.time.lastSample ns = true) : exec .timeSourceTimeout s = .next s.enterHoldover.settled := by
  change execTimeSourceTimeout s = _
  unfold execTimeSourceTimeout
  rw [timed]
  dsimp only
  rw [if_pos ⟨locked, due⟩]
  rfl

theorem exec_holdoverLimitExpiry {s : State} {t : Nat} (held : s.time.holdover = some t) (quality : s.rd od2000_QUALITY 0 = 1)
    (due : s.past t (s.rd od2000_HOLDOVER_LIMIT 0 * 1000000000) = true) : exec .holdoverLimitExpiry s = .next s.freeRun.settled := by
  change execHoldoverLimitExpiry s = _
  unfold execHoldoverLimitExpiry
  rw [held]
  dsimp only
  rw [if_pos ⟨quality, due⟩]
  rfl

theorem enterHoldover_eq (s : State) : s.enterHoldover =
    (let t := s.time
    let mean := if t.incs = [] then quadGet t.inc s.timeQuad else t.incs.sum / t.incs.length
    { s with time := { t with inc := quadSet t.inc s.timeQuad mean, left := 0, holdover := some s.clk } }.wr od2000_QUALITY 0 1) := by
  unfold State.enterHoldover
  simp only [List.isEmpty_iff]

/-! ### The sideband -/

theorem portQuad_lt (p : Nat) : portQuad p < 4 := Nat.mod_lt _ (by decide)

theorem timeQuad_lt (s : State) : s.timeQuad < 4 := by
  unfold State.timeQuad
  split
  · exact portQuad_lt _
  · decide

section Quads
variable {α : Type} (x : Quad α) {q d : Nat} (v : α)

theorem quadGet_quadSet_same : quadGet (quadSet x q v) q = v := by
  unfold quadGet quadSet
  split_ifs <;> rfl

theorem quadGet_quadSet_other (hq : q < 4) (hd : d < 4) (ne : q ≠ d) : quadGet (quadSet x d v) q = quadGet x q := by
  unfold quadGet quadSet
  grind

end Quads

/-- What the sideband does with a quadrant that quadrant d disciplines. -/
def alignQuad (d : Nat) (t : TimeState) (q : Nat) : TimeState :=
  let gap := ctrGap (quadGet t.ctr d) (quadGet t.ctr q)
  { t with inc := quadSet t.inc q (slaveInc (quadGet t.ctr d) (quadGet t.ctr q) (quadGet t.inc d)),
           apart := quadSet t.apart q (if 2 * nsScaled < gap then true else if gap ≤ nsScaled then false else quadGet t.apart q) }

theorem sideband_eq (s : State) : s.sideband = { s with time := (([0, 1, 2, 3].filter (· != s.timeQuad)).foldl (alignQuad s.timeQuad)
    { s.time with apart := quadSet s.time.apart s.timeQuad false }) } := by
  unfold State.sideband foldState
  dsimp only
  generalize [0, 1, 2, 3].filter (fun x => x != s.timeQuad) = l
  generalize ({ s.time with apart := quadSet s.time.apart s.timeQuad false } : TimeState) = t
  induction l generalizing t with
  | nil => rfl
  | cons q l ih => exact ih (alignQuad s.timeQuad t q)

section Align
variable {t : TimeState} {d q k : Nat}

theorem alignQuad_ctr : (alignQuad d t q).ctr = t.ctr := rfl

theorem alignQuad_inc_same : quadGet (alignQuad d t q).inc q =
    slaveInc (quadGet t.ctr d) (quadGet t.ctr q) (quadGet t.inc d) := quadGet_quadSet_same ..

theorem alignQuad_apart_same : quadGet (alignQuad d t q).apart q =
    let gap := ctrGap (quadGet t.ctr d) (quadGet t.ctr q)
    if 2 * nsScaled < gap then true else if gap ≤ nsScaled then false else quadGet t.apart q := quadGet_quadSet_same ..

theorem alignQuad_inc_other (hk : k < 4) (hq : q < 4) (ne : k ≠ q) : quadGet (alignQuad d t q).inc k = quadGet t.inc k :=
  quadGet_quadSet_other _ _ hk hq ne

theorem alignQuad_apart_other (hk : k < 4) (hq : q < 4) (ne : k ≠ q) : quadGet (alignQuad d t q).apart k = quadGet t.apart k :=
  quadGet_quadSet_other _ _ hk hq ne

end Align

/-- What a fold of alignments over distinct quadrants gives each of them. -/
theorem foldl_alignQuad {d : Nat} (hd : d < 4) (l : List Nat) (lt : ∀ q ∈ l, q < 4) (other : ∀ q ∈ l, q ≠ d) (nodup : l.Nodup)
    (t : TimeState) : (l.foldl (alignQuad d) t).ctr = t.ctr ∧ (∀ k, k < 4 → k ∉ l →
      quadGet (l.foldl (alignQuad d) t).inc k = quadGet t.inc k ∧ quadGet (l.foldl (alignQuad d) t).apart k = quadGet t.apart k) ∧
    ∀ q ∈ l, quadGet (l.foldl (alignQuad d) t).inc q = quadGet (alignQuad d t q).inc q ∧
      quadGet (l.foldl (alignQuad d) t).apart q = quadGet (alignQuad d t q).apart q := by
  induction l generalizing t with
  | nil => exact ⟨rfl, fun _ _ _ => ⟨rfl, rfl⟩, nofun⟩
  | cons x xs ih =>
    obtain ⟨fresh, nodup'⟩ := List.nodup_cons.mp nodup
    have hx := lt x (by simp)
    obtain ⟨ctr, out, within⟩ := ih (fun q h => lt q (by simp [h])) (fun q h => other q (by simp [h])) nodup' (alignQuad d t x)
    refine ⟨ctr, fun k hk not_mem => ?_, fun q mem => ?_⟩
    · obtain ⟨ne, not_mem'⟩ := not_or.mp (mt List.mem_cons.mpr not_mem)
      exact ⟨(out k hk not_mem').1.trans (alignQuad_inc_other hk hx ne), (out k hk not_mem').2.trans (alignQuad_apart_other hk hx ne)⟩
    · rcases List.mem_cons.mp mem with rfl | mem
      · exact out q hx fresh
      · have ne : q ≠ x := fun e => fresh (e ▸ mem)
        have hq := lt q (by simp [mem])
        have lead : quadGet (alignQuad d t x).inc d = quadGet t.inc d := alignQuad_inc_other hd hx (other x (by simp)).symm
        have own := alignQuad_apart_other (d := d) (t := t) hq hx ne
        refine ⟨(within q mem).1.trans ?_, (within q mem).2.trans ?_⟩
        · rw [alignQuad_inc_same, alignQuad_inc_same, lead, alignQuad_ctr]
        · rw [alignQuad_apart_same, alignQuad_apart_same, own, alignQuad_ctr]

/-- Settles O13: it holds. -/
theorem timeCommandsComplete : Obligations.TimeCommandsComplete := by
  unfold Obligations.TimeCommandsComplete
  refine ⟨fun s inv => ⟨fun p f link timed => ?_, fun p f t1 link timed sent => ?_, fun p f t1 t2 q1 link source upstream replied => ?_,
    exec_timeExchangePeriod⟩, fun s inv => ⟨fun ns timed locked due => ?_, fun t held quality due => ?_⟩, fun s inv => ?_⟩
  · exact congrArg (fun u : State => Host.Outcome.next u.settled) (takeSync_eq link timed)
  · exact congrArg (fun u : State => Host.Outcome.next u.settled) (takeReply_eq link timed sent)
  · exact congrArg (fun u : State => Host.Outcome.next u.settled) (takeFollow_eq link source upstream replied)
  · rw [exec_timeSourceTimeout timed locked due, enterHoldover_eq]
  · exact exec_holdoverLimitExpiry held quality due
  · have lt : ∀ q ∈ [0, 1, 2, 3].filter (· != s.timeQuad), q < 4 := by
      intro q mem
      have := (List.mem_filter.mp mem).1
      simp at this
      omega
    have other : ∀ q ∈ [0, 1, 2, 3].filter (· != s.timeQuad), q ≠ s.timeQuad := fun q mem => by simpa using (List.mem_filter.mp mem).2
    obtain ⟨ctr, out, within⟩ := foldl_alignQuad (timeQuad_lt s) _ lt other ((by decide : [0, 1, 2, 3].Nodup).filter _)
      { s.time with apart := quadSet s.time.apart s.timeQuad false }
    obtain ⟨leadInc, leadApart⟩ := out s.timeQuad (timeQuad_lt s) (fun mem => other _ mem rfl)
    refine ⟨s.sideband, rfl, by rw [sideband_eq], ?_, ?_, ?_, fun q hq ne => ?_⟩
    · rw [sideband_eq]; exact ctr
    · rw [sideband_eq]; exact leadApart.trans (quadGet_quadSet_same ..)
    · rw [sideband_eq]; exact leadInc
    · have mem : q ∈ [0, 1, 2, 3].filter (· != s.timeQuad) := by
        refine List.mem_filter.mpr ⟨?_, by simpa using ne⟩
        simp
        omega
      obtain ⟨inc, apart⟩ := within q mem
      rw [sideband_eq]
      have own := quadGet_quadSet_other s.time.apart false hq (timeQuad_lt s) ne
      rw [alignQuad_apart_same] at apart
      dsimp only at apart ⊢
      rw [inc, apart, alignQuad_inc_same, own]
      refine ⟨rfl, fun far => if_pos far, fun near => ?_, fun far near => ?_⟩
      · exact (if_neg (by unfold ctrGap; omega)).trans (if_pos near)
      · exact (if_neg (by unfold ctrGap; omega)).trans (if_neg (by unfold ctrGap; omega))

end Sys2Proof.Proofs.TimeCommands

namespace Sys2Proof.Proofs.LedgerAndTriggers

/-! ## The life ledger and the trigger slots (R63, R64, R67, R68, R399) -/

open Sys2Proof.Machine Sys2Proof.Claims

/-! ### The ledger -/

theorem exec_journalIntervalExpiry {s : State} (due : s.past s.time.journalAt (s.rd od5020_JOURNAL_INTERVAL 0 * 1000000000) = true)
    (runs : s.coresRun = true) : exec .journalIntervalExpiry s = .next s.ledgerRecord.settled := by
  change execJournalIntervalExpiry s = _
  unfold execJournalIntervalExpiry
  rw [if_pos (by rw [due, runs]; rfl)]
  rfl

theorem rd_bump_same {s : State} (can : s.canonical) (e : Ent) (n w k : Nat) : (s.bump e n w k).rd e n = satAdd w (s.rd e n) k :=
  State.rd_wr_same can

/-- The record that the ledger writes: the next JOURNAL_SEQ, the time with its quality and the counters, signed. -/
def nextRecord (s : State) : JournalRec :=
  let u := (s.bump od5000_JOURNAL_SEQ 0 64 1).fresh
  let vals := s.ft 0 :: s.qual 0 :: ledgerEntries.map (fun x => u.rd x.1 x.2)
  let seq := u.rd od5000_JOURNAL_SEQ 0
  ⟨seq, vals, s.freeN, Config.falcon s.freeN (journalText seq vals)⟩

/-- The quality of a quadrant is read from the time state and QUALITY alone. -/
theorem qual_bump_other {s : State} (can : s.canonical) {e : Ent} (he : e.index < 65536) (hs : e.sub < 256) (ne : e ≠ od2000_QUALITY)
    (n w k q : Nat) : (s.bump e n w k).qual q = s.qual q := by
  unfold State.qual
  rw [State.bump, State.wr_time, State.rd_wr_ne can (by decide) (by decide) he hs ne.symm]

theorem writeLedger_journal {s : State} (can : s.canonical) :
    s.writeLedger.time.journal = (s.time.journal ++ [nextRecord s]).drop (s.time.journal.length + 1 - 1024) := by
  have quality : ((s.bump od5000_JOURNAL_SEQ 0 64 1).fresh).qual 0 = s.qual 0 := qual_bump_other can (by decide) (by decide) (by decide) ..
  unfold State.writeLedger nextRecord
  dsimp only
  rw [quality, List.length_append]
  rfl

/-- Settles O14: it holds. -/
theorem theJournalTakesARecord : Obligations.TheJournalTakesARecord := by
  unfold Obligations.TheJournalTakesARecord
  intro s inv due runs
  rw [exec_journalIntervalExpiry due runs]
  constructor
  · intro level
    rw [State.ledgerRecord, if_pos level]
  · intro level
    rw [State.ledgerRecord, if_neg level]
    have seq : (s.bump od5000_JOURNAL_SEQ 0 64 1).rd od5000_JOURNAL_SEQ 0 = satAdd 64 (s.rd od5000_JOURNAL_SEQ 0) 1 :=
      rd_bump_same inv.1 ..
    exact ⟨s.writeLedger, rfl, seq, rfl, nextRecord s, _, seq, rfl, beq_self_eq_true _, writeLedger_journal inv.1⟩

/-! ### Trigger slots -/

section Slot
variable {s u : State} {n : TrigId} {a : Nat}

theorem slotTime_of_due (due : SlotDue s n a) : s.slotTime n.val a = s.fireSlot n.val (lateRow s n) := by
  unfold State.slotTime
  dsimp only
  rw [due.armed, due.action, due.first, if_pos (by simp [due.time])]
  rfl

/-- The action of a slot's command is the slot's own. -/
theorem slotAction_of_command {i : Instr} {act : State → Nat → Option State} (row : slotCommand i = some (n, a, act))
    (action : s.rd od2010_ACTION n.val = a) (t : Nat) : s.slotAction n.val t = act s t := by
  unfold State.slotAction
  rw [action]
  unfold slotCommand at row
  split at row
  case h_6 => cases row
  all_goals cases row; rfl

theorem exec_slotCommand {i : Instr} {act : State → Nat → Option State} (row : slotCommand i = some (n, a, act)) :
    exec i s = .next (s.slotTime n.val a).settled := by
  unfold slotCommand at row
  split at row
  case h_6 => cases row
  all_goals cases row; rfl

/-- What the end of a firing leaves in the dictionary. -/
structure SlotEnded (s u : State) (n now st : Nat) : Prop where
  state : u.rd od2010_STATE n = st
  fire : u.rd od2010_LAST_FIRE n = now
  quality : u.rd od2010_LAST_QUALITY n = s.qual (slotQuad n)
  time : s.rd od2010_PERIOD n ≠ 0 → u.rd od2010_TIME n = nextTime (s.rd od2010_TIME n) (s.rd od2010_PERIOD n) now
  frame : OdFrame [0x2010] s u
  eq : u = { s with od := u.od }

theorem slotEnd_spec (can : s.canonical) (n now st : Nat) : SlotEnded s (s.slotEnd n now st) n now st := by
  have c1 := State.canonical_wr (e := od2010_LAST_FIRE) (n := n) (v := now) can
  have c2 := State.canonical_wr (e := od2010_LAST_QUALITY) (n := n) (v := s.qual (slotQuad n)) c1
  have c3 := State.canonical_wr (e := od2010_STATE) (n := n) (v := st) c2
  have f3 := ((OdFrame.wr (l := [0x2010]) can (e := od2010_LAST_FIRE) (n := n) (v := now) (by decide) (by decide) (by decide)).trans
    (OdFrame.wr c1 (e := od2010_LAST_QUALITY) (n := n) (v := s.qual (slotQuad n)) (by decide) (by decide) (by decide))).trans
    (OdFrame.wr c2 (e := od2010_STATE) (n := n) (v := st) (by decide) (by decide) (by decide))
  have state := State.rd_wr_same (e := od2010_STATE) (n := n) (v := st) c2
  have fire := (State.rd_wr_ne (e := od2010_LAST_FIRE) (n := n) (e' := od2010_STATE) (n' := n) (v := st) c2 (by decide) (by decide) (by decide) (by decide)
    (by decide)).trans ((State.rd_wr_ne (n := n) (e' := od2010_LAST_QUALITY) (n' := n) (v := s.qual (slotQuad n)) c1 (by decide) (by decide) (by decide)
    (by decide) (by decide)).trans (State.rd_wr_same can (v := now)))
  have quality := (State.rd_wr_ne (e := od2010_LAST_QUALITY) (n := n) (e' := od2010_STATE) (n' := n) (v := st) c2 (by decide) (by decide) (by decide)
    (by decide) (by decide)).trans (State.rd_wr_same c1 (v := s.qual (slotQuad n)))
  unfold State.slotEnd
  dsimp only
  split
  next none_ => exact ⟨state, fire, quality, fun h => absurd none_ h, f3, rfl⟩
  next =>
    have other := fun (e : Ent) he hs ne => State.rd_wr_ne (e := e) (n := n) (e' := od2010_TIME) (n' := n)
      (v := nextTime (s.rd od2010_TIME n) (s.rd od2010_PERIOD n) now) c3 he hs (by decide) (by decide) ne
    exact ⟨(other _ (by decide) (by decide) (by decide)).trans state, (other _ (by decide) (by decide) (by decide)).trans fire,
      (other _ (by decide) (by decide) (by decide)).trans quality, fun _ => State.rd_wr_same c3,
      f3.trans (OdFrame.wr c3 (by decide) (by decide) (by decide)), rfl⟩

theorem fireSlot_missed {row : Nat} (missed : s.missRow n.val row ≠ 0) : s.fireSlot n.val row =
    (s.slotEnd n.val (s.ft (slotQuad n.val)) 3).emit (slotQuad n.val) evTriggerMissed (s.rd od2010_HERD n.val) 9 n.val 0
      [n.val, s.missRow n.val row] := by
  unfold State.fireSlot
  exact if_pos missed

/-- The state after the count of a firing that was late. -/
def lateCounted (u : State) (n row : Nat) : State := if row = 0 then u else u.bump od2010_LATE_COUNT n 32 1

theorem fireSlot_fired {row : Nat} (fires : s.missRow n.val row = 0)
    (acts : s.slotAction n.val (if row = 0 then s.rd od2010_TIME n.val else s.ft (slotQuad n.val)) = some u) :
    ∃ x, s.fireSlot n.val row =
      { lateCounted (u.slotEnd n.val (s.ft (slotQuad n.val)) (if s.rd od2010_PERIOD n.val = 0 then 2 else 1)) n.val row with time := x } := by
  unfold State.fireSlot
  dsimp only
  rw [if_neg (by rw [fires]; decide), acts]
  exact ⟨_, rfl⟩

theorem lateCounted_spec {v : State} {now st : Nat} (can : v.canonical) (ended : SlotEnded s v n.val now st) (row : Nat) :
    SlotEnded s (lateCounted v n.val row) n.val now st := by
  unfold lateCounted
  split
  · exact ended
  · have other := fun (e : Ent) he hs ne => State.rd_wr_ne (e := e) (n := n.val) (e' := od2010_LATE_COUNT) (n' := n.val)
      (v := satAdd 32 (v.rd od2010_LATE_COUNT n.val) 1) can he hs (by decide) (by decide) ne
    refine ⟨(other _ (by decide) (by decide) (by decide)).trans ended.state, (other _ (by decide) (by decide) (by decide)).trans ended.fire,
      (other _ (by decide) (by decide) (by decide)).trans ended.quality,
      fun p => (other _ (by decide) (by decide) (by decide)).trans (ended.time p),
      ended.frame.trans (OdFrame.wr can (by decide) (by decide) (by decide)), ?_⟩
    rw [ended.eq]
    rfl

end Slot

/-- Settles O15: it holds. -/
theorem triggersFireOrMiss : Obligations.TriggersFireOrMiss := by
  unfold Obligations.TriggersFireOrMiss
  constructor
  · intro i n a act row s u inv due fires acts
    rw [exec_slotCommand row, slotTime_of_due due]
    rw [← slotAction_of_command row due.action] at acts
    have can : u.canonical := (State.slotAction_some acts (Kept.self inv)).inv.1
    obtain ⟨x, eq⟩ := fireSlot_fired fires acts
    have ended := slotEnd_spec can n.val (s.ft (slotQuad n.val)) (if s.rd od2010_PERIOD n.val = 0 then 2 else 1)
    have late := lateCounted_spec (ended.frame.can can) ended (lateRow s n)
    refine ⟨_, rfl, ?_⟩
    rw [eq]
    refine ⟨late.state, late.fire, late.quality, late.time, by rw [late.eq], fun e k he hs out => late.frame.rd e k he hs (by simpa using out)⟩
  · intro i n a act row s inv due missed
    rw [exec_slotCommand row, slotTime_of_due due, fireSlot_missed missed]

end Sys2Proof.Proofs.LedgerAndTriggers

namespace Sys2Proof.Proofs.OdAccesses

/-! ## Accesses to the object dictionary (R22, R24, R363–R371, R396, R405, R484) -/

open Sys2Proof.Machine Sys2Proof.Claims

/-! ### The rows of the writes -/

/-- Every writing command lets its access arrive. -/
theorem exec_write {i : Instr} {a : Access} {f : State → Nat × State} (row : writeOf i = some (a, f)) (s : State) :
    exec i s = .next (s.odArrive a).settled := by
  cases i <;> try cases row
  case sourceWrite path up v => cases up <;> cases row <;> rfl
  all_goals rfl

theorem accessWrite_plain {s : State} {path : OdPath} {e : Ent} {n : Nat} (bytes : List Byte) (hi : e.index < 65536) (hs : e.sub < 256)
    (hn : n < 2 ^ 24) : s.accessWrite (writeAcc path (addrOf e n) bytes .plain) = s.odApply path e.index e.sub n (leNat bytes) := by
  change s.odApply path (BitVec.ofNat 16 e.index).toNat (BitVec.ofNat 8 e.sub).toNat (BitVec.ofNat 24 n).toNat (leNat bytes) = _
  rw [BitVec.toNat_ofNat, BitVec.toNat_ofNat, BitVec.toNat_ofNat, Nat.mod_eq_of_lt hi, Nat.mod_eq_of_lt hs, Nat.mod_eq_of_lt hn]

theorem accessWrite_put {s : State} {path : OdPath} {e : Ent} {n v : Nat} (hi : e.index < 65536) (hs : e.sub < 256) (hn : n < 2 ^ 24)
    (hv : leNat (toLe (((odRow e.index e.sub).map (·.width)).getD 1) v) = v) :
    s.accessWrite (putAcc path e n v) = s.odApply path e.index e.sub n v :=
  (accessWrite_plain _ hi hs hn).trans (congrArg (s.odApply path e.index e.sub n) hv)

/-- A value that fits the entry is written as it is. -/
theorem leNat_toLe_of_width {index sub k v : Nat} (width : ((odRow index sub).map (·.width)).getD 1 = k) (fits : v < 2 ^ (8 * k)) :
    leNat (toLe (((odRow index sub).map (·.width)).getD 1) v) = v := by
  rw [width, leNat_toLe, Nat.mod_eq_of_lt fits]

/-- The effect of every writing command's access is that of its row. -/
theorem accessWrite_row {i : Instr} {a : Access} {f : State → Nat × State} (row : writeOf i = some (a, f)) (s : State) :
    s.accessWrite a = f s := by
  cases i <;> try cases row
  case odWrite => rfl
  case fwInstall => rfl
  case sourceWrite path up v =>
    cases up <;> cases row <;> dsimp only <;> rw [accessWrite_plain _ (by decide) (by decide) (by decide), leNat_toLe, Nat.mod_eq_of_lt]
    · simp [State.odApply, State.applyLow, State.applyTime, od2000_SOURCE]
    · split
      · assumption
      · exact v.isLt
    · simp [State.odApply, State.applyLow, State.applyTime, od2000_UPSTREAM_PORT]
    · exact v.isLt
  case entryRecordWrite path n v =>
    rw [accessWrite_plain _ (by decide) (by decide) (by omega)]
    simp [State.odApply, State.applyHigh, od4020_ENTRY_RECORD]
  case todSet path v =>
    rw [accessWrite_put (by decide) (by decide) (by decide) (leNat_toLe_of_width (k := 8) (by decide +kernel) v.isLt)]
    simp [State.odApply, State.applyLow, State.applyTime, od2000_TOD_SET]
  case ptpOffset path v =>
    rw [accessWrite_put (by decide) (by decide) (by decide) (leNat_toLe_of_width (k := 8) (by decide +kernel) v.isLt)]
    simp [State.odApply, State.applyLow, State.applyTime, od2000_PTP_OFFSET]
  case thaw path e v =>
    rw [accessWrite_put (by decide) (by decide) (by omega) (leNat_toLe_of_width (k := 4) (by decide +kernel) v.isLt)]
    simp [State.odApply, State.applyMid, od3020_THAW]
  case volumeDelete path e v =>
    rw [accessWrite_put (by decide) (by decide) (by omega) (leNat_toLe_of_width (k := 8) (by decide +kernel) v.isLt)]
    simp [State.odApply, State.applyMid, od2C40_DELETE]
  case debugLevelWrite path v =>
    rw [accessWrite_put (by decide) (by decide) (by decide) (leNat_toLe_of_width (k := 1) (by decide +kernel) v.isLt)]
    simp [State.odApply, State.applyHigh, od4100_DEBUG_LEVEL]
  case attestGenerate path =>
    rw [accessWrite_put (by decide) (by decide) (by cases path <;> decide) (by decide +kernel)]
    simp [State.odApply, State.applyHigh, State.applyAttest, od4130_GENERATE]
  all_goals
    rw [accessWrite_put (by decide) (by decide) (by omega) (by decide +kernel)]
    simp [State.odApply, State.applyLow, State.applyMid, State.applyHigh, State.applyTime, State.applyPort, State.applyGate,
      State.applyFirmware, State.applyStot, State.applyPower, State.applyQueue, od2000_ALLOW_STEP, od2010_STATE, od2118_RETRAIN,
      od2320_STATE, od2400_HIST_CLEAR, od2450_STATE, od2800_STATE, od2820_OP, od3010_STATE, od3410_STATE, od3800_STATE, od3810_STATE,
      od4010_STATE, od4100_ADVANCE, od4110_COMMIT, od4140_KEY_LOAD, od4150_LINK_LOAD, od4400_RECOVER, od4410_RELEASE, od4810_STATE,
      od4880_STATE, od4890_STATE, od48A0_STOT_NOW, od48B0_BUILD, od4C00_REQUEST, od4C08_GATE]

/-! ### An access that arrives on a free path -/

theorem row_write {i : Instr} {a : Access} {f : State → Nat × State} (row : writeOf i = some (a, f)) :
    a.write = true ∧ a.what ≠ .provision ∧ a.asker = .direct := by
  cases i <;> try cases row
  case sourceWrite path up v => cases up <;> cases row <;> exact ⟨rfl, nofun, rfl⟩
  all_goals exact ⟨rfl, nofun, rfl⟩

section Queue
variable {s : State} {p : OdPath} {a : Access}

theorem setQueue_restore (empty : s.queueOf p = []) (l : List Access) : (s.setQueue p l).setQueue p [] = s := by
  obtain ⟨⟩ := s
  rename_i mg _ _ _
  obtain ⟨⟩ := mg
  cases p <;> simp_all [State.queueOf, State.setQueue]

theorem storesN_setQueue (l : List Access) : (s.setQueue p l).storesN a = s.storesN a := by
  cases p <;> rfl

theorem queueOf_setQueue (notF : p ≠ .f) (l : List Access) : (s.setQueue p l).queueOf p = l := by
  cases p
  case f => exact absurd rfl notF
  all_goals rfl

theorem runQueue_nil (empty : s.queueOf p = []) (n : Nat) : State.runQueue p n s = s := by
  cases n with
  | zero => rfl
  | succ n => unfold State.runQueue; rw [empty]

/-- An access that arrives on a free path and does not wait for the configuration area is executed at once. -/
theorem odArrive_free (free : PathFree s a.path) (now : s.storesN a = false) (idle : (s.execOd a).queueOf a.path = []) :
    s.odArrive a = s.execOd a := by
  obtain ⟨opened, empty⟩ := free
  unfold State.odArrive
  rw [opened, empty, if_neg (by decide), if_neg (by cases a.path <;> decide)]
  by_cases isF : a.path = .f
  · rw [if_pos isF]
  · rw [if_neg isF, List.nil_append, State.runQueue, queueOf_setQueue isF]
    dsimp only
    rw [storesN_setQueue, now, if_neg (by decide), setQueue_restore empty, runQueue_nil idle]

theorem storesN_of_not_isN (notN : isN ⟨a.index, a.sub⟩ = false) : s.storesN a = false := by
  rw [State.storesN, notN, Bool.and_false, Bool.false_and]

theorem storesN_of_refused {c : Nat} (refused : s.odCheck a = .inl c) : s.storesN a = false := by
  rw [State.storesN, refused, Bool.and_false]

end Queue

/-! ### What an access does -/

section Access
variable {s u : State} {a : Access} {r : OdRow} {c : Nat}

theorem access_ok {v : List Byte} (ok : (accessed s).tryAccess a = (abOk, v, u)) : s.access a = (abOk, v, u) := by
  unfold State.access
  exact (congrArg (fun x : Nat × List Byte × State => if x.1 = abOk then x else (x.1, x.2.1, x.2.2.refuse a.path)) ok).trans
    (if_pos rfl)

theorem access_refused (no : (accessed s).tryAccess a = (c, [], accessed s)) (bad : c ≠ abOk) :
    s.access a = (c, [], (accessed s).refuse a.path) := by
  unfold State.access
  exact (congrArg (fun x : Nat × List Byte × State => if x.1 = abOk then x else (x.1, x.2.1, x.2.2.refuse a.path)) no).trans
    (if_neg bad)

theorem execOd_direct {x : Nat × List Byte × State} (direct : a.asker = .direct) (does : s.access a = x) :
    s.execOd a = x.2.2.send (.odAnswer a.path a.addr x.1 x.2.1) := by
  unfold State.execOd State.answerOd
  rw [does, direct]

theorem writeAccess_ok (does : s.accessWrite a = (abOk, u)) : s.writeAccess a = (abOk, [], u.configWrite a) := by
  unfold State.writeAccess
  rw [does]
  exact if_pos rfl

theorem writeAccess_refused (does : s.accessWrite a = (c, u)) (bad : c ≠ abOk) : s.writeAccess a = (c, [], s) := by
  unfold State.writeAccess
  rw [does]
  exact if_neg bad

theorem tryAccess_write (write : a.write = true) (what : a.what ≠ .provision) (passes : s.odCheck a = .inr r) :
    s.tryAccess a = s.writeAccess a := by
  unfold State.tryAccess
  rw [if_neg what, passes, write]
  rfl

theorem tryAccess_refused (what : a.what ≠ .provision) (fails : s.odCheck a = .inl c) : s.tryAccess a = (c, [], s) := by
  unfold State.tryAccess
  rw [if_neg what, fails]

theorem tryAccess_read (read : a.write = false) (what : a.what ≠ .provision) (passes : s.odCheck a = .inr r) :
    s.tryAccess a = s.odRead r a := by
  unfold State.tryAccess
  rw [if_neg what, passes, read]
  rfl

theorem odRead_logNext (index : a.index = 0x4430) (sub : a.sub = 1) (room : s.logNext.1.length ≤ a.space) :
    s.odRead r a = (abOk, s.logNext.1, s.logNext.2) := by
  have value : s.odValue r a.index a.sub a.elem = (abOk, s.logNext.1, s.logNext.2) := by
    rw [index, sub]
    unfold State.odValue
    rw [if_neg (by decide), if_pos (by decide)]
  unfold State.odRead
  rw [value]
  exact (if_neg (not_not_intro rfl)).trans (if_neg (Nat.not_lt.mpr room))

theorem queueOf_send (p : OdPath) (o : OutItem) : (u.send o).queueOf p = u.queueOf p := by cases p <;> rfl

theorem queueOf_configWrite (p : OdPath) : (u.configWrite a).queueOf p = u.queueOf p := by
  cases p <;> simp [State.queueOf, State.configWrite]

theorem queueOf_refuse (p q : OdPath) : (u.refuse q).queueOf p = u.queueOf p := by cases p <;> rfl

theorem queueOf_accessed (p : OdPath) : (accessed s).queueOf p = s.queueOf p := by cases p <;> rfl

end Access

/-- Settles O16: it holds. -/
theorem acceptedAccessesTakeEffect : Obligations.AcceptedAccessesTakeEffect := by
  unfold Obligations.AcceptedAccessesTakeEffect
  constructor
  · intro i a f row s u r inv free notN passes does idle
    obtain ⟨write, what, direct⟩ := row_write row
    rw [← accessWrite_row row] at does
    have result := execOd_direct direct (access_ok ((tryAccess_write write what passes).trans (writeAccess_ok does)))
    rw [exec_write row, odArrive_free free (storesN_of_not_isN notN), result]
    rw [result, queueOf_send, queueOf_configWrite, idle]
  · intro path s u inv free
    constructor
    · intro does idle
      dsimp only
      generalize ha : writeAcc path (addrOf ⟨0xA000, 1⟩ 0) [1] .provision = a
      have path_ : a.path = path := by rw [← ha]; rfl
      have try_ : (accessed s).tryAccess a = (accessed s).writeAccess a := by rw [← ha]; rfl
      have does' : (accessed s).accessWrite a = (abOk, u) := by rw [← ha]; exact does
      have direct : a.asker = .direct := by rw [← ha]; rfl
      have result := execOd_direct direct (access_ok (try_.trans (writeAccess_ok does')))
      have run : exec (.advanceProvisioned path) s = .next (s.odArrive a).settled := by rw [← ha]; rfl
      have now : s.storesN a = false := by rw [← ha]; exact congrArg₂ and (Bool.and_false _) rfl
      subst path_
      rw [run, odArrive_free free ‹_›, result]
      rw [result, queueOf_send, queueOf_configWrite, idle]
    · intro r passes
      dsimp only
      intro room idle
      generalize ha : (⟨false, path, addrOf od4430_LOG_NEXT 0, [], 64, 0, .direct, .plain⟩ : Access) = a at passes
      have path_ : a.path = path := by rw [← ha]
      have index : a.index = 0x4430 ∧ a.sub = 1 ∧ a.space = 64 := by rw [← ha]; exact ⟨rfl, rfl, rfl⟩
      have read : a.write = false ∧ a.what ≠ .provision ∧ a.asker = .direct := by rw [← ha]; exact ⟨rfl, nofun, rfl⟩
      have run : exec (.logNext path) s = .next (s.odArrive a).settled := by rw [← ha]; rfl
      have addr : a.addr = addrOf od4430_LOG_NEXT 0 := by rw [← ha]
      obtain ⟨index, sub, space⟩ := index
      obtain ⟨write, what, direct⟩ := read
      have result := execOd_direct direct (access_ok ((tryAccess_read write what passes).trans
        (odRead_logNext index sub (by rw [space]; exact room))))
      have now : s.storesN a = false := by rw [State.storesN, write, Bool.false_and, Bool.false_and, Bool.false_and]
      subst path_
      rw [run, odArrive_free free now, result, addr]
      rw [result, queueOf_send, idle]

/-- Settles O17: it holds. -/
theorem refusedWritesChangeNothing : Obligations.RefusedWritesChangeNothing := by
  unfold Obligations.RefusedWritesChangeNothing
  constructor
  · intro i a f row s c inv free why
    obtain ⟨write, what, direct⟩ := row_write row
    have no : (accessed s).tryAccess a = (c, [], accessed s) ∧ c ≠ abOk ∧ s.storesN a = false := by
      rcases why with ⟨fails, bad, fails'⟩ | ⟨r, u, notN, passes, does, bad⟩
      · exact ⟨tryAccess_refused what fails, bad, storesN_of_refused fails'⟩
      · rw [← accessWrite_row row] at does
        exact ⟨(tryAccess_write write what passes).trans (writeAccess_refused does bad), bad, storesN_of_not_isN notN⟩
    obtain ⟨no, bad, now⟩ := no
    have result := execOd_direct direct (access_refused no bad)
    rw [exec_write row, odArrive_free free now, result]
    rw [result, queueOf_send, queueOf_refuse, queueOf_accessed, free.2]
  · intro i a f row s inv
    obtain ⟨write, what, direct⟩ := row_write row
    refine ⟨fun closed => ?_, fun opened full => ?_⟩
    · rw [exec_write row, State.odArrive, closed, if_pos (by decide)]
    · rw [exec_write row, State.odArrive, opened, if_neg (by decide), if_pos full, State.answerOd, direct]

end Sys2Proof.Proofs.OdAccesses

namespace Sys2Proof.Proofs.OdMessages

/-! ## Stored writes, messages and the wires of management (R363, R369–R371, R374, R398, R484) -/

open Sys2Proof.Machine Sys2Proof.Claims Sys2Proof.Proofs.OdAccesses

/-! ### Writes that wait for the configuration area -/

section Stored
variable {s : State} {p : OdPath} {a : Access}

theorem queueOf_answerOd (a : Access) (code : Nat) (v : List Byte) (q : OdPath) : (s.answerOd a code v).queueOf q = s.queueOf q := by
  unfold State.answerOd
  split
  · exact queueOf_send ..
  · cases q <;> rfl
  · exact queueOf_send ..
  · split
    · cases q <;> rfl
    · rfl

theorem queueOf_programConf (ok0 ok1 : Bool) (q : OdPath) : (s.programConf a ok0 ok1).queueOf q = s.queueOf q := by
  unfold State.programConf
  dsimp only
  split <;> cases q <;> rfl

/-- A write of an N entry that passes the checks waits on its path. -/
theorem odArrive_stored (free : PathFree s a.path) (notF : a.path ≠ .f) (stores : s.storesN a = true) (conf : s.mg.conf = none) :
    s.odArrive a = { s with mg := { s.mg with conf := some a.path } }.setQueue a.path [a] := by
  obtain ⟨opened, empty⟩ := free
  unfold State.odArrive
  rw [opened, empty, if_neg (by decide), if_neg (by cases a.path <;> decide), if_neg notF, List.nil_append, State.runQueue,
    queueOf_setQueue notF]
  dsimp only
  rw [storesN_setQueue, stores, if_pos rfl]
  cases h : a.path
  case f => exact absurd h notF
  all_goals exact if_pos (by rw [State.setQueue, conf]; rfl)

theorem odCheck_conf (q : OdPath) (c : Option OdPath) : ({ s with mg := { s.mg with conf := c } }.setQueue q []).mg.copy0 = s.mg.copy0 ∧
    ({ s with mg := { s.mg with conf := c } }.setQueue q []).mg.copy1 = s.mg.copy1 ∧
    ({ s with mg := { s.mg with conf := c } }.setQueue q []).confVals a = s.confVals a := by
  cases q <;> exact ⟨rfl, rfl, rfl⟩

theorem programConf_both : (s.programConf a true true).mg.copy0 = ⟨max s.mg.copy0.seq s.mg.copy1.seq + 1, true, s.confVals a⟩ ∧
    (s.programConf a true true).mg.copy1 = (s.programConf a true true).mg.copy0 := by
  unfold State.programConf
  dsimp only
  split <;> exact ⟨rfl, rfl⟩

theorem exec_confDone {ok0 ok1 : Bool} (conf : s.mg.conf = some p) (only : s.queueOf p = [a]) :
    exec (.configAreaProgramDone ok0 ok1) s = .next (State.runQueue p 65 (State.runQueue (otherPath p) 65
      (((({ s with mg := { s.mg with conf := none } }.setQueue p []).programConf a ok0 ok1).endStore a (ok0 && ok1))))).settled := by
  change Host.Outcome.next (s.confDone ok0 ok1).settled = _
  unfold State.confDone
  rw [conf]
  dsimp only
  rw [only]

end Stored

/-- Settles O18: it holds. -/
theorem storedWritesWaitForBothCopies : Obligations.StoredWritesWaitForBothCopies := by
  unfold Obligations.StoredWritesWaitForBothCopies
  intro p s inv notF emptyJ emptyB
  refine ⟨fun addr v r free conf isN_ passes => ?_, fun a ok0 ok1 conf only => ?_⟩
  · have stores : s.storesN (writeAcc p addr v .plain) = true := by
      unfold State.storesN
      rw [passes]
      exact congrArg (fun b => (true && true && b) && true) isN_
    exact congrArg (fun u : State => Host.Outcome.next u.settled) (odArrive_stored (a := writeAcc p addr v .plain) free notF stores conf)
  · intro w v
    have empty : v.queueOf p = [] ∧ v.queueOf (otherPath p) = [] := by
      cases p
      case f => exact absurd rfl notF
      case j => exact ⟨queueOf_programConf .., (queueOf_programConf ..).trans (emptyB.resolve_right nofun)⟩
      case b => exact ⟨queueOf_programConf .., (queueOf_programConf ..).trans (emptyJ.resolve_right nofun)⟩
    refine ⟨?_, fun failed => ?_⟩
    · rintro rfl rfl emptyJ' emptyB'
      obtain ⟨copy0, copy1, vals⟩ := odCheck_conf (s := s) (a := a) p none
      obtain ⟨new0, new1⟩ := programConf_both (s := w) (a := a)
      refine ⟨by rw [new0, copy0, copy1, vals], new1, ?_⟩
      rw [exec_confDone conf only]
      change Host.Outcome.next (State.runQueue p 65 (State.runQueue (otherPath p) 65 (v.execOd a))).settled = _
      rw [runQueue_nil (p := otherPath p), runQueue_nil (p := p)]
      · cases p
        case f => exact absurd rfl notF
        all_goals assumption
      · cases p
        case f => exact absurd rfl notF
        all_goals assumption
    · rw [exec_confDone conf only, failed]
      change Host.Outcome.next (State.runQueue p 65 (State.runQueue (otherPath p) 65
        (((accessed v).refuse a.path).answerOd a abStorage []))).settled = _
      have kept : ∀ q, (((accessed v).refuse a.path).answerOd a abStorage []).queueOf q = v.queueOf q := fun q => by
        rw [queueOf_answerOd, queueOf_refuse, queueOf_accessed]
      rw [runQueue_nil (p := otherPath p) (by rw [kept, empty.2]), runQueue_nil (by rw [kept, empty.1])]

/-! ### Messages -/

theorem message_eq {s : State} {p : OdPath} (opened : s.pathOpen p = true) (who : Asker) (m : List Byte) : s.message p who m =
    if messageOk m then s.odArrive (messageAccess p who m) else (s.refuse p).answerOd (messageAccess p who m) abLength [] := by
  unfold State.message
  rw [opened]
  rfl

theorem bitAt_eq_testBit (m k : Nat) : bitAt m k = m.testBit k := by
  rw [bitAt, Nat.testBit_eq_decide_div_mod_eq]
  rfl

/-- Clearing one set bit of a number clears no other. -/
theorem bitAt_sub {m i : Nat} (set : bitAt m i = true) (k : Nat) : bitAt (m - 2 ^ i) k = (bitAt m k && k != i) := by
  rw [bitAt_eq_testBit, bitAt_eq_testBit]
  have odd : m / 2 ^ i % 2 = 1 := by simpa [bitAt] using set
  have low : m % 2 ^ i < 2 ^ i := Nat.mod_lt _ (Nat.two_pow_pos i)
  have whole := Nat.div_add_mod m (2 ^ i)
  obtain ⟨q, hq⟩ : ∃ q, m / 2 ^ i = 2 * q + 1 := ⟨m / 2 ^ i / 2, by omega⟩
  rw [hq] at whole
  have less : m - 2 ^ i = 2 ^ i * (2 * q) + m % 2 ^ i := by rw [Nat.mul_add, Nat.mul_one] at whole; omega
  generalize m % 2 ^ i = r at low whole less
  rw [less, ← whole, Nat.testBit_two_pow_mul_add _ low, Nat.testBit_two_pow_mul_add _ low]
  rcases Nat.lt_trichotomy k i with lt | rfl | gt
  · simp [lt, Nat.ne_of_lt lt]
  · simp
  · obtain ⟨j, hj⟩ : ∃ j, k - i = j + 1 := ⟨k - i - 1, by omega⟩
    have half : (2 * q + 1) / 2 = q := by omega
    simp [Nat.not_lt.mpr (Nat.le_of_lt gt), hj, Nat.testBit_succ, (Nat.ne_of_lt gt).symm, half]

/-- Bits of a number cleared one after the other. -/
theorem bitAt_cleared (bits : Nat → Bool) (l : List Nat) (m k : Nat) :
    bitAt (l.foldl (fun m i => if bits i && bitAt m i then m - 2 ^ i else m) m) k = (bitAt m k && !(l.contains k && bits k)) := by
  induction l generalizing m with
  | nil => simp
  | cons i l ih =>
    rw [List.foldl_cons, ih]
    by_cases h : (bits i && bitAt m i) = true
    · rw [if_pos h, bitAt_sub (by simp_all)]
      by_cases e : k = i
      · subst e; simp_all
      · have ne : (k != i) = true := by simpa using e
        rw [ne]
        simp [e]
    · rw [if_neg h]
      by_cases e : k = i
      · subst e
        cases hk : bits k
        · simp
        · have clear : bitAt m k = false := by simpa [hk] using h
          simp [clear]
      · simp [e]

/-- Settles O19: it holds. -/
theorem messagesAreAccesses : Obligations.MessagesAreAccesses := by
  unfold Obligations.MessagesAreAccesses
  refine ⟨fun s inv => ⟨?_, fun bits opened => ?_, ?_⟩, fun slot msg s => ?_⟩
  · intro slot msg fits opened v a
    change (if 64 ≤ slot.toNat then _ else if s.pathOpen .j then (v.message .j (.slot slot.toNat) msg).done else s.done) = _
    rw [if_neg (by omega), if_pos opened, message_eq (show v.pathOpen .j = true from opened)]
    rfl
  · refine ⟨(List.range 64).foldl (fun m i => if bits.getLsbD i && bitAt m i then m - 2 ^ i else m) s.mg.ready, ?_, fun k hk => ?_⟩
    · change (if s.pathOpen .j then _ else s).done = _
      rw [if_pos opened]
      rfl
    · rw [bitAt_cleared bits.getLsbD, List.contains_iff_mem.mpr (List.mem_range.mpr hk), Bool.true_and]
  · intro t body opened a
    change (if !s.pathOpen .b then s else if t = 0x7F ∧ leNat (body.take 4) = s.rd od1000_ENTERPRISE 0 then s.message .b .mctp (body.drop 4)
      else s.bump od1110_B_DISCARDS 0 32 1).done = _
    rw [opened, if_neg (by decide), message_eq opened]
    rfl
  · change (if 64 ≤ slot.toNat then _ else if s.pathOpen .j then (State.message _ .j (.slot slot.toNat) msg).done else s.done) = _ ↔ _
    split
    · exact iff_of_true rfl ‹_›
    · refine iff_of_false ?_ ‹_›
      split <;> exact nofun

/-! ### MCTP control, I3C and JTAG -/

theorem control_eq {s : State} (opened : s.pathOpen .b = true) (cmd code : Nat) (data : List Nat) :
    s.control cmd code data = s.send (.mctpControl cmd code data) := by
  unfold State.control
  exact if_pos opened

theorem pathOpen_wr_eid {s : State} (can : s.canonical) (v : Nat) : (s.wr od1110_MCTP_EID 0 v).pathOpen .b = s.pathOpen .b := by
  unfold State.pathOpen
  dsimp only
  rw [State.rd_wr_ne can (by decide) (by decide) (by decide) (by decide) (by decide),
    State.rd_wr_ne can (by decide) (by decide) (by decide) (by decide) (by decide)]
  rfl

section Jtag
variable {s : State} {e : ExtentId} {off len : Nat} {data : List Byte}

theorem jtagBytes_sealed (sealed_ : s.sealedHerd (s.extHerd e.val) = true) : (s.jtagBytes e.val off len).length = len := by
  unfold State.jtagBytes
  rw [if_pos sealed_]
  simp

theorem jtag_memRead_of_reach (level : s.rd od4100_DEBUG_EFFECTIVE 0 = 3) (reach : s.jtagReach e.val off len = true) :
    s.jtag (.memRead e off len) = s.fresh.send (.jtag (.memRead e off len) (s.jtagBytes e.val off len)) := if_pos ⟨level, reach⟩

theorem jtag_memWrite_of_reach (level : s.rd od4100_DEBUG_EFFECTIVE 0 = 3) (reach : s.jtagReach e.val off data.length = true) :
    s.jtag (.memWrite e off data) = (s.jtagWrite e.val off data).send (.jtag (.memWrite e off data) []) := if_pos ⟨level, reach⟩

theorem exec_jtag (op : JtagOp) : exec (.jtagAccess op) s = .next (s.jtag op).settled := rfl

end Jtag

/-- Settles O20: it holds. -/
theorem managementWiresComplete : Obligations.ManagementWiresComplete := by
  unfold Obligations.ManagementWiresComplete
  intro s inv
  refine ⟨fun opened => ⟨fun eid => ?_, ?_, ?_, ?_, fun addr => ?_⟩, ?_⟩
  · change (if !s.pathOpen .b then s else if eid = 0 ∨ eid = 0xFF then s.control 1 2 [s.rd od1110_MCTP_EID 0]
      else (s.wr od1110_MCTP_EID 0 eid.toNat).control 1 0 [eid.toNat]).done = _
    rw [opened, if_neg (by decide), control_eq opened, control_eq ((pathOpen_wr_eid inv.1 _).trans opened)]
    rfl
  · exact congrArg (fun u : State => Host.Outcome.next u.settled) (control_eq opened ..)
  · exact congrArg (fun u : State => Host.Outcome.next u.settled) (control_eq opened ..)
  · exact congrArg (fun u : State => Host.Outcome.next u.settled) (control_eq opened ..)
  · exact congrArg (fun u : State => Host.Outcome.next u.settled) (if_pos opened)
  · intro level
    refine ⟨rfl, ⟨_, ScalarInstructions.toLe_length .., rfl⟩, ⟨_, rfl⟩, fun n => rfl, ⟨_, rfl⟩, fun e off len full reach open_ => ?_,
      fun e off data full reach open_ => ?_, fun e off len full reach sealed_ => ?_, fun e off data full reach sealed_ => ?_,
      fun e off len barred => ?_, fun e off data barred => ?_⟩
    · rw [exec_jtag, jtag_memRead_of_reach full reach, State.jtagBytes, open_]
      rfl
    · rw [exec_jtag, jtag_memWrite_of_reach full reach, State.jtagWrite, open_]
      rfl
    · exact ⟨_, jtagBytes_sealed sealed_, by rw [exec_jtag, jtag_memRead_of_reach full reach]⟩
    · refine ⟨(List.range data.length).map (fun i => BitVec.ofNat 8 (Config.cipherByte s.freeN (off + i))), by simp, ?_⟩
      rw [exec_jtag, jtag_memWrite_of_reach full reach, State.jtagWrite, if_pos sealed_]
    · exact congrArg (fun u : State => Host.Outcome.next u.settled) (if_neg fun h => barred.elim (· h.1) (by simp [h.2]))
    · exact congrArg (fun u : State => Host.Outcome.next u.settled) (if_neg fun h => barred.elim (· h.1) (by simp [h.2]))

end Sys2Proof.Proofs.OdMessages

namespace Sys2Proof.Proofs.ExtentChanges

/-! ## Changes of extents and the work of the tiers (R102–R106, R117–R120, R124, R125) -/

open Sys2Proof.Machine Sys2Proof.Claims

/-! ### The switch and the deadline -/

section Change
variable {s : State} {e : Nat} {c : Change}

theorem switchChange_of_change (under : s.changeOf e = some c) (inTime : s.deadlineGone c.started = false)
    (handoff : c.op = 5 → s.own.any (fun o => o.ext == e && o.state == 2) = false) : s.switchChange e =
    (let code := s.switchCode e c.op c.arg
    let u := if code = abOk then s.applyChange e c.op c.arg else s
    let v := { u with pool := { u.pool with changes := u.pool.changes.filter (fun x => x.ext != e) } }
    ((v.wr od2820_STATE e 1).opEnd e c.op code evOpDone).unshareClosing e) := by
  unfold State.switchChange
  rw [under]
  refine if_neg ?_
  rintro (gone | ⟨op, waits⟩)
  · exact absurd gone (by rw [inTime]; decide)
  · exact absurd waits (by rw [handoff op]; decide)

theorem abandon_of_change (under : s.changeOf e = some c) : s.abandon e =
    (let v := { s with pool := { s.pool with changes := s.pool.changes.filter (fun x => x.ext != e) } }
    (v.wr od2820_STATE e (if c.op = 1 then 0 else 1)).opEnd e c.op abInUse evAbandoned) := by
  unfold State.abandon
  rw [under]

theorem deadline_of_change (under : s.changeOf e = some c)
    (late : s.past c.started (s.rd od2840_COMPOSITION_DEADLINE 0 * 1000) = true) :
    s.deadline e = (s.abandon e).unshareClosing e := by
  unfold State.deadline
  rw [under]
  exact if_pos late

end Change

/-- Settles O21: it holds. -/
theorem changesSwitchOrAreAbandoned : Obligations.ChangesSwitchOrAreAbandoned := by
  unfold Obligations.ChangesSwitchOrAreAbandoned
  refine ⟨fun e s c inv under inTime handoff => ?_, fun e s c inv under late => ?_⟩
  · exact congrArg (fun u : State => Host.Outcome.next u.release.settled) (switchChange_of_change under inTime handoff)
  · exact congrArg (fun u : State => Host.Outcome.next u.settled)
      ((deadline_of_change under late).trans (congrArg (State.unshareClosing · e.val) (abandon_of_change under)))

/-! ### The tiers -/

section Tiers
variable {s : State} {e g f : Nat}

theorem blockDone_of_expanded {b : Nat} {bs : List Byte} (compressed : s.rd od2820_CSTATE e = 2)
    (held : s.pool.held.any (fun h => h.why == .expand && h.ext == e && h.place == b) = true) (expands : s.expandBlock e b = some bs) :
    s.blockDone e b = ((s.bufferBlock e b).tally (s.extHerd e) (0x700 + 8 * s.extQuad e + 4) 1).release := by
  unfold State.blockDone
  rw [if_neg (by simp [compressed, held]), expands]

theorem moveGranule_cached (tier : (s.gran e g).tier = 2 ∨ (s.gran e g).tier = 3) (cached : (s.gran e g).cached = true)
    (free : s.frame f = frameNone) (inCache : f < s.cacheSets * 16) (still : (s.gran e g).moving = false)
    (set_ : f / 16 = s.setOf (s.gran e g)) (way : f % 16 ∈ s.waysOf (s.extHerd e)) : s.moveGranule e g f =
      ((s.setFrame f (s.frame (s.gran e g).frame)).setFrame (s.gran e g).frame frameNone).setGran e g { s.gran e g with frame := f } := by
  unfold State.moveGranule
  have there : ¬ (s.gran e g).tier = 0 ∧ ((s.gran e g).cached && (s.gran e g).tier != 1) = true := by
    rcases tier with t | t <;> simp [t, cached]
  dsimp only
  rw [if_neg there.1, if_pos there.2, if_pos ⟨free, inCache, by rw [still]; rfl, set_, way⟩]

theorem moveGranule_record (tier : (s.gran e g).tier = 1 ∨ (s.gran e g).tier = 3 ∧ (s.gran e g).cached = false)
    (free : ∀ kv ∈ s.pool.gran, ¬ (kv.2.tier = (s.gran e g).tier ∧ kv.2.loc = f)) (here : s.trayLost e g = false) :
    s.moveGranule e g f = s.setGran e g { s.gran e g with loc := f % 2 ^ 32 } := by
  have there : ¬ (s.gran e g).tier = 0 ∧ ¬ ((s.gran e g).cached && (s.gran e g).tier != 1) = true ∧ ¬ (s.gran e g).tier = 2 := by
    rcases tier with t | ⟨t, c⟩
    · simp [t]
    · simp [t, c]
  obtain ⟨some_, plain, notCxl⟩ := there
  have vacant : (s.pool.gran.any (fun kv => kv.2.tier == (s.gran e g).tier && kv.2.loc == f)) = false := by
    rw [List.any_eq_false]
    intro kv mem both
    exact free kv mem (by simpa using both)
  unfold State.moveGranule
  dsimp only
  rw [if_neg some_, if_neg plain, if_neg]
  simp [vacant, here, notCxl]

end Tiers

/-- Settles O23: it holds. -/
theorem theTiersWork : Obligations.TheTiersWork := by
  unfold Obligations.TheTiersWork
  intro e g s inv
  refine ⟨fun reads here => ?_, fun evictable => ?_, fun c rate tier => ?_, fun c room clean => ?_,
    fun b bs mode flush compressed held expands => ?_, fun f => ⟨?_, ?_⟩⟩
  · exact congrArg (fun u : State => Host.Outcome.next u.settled) (if_neg (by simp [reads, here]))
  · exact congrArg (fun u : State => Host.Outcome.next u.settled) (if_pos evictable)
  · exact congrArg (fun u : State => Host.Outcome.next u.settled) (if_pos ⟨rate, tier⟩)
  · refine congrArg (fun u : State => Host.Outcome.next u.settled) (if_neg ?_)
    rintro (⟨tier, full⟩ | dirty)
    · exact room.elim (· tier) (fun r => by simp [r] at full)
    · simp [clean] at dirty
  · exact congrArg (fun u : State => Host.Outcome.next u.settled)
      ((if_pos ⟨mode, by rw [flush]; rfl⟩).trans (blockDone_of_expanded compressed held expands))
  · exact fun tier cached free inCache still set_ way => congrArg (fun u : State => Host.Outcome.next u.release.settled)
      (moveGranule_cached tier cached free inCache still set_ way)
  · exact fun tier free here => congrArg (fun u : State => Host.Outcome.next u.release.settled) (moveGranule_record tier free here)

end Sys2Proof.Proofs.ExtentChanges

namespace Sys2Proof.Proofs.CoherenceMessages

/-! ## Messages of the directory protocol, rut and readers (R133, R140–R152) -/

open Sys2Proof.Machine Sys2Proof.Claims

/-! ### GETS and GETM -/

section Get
variable {s : State} {a e n : Nat} {excl : Bool} (line : s.hLine e n = true) (works : s.agentWorks a = true)
  (short : ∀ x, s.held a (lineNo e n) = some x → excl = true ∧ x.state = .s)
include line works short

theorem agentGet_eq : s.agentGet a e n excl =
    (let l := lineNo e n
    let u := s.rutCount l
    if u.inRut l then (({ u with tr := { u.tr with nextId := u.tr.nextId + 1 } }).traceCoh (if excl then 1 else 0) a 257 l).rutArrive l
      ⟨65536 + a, some a, excl, u.bareReq a l⟩
    else if (u.dirOf l).state == DirStateCode.p then
      (u.traceCoh (if excl then 1 else 0) a 257 l).sendData a 257 l (poisonBytes 128) none
    else u.askLine a l excl) := by
  have enough : (match s.held a (lineNo e n) with | some x => !excl || x.state == .m | none => false) = false := by
    split
    next x h =>
      obtain ⟨m, st⟩ := short x h
      rw [m, st]
      rfl
    next => rfl
  unfold State.agentGet
  dsimp only
  rw [if_neg]
  · rw [line, works, Bool.not_true, Bool.false_or, Bool.false_or]
    exact fun h => absurd (enough.symm.trans h) (by decide)

theorem agentGet_inRut (rut : (s.rutCount (lineNo e n)).inRut (lineNo e n) = true) : s.agentGet a e n excl =
    (let l := lineNo e n
    let u := s.rutCount l
    (({ u with tr := { u.tr with nextId := u.tr.nextId + 1 } }).traceCoh (if excl then 1 else 0) a 257 l).rutArrive l
      ⟨65536 + a, some a, excl, u.bareReq a l⟩) := by
  rw [agentGet_eq line works short]
  exact if_pos rut

theorem agentGet_poisoned (rut : (s.rutCount (lineNo e n)).inRut (lineNo e n) = false)
    (poison : ((s.rutCount (lineNo e n)).dirOf (lineNo e n)).state = .p) : s.agentGet a e n excl =
    (let l := lineNo e n
    ((s.rutCount l).traceCoh (if excl then 1 else 0) a 257 l).sendData a 257 l (poisonBytes 128) none) := by
  rw [agentGet_eq line works short]
  dsimp only
  rw [rut, poison, if_neg (by decide), if_pos (by decide)]

theorem agentGet_asks (rut : (s.rutCount (lineNo e n)).inRut (lineNo e n) = false)
    (sound : ((s.rutCount (lineNo e n)).dirOf (lineNo e n)).state ≠ .p) :
    s.agentGet a e n excl = (s.rutCount (lineNo e n)).askLine a (lineNo e n) excl := by
  rw [agentGet_eq line works short]
  dsimp only
  rw [rut, if_neg (by decide), if_neg (by simpa using sound)]

end Get

theorem askLine_asks {s : State} {a l : Nat} {excl : Bool} (fresh : s.askedLine a l = false)
    (room : s.cacheRoom a = true ∨ (s.held a l).isSome = true) : s.askLine a l excl =
    (let v := s.traceCoh (if excl then 1 else 0) a 257 l
    if v.lineBusy l || !v.mayStart l then
      { v with coh := { v.coh with waits := v.coh.waits ++ [LineWait.mk l (some a) excl none false] } }
    else v.startGet a l excl) := by
  unfold State.askLine
  refine if_neg ?_
  rw [fresh]
  rcases room with r | h
  · simp [r]
  · simp [Option.isNone_eq_false_iff.mpr h]

/-! ### PUTS and PUTM -/

section Put
variable {s : State} {a e n : Nat} {x : AgentLine} (line : s.hLine e n = true) (held : s.held a (lineNo e n) = some x)
include line held

theorem agentPuts_shared (state : x.state = .s) : s.agentPuts a e n =
    (let l := lineNo e n
    let v := ((s.traceCoh 2 a 257 l).setHeld a l none).dirTouch l
    if (v.dirOf l).state = .s then v.setDir l ((v.dirOf l).drop a) else v) := by
  unfold State.agentPuts
  dsimp only
  rw [line, if_neg (by decide), held]
  dsimp only
  rw [if_pos state]
  simp only [beq_iff_eq]

theorem agentPutm_stale (state : x.state = .m) (lost : s.owns a (lineNo e n) = false) :
    s.agentPutm a e n = (s.traceCoh 3 a 257 (lineNo e n)).setHeld a (lineNo e n) none := by
  unfold State.agentPutm
  dsimp only
  rw [line, if_neg (by decide), held]
  dsimp only
  rw [if_pos ⟨state, by rw [lost]; rfl⟩]

theorem agentPutm_owner (state : x.state = .m) (owns : s.owns a (lineNo e n) = true) : s.agentPutm a e n =
    (let l := lineNo e n
    let o := s.ownedData a x
    let v := (((o.2.traceCoh 3 a 257 l).setHeld a l none).dirTouch l).writeBack l o.1
    match v.coh.msgs.find? (fun m => m.agent == a && m.line == l && (m.kind == .fwds || m.kind == .fwdm || m.kind == .fwdr)) with
    | some m => ((taken v m).setDir l dirNew).sendData m.other 257 l o.1 (some (if m.kind == .fwdm then .m else .s))
    | none => if v.lineBusy l then v else v.setDir l dirNew) := by
  unfold State.agentPutm
  dsimp only
  rw [line, if_neg (by decide), held]
  dsimp only
  exact (if_neg (by simp [owns])).trans (if_pos state)

end Put

/-- Settles O24: it holds. -/
theorem agentsExchangeLines : Obligations.AgentsExchangeLines := by
  unfold Obligations.AgentsExchangeLines
  constructor
  · intro i a e n excl row s inv l code line works short u
    have run : exec i s = .next (s.agentGet a.val e.val n excl).release.settled := by
      unfold getOf at row
      split at row
      case h_3 => cases row
      all_goals cases row; rfl
    rw [run]
    refine ⟨fun rut => ?_, fun rut poison => ?_, fun rut sound fresh room => ?_⟩
    · rw [agentGet_inRut line works short rut]
    · rw [agentGet_poisoned line works short rut poison]
    · rw [agentGet_asks line works short rut sound, askLine_asks fresh room]
  · intro a e n s x inv l line held
    refine ⟨?_, fun state lost => ?_, ?_⟩
    · intro state v
      exact congrArg (fun u : State => Host.Outcome.next u.release.settled) (agentPuts_shared line held state)
    · exact congrArg (fun u : State => Host.Outcome.next u.release.settled) (agentPutm_stale line held state lost)
    · intro state owns o v probe
      have run : exec (.putm a e n) s = .next (s.agentPutm a.val e.val n).release.settled := rfl
      rw [run, agentPutm_owner line held state owns]
      refine ⟨fun none_ free => ?_, fun m some_ => ?_⟩
      · dsimp only
        rw [show v.coh.msgs.find? _ = none from none_]
        dsimp only
        rw [if_neg (by rw [free]; decide)]
      · dsimp only
        rw [show v.coh.msgs.find? _ = some m from some_]
        have kind : (m.kind == CohKind.fwdm) = true ↔ m.kind = .fwdm := beq_iff_eq
        dsimp only
        rw [if_congr kind rfl rfl]

/-! ### Probes and their answers -/

section Probe
variable {s : State} {a e n : Nat} {m : CohMsg} (line : s.hLine e n = true)

theorem takeMsg_of_inFlight {k : CohKind} {l : Nat} (sent : inFlight s k a l = some m) : s.takeMsg k a l = some (m, taken s m) := by
  unfold State.takeMsg
  rw [show s.coh.msgs.find? _ = some m from sent]
  rfl

include line

theorem answerForward_eq {k : CohKind} {x : AgentLine} (works : s.agentWorks a = true) (held : s.held a (lineNo e n) = some x)
    (sent : inFlight s k a (lineNo e n) = some m) : s.answerForward k a e n =
    (let l := lineNo e n
    let o := (taken s m).ownedData a x
    if k = .fwdm then (o.2.setHeld a l none).sendData m.other a l o.1 (some .m)
    else ((o.2.setHeld a l (some ⟨.s, o.1⟩)).writeBack l o.1).sendData m.other a l o.1 (some .s)) := by
  unfold State.answerForward
  dsimp only
  rw [line, works, if_neg (by decide), held, takeMsg_of_inFlight sent]
  by_cases moves : k = .fwdm
  · have keep : (k != .fwdm) = false := by simp [moves]
    simp only [keep, if_pos moves, Bool.false_eq_true, if_false]
  · have keep : (k != .fwdm) = true := by simp [moves]
    simp only [keep, if_neg moves, if_true]

theorem answerInv_eq (works : s.agentWorks a = true) (sent : inFlight s .inv a (lineNo e n) = some m) : s.answerInv a e n =
    ((taken s m).setHeld a (lineNo e n) none).post' ⟨.invack, m.other, a, lineNo e n, [], 0, none, s.clk⟩ := by
  unfold State.answerInv
  dsimp only
  rw [line, works, if_neg (by decide), takeMsg_of_inFlight sent]

section Txn
variable {t : LineTxn} (txn : s.txnOf (lineNo e n) = some t)
include txn

theorem takeInvack_eq (sent : inFlight s .invack a (lineNo e n) = some m) :
    s.takeInvack a e n = ((taken s m).setTxn { t with got := t.got + 1 }).txnStep (lineNo e n) := by
  unfold State.takeInvack
  dsimp only
  rw [line, if_neg (by decide), takeMsg_of_inFlight sent]
  dsimp only
  rw [State.countAck, show (taken s m).txnOf (lineNo e n) = some t from txn]

theorem takeData_eq (sent : inFlight s .data a (lineNo e n) = some m) (grant : m.grant.isSome = true) : s.takeData a e n =
    ((taken s m).setTxn { t with data := some m.data, due := some (t.due.getD m.acks), probe := false }).txnStep (lineNo e n) := by
  unfold State.takeData
  dsimp only
  rw [line, if_neg (by decide), takeMsg_of_inFlight sent]
  dsimp only
  rw [if_neg (by simp [Option.isNone_eq_false_iff.mpr grant]), show (taken s m).txnOf (lineNo e n) = some t from txn]

theorem takeCompack_eq (sent : inFlight s .compack a (lineNo e n) = some m) : s.takeCompack a e n =
    (let l := lineNo e n
    let d := if t.excl then (if (s.held a l).isSome then dirOwned a else dirNew)
      else if (s.dirOf l).state = .m then (dirShared [(s.dirOf l).owner]).add a
      else if (s.dirOf l).state = .s then (s.dirOf l).add a else dirShared [a]
    (((taken s m).setDir l d).dropTxn l).freeLine l) := by
  unfold State.takeCompack
  dsimp only
  rw [line, if_neg (by decide), takeMsg_of_inFlight sent, txn]
  have before : (taken s m).dirOf (lineNo e n) = s.dirOf (lineNo e n) := rfl
  dsimp only
  rw [before]
  cases (s.dirOf (lineNo e n)).state <;> rfl

end Txn

theorem probeTimeout_eq (sent : s.coh.msgs.find? (fun m => m.agent == a && m.line == lineNo e n &&
      (m.kind == .inv || m.kind == .fwds || m.kind == .fwdm || m.kind == .fwdr)) = some m)
    (late : s.past m.sent (s.rd od3000_PROBE_TIMEOUT 0 * 1000) = true) : s.probeTimeout a e n =
    (let l := lineNo e n
    let v := (taken s m).emit (s.extQuad e) evProbeTimeout (s.extHerd e) 4 (s.extQuad e) 0 [s.extBase e + lineOff l, a]
    if m.kind = .inv then v.countAck l else (v.setDir l dirPoison).poisonTxn l) := by
  unfold State.probeTimeout
  dsimp only
  rw [line, if_neg (by decide), sent]
  dsimp only
  rw [late, if_neg (by decide)]
  rfl

end Probe

/-- Settles O25: it holds. -/
theorem probesAndTransactionsEnd : Obligations.ProbesAndTransactionsEnd := by
  unfold Obligations.ProbesAndTransactionsEnd
  refine ⟨fun s => ⟨?_, ?_⟩, ?_, ?_⟩
  · intro i k a e n row l x m line works held sent
    have run : exec i s = .next (s.answerForward k a.val e.val n).settled := by
      unfold forwardOf at row
      split at row
      case h_4 => cases row
      all_goals cases row; rfl
    dsimp only
    rw [run, answerForward_eq line works held sent]
  · intro a e n m l line works sent
    exact congrArg (fun u : State => Host.Outcome.next u.settled) (answerInv_eq line works sent)
  · intro a e n s m t inv l line txn v
    refine ⟨fun sent => ?_, fun sent grant => ?_, fun sent => ?_⟩
    · exact congrArg (fun u : State => Host.Outcome.next u.release.settled) (takeInvack_eq line txn sent)
    · exact congrArg (fun u : State => Host.Outcome.next u.release.settled) (takeData_eq line txn sent grant)
    · exact congrArg (fun u : State => Host.Outcome.next u.release.settled) (takeCompack_eq line txn sent)
  · intro a e n s m inv l line sent late
    exact congrArg (fun u : State => Host.Outcome.next u.release.settled) (probeTimeout_eq line sent late)

/-! ### Rut and readers -/

section Rut
variable {s : State} {l : Nat} {x : RutLine} (there : s.coh.rut.find? (fun x => x.line == l) = some x)
include there

theorem rutLoad_ready (unloaded : x.loaded = false) (ready : s.rutReady l = true) :
    s.rutLoad l = (s.setRut { x with loaded := true }).admitFirst l x.waiting := by
  unfold State.rutLoad
  rw [there]
  dsimp only
  rw [unloaded, if_neg (by decide), if_pos ready]

theorem rutCycle_admitted (loaded : x.loaded = true) (free : s.lineBusy l = false) (starts : s.mayStart l = true) (some_ : x.admitted ≠ []) :
    s.rutCycle l =
      (let g := rutGroup x.admitted
      let v := (s.setRut { x with admitted := x.admitted.drop g.length }).homeCount (lineExt l) 9 1
      ((g.foldl (fun (u : State) q => u.rutExec l q) v).rutAdmit l (x.waiting.length + 1)).rutLeave l) := by
  unfold State.rutCycle
  rw [there]
  dsimp only
  rw [loaded, free, starts, if_neg (by decide), if_neg (by simpa using some_)]

end Rut

/-- What the end of a window of a home slice with no line in rut leaves. -/
theorem rutWindow_idle {s : State} {q : Nat} (due : s.past (quadGet s.coh.window q) (quadGet s.coh.rutSet q).2.1 = true)
    (idle : s.coh.rut = []) : ∃ c, s.rutWindow q = { s with coh := c } ∧
      c.counts = s.coh.counts.filter (fun kv => !(s.extQuad (lineExt kv.1) == q)) ∧ c.window = quadSet s.coh.window q s.clk ∧
      c.rutSet = quadSet s.coh.rutSet q (s.rd od3000_RUT_COUNT 0, s.rd od3000_RUT_WINDOW 0, s.rd od3000_RUT_EXIT 0) := by
  unfold State.rutWindow
  dsimp only
  rw [due, if_neg (by decide), idle]
  exact ⟨_, rfl, rfl, rfl, rfl⟩

theorem invalTimeout_eq {s : State} {e r : Nat} {p : PubRound}
    (out : s.coh.rounds.find? (fun p => p.ext == e && p.left.any (fun x => x.1 == r)) = some p)
    (late : s.past p.sentAt (s.rd od3000_INVAL_TIMEOUT 0 * 1000) = true) : s.invalTimeout e r = (s.dropReader e r).readerDone e r := by
  unfold State.invalTimeout
  rw [out]
  exact if_pos late

/-- Settles O26: it holds. -/
theorem rutAndReadersComplete : Obligations.RutAndReadersComplete := by
  unfold Obligations.RutAndReadersComplete
  intro s inv runs
  have awake : ∀ u : State, (if s.halted then s else u) = u := fun u => by rw [runs]; rfl
  refine ⟨fun e n x there => ⟨fun unloaded ready => ?_, fun loaded free starts some_ => ?_⟩, fun q due => ⟨?_, fun idle => ?_⟩,
    fun e r p out late => ?_⟩
  · exact congrArg (fun u : State => Host.Outcome.next u.release.settled) ((awake _).trans (rutLoad_ready there unloaded ready))
  · exact congrArg (fun u : State => Host.Outcome.next u.release.settled) ((awake _).trans (rutCycle_admitted there loaded free starts some_))
  · exact congrArg (fun u : State => Host.Outcome.next u.release.settled) (awake _)
  · obtain ⟨c, eq, counts, window, settings⟩ := rutWindow_idle due idle
    dsimp only
    rw [eq]
    refine ⟨?_, ?_, fun x mem => ?_⟩
    · rw [settings, TimeCommands.quadGet_quadSet_same]
    · rw [window, TimeCommands.quadGet_quadSet_same]
    · rw [counts] at mem
      simpa using (List.mem_filter.mp mem).2
  · exact congrArg (fun u : State => Host.Outcome.next u.release.settled) ((awake _).trans (invalTimeout_eq out late))

end Sys2Proof.Proofs.CoherenceMessages

namespace Sys2Proof.Proofs.CommandLife

/-! ## Launch and completion of commands (R170–R174, R436) -/

open Sys2Proof.Machine Sys2Proof.Claims

/-- The turn that a ring has had (R170). -/
def turnTaken (r : Nat) (c : Cmd) (u : State) : State :=
  { u with cpu := { u.cpu with lastTurn := sparseSet 0 u.cpu.lastTurn (u.rd od3410_PRIORITY r) (r + 1) },
           dbg := { u.dbg with profWait := u.dbg.profWait.filter (· != (c.ring, c.slot)) } }

section Launch
variable {s : State} {r : Nat} {rs : List Nat}

theorem serveRings_go {ts : List Nat} (way : s.launchWay (s.firstCmd r) = .go ts) :
    s.serveRings (r :: rs) = turnTaken r (s.firstCmd r) (s.launch (s.firstCmd r) ts) := by
  unfold State.serveRings
  dsimp only
  rw [way]
  rfl

theorem serveRings_fail {code : Nat} {b : Bool} (way : s.launchWay (s.firstCmd r) = .fail code b) :
    s.serveRings (r :: rs) = turnTaken r (s.firstCmd r) (s.launchFailed (s.firstCmd r) code b) := by
  unfold State.serveRings
  dsimp only
  rw [way]
  rfl

theorem serveRings_wait (way : s.launchWay (s.firstCmd r) = .wait) :
    s.serveRings (r :: rs) = (s.countWait (s.firstCmd r)).serveRings rs := by
  rw [State.serveRings]
  dsimp only
  rw [way]

theorem exec_commandLaunch (runs : s.halted = false) (served : s.servedRings = r :: rs) :
    exec .commandLaunch s = .next (s.serveRings (r :: rs)).settled := by
  rw [← served]
  exact congrArg (fun u : State => Host.Outcome.next u.settled) (if_neg (by rw [runs]; decide))

end Launch

section Completion
variable {s : State} {cid code : Nat} {c : Cmd}

/-- The state in which a command that is over may have its record written. -/
def overState (s : State) (c : Cmd) (code : Nat) : State :=
  (s.setCmd { s.cmdEnds c with code := some code, finished := true }).endProfile c code

theorem completion_settled {c1 : Cmd} (there : s.cmd cid = some c) (open_ : c.work.phase ≠ recordedPhase) (ended : s.overWith c = some code)
    (here : (overState s c code).cmd cid = some c1) (settled : (overState s c code).ioSettled cid = true) :
    s.completion cid = (overState s c code).endCmd c1 (firstCode code ((overState s c code).storeCode cid)) := by
  unfold State.completion
  rw [there]
  dsimp only
  rw [if_neg open_, ended]
  dsimp only [overState] at here settled ⊢
  rw [if_pos settled, here]

theorem completion_unsettled (there : s.cmd cid = some c) (open_ : c.work.phase ≠ recordedPhase) (ended : s.overWith c = some code)
    (waits : (overState s c code).ioSettled cid = false) : s.completion cid = overState s c code := by
  unfold State.completion
  rw [there]
  dsimp only
  rw [if_neg open_, ended]
  exact if_neg (fun settled => absurd (waits.symm.trans settled) (by decide))

theorem exec_commandCompletion (runs : s.halted = false) : exec (.commandCompletion cid) s = .next (s.completion cid).settled :=
  congrArg (fun u : State => Host.Outcome.next u.settled) (if_neg (by rw [runs]; decide))

end Completion

/-- Settles O27: it holds. -/
theorem commandsLaunchAndComplete : Obligations.CommandsLaunchAndComplete := by
  unfold Obligations.CommandsLaunchAndComplete
  constructor
  · intro s r rs inv runs served c turn
    rw [exec_commandLaunch runs served]
    refine ⟨fun ts way => ?_, fun code b way => ?_, fun way => ?_⟩
    · exact congrArg (fun u : State => Host.Outcome.next u.settled) (serveRings_go way)
    · exact congrArg (fun u : State => Host.Outcome.next u.settled) (serveRings_fail way)
    · exact congrArg (fun u : State => Host.Outcome.next u.settled) (serveRings_wait way)
  · intro cid s c c1 code inv runs there open_ ended v here
    rw [exec_commandCompletion runs]
    refine ⟨fun settled => ?_, fun waits => ?_⟩
    · rw [completion_settled there open_ ended here settled]
      rfl
    · rw [completion_unsettled there open_ ended waits]
      rfl

end Sys2Proof.Proofs.CommandLife

namespace Sys2Proof.Proofs.UnitCommands

/-! ## Commands of the match engine and of the attention engine (R248–R263, R274–R281) -/

open Sys2Proof.Machine Sys2Proof.Claims

/-- A unit takes up a command in flight of its KIND. -/
theorem runCmd_of_inFlight {s : State} {cid kind : Nat} {c : Cmd} (here : InFlight s cid kind c) (f : State → Cmd → State) :
    s.runCmd cid kind f = f s c := by
  unfold State.runCmd
  rw [here.cmd]
  exact if_neg (by simp [here.open_, here.kind, here.runs, here.works])

/-! ### Match commands -/

section Match
variable {s : State} {cid kind : Nat} {c : Cmd} (here : InFlight s cid kind c) (f : State → Cmd → Nat → State)
include here

theorem runMatch_eq : s.runMatch cid kind f = if s.mode ≠ 0 then s.finishWith cid eDegraded [0, 0, 0]
    else match s.cmdSet c with
      | none => s.finishWith cid eAccess [0, 0, 0]
      | some r => f s c r := by
  unfold State.runMatch
  exact runCmd_of_inFlight here _

theorem runMatch_degraded (mode : s.mode ≠ 0) : s.runMatch cid kind f = s.finishWith cid eDegraded [0, 0, 0] :=
  (runMatch_eq here f).trans (if_pos mode)

theorem runMatch_noSet (mode : s.mode = 0) (none_ : s.cmdSet c = none) : s.runMatch cid kind f = s.finishWith cid eAccess [0, 0, 0] := by
  refine (runMatch_eq here f).trans ((if_neg (not_not_intro mode)).trans ?_)
  rw [none_]

theorem runMatch_set {r : Nat} (mode : s.mode = 0) (set_ : s.cmdSet c = some r) : s.runMatch cid kind f = f s c r := by
  refine (runMatch_eq here f).trans ((if_neg (not_not_intro mode)).trans ?_)
  rw [set_]

end Match

/-- What a match command does with its rule set. -/
def matchMeaning (cid kind : Nat) (s : State) (c : Cmd) (r : Nat) : State :=
  if kind = 0x32 then
    let n := c.word 3 / 2 ^ 32
    match s.unitLoad cid (s.tableEp c) c.herd (c.word 1) (64 * n) with
    | (.wait, s1) => s1
    | (.got code data, s1) =>
      let recs := (List.range n).map (fun i => leNat ((data.drop (64 * i)).take 64))
      if code ≠ 0 then s1.finishWith cid code [0, 0, 0]
      else if recs.any (fun v => !recordReservedOk v || decide (s.rd od4010_COUNT r ≤ recWord v 7 % 2 ^ 32)) then
        s1.finishWith cid eFormat [0, 0, 0]
      else
        let s2 := recs.foldl (fun s v => s.putEntry r (recWord v 7 % 2 ^ 32) v) s1
        (s2.tally c.herd (0x720 + 4 * s.rd od4010_BANK r + 1) n).finishWith cid eOk [n, 0, 0]
  else s.searchFrom cid r (kind == 0x31) (c.word 3 / 2 ^ 32 + 1)

theorem exec_matchWork {i : Instr} {cid kind : Nat} (row : matchWork i = some (cid, kind)) (s : State) :
    exec i s = .next (s.runMatch cid kind (matchMeaning cid kind)).settled := by
  unfold matchWork at row
  split at row
  case h_4 => cases row
  all_goals cases row; rfl

theorem matchMeaning_update {cid r : Nat} {s v : State} {c : Cmd} {data : List Byte}
    (loads : s.unitLoad cid (s.tableEp c) c.herd (c.word 1) (64 * (c.word 3 / 2 ^ 32)) = (.got eOk data, v)) :
    let recs := (List.range (c.word 3 / 2 ^ 32)).map (fun k => leNat ((data.drop (64 * k)).take 64))
    (∀ x ∈ recs, recordReservedOk x = true ∧ recWord x 7 % 2 ^ 32 < s.rd od4010_COUNT r) →
    matchMeaning cid 0x32 s c r = ((recs.foldl (fun u x => u.putEntry r (recWord x 7 % 2 ^ 32) x) v).tally c.herd
      (0x720 + 4 * s.rd od4010_BANK r + 1) (c.word 3 / 2 ^ 32)).finishWith cid eOk [c.word 3 / 2 ^ 32, 0, 0] := by
  intro recs fine_
  have none_ : recs.any (fun v => !recordReservedOk v || decide (s.rd od4010_COUNT r ≤ recWord v 7 % 2 ^ 32)) = false := by
    rw [List.any_eq_false]
    intro x mem
    obtain ⟨reserved, index⟩ := fine_ x mem
    rw [reserved, decide_eq_false (Nat.not_le.mpr index)]
    decide
  unfold matchMeaning
  rw [if_pos rfl]
  dsimp only
  rw [loads]
  dsimp only
  exact (if_neg (not_not_intro rfl)).trans (if_neg (fun h => absurd (none_.symm.trans h) (by decide)))

/-! ### Page tasks and edits -/

theorem exec_pageTaskDone {s : State} {cid n : Nat} {c : Cmd} {k : PageTask} (here : InFlight s cid 0x20 c) (task : c.work.tasks[n]? = some k)
    (phase : c.work.phase = 4) (placed : k.tine.isSome = true) (open_ : k.code = none) :
    exec (.pageTaskDone cid n) s = .next (s.runTask c n k).settled := by
  change Host.Outcome.next (State.settled (s.runCmd cid 0x20 _)) = _
  rw [runCmd_of_inFlight here, task]
  dsimp only
  rw [if_pos ⟨phase, placed, by rw [open_]; rfl⟩]

theorem runTask_outside {s : State} {c : Cmd} {n : Nat} {k : PageTask} (outside : k.kaddr = none ∨ k.vaddr = none) :
    s.runTask c n k = s.endTask c.cid n eAccess [] := by
  unfold State.runTask
  rcases outside with h | h
  · rw [h]
  · rw [h]
    cases k.kaddr <;> rfl

section Edit
variable {s : State} {cid : Nat} {c : Cmd} (here : s.cmd cid = some c) (runs : s.halted = false) (edits : editing c = true)
include here runs edits

theorem exec_epochReread (due : s.past (c.num 2) 1000 = true) : exec (.epochReread cid) s = .next (s.reread c).settled := by
  change execEpochReread cid s = _
  unfold execEpochReread
  rw [here]
  dsimp only
  rw [edits, due, runs, if_pos (by decide)]
  rfl

theorem exec_editTimeoutExpiry (due : s.past c.work.since (s.rd od3C00_EDIT_TIMEOUT 0 * 1000) = true) :
    exec (.editTimeoutExpiry cid) s = .next (s.reread c).settled := by
  change execEditTimeoutExpiry cid s = _
  unfold execEditTimeoutExpiry
  rw [here]
  dsimp only
  rw [edits, due, runs, if_pos (by decide)]
  rfl

end Edit

/-- Settles O29: it holds. -/
theorem matchAndAttentionCommandsComplete : Obligations.MatchAndAttentionCommandsComplete := by
  unfold Obligations.MatchAndAttentionCommandsComplete
  constructor
  · intro i cid kind row s c inv here
    rw [exec_matchWork row]
    refine ⟨fun mode => ?_, fun mode none_ => ?_, fun r mode set_ search => ?_, fun r data v mode set_ update loads => ?_⟩
    · rw [runMatch_degraded here _ mode]
    · rw [runMatch_noSet here _ mode none_]
    · rw [runMatch_set here _ mode set_, matchMeaning, if_neg search]
    · intro recs fine_
      subst update
      rw [runMatch_set here _ mode set_, matchMeaning_update loads fine_]
  · intro cid s c inv
    refine ⟨fun n k here task phase placed open_ => ⟨exec_pageTaskDone here task phase placed open_, runTask_outside⟩, ?_⟩
    intro here runs edits u v
    exact ⟨exec_epochReread here runs edits, exec_editTimeoutExpiry here runs edits⟩

end Sys2Proof.Proofs.UnitCommands

namespace Sys2Proof.Proofs.Ownership

/-! ## Ownership of page lists (R260–R263, Table 9.6) -/

open Sys2Proof.Machine Sys2Proof.Claims Sys2Proof.Proofs.UnitCommands

/-! ### The records of the lists -/

/-- The code and the record that a result gives, from the record before it. -/
def resultOf (old : Option OwnRec) : OwnResult → Nat × Option OwnRec
  | .refuse => (eNotOwner, old)
  | .overflow => (eFormat, old)
  | .quota => (eQuota, old)
  | .keep => (eOk, old)
  | .put r => (eOk, some r)
  | .drop => (eOk, none)

/-- What a result does to the records. -/
def applyResult (s : State) (e list : Nat) : OwnResult → State
  | .put r => s.putOwn r
  | .drop => s.dropOwn (fun r => r.ext == e && r.list == list)
  | _ => s

/-- A record put by a result is that of its own list. -/
def resultFits (e list : Nat) : OwnResult → Prop
  | .put r => r.ext = e ∧ r.list = list
  | _ => True

theorem ownRec_names {s : State} {e list : Nat} {r : OwnRec} (there : s.ownRec e list = some r) : r.ext = e ∧ r.list = list := by
  have names := List.find?_some there
  simpa using names

section Put
variable {s : State} {r : OwnRec}

theorem putOwn_own : (s.putOwn r).own = if (s.ownRec r.ext r.list).isSome then
    s.own.map (fun x => if x.ext = r.ext ∧ x.list = r.list then r else x) else s.own ++ [r] := by
  unfold State.putOwn
  split <;> rfl

theorem putOwn_eq : s.putOwn r = { s with own := (s.putOwn r).own, od := (s.putOwn r).od } := by
  unfold State.putOwn
  split <;> rfl

theorem names_eq_false {x : OwnRec} {e list : Nat} (other : ¬ (x.ext = e ∧ x.list = list)) : (x.ext == e && x.list == list) = false := by
  rw [Bool.eq_false_iff]
  simpa using other

/-- Replacing the records of one list leaves the search for another as it was, and finds the new one there. -/
theorem find?_replace (l : List OwnRec) (e list : Nat) :
    (l.map (fun x => if x.ext = r.ext ∧ x.list = r.list then r else x)).find? (fun x => x.ext == e && x.list == list) =
      if e = r.ext ∧ list = r.list then (l.find? (fun x => x.ext == e && x.list == list)).map (fun _ => r)
      else l.find? (fun x => x.ext == e && x.list == list) := by
  induction l with
  | nil => simp
  | cons x l ih =>
    rw [List.map_cons, List.find?_cons, List.find?_cons, ih]
    by_cases he : e = r.ext ∧ list = r.list
    · obtain ⟨rfl, rfl⟩ := he
      by_cases hx : x.ext = r.ext ∧ x.list = r.list
      · simp [hx]
      · simp [hx, names_eq_false hx]
    · by_cases hx : x.ext = r.ext ∧ x.list = r.list
      · have other : ¬ (r.ext = e ∧ r.list = list) := fun h => he ⟨h.1.symm, h.2.symm⟩
        have otherX : ¬ (x.ext = e ∧ x.list = list) := by rwa [hx.1, hx.2]
        simp [hx, he, names_eq_false other]
      · simp [hx, he]

theorem ownRec_putOwn_same : (s.putOwn r).ownRec r.ext r.list = some r := by
  rw [State.ownRec, putOwn_own]
  split
  next there =>
    rw [find?_replace, if_pos ⟨rfl, rfl⟩]
    obtain ⟨x, hx⟩ := Option.isSome_iff_exists.mp there
    rw [State.ownRec] at hx
    rw [hx]
    rfl
  next absent =>
    have none_ : s.ownRec r.ext r.list = none := by simpa using absent
    rw [State.ownRec] at none_
    rw [List.find?_append, none_]
    simp

theorem ownRec_putOwn_other {e list : Nat} (ne : (e, list) ≠ (r.ext, r.list)) : (s.putOwn r).ownRec e list = s.ownRec e list := by
  have other : ¬ (e = r.ext ∧ list = r.list) := fun h => ne (Prod.ext h.1 h.2)
  rw [State.ownRec, putOwn_own]
  split
  · rw [find?_replace, if_neg other]
    rfl
  · have no : (r.ext == e && r.list == list) = false := names_eq_false fun h => other ⟨h.1.symm, h.2.symm⟩
    rw [List.find?_append]
    simp [no, State.ownRec]

theorem ownRec_dropOwn_same (e list : Nat) : (s.dropOwn (fun r => r.ext == e && r.list == list)).ownRec e list = none := by
  refine List.find?_eq_none.mpr fun x mem => ?_
  have kept := (List.mem_filter.mp (show x ∈ s.own.filter _ from mem)).2
  rw [Bool.not_eq_true'] at kept
  exact fun names => absurd (kept.symm.trans names) (by decide)

theorem ownRec_dropOwn_other {e list e' list' : Nat} (ne : (e', list') ≠ (e, list)) :
    (s.dropOwn (fun r => r.ext == e && r.list == list)).ownRec e' list' = s.ownRec e' list' := by
  change (s.own.filter _).find? _ = s.own.find? _
  rw [List.find?_filter]
  congr 1
  funext x
  by_cases h : x.ext = e' ∧ x.list = list'
  · have other : ¬ (x.ext = e ∧ x.list = list) := fun k => ne (Prod.ext (h.1.symm.trans k.1) (h.2.symm.trans k.2))
    simp [names_eq_false other]
    rfl
  · simp [names_eq_false h]

end Put

/-! ### What an operation does to them -/

section Apply
variable {v : State} {e list : Nat} {res : OwnResult}

theorem ownRec_applyResult (fits : resultFits e list res) : (applyResult v e list res).ownRec e list = (resultOf (v.ownRec e list) res).2 := by
  cases res with
  | put r =>
    obtain ⟨rfl, rfl⟩ := fits
    exact ownRec_putOwn_same
  | drop => exact ownRec_dropOwn_same e list
  | refuse | overflow | quota | keep => rfl

theorem ownRec_applyResult_other (fits : resultFits e list res) {e' list' : Nat} (ne : (e', list') ≠ (e, list)) :
    (applyResult v e list res).ownRec e' list' = v.ownRec e' list' := by
  cases res with
  | put r =>
    obtain ⟨rfl, rfl⟩ := fits
    exact ownRec_putOwn_other ne
  | drop => exact ownRec_dropOwn_other ne
  | refuse | overflow | quota | keep => rfl

theorem applyResult_eq : applyResult v e list res = { v with own := (applyResult v e list res).own, od := (applyResult v e list res).od } := by
  cases res with
  | put r => exact putOwn_eq
  | drop | refuse | overflow | quota | keep => rfl

end Apply

/-- An operation whose walker reads a header in place does what its rule's result says and answers with the record after it. -/
theorem ownOp_eq {s v : State} {cid op e : Nat} {c : Cmd} {data : List Byte} {res : OwnResult}
    {f : Nat → Nat → Nat → Option OwnRec → Nat → OwnResult} (here : InFlight s cid 0x22 c) (named : bitsOf (c.word 3) 31 24 = op)
    (normal : s.mode ≠ 2) (place : s.listPlace c.herd (c.word 1) = (eOk, e))
    (loaded : s.unitLoad c.cid (s.walker (s.listQuad c)) c.herd (c.word 1) 128 = (.got eOk data, v))
    (header : v.listOk e (c.word 1) (wordsOf 16 data) = true)
    (rule : f (c.word 5 / 2 ^ 48) (bitsOf (c.word 5) 47 32) (c.word 5 % 2 ^ 32) (v.ownRec e (c.word 1)) e = res)
    (fits : resultFits e (c.word 1) res) :
    s.ownOp cid op f = (applyResult v e (c.word 1) res).attnFinish cid (resultOf (v.ownRec e (c.word 1)) res).1
      (ownWords (resultOf (v.ownRec e (c.word 1)) res).2) := by
  unfold State.ownOp State.walkLoad
  rw [runCmd_of_inFlight here, if_neg (not_not_intro named)]
  dsimp only
  rw [place]
  dsimp only
  rw [if_neg (by decide), if_neg normal, loaded]
  dsimp only
  rw [if_neg (by decide), header, if_neg (by decide), rule, ← ownRec_applyResult fits]
  cases res <;> rfl

/-! ### Table 9.6 -/

/-- A result agrees with Table 9.6 where it gives its code and record, of the same list. -/
def Agrees (e list : Nat) (old : Option OwnRec) (said : Nat × Option OwnRec) (res : OwnResult) : Prop :=
  resultOf old res = said ∧ resultFits e list res

section Rule
variable {e list : Nat} {old : Option OwnRec} {r : OwnRec} {p : Prop} [Decidable p]

theorem agrees_refuse : Agrees e list old (eNotOwner, old) .refuse := ⟨rfl, trivial⟩

theorem agrees_raise (names : r.ext = e ∧ r.list = list) : Agrees e list old (epochUp old r) (raiseEpoch r) := by
  unfold epochUp raiseEpoch
  split
  · exact ⟨rfl, trivial⟩
  · exact ⟨rfl, names⟩

theorem agrees_put (names : r.ext = e ∧ r.list = list) : Agrees e list old (eOk, some r) (.put r) := ⟨rfl, names⟩

theorem agrees_ite {a b : Nat × Option OwnRec} {x y : OwnResult} (pos : Agrees e list old a x) (neg : Agrees e list old b y) :
    Agrees e list old (if p then a else b) (if p then x else y) := by
  split
  · exact pos
  · exact neg

end Rule

/-- An ownership command runs its operation, whose result is that of Table 9.6. -/
theorem ownCommand_agrees {i : Instr} {cid op : Nat} (names : ownCommand i = some (cid, op)) {s : State} {c : Cmd} (cmd : s.cmd cid = some c)
    {e : Nat} {old : Option OwnRec} (ofList : ∀ r, old = some r → r.ext = e ∧ r.list = c.word 1) (caller succ expect : Nat) :
    ∃ f, exec i s = (s.ownOp cid op f).done ∧
      Agrees e (c.word 1) old (ownRule op caller succ expect (s.ft (s.extQuad e) % 2 ^ 64)
        (decide (262144 ≤ (s.ownsOf (s.extSlice e)).length)) { ownNew e (c.word 1) with state := 1, owner := caller } old)
        (f caller succ expect old e) := by
  cases i <;> cases names
  case ownClaim =>
    refine ⟨_, rfl, ?_⟩
    rw [cmd]
    cases old with
    | none => exact agrees_ite agrees_refuse (by
        simp only [decide_eq_true_eq]
        exact agrees_ite ⟨rfl, trivial⟩ (agrees_raise ⟨rfl, rfl⟩))
    | some r => exact agrees_ite (agrees_raise (ofList r rfl)) agrees_refuse
  case ownPrepare =>
    refine ⟨_, rfl, ?_⟩
    cases old with
    | none => exact agrees_refuse
    | some r => exact agrees_ite (agrees_put (ofList r rfl)) agrees_refuse
  case ownCommit =>
    refine ⟨_, rfl, ?_⟩
    cases old with
    | none => exact agrees_refuse
    | some r => exact agrees_ite (agrees_raise (ofList r rfl)) (agrees_ite ⟨rfl, trivial⟩ agrees_refuse)
  case ownAbort =>
    refine ⟨_, rfl, ?_⟩
    cases old with
    | none => exact agrees_refuse
    | some r => exact agrees_ite (agrees_put (ofList r rfl)) agrees_refuse
  case ownRelease =>
    refine ⟨_, rfl, ?_⟩
    cases old with
    | none => exact agrees_refuse
    | some r => exact agrees_ite (agrees_raise (ofList r rfl)) agrees_refuse
  case ownForce =>
    refine ⟨_, rfl, ?_⟩
    cases old with
    | none => exact agrees_refuse
    | some r => exact agrees_ite (agrees_raise (ofList r rfl)) agrees_refuse
  case ownQuery => exact ⟨_, rfl, by cases old <;> exact ⟨rfl, trivial⟩⟩
  case ownDrop =>
    refine ⟨_, rfl, ?_⟩
    cases old with
    | none => exact agrees_refuse
    | some r => exact agrees_ite ⟨rfl, trivial⟩ agrees_refuse

/-- The hand-off timeout of a record that has been prepared for too long. -/
theorem handoffExpiry_late {n : Nat} {s : State} {r : OwnRec} (there : s.own[n]? = some r) (state : r.state = 2)
    (late : r.prep + usToFt (s.rd od3C20_HANDOFF_TIMEOUT 0) ≤ s.ft (s.extQuad r.ext)) :
    s.handoffExpiry n = ((s.putOwn { r with state := 1, succ := 0xFFFF }).bump od3C00_REVERTS 0 64 1).emit
      (s.extQuad r.ext) evHandoffReverted (s.extHerd r.ext) 4 (s.extQuad r.ext) 0 [r.list, r.owner, r.succ] := by
  unfold State.handoffExpiry
  rw [there]
  exact if_pos ⟨state, late⟩

/-- Settles O30: it holds. -/
theorem ownershipMovesAsTableNineSixSays : Obligations.OwnershipMovesAsTableNineSixSays := by
  unfold Obligations.OwnershipMovesAsTableNineSixSays
  constructor
  · intro i cid op names s v c e data _ here named normal place loaded header w x
    obtain ⟨f, runs, rule, fits⟩ := ownCommand_agrees names here.cmd (old := v.ownRec e (c.word 1)) (fun r there => ownRec_names there)
      (w / 2 ^ 48) (bitsOf w 47 32) (w % 2 ^ 32)
    refine ⟨applyResult v e (c.word 1) (f (w / 2 ^ 48) (bitsOf w 47 32) (w % 2 ^ 32) (v.ownRec e (c.word 1)) e), ?_, ?_, ?_, applyResult_eq⟩
    · rw [runs, ownOp_eq here named normal place loaded header rfl fits, rule]
      rfl
    · exact (ownRec_applyResult fits).trans (congrArg Prod.snd rule)
    · exact fun e' l' ne => ownRec_applyResult_other fits ne
  · intro n s r _ there state late
    change (s.handoffExpiry n).done = _
    rw [handoffExpiry_late there state late]
    rfl

end Sys2Proof.Proofs.Ownership

namespace Sys2Proof.Proofs.CollectiveFrames

/-! ## Collective frames and step timeouts (R210–R213, R218, R219, R232, R291) -/

open Sys2Proof.Machine Sys2Proof.Claims Sys2Proof.Proofs.FramesIn

section Frame
variable {s : State} {op : CollOp} {f : CollFrame}

/-- The state after the link layer has received a collective frame. -/
def linked (s : State) (op : CollOp) (f : CollFrame) : State := (s.linkReceive f.port f.env (.coll op f.hdr f.payload)).1

/-- What is done with a collective frame that the link layer has received, by the role of its port. -/
def collByRole (s : State) (op : CollOp) (f : CollFrame) : State :=
  let herd := s.rd od2810_HERD f.port.val
  let stamp := { f.hdr with herd := BitVec.ofNat 12 herd, src := BitVec.ofNat 16 (s.rd od2810_ENDPOINT f.port.val) }
  let s1 := s.traceFrame f.port.val 0
    (.coll op (if s.rd od2810_ROLE f.port.val = 2 ∨ s.rd od2810_ROLE f.port.val = 3 then f.hdr else stamp) f.payload)
  if s.rd od2810_ROLE f.port.val = 3 then
    (s1.creditBack f.port f.hdr.cls.toNat (cellsOf (56 + f.payload.length))).emit (portQuad f.port.val) evTrayRequest 0 1 f.port.val 0
      [opcodeOf (.coll op f.hdr)]
  else if s.rd od2810_ROLE f.port.val = 2 then
    (s1.tally f.hdr.herd.toNat (4 * f.port.val) 1).collTrunk f.port op f.hdr f.payload
  else (s1.tally (s1.rd od2810_HERD f.port.val) (4 * f.port.val) 1).ingress (.port f.port) (.coll op f.hdr) (sharedHdr f.hdr) f.payload

theorem arrived_coll (inv : s.Inv) (seq : f.env.seq.toNat = (s.link f.port.val).rxSeq) (hdr : CollHdr) (herd : Nat) :
    Arrived s (collReceived s op f hdr herd) :=
  ((arrived_linkReceive seq).traceFrame (linkReceive_canonical inv) ..).tally (canonical_traceFrame (linkReceive_canonical inv) ..) ..

theorem psnApplied_collReceived (seq : f.env.seq.toNat = (s.link f.port.val).rxSeq) (hdr : CollHdr) (herd : Nat) (r : Req) :
    (collReceived s op f hdr herd).psnApplied r = s.psnApplied r := by
  obtain ⟨l, e⟩ := linkReceive_eq (b := .coll op f.hdr f.payload) seq
  have tr : (collReceived s op f hdr herd).tr = { s.tr with links := l } := by
    rw [collReceived, State.tally_tr, show ∀ u : State, (u.traceFrame f.port.val 0 (.coll op hdr f.payload)).tr = u.tr from
      fun u => State.trace_tr .., e]
  rw [State.psnApplied, tr]
  rfl

section InOrder
variable (inv : s.Inv) (up : s.portUp f.port.val = true) (seq : f.env.seq.toNat = (s.link f.port.val).rxSeq)
include up seq

theorem collFrame_inOrder : s.collFrame op f = collByRole (linked s op f) op f := by
  unfold State.collFrame
  dsimp only
  rw [up, if_neg (by decide), linkReceive_inOrder seq, if_neg (by decide)]
  rfl

theorem collFrame_trunk (role : s.rd od2810_ROLE f.port.val = 2) :
    s.collFrame op f = (collReceived s op f f.hdr f.hdr.herd.toNat).collTrunk f.port op f.hdr f.payload := by
  have role' := (arrived_linkReceive (b := .coll op f.hdr f.payload) seq).rd od2810_ROLE f.port.val (by decide) (by decide) (by decide)
  rw [role] at role'
  rw [collFrame_inOrder up seq, collByRole, linked, role', if_neg (by decide), if_pos rfl, if_pos (.inl rfl)]
  rfl

include inv in
/-- On an endpoint port it comes to the ingress with the stamp of the binding. -/
theorem collFrame_edge (role : s.rd od2810_ROLE f.port.val ≤ 1) : s.collFrame op f =
    (collReceived s op f { f.hdr with
        herd := BitVec.ofNat 12 (s.rd od2810_HERD f.port.val)
        src := BitVec.ofNat 16 (s.rd od2810_ENDPOINT f.port.val) } (s.rd od2810_HERD f.port.val)).ingress
      (.port f.port) (.coll op f.hdr) (sharedHdr f.hdr) f.payload := by
  have at0 := arrived_linkReceive (b := .coll op f.hdr f.payload) seq
  have role' := at0.rd od2810_ROLE f.port.val (by decide) (by decide) (by decide)
  have at1 := at0.traceFrame (linkReceive_canonical inv) f.port.val 0
    (.coll op { f.hdr with
      herd := BitVec.ofNat 12 (s.rd od2810_HERD f.port.val)
      src := BitVec.ofNat 16 (s.rd od2810_ENDPOINT f.port.val) } f.payload)
  rw [collFrame_inOrder up seq, collByRole, linked, role', if_neg (by omega), if_neg (by omega), if_neg (by omega),
    at0.rd od2810_HERD f.port.val (by decide) (by decide) (by decide), at0.rd od2810_ENDPOINT f.port.val (by decide) (by decide) (by decide),
    at1.rd od2810_HERD f.port.val (by decide) (by decide) (by decide)]
  rfl

end InOrder

/-- At a port that is bound to an ACTIVE herd, a free TAG lets it enter. -/
theorem ingress_coll {u : State} (at_ : Arrived s u) (role : s.rd od2810_ROLE f.port.val = 1) (herd : s.rd od2810_HERD f.port.val ≠ 0xFFF)
    (active : s.herdActive (s.rd od2810_HERD f.port.val) = true) (free : tagFree s (.port f.port) f.hdr.tag) :
    u.ingress (.port f.port) (.coll op f.hdr) (sharedHdr f.hdr) f.payload =
      u.enter (collReq u (.port f.port) op f (s.rd od2810_HERD f.port.val) (s.rd od2810_ENDPOINT f.port.val)) := by
  have tag : (sharedHdr f.hdr).tag = f.hdr.tag := by simp [sharedHdr, hdrFor]
  unfold State.ingress
  dsimp only [State.stamp]
  rw [any_tag_eq_false ((tagFree_congr at_ ..).mpr (by rwa [tag])), if_neg (by decide),
    at_.rd od2810_ROLE f.port.val (by decide) (by decide) (by decide),
    at_.rd od2810_HERD f.port.val (by decide) (by decide) (by decide), at_.rd od2810_ENDPOINT f.port.val (by decide) (by decide) (by decide),
    if_neg (by simp [role, herd, at_.herdActive, active])]
  rfl

/-! ### At a trunk -/

/-- The state in which a collective frame of a trunk is handled: its cells are freed and it has its number. -/
def numbered (s : State) (f : CollFrame) : State :=
  let w := s.creditBack f.port f.hdr.cls.toNat (cellsOf (56 + f.payload.length))
  { w with tr := { w.tr with nextId := w.tr.nextId + 1 } }

section Trunk
variable (rlx : f.hdr.rlx = false)
include rlx

theorem collTrunk_part (here : f.hdr.dst.toNat = s.reduceEp f.hdr.ctx.toNat) (dst : f.hdr.dst ≠ 0xFFFF)
    (fresh : s.psnApplied (collHere s .part f) = false) :
    s.collTrunk f.port .part f.hdr f.payload =
      (numbered s f).partialAnswer (collHere s .part f) ((numbered s f).servePartial (collHere s .part f) f.hdr) := by
  unfold State.collTrunk
  dsimp only
  rw [if_neg (by simpa [here] using dst), rlx, if_neg (by decide)]
  exact if_neg (ne_true_of_eq_false fresh)

theorem collTrunk_abort_here (here : f.hdr.dst.toNat = s.reduceEp f.hdr.ctx.toNat) (dst : f.hdr.dst ≠ 0xFFFF)
    (reserved : collReserved .abort f.hdr = true) (fresh : s.psnApplied (collHere s .abort f) = false) :
    s.collTrunk f.port .abort f.hdr f.payload = if !s.ctxRunning f.hdr.ctx.toNat then (numbered s f).answer (collHere s .abort f) eAccess 0 []
      else ((numbered s f).complete (collHere s .abort f) eOk 0 []).takeAbort f.hdr.ctx.toNat f.hdr.step.toNat f.hdr.src.toNat
        (bitsOf f.hdr.aux.toNat 7 0) := by
  unfold State.collTrunk
  dsimp only
  rw [if_pos (by simpa [here] using dst), if_neg (by simp [rlx, reserved])]
  exact if_neg (ne_true_of_eq_false fresh)

/-- What is replicated to the group of a context: the frame, noted as applied. -/
def replicated (s : State) (op : CollOp) (f : CollFrame) : State :=
  (((numbered s f).multicast (s.rd od3800_MCGROUP f.hdr.ctx.toNat) (s.rd od3800_HERD f.hdr.ctx.toNat) (portQuad f.port.val)
    (portEnd f.port.val) (some f.port) (.coll op f.hdr f.payload)).1).noteApplied (collHere s op f) (mkResp (collHere s op f) eOk 0 0 [])

theorem collTrunk_result (dst : f.hdr.dst = 0xFFFF) (fresh : s.psnApplied (collHere s .result f) = false) :
    s.collTrunk f.port .result f.hdr f.payload = if decide (2 ≤ s.rd od3800_STATE f.hdr.ctx.toNat) = true then
      (numbered s f).answer (collHere s .result f) eAccess 0 [] else replicated s .result f := by
  unfold State.collTrunk
  dsimp only
  rw [if_neg (not_not_intro dst), rlx, if_neg (by decide)]
  exact if_neg (ne_true_of_eq_false fresh)

theorem collTrunk_abort_group (dst : f.hdr.dst = 0xFFFF) (fresh : s.psnApplied (collHere s .abort f) = false) :
    s.collTrunk f.port .abort f.hdr f.payload = if decide (2 ≤ s.rd od3800_STATE f.hdr.ctx.toNat) = true then
      (numbered s f).answer (collHere s .abort f) eAccess 0 [] else replicated s .abort f := by
  unfold State.collTrunk
  dsimp only
  rw [if_neg (by simp [dst]), if_pos dst, rlx, if_neg (by decide)]
  exact if_neg (ne_true_of_eq_false fresh)

end Trunk
end Frame

/-! ### Step timeouts -/

section Timeout
variable {s : State} {c : Nat} {t : Nat × Nat × Nat}

theorem stepTimeout_late (start : (if s.rd od3800_CLOSE c = 0 then (s.stepOf c (s.openStep c)).first else (s.stepOf c (s.openStep c)).fired) = some t)
    (late : s.ctxRunning c ∧ s.ctxRoot c ∧ s.past t.1 (s.rd od3800_STEP_TIMEOUT c * 1000) ∧
      (s.rd od3800_MISSING c = 0 ∨ s.kidsLacking c (s.stepOf c (s.openStep c)))) :
    s.stepTimeout c = (s.abortStep c eTimeout).retryContribs := by
  unfold State.stepTimeout
  dsimp only
  rw [start]
  exact if_pos late

theorem nodeTimeout_late (start : (s.stepOf c (s.openStep c)).first = some t)
    (late : s.ctxRunning c ∧ !s.ctxRoot c ∧ s.past t.1 (2 * s.rd od3800_STEP_TIMEOUT c * 1000)) :
    s.nodeTimeout c = (s.closeStep c eTargetLost).retryContribs := by
  unfold State.nodeTimeout
  rw [start]
  exact if_pos late

end Timeout

/-- Settles O31: it holds. -/
theorem collectiveFramesAndTimeoutsComplete : Obligations.CollectiveFramesAndTimeoutsComplete := by
  unfold Obligations.CollectiveFramesAndTimeoutsComplete
  refine ⟨fun f s inv up seq => ⟨?_, ?_⟩, fun s _ => ⟨?_, ?_, ?_⟩⟩
  · intro role active herd free
    change Host.Outcome.next (s.collFrame .contrib f).retryContribs.settled = _
    rw [collFrame_edge inv up seq (by omega), ingress_coll (arrived_coll inv seq ..) role herd active free]
  · intro role rlx ctx here v r group
    have at_ := fun op => arrived_coll (op := op) inv seq f.hdr f.hdr.herd.toNat
    have reduce : ∀ op, (here op).reduceEp ctx = s.reduceEp ctx := fun op =>
      (at_ op).rd (odReduceEp (ctxQuad ctx)) 0 (by simp [odReduceEp]) (by simp only [odReduceEp]; omega) (by simp [odReduceEp, traceFrameOd])
    have state : ∀ op, (here op).rd od3800_STATE ctx = s.rd od3800_STATE ctx := fun op =>
      (at_ op).rd od3800_STATE ctx (by decide) (by decide) (by decide)
    have running : ∀ op, (here op).ctxRunning ctx = s.ctxRunning ctx := fun op => by rw [State.ctxRunning, state, State.ctxRunning]
    have groupEq : ∀ op, replicated (here op) op f = group op := fun op => by
      rw [replicated, (at_ op).rd od3800_MCGROUP ctx (by decide) (by decide) (by decide),
        (at_ op).rd od3800_HERD ctx (by decide) (by decide) (by decide)]
      rfl
    have fresh : ∀ op, s.psnApplied (r op) = false → (here op).psnApplied (r op) = false := fun op h =>
      (psnApplied_collReceived seq ..).trans h
    refine ⟨fun dst local_ new => ?_, fun dst local_ reserved new => ⟨fun runs => ?_, fun stops => ?_⟩,
      fun dst new => ⟨fun runs => ?_, fun stops => ?_⟩, fun dst new => ⟨fun runs => ?_, fun stops => ?_⟩⟩
    · change Host.Outcome.next (s.collFrame .part f).retryContribs.settled = _
      rw [collFrame_trunk up seq role, collTrunk_part rlx (dst.trans (reduce .part).symm) local_ (fresh .part new)]
      rfl
    · change Host.Outcome.next (s.collFrame .abort f).retryContribs.settled = _
      rw [collFrame_trunk up seq role, collTrunk_abort_here rlx (dst.trans (reduce .abort).symm) local_ reserved (fresh .abort new),
        if_neg (by rw [(running .abort).trans runs]; decide)]
      rfl
    · change Host.Outcome.next (s.collFrame .abort f).retryContribs.settled = _
      rw [collFrame_trunk up seq role, collTrunk_abort_here rlx (dst.trans (reduce .abort).symm) local_ reserved (fresh .abort new),
        if_pos (by rw [(running .abort).trans stops]; decide)]
      rfl
    · change Host.Outcome.next (s.collFrame .result f).settled = _
      rw [collFrame_trunk up seq role, collTrunk_result rlx dst (fresh .result new),
        if_neg (by rw [decide_eq_true_eq, state .result]; omega), groupEq]
    · change Host.Outcome.next (s.collFrame .result f).settled = _
      rw [collFrame_trunk up seq role, collTrunk_result rlx dst (fresh .result new),
        if_pos (by rw [decide_eq_true_eq, state .result]; exact stops)]
      rfl
    · change Host.Outcome.next (s.collFrame .abort f).retryContribs.settled = _
      rw [collFrame_trunk up seq role, collTrunk_abort_group rlx dst (fresh .abort new),
        if_neg (by rw [decide_eq_true_eq, state .abort]; omega), groupEq]
    · change Host.Outcome.next (s.collFrame .abort f).retryContribs.settled = _
      rw [collFrame_trunk up seq role, collTrunk_abort_group rlx dst (fresh .abort new),
        if_pos (by rw [decide_eq_true_eq, state .abort]; exact stops)]
      rfl
  · intro c t a b x start runs root late lacking
    exact congrArg State.done (stepTimeout_late start ⟨runs, root, late, lacking⟩)
  · intro c t a b start runs root late
    exact congrArg State.done (nodeTimeout_late start ⟨runs, by simp [root], late⟩)
  · intro q
    refine ⟨_, rfl, fun c => ?_⟩
    rw [List.mem_filter]
    simp [and_assoc]

end Sys2Proof.Proofs.CollectiveFrames

namespace Sys2Proof.Proofs.Ports

/-! ## Ports, lanes, routes and CXL devices (R325–R340, R393) -/

open Sys2Proof.Machine Sys2Proof.Claims

/-! ### Lanes -/

section Lane
variable {s : State} {l i : Nat} {p : PortId}

/-- A lane of a port that is declared bad: what follows by the state of its port. -/
theorem laneBad_eq (here : s.portOfLane l = some (p.val, i)) (octet : i < 8) (tmt : s.isCxl p.val = false) :
    s.laneBad l =
      (let v := if bitAt (s.rd od2118_BAD_LANES p.val) i then s else s.wr od2118_BAD_LANES p.val (s.rd od2118_BAD_LANES p.val + 2 ^ i)
      let first := sparseGet 0 s.ports.laneAt p.val
      let w := s.rd od2118_WIDTH p.val
      if i < first ∨ first + w ≤ i then v
      else if s.rd od2118_STATE p.val = 3 then v.portDown p
      else if s.rd od2118_STATE p.val = 4 then v.countRetrain.retrainAt p.val [w / 2, w / 4, w / 8]
      else v) := by
  unfold State.laneBad
  rw [here]
  dsimp only
  rw [dif_pos p.isLt, tmt]
  cases bitAt (s.rd od2118_BAD_LANES p.val) i <;> simp [octet]

theorem laneBad_none (none_ : s.portOfLane l = none) : s.laneBad l = s := by
  unfold State.laneBad
  rw [none_]

end Lane

/-! ### Training -/

section Training
variable {s : State} {p : PortId} {r : StageResult}

/-- The limits of Table 13.5, by stage. -/
theorem stageTimeout_late {n : Nat} (at_ : TrainsAt s p n) (low : 1 ≤ n) (high : n ≤ 4)
    (late : s.past (s.training p.val).since (s.stageLimit p.val n) = true) :
    s.stageTimeout p.val = (s.wr od2118_STATE p.val 1).setTraining p.val { s.training p.val with stage := 0, retry := some s.clk } := by
  obtain ⟨state, _, tmt, stage⟩ := at_
  unfold State.stageTimeout
  dsimp only
  rw [stage]
  exact if_pos ⟨state, low, high, by rw [tmt]; rfl, late⟩

theorem retry_due {t : Nat} (due : (s.training p.val).retry = some t) (state : s.rd od2118_STATE p.val = 1) (mode : s.mode ≠ 2)
    (runs : s.halted = false) (late : s.past t 10000000 = true)
    (good : lanesGood (s.rd od2118_BAD_LANES p.val) (sparseGet 0 s.ports.laneAt p.val) (s.training p.val).width = true) :
    s.retry p.val = (s.wr od2118_WIDTH p.val (s.training p.val).width).startTraining p.val (s.training p.val).width (s.training p.val).fast := by
  unfold State.retry
  dsimp only
  rw [due]
  dsimp only
  rw [if_neg (by simp [state, mode, runs, late]), if_pos good]

theorem setAmps_clk (l : List (Nat × Nat)) : ∀ s : State, (s.setAmps l).clk = s.clk := by
  induction l with
  | nil => exact fun _ => rfl
  | cons x l ih =>
    intro s
    obtain ⟨lane, amp⟩ := x
    rw [State.setAmps, ih]
    rfl

/-- A stage of a TMT port that trains ends. -/
theorem exec_stageDone {n : Nat} (at_ : TrainsAt s p n) : exec (.trainingStageDone p r) s = .next (s.stageDone p r).settled := by
  obtain ⟨state, runs, tmt, _⟩ := at_
  rw [show exec (.trainingStageDone p r) s = execTrainingStageDone p r s from rfl, execTrainingStageDone, if_neg (by simp [state, runs]), tmt, if_neg (by decide)]
  rfl

theorem stageDone_first (stage : (s.training p.val).stage = 1) :
    s.stageDone p r = (s.setAmps ((s.lanesUsed p.val).map (fun l => (l, s.rd od2114_AMP l)))).setTraining p.val { s.training p.val with
      stage := if (s.training p.val).fast then 3 else 2
      since := s.clk } := by
  unfold State.stageDone
  dsimp only
  simp only [stage, setAmps_clk]

theorem stageDone_second (stage : (s.training p.val).stage = 2) :
    s.stageDone p r = (s.setAmps ((s.lanesUsed p.val).zip r.amps)).setTraining p.val { s.training p.val with
      stage := 3
      since := s.clk } := by
  unfold State.stageDone
  dsimp only
  simp only [stage, setAmps_clk]

theorem stageDone_third (stage : (s.training p.val).stage = 3) : s.stageDone p r = atStage s p 4 := by
  unfold State.stageDone
  simp only [stage]
  rfl

theorem stageDone_fourth (stage : (s.training p.val).stage = 4) : s.stageDone p r = s.linkStart p r := by
  unfold State.stageDone
  simp only [stage]

section Start

/-- A port whose far end does not match stays in stage 5. -/
def stays (s : State) (p : PortId) (r : StageResult) : State :=
  (farEnd s p r).setTraining p.val { (farEnd s p r).training p.val with stage := 5 }

/-- What the start of a link writes into the object dictionary. -/
def encrypted (s : State) (p : PortId) (r : StageResult) : State :=
  (farEnd s p r).wr od4150_ENCRYPT p.val (if sparseGet 0 s.sec.linkKeys p.val = 0 then 0 else 1)

/-- The link of a port as it starts, before the port enters service. -/
def started (s : State) (p : PortId) (r : StageResult) : State :=
  (((encrypted s p r).setLink p.val
    { linkNew with credits := List.replicate 8 r.credits.toNat, out := List.replicate 8 (s.rd od2300_CREDIT_INIT 0) }).send
      (.credits p (s.rd od2300_CREDIT_INIT 0))).freshTags p.val

theorem linkStart_eq : s.linkStart p r =
    if r.width.toNat ≠ s.rd od2118_WIDTH p.val then (stays s p r).emit (portQuad p.val) evWidthMismatch 0 1 p.val 0 [p.val]
    else if !r.authOk then (stays s p r).emit (portQuad p.val) evLinkAuth 0 1 p.val 0 [p.val]
    else (started s p r).trained p := rfl

/-- Of the object dictionary the start of a link writes the far end and the encryption alone. -/
theorem started_rd (inv : s.Inv) {e : Ent} {n : Nat} (hi : e.index < 65536) (hs : e.sub < 256) (far : e ≠ od2118_FAR_A9)
    (farPort : e ≠ od2118_FAR_PORT) (encrypt : e ≠ od4150_ENCRYPT) : (started s p r).rd e n = s.rd e n := by
  have can := inv.1
  have od : (started s p r).rd e n = (encrypted s p r).rd e n := rfl
  rw [od, encrypted, farEnd, State.rd_wr_ne (State.canonical_wr (State.canonical_wr can)) hi hs (by decide) (by decide) encrypt,
    State.rd_wr_ne (State.canonical_wr can) hi hs (by decide) (by decide) farPort, State.rd_wr_ne can hi hs (by decide) (by decide) far]

theorem started_penalty (inv : s.Inv) : (started s p r).penalty p.val = s.penalty p.val := by
  unfold State.penalty
  rw [started_rd inv (by decide) (by decide) (by decide) (by decide) (by decide)]
  rfl

theorem started_trained (inv : s.Inv) : (started s p r).trained p =
    if s.penalty p.val ≤ s.rd od2100_SUPPRESS 0 then ((started s p r).setTraining p.val trainNew).enterUp p
    else ((started s p r).setTraining p.val trainNew).wr od2118_STATE p.val 4 := by
  unfold State.trained
  rw [started_penalty inv, started_rd inv (by decide) (by decide) (by decide) (by decide) (by decide)]

end Start
end Training

/-- Settles O32: it holds. -/
theorem portsFailAndTryAgain : Obligations.PortsFailAndTryAgain := by
  unfold Obligations.PortsFailAndTryAgain
  refine ⟨fun l s _ => ⟨fun none_ => ?_, ?_, ?_⟩,
    fun p s _ => ⟨fun n at_ low high late => ?_, fun t due state mode runs late good => ?_, fun state runs low => ?_, fun _ high => ?_⟩⟩
  · exact congrArg State.done (laneBad_none none_)
  · intro p i here octet tmt first bad v
    have row : exec (.laneSignalLoss l) s = .next (s.laneBad l.val).settled := rfl
    rw [row, laneBad_eq here octet tmt]
    refine ⟨fun out => ?_, fun from_ below => ⟨fun up => ?_, fun suppressed => ?_⟩⟩
    · dsimp only
      rw [if_pos out]
    · dsimp only
      rw [if_neg (not_or.mpr ⟨Nat.not_lt.mpr from_, Nat.not_le.mpr below⟩), if_pos up]
    · dsimp only
      rw [if_neg (not_or.mpr ⟨Nat.not_lt.mpr from_, Nat.not_le.mpr below⟩), if_neg (by rw [suppressed]; decide), if_pos suppressed]
      rfl
  · intro corrected v
    rw [show exec (.laneSerCheck l corrected) s = execLaneSerCheck l corrected s from rfl, execLaneSerCheck]
    split
    · rfl
    · rfl
  · exact congrArg State.done (stageTimeout_late at_ low high late)
  · exact congrArg State.done (retry_due due state mode runs late good)
  · exact congrArg State.done (if_pos ⟨state, low, by rw [runs]; rfl⟩)
  · exact congrArg State.done (if_neg (by omega))

/-- Settles O33: it holds. -/
theorem portsTrain : Obligations.PortsTrain := by
  unfold Obligations.PortsTrain
  refine fun p r s inv => ⟨fun at_ => ?_, fun at_ => ?_, fun at_ => ?_, fun at_ => ?_⟩
  · rw [exec_stageDone at_, stageDone_first at_.stage]
  · rw [exec_stageDone at_, stageDone_second at_.stage]
  · rw [exec_stageDone at_, stageDone_third at_.stage]
  · intro v stay
    rw [exec_stageDone at_, stageDone_fourth at_.stage, linkStart_eq]
    refine ⟨fun width => ?_, fun width tag => ?_, fun width tag => ?_⟩
    · rw [if_pos width]
      rfl
    · rw [if_neg (not_not_intro width), tag]
      rfl
    · intro n u
      rw [if_neg (not_not_intro width), tag, if_neg (show ¬ (!true) = true by decide), started_trained inv]
      rfl

/-! ### Link-state records -/

section Record
variable {v : State} {r : LinkRecord}

theorem recordIn_passed (passed : ¬ later v r ∨ (r.st ≠ 1 ∧ r.st ≠ 2) ∨ r.reporter.val = v.rd od2100_A9_NUMBER 0) : v.recordIn r = v := by
  unfold State.recordIn
  exact if_pos passed

theorem recordIn_seen (isLater : later v r) (kind : r.st = 1 ∨ r.st = 2) (other : r.reporter.val ≠ v.rd od2100_A9_NUMBER 0) :
    v.recordIn r = if !(seen v r).recordStands r (recordNames v r) then seen v r
      else if r.st = 1 then (seen v r).noteDown (recordNames v r) r
      else (seen v r).noteUp (recordNames v r) r.detected.toNat r.switch.toNat r.reporter.val := by
  unfold State.recordIn
  refine if_neg ?_
  rintro (past | none_ | own)
  · exact past isLater
  · exact kind.elim none_.1 none_.2
  · exact other own

end Record

/-- A link has left the down set where one of its records has a SWITCH that has come. -/
theorem mem_linksBack_downSet {s : State} (l : Nat) : l ∈ s.linksBack.ports.downSet ↔ l ∈ s.ports.downSet ∧
    ∀ k t, (l, k) ∈ s.ports.known → k.upAt = some t → s.ft 0 < t := by
  change l ∈ s.ports.downSet.filter _ ↔ _
  rw [List.mem_filter]
  refine and_congr_right fun _ => ?_
  rw [Bool.not_eq_true', ← Bool.not_eq_true, List.contains_iff_mem, List.mem_map]
  constructor
  · intro no k t known at_
    by_contra due
    exact no ⟨(l, k), List.mem_filter.mpr ⟨known, by simp only [at_, decide_eq_true_eq]; omega⟩, rfl⟩
  · rintro all ⟨⟨l', k⟩, mem, rfl⟩
    obtain ⟨known, due⟩ := List.mem_filter.mp mem
    cases at_ : k.upAt with
    | none => simp [at_] at due
    | some t =>
      have later_ := all k t known at_
      simp only [at_, decide_eq_true_eq] at due
      omega

section Switch
variable {s : State} {d : Nat}

/-- The state at SWITCH for a destination whose holds and windows that are over have ended. -/
def ended (v : State) (d : Nat) : State := { v with ports := { v.ports with
  holds := v.ports.holds.filter (fun h => !(h.dest == d && !h.drain && decide (h.until_ ≤ v.ft 0)))
  windows := v.ports.windows.filter (fun w => !(w.1 == d && decide (w.2.1 ≤ v.ft 0))) } }

theorem switchTime_eq : s.switchTime d = (if s.linksBack.ports.holds.any (fun h => h.dest == d && h.drain && decide (h.until_ ≤ s.linksBack.ft 0))
    then (ended s.linksBack d).wr od2130_IN_USE d ((ended s.linksBack d).bestSlot d) else (ended s.linksBack d).moveRoute d).endHolds.resend := rfl

end Switch

/-- Settles O34: it holds. -/
theorem routesFollowLinkStates : Obligations.RoutesFollowLinkStates := by
  unfold Obligations.RoutesFollowLinkStates
  refine ⟨?_, ?_⟩
  · intro r s _ v
    have row : exec (.linkStateRecord r) s = .next (v.recordIn r).settled := rfl
    rw [row]
    refine ⟨fun passed => ?_, fun isLater other => ⟨fun kind no => ?_, fun stands => ⟨fun down => ?_, fun up => ?_⟩⟩⟩
    · rw [recordIn_passed (by tauto)]
    · rw [recordIn_seen isLater kind other, no]
      rfl
    · rw [recordIn_seen isLater (.inl down) other, stands, if_neg (by decide), if_pos down]
    · rw [recordIn_seen isLater (.inr up) other, stands, if_neg (by decide), if_neg (by rw [up]; decide)]
  · intro d s _ v u
    have row : exec (.switchTimeReached d) s = .next (s.switchTime d.val).settled := rfl
    rw [row, switchTime_eq]
    refine ⟨mem_linksBack_downSet, fun none_ => ?_, fun some_ => ?_⟩
    · rw [if_neg]
      · rfl
      · rw [Bool.not_eq_true, List.any_eq_false]
        intro h mem
        have late := none_ h mem
        simp only [Bool.and_eq_true, beq_iff_eq, decide_eq_true_eq, not_and, Nat.not_le]
        exact fun x => late x.1 x.2
    · rw [if_pos]
      · rfl
      · obtain ⟨h, mem, dest, drain, due⟩ := some_
        exact List.any_eq_true.mpr ⟨h, mem, by simp [dest, drain]; exact due⟩

/-! ### CXL devices -/

section Cxl
variable {s : State} {p : PortId} {first count : Nat}

theorem cxlFail_eq (cxl : s.isCxl p.val = true) (linked : 2 ≤ s.rd od2118_STATE p.val) :
    s.cxlFail p = (((s.wr od2118_STATE p.val 1).wr od2118_WIDTH p.val 0).setTraining p.val trainNew).portGone p := by
  unfold State.cxlFail
  exact if_neg (by simp [cxl]; omega)

theorem dcAdd_eq (cxl : s.isCxl p.val = true) (up : s.rd od2118_STATE p.val = 3) (some_ : 0 < count) (fits : first + count ≤ 16777216)
    (free : s.ports.regions.any (regionMeets p first count) = false) :
    s.dcAdd p first count = { s with ports := { s.ports with regions := s.ports.regions ++ [DcRegion.mk p first count] } } := by
  have nonzero : count ≠ 0 := by omega
  unfold State.dcAdd
  exact if_neg (by simp [cxl, up, free, nonzero, fits])

theorem dcRelease_eq (cxl : s.isCxl p.val = true) (up : s.rd od2118_STATE p.val = 3) : s.dcRelease p first count =
    if s.pool.gran.any (fun kv => kv.2.tier == 2 && decide (p.val / 4 * 16777216 + first ≤ kv.2.loc) &&
        decide (kv.2.loc < p.val / 4 * 16777216 + first + count)) then
      s.emit (portQuad p.val) evCxlReleaseRefused 0 1 p.val 0 [p.val]
    else { s with ports := { s.ports with regions := s.ports.regions.flatMap (regionLess p first count) } } := by
  unfold State.dcRelease
  exact if_neg (by simp [cxl, up])

end Cxl

/-- Settles O35: it holds. -/
theorem cxlDevicesComeAndGo : Obligations.CxlDevicesComeAndGo := by
  unfold Obligations.CxlDevicesComeAndGo
  refine fun p s _ cxl => ⟨fun linked => ?_, fun up r => ⟨fun some_ fits free => ?_, fun held => ?_, fun free => ?_⟩⟩
  · exact congrArg State.done (cxlFail_eq cxl linked)
  · exact congrArg State.done (dcAdd_eq cxl up some_ fits free)
  · refine congrArg State.done ((dcRelease_eq cxl up).trans (if_pos ?_))
    obtain ⟨kv, mem, tier, low, high⟩ := held
    exact List.any_eq_true.mpr ⟨kv, mem, by simp only [Bool.and_eq_true, beq_iff_eq, decide_eq_true_eq]; exact ⟨⟨tier, low⟩, high⟩⟩
  · refine congrArg State.done ((dcRelease_eq cxl up).trans (if_neg ?_))
    rw [Bool.not_eq_true, List.any_eq_false]
    intro kv mem
    have out := free kv mem
    simp only [Bool.and_eq_true, beq_iff_eq, decide_eq_true_eq]
    rintro ⟨⟨tier, low⟩, high⟩
    rcases out tier with h | h <;> omega

end Sys2Proof.Proofs.Ports

namespace Sys2Proof.Proofs.Shelves

/-! ## Flash shelves and their translation (R342–R356) -/

open Sys2Proof.Machine Sys2Proof.Claims

/-! ### Attachment -/

section Attach
variable {s : State} {p : PortId} {g : ShelfGeometry} (up : s.rd od2118_STATE p.val = 3) (role : s.rd od2810_ROLE p.val = 3)
  (tmt : s.isCxl p.val = false)
include up role tmt

theorem attachShelf_refused (bad : geometryOk g = false ∨
      256 * 1024 * gib < s.shelves.foldl (fun a x => if x = p.val then a else a + rawBytes (s.geo x)) 0 + rawBytes g) :
    s.attachShelf p.val g = (s.wr od2C30_STATE p.val 2).emit (portQuad p.val) evShelfRefused 0 11 p.val 0 [p.val] := by
  unfold State.attachShelf
  rw [if_neg (by simp [up, role, tmt])]
  dsimp only
  refine if_pos ?_
  rw [Bool.or_eq_true, decide_eq_true_eq, Bool.not_eq_true']
  exact bad

theorem attachShelf_known (good : geometryOk g = true)
    (fits : s.shelves.foldl (fun a x => if x = p.val then a else a + rawBytes (s.geo x)) 0 + rawBytes g ≤ 256 * 1024 * gib)
    (known : s.geo p.val = g) : s.attachShelf p.val g = (s.wr od2C30_STATE p.val 1).recompute.pump := by
  unfold State.attachShelf
  rw [if_neg (by simp [up, role, tmt])]
  dsimp only
  rw [if_neg, if_pos known]
  rw [Bool.or_eq_true, decide_eq_true_eq, Bool.not_eq_true', good]
  exact fun bad => bad.elim Bool.noConfusion (Nat.not_lt.mpr fits)

end Attach

/-! ### Completions -/

section Completion
variable {s : State} {p : PortId} {c : ShelfResult} {o : ShelfOp}

theorem exec_shelfCompletion (up : s.rd od2118_STATE p.val = 3) :
    exec (.shelfCompletion p c) s = .next (s.shelfDone p.val c).settled := by
  rw [show exec (.shelfCompletion p c) s = execShelfCompletion p c s from rfl, execShelfCompletion, if_pos up]
  rfl

theorem shelfDone_unmatched
    (none_ : ∀ o ∈ s.nand.ops, ¬ (opDie o = p.val * 4096 + c.channel.toNat * 64 + c.die.toNat ∧ o.tag = some c.tag.toNat)) :
    s.shelfDone p.val c = s.shelfRetry p.val := by
  have absent : s.nand.ops.find? (fun o => opDie o == p.val * 4096 + c.channel.toNat * 64 + c.die.toNat && o.tag == some c.tag.toNat) = none :=
    List.find?_eq_none.mpr fun o mem => by
      rw [Bool.and_eq_true, beq_iff_eq, beq_iff_eq]
      exact none_ o mem
  unfold State.shelfDone
  dsimp only
  rw [absent]

theorem shelfDone_matched (match_ : completes s p c o) : s.shelfDone p.val c = ((s.opDone p.val o c).eraseReady).pump := by
  unfold State.shelfDone
  dsimp only
  rw [match_.2]

theorem opDone_readLost (read : o.op = 1) (failed : c.status.toNat = 1) (last : o.retry = 15) :
    s.opDone p.val o c = (opGone s o).pageLost o.job p.val := by
  unfold State.opDone
  simp only [read, failed, last]
  rfl

theorem opDone_readAgain (read : o.op = 1) (failed : c.status.toNat = 1) (more : o.retry < 15) :
    s.opDone p.val o c = (s.putOps (s.nand.ops.map (fun y => if y = o then
      { o with retry := o.retry + 1, tag := none, again := false } else y))).shelfRetry p.val := by
  unfold State.opDone
  simp [read, failed, more]

theorem opDone_programmed (program : o.op = 2) (ok : c.status.toNat = 0) : s.opDone p.val o c = (opGone s o).pageDone o.job := by
  unfold State.opDone
  simp only [program, ok]
  rfl

theorem opDone_erased (erase : o.op = 3) (ok : c.status.toNat = 0) :
    s.opDone p.val o c = (((opGone s o).setNandBlock o.block { s.nandBlock o.block with
      state := 0
      erases := (s.nandBlock o.block).erases + 1
      reads := 0
      used := 0
      prog := 0 }).dropJob o.job).eraseCounts p.val := by
  unfold State.opDone
  simp only [erase, ok]
  rfl

theorem opDone_eraseFailed (erase : o.op = 3) (failed : c.status.toNat = 2) :
    s.opDone p.val o c = ((opGone s o).dropJob o.job).retireBlock o.block := by
  unfold State.opDone
  simp only [erase, failed]
  rfl

end Completion

section Timeout
variable {s : State} {p tag : Nat} {o : ShelfOp}
  (late : s.nand.ops.find? (fun o => blockPort o.block == p && o.tag == some tag &&
    s.past o.sent (s.rd od2C20_SHELF_OP_TIMEOUT 0 * 1000000)) = some o)
include late

theorem shelfTimeout_second (again : o.again = true) : s.shelfTimeout p tag = (s.failDie p (opDie o)).eraseReady.pump := by
  unfold State.shelfTimeout
  rw [late]
  exact if_pos again

theorem shelfTimeout_first (once : o.again = false) :
    s.shelfTimeout p tag = ((s.putOps (⟨o.block, 4, 0, 0, 0, none, 0, true⟩ ::
      { o with tag := none, again := true } :: s.nand.ops.filter (fun x => x != o))).shelfRetry p).pump := by
  unfold State.shelfTimeout
  rw [late]
  exact if_neg (ne_true_of_eq_false once)

end Timeout

/-! ### Checkpoints, reclamation, wear and refresh -/

section Upkeep
variable {s : State} {p : PortId} {b : Nat} (up : s.shelfUp p.val = true)
include up

theorem exec_mapCheckpoint (due : s.rd od2C20_CHECKPOINT_CHUNKS 0 ≤ s.nand.since ∨ s.nand.opens = []) :
    exec (.mapCheckpoint p) s = .next s.checkpoint.settled := by
  rw [show exec (.mapCheckpoint p) s = execMapCheckpoint p s from rfl, execMapCheckpoint, if_pos]
  · rfl
  · rw [up, Bool.true_and, Bool.or_eq_true, decide_eq_true_eq, List.isEmpty_iff]
    exact due

theorem collect_eq (works : s.flushMode = false)
    (low : (s.freeBlocks - s.rd od2C20_RESERVE_BLOCKS 0) * 100 < s.rd od2C20_GC_START 0 * s.goodBlocks)
    (least : s.leastFull p.val (fun b => (s.chunksIn (· == b)).length) = some b) :
    s.collect p.val = ((s.copyBlock b).eraseReady).pump := by
  unfold State.collect
  rw [if_neg (by rw [up, works, Bool.or_eq_true, decide_eq_true_eq]; simpa using low), least]

theorem levelWear_eq (works : s.flushMode = false)
    (spread : s.rd od2C20_WEAR_SPREAD 0 < s.rd od2C30_ERASE_MAX p.val - s.rd od2C30_ERASE_MIN p.val)
    (least : s.leastFull p.val (fun b => (s.nandBlock b).erases) = some b) :
    s.levelWear p.val = ((s.copyBlock b).eraseReady).pump := by
  unfold State.levelWear
  rw [if_neg (by rw [up, works, Bool.or_eq_true, decide_eq_true_eq]; simpa using Nat.add_lt_of_lt_sub spread), least]

theorem exec_blockRefresh (works : s.flushMode = false) (range : b < 4096 * 1048576) (full : (s.nandBlock (blockKey p.val 0 b)).state = 2)
    (idle : blockKey p.val 0 b ∉ s.nand.reclaim)
    (due : s.rd od2C20_READ_LIMIT 0 < (s.nandBlock (blockKey p.val 0 b)).reads ∨ (s.rd od2000_QUALITY 0 ≤ 1 ∧
      (s.nandBlock (blockKey p.val 0 b)).prog + s.rd od2C20_RETENTION_DAYS 0 * 86400 * 2 ^ 32 ≤ s.ft 0)) :
    exec (.blockRefresh p b) s = .next ((((s.copyBlock (blockKey p.val 0 b)).bump od2C30_REFRESHES
      (blockPort (blockKey p.val 0 b)) 64 1).eraseReady).pump).settled := by
  have isDue : s.refreshDue (blockKey p.val 0 b) = true := by
    unfold State.refreshDue
    rw [Bool.or_eq_true, Bool.and_eq_true, decide_eq_true_eq, decide_eq_true_eq, decide_eq_true_eq]
    exact due
  rw [show exec (.blockRefresh p b) s = execBlockRefresh p b s from rfl, execBlockRefresh]
  rw [if_pos (by rw [up, isDue, decide_eq_true range]; rfl), State.refreshBlock, if_neg]
  · rfl
  · rw [full, works]
    simpa using idle

end Upkeep

/-- Settles O36: it holds. -/
theorem shelvesAndTheirTranslationComplete : Obligations.ShelvesAndTheirTranslationComplete := by
  unfold Obligations.ShelvesAndTheirTranslationComplete
  constructor
  · intro p s _
    refine ⟨fun g up role tmt => ⟨fun bad => ?_, fun good fits known => ?_⟩, fun c up none_ => ?_, fun c o match_ => ?_,
      fun tag o late => ⟨fun again => ?_, fun once => ?_⟩⟩
    · exact congrArg (fun u : State => Host.Outcome.next u.release.settled) (attachShelf_refused up role tmt bad)
    · exact congrArg (fun u : State => Host.Outcome.next u.release.settled) (attachShelf_known up role tmt good fits known)
    · rw [exec_shelfCompletion up, shelfDone_unmatched none_]
      rfl
    · rw [exec_shelfCompletion match_.1, shelfDone_matched match_]
      refine ⟨fun read failed last => ?_, fun read failed more => ?_, fun program ok => ?_, fun erase ok => ?_, fun erase failed => ?_⟩
      · rw [opDone_readLost read failed last]
      · rw [opDone_readAgain read failed more]
        rfl
      · rw [opDone_programmed program ok]
      · rw [opDone_erased erase ok]
      · rw [opDone_eraseFailed erase failed]
    · exact congrArg State.done (shelfTimeout_second late again)
    · exact congrArg State.done (shelfTimeout_first late once)
  · intro p s _ up
    refine ⟨fun due => exec_mapCheckpoint up due, fun works b => ⟨fun low least => ?_, fun spread least => ?_⟩, ?_⟩
    · exact congrArg State.done (collect_eq up works low least)
    · exact congrArg State.done (levelWear_eq up works spread least)
    · intro b k works range full idle due
      exact exec_blockRefresh up works range full idle due

end Sys2Proof.Proofs.Shelves

namespace Sys2Proof.Proofs.FailedUnits

/-! ## Lost units, canaries and sampled repeats (R389, R403, R415–R427) -/

open Sys2Proof.Machine Sys2Proof.Claims Sys2Proof.Proofs.OdMessages

/-! ### Units that are lost once -/

section Lost
variable {s : State}

theorem tineFailed_first {t : Nat} (works : s.rd od3400_STATE t ≠ 3) :
    s.tineFailed t = (s.failTine t).emit (t / 64) evTineFailed 0 3 t 0 [t] := if_neg works

theorem tineFailed_again {t : Nat} (failed : s.rd od3400_STATE t = 3) : s.tineFailed t = s := if_pos failed

theorem watchdogDue_of {t : Nat} (runs : s.tineRuns t = true) (ready : (s.liveThreads t).any (fun kv => kv.2.wait == .ready) = true)
    (late : s.past (s.tine t).issued (s.rd od4400_TINE_WATCHDOG 0 * 1000) = true) : s.watchdogDue t = true := by
  unfold State.watchdogDue
  rw [runs, ready, late]
  rfl

theorem quadrantLost_first {q at_ kind unit : Nat} (nonzero : q ≠ 0) (here : s.flt.quadsLost.contains q = false) :
    s.quadrantLost q at_ kind unit = (let v := (s.loseQuadrant q).emit at_ evQuadrantLost 0 kind unit 0 [q]
      if v.noCore then v.enterIsolation q evQuadrantLost 3 else v) := by
  unfold State.quadrantLost
  rw [here, if_neg (by decide)]
  exact if_neg nonzero

section Link
variable {a b mask : Nat} (order : a < b)
include order

theorem d2dFail_eq : s.d2dFail a b mask =
    if a = b ∨ sparseGet 0 s.flt.d2dDown (4 * a + b) ||| mask = sparseGet 0 s.flt.d2dDown (4 * a + b) then s
    else (let v := { s with flt := { s.flt with
        d2dDown := sparseSet 0 s.flt.d2dDown (4 * a + b) (sparseGet 0 s.flt.d2dDown (4 * a + b) ||| mask) } }
      if sparseGet 0 s.flt.d2dDown (4 * a + b) ||| mask = 15 then State.quadrantLost v b a 8 (4 * a + b)
      else State.unitFailed v a 8 (4 * a + b)) := by
  unfold State.d2dFail
  dsimp only
  rw [Nat.min_eq_left (Nat.le_of_lt order), Nat.max_eq_right (Nat.le_of_lt order)]

end Link

theorem stackLost_first {k : Nat} (here : k ∉ s.flt.stacksLost) :
    s.stackLost k = (let w := if s.sliceLost (k / 2) then s else s.loseSlice (k / 2)
      State.emitAs { w with flt := { w.flt with stacksLost := w.flt.stacksLost ++ [k] } } (k / 2) 3 (Config.unlistedEvent 4) 0 6 k 0 [k]) := by
  unfold State.stackLost
  exact if_neg (by simpa using here)

/-- The slice of a lost stack is lost. -/
theorem sliceLost_of_stack {w : State} {k : Nat} (lost : k ∈ w.flt.stacksLost) : w.sliceLost (k / 2) = true := by
  have which : k = 2 * (k / 2) ∨ k = 2 * (k / 2) + 1 := by omega
  unfold State.sliceLost
  rw [Bool.or_eq_true, Bool.or_eq_true, List.contains_iff_mem, List.contains_iff_mem, List.contains_iff_mem]
  rcases which with h | h
  · exact .inl (.inr (h ▸ lost))
  · exact .inr (h ▸ lost)

theorem coreFailed_first {q : Nat} (here : q ∉ s.flt.coresFailed) :
    s.coreFailed q = (let v := (State.emit { s with flt := { s.flt with coresFailed := s.flt.coresFailed ++ [q] } } q evMgmtCoreFailed 0 7 q 0 [q])
      if v.noCore then v.enterIsolation q evMgmtCoreFailed 3 else v) := by
  unfold State.coreFailed
  exact if_neg (by simpa using here)

theorem reduceFailed_first {u : Nat} (here : u ∉ s.flt.unitsFailed) :
    s.reduceFailed u = State.unitFailed { s with flt := { s.flt with unitsFailed := s.flt.unitsFailed ++ [u] } } (u / 16) 5 u := by
  unfold State.reduceFailed
  exact if_neg (by simpa using here)

end Lost

/-! ### Key stores -/

section Keys

/-- Writing the default at a key leaves nothing there. -/
theorem ne_of_mem_sparseSet_default {α : Type} [DecidableEq α] (d : α) (m : Sparse α) (x : Nat) (ordered : m.Pairwise (fun a b => a.1 < b.1)) :
    ∀ kv ∈ sparseSet d m x d, kv.1 ≠ x := by
  induction m with
  | nil => simp [sparseSet]
  | cons a m ih =>
    obtain ⟨k, w⟩ := a
    obtain ⟨above, rest⟩ := List.pairwise_cons.mp ordered
    intro kv mem
    unfold sparseSet at mem
    split at mem
    next low =>
      rw [if_pos rfl] at mem
      rcases List.mem_cons.mp mem with rfl | mem
      · exact Nat.ne_of_gt low
      · exact Nat.ne_of_gt (Nat.lt_trans low (above kv mem))
    next low =>
      split at mem
      next same =>
        rw [if_pos rfl] at mem
        exact Nat.ne_of_gt (same ▸ above kv mem)
      next other =>
        rcases List.mem_cons.mp mem with rfl | mem
        · exact fun h => other h.symm
        · exact ih rest kv mem

/-- Zeroizing keys removes theirs and adds none. -/
theorem mem_keys_zeroize (l : List Nat) : ∀ s : State, s.sec.keys.Pairwise (fun a b => a.1 < b.1) → ∀ kv,
    kv ∈ (l.foldl (fun s n => s.zeroizeKey n) s).sec.keys → kv ∈ s.sec.keys ∧ kv.1 ∉ l := by
  induction l with
  | nil => exact fun s _ kv mem => ⟨mem, List.not_mem_nil⟩
  | cons n l ih =>
    intro s ordered kv mem
    obtain ⟨here, out⟩ := ih (s.zeroizeKey n) (pairwise_sparseSet 0 s.sec.keys n 0 ordered) kv mem
    have old : kv ∈ s.sec.keys := (mem_sparseSet 0 s.sec.keys n 0 kv here).elim id (fun h => absurd rfl h.2)
    exact ⟨old, fun listed => (List.mem_cons.mp listed).elim (ne_of_mem_sparseSet_default 0 s.sec.keys n ordered kv here) out⟩

/-- Zeroizing keys writes the KEY_STATE of herds and the keys alone. -/
theorem zeroize_frame (l : List Nat) : ∀ s : State, s.Inv →
    let u := l.foldl (fun s n => s.zeroizeKey n) s
    u = { s with sec := u.sec, od := u.od } ∧ u.sec.linkKeys = s.sec.linkKeys ∧
      ∀ e k, e.index < 65536 → e.sub < 256 → e ≠ od2800_KEY_STATE → u.rd e k = s.rd e k := by
  induction l with
  | nil => exact fun s _ => ⟨rfl, rfl, fun _ _ _ _ _ => rfl⟩
  | cons n l ih =>
    intro s inv
    obtain ⟨same, links, od⟩ := ih (s.zeroizeKey n) (State.zeroizeKey_kept (Kept.self inv)).inv
    refine ⟨same, links, fun e k hi hs ne => (od e k hi hs ne).trans ?_⟩
    exact (State.rd_wr_ne inv.1 hi hs (by decide) (by decide) ne : (s.wr od2800_KEY_STATE n 0).rd e k = s.rd e k)

theorem zeroizeAll_keys {s : State} (inv : s.Inv) : s.zeroizeAll.sec.keys = [] ∧ s.zeroizeAll.sec.linkKeys = [] ∧
    s.zeroizeAll = { s with sec := s.zeroizeAll.sec, od := s.zeroizeAll.od } ∧
    ∀ e k, e.index < 65536 → e.sub < 256 → e ≠ od2800_KEY_STATE → s.zeroizeAll.rd e k = s.rd e k := by
  have ordered : s.sec.keys.Pairwise (fun a b => a.1 < b.1) := inv.1.2.2.2.2.2.2.1.1
  obtain ⟨same, links, od⟩ := zeroize_frame (s.sec.keys.map Prod.fst) { s with sec := { s.sec with linkKeys := [] } } inv
  refine ⟨?_, links, same, od⟩
  refine List.eq_nil_iff_forall_not_mem.mpr fun kv mem => ?_
  obtain ⟨here, out⟩ := mem_keys_zeroize (s.sec.keys.map Prod.fst) { s with sec := { s.sec with linkKeys := [] } } ordered kv mem
  exact out (List.mem_map_of_mem here)

end Keys

/-- Settles O38: it holds. -/
theorem failedUnitsAreLost : Obligations.FailedUnitsAreLost := by
  unfold Obligations.FailedUnitsAreLost
  intro s inv
  refine ⟨fun t works => ⟨?_, fun runs ready late => ?_⟩, fun t failed => ?_, ?_, ?_, ?_, ?_, fun u here => ?_, fun q => ?_⟩
  · exact congrArg State.done (tineFailed_first works)
  · exact congrArg State.done ((if_pos (watchdogDue_of runs ready late)).trans (tineFailed_first works))
  · exact congrArg State.done (tineFailed_again failed)
  · intro q nonzero here gone after
    exact ⟨congrArg State.done (quadrantLost_first nonzero here), congrArg State.done (quadrantLost_first nonzero here),
      congrArg State.done (quadrantLost_first nonzero here)⟩
  · intro a b m order k old v
    have row : exec (.d2dLinkFailure a b m) s = .next (s.d2dFail a.val b.val m.toNat).settled := rfl
    have ne : a.val ≠ b.val := Nat.ne_of_lt order
    rw [row, d2dFail_eq order]
    refine ⟨fun same => ?_, fun new some_ => ?_, fun new all => ?_⟩
    · rw [if_pos (.inr same)]
    · rw [if_neg (not_or.mpr ⟨ne, new⟩)]
      dsimp only
      rw [if_neg some_]
      rfl
    · rw [if_neg (not_or.mpr ⟨ne, new⟩)]
      dsimp only
      rw [if_pos all]
  · intro k here w v
    refine ⟨sliceLost_of_stack (List.mem_append_right _ (List.mem_singleton_self _)), ?_⟩
    exact congrArg State.done (stackLost_first here)
  · intro q here v
    exact congrArg State.done (coreFailed_first here)
  · exact congrArg State.done (reduceFailed_first here)
  · obtain ⟨keys, links, same, od⟩ := zeroizeAll_keys inv
    exact ⟨s.zeroizeAll, rfl, keys, links, same, od⟩

/-! ### Canaries and repeats -/

section Timetable
variable {s : State} {n : Nat}

/-- Only one of the numbers below 256 is the tine of a mask of one tine. -/
theorem find?_single (from_ t : Nat) (low : t < 256) :
    ((List.range 256).map (fun i => (from_ + i) % 256)).find? (fun x => bitAt (2 ^ t) x) = some t := by
  have only : ∀ x, bitAt (2 ^ t) x = true → x = t := fun x set => by
    rw [bitAt_eq_testBit, Nat.testBit_two_pow, decide_eq_true_eq] at set
    exact set.symm
  cases found : ((List.range 256).map (fun i => (from_ + i) % 256)).find? (fun x => bitAt (2 ^ t) x) with
  | some x => exact congrArg some (only x (List.find?_some found))
  | none =>
    have here : t ∈ (List.range 256).map (fun i => (from_ + i) % 256) :=
      List.mem_map.mpr ⟨(t + (256 - from_ % 256)) % 256, List.mem_range.mpr (Nat.mod_lt _ (by decide)), by omega⟩
    exact absurd (by rw [bitAt_eq_testBit, Nat.testBit_two_pow_self]) (List.find?_eq_none.mp found t here)

theorem tgCanary_due (gated : s.timeGated n = true) (period : s.rd od4408_TG_CANARY_PERIOD n ≠ 0) (runs : s.canariesRun = true)
    (mode : s.mode = 0) (due : sparseGet 0 s.flt.tgDone n < s.ft 0 / max 1 (nsToFt (s.rd od4408_TG_CANARY_PERIOD n * 1000000))) :
    s.tgCanary n = (let s0 := { s with flt := { s.flt with
        tgDone := sparseSet 0 s.flt.tgDone n (s.ft 0 / max 1 (nsToFt (s.rd od4408_TG_CANARY_PERIOD n * 1000000))) } }
      match ((List.range 256).map (fun i => (sparseGet 0 s.flt.nextTg n + i) % 256)).find? (fun t => bitAt (s.reservedTines (some n)) t) with
      | none => s0
      | some t =>
        let s1 := { s0 with flt := { s0.flt with nextTg := sparseSet 0 s0.flt.nextTg n ((t + 1) % 256) } }
        if State.canaryFits s1 t then State.startCanary s1 t .timetable 0 else State.bump s1 od4400_CANARY_SKIPPED 0 64 1) := by
  unfold State.tgCanary
  exact if_neg (by rw [gated, runs]; simp only [period, mode]; simpa using due)

end Timetable

section Dual
variable {s : State} {q : QuadId} {d : DualHold} (here : s.dualOf q.val = some d)
include here

theorem exec_dualRepeatDone (v : DualVerdict) : exec (.dualRepeatDone q v) s = .next (s.dualRepeat d v).settled := by
  rw [show exec (.dualRepeatDone q v) s = execDualRepeatDone q v s from rfl, execDualRepeatDone, here]
  rfl

theorem exec_dualRepeatTimeout (late : s.past d.started 20000 = true) : exec (.dualRepeatTimeout q) s =
    .next (((if d.agreed.isEmpty then s else s.dualMismatch d 0).bump od4400_DUAL_SKIPPED 0 64 1).dualRelease d).settled := by
  rw [show exec (.dualRepeatTimeout q) s = execDualRepeatTimeout q s from rfl, execDualRepeatTimeout, here]
  exact congrArg State.done (if_pos late)

end Dual

theorem dualRepeat_agrees {s : State} {d : DualHold} (first : d.agreed = []) :
    s.dualRepeat d .unit = (s.bump od4400_DUAL_CHECKS 0 64 1).dualRelease d := by
  unfold State.dualRepeat
  rw [first]
  rfl

/-- A first repeat that does not agree asks a second tine. -/
theorem dualRepeat_second {s : State} {d : DualHold} {t : Nat} (first : d.agreed = [])
    (found : (s.bump od4400_DUAL_CHECKS 0 64 1).dualTine (s.rd od3800_HERD d.ctx) d.tines = some t) :
    s.dualRepeat d .other = (let v := s.bump od4400_DUAL_CHECKS 0 64 1
      { v with flt := { v.flt with dual := v.flt.dual.map (fun x => if x = d then
        { d with tines := d.tines ++ [t], agreed := [false], started := s.clk } else x) } }) := by
  unfold State.dualRepeat
  rw [first]
  dsimp only
  rw [if_neg (by decide), found]

theorem exec_basicModeExit {s : State} (inv : s.Inv) (mode : s.mode = 1) (recovering : s.flt.recovering = true)
    (none_ : ∀ k ∈ s.flt.canaries, k.why ≠ .recover) :
    let v := State.wr { s with flt := { s.flt with recovering := false } } od4400_MODE 0 0
    v.mode = 0 ∧ exec .basicModeExit s = .next (v.emit s.deviceCore evBasicLeft 0 7 s.deviceCore 0 []).retryContribs.release.settled := by
  intro v
  have over_ : s.flt.canaries.any (fun k => k.why == .recover) = false := by
    rw [List.any_eq_false]
    intro k mem
    simpa using none_ k mem
  refine ⟨State.rd_wr_same (s := { s with flt := { s.flt with recovering := false } }) inv.1, ?_⟩
  rw [show exec .basicModeExit s = execBasicModeExit s from rfl, execBasicModeExit, over_, if_pos ⟨mode, recovering, rfl⟩]
  rfl

/-- Settles O39: it holds. -/
theorem canariesAndRepeatsComplete : Obligations.CanariesAndRepeatsComplete := by
  unfold Obligations.CanariesAndRepeatsComplete
  intro s inv
  refine ⟨?_, fun mode recovering none_ => exec_basicModeExit inv mode recovering none_, ?_, fun q d here late => ?_⟩
  · intro n gated period runs mode k s0 due
    have row : exec (.tgCanaryTimer n) s = .next (s.tgCanary n.val).settled := rfl
    rw [row, tgCanary_due gated period runs mode due]
    refine ⟨fun none_ => ?_, fun t one => ?_⟩
    · have absent : ((List.range 256).map (fun i => (sparseGet 0 s.flt.nextTg n.val + i) % 256)).find? (fun t => bitAt 0 t) = none :=
        List.find?_eq_none.mpr fun x _ => by rw [bitAt_eq_testBit, Nat.zero_testBit]; decide
      rw [none_, absent]
    · rw [one, find?_single _ _ t.isLt]
  · intro q d here first v
    rw [exec_dualRepeatDone here, exec_dualRepeatDone here, dualRepeat_agrees first]
    exact ⟨rfl, fun t found => congrArg State.done (dualRepeat_second first found)⟩
  · rw [exec_dualRepeatTimeout here late]
    by_cases first : d.agreed = []
    · rw [if_pos first, first]
      rfl
    · rw [if_neg first, if_neg (by simpa using first)]

end Sys2Proof.Proofs.FailedUnits

namespace Sys2Proof.Proofs.ErrorSources

/-! ## Error sources and event records (R404–R407, R422, Tables 17.2 and 17.4) -/

open Sys2Proof.Machine Sys2Proof.Claims

/-! ### An event leaves the canaries as they are -/

section Canaries
variable (s : State)

theorem deliver_canaries (ev : EventRec) : (s.deliver ev).flt.canaries = s.flt.canaries := by
  unfold State.deliver
  dsimp only
  split
  · rfl
  · split
    · rfl
    · split <;> rfl

theorem deliverSeq_canaries (ev : EventRec) : (s.deliverSeq ev).flt.canaries = s.flt.canaries := by
  unfold State.deliverSeq
  dsimp only
  rw [State.trace_flt, deliver_canaries]

theorem endMerge_canaries (m : MergeRec) : (s.endMerge m).flt.canaries = s.flt.canaries := by
  unfold State.endMerge
  dsimp only
  split
  · rfl
  · exact deliverSeq_canaries _ _

theorem record_canaries (ev : EventRec) : (s.record ev).flt.canaries = s.flt.canaries := by
  unfold State.record
  split
  · split
    · split
      · exact (deliverSeq_canaries _ _).trans (endMerge_canaries _ _)
      · rfl
    · exact deliverSeq_canaries _ _
  · exact deliverSeq_canaries _ _

theorem raise_canaries (q cls event kind unit : Nat) : (s.raise q cls event kind unit).flt.canaries = s.flt.canaries := by
  unfold State.raise
  split <;> rfl

theorem emit_canaries (q event herd kind unit code : Nat) (details : List Nat) :
    (s.emit q event herd kind unit code details).flt.canaries = s.flt.canaries :=
  (raise_canaries _ _ _ _ _ _).trans (record_canaries _ _)

theorem chargeBin_canaries (t cls : Nat) (hot : Int) : (s.chargeBin t cls hot).flt.canaries = s.flt.canaries := by
  have counted : ∀ u : State, ((u.emit (t / 64) evCanaryFail 0 3 t 0 [t, 4 * tempBin hot + cls])).flt.canaries = u.flt.canaries :=
    fun u => emit_canaries u ..
  unfold State.chargeBin
  dsimp only
  split
  · exact counted _
  · split
    · exact counted _
    · exact (emit_canaries _ ..).trans (counted _)

end Canaries

/-! ### The canary in progress fails -/

theorem canaryFails_charged {s : State} {t : Nat} {k : Canary}
    (here : s.flt.canaries.find? (fun k => k.tine == t && decide (k.started ≤ s.clk)) = some k)
    (none_ : ∀ x ∈ s.flt.canaries, x.why ≠ .release) :
    s.canaryFails t = (s.canaryRan k).chargeBin t k.cls (signed 32 k.hot) := by
  have left : ((s.canaryRan k).chargeBin t k.cls (signed 32 k.hot)).flt.canaries = s.flt.canaries.erase k :=
    (chargeBin_canaries _ _ _ _).trans rfl
  have same : (s.flt.canaries.erase k).map (fun (x : Canary) => if x.tine = t ∧ x.why = CanaryWhy.release then
      { x with why := CanaryWhy.sram } else x) = s.flt.canaries.erase k := by
    refine (List.map_congr_left fun x mem => ?_).trans (List.map_id _)
    exact if_neg fun h => none_ x (List.mem_of_mem_erase mem) h.2
  unfold State.canaryFails
  rw [here]
  dsimp only
  rw [left, same, ← left]

/-- Settles O40: it holds. -/
theorem errorSourcesAct : Obligations.ErrorSourcesAct := by
  unfold Obligations.ErrorSourcesAct
  intro s inv
  refine ⟨fun kind unit q loc => rfl, fun e line kind unit => rfl, fun t h live => ?_, fun e line here => ?_, fun e inMap local_ => ?_,
    fun n o here => ?_, fun f => ?_, fun n new => ?_, fun t k here none_ => ?_, fun kind unit q => rfl, fun q => rfl⟩
  · have row : s.detect (.tineMemory t h) = eccReport { (s.endThread t.val h.val ePoison) with flt :=
        { (s.endThread t.val h.val ePoison).flt with
          fourDue := (s.endThread t.val h.val ePoison).flt.fourDue ++ [(t.val, CanaryWhy.sram)] } } (t.val / 64) 0 3 t.val t.val h.val := by
      unfold State.detect
      dsimp only
      rw [live, if_pos rfl]
      rfl
    exact congrArg State.done row
  · have row : s.detect (.dirEntry e line) = eccReport ((s.setDir (lineNo e.val line) dirPoison).poisonTxn (lineNo e.val line)).release
        (s.extQuad e.val) (s.extHerd e.val) 4 (s.extQuad e.val) e.val line := by
      unfold State.detect
      dsimp only
      rw [here, if_pos rfl]
      rfl
    exact congrArg State.done row
  · have row : s.detect (.extentState e) = eccReport (s.revokeOp e.val) (s.extQuad e.val) (s.extHerd e.val) 4 (s.extQuad e.val) e.val 0 := by
      unfold State.detect
      dsimp only
      rw [if_neg (by rw [Option.isNone_iff_eq_none]; rintro (free | none_); exact inMap free; simp [none_] at local_)]
      rfl
    exact congrArg State.done row
  · have row : s.detect (.ownership n) = eccReport (s.revokeOp o.ext) (s.extQuad o.ext) (s.extHerd o.ext) 4 (s.extQuad o.ext) o.ext o.list := by
      unfold State.detect
      dsimp only
      rw [here]
      rfl
    exact congrArg State.done row
  · change State.done (if s.bufferHolds f then _ else _) = _
    split <;> rfl
  · have row : s.detect (.matchEntry n) = { s with mt := { s.mt with bad := s.mt.bad ++ [n.val] } } := by
      unfold State.detect
      dsimp only
      rw [if_neg (by simpa using new)]
    exact congrArg State.done row
  · exact congrArg State.done (canaryFails_charged here none_)

/-! ### Event records -/

theorem issueRecord_due {s u : State} {n : Nat} {r : LogRec} {device : Bool} (due : CopyDue s n r device)
    (posted : s.post (copyRing s r device).1 (if device then s.deviceForm r.ev else eventBytes r.ev true) = some u) :
    s.issueRecord n device = u.copyGone n (if device then { r with devDue := false } else { r with herdDue := false }) := by
  obtain ⟨here, mode, isDue, first, ring, room⟩ := due
  unfold State.issueRecord
  rw [here]
  dsimp only
  cases device with
  | true =>
    have waits : r.devDue = true := isDue
    have ring_ : s.eventRingOf (s.rd od4400_DEVICE_RING 0) 0 = true := ring
    have room_ : s.ringFree (s.rd od4400_DEVICE_RING 0) ≠ 0 := room
    have posted_ : s.post (s.rd od4400_DEVICE_RING 0) (s.deviceForm r.ev) = some u := posted
    simp [mode, waits, first, ring_, room_, posted_]
  | false =>
    have waits : r.herdDue = true := isDue
    have ring_ : s.eventRingOf (s.rd od4408_HERD_RING r.ev.herd) r.ev.herd = true := ring
    have room_ : s.ringFree (s.rd od4408_HERD_RING r.ev.herd) ≠ 0 := room
    have posted_ : s.post (s.rd od4408_HERD_RING r.ev.herd) (eventBytes r.ev true) = some u := posted
    simp [mode, waits, first, ring_, room_, posted_]

/-- Settles O42: it holds. -/
theorem eventRecordsGoOut : Obligations.EventRecordsGoOut := by
  unfold Obligations.EventRecordsGoOut
  intro s inv
  refine ⟨fun n r device u due posted => ?_, fun none_ => ?_, fun m one late => ?_⟩
  · exact congrArg State.done (issueRecord_due due posted)
  · have empty : s.flt.merges.filter (fun m => s.past m.since 1000000) = [] :=
      List.filter_eq_nil_iff.mpr fun m mem => ne_true_of_eq_false (none_ m mem)
    rw [show exec .mergeWindowEnd s = execMergeWindowEnd s from rfl, execMergeWindowEnd, empty]
    rfl
  · have only : s.flt.merges.filter (fun m => s.past m.since 1000000) = [m] := by rw [one, List.filter_singleton, late]; rfl
    rw [show exec .mergeWindowEnd s = execMergeWindowEnd s from rfl, execMergeWindowEnd, only]
    rfl

end Sys2Proof.Proofs.ErrorSources

namespace Sys2Proof.Proofs.ControlInputs

/-! ## Control inputs (R108, R446, R480–R482) -/

open Sys2Proof.Machine Sys2Proof.Claims

section Shorts
variable {s : State} {k : Nat} {short : Word}

/-- Counting short pulses changes their count alone. -/
theorem shorts_rd (inv : s.Inv) {e : Ent} {n : Nat} (hi : e.index < 65536) (hs : e.sub < 256) (ne : e ≠ od4C48_FILTERED) :
    (shorts s k short).rd e n = s.rd e n := State.rd_wr_ne inv.1 hi hs (by decide) (by decide) ne

theorem flushMode_of {u : State} (level : u.rd od4C48_LEVEL 0 ≠ 1) (held : u.pins.held = []) : u.flushMode = false := by
  unfold State.flushMode
  rw [held]
  simpa using level

theorem inRate {u : State} {ns limit : Nat} (within_ : withinRate s k ns limit) (pins : u.pins = s.pins) (clk : u.clk = s.clk) :
    decide (limit < ((sparseGet [] u.pins.edges k).filter (fun t => !u.past t ns) ++ [u.clk]).length) = false := by
  have past : u.past = s.past := by
    funext t0 n
    rw [State.past, clk]
    rfl
  rw [pins, past, List.length_append, decide_eq_false_iff_not]
  exact Nat.not_lt.mpr within_

end Shorts

/-! ### PFW_N -/

section Pfw
variable {s : State} (inv : s.Inv)
include inv

/-- The state of an assertion of PFW_N that is noted. -/
def pfwNoted (s : State) (short : Word) : State := ((edgeNoted (shorts s 0 short) 0 100000000).setSince 0).wr od4C48_LEVEL 0 1

theorem pfwNoted_flushMode (short : Word) : (pfwNoted s short).flushMode = true := by
  have level : (pfwNoted s short).rd od4C48_LEVEL 0 = 1 :=
    State.rd_wr_same (s := (edgeNoted (shorts s 0 short) 0 100000000).setSince 0) (State.canonical_wr inv.1)
  unfold State.flushMode
  rw [level]
  rfl

theorem pfwAssert_eq {short : Word} (off : s.pins.inReset = false) (level : s.rd od4C48_LEVEL 0 = 0) (held : s.pins.held = [])
    (within_ : withinRate s 0 100000000 4) : (shorts s 0 short).pfwAssert = (pfwNoted s short).startFlush := by
  have level_ : (shorts s 0 short).rd od4C48_LEVEL 0 = 0 := (shorts_rd inv (by decide) (by decide) (by decide)).trans level
  have calm : (shorts s 0 short).flushMode = false := flushMode_of (by rw [level_]; decide) held
  have rate := inRate (u := shorts s 0 short) within_ rfl rfl
  unfold State.pfwAssert State.noteEdge
  rw [if_neg (by rw [level_]; exact fun h => h.elim (by decide) (ne_true_of_eq_false off))]
  dsimp only
  rw [rate, calm, if_neg (by decide), if_neg (by decide)]
  rfl

theorem pfwRelease_eq (level : s.rd od4C48_LEVEL 0 = 1) (held : s.pins.held = []) : s.pfwRelease =
    (let u := ((s.wr od4C48_LEVEL 0 0).wr od4C48_STUCK 0 0).setSince 0
    ((u.wr od4C00_FLUSH_STATE 0 0).flushEnded.retryContribs).release) := by
  have low : (((s.wr od4C48_LEVEL 0 0).wr od4C48_STUCK 0 0).setSince 0).rd od4C48_LEVEL 0 = 0 :=
    (State.rd_wr_ne (State.canonical_wr inv.1) (by decide) (by decide) (by decide) (by decide) (by decide)).trans (State.rd_wr_same inv.1)
  have calm : (((s.wr od4C48_LEVEL 0 0).wr od4C48_STUCK 0 0).setSince 0).flushMode = false := flushMode_of (by rw [low]; decide) held
  unfold State.pfwRelease State.endFlush
  rw [if_neg (by rw [level]; decide), calm]
  rfl

end Pfw

/-! ### STOT_N and FT_PPS -/

section Edges
variable {s : State} (inv : s.Inv) {short : Word} (off : s.pins.inReset = false) (held : s.pins.held = [])
include off held

include inv in
theorem stotEdge_eq (free : s.rd od4C48_STUCK 1 = 0) (within_ : withinRate s 1 1000000 16) :
    (shorts s 1 short).stotEdge = ((((edgeNoted (shorts s 1 short) 1 1000000).wr od4C48_LEVEL 1 1).setSince 1).stotEvent 1) := by
  have free_ : (shorts s 1 short).rd od4C48_STUCK 1 = 0 := (shorts_rd inv (by decide) (by decide) (by decide)).trans free
  have rate := inRate (u := shorts s 1 short) within_ rfl rfl
  have pins : (shorts s 1 short).pins = s.pins := rfl
  unfold State.stotEdge State.noteEdge
  rw [if_neg (by rw [pins, off, held]; decide), if_neg (by rw [free_]; decide)]
  dsimp only
  rw [rate, if_neg (by decide)]
  rfl

theorem ppsEdge_eq (rare : ∀ t ts, sparseGet [] s.pins.edges 2 = t :: ts → s.past t 900000000 = true) :
    (shorts s 2 short).ppsEdge = (let v := ((shorts s 2 short).wr od4C48_LEVEL 2 1).wr od4C48_STUCK 2 0
      (State.setSince { v with pins := { v.pins with edges := sparseSet [] v.pins.edges 2 [v.clk] } } 2).ppsSample) := by
  have pins : (((shorts s 2 short).wr od4C48_LEVEL 2 1).wr od4C48_STUCK 2 0).pins = s.pins := rfl
  have past : (((shorts s 2 short).wr od4C48_LEVEL 2 1).wr od4C48_STUCK 2 0).past = s.past := rfl
  unfold State.ppsEdge
  rw [if_neg (show ¬ (shorts s 2 short).pins.inReset = true from ne_true_of_eq_false off)]
  dsimp only
  rw [pins, past, if_neg (by rw [held]; decide), if_neg]
  cases edges : sparseGet [] s.pins.edges 2 with
  | nil => simp
  | cons t ts => simp [rare t ts edges]

end Edges

/-! ### Stuck inputs and rate holds -/

section Stuck
variable {s : State} {k : Nat}

theorem inputStuck_early (early : s.past (s.levelSince k) (stuckNs k) = false) : s.inputStuck k = s := by
  unfold State.inputStuck
  rw [early]
  rfl

theorem rateRelease_early (early : s.past (s.levelSince k) (releaseNs k) = false) : s.rateRelease k = s := by
  unfold State.rateRelease
  rw [early]
  rfl

theorem inputStuck_late (late : s.past (s.levelSince k) (stuckNs k) = true) (other : k ≠ 3) (level : s.rd od4C48_LEVEL k ≠ 0)
    (free : s.rd od4C48_STUCK k ≠ 1) (mine : k = 1 → s.stotDriven = false) :
    s.inputStuck k = (let s1 := (s.wr od4C48_STUCK k 1).wr od4C48_STUCK_TIME k (s.ft 0)
      if k = 0 then s1.flushDone.release else s1) := by
  unfold State.inputStuck
  rw [late, if_neg (by decide), if_neg other]
  refine if_neg ?_
  rintro (low | stuck | ⟨one, driven⟩)
  · exact level low
  · exact free stuck
  · exact ne_true_of_eq_false (mine one) driven

theorem inputStuck_reset (late : s.past (s.levelSince 3) (stuckNs 3) = true) : s.inputStuck 3 =
    if s.pins.low then { s with pins := { s.pins with cause := if s.pins.cause = 4 then 4 else 3 } } else s := by
  unfold State.inputStuck
  rw [late, if_neg (by decide), if_pos rfl]

theorem rateRelease_edge (late : s.past (s.levelSince k) (releaseNs k) = true) (which : k = 1 ∨ k = 2) :
    s.rateRelease k = ((s.rateFree k).wr od4C48_LEVEL k 0).wr od4C48_STUCK k 0 := by
  unfold State.rateRelease
  rw [late, if_neg (by decide), if_neg (by omega), if_neg (by omega)]

theorem rateRelease_pfw (late : s.past (s.levelSince 0) (releaseNs 0) = true) (level : s.rd od4C48_LEVEL 0 = 0) (held : 0 ∈ s.pins.held) :
    s.rateRelease 0 = (s.rateFree 0).endFlush := by
  unfold State.rateRelease
  rw [late, if_neg (by decide), if_pos rfl]
  exact if_pos ⟨List.contains_iff_mem.mpr held, level⟩

theorem rateRelease_reset (late : s.past (s.levelSince 3) (releaseNs 3) = true) (low : s.pins.low = false) (held : 3 ∈ s.pins.held) :
    s.rateRelease 3 = (s.rateFree 3).leaveReset := by
  unfold State.rateRelease
  rw [late, if_neg (by decide), if_neg (by decide), if_pos rfl]
  exact if_pos ⟨List.contains_iff_mem.mpr held, by rw [low]; rfl⟩

end Stuck

/-- Settles O43: it holds. -/
theorem controlInputsComplete : Obligations.ControlInputsComplete := by
  unfold Obligations.ControlInputsComplete
  intro s inv off
  refine ⟨?_, fun level held => ?_, ?_, ?_, fun flushing => ?_, fun k which late level free mine => ?_, fun late level free => ?_,
    fun late => ?_, fun k early => ?_, fun k which late => ?_, fun late level held => ?_, fun late low held => ?_, fun k early => ?_⟩
  · intro short v level held within_ u
    exact ⟨congrArg State.done (pfwAssert_eq inv off level held within_), pfwNoted_flushMode inv short⟩
  · exact congrArg State.done (pfwRelease_eq inv level held)
  · intro short v held free within_
    exact congrArg State.done (stotEdge_eq inv off held free within_)
  · intro short v held rare
    exact congrArg State.done (ppsEdge_eq off held rare)
  · exact congrArg State.done (if_pos flushing)
  · refine congrArg State.done ((inputStuck_late late (by omega) level free mine).trans (if_neg (by omega)))
  · exact congrArg State.done (inputStuck_late (k := 0) late (by decide) level free (fun h => absurd h (by decide)))
  · exact congrArg State.done (inputStuck_reset late)
  · exact congrArg State.done (inputStuck_early early)
  · exact congrArg State.done (rateRelease_edge late which)
  · exact congrArg State.done (rateRelease_pfw late level held)
  · exact congrArg State.done (rateRelease_reset late low held)
  · exact congrArg State.done (rateRelease_early early)

end Sys2Proof.Proofs.ControlInputs

namespace Sys2Proof.Proofs.ResetAndBoot

/-! ## Reset and boot (R485–R489, Table 20.8) -/

open Sys2Proof.Machine Sys2Proof.Claims Sys2Proof.Proofs.ControlInputs

/-! ### What a reset clears -/

/-- A key that a table does not list holds the default. -/
theorem sparseGet_of_not_listed {α : Type} (d : α) (m : Sparse α) (x : Nat) (absent : ∀ kv ∈ m, kv.1 ≠ x) : sparseGet d m x = d := by
  induction m with
  | nil => rfl
  | cons a m ih =>
    obtain ⟨k, v⟩ := a
    have ne : x ≠ k := fun h => absent (k, v) List.mem_cons_self h.symm
    unfold sparseGet
    rw [if_neg ne, ih fun kv mem => absent kv (List.mem_cons_of_mem _ mem)]
    exact ite_self d

section ResetAll
variable {s : State}

/-- An entry that does not outlast RESET_N has its value after reset. -/
theorem rd_resetAll {e : Ent} {n : Nat} (gone : keptKey (odKey e n) = false) : s.resetAll.rd e n = State.reset.rd e n := by
  refine sparseGet_of_not_listed _ _ _ fun kv mem same => ?_
  have kept := (List.mem_filter.mp (show kv ∈ s.od.filter (fun kv => keptKey kv.1) from mem)).2
  rw [same, gone] at kept
  exact Bool.noConfusion kept

theorem keptKey_of_index {e : Ent} {n : Nat} (hi : e.index < 65536) (hs : e.sub < 256) (plain : e.index ∉ [0x2C40, 0x2C30, 0x4C40]) :
    keptKey (odKey e n) = false := by
  have index : odKey e n / 256 % 65536 = e.index := by
    unfold odKey odKeyOf
    omega
  have cause : odKey e n ≠ odKey od4C40_RESET_CAUSE 0 := fun same => by
    have names := (odKey_inj hi hs (by decide) (by decide) same).1
    exact plain (by rw [names]; decide)
  simp only [List.mem_cons, List.not_mem_nil, or_false, not_or] at plain
  unfold keptKey
  dsimp only
  rw [index]
  simp [plain, cause]

theorem outlasts_resetAll : Outlasts s s.resetAll := ⟨rfl, rfl, ⟨rfl, rfl⟩, rfl, rfl, rfl, ⟨rfl, rfl⟩, ⟨rfl, rfl⟩⟩

theorem cleared_resetAll : Cleared s.resetAll :=
  ⟨rfl, rfl, rfl, rfl, rfl, ⟨rfl, rfl⟩, fun _ _ => rd_resetAll (keptKey_of_index (by decide) (by decide) (by decide)),
    fun _ _ => rd_resetAll (keptKey_of_index (by decide) (by decide) (by decide))⟩

theorem canonical_resetAll (inv : s.Inv) : s.resetAll.canonical := (State.resetAll_kept (Kept.self inv)).inv.1

end ResetAll

section Enter
variable {s u : State} {cause : Nat}

theorem outlasts_enterReset (same : Outlasts s u) : Outlasts s (u.enterReset cause) :=
  ⟨same.life, same.fuses, same.slots, same.journal, same.flash, same.map, same.copies, same.clk⟩

theorem cleared_enterReset : Cleared (u.enterReset cause) :=
  have c : Cleared u.resetAll := cleared_resetAll
  ⟨c.cmds, c.tines, c.requests, c.frames, c.memory, c.keys, c.herds, c.ports⟩

theorem outlasts_leaveReset (same : Outlasts s u) : Outlasts s u.leaveReset :=
  ⟨same.life, same.fuses, same.slots, same.journal, same.flash, same.map, same.copies, same.clk⟩

theorem rd_leaveReset (inv : u.Inv) {e : Ent} {n : Nat} (hi : e.index < 65536) (hs : e.sub < 256) (ne : e ≠ od4C40_RESET_CAUSE)
    (gone : keptKey (odKey e n) = false) : u.leaveReset.rd e n = State.reset.rd e n :=
  (State.rd_wr_ne (canonical_resetAll inv) hi hs (by decide) (by decide) ne).trans (rd_resetAll gone)

theorem cleared_leaveReset (inv : u.Inv) : Cleared u.leaveReset :=
  have c : Cleared u.resetAll := cleared_resetAll
  ⟨c.cmds, c.tines, c.requests, c.frames, c.memory, c.keys,
    fun _ _ => rd_leaveReset inv (by decide) (by decide) (by decide) (keptKey_of_index (by decide) (by decide) (by decide)),
    fun _ _ => rd_leaveReset inv (by decide) (by decide) (by decide) (keptKey_of_index (by decide) (by decide) (by decide))⟩

end Enter

section Assert
variable {s : State}

theorem resetAssert_eq (high : s.pins.low = false) (held : s.pins.held = []) (within_ : withinRate s 3 1000000000 8) :
    s.resetAssert = (edgeNoted s 3 1000000000).enterReset 1 := by
  have rate := inRate (u := s) within_ rfl rfl
  unfold State.resetAssert State.noteEdge
  rw [high, if_neg (by decide)]
  dsimp only
  rw [rate, show s.pins.held.contains 3 = false by rw [held]; rfl, if_neg (by decide), if_neg (by decide)]
  rfl

theorem resetRelease_eq (low : s.pins.low = true) (held : s.pins.held = []) :
    s.resetRelease = (State.setSince { s with pins := { s.pins with low := false } } 3).leaveReset := by
  unfold State.resetRelease
  rw [low, if_neg (by decide)]
  exact if_neg (by
    rw [show (State.setSince { s with pins := { s.pins with low := false } } 3).pins.held = [] from held]
    decide)

end Assert

/-- Settles O44: it holds. -/
theorem resetClearsTheMachine : Obligations.ResetClearsTheMachine := by
  unfold Obligations.ResetClearsTheMachine
  intro s inv
  have here : Outlasts s s := ⟨rfl, rfl, ⟨rfl, rfl⟩, rfl, rfl, rfl, ⟨rfl, rfl⟩, ⟨rfl, rfl⟩⟩
  refine ⟨fun high held within_ => ?_, ?_, fun low held => ?_, fun rail running => ?_⟩
  · exact ⟨_, congrArg State.done (resetAssert_eq high held within_),
      outlasts_enterReset ⟨rfl, rfl, ⟨rfl, rfl⟩, rfl, rfl, rfl, ⟨rfl, rfl⟩, ⟨rfl, rfl⟩⟩, cleared_enterReset, rfl, rfl⟩
  · exact ⟨s.enterReset 4, rfl, outlasts_enterReset here, cleared_enterReset, rfl, rfl⟩
  · have inv' : (State.setSince { s with pins := { s.pins with low := false } } 3).Inv := inv
    refine ⟨_, congrArg State.done (resetRelease_eq low held),
      outlasts_leaveReset ⟨rfl, rfl, ⟨rfl, rfl⟩, rfl, rfl, rfl, ⟨rfl, rfl⟩, ⟨rfl, rfl⟩⟩, cleared_leaveReset inv', rfl,
      State.rd_wr_same (canonical_resetAll inv'), ?_⟩
    exact (rd_leaveReset inv' (by decide) (by decide) (by decide) (by decide)).trans (by decide)
  · exact congrArg State.done (if_neg (ne_true_of_eq_false running))

/-! ### Boot -/

section Boot
variable {s : State} {r : BootResult}

theorem bootStep_eq (off : s.pins.inReset = false) (rom : s.pins.recovery = false)
    (calm : s.rd od4C40_BOOT_STAGE 0 < 2 → s.flushMode = false) : s.bootStep r =
    if s.rd od4C40_BOOT_STAGE 0 = 0 then (if r.firstStage then s.wr od4C40_BOOT_STAGE 0 1 else s.recover)
    else if s.rd od4C40_BOOT_STAGE 0 = 1 then s.bootFirst
    else if s.rd od4C40_BOOT_STAGE 0 = 2 then
      (let v := foldState s (List.range 8) (fun u k => if r.hbms.getLsbD k then u else u.stackLost k)
      if v.bootCanaries then v else v.wr od4C40_BOOT_STAGE 0 3)
    else if s.rd od4C40_BOOT_STAGE 0 = 3 then (if r.jiyth then s.jiythUp else s.wr od1120_JY_STATE 0 1)
    else if s.rd od4C40_BOOT_STAGE 0 = 4 then s.wr od4C40_BOOT_STAGE 0 5
    else s := by
  unfold State.bootStep
  refine if_neg ?_
  rintro (reset | recovery | ⟨early, flushing⟩)
  · exact ne_true_of_eq_false off reset
  · exact ne_true_of_eq_false rom recovery
  · exact ne_true_of_eq_false (calm early) flushing

theorem foldl_keep {α β : Type} (l : List β) (f : α → β → α) (a : α) (same : ∀ b ∈ l, f a b = a) : l.foldl f a = a := by
  induction l with
  | nil => rfl
  | cons b l ih =>
    rw [List.foldl_cons, same b List.mem_cons_self]
    exact ih fun x mem => same x (List.mem_cons_of_mem _ mem)

theorem exec_jiythRetrain (off : s.pins.inReset = false) (down : s.rd od1120_JY_STATE 0 ≠ 2) (booted : 3 ≤ s.rd od4C40_BOOT_STAGE 0)
    (power : s.rd od4C00_STATE 0 ≤ 3) (up : Bool) :
    exec (.jiythRetrain up) s = .next (if up then s.jiythUp else s.wr od1120_JY_STATE 0 1).settled := by
  rw [show exec (.jiythRetrain up) s = execJiythRetrain up s from rfl, execJiythRetrain, if_neg]
  · rfl
  · rintro (isUp | early | reset | off_)
    · exact down isUp
    · omega
    · exact ne_true_of_eq_false off reset
    · omega

end Boot

/-- Settles O45: it holds. -/
theorem bootGoesThroughItsStages : Obligations.BootGoesThroughItsStages := by
  unfold Obligations.BootGoesThroughItsStages
  intro r s inv off
  refine ⟨fun rom => ?_, fun recovery => ?_, fun down booted power => ?_, fun up => ?_⟩
  · intro st
    have row : exec (.bootStageAdvance r) s = .next (s.bootStep r).settled := rfl
    rw [row]
    refine ⟨fun zero calm => ?_, fun one calm => ?_, fun two => ⟨?_, fun all => ?_⟩, fun three => ?_, fun four => ?_⟩
    · rw [bootStep_eq off rom fun _ => calm, if_pos zero]
      rfl
    · rw [bootStep_eq off rom fun _ => calm, if_neg (by omega), if_pos one]
    · rw [bootStep_eq off rom (by omega), if_neg (by omega), if_neg (by omega), if_pos two]
    · refine foldl_keep _ _ _ fun k mem => if_pos ?_
      have low := List.mem_range.mp mem
      rw [all]
      interval_cases k <;> decide
    · rw [bootStep_eq off rom (by omega), if_neg (by omega), if_neg (by omega), if_neg (by omega), if_pos three]
    · rw [bootStep_eq off rom (by omega), if_neg (by omega), if_neg (by omega), if_neg (by omega), if_neg (by omega), if_pos four]
  · exact congrArg State.done (if_pos (.inr (.inl recovery)))
  · exact ⟨exec_jiythRetrain off down booted power true, exec_jiythRetrain off down booted power false⟩
  · exact congrArg State.done (if_pos up)

end Sys2Proof.Proofs.ResetAndBoot

namespace Sys2Proof.Proofs.ImagesAndPower

/-! ## Images, reports, operating points and the governor (R380–R385, R454–R470) -/

open Sys2Proof.Machine Sys2Proof.Claims Sys2Proof.Proofs.TimeCommands

/-! ### Images -/

section Images
variable {s : State}

theorem fuses_setFwSlot (u : State) (k : Nat) (x : FwSlot) : (u.setFwSlot k x).sec.fuses = u.sec.fuses := by
  unfold State.setFwSlot
  split <;> rfl

theorem installEnd_eq (runs : s.sec.install.isSome = true) (ok : Bool) :
    s.installEnd ok = (State.setFwSlot { s with sec := { s.sec with install := none } } (1 - s.sec.running)
      { s.fwSlot (1 - s.sec.running) with valid := ok }).wr od4110_INSTALL_RESULT 0 (if ok then abOk else abStorage) := by
  have some_ : ¬ s.sec.install.isNone = true := by
    rw [← Option.not_isSome, runs]
    decide
  unfold State.installEnd
  exact if_neg some_

theorem fuseBlown_eq (fusing : s.sec.fusing = true) :
    s.fuseBlown = ((((State.setFwSlot { s with sec := { s.sec with fuses := s.sec.fuses + 1, fusing := false } } s.sec.running
      { s.fwSlot s.sec.running with mark := 1 }).wr od5000_ROLLBACK_FUSES 0 (s.sec.fuses + 1)).ledgerRecord).wr od4110_FW_STATE 0 0) := by
  unfold State.fuseBlown State.finishCommit
  rw [if_pos fusing]
  dsimp only
  rw [fuses_setFwSlot]

theorem velvetExpiry_eq {t : Nat} (trial : s.sec.velvet = some t) (late : s.past t (s.rd od4110_VELVET_TIMEOUT 0 * 1000000000) = true) :
    s.velvetExpiry = ((State.setFwSlot { s with sec := { s.sec with velvet := none } } s.sec.running
      { s.fwSlot s.sec.running with mark := 3 }).wr od4110_FW_STATE 0 2).emit 0 evVelvetExpired 0 14 0 0 [s.sec.running] := by
  unfold State.velvetExpiry
  rw [trial]
  exact if_pos late

end Images

/-! ### Reports -/

section Reports
variable {s : State} {x : Nat}

/-- A report with its body, before its state changes. -/
def reported (s : State) (x : Nat) : State :=
  let body := leNat (bytesOfWords (s.attest x).body)
  let sig := Config.falcon s.freeN body % 2 ^ 10240
  (((s.fresh.setAttest x ⟨none, (s.attest x).body⟩).wr od4138_REPORT (3 * x) body).wr od4138_REPORT (3 * x + 1) (sig % 2 ^ 8192)).wr
    od4138_REPORT (3 * x + 2) (sig / 2 ^ 8192)

theorem reportDone_eq (building : s.rd od4130_STATE x = 1) (level : s.rd od4100_DEBUG_EFFECTIVE 0 ≠ 3) :
    s.reportDone x = (reported s x).wr od4130_STATE x 2 := by
  unfold State.reportDone
  exact if_neg fun h => h.elim (fun ne => ne building) level

theorem setAttest_eq (u : State) (a : Attest) : u.setAttest x a = { u with sec := (u.setAttest x a).sec } := by
  unfold State.setAttest
  split
  · rfl
  · split <;> rfl

theorem attest_setAttest_other (u : State) (a : Attest) : ∀ {p q : OdPath}, q ≠ p →
    (u.setAttest (pathIx p) a).attest (pathIx q) = u.attest (pathIx q)
  | .j, .b, _ | .j, .f, _ | .b, .j, _ | .b, .f, _ | .f, .j, _ | .f, .b, _ => rfl
  | .j, .j, ne | .b, .b, ne | .f, .f, ne => absurd rfl ne

theorem pathIx_inj : ∀ {p q : OdPath}, pathIx q = pathIx p → q = p
  | .j, .j, _ | .b, .b, _ | .f, .f, _ => rfl

variable (inv : s.Inv)
include inv

theorem canonical_setAttest (a : Attest) : (s.fresh.setAttest x a).canonical := by
  unfold State.setAttest
  split
  · exact inv.1
  · split <;> exact inv.1

theorem canonical_reported : (reported s x).canonical :=
  State.canonical_wr (State.canonical_wr (State.canonical_wr (canonical_setAttest inv _)))

/-- Of the object dictionary a report writes its own alone. -/
theorem rd_reported {e : Ent} {n : Nat} (hi : e.index < 65536) (hs : e.sub < 256) (ne : e ≠ od4138_REPORT) :
    (reported s x).rd e n = s.rd e n := by
  have can := canonical_setAttest (x := x) inv ⟨none, (s.attest x).body⟩
  unfold reported
  dsimp only
  rw [State.rd_wr_ne (State.canonical_wr (State.canonical_wr can)) hi hs (by decide) (by decide) ne,
    State.rd_wr_ne (State.canonical_wr can) hi hs (by decide) (by decide) ne, State.rd_wr_ne can hi hs (by decide) (by decide) ne, setAttest_eq]
  rfl

theorem rd_reported_body : (reported s x).rd od4138_REPORT (3 * x) = leNat (bytesOfWords (s.attest x).body) := by
  have can := canonical_setAttest (x := x) inv ⟨none, (s.attest x).body⟩
  have other : ∀ k, k ≠ 0 → odKey od4138_REPORT (3 * x) ≠ odKey od4138_REPORT (3 * x + k) := fun k nonzero same => by
    have := (odKey_inj (by decide) (by decide) (by decide) (by decide) same).2
    omega
  unfold reported
  dsimp only
  rw [State.rd_wr_other (State.canonical_wr (State.canonical_wr can)) (other 2 (by decide)),
    State.rd_wr_other (State.canonical_wr can) (other 1 (by decide)), State.rd_wr_same can]

end Reports

/-- Settles O46: it holds. -/
theorem imagesAndReportsComplete : Obligations.ImagesAndReportsComplete := by
  unfold Obligations.ImagesAndReportsComplete
  intro s inv
  refine ⟨fun ok runs => ?_, fun fusing => ?_, fun t trial late => ?_, fun p building level => ?_⟩
  · exact congrArg State.done (installEnd_eq runs ok)
  · exact congrArg State.done (fuseBlown_eq fusing)
  · exact congrArg State.done (velvetExpiry_eq trial late)
  · have can := canonical_reported (x := pathIx p) inv
    have frame := setAttest_eq (x := pathIx p) s.fresh ⟨none, (s.attest (pathIx p)).body⟩
    have pool := congrArg State.pool frame
    have cpu := congrArg State.cpu frame
    have tr := congrArg State.tr frame
    refine ⟨_, congrArg State.done (reportDone_eq building level), State.rd_wr_same can, ?_, ?_, ?_, ?_, fun q ne => ⟨?_, ?_⟩⟩
    · exact (State.rd_wr_ne can (by decide) (by decide) (by decide) (by decide) (by decide)).trans (rd_reported_body inv)
    · exact pool
    · exact cpu
    · exact tr
    · refine (State.rd_wr_other can fun same => ne (pathIx_inj ?_)).trans (rd_reported inv (by decide) (by decide) (by decide))
      exact (odKey_inj (by decide) (by decide) (by decide) (by decide) same).2
    · exact attest_setAttest_other s.fresh _ ne

/-! ### Operating points -/

section Points
variable {s : State} {q x : Nat}

/-- A step has ended: its point is in force, and no step runs. -/
def stepped (s : State) (q x : Nat) : State :=
  State.wr { s with pwr := { s.pwr with stepping := quadSet s.pwr.stepping q none } } od4C08_POINT q x

/-- The next step starts where the point in force is not the one wanted; the point wanted stays. -/
theorem startStep_eq {u : State} (idle : quadGet u.pwr.stepping q = none) : u.startStep q =
    { u with pwr := { u.pwr with stepping := quadSet u.pwr.stepping q (if u.rd od4C08_POINT q = u.pointWanted q then none else
      some (if u.rd od4C08_POINT q < u.pointWanted q then u.rd od4C08_POINT q + 1 else u.rd od4C08_POINT q - 1)) } } := by
  unfold State.startStep
  dsimp only
  by_cases there : u.rd od4C08_POINT q = u.pointWanted q
  · have same : quadSet u.pwr.stepping q none = u.pwr.stepping := by
      rw [← idle]
      unfold quadSet quadGet
      split
      · rfl
      · split
        · rfl
        · split <;> rfl
    rw [if_pos (.inr there), if_pos there, same]
  · rw [if_neg (by rw [idle]; simp [there]), if_neg there]

section Done
variable {q : QuadId}

theorem exec_pointStepDone (stepping : quadGet s.pwr.stepping q.val = some x) :
    exec (.pointStepDone q) s = .next ((stepped s q.val x).startStep q.val).settled := by
  rw [show exec (.pointStepDone q) s = execPointStepDone q s from rfl, execPointStepDone, stepping]
  rfl

theorem stepped_idle : quadGet (stepped s q.val x).pwr.stepping q.val = none := quadGet_quadSet_same ..

theorem stepped_point (inv : s.Inv) : (stepped s q.val x).rd od4C08_POINT q.val = x :=
  State.rd_wr_same (s := { s with pwr := { s.pwr with stepping := quadSet s.pwr.stepping q.val none } }) inv.1

theorem stepped_point_other (inv : s.Inv) {k : Nat} (ne : k ≠ q.val) : (stepped s q.val x).rd od4C08_POINT k = s.rd od4C08_POINT k :=
  State.rd_wr_other (s := { s with pwr := { s.pwr with stepping := quadSet s.pwr.stepping q.val none } }) inv.1 fun same =>
    ne (odKey_inj (by decide) (by decide) (by decide) (by decide) same).2

end Done
end Points

/-! ### The governor -/

section Govern
variable {s : State} {mean clk : Nat} (now : s.clk = clk)

include now in
theorem govern_down (high : s.powerCap < mean) (free : s.pwr.acting = false ∨ s.past s.pwr.acted 100000 = true) :
    s.govern mean = (let u := State.governDown { s with pwr := { s.pwr with acting := true, below := none } }
      { u with pwr := { u.pwr with acted := clk } }) := by
  have acting : (decide (s.powerCap < mean) || (s.pwr.acting && decide (s.powerCap * 98 ≤ mean * 100))) = true := by simp [high]
  have below : ¬ mean * 100 < s.powerCap * 90 := by omega
  unfold State.govern
  dsimp only
  rw [acting, if_neg below, if_pos rfl, if_pos (by rcases free with h | h <;> simp [h]), now]

theorem govern_hold (low : mean ≤ s.powerCap) (high : s.powerCap * 90 ≤ mean * 100)
    (free : s.pwr.acting = false ∨ mean * 100 < s.powerCap * 98) : s.govern mean = { s with pwr := { s.pwr with acting := false, below := none } } := by
  have acting : (decide (s.powerCap < mean) || (s.pwr.acting && decide (s.powerCap * 98 ≤ mean * 100))) = false := by
    rw [decide_eq_false (Nat.not_lt.mpr low), Bool.false_or]
    rcases free with h | h
    · rw [h, Bool.false_and]
    · rw [decide_eq_false (Nat.not_le.mpr h), Bool.and_false]
  unfold State.govern
  dsimp only
  rw [acting, if_neg (Nat.not_lt.mpr high), if_neg (by decide)]

include now in
theorem govern_up {t : Nat} (low : mean * 100 < s.powerCap * 90) (since : s.pwr.below = some t) (long : s.past t 10000000 = true)
    (rested : s.past s.pwr.acted 1000000 = true) (some_ : s.pwr.actions ≠ []) :
    s.govern mean = (let u := State.governUp { s with pwr := { s.pwr with acting := false, below := some t } }
      { u with pwr := { u.pwr with acted := clk } }) := by
  have acting : (decide (s.powerCap < mean) || (s.pwr.acting && decide (s.powerCap * 98 ≤ mean * 100))) = false := by
    rw [decide_eq_false (by omega), decide_eq_false (by omega), Bool.and_false]
    rfl
  unfold State.govern
  dsimp only
  rw [acting, if_pos low, since, if_neg (by decide)]
  dsimp only [Option.getD_some]
  rw [if_pos (by simp [long, rested, some_]), now]

theorem foldState_clk (l : List Nat) (f : State → Nat → State) (same : ∀ u k, (f u k).clk = u.clk) :
    ∀ s : State, (foldState s l f).clk = s.clk := by
  induction l with
  | nil => exact fun _ => rfl
  | cons k l ih => exact fun s => (ih (f s k)).trans (same s k)

theorem measured_clk (r : PowerReading) : (s.measured r).clk = s.clk := by
  unfold State.measured
  dsimp only
  rw [foldState_clk (List.range 13), foldState_clk [0, 1, 2, 3]]
  · rfl
  · exact fun _ _ => rfl
  · exact fun _ _ => rfl

end Govern

/-! ### References and transitions -/

section References
variable {s : State} {r : ReferenceReading}

theorem checkRefs_same (same : refsLost r = s.pwr.refLost) : s.checkRefs r = s := by
  have none_ : (s.pwr.refLost.filter (fun k => !s.pwr.refLost.contains k &&
      (decide (2 ≤ k) || !(s.pwr.refLost.contains 0 && s.pwr.refLost.contains 1)))) = [] :=
    List.filter_eq_nil_iff.mpr fun k mem => by simp [mem]
  have back : (s.pwr.refLost.filter (fun k => decide (2 ≤ k) && !s.pwr.refLost.contains k)) = [] :=
    List.filter_eq_nil_iff.mpr fun k mem => by simp [mem]
  unfold State.checkRefs
  dsimp only
  rw [same, none_, back, if_neg (fun h => by rw [h.1] at h; exact Bool.noConfusion h.2)]
  rfl

theorem checkRefs_lost {k : Nat} (was : s.pwr.refLost = []) (now : refsLost r = [k]) :
    s.checkRefs r = State.refGone { s with pwr := { s.pwr with refLost := [k] } } k := by
  have one : ([k].contains 0 && [k].contains 1) = false := by
    by_cases zero : k = 0
    · simp [zero]
    · simp [Ne.symm zero]
  unfold State.checkRefs
  dsimp only
  rw [was, now]
  simp only [one]
  simp [foldState]

theorem checkRefs_back {k : Nat} (was : s.pwr.refLost = [k + 2]) (now : refsLost r = []) :
    s.checkRefs r = foldState { s with pwr := { s.pwr with refLost := [] } } (quadPorts k) State.startPort := by
  unfold State.checkRefs
  dsimp only
  rw [was, now]
  simp [foldState]

end References

theorem transitionDone_eq {s : State} {t u : Nat} (runs : s.pwr.trans = some (t, u)) (free : t < 32 ∨ s.ungateDue (t % 4) = false) :
    s.transitionDone = (let v := if t = 3 ∨ t = 4 then s.flushAll else s
      (State.wr { v with pwr := { v.pwr with trans := none } } od4C00_TRANSITION 0 0).enterPower) := by
  unfold State.transitionDone
  rw [runs]
  refine if_neg ?_
  rintro ⟨ungating, due⟩
  rcases free with h | h
  · omega
  · exact ne_true_of_eq_false h due

/-- Settles O47: it holds. -/
theorem powerAndHeatComplete : Obligations.PowerAndHeatComplete := by
  unfold Obligations.PowerAndHeatComplete
  intro s inv
  refine ⟨fun q x stepping => ?_, fun q => rfl, ?_, fun r => rfl, fun r => ⟨fun same => ?_, fun k was now => ?_, fun k was now => ?_⟩, ?_⟩
  · have next := startStep_eq (stepped_idle (s := s) (q := q) (x := x))
    refine ⟨_, exec_pointStepDone stepping, ?_, fun k hk ne => ⟨?_, ?_⟩, ?_, ?_⟩
    · rw [next]
      exact stepped_point inv
    · rw [next]
      exact stepped_point_other inv ne
    · rw [next]
      exact (quadGet_quadSet_other _ _ hk q.isLt ne).trans (quadGet_quadSet_other _ _ hk q.isLt ne)
    · rw [next, stepped_point inv]
      exact quadGet_quadSet_same ..
    · rw [next]
      rfl
  · intro r v
    refine ⟨rfl, fun high free => ?_, fun low high free => govern_hold low high free, fun t low since long rested some_ => ?_⟩
    · exact govern_down (measured_clk r) high free
    · exact govern_up (measured_clk r) low since long rested some_
  · exact congrArg State.done (checkRefs_same same)
  · exact congrArg State.done (checkRefs_lost was now)
  · exact congrArg State.done (checkRefs_back was now)
  · intro t u runs free v
    exact congrArg State.done (transitionDone_eq runs free)

end Sys2Proof.Proofs.ImagesAndPower

namespace Sys2Proof.Proofs.DebugCommands

/-! ## Dumps, the wait-for graph and the hang watchdog (R448–R453) -/

open Sys2Proof.Machine Sys2Proof.Claims

section Mode
variable {s u : State}

theorem stotMode_congr (mode : u.rd od48A0_STOT_MODE 0 = s.rd od48A0_STOT_MODE 0)
    (level : u.rd od4100_DEBUG_EFFECTIVE 0 = s.rd od4100_DEBUG_EFFECTIVE 0) : u.stotMode = s.stotMode := by
  unfold State.stotMode
  rw [mode, level]

end Mode

/-! ### The graph -/

section Graph
variable {s : State}

theorem startBuild_idle {dump : Bool} (idle : s.dbg.building = none) : s.startBuild dump =
    State.wr { s with dbg := { s.dbg with building := some s.clk, buildDump := dump } } od48B0_STATE 0 1 := by
  unfold State.startBuild
  rw [idle]
  rfl

theorem startBuild_rd (inv : s.Inv) {dump : Bool} {e : Ent} {n : Nat} (hi : e.index < 65536) (hs : e.sub < 256) (ne : e ≠ od48B0_STATE) :
    (s.startBuild dump).rd e n = s.rd e n := by
  unfold State.startBuild
  split
  · rfl
  · exact State.rd_wr_ne (s := { s with dbg := { s.dbg with building := some s.clk, buildDump := dump } }) inv.1 hi hs (by decide)
      (by decide) ne

section Entries
variable {u : State} (can : u.canonical) (g : WaitGraph) (stalled : Nat) (cut : Bool)

/-- The entries of a graph, in the order in which they are written. -/
def graphWrites (u : State) (g : WaitGraph) (stalled : Nat) (cut : Bool) : List (Ent × Nat) :=
  [(od48B0_STATE, 0), (od48B0_NODES, g.nodes.length), (od48B0_EDGES, g.edges.length), (od48B0_CYCLES, min 65535 g.cycles.length),
    (od48B0_STALLED, min 65535 stalled), (od48B0_TRUNCATED, if cut then 1 else 0), (od48B0_BUILT, u.ft 0)]

theorem graphEntries_eq : u.graphEntries g stalled cut = (graphWrites u g stalled cut).foldl (fun v x => v.wr x.1 0 x.2) u := rfl

/-- Writes of other entries leave an entry as it was. -/
theorem foldl_wr_other {e : Ent} {n : Nat} (hi : e.index < 65536) (hs : e.sub < 256) (l : List (Ent × Nat)) : ∀ u : State, u.canonical →
    (∀ x ∈ l, x.1.index < 65536 ∧ x.1.sub < 256 ∧ e ≠ x.1) →
    (l.foldl (fun v x => v.wr x.1 0 x.2) u).canonical ∧ (l.foldl (fun v x => v.wr x.1 0 x.2) u).rd e n = u.rd e n := by
  induction l with
  | nil => exact fun u can _ => ⟨can, rfl⟩
  | cons x l ih =>
    intro u can others
    obtain ⟨hi', hs', ne⟩ := others x List.mem_cons_self
    obtain ⟨can', same⟩ := ih (u.wr x.1 0 x.2) (State.canonical_wr can) fun y mem => others y (List.mem_cons_of_mem _ mem)
    exact ⟨can', same.trans (State.rd_wr_ne can hi hs hi' hs' ne)⟩

/-- The entry that a write names holds its value where no later write names it. -/
theorem foldl_wr_same {e : Ent} {v : Nat} (hi : e.index < 65536) (hs : e.sub < 256) (l m : List (Ent × Nat)) (can : u.canonical)
    (after : ∀ x ∈ m, x.1.index < 65536 ∧ x.1.sub < 256 ∧ e ≠ x.1) :
    ((l ++ (e, v) :: m).foldl (fun w x => w.wr x.1 0 x.2) u).rd e 0 = v := by
  have can' : ∀ (l : List (Ent × Nat)) (u : State), u.canonical → (l.foldl (fun w x => w.wr x.1 0 x.2) u).canonical := by
    intro l
    induction l with
    | nil => exact fun u can => can
    | cons x l ih => exact fun u can => ih _ (State.canonical_wr can)
  rw [List.foldl_append, List.foldl_cons]
  exact ((foldl_wr_other hi hs m _ (State.canonical_wr (can' l u can)) after).2).trans (State.rd_wr_same (can' l u can))

end Entries

/-- The state with the sampled graph in place, before its entries are written. -/
def sampled (s : State) : State :=
  { s with freeN := s.freeN + 1,
           dbg := { s.dbg with graph := s.sampleGraph.1, building := none, buildDump := false,
                               lastBuild := s.dbg.building.getD s.clk } }

/-- The state with the entries of the sampled graph written. -/
def entered (s : State) : State := (sampled s).graphEntries s.sampleGraph.1 (s.stalledIn s.sampleGraph.1) s.sampleGraph.2

/-- The state in which a build has ended, before a stall may stop the A9. -/
def built (s : State) : State :=
  ((entered s).count 0x7C5 s.sampleGraph.1.cycles.length).count (0x740 + 8 * (entered s).deviceCore + 7) 1

variable (inv : s.Inv)
include inv

theorem canonical_entered : (entered s).canonical := by
  rw [entered, graphEntries_eq]
  exact (foldl_wr_other (e := od1000_DEVICE_ID) (n := 0) (by decide) (by decide) _ _ (show (sampled s).canonical from inv.1)
    (by simp [graphWrites]; decide)).1

theorem built_rd {e : Ent} {n : Nat} (hi : e.index < 65536) (hs : e.sub < 256) (ne : e.index ≠ 0x4800) :
    (built s).rd e n = (entered s).rd e n := by
  have can := canonical_entered inv
  have first := OdFrame.count (l := [0x4800]) (i := 0x7C5) (k := s.sampleGraph.1.cycles.length) can (by decide)
  exact ((OdFrame.count (l := [0x4800]) (first.can can) (by decide)).rd e n hi hs (by simpa using ne)).trans (first.rd e n hi hs (by simpa using ne))

theorem entered_rd {e : Ent} {n : Nat} (hi : e.index < 65536) (hs : e.sub < 256) (ne : e.index ≠ 0x48B0) : (entered s).rd e n = s.rd e n := by
  rw [entered, graphEntries_eq]
  refine (foldl_wr_other hi hs _ _ (show (sampled s).canonical from inv.1) ?_).2.trans rfl
  intro x mem
  have index : x.1.index = 0x48B0 ∧ x.1.sub < 256 := by
    simp only [graphWrites, List.mem_cons, List.not_mem_nil, or_false] at mem
    rcases mem with rfl | rfl | rfl | rfl | rfl | rfl | rfl <;> exact ⟨rfl, Nat.le_of_ble_eq_true rfl⟩
  exact ⟨by omega, index.2, fun same => ne (same ▸ index.1)⟩

theorem built_stotMode : (built s).stotMode = s.stotMode :=
  stotMode_congr ((built_rd inv (by decide) (by decide) (by decide)).trans (entered_rd inv (by decide) (by decide) (by decide)))
    ((built_rd inv (by decide) (by decide) (by decide)).trans (entered_rd inv (by decide) (by decide) (by decide)))

theorem endBuild_calm (mode : s.stotMode ≠ 2) : s.endBuild = built s := by
  unfold State.endBuild
  exact if_neg fun h => mode ((built_stotMode inv).symm.trans h.2.2)

theorem built_entry {e : Ent} {v : Nat} {l m : List (Ent × Nat)} (hi : e.index < 65536) (hs : e.sub < 256) (ne : e.index ≠ 0x4800)
    (at_ : graphWrites (sampled s) s.sampleGraph.1 (s.stalledIn s.sampleGraph.1) s.sampleGraph.2 = l ++ (e, v) :: m)
    (after : ∀ x ∈ m, x.1.index < 65536 ∧ x.1.sub < 256 ∧ e ≠ x.1) : (built s).rd e 0 = v := by
  rw [built_rd inv hi hs ne, entered, graphEntries_eq, at_]
  exact foldl_wr_same hi hs l m (show (sampled s).canonical from inv.1) after

end Graph

/-! ### Dumps and the watchdog -/

section Dump
variable {s : State}

theorem dumpLength_le (n : Nat) : dumpLength n ≤ 268435456 := Nat.le_of_lt_succ (Nat.mod_lt _ (Nat.succ_pos _))

theorem exec_hangCheck (runs : s.coresRun = true) : exec .hangWatchdogCheck s = .next s.hangCheck.settled := by
  rw [show exec .hangWatchdogCheck s = execHangWatchdogCheck s from rfl, execHangWatchdogCheck, if_pos runs]
  rfl

/-- The state in which a dump is written: the build before it has ended. -/
def beforeDump (s : State) : State := if s.dbg.building.isSome then s.endBuild else s

theorem canonical_beforeDump (inv : s.Inv) : (beforeDump s).canonical := by
  unfold beforeDump
  split
  · exact (State.endBuild_kept (Kept.self inv)).inv.1
  · exact inv.1

theorem exec_dumpDone (inv : s.Inv) (runs : s.coresRun = true) (state : s.rd od48A0_STATE 0 = 2) :
    ∃ v : State, exec .dumpDone s = .next v.settled ∧ v.rd od48A0_STATE 0 = 3 ∧ v.rd od48A0_DUMP_LENGTH 0 ≤ 268435456 := by
  let u : State := { (beforeDump s).fresh with dbg := { (beforeDump s).dbg with dump := (beforeDump s).freeN } }
  have can : u.canonical := canonical_beforeDump inv
  have row : s.endDump = (u.wr od48A0_DUMP_LENGTH 0 (dumpLength (beforeDump s).freeN)).wr od48A0_STATE 0 3 := by
    unfold State.endDump
    exact if_neg (not_not_intro state)
  refine ⟨s.endDump, ?_, ?_, ?_⟩
  · exact congrArg State.done (if_pos runs)
  · rw [row]
    exact State.rd_wr_same (State.canonical_wr can)
  · rw [row, State.rd_wr_ne (State.canonical_wr can) (by decide) (by decide) (by decide) (by decide) (by decide), State.rd_wr_same can]
    exact dumpLength_le _

end Dump

/-- Settles O48: it holds. -/
theorem debugCommandsComplete : Obligations.DebugCommandsComplete := by
  unfold Obligations.DebugCommandsComplete
  intro s inv runs
  refine ⟨fun state => ?_, fun period idle late => ?_, fun t building mode => ?_, fun calm => ?_, fun hung mode => ?_⟩
  · exact exec_dumpDone inv runs state
  · have idle_ : s.dbg.building.isSome = false := by rw [idle]; rfl
    have row : exec .graphPeriodExpiry s = .next (s.startBuild false).settled := by
      rw [show exec .graphPeriodExpiry s = execGraphPeriodExpiry s from rfl, execGraphPeriodExpiry]
      dsimp only
      rw [if_neg (by simp [period, runs, idle_, late])]
      rfl
    rw [row, startBuild_idle idle]
    exact ⟨_, rfl, rfl, State.rd_wr_same (s := { s with dbg := { s.dbg with building := some s.clk, buildDump := false } }) inv.1, rfl⟩
  · have row : exec .graphBuildDone s = .next (built s).settled := by
      rw [show exec .graphBuildDone s = execGraphBuildDone s from rfl, execGraphBuildDone, building, runs, endBuild_calm inv mode]
      rfl
    refine ⟨_, row, rfl, rfl, ?_, ?_, ?_, ?_, ?_⟩
    · exact built_entry inv (l := []) (by decide) (by decide) (by decide) rfl (by simp; decide)
    · exact built_entry inv (l := [_]) (by decide) (by decide) (by decide) rfl (by simp; decide)
    · exact built_entry inv (l := [_, _]) (by decide) (by decide) (by decide) rfl (by simp; decide)
    · exact built_entry inv (l := [_, _, _]) (by decide) (by decide) (by decide) rfl (by simp; decide)
    · exact built_entry inv (l := [_, _, _, _, _, _]) (by decide) (by decide) (by decide) rfl (by simp)
  · have none_ : s.hangSeen.any (fun x => decide (s.rd od48A0_HANG_TIMEOUT 0 * 1000000 < s.nsSince x.2.2)) = false := by
      rw [List.any_eq_false]
      intro x mem
      simpa using calm x mem
    rw [exec_hangCheck runs, State.hangCheck]
    dsimp only
    rw [none_]
    rfl
  · have some_ : s.hangSeen.any (fun x => decide (s.rd od48A0_HANG_TIMEOUT 0 * 1000000 < s.nsSince x.2.2)) = true := by
      obtain ⟨x, mem, late⟩ := hung
      exact List.any_eq_true.mpr ⟨x, mem, decide_eq_true late⟩
    have inv' : State.Inv { s with dbg := { s.dbg with hang := s.hangSeen } } := inv
    have mode' : (State.startBuild { s with dbg := { s.dbg with hang := s.hangSeen } } false).stotMode = s.stotMode :=
      stotMode_congr (startBuild_rd inv' (by decide) (by decide) (by decide)) (startBuild_rd inv' (by decide) (by decide) (by decide))
    rw [exec_hangCheck runs, State.hangCheck]
    dsimp only
    rw [some_, if_pos rfl, mode', if_neg mode]

end Sys2Proof.Proofs.DebugCommands

namespace Sys2Proof.Proofs.Quarantine

/-! ## Quarantine and RELEASE (R424) -/

open Sys2Proof.Machine Sys2Proof.Claims

section Charge
variable {s : State} {t cls : Nat} {hot : Int}

/-- A tine with a failed canary counted and reported, before its bins are judged. -/
def charged (s : State) (t cls : Nat) (hot : Int) : State :=
  ((s.wr od4410_FAIL_BINS t (s.rd od4410_FAIL_BINS t ||| 2 ^ (4 * tempBin hot + cls))).bump od5000_CANARY_FAILS 0 64 1).emit (t / 64)
    evCanaryFail 0 3 t 0 [t, 4 * tempBin hot + cls]

theorem charged_state (inv : s.Inv) : (charged s t cls hot).rd od3400_STATE t = s.rd od3400_STATE t := by
  have can := State.canonical_wr (e := od4410_FAIL_BINS) (n := t) (v := s.rd od4410_FAIL_BINS t ||| 2 ^ (4 * tempBin hot + cls)) inv.1
  have counted : OdFrame [0x4410, 0x5000] s ((s.wr od4410_FAIL_BINS t (s.rd od4410_FAIL_BINS t ||| 2 ^ (4 * tempBin hot + cls))).bump
      od5000_CANARY_FAILS 0 64 1) :=
    (OdFrame.wr inv.1 (by decide) (by decide) (by decide)).trans (OdFrame.wr can (by decide) (by decide) (by decide))
  exact ((State.emitAs_frame (counted.can inv.1)).rd od3400_STATE t (by decide) (by decide) (by decide)).trans
    (counted.rd od3400_STATE t (by decide) (by decide) (by decide))

theorem chargeBin_eq (inv : s.Inv) (works : s.rd od3400_STATE t ≤ 1) : s.chargeBin t cls hot =
    if (charged s t cls hot).failedBins t < 3 then (charged s t cls hot).wr od3400_STATE t 1
    else ((charged s t cls hot).wr od3400_STATE t 2).emit (t / 64) evTineQuarantined 0 3 t 0 [t] := by
  unfold State.chargeBin
  exact if_neg (Nat.not_lt.mpr ((charged_state inv).le.trans works))

end Charge

section Release
variable {s : State} {k : Canary}

/-- A canary that has run is counted; its tine keeps its state. -/
theorem canaryRan_frame (inv : s.Inv) : OdFrame [0x5000, 0x4410] { s with flt := { s.flt with canaries := s.flt.canaries.erase k } } (s.canaryRan k) := by
  have can : State.canonical { s with flt := { s.flt with canaries := s.flt.canaries.erase k } } := inv.1
  exact (OdFrame.wr can (by decide) (by decide) (by decide)).trans (OdFrame.wr (State.canonical_wr can) (by decide) (by decide) (by decide))

theorem canaryPasses_last (inv : s.Inv) (why : k.why = .release) (works : s.rd od3400_STATE k.tine ≤ 2)
    (last : ((s.flt.canaries.erase k).any (fun x => x.tine == k.tine && x.why == .release)) = false) :
    s.canaryPasses k = ((s.canaryRan k).wr od4410_FAIL_BINS k.tine 0).wr od3400_STATE k.tine 0 := by
  have state : (s.canaryRan k).rd od3400_STATE k.tine = s.rd od3400_STATE k.tine :=
    (canaryRan_frame inv).rd od3400_STATE k.tine (by decide) (by decide) (by decide)
  unfold State.canaryPasses
  refine if_pos ⟨why, ?_, state.le.trans works⟩
  rw [show (s.canaryRan k).flt.canaries = s.flt.canaries.erase k from rfl, last]
  rfl

end Release

/-- Settles O59: it holds. -/
theorem quarantineAndRelease : Obligations.QuarantineAndRelease := by
  unfold Obligations.QuarantineAndRelease
  intro t s inv
  refine ⟨?_, fun failed => ?_, fun works => ?_, fun k _ tine why works last => ?_⟩
  · intro cls hot works _ bin old v
    rw [chargeBin_eq inv works]
    exact ⟨fun third => if_neg (Nat.not_lt.mpr third), fun few => if_pos few⟩
  · exact if_pos failed
  · exact if_neg (Nat.not_le.mpr works)
  · have can := (canaryRan_frame (k := k) inv).can inv.1
    rw [← tine] at works last ⊢
    rw [canaryPasses_last inv why works last]
    exact ⟨(State.rd_wr_ne (State.canonical_wr can) (by decide) (by decide) (by decide) (by decide) (by decide)).trans (State.rd_wr_same can),
      State.rd_wr_same (State.canonical_wr can)⟩

end Sys2Proof.Proofs.Quarantine

namespace Sys2Proof.Proofs.PoolBytes

/-! ## Bytes of the pool and of SRAM (R93, R100–R104, R154)

Where a byte of an extent is held depends on its granule and chunk alone, and its key there on the extent, or on its volume in T3.
So a write of one byte changes one key of one memory; the other bytes of the chunk that it opens read 0 before and after. -/

open Sys2Proof.Machine Sys2Proof.Claims

/-! ### Where a byte is held -/

/-- A move has brought chunk `c` of a granule to where it goes. -/
def movedIn (s : State) (e g c : Nat) : Bool := s.pool.moves.any (fun m => m.ext == e && m.gran == g && (!m.fill || m.done.getLsbD c))

/-- The tier that holds chunk `c` of a granule; 0 where it reads as zero. -/
def tierOf (d : Gran) (c : Nat) (moved : Bool) : Nat :=
  if d.tier = 0 ∨ d.zmask.getLsbD c then 0
  else if d.tier = 1 then 1
  else if d.cached && !(d.moving && !moved) then 1
  else if d.tier = 2 then 2 else 3

/-- The tier that holds a byte. -/
def place (s : State) (e off : Nat) : Nat :=
  tierOf (s.gran e (off / granuleBytes)) (off / chunkBytes % 32) (movedIn s e (off / granuleBytes) (off / chunkBytes % 32))

/-- The owner of a key: the extent, or in T3 its volume. -/
def keyOwner (s : State) (e cls : Nat) : Nat := if cls = 3 then s.volOf e else e

/-- The memory of a tier. -/
def tierMem (s : State) (cls : Nat) : Sparse Byte :=
  if cls = 1 then s.pool.mem else if cls = 2 then s.pool.cxl else if cls = 3 then s.pool.flash else []

/-- The byte at a key of the memory of a tier. -/
def cell (s : State) (cls k : Nat) : Byte := sparseGet 0 (tierMem s cls) k

section Place
variable {s u : State} {e off : Nat}

theorem whereByte_eq : s.whereByte e off =
    (place s e off, if place s e off = 0 then 0 else byteKey (keyOwner s e (place s e off)) off) := by
  unfold State.whereByte place tierOf movedIn
  dsimp only
  split
  · rfl
  · split
    · rfl
    · split
      · rfl
      · split <;> rfl

theorem readByte_eq : s.readByte e off = cell s (place s e off) (byteKey (keyOwner s e (place s e off)) off) := by
  unfold State.readByte
  rw [whereByte_eq]
  dsimp only
  unfold cell tierMem
  by_cases zero : place s e off = 0
  · rw [zero]
    rfl
  · rw [if_neg zero]
    repeat' split
    all_goals rfl

theorem place_le : place s e off ≤ 3 := by
  unfold place tierOf
  repeat' split
  all_goals decide

theorem place_pos (tier : (s.gran e (off / granuleBytes)).tier ≠ 0)
    (open_ : (s.gran e (off / granuleBytes)).zmask.getLsbD (off / chunkBytes % 32) = false) : place s e off ≠ 0 := by
  unfold place tierOf
  rw [if_neg (by simp [tier, open_])]
  repeat' split
  all_goals decide

end Place

/-! ### Granules -/

section Granules
variable {s : State} {e g : Nat} {d : Gran} (can : s.canonical)
include can

theorem gran_setGran_same : (s.setGran e g d).gran e g = d :=
  sparseGet_sparseSet_same granNew s.pool.gran (granKey e g) d can.2.2.2.2.2.2.2.1

theorem gran_setGran_other {e' g' : Nat} (hg : g < 2 ^ 32) (hg' : g' < 2 ^ 32) (ne : ¬ (e' = e ∧ g' = g)) :
    (s.setGran e g d).gran e' g' = s.gran e' g' := by
  refine sparseGet_sparseSet_other granNew granNew s.pool.gran (granKey e g) (granKey e' g') d can.2.2.2.2.2.2.2.1 fun same => ne ?_
  unfold granKey at same
  omega

end Granules

/-! ### One byte written -/

/-- Two states hold every byte in the same places. -/
structure SamePlaces (s u : State) : Prop where
  place : ∀ e off, off < 2 ^ 48 → place u e off = place s e off
  vol : ∀ e, u.volOf e = s.volOf e
  tier : ∀ e g, g < 2 ^ 32 → (u.gran e g).tier = (s.gran e g).tier

theorem SamePlaces.keyOwner {s u : State} (h : SamePlaces s u) (e cls : Nat) : keyOwner u e cls = keyOwner s e cls := by
  unfold PoolBytes.keyOwner
  rw [h.vol]

/-- Two states hold the same bytes in the same places. -/
structure SameBytes (s u : State) : Prop extends SamePlaces s u where
  cell : ∀ cls k, cell u cls k = cell s cls k

theorem SameBytes.readByte {s u : State} (h : SameBytes s u) {e off : Nat} (low : off < 2 ^ 48) : u.readByte e off = s.readByte e off := by
  rw [readByte_eq, readByte_eq, h.place e off low, h.cell, h.keyOwner]

theorem sameBytes_of_pool {s u : State} (h : u.pool = s.pool) : SameBytes s u := by
  refine { place := fun e off _ => ?_, vol := fun e => ?_, tier := fun e g _ => ?_, cell := fun cls k => ?_ }
  · unfold place movedIn State.gran
    rw [h]
  · unfold State.volOf
    rw [h]
  · unfold State.gran
    rw [h]
  · unfold cell tierMem
    rw [h]

section Dirty
variable {s : State} {e g c : Nat}

/-- The DIRTY bits of a granule have no part in where it is held. -/
theorem sameBytes_dirty (can : s.canonical) (hg : g < 2 ^ 32) (dirty : BitVec 32) :
    SameBytes s (s.setGran e g { s.gran e g with dirty := dirty }) := by
  have gran : ∀ e' g', g' < 2 ^ 32 → ∀ c m, tierOf ((s.setGran e g { s.gran e g with dirty := dirty }).gran e' g') c m = tierOf (s.gran e' g') c m ∧
      ((s.setGran e g { s.gran e g with dirty := dirty }).gran e' g').tier = (s.gran e' g').tier := by
    intro e' g' low c m
    by_cases same : e' = e ∧ g' = g
    · rw [same.1, same.2, gran_setGran_same can]
      exact ⟨rfl, rfl⟩
    · rw [gran_setGran_other can hg low same]
      exact ⟨rfl, rfl⟩
  refine { place := fun e' off low => (gran e' _ ?_ _ _).1, vol := fun _ => rfl, tier := fun e' g' low => (gran e' g' low 0 true).2,
           cell := fun _ _ => rfl }
  unfold granuleBytes
  omega

theorem sameBytes_dirtyChunk (can : s.canonical) (hg : g < 2 ^ 32) : SameBytes s (s.dirtyChunk e g c) := by
  unfold State.dirtyChunk
  dsimp only
  have marked := sameBytes_dirty (e := e) can hg ((s.gran e g).dirty ||| (1#32 <<< c))
  split
  · split
    · exact ⟨⟨marked.place, marked.vol, marked.tier⟩, marked.cell⟩
    · exact marked
  · exact sameBytes_of_pool rfl

end Dirty

/-! ### The flash map -/

section Map
variable {s : State}

theorem openNext_pool : s.openNext.pool = s.pool := by
  have first : (if s.nand.opens.isEmpty then s.checkpoint else s).pool = s.pool := by split <;> rfl
  unfold State.openNext
  dsimp only
  split
  · exact first
  · exact first

theorem takePlace_pool {p : Nat} {u : State} (taken : s.takePlace = some (p, u)) : u.pool = s.pool := by
  unfold State.takePlace at taken
  dsimp only at taken
  split at taken
  · exact absurd taken (by simp)
  · cases taken
    refine (State.setNandBlock_pool ..).trans ?_
    split
    · rfl
    · exact openNext_pool

theorem switchMap_pool (key p : Nat) : (s.switchMap key p).pool = s.pool := by
  unfold State.switchMap
  dsimp only
  rw [State.bump_pool]
  split <;> rfl

theorem nandWrite_pool (key : Nat) : (s.nandWrite key).pool = s.pool := by
  unfold State.nandWrite
  split
  · rfl
  next p u taken =>
    rw [State.count_pool, State.bump_pool, switchMap_pool]
    exact takePlace_pool taken

theorem mapChunk_pool (e g c : Nat) : (s.mapChunk e g c).pool = s.pool := by
  unfold State.mapChunk
  dsimp only
  split
  · exact nandWrite_pool _
  · rfl

end Map

/-! ### Putting a byte and opening its chunk -/

section Put
variable {s : State} {e off : Nat} {b : Byte} (can : s.canonical)

theorem samePlaces_putByte : SamePlaces s (s.putByte e off b) := by
  unfold State.putByte
  dsimp only
  repeat' split
  all_goals exact ⟨fun _ _ _ => rfl, fun _ => rfl, fun _ _ _ => rfl⟩

include can

theorem pairwise_tierMem (cls : Nat) : (tierMem s cls).Pairwise (fun a b => a.1 < b.1) := by
  obtain ⟨_, mem, cxl, flash, _⟩ := can
  unfold tierMem
  split
  · exact mem.1
  · split
    · exact cxl.1
    · split
      · exact flash.1
      · exact .nil

omit can in
theorem tierMem_putByte (held : place s e off ≠ 0) (cls : Nat) : tierMem (s.putByte e off b) cls =
    if cls = place s e off then sparseSet 0 (tierMem s cls) (byteKey (keyOwner s e (place s e off)) off) b else tierMem s cls := by
  have le := place_le (s := s) (e := e) (off := off)
  unfold State.putByte
  rw [whereByte_eq]
  dsimp only
  rw [if_neg held]
  generalize byteKey (keyOwner s e (place s e off)) off = key
  generalize place s e off = p at held le
  unfold tierMem
  have which : cls = 1 ∨ cls = 2 ∨ cls = 3 ∨ (cls ≠ 1 ∧ cls ≠ 2 ∧ cls ≠ 3) := by omega
  obtain rfl | rfl | rfl : p = 1 ∨ p = 2 ∨ p = 3 := by omega
  all_goals
    obtain rfl | rfl | rfl | ⟨not1, not2, not3⟩ := which
    · rfl
    · rfl
    · rfl
    · simp [not1, not2, not3]

theorem cell_putByte (held : place s e off ≠ 0) (cls k : Nat) : cell (s.putByte e off b) cls k =
    if cls = place s e off ∧ k = byteKey (keyOwner s e (place s e off)) off then b else cell s cls k := by
  have ordered := pairwise_tierMem can cls
  unfold cell
  rw [tierMem_putByte held]
  by_cases here : cls = place s e off
  · rw [if_pos here]
    by_cases same : k = byteKey (keyOwner s e (place s e off)) off
    · rw [if_pos ⟨here, same⟩, same]
      exact sparseGet_sparseSet_same _ _ _ _ ordered
    · rw [if_neg fun h => same h.2]
      exact sparseGet_sparseSet_other _ _ _ _ _ _ ordered same
  · rw [if_neg here, if_neg fun h => here h.1]

end Put

section Bits

theorem getLsbD_bit {c c' : Nat} (hc' : c' < 32) : (1#32 <<< c).getLsbD c' = decide (c' = c) := by
  rw [BitVec.getLsbD_shiftLeft, BitVec.getLsbD_one]
  simp only [hc', decide_true, Bool.true_and, Nat.zero_lt_succ]
  by_cases same : c' = c
  · simp [same]
  · have : ¬ (c ≤ c' ∧ c' - c = 0) := by omega
    rw [decide_eq_false same, ← Bool.not_eq_true]
    simp only [Bool.and_eq_true, Bool.not_eq_true', decide_eq_false_iff_not, decide_eq_true_eq]
    omega

/-- Dropping a range of keys leaves every other key as it was. -/
theorem sparseGet_filter {α : Type} (d : α) (q : Nat → Bool) (m : Sparse α) (ordered : m.Pairwise (fun a b => a.1 < b.1)) (x : Nat) :
    sparseGet d (m.filter (fun kv => q kv.1)) x = if q x then sparseGet d m x else d := by
  induction m with
  | nil => exact (ite_self d).symm
  | cons a m ih =>
    obtain ⟨k, v⟩ := a
    obtain ⟨above, rest⟩ := List.pairwise_cons.mp ordered
    have next := ih rest
    have low : x < k → sparseGet d m x = d := fun lt => sparseGet_of_lt d m x fun kv mem => Nat.lt_trans lt (above kv mem)
    rw [List.filter_cons]
    by_cases same : x = k
    · subst same
      cases keep : q x with
      | true => simp [sparseGet]
      | false => simpa [keep] using next
    · cases keep : q k with
      | true =>
        simp only [if_true, sparseGet, if_neg same, next]
        split <;> simp
      | false =>
        simp only [Bool.false_eq_true, if_false, sparseGet, if_neg same, next]
        by_cases lt : x < k
        · rw [if_pos lt, low lt]
        · rw [if_neg lt]

end Bits

/-- The first byte of a chunk. -/
def chunkBase (g c : Nat) : Nat := g * granuleBytes + c * chunkBytes

section Open
variable {s : State} {e g c : Nat}

/-- A chunk that reads as zero, about to be cleared where it will be held. -/
def opening (s : State) (e g c : Nat) : State := (s.setGran e g { s.gran e g with zmask := (s.gran e g).zmask &&& ~~~(1#32 <<< c) }).copied e g c

theorem movedIn_opening {e' g' c' : Nat} (hc' : c' < 32) (other : ¬ (e' = e ∧ g' = g ∧ c' = c)) :
    movedIn (opening s e g c) e' g' c' = movedIn s e' g' c' := by
  change (s.pool.moves.map _).any _ = _
  rw [List.any_map]
  unfold movedIn
  congr 1
  funext m
  simp only [Function.comp_apply]
  split
  next hit =>
    by_cases same : e' = e ∧ g' = g
    · have ne : c' ≠ c := fun h => other ⟨same.1, same.2, h⟩
      rw [BitVec.getLsbD_or, getLsbD_bit hc', decide_eq_false ne, Bool.or_false]
    · have no : (m.ext == e' && m.gran == g') = false := by
        rw [Bool.eq_false_iff]
        intro h
        rw [Bool.and_eq_true, beq_iff_eq, beq_iff_eq] at h
        exact same ⟨h.1.symm.trans hit.1, h.2.symm.trans hit.2.1⟩
      rw [no]
      rfl
  next => rfl

variable (can : s.canonical) (hg : g < 2 ^ 32)
include can

theorem gran_opening_same : (opening s e g c).gran e g = { s.gran e g with zmask := (s.gran e g).zmask &&& ~~~(1#32 <<< c) } :=
  gran_setGran_same can

include hg

theorem gran_opening_other {e' g' : Nat} (hg' : g' < 2 ^ 32) (ne : ¬ (e' = e ∧ g' = g)) : (opening s e g c).gran e' g' = s.gran e' g' :=
  gran_setGran_other can hg hg' ne

theorem tier_opening {e' g' : Nat} (hg' : g' < 2 ^ 32) : ((opening s e g c).gran e' g').tier = (s.gran e' g').tier := by
  by_cases same : e' = e ∧ g' = g
  · rw [same.1, same.2, gran_opening_same can]
  · rw [gran_opening_other can hg hg' same]

/-- Every byte but those of the chunk is held where it was. -/
theorem place_opening {e' off' : Nat} (low : off' < 2 ^ 48)
    (other : ¬ (e' = e ∧ off' / granuleBytes = g ∧ off' / chunkBytes % 32 = c)) : place (opening s e g c) e' off' = place s e' off' := by
  have hc' : off' / chunkBytes % 32 < 32 := Nat.mod_lt _ (by decide)
  have hg' : off' / granuleBytes < 2 ^ 32 := by unfold granuleBytes; omega
  unfold place
  rw [movedIn_opening hc' other]
  by_cases same : e' = e ∧ off' / granuleBytes = g
  · have ne : off' / chunkBytes % 32 ≠ c := fun h => other ⟨same.1, same.2, h⟩
    have bit : ((s.gran e g).zmask &&& ~~~(1#32 <<< c)).getLsbD (off' / chunkBytes % 32) = (s.gran e g).zmask.getLsbD (off' / chunkBytes % 32) := by
      rw [BitVec.getLsbD_and, BitVec.getLsbD_not, getLsbD_bit hc', decide_eq_false ne]
      simp [hc']
    rw [same.1, same.2, gran_opening_same can]
    unfold tierOf
    rw [bit]
  · rw [gran_opening_other can hg hg' same]

omit hg in
theorem open_opening (hc : c < 32) : ((opening s e g c).gran e g).zmask.getLsbD c = false := by
  rw [gran_opening_same can]
  simp [hc]

omit can hg in
/-- Every byte of the chunk is held in one place once it is open. -/
theorem place_opening_chunk {off' : Nat} (gran : off' / granuleBytes = g) (chunk : off' / chunkBytes % 32 = c) :
    place (opening s e g c) e off' = place (opening s e g c) e (chunkBase g c) := by
  have base : chunkBase g c / granuleBytes = g ∧ chunkBase g c / chunkBytes % 32 = c := by
    unfold chunkBase granuleBytes chunkBytes at *
    omega
  unfold place
  rw [base.1, base.2, gran, chunk]

end Open

section OpenChunk
variable {s : State} {e g c : Nat}

theorem openChunk_shut (shut : (s.gran e g).zmask.getLsbD c = false) : s.openChunk e g c = s := by
  unfold State.openChunk
  dsimp only
  rw [shut]
  rfl

/-- A chunk of a memory cleared. -/
def cleared (u : State) (cls lo : Nat) : State :=
  if cls = 1 then { u with pool := { u.pool with mem := sparseDrop u.pool.mem lo (lo + chunkBytes) } }
  else if cls = 2 then { u with pool := { u.pool with cxl := sparseDrop u.pool.cxl lo (lo + chunkBytes) } }
  else { u with pool := { u.pool with flash := sparseDrop u.pool.flash lo (lo + chunkBytes) } }

theorem openChunk_open (set_ : (s.gran e g).zmask.getLsbD c = true) : s.openChunk e g c =
    cleared (opening s e g c) ((opening s e g c).whereByte e (chunkBase g c)).1 ((opening s e g c).whereByte e (chunkBase g c)).2 := by
  unfold State.openChunk
  exact if_pos set_

section Cleared
variable (u : State) (cls lo : Nat)

theorem samePlaces_cleared : SamePlaces u (cleared u cls lo) := by
  unfold cleared
  repeat' split
  all_goals exact ⟨fun _ _ _ => rfl, fun _ => rfl, fun _ _ _ => rfl⟩

theorem gran_cleared (e g : Nat) : (cleared u cls lo).gran e g = u.gran e g := by
  unfold cleared
  repeat' split
  all_goals rfl

theorem tierMem_cleared (low : cls ≤ 3) (pos : cls ≠ 0) (k : Nat) : tierMem (cleared u cls lo) k =
    if k = cls then sparseDrop (tierMem u k) lo (lo + chunkBytes) else tierMem u k := by
  unfold cleared tierMem
  have which : k = 1 ∨ k = 2 ∨ k = 3 ∨ (k ≠ 1 ∧ k ≠ 2 ∧ k ≠ 3) := by omega
  obtain rfl | rfl | rfl : cls = 1 ∨ cls = 2 ∨ cls = 3 := by omega
  all_goals
    obtain rfl | rfl | rfl | ⟨not1, not2, not3⟩ := which
    · rfl
    · rfl
    · rfl
    · simp [not1, not2, not3]

theorem cell_cleared (can : u.canonical) (low : cls ≤ 3) (pos : cls ≠ 0) (k x : Nat) : cell (cleared u cls lo) k x =
    if k = cls ∧ lo ≤ x ∧ x < lo + chunkBytes then 0 else cell u k x := by
  unfold cell
  rw [tierMem_cleared u cls lo low pos]
  by_cases here : k = cls
  · rw [if_pos here]
    refine (sparseGet_filter 0 (fun x => decide (x < lo ∨ lo + chunkBytes ≤ x)) _ (pairwise_tierMem can k) x).trans ?_
    by_cases inside : lo ≤ x ∧ x < lo + chunkBytes
    · rw [if_neg (by rw [decide_eq_true_eq]; omega), if_pos ⟨here, inside⟩]
    · rw [if_pos (by rw [decide_eq_true_eq]; omega), if_neg fun h => inside h.2]
  · rw [if_neg here, if_neg fun h => here h.1]

end Cleared

/-- Bytes of one extent, or of two whose volumes differ, have keys apart. -/
def Apart (s : State) (e' e : Nat) : Prop := e' = e ∨ (e' ≠ e ∧ s.volOf e' ≠ s.volOf e)

theorem keyOwner_ne {e' : Nat} (other : e' ≠ e) (vol : s.volOf e' ≠ s.volOf e) (cls : Nat) : keyOwner s e' cls ≠ keyOwner s e cls := by
  unfold keyOwner
  split
  · exact vol
  · exact other

theorem canonical_opening (inv : s.Inv) : (opening s e g c).canonical :=
  (State.copied_kept (State.setGran_kept (Kept.self inv))).inv.1

section Read
variable (inv : s.Inv) (tier : (s.gran e g).tier ≠ 0) (hc : c < 32) (low : chunkBase g c + chunkBytes ≤ 2 ^ 48)
include inv tier hc low

theorem readByte_openChunk {e' off' : Nat} (low' : off' < 2 ^ 48) (apart : Apart s e' e) :
    (s.openChunk e g c).readByte e' off' = s.readByte e' off' := by
  cases set_ : (s.gran e g).zmask.getLsbD c with
  | false => rw [openChunk_shut set_]
  | true =>
    have can := inv.1
    have canO := canonical_opening (e := e) (g := g) (c := c) inv
    have hg : g < 2 ^ 32 := by unfold chunkBase granuleBytes at low; omega
    have base : chunkBase g c / granuleBytes = g ∧ chunkBase g c / chunkBytes % 32 = c := by
      unfold chunkBase granuleBytes chunkBytes
      omega
    have held : place (opening s e g c) e (chunkBase g c) ≠ 0 :=
      place_pos (by rw [base.1, tier_opening can hg hg]; exact tier) (by rw [base.1, base.2]; exact open_opening can hc)
    have le := place_le (s := opening s e g c) (e := e) (off := chunkBase g c)
    have same := samePlaces_cleared (opening s e g c) (place (opening s e g c) e (chunkBase g c))
      (byteKey (keyOwner (opening s e g c) e (place (opening s e g c) e (chunkBase g c))) (chunkBase g c))
    rw [openChunk_open set_, whereByte_eq]
    dsimp only
    rw [if_neg held, readByte_eq, readByte_eq, same.place e' off' low', same.keyOwner e', cell_cleared _ _ _ canO le held]
    by_cases inChunk : e' = e ∧ off' / granuleBytes = g ∧ off' / chunkBytes % 32 = c
    · obtain ⟨rfl, gran, chunk⟩ := inChunk
      have at_ := place_opening_chunk (s := s) (e := e') gran chunk
      have zero : place s e' off' = 0 := by
        unfold place tierOf
        rw [gran, chunk, if_pos (.inr set_)]
      rw [at_, if_pos, zero]
      · rfl
      · refine ⟨rfl, ?_⟩
        unfold byteKey chunkBase granuleBytes chunkBytes at *
        omega
    · rw [place_opening can hg low' inChunk, if_neg]
      · rfl
      · rintro ⟨cls, from_, below⟩
        rw [← cls] at from_ below
        rcases apart with rfl | ⟨other, vol⟩
        · refine inChunk ⟨rfl, ?_⟩
          unfold byteKey chunkBase granuleBytes chunkBytes at *
          omega
        · have ne := keyOwner_ne (s := opening s e g c) (e := e) other vol (place s e' off')
          generalize keyOwner (opening s e g c) e' (place s e' off') = a at *
          generalize keyOwner (opening s e g c) e (place s e' off') = b at *
          unfold byteKey at from_ below
          omega

end Read

section Kept
variable (can : s.canonical) (hg : g < 2 ^ 32)

theorem vol_openChunk (e' : Nat) : (s.openChunk e g c).volOf e' = s.volOf e' := by
  cases set_ : (s.gran e g).zmask.getLsbD c with
  | false => rw [openChunk_shut set_]
  | true =>
    rw [openChunk_open set_]
    exact (samePlaces_cleared ..).vol e'

include can hg

theorem tier_openChunk {e' g' : Nat} (hg' : g' < 2 ^ 32) : ((s.openChunk e g c).gran e' g').tier = (s.gran e' g').tier := by
  cases set_ : (s.gran e g).zmask.getLsbD c with
  | false => rw [openChunk_shut set_]
  | true =>
    rw [openChunk_open set_, gran_cleared]
    exact tier_opening can hg hg'

omit hg in
theorem openChunk_opens (hc : c < 32) : ((s.openChunk e g c).gran e g).zmask.getLsbD c = false := by
  cases set_ : (s.gran e g).zmask.getLsbD c with
  | false => rw [openChunk_shut set_, set_]
  | true =>
    rw [openChunk_open set_, gran_cleared]
    exact open_opening can hc

end Kept
end OpenChunk

/-! ### One byte and many bytes -/

section WriteByte
variable {s : State} {e off : Nat} {b : Byte} (inv : s.Inv) (low : off < 2 ^ 48)

theorem SameBytes.trans {s u v : State} (first : SameBytes s u) (next : SameBytes u v) : SameBytes s v where
  place e off low := (next.place e off low).trans (first.place e off low)
  vol e := (next.vol e).trans (first.vol e)
  tier e g low := (next.tier e g low).trans (first.tier e g low)
  cell cls k := (next.cell cls k).trans (first.cell cls k)

/-- The state whose chunk is open and whose byte is put: what R104 does after it moves no byte. -/
def putOpen (s : State) (e off : Nat) (b : Byte) : State := (s.openChunk e (off / granuleBytes) (off / chunkBytes % 32)).putByte e off b

include inv low

theorem sameBytes_writeByte : SameBytes (putOpen s e off b) (s.writeByte e off b) := by
  have can : ((putOpen s e off b).mapChunk e (off / granuleBytes) (off / chunkBytes % 32)).canonical :=
    (State.mapChunk_kept (State.putByte_kept (State.openChunk_kept (Kept.self inv)))).inv.1
  have gran : off / granuleBytes < 2 ^ 32 := by unfold granuleBytes; omega
  unfold State.writeByte
  dsimp only
  exact (sameBytes_of_pool (mapChunk_pool (s := putOpen s e off b) e (off / granuleBytes) (off / chunkBytes % 32))).trans
    (sameBytes_dirtyChunk can gran)

theorem vol_writeByte (e' : Nat) : (s.writeByte e off b).volOf e' = s.volOf e' :=
  ((sameBytes_writeByte inv low).vol e').trans (samePlaces_putByte.vol e' |>.trans (vol_openChunk e'))

theorem tier_writeByte {e' g' : Nat} (low' : g' < 2 ^ 32) : ((s.writeByte e off b).gran e' g').tier = (s.gran e' g').tier :=
  ((sameBytes_writeByte inv low).tier e' g' low').trans
    ((samePlaces_putByte.tier e' g' low').trans (tier_openChunk inv.1 (by unfold granuleBytes; omega) low'))

variable (tier : (s.gran e (off / granuleBytes)).tier ≠ 0)
include tier

/-- The byte has a place once its chunk is open. -/
theorem place_opened : place (s.openChunk e (off / granuleBytes) (off / chunkBytes % 32)) e off ≠ 0 :=
  place_pos (by rw [tier_openChunk inv.1 (by unfold granuleBytes; omega) (by unfold granuleBytes; omega)]; exact tier)
    (openChunk_opens inv.1 (Nat.mod_lt _ (by decide)))

theorem readByte_writeByte {e' off' : Nat} (low' : off' < 2 ^ 48) (apart : Apart s e' e) :
    (s.writeByte e off b).readByte e' off' = if e' = e ∧ off' = off then b else s.readByte e' off' := by
  have can := (State.openChunk_kept (e_1 := e) (g_2 := off / granuleBytes) (c_3 := off / chunkBytes % 32) (Kept.self inv)).inv.1
  have held := place_opened inv low tier
  have before := readByte_openChunk (c := off / chunkBytes % 32) inv tier (Nat.mod_lt _ (by decide))
    (by unfold chunkBase granuleBytes chunkBytes; omega) low' apart
  rw [(sameBytes_writeByte inv low).readByte low', putOpen, readByte_eq, samePlaces_putByte.place e' off' low',
    samePlaces_putByte.keyOwner e', cell_putByte can held, ← before, readByte_eq]
  by_cases same : e' = e ∧ off' = off
  · obtain ⟨rfl, rfl⟩ := same
    rw [if_pos ⟨rfl, rfl⟩, if_pos ⟨rfl, rfl⟩]
  · rw [if_neg same, if_neg]
    rintro ⟨cls, key⟩
    rw [← cls] at key
    rcases apart with rfl | ⟨other, vol⟩
    · refine same ⟨rfl, ?_⟩
      unfold byteKey at key
      omega
    · have ne := keyOwner_ne (s := s.openChunk e (off / granuleBytes) (off / chunkBytes % 32)) (e := e) other
        (by rw [vol_openChunk, vol_openChunk]; exact vol) (place (s.openChunk e (off / granuleBytes) (off / chunkBytes % 32)) e' off')
      unfold byteKey at key
      omega

end WriteByte

/-- Every granule of a range of bytes is allocated. -/
def Allocated (s : State) (e off n : Nat) : Prop := ∀ k, k < n → (s.gran e ((off + k) / granuleBytes)).tier ≠ 0

/-- What a range of bytes reads as after it is written, and every byte apart from it. -/
theorem readByte_writePool {s : State} {e off : Nat} {bs : List Byte} (inv : s.Inv) (low : off + bs.length ≤ 2 ^ 48)
    (tiers : Allocated s e off bs.length) {e' off' : Nat} (low' : off' < 2 ^ 48) (apart : Apart s e' e) :
    (s.writePool e off bs).readByte e' off' =
      if e' = e ∧ off ≤ off' ∧ off' < off + bs.length then bs.getD (off' - off) 0 else s.readByte e' off' := by
  induction bs generalizing s off with
  | nil => exact (if_neg fun h => by simp only [List.length_nil] at h; omega).symm
  | cons b bs ih =>
    have lowB : off < 2 ^ 48 := by simp only [List.length_cons] at low; omega
    have tier : (s.gran e (off / granuleBytes)).tier ≠ 0 := tiers 0 (Nat.succ_pos _)
    have apart' : Apart (s.writeByte e off b) e' e := by
      unfold Apart
      rw [vol_writeByte inv lowB, vol_writeByte inv lowB]
      exact apart
    have tiers' : Allocated (s.writeByte e off b) e (off + 1) bs.length := by
      intro k hk
      have here := tiers (k + 1) (Nat.succ_lt_succ hk)
      rw [show off + (k + 1) = off + 1 + k by omega] at here
      rw [tier_writeByte inv lowB (by simp only [List.length_cons] at low; unfold granuleBytes; omega)]
      exact here
    have low1 : off + 1 + bs.length ≤ 2 ^ 48 := by simp only [List.length_cons] at low; omega
    refine (ih (State.writeByte_kept (Kept.self inv)).inv low1 tiers' apart').trans ?_
    rw [readByte_writeByte inv lowB tier low' apart, List.length_cons]
    by_cases later : e' = e ∧ off + 1 ≤ off' ∧ off' < off + 1 + bs.length
    · rw [if_pos later, if_pos ⟨later.1, by omega, by omega⟩, show off' - off = (off' - (off + 1)) + 1 by omega]
      exact (List.getD_cons_succ ..).symm
    · rw [if_neg later]
      by_cases here : e' = e ∧ off' = off
      · rw [if_pos here, if_pos ⟨here.1, by omega, by omega⟩, here.2, Nat.sub_self]
        rfl
      · rw [if_neg here, if_neg fun h => later ⟨h.1, by omega, by omega⟩]

theorem readPool_writePool {s : State} {e off : Nat} {bs : List Byte} (inv : s.Inv) (low : off + bs.length ≤ 2 ^ 48)
    (tiers : Allocated s e off bs.length) : (s.writePool e off bs).readPool e off bs.length = bs := by
  unfold State.readPool
  refine List.ext_getElem (by rw [List.length_map, List.length_range]) fun i h1 h2 => ?_
  rw [List.getElem_map, List.getElem_range, readByte_writePool inv low tiers (by omega) (.inl rfl),
    if_pos ⟨rfl, by omega, by omega⟩, Nat.add_sub_cancel_left]
  simp [h2]

theorem sram_wf {s : State} (inv : s.Inv) : Memory.wf s.cpu.sram := by
  obtain ⟨_, _, _, _, sram, _⟩ := inv.1
  exact sram

/-- Settles O56: it holds. -/
theorem writesReadBack : Obligations.WritesReadBack := by
  intro s inv
  refine ⟨fun e n v => ⟨State.rd_wr_same inv.1, fun e' k hi hs hi' hs' ne => ?_⟩, fun t a bs => ⟨?_, fun k out => ?_⟩,
    fun e off bs _ low tiers => ⟨readPool_writePool inv low tiers, fun e' off' _ low' apart => ?_⟩⟩
  · refine State.rd_wr_other inv.1 fun same => ne ?_
    obtain ⟨rfl, rfl⟩ := odKey_inj hi' hs' hi hs same
    rfl
  · exact readSram_writeSram (sram_wf inv)
  · rw [writeSram_get (sram_wf inv), if_neg (by omega)]
  · rw [readByte_writePool inv low tiers low', if_neg]
    · rintro ⟨rfl, from_, below⟩
      rcases apart with ⟨_, out⟩ | ⟨other, _⟩
      · omega
      · exact other rfl
    · exact apart.imp (fun h => h.1) id

end Sys2Proof.Proofs.PoolBytes

namespace Sys2Proof.Proofs.ExtentEntries

/-! ## The entries of extents and herds (OD 2800 and OD 2820)

What the tiers, the flash map, the switch and the event log do leaves these entries as they were: one lemma per operation. -/

open Sys2Proof.Machine Sys2Proof.Claims

/-- An entry of a herd or of an extent. -/
def Listed (e : Ent) : Prop := (e.index = 0x2800 ∨ e.index = 0x2820) ∧ e.sub < 256

/-- An entry of the object dictionary that is neither. -/
def Unlisted (e : Ent) : Prop := e.index ≠ 0x2800 ∧ e.index ≠ 0x2820 ∧ e.index < 65536 ∧ e.sub < 256

/-- The entries of herds and extents stand as they did. -/
structure EntriesKept (o s : State) : Prop where
  inv : s.Inv
  rd : ∀ e n, Listed e → s.rd e n = o.rd e n

theorem odUsed_unlisted (k : Nat) : Unlisted (odUsed k) := by
  unfold odUsed
  repeat' split
  all_goals
    unfold Unlisted
    decide

section Entries
variable {o s : State}

theorem EntriesKept.self (inv : s.Inv) : EntriesKept s s := ⟨inv, fun _ _ _ => rfl⟩

theorem EntriesKept.foldl {α : Type} {f : State → α → State} (step : ∀ s x, EntriesKept o s → EntriesKept o (f s x)) (l : List α) {s : State}
    (h : EntriesKept o s) : EntriesKept o (l.foldl f s) := by
  induction l generalizing s with
  | nil => exact h
  | cons x l ih => exact ih (step s x h)

variable (h : EntriesKept o s)
include h

theorem EntriesKept.ite {p : Prop} [Decidable p] {u : State} (k : EntriesKept o u) : EntriesKept o (if p then s else u) := by
  split
  · exact h
  · exact k

theorem EntriesKept.od {u : State} (inv : u.Inv) (same : u.od = s.od) : EntriesKept o u := by
  refine ⟨inv, fun e n at_ => ?_⟩
  rw [← h.rd e n at_, State.rd, State.rd, same]

/-- Memories and granules that are still in their canonical form take the place of the pool. -/
theorem EntriesKept.pool {p : Pool} (mem : Memory.wf p.mem) (cxl : Memory.wf p.cxl) (flash : Memory.wf p.flash)
    (gran : sparseWf (fun _ => granNew) p.gran) : EntriesKept o { s with pool := p } := by
  obtain ⟨od, _, _, _, sram, links, keys, _⟩ := h.inv.1
  exact h.od ⟨⟨od, mem, cxl, flash, sram, links, keys, gran⟩, h.inv.2⟩ rfl

theorem EntriesKept.wr {e : Ent} (n v : Nat) (out : Unlisted e) : EntriesKept o (s.wr e n v) := by
  obtain ⟨not2800, not2820, index, sub⟩ := out
  refine ⟨(State.wr_kept (Kept.self h.inv)).inv, fun e' n' at_ => ?_⟩
  obtain ⟨listed, sub'⟩ := at_
  rw [← h.rd e' n' ⟨listed, sub'⟩]
  refine State.rd_wr_ne h.inv.1 (by omega) sub' index sub fun same => ?_
  rw [same] at listed
  omega

theorem EntriesKept.bump {e : Ent} (n w k : Nat) (out : Unlisted e) : EntriesKept o (s.bump e n w k) := h.wr n _ out

theorem EntriesKept.count (i k : Nat) : EntriesKept o (s.count i k) := h.bump i 64 k (by unfold Unlisted od4800_COUNTER; decide)

theorem EntriesKept.tally (herd i k : Nat) : EntriesKept o (s.tally herd i k) := h.ite (h.count i k)

theorem EntriesKept.homeCount (e j k : Nat) : EntriesKept o (s.homeCount e j k) := by
  unfold State.homeCount
  split
  · exact h.tally _ _ _
  · exact h

theorem EntriesKept.emit (q ev herd kind unit code : Nat) (more : List Nat) : EntriesKept o (s.emit q ev herd kind unit code more) := by
  refine ⟨(State.emit_kept (Kept.self h.inv)).inv, fun e n at_ => ?_⟩
  rw [← h.rd e n at_]
  obtain ⟨listed, sub⟩ := at_
  refine (State.emitAs_frame h.inv.1).rd e n (by omega) sub fun mem => ?_
  unfold eventFrame at mem
  simp only [List.mem_cons, List.not_mem_nil, or_false] at mem
  omega

theorem EntriesKept.extEvent (e ev : Nat) (more : List Nat) : EntriesKept o (s.extEvent e ev more) := h.emit _ _ _ _ _ _ _

/-! ### The flash map -/

theorem EntriesKept.checkpoint : EntriesKept o s.checkpoint := by
  unfold State.checkpoint
  refine EntriesKept.count ?_ _ _
  exact h.od h.inv rfl

theorem EntriesKept.setNandBlock (b : Nat) (x : NandBlock) : EntriesKept o (s.setNandBlock b x) := h.od h.inv rfl

theorem EntriesKept.openNext : EntriesKept o s.openNext := by
  have first : EntriesKept o (if s.nand.opens.isEmpty then s.checkpoint else s) := EntriesKept.ite h.checkpoint h
  unfold State.openNext
  dsimp only
  split
  · exact first
  · exact first.od first.inv rfl

theorem EntriesKept.takePlace {p : Nat} {u : State} (taken : s.takePlace = some (p, u)) : EntriesKept o u := by
  have opened : EntriesKept o (if s.openRoom.isSome then s else s.openNext) := h.ite h.openNext
  unfold State.takePlace at taken
  dsimp only at taken
  split at taken
  · exact absurd taken (by simp)
  · cases taken
    exact opened.setNandBlock _ _

theorem EntriesKept.switchMap (key p : Nat) : EntriesKept o (s.switchMap key p) := by
  have counted : EntriesKept o (if (s.placeOf key).isNone then s.bump od2C40_CHUNKS (key / 4294967296) 64 1 else s) :=
    EntriesKept.ite (h.bump _ _ _ (by unfold Unlisted od2C40_CHUNKS; decide)) h
  unfold State.switchMap
  dsimp only
  refine EntriesKept.bump ?_ _ _ _ (by unfold Unlisted od2C30_FLASH_CHUNKS; decide)
  exact counted.od counted.inv rfl

theorem EntriesKept.nandWrite (key : Nat) : EntriesKept o (s.nandWrite key) := by
  unfold State.nandWrite
  split
  · exact h
  next p u taken =>
    exact (((h.takePlace taken).switchMap key p).bump _ _ _ (by unfold Unlisted od2C30_HOST_CHUNKS; decide)).count _ _

theorem EntriesKept.nandTrim (key : Nat) : EntriesKept o (s.nandTrim key) := by
  unfold State.nandTrim
  dsimp only
  split
  · exact h.od h.inv rfl
  · refine EntriesKept.wr ?_ _ _ (by unfold Unlisted od2C40_CHUNKS; decide)
    exact h.od h.inv rfl

/-! ### The tiers -/

theorem EntriesKept.setGran (e g : Nat) (d : Gran) : EntriesKept o (s.setGran e g d) := h.od (State.setGran_kept (Kept.self h.inv)).inv rfl

theorem EntriesKept.copyChunk (e g c : Nat) (toT1 : Bool) : EntriesKept o (s.copyChunk e g c toT1) := by
  refine h.od (State.copyChunk_kept (Kept.self h.inv)).inv ?_
  unfold State.copyChunk
  dsimp only
  repeat' split
  all_goals rfl

theorem EntriesKept.cleanBit (e g c : Nat) : EntriesKept o (s.cleanBit e g c) := by
  have marked := h.setGran e g { s.gran e g with dirty := (s.gran e g).dirty &&& ~~~(1#32 <<< c) }
  unfold State.cleanBit
  dsimp only
  split
  · split
    · refine EntriesKept.wr ?_ _ _ (by unfold Unlisted od2C10_DIRTY_BYTES; decide)
      exact marked.od marked.inv rfl
    · exact marked
  · exact h

theorem EntriesKept.cleanChunk (e g c : Nat) : EntriesKept o (s.cleanChunk e g c) := by
  unfold State.cleanChunk
  dsimp only
  split
  · have copied : EntriesKept o
        (if (s.gran e g).tier = 3 then (s.copyChunk e g c false).nandWrite (s.chunkKey e g c) else s.copyChunk e g c false) :=
      EntriesKept.ite ((h.copyChunk _ _ _ _).nandWrite _) (h.copyChunk _ _ _ _)
    refine EntriesKept.homeCount ?_ _ _ _
    exact (copied.cleanBit e g c).od (copied.cleanBit e g c).inv rfl
  · exact h

theorem EntriesKept.evict (e g : Nat) : EntriesKept o (s.evict e g) := by
  have cleaned : EntriesKept o ((List.range 32).foldl (fun s c => s.cleanChunk e g c) s) :=
    EntriesKept.foldl (fun _ c k => k.cleanChunk e g c) (List.range 32) h
  obtain ⟨_, mem, cxl, flash, _, _, _, gran⟩ := cleaned.inv.1
  unfold State.evict
  dsimp only
  split
  · refine EntriesKept.homeCount (EntriesKept.setGran ?_ _ _ _) _ _ _
    exact cleaned.pool (sparseWf_sparseDrop _ _ _ _ mem) cxl flash gran
  · exact h

theorem EntriesKept.giveGranule (e g : Nat) : EntriesKept o (s.giveGranule e g) := by
  have given := h.setGran e g
    { granNew with tier := s.extPlace e + 1, loc := if s.extPlace e + 1 = 2 then s.t2Loc.getD 0 else s.pool.nextLoc % 2 ^ 32 }
  unfold State.giveGranule
  dsimp only
  refine EntriesKept.wr ?_ _ _ (odUsed_unlisted _)
  exact given.od given.inv rfl

theorem EntriesKept.freeGranule (e g : Nat) : EntriesKept o (s.freeGranule e g) := by
  have cleaned : EntriesKept o ((List.range 32).foldl (fun s c => s.cleanBit e g c) s) :=
    EntriesKept.foldl (fun _ c k => k.cleanBit e g c) (List.range 32) h
  have trimmed : ∀ u, EntriesKept o u → EntriesKept o ((List.range 32).foldl (fun s c => s.nandTrim (s.chunkKey e g c)) u) :=
    fun u k => EntriesKept.foldl (fun _ _ k => k.nandTrim _) (List.range 32) k
  obtain ⟨_, mem, cxl, flash, _, _, _, gran⟩ := cleaned.inv.1
  unfold State.freeGranule
  dsimp only
  split
  · exact h
  · refine EntriesKept.wr (EntriesKept.setGran ?_ _ _ _) _ _ (odUsed_unlisted _)
    refine EntriesKept.ite (trimmed _ ?_) ?_
    all_goals
      refine cleaned.pool (sparseWf_sparseDrop _ _ _ _ mem) (sparseWf_sparseDrop _ _ _ _ cxl) ?_ gran
      split
      · exact sparseWf_sparseDrop _ _ _ _ flash
      · exact flash

/-! ### Bytes -/

theorem EntriesKept.putByte (e off : Nat) (b : Byte) : EntriesKept o (s.putByte e off b) :=
  h.od (State.putByte_kept (Kept.self h.inv)).inv (State.putByte_od ..)

theorem EntriesKept.openChunk (e g c : Nat) : EntriesKept o (s.openChunk e g c) := by
  refine h.od (State.openChunk_kept (Kept.self h.inv)).inv ?_
  unfold State.openChunk
  dsimp only
  repeat' split
  all_goals rfl

theorem EntriesKept.mapChunk (e g c : Nat) : EntriesKept o (s.mapChunk e g c) := EntriesKept.ite (h.nandWrite _) h

theorem EntriesKept.dirtyChunk (e g c : Nat) : EntriesKept o (s.dirtyChunk e g c) := by
  have marked := h.setGran e g { s.gran e g with dirty := (s.gran e g).dirty ||| (1#32 <<< c) }
  unfold State.dirtyChunk
  dsimp only
  split
  · split
    · refine EntriesKept.bump ?_ _ _ _ (by unfold Unlisted od2C10_DIRTY_BYTES; decide)
      exact marked.od marked.inv rfl
    · exact marked
  · exact h

theorem EntriesKept.writeByte (e off : Nat) (b : Byte) : EntriesKept o (s.writeByte e off b) :=
  (((h.openChunk _ _ _).putByte e off b).mapChunk _ _ _).dirtyChunk _ _ _

theorem EntriesKept.writePool (e off : Nat) (bs : List Byte) : EntriesKept o (s.writePool e off bs) := by
  induction bs generalizing s off with
  | nil => exact h
  | cons b bs ih => exact ih (h.writeByte e off b) (off + 1)

theorem EntriesKept.writeBack (l : Nat) (bs : List Byte) : EntriesKept o (s.writeBack l bs) :=
  EntriesKept.writePool (EntriesKept.ite (h.giveGranule _ _) h) _ _ _

/-! ### Readers and agents -/

theorem EntriesKept.charge (q herd src n : Nat) (add : Bool) : EntriesKept o (s.charge q herd src n add) := by
  have ondie : Unlisted (odOndieUsed q) := by
    unfold Unlisted odOndieUsed
    dsimp only
    omega
  have spilt : Unlisted (odOverflowUsed q) := by
    unfold Unlisted odOverflowUsed
    dsimp only
    omega
  have sources : ∀ w : Switch, EntriesKept o { s with sw := w } := fun w => h.od h.inv rfl
  unfold State.charge
  extract_lets f sw s1
  have drawn : EntriesKept o s1 := by
    unfold s1
    split
    · exact sources _
    · split
      · exact sources _
      · split
        · exact sources _
        · exact h
  split
  · exact drawn.wr _ _ spilt
  · split
    · exact drawn
    · exact drawn.wr _ _ ondie

theorem EntriesKept.enqueue (q i : Nat) (ingress : Option PortId) (ports : List PortId) (b : FrameBody) :
    EntriesKept o (s.enqueue q i ingress ports b) := by
  unfold State.enqueue
  extract_lets n outs busy txBusy landed express src f sw s1 s2
  have charged : EntriesKept o s1 := by
    unfold s1
    refine EntriesKept.charge ?_ _ _ _ _ _
    exact h.od h.inv rfl
  exact EntriesKept.tally (EntriesKept.ite (charged.tally _ _ _) charged) _ _ _

theorem EntriesKept.sendInvalidate {e r val addr aux cls : Nat} {x : Nat × State} (sent : s.sendInvalidate e r val addr aux cls = some x) :
    EntriesKept o x.2 := by
  unfold State.sendInvalidate at sent
  dsimp only at sent
  split at sent
  · exact absurd sent (by simp)
  · split at sent
    · rw [← Option.some.inj sent]
      refine EntriesKept.homeCount (EntriesKept.enqueue ?_ _ _ _ _ _) _ _ _
      exact h.od h.inv rfl
    · exact absurd sent (by simp)

theorem EntriesKept.dropReader (e r : Nat) : EntriesKept o (s.dropReader e r) :=
  (h.wr r 2 (by unfold Unlisted od3010_STATE; decide)).emit _ _ _ _ _ _ _

theorem EntriesKept.invalidateAll (e val addr aux cls : Nat) (rs : List Nat) : EntriesKept o (s.invalidateAll e val addr aux cls rs).1 := by
  induction rs generalizing s with
  | nil => exact h
  | cons r rs ih =>
    unfold State.invalidateAll
    split
    next id u sent => exact ih (h.sendInvalidate (x := (id, u)) sent)
    next => exact ih (h.dropReader e r)

theorem EntriesKept.setDir (l : Nat) (d : DirEntry) : EntriesKept o (s.setDir l d) := h.od h.inv rfl

theorem EntriesKept.setHeld (a l : Nat) (x : Option AgentLine) : EntriesKept o (s.setHeld a l x) := h.od h.inv rfl

theorem EntriesKept.recallFor (r : Revoke) : EntriesKept o (s.recallFor r) := by
  unfold State.recallFor
  dsimp only
  split
  · exact h
  · split
    · refine EntriesKept.foldl (fun s t k => ?_) _ h
      split
      · refine EntriesKept.foldl (fun s l k => ?_) _ k
        split
        · split
          · split
            · exact (((k.writeBack _ _).setHeld _ _ _).setDir _ _)
            · exact k
          · exact k
        · exact k
      · exact k
    · exact EntriesKept.foldl (fun s kv k => (k.setHeld _ _ _).setDir _ _) _ h

/-! ### What goes with an extent -/

theorem EntriesKept.forgetLines (lo hi : Nat) : EntriesKept o (s.forgetLines lo hi) := by
  unfold State.forgetLines State.rutLines
  refine EntriesKept.wr ?_ _ _ (by unfold Unlisted od3000_RUT_LINES; decide)
  exact h.od h.inv rfl

theorem EntriesKept.dropOwn (p : OwnRec → Bool) : EntriesKept o (s.dropOwn p) := by
  unfold State.dropOwn State.ownKept
  refine EntriesKept.wr ?_ _ _ (by unfold Unlisted od3C00_RECORDS; decide)
  exact h.od h.inv rfl

theorem EntriesKept.dropBlocks (e : Nat) : EntriesKept o (s.dropBlocks e) := h.od h.inv rfl

theorem EntriesKept.forgetReaders (e : Nat) : EntriesKept o (s.forgetReaders e) :=
  EntriesKept.foldl (fun _ r k => k.wr r 0 (by unfold Unlisted od3010_STATE; decide)) _ h

theorem EntriesKept.freeVolumeOf (v : Nat) : EntriesKept o (s.freeVolumeOf v) := by
  unfold State.freeVolumeOf
  extract_lets keys s1 p n s2
  have trimmed : EntriesKept o s1 := EntriesKept.foldl (fun _ k kept => kept.nandTrim k) _ h
  have freed : EntriesKept o s2 := by
    obtain ⟨od, mem, cxl, flash, sram, links, keys, gran⟩ := trimmed.inv.1
    exact trimmed.od ⟨⟨od, mem, cxl, sparseWf_sparseDrop _ _ _ _ flash, sram, links, keys, gran⟩, trimmed.inv.2⟩ rfl
  have state : Unlisted od2C40_STATE := by unfold Unlisted; decide
  have chunks : Unlisted od2C40_CHUNKS := by unfold Unlisted; decide
  exact (freed.wr v 0 state).wr v 0 chunks

end Entries

end Sys2Proof.Proofs.ExtentEntries

namespace Sys2Proof.Proofs.FirstWrite

/-! ## The first write of a granule (R101)

What a touch of a new granule may do besides (an eviction from the cache, R103) leaves the entries of the extents as they are. -/

open Sys2Proof.Machine Sys2Proof.Claims Sys2Proof.Proofs.PoolBytes Sys2Proof.Proofs.ExtentEntries

/-! ### A touch of a new granule -/

/-- A granule as it is allocated: every chunk reads as zero and none is in the cache. -/
structure Fresh (d : Gran) : Prop where
  zero : d.zmask = BitVec.allOnes 32
  moving : d.moving = false

section Touch
variable {s : State} {e g : Nat} (inv : s.Inv)

theorem extPersist_kept {u : State} (h : EntriesKept s u) : u.extPersist e = s.extPersist e := by
  unfold State.extPersist
  rw [h.rd od2820_FLAGS e (by unfold Listed od2820_FLAGS; decide)]

theorem gran_homeCount {j k : Nat} (e' : Nat) : (s.homeCount e' j k).gran e g = s.gran e g := by
  unfold State.gran
  rw [State.homeCount_pool]

include inv

/-- The frame that a fill takes is free, or what it held is evicted. -/
theorem room_kept (f : Nat) : EntriesKept s (if s.frame f = frameNone then s else s.evict (s.frame f).ext (s.frame f).gran) ∧
    (if s.frame f = frameNone then s else s.evict (s.frame f).ext (s.frame f).gran).canonical := by
  split
  · exact ⟨.self inv, inv.1⟩
  · exact ⟨EntriesKept.evict (.self inv) _ _, (State.evict_kept (Kept.self inv)).inv.1⟩

theorem startFill_fresh (fresh : Fresh (s.gran e g)) :
    ((s.startFill e g).gran e g).moving = false ∧ EntriesKept s (s.startFill e g) := by
  have copy : ((s.gran e g).zmask != BitVec.allOnes 32) = false := by simp [fresh.zero]
  unfold State.startFill
  dsimp only
  rw [copy]
  split
  · exact ⟨fresh.moving, .self inv⟩
  next w _ =>
    have room := room_kept inv (s.setOf (s.gran e g) * 16 + w)
    generalize s.setOf (s.gran e g) * 16 + w = f at room ⊢
    split
    · exact ⟨fresh.moving, .self inv⟩
    · generalize (if s.frame f = frameNone then s else s.evict (s.frame f).ext (s.frame f).gran) = u at room ⊢
      rw [if_neg (by decide : ¬ false = true)]
      refine ⟨?_, EntriesKept.homeCount ?_ _ _ _⟩
      case refine_2 =>
        refine EntriesKept.setGran ?_ _ _ _
        exact room.1.od room.1.inv rfl
      rw [gran_homeCount, gran_setGran_same (s := u.setFrame f ⟨e, g, s.up + 1⟩) room.2]

theorem touch_fresh (fresh : Fresh (s.gran e g)) : ((s.touch e g).gran e g).moving = false ∧ EntriesKept s (s.touch e g) := by
  unfold State.touch
  dsimp only
  split
  · exact ⟨fresh.moving, .self inv⟩
  · split
    · refine ⟨?_, EntriesKept.homeCount ?_ _ _ _⟩
      · rw [gran_homeCount]
        exact fresh.moving
      · exact (EntriesKept.self inv).od inv rfl
    · obtain ⟨still, kept⟩ := startFill_fresh inv fresh
      exact ⟨by rw [gran_homeCount]; exact still, kept.homeCount _ _ _⟩

end Touch

/-! ### The checks of a write -/

section Write
variable {s : State} {r : Req}

theorem not_chunkPending {e g c : Nat} (still : (s.gran e g).moving = false) : s.chunkPending e g c = false := by
  unfold State.chunkPending
  dsimp only
  rw [still]
  rfl

theorem fillChunk_still {e g c : Nat} (still : (s.gran e g).moving = false) : s.fillChunk e g c = s := by
  unfold State.fillChunk
  rw [not_chunkPending still]
  exact if_neg (by simp)

theorem poisonBars_clean (clean : s.poisoned r.ext (s.reqOff r) (spanOf r.op r.hdr) = false) : s.poisonBars r = false := by
  unfold State.poisonBars
  dsimp only
  split
  · refine List.any_eq_false.mpr fun k mem => ?_
    have none := List.any_eq_false.mp clean k mem
    rw [Bool.not_eq_true] at none
    rw [none]
    exact Bool.false_ne_true
  · exact clean

variable (open_ : s.barred r = false) (some_ : r.op = .pstore → r.hdr.aux ≠ 0)
  (clean : s.poisoned r.ext (s.reqOff r) (spanOf r.op r.hdr) = false)
include open_ some_ clean

theorem serveWrite_refused (none_ : s.prepareWrite r = none) : s.serveWrite r = s.complete r eQuota 0 [] := by
  unfold State.serveWrite
  rw [if_neg (by rw [open_]; exact Bool.false_ne_true), if_neg fun h => some_ h.1 h.2,
    if_neg (by rw [poisonBars_clean clean]; exact Bool.false_ne_true), none_]

theorem serveWrite_applied {u : State} (ready : s.prepareWrite r = some (u, none)) : s.serveWrite r = u.applyWrite r false := by
  unfold State.serveWrite
  rw [if_neg (by rw [open_]; exact Bool.false_ne_true), if_neg fun h => some_ h.1 h.2,
    if_neg (by rw [poisonBars_clean clean]; exact Bool.false_ne_true), ready]

end Write

/-! ### The allocation -/

section Allocate
variable {s : State} {r : Req}

theorem prepareWrite_refused (persist : s.extPersist r.ext = false) (refused : s.allocate r.ext (s.reqOff r / granuleBytes) = none) :
    s.prepareWrite r = none := by
  unfold State.prepareWrite
  dsimp only
  rw [persist, refused]
  rfl

/-- A write of a volatile extent whose granule is new waits for nothing. -/
theorem prepareWrite_fresh {u : State} (persist : s.extPersist r.ext = false) (taken : s.allocate r.ext (s.reqOff r / granuleBytes) = some u)
    (inv : u.Inv) (same : u.extPersist r.ext = false) (fresh : Fresh (u.gran r.ext (s.reqOff r / granuleBytes))) :
    s.prepareWrite r = some (u.touch r.ext (s.reqOff r / granuleBytes), none) := by
  obtain ⟨still, kept⟩ := touch_fresh inv fresh
  have volatile := (extPersist_kept (e := r.ext) kept).trans same
  unfold State.prepareWrite
  dsimp only
  rw [persist, taken]
  dsimp only
  rw [fillChunk_still still, not_chunkPending still, volatile]
  rfl

theorem allocate_refused {e g : Nat} (shut : (s.gran e g).tier = 0) (no : s.mayAllocate (s.extHerd e) (s.extPlace e + 1) granuleBytes = false) :
    s.allocate e g = none := by
  unfold State.allocate
  rw [if_neg (fun h => h shut), no]
  rfl

theorem allocate_given {e g : Nat} (shut : (s.gran e g).tier = 0) (yes : s.mayAllocate (s.extHerd e) (s.extPlace e + 1) granuleBytes = true) :
    s.allocate e g = some (s.giveGranule e g) := by
  unfold State.allocate
  rw [if_neg (fun h => h shut), yes]
  rfl

theorem gran_giveGranule_other {e g e' g' : Nat} (can : s.canonical) (hg : g < 2 ^ 32) (hg' : g' < 2 ^ 32) (ne : ¬ (e' = e ∧ g' = g)) :
    (s.giveGranule e g).gran e' g' = s.gran e' g' :=
  gran_setGran_other can hg hg' ne

theorem gran_giveGranule_same {e g : Nat} (can : s.canonical) : ((s.giveGranule e g).gran e g).tier = s.extPlace e + 1 ∧ Fresh ((s.giveGranule e g).gran e g) := by
  have new : (s.giveGranule e g).gran e g = { granNew with tier := s.extPlace e + 1, loc := if s.extPlace e + 1 = 2 then s.t2Loc.getD 0 else s.pool.nextLoc % 2 ^ 32 } :=
    gran_setGran_same can
  rw [new]
  exact ⟨rfl, rfl, rfl⟩

theorem extPersist_giveGranule {e g : Nat} (inv : s.Inv) (e' : Nat) : (s.giveGranule e g).extPersist e' = s.extPersist e' :=
  extPersist_kept (EntriesKept.giveGranule (.self inv) e g)

end Allocate

/-! ### A load of a granule that is not allocated -/

section Load
variable {s : State} {r : Req}

theorem place_unallocated {e off : Nat} (shut : (s.gran e (off / granuleBytes)).tier = 0) : place s e off = 0 := by
  unfold place tierOf
  exact if_pos (.inl shut)

theorem readByte_unallocated {e off : Nat} (shut : (s.gran e (off / granuleBytes)).tier = 0) : s.readByte e off = 0 := by
  rw [readByte_eq, place_unallocated shut]
  rfl

/-- A load inside one granule that is not allocated reads zeros. -/
theorem readPool_unallocated {e off n : Nat} (shut : (s.gran e (off / granuleBytes)).tier = 0) (inside : off % granuleBytes + n ≤ granuleBytes) :
    s.readPool e off n = List.replicate n 0 := by
  unfold State.readPool
  refine List.eq_replicate_iff.mpr ⟨by rw [List.length_map, List.length_range], fun b mem => ?_⟩
  obtain ⟨i, hi, rfl⟩ := List.mem_map.mp mem
  rw [List.mem_range] at hi
  refine readByte_unallocated ?_
  rw [show (off + i) / granuleBytes = off / granuleBytes by unfold granuleBytes at *; omega]
  exact shut

theorem touch_unallocated {e g : Nat} (shut : (s.gran e g).tier = 0) : s.touch e g = s := by
  unfold State.touch
  exact if_pos (.inl shut)

theorem onFlash_unallocated {e off : Nat} (shut : (s.gran e (off / granuleBytes)).tier = 0) : s.onFlash e off = false := by
  unfold State.onFlash
  rw [whereByte_eq, place_unallocated shut]
  rfl

theorem reqOff_homeCount (inv : s.Inv) (j k : Nat) : (s.homeCount r.ext j k).reqOff r = s.reqOff r := by
  unfold State.reqOff State.extBase
  rw [(EntriesKept.homeCount (.self inv) r.ext j k).rd od2820_BASE r.ext (by unfold Listed od2820_BASE; decide)]

theorem poisoned_homeCount (e off n j k : Nat) : (s.homeCount r.ext j k).poisoned e off n = s.poisoned e off n := by
  unfold State.poisoned
  rw [State.homeCount_pool]

theorem serveLoad_unallocated (inv : s.Inv) (load : r.op = .load) (shut : (s.gran r.ext (s.reqOff r / granuleBytes)).tier = 0)
    (clean : s.poisoned r.ext (s.reqOff r) (spanOf r.op r.hdr) = false) (inside : s.reqOff r % granuleBytes + lenBytes r.hdr ≤ granuleBytes) :
    s.serveLoad r = (s.homeCount r.ext 1 1).complete r eOk 0 (List.replicate (lenBytes r.hdr) 0) := by
  have shut' : ((s.homeCount r.ext 1 1).gran r.ext (s.reqOff r / granuleBytes)).tier = 0 := by rw [gran_homeCount]; exact shut
  have clean' : (s.homeCount r.ext 1 1).poisoned r.ext (s.reqOff r) (lenBytes r.hdr) = false := by
    rw [poisoned_homeCount]
    rw [load] at clean
    exact clean
  unfold State.serveLoad
  dsimp only
  rw [touch_unallocated shut, onFlash_unallocated shut', Bool.and_false, if_neg (by decide : ¬ false = true), State.loadNow,
    reqOff_homeCount inv, clean', if_neg (by decide : ¬ false = true), readPool_unallocated shut' inside]

end Load

theorem used_homeCount {s : State} {e j k : Nat} (can : s.canonical) (tier n : Nat) :
    (s.homeCount e j k).rd (odUsed tier) n = s.rd (odUsed tier) n := by
  have used : (odUsed tier).index = 0x2830 ∧ (odUsed tier).sub < 256 := by
    unfold odUsed
    repeat' split
    all_goals decide
  obtain ⟨index, sub⟩ := used
  unfold State.homeCount
  split
  · exact (OdFrame.tally (l := [0x4800]) can (by decide)).rd _ _ (by omega) sub (by rw [index]; decide)
  · rfl

theorem gran_canonical {s : State} (inv : s.Inv) (e g : Nat) (d : Gran) :
    ({ s.setGran e g d with pool := { (s.setGran e g d).pool with nextLoc := (s.setGran e g d).pool.nextLoc + 1 } } : State).canonical :=
  (State.setGran_kept (e_1 := e) (g_2 := g) (d_3 := d) (Kept.self inv)).inv.1

/-- Settles O57: it holds. -/
theorem theFirstWriteAllocates : Obligations.TheFirstWriteAllocates := by
  intro r s inv e off g h tier _ low shut clean
  have hg : g < 2 ^ 32 := by simp only [g, granuleBytes]; omega
  refine ⟨fun load inside => ⟨s.homeCount e 1 1, serveLoad_unallocated inv load shut clean inside, State.homeCount_pool .., fun k n _ => ?_⟩,
    fun _ barred => ?_, fun _ open_ some_ persist => ⟨fun no => ?_, fun yes => ?_⟩⟩
  · exact used_homeCount inv.1 k n
  · unfold State.serveWrite
    exact if_pos barred
  · exact serveWrite_refused open_ some_ clean (prepareWrite_refused persist (allocate_refused shut no))
  · obtain ⟨tier_, fresh⟩ := gran_giveGranule_same (s := s) (e := e) (g := g) inv.1
    have taken : s.allocate e g = some (s.giveGranule e g) := allocate_given shut yes
    refine ⟨s.giveGranule e g, taken, serveWrite_applied open_ some_ clean
      (prepareWrite_fresh persist taken (State.giveGranule_kept (Kept.self inv)).inv ((extPersist_giveGranule inv _).trans persist) fresh),
      tier_, ?_, fun e' g' _ low' ne => gran_giveGranule_other inv.1 hg low' fun same => ne (Prod.ext same.1 same.2), rfl, rfl, rfl⟩
    exact State.rd_wr_same (gran_canonical inv _ _ _)

end Sys2Proof.Proofs.FirstWrite

namespace Sys2Proof.Proofs.Revokes

/-! ## Draining and freeing (R114–R116, Table 4.9) -/

open Sys2Proof.Machine Sys2Proof.Claims Sys2Proof.Proofs.PoolBytes Sys2Proof.Proofs.ExtentEntries Sys2Proof.Proofs.ResetAndBoot

/-! ### Step 3: the requests left are answered -/

/-- A response to a request. -/
def Answers (m : RespMsg) (q : Req) : Prop := m.hdr.tag = q.hdr.tag ∧ m.hdr.psn = q.hdr.psn ∧ m.hdr.dst = q.hdr.src

/-- The responses of a state stay, and each new one has the code. -/
structure NewResps (code : Nat) (s u : State) : Prop where
  stay : ∀ m ∈ s.tr.resps, m ∈ u.tr.resps
  new : ∀ m ∈ u.tr.resps, m ∈ s.tr.resps ∨ m.hdr.code = BitVec.ofNat 8 code

section Resps
variable {code : Nat} {s u v : State}

theorem NewResps.of_eq (same : u.tr.resps = s.tr.resps) : NewResps code s u :=
  ⟨fun _ mem => same ▸ mem, fun _ mem => .inl (same ▸ mem)⟩

theorem NewResps.trans (first : NewResps code s u) (next : NewResps code u v) : NewResps code s v :=
  ⟨fun m mem => next.stay m (first.stay m mem), fun m mem => (next.new m mem).elim (first.new m) .inr⟩

theorem NewResps.answer (r : Req) (detail : Nat) (data : List Byte) : NewResps code s (s.answer r code detail data) := by
  refine ⟨fun m mem => List.mem_append.mpr (.inl mem), fun m mem => (List.mem_append.mp mem).imp id fun new => ?_⟩
  rw [List.mem_singleton.mp new]
  rfl

theorem answer_answers (r : Req) (detail : Nat) (data : List Byte) : ∃ m ∈ (s.answer r code detail data).tr.resps, Answers m r :=
  ⟨_, List.mem_append.mpr (.inr (List.mem_singleton.mpr rfl)), rfl, rfl, rfl⟩

/-- A fold that answers the requests of a kind, or leaves them to a response that is there, has a response for each of a list. -/
theorem foldl_answers {f : State → Req → State} {p : Req → Prop} (grows : ∀ s q, NewResps code s (f s q))
    (answers : ∀ q, p q → ∀ s, ∃ m ∈ (f s q).tr.resps, Answers m q) (l : List Req) (s : State) :
    NewResps code s (l.foldl f s) ∧ ∀ q ∈ l, p q → ∃ m ∈ (l.foldl f s).tr.resps, Answers m q := by
  induction l generalizing s with
  | nil => exact ⟨.of_eq rfl, fun q mem => absurd mem List.not_mem_nil⟩
  | cons a l ih =>
    obtain ⟨rest, each⟩ := ih (f s a)
    refine ⟨(grows s a).trans rest, fun q mem kind => ?_⟩
    rcases List.mem_cons.mp mem with rfl | later
    · obtain ⟨m, there, is⟩ := answers q kind s
      exact ⟨m, rest.stay m there, is⟩
    · exact each q later kind

end Resps

section Drain
variable {s : State}

theorem creditBack_resps (p : PortId) (c n : Nat) : (s.creditBack p c n).tr.resps = s.tr.resps := by
  unfold State.creditBack
  split
  · rfl
  · rw [State.count_tr, State.bump_tr]

theorem freeCells_resps (r : Req) : (s.freeCells r).tr.resps = s.tr.resps := by
  unfold State.freeCells
  split
  · exact creditBack_resps ..
  · exact creditBack_resps ..
  · exact creditBack_resps ..
  · rfl

theorem newResps_answerHere {code : Nat} (r : Req) : NewResps code s (s.answerHere r code 0) :=
  (NewResps.of_eq (freeCells_resps r)).trans (.answer r 0 [])

theorem answerHere_answers {code : Nat} (r : Req) : ∃ m ∈ (s.answerHere r code 0).tr.resps, Answers m r := answer_answers r 0 []

/-- One request held at a home is answered, or has its response already. -/
def failOne (code : Nat) (s : State) (r : Req) : State :=
  if s.tr.resps.any (fun m => m.hdr.tag == r.hdr.tag && m.hdr.psn == r.hdr.psn && m.hdr.dst == r.hdr.src) then s else s.answer r code 0 []

theorem failOne_answers {code : Nat} (q : Req) : ∃ m ∈ (failOne code s q).tr.resps, Answers m q := by
  unfold failOne
  split
  next there =>
    obtain ⟨m, mem, is⟩ := List.any_eq_true.mp there
    simp only [Bool.and_eq_true, beq_iff_eq] at is
    obtain ⟨⟨tag, psn⟩, dst⟩ := is
    exact ⟨m, mem, tag, psn, dst⟩
  · exact answer_answers q 0 []

theorem newResps_failOne {code : Nat} (r : Req) : NewResps code s (failOne code s r) := by
  unfold failOne
  split
  · exact .of_eq rfl
  · exact .answer r 0 []

theorem failHeld_eq (code : Nat) (p : Req → Bool) :
    ∃ u : State, u.tr = s.tr ∧ s.failHeld code p = (s.homeReqs.filter p).foldl (failOne code) u := by
  unfold State.failHeld
  refine ⟨_, ?_, rfl⟩
  rfl

/-- Each request held at a home that is selected has a response. -/
theorem failHeld_answers (code : Nat) (p : Req → Bool) :
    NewResps code s (s.failHeld code p) ∧ ∀ q ∈ s.homeReqs.filter p, ∃ m ∈ (s.failHeld code p).tr.resps, Answers m q := by
  obtain ⟨u, tr, eq⟩ := failHeld_eq (s := s) code p
  obtain ⟨grow, each⟩ := foldl_answers (p := fun _ => True) (fun s r => newResps_failOne (s := s) r)
    (fun q _ s => failOne_answers (code := code) (s := s) q) (s.homeReqs.filter p) u
  rw [eq]
  exact ⟨(NewResps.of_eq (by rw [tr])).trans grow, fun q mem => each q mem trivial⟩

/-- A request that is still at its ingress. -/
def AtIngress (q : Req) : Prop := q.place = .rate ∨ q.place = .order ∨ q.place = .route

/-- A request still at its ingress is answered there. -/
def failHere (code : Nat) (s : State) (q : Req) : State :=
  if q.place = .rate ∨ q.place = .order ∨ q.place = .route then s.answerHere q code 0 else s

theorem failHere_answers {code : Nat} {q : Req} (at_ : AtIngress q) : ∃ m ∈ (failHere code s q).tr.resps, Answers m q := by
  unfold failHere
  rw [if_pos (show q.place = .rate ∨ q.place = .order ∨ q.place = .route from at_)]
  exact answerHere_answers q

theorem newResps_failHere {code : Nat} (q : Req) : NewResps code s (failHere code s q) := by
  unfold failHere
  split
  · exact newResps_answerHere q
  · exact .of_eq rfl

theorem endDrain_resps (r : Revoke) :
    (s.endDrain r).tr.resps = ((s.revokeLeft r).foldl (failHere eRevoked) (s.failHeld eRevoked (s.revokeHits r))).tr.resps := by
  unfold State.endDrain State.extEvent
  dsimp only
  rw [State.emit_tr]
  rfl

theorem endDrain_answers (r : Revoke) {q : Req} (left : q ∈ s.revokeLeft r) :
    ∃ m ∈ (s.endDrain r).tr.resps, m.hdr.tag = q.hdr.tag ∧ m.hdr.psn = q.hdr.psn ∧ m.hdr.dst = q.hdr.src ∧
      (m ∈ s.tr.resps ∨ m.hdr.code = BitVec.ofNat 8 eRevoked) := by
  obtain ⟨held, eachHeld⟩ := failHeld_answers (s := s) eRevoked (s.revokeHits r)
  obtain ⟨grow, each⟩ := foldl_answers (fun s r => newResps_failHere (s := s) r)
    (fun q at_ s => failHere_answers (code := eRevoked) (s := s) (q := q) at_) (s.revokeLeft r) (s.failHeld eRevoked (s.revokeHits r))
  have answered : ∃ m ∈ (s.endDrain r).tr.resps, Answers m q := by
    rw [endDrain_resps]
    rcases List.mem_append.mp left with home | out
    · obtain ⟨m, there, is⟩ := eachHeld q home
      exact ⟨m, grow.stay m there, is⟩
    · refine each q left ?_
      obtain ⟨_, at_⟩ := List.mem_filter.mp out
      simp only [Bool.and_eq_true, Bool.or_eq_true, beq_iff_eq] at at_
      exact or_assoc.mp at_.1.1
  obtain ⟨m, there, tag, psn, dst⟩ := answered
  refine ⟨m, there, tag, psn, dst, (held.trans grow).new m ?_⟩
  rw [← endDrain_resps]
  exact there

theorem endDrain_steps {r : Revoke} {x : Revoke} (mem : x ∈ (s.endDrain r).pool.revokes) (of : x.ext = r.ext) : x.step = 3 := by
  unfold State.endDrain State.extEvent at mem
  dsimp only at mem
  rw [State.emit_pool] at mem
  obtain ⟨y, _, rfl⟩ := List.mem_map.mp mem
  by_cases here : y.ext = r.ext
  · rw [if_pos here]
  · rw [if_neg here] at of
    exact absurd of here

end Drain

/-! ### Step 4: granules -/

theorem foldl_same {α β γ : Type} (p : α → γ) {f : α → β → α} (same : ∀ a b, p (f a b) = p a) (l : List β) (a : α) : p (l.foldl f a) = p a := by
  induction l generalizing a with
  | nil => rfl
  | cons b l ih => exact (ih _).trans (same a b)

section Free
variable {s : State} {e g : Nat}

/-- A granule, and the revokes, as they were. -/
structure GranKept (e g : Nat) (o s : State) : Prop where
  inv : s.Inv
  gran : s.gran e g = o.gran e g

theorem nandTrim_pool (key : Nat) : (s.nandTrim key).pool = s.pool := by
  unfold State.nandTrim
  dsimp only
  split
  · rfl
  · rfl

theorem cleanBit_revokes (c : Nat) : (s.cleanBit e g c).pool.revokes = s.pool.revokes := by
  unfold State.cleanBit
  dsimp only
  split
  · split
    · rfl
    · rfl
  · rfl

/-- A granule that is freed is new, after its bits are clean and its bytes are gone. -/
theorem freeGranule_eq (held : (s.gran e g).tier ≠ 0) : ∃ (u : State) (x : Ent) (n v : Nat),
    s.freeGranule e g = (u.setGran e g granNew).wr x n v ∧
    u.pool.gran = ((List.range 32).foldl (fun s c => s.cleanBit e g c) s).pool.gran ∧ u.pool.revokes = s.pool.revokes := by
  have cleaned : ((List.range 32).foldl (fun s c => s.cleanBit e g c) s).pool.revokes = s.pool.revokes :=
    foldl_same (fun s : State => s.pool.revokes) (fun _ c => cleanBit_revokes c) (List.range 32) s
  have trimmed : ∀ u : State, ((List.range 32).foldl (fun s c => s.nandTrim (s.chunkKey e g c)) u).pool = u.pool :=
    foldl_same (fun s : State => s.pool) (fun _ _ => nandTrim_pool _) (List.range 32)
  unfold State.freeGranule
  dsimp only
  rw [if_neg held]
  refine ⟨_, _, _, _, rfl, ?_, ?_⟩
  · split
    · rw [trimmed]
    · rfl
  · split
    · rw [trimmed]
      exact cleaned
    · exact cleaned

theorem freeGranule_shut (shut : (s.gran e g).tier = 0) : s.freeGranule e g = s := by
  unfold State.freeGranule
  exact if_pos shut

theorem freeGranule_revokes : (s.freeGranule e g).pool.revokes = s.pool.revokes := by
  by_cases shut : (s.gran e g).tier = 0
  · rw [freeGranule_shut shut]
  · obtain ⟨u, x, n, v, eq, _, revokes⟩ := freeGranule_eq shut
    rw [eq, State.wr_pool]
    exact revokes

variable (inv : s.Inv) (hg : g < 2 ^ 32)
include inv hg

theorem gran_cleanBit_other {c g' : Nat} (hg' : g' < 2 ^ 32) (ne : g' ≠ g) : (s.cleanBit e g c).gran e g' = s.gran e g' := by
  have other := gran_setGran_other (e := e) (d := { s.gran e g with dirty := (s.gran e g).dirty &&& ~~~(1#32 <<< c) }) inv.1 hg hg'
    (show ¬ (e = e ∧ g' = g) from fun h => ne h.2)
  unfold State.cleanBit
  dsimp only
  split
  · split
    · exact other
    · exact other
  · rfl

theorem cleanBits_other {g' : Nat} (hg' : g' < 2 ^ 32) (ne : g' ≠ g) (l : List Nat) :
    GranKept e g' s (l.foldl (fun s c => s.cleanBit e g c) s) := by
  induction l generalizing s with
  | nil => exact ⟨inv, rfl⟩
  | cons c l ih =>
    obtain ⟨inv', gran⟩ := ih (State.cleanBit_kept (Kept.self inv)).inv
    exact ⟨inv', gran.trans (gran_cleanBit_other inv hg hg' ne)⟩

/-- What a granule that is freed, and any other of its extent, are. -/
theorem gran_freeGranule {g' : Nat} (hg' : g' < 2 ^ 32) :
    (g' = g → ((s.freeGranule e g).gran e g').tier = 0) ∧ (g' ≠ g → (s.freeGranule e g).gran e g' = s.gran e g') := by
  by_cases shut : (s.gran e g).tier = 0
  · rw [freeGranule_shut shut]
    exact ⟨fun same => same ▸ shut, fun _ => rfl⟩
  · obtain ⟨u, x, n, v, eq, gran, _⟩ := freeGranule_eq shut
    have cleaned : ((List.range 32).foldl (fun s c => s.cleanBit e g c) s).Inv :=
      (foldl_kept (Kept.self inv) fun _ _ k => State.cleanBit_kept k).inv
    have ordered : u.pool.gran.Pairwise (fun a b => a.1 < b.1) := by
      rw [gran]
      obtain ⟨_, _, _, _, _, _, _, grans⟩ := cleaned.1
      exact grans.1
    rw [eq]
    refine ⟨fun same => ?_, fun ne => ?_⟩
    · rw [same]
      exact congrArg Gran.tier (sparseGet_sparseSet_same granNew u.pool.gran (granKey e g) granNew ordered)
    · have key : granKey e g' ≠ granKey e g := by
        unfold granKey
        omega
      refine (sparseGet_sparseSet_other granNew granNew u.pool.gran (granKey e g) (granKey e g') granNew ordered key).trans ?_
      rw [gran]
      exact (cleanBits_other inv hg hg' ne (List.range 32)).gran

end Free

section Granules
variable {s : State} {e : Nat}

/-- What freeing a list of granules leaves of the granules of an extent. -/
theorem gran_freeGranules (inv : s.Inv) {l : List Nat} (low : ∀ g ∈ l, g < 2 ^ 32) {g : Nat} (hg : g < 2 ^ 32) :
    (g ∈ l → ((l.foldl (fun s g => s.freeGranule e g) s).gran e g).tier = 0) ∧
    (g ∉ l → (l.foldl (fun s g => s.freeGranule e g) s).gran e g = s.gran e g) := by
  induction l generalizing s with
  | nil => exact ⟨fun mem => absurd mem List.not_mem_nil, fun _ => rfl⟩
  | cons a l ih =>
    obtain ⟨freed, other⟩ := gran_freeGranule inv (low a List.mem_cons_self) (e := e) hg
    obtain ⟨later, kept⟩ := ih (State.freeGranule_kept (e_1 := e) (g_2 := a) (Kept.self inv)).inv fun g mem => low g (List.mem_cons_of_mem _ mem)
    refine ⟨fun mem => ?_, fun out => ?_⟩
    · by_cases again : g ∈ l
      · exact later again
      · have here : g = a := (List.mem_cons.mp mem).resolve_right again
        exact (congrArg Gran.tier (kept again)).trans (freed here)
    · rw [List.mem_cons, not_or] at out
      exact (kept out.2).trans (other out.1)

theorem granulesOf_low {g : Nat} (mem : g ∈ s.granulesOf e) : g < 2 ^ 32 := by
  obtain ⟨kv, slice, rfl⟩ := List.mem_map.mp mem
  have range := (List.mem_filter.mp slice).2
  rw [decide_eq_true_eq] at range
  unfold granKey at *
  omega

/-- A granule that is not listed is not allocated. -/
theorem gran_of_not_listed {g : Nat} (hg : g < 2 ^ 32) (out : g ∉ s.granulesOf e) : (s.gran e g).tier = 0 := by
  refine congrArg Gran.tier (sparseGet_of_not_listed granNew s.pool.gran (granKey e g) fun kv mem same => out ?_)
  refine List.mem_map.mpr ⟨kv, List.mem_filter.mpr ⟨mem, ?_⟩, ?_⟩
  · rw [decide_eq_true_eq, same]
    unfold granKey
    omega
  · rw [same]
    unfold granKey
    omega

/-- The granules of an extent from one on are freed, and those before it stay. -/
theorem gran_freeFrom (first : Nat) {u : State} (invU : u.Inv) (pool : u.pool.gran = s.pool.gran) {g : Nat} (hg : g < 2 ^ 32) :
    let v := ((s.granulesOf e).filter (fun g => decide (first ≤ g))).foldl (fun s g => s.freeGranule e g) u
    (first ≤ g → (v.gran e g).tier = 0) ∧ (g < first → v.gran e g = s.gran e g) := by
  have before : u.gran e g = s.gran e g := by
    unfold State.gran
    rw [pool]
  obtain ⟨freed, kept⟩ := gran_freeGranules (e := e) (l := (s.granulesOf e).filter (fun g => decide (first ≤ g))) invU
    (fun g mem => granulesOf_low (List.mem_filter.mp mem).1) hg
  refine ⟨fun from_ => ?_, fun below => ?_⟩
  · by_cases listed : g ∈ s.granulesOf e
    · exact freed (List.mem_filter.mpr ⟨listed, decide_eq_true from_⟩)
    · refine (congrArg Gran.tier (kept fun mem => listed (List.mem_filter.mp mem).1)).trans ?_
      rw [before]
      exact gran_of_not_listed hg listed
  · refine (kept fun mem => ?_).trans before
    have from_ := of_decide_eq_true (List.mem_filter.mp mem).2
    omega

end Granules

/-! ### Step 4: the entries of the extent -/

/-- The state without a revoke and without the granules that it takes. -/
def withoutGranules (s : State) (r : Revoke) : State :=
  ((s.granulesOf r.ext).filter (fun g => decide (s.revokeFrom r ≤ g))).foldl (fun s g => s.freeGranule r.ext g)
    { s with pool := { s.pool with revokes := s.pool.revokes.filter (fun x => x.ext != r.ext) } }

/-- The state after the granules of a revoke, their lines, lists and blocks are gone. -/
def stripped (s : State) (r : Revoke) : State :=
  (((withoutGranules s r).forgetLines (lineKey r.ext (s.revokeFrom r * granuleBytes)) (lineKey (r.ext + 1) 0)).dropOwn
    (fun o => o.ext == r.ext && decide (s.revokeFrom r * granuleBytes + s.extBase r.ext ≤ o.list))).dropBlocks r.ext

/-- The state after a shrunk extent has its new length. -/
def shortened (s : State) (r : Revoke) : State :=
  if s.extPlace r.ext = 2 ∧ (s.extSlice r.ext).isSome then
    ((stripped s r).wr od2820_GRANULES r.ext (s.revokeFrom r)).wr od2C40_GRANULES (s.volOf r.ext) (s.revokeFrom r)
  else (stripped s r).wr od2820_GRANULES r.ext (s.revokeFrom r)

/-- The state after the volume of a revoked extent is free. -/
def volumeless (s : State) (r : Revoke) : State :=
  if s.extPlace r.ext = 2 ∧ (s.extSlice r.ext).isSome then (stripped s r).freeVolumeOf (s.volOf r.ext) else stripped s r

/-- The state after the volume and the readers of a revoked extent are gone. -/
def unmapped (s : State) (r : Revoke) : State :=
  State.forgetReaders { volumeless s r with pool := { (volumeless s r).pool with
    extVol := sparseSet 0 (volumeless s r).pool.extVol r.ext 0
    forward := (volumeless s r).pool.forward.filter (fun x => x.1 != r.ext) } } r.ext

/-- The state without a revoke whose herd no longer shares the extent. -/
def unshared (s : State) (r : Revoke) : State :=
  ({ s with pool := { s.pool with revokes := s.pool.revokes.filter (fun x => x.ext != r.ext) } } : State).wr od2820_SHARED r.ext
    (s.rd od2820_SHARED r.ext &&& (2 ^ 4096 - 1 - 2 ^ r.arg))

/-- The end of a revoke that leaves its extent mapped. -/
def keptOn (s : State) (e : Nat) : State :=
  (((s.wr od2820_STATE e 1).wr od2820_RESULT e abOk).extEvent e evRevokeDone []).unshareClosing e

section Strip
variable {s : State} {r : Revoke}

theorem revokeFree_unshare (nine : r.op = 9) : s.revokeFree r = keptOn (unshared s r) r.ext := by
  unfold State.revokeFree
  exact if_pos nine

theorem revokeFree_shrink (three : r.op = 3) : s.revokeFree r = keptOn (shortened s r) r.ext := by
  unfold State.revokeFree
  exact (if_neg (by omega)).trans (if_pos three)

theorem revokeFree_whole (six : r.op = 6) : s.revokeFree r =
    (((((unmapped s r).wr od2820_STATE r.ext 0).wr od2820_CSTATE r.ext 0).wr od2820_RESULT r.ext abOk).extEvent r.ext evRevokeDone []) := by
  unfold State.revokeFree
  exact (if_neg (by omega)).trans (if_neg (by omega))

theorem stripped_pool : (stripped s r).pool.gran = (withoutGranules s r).pool.gran ∧ (stripped s r).pool.revokes = (withoutGranules s r).pool.revokes :=
  ⟨rfl, rfl⟩

theorem withoutGranules_revokes : (withoutGranules s r).pool.revokes = s.pool.revokes.filter (fun x => x.ext != r.ext) := by
  unfold withoutGranules
  exact foldl_same (fun s : State => s.pool.revokes) (fun _ _ => freeGranule_revokes) _ _

theorem freeVolumeOf_pool {u : State} (v : Nat) : (u.freeVolumeOf v).pool.gran = u.pool.gran ∧ (u.freeVolumeOf v).pool.revokes = u.pool.revokes := by
  have trimmed : ∀ l : List Nat, (l.foldl (fun s k => s.nandTrim k) u).pool = u.pool := fun l =>
    foldl_same (fun s : State => s.pool) (fun _ k => nandTrim_pool k) l u
  have all := trimmed ((sparseSlice u.nand.map (volChunk v 0) (volChunk (v + 1) 0)).map (·.1))
  have gran := congrArg Pool.gran all
  have revokes := congrArg Pool.revokes all
  unfold State.freeVolumeOf
  dsimp only
  rw [State.wr_pool, State.wr_pool]
  exact ⟨gran, revokes⟩

theorem forgetReaders_pool {u : State} (e : Nat) : (u.forgetReaders e).pool = u.pool :=
  foldl_same (fun s : State => s.pool) (fun _ _ => State.wr_pool ..) _ _

theorem unmapped_pool : (unmapped s r).pool.gran = (withoutGranules s r).pool.gran ∧
    (unmapped s r).pool.revokes = (withoutGranules s r).pool.revokes := by
  have volume : (volumeless s r).pool.gran = (stripped s r).pool.gran ∧ (volumeless s r).pool.revokes = (stripped s r).pool.revokes := by
    unfold volumeless
    split
    · exact freeVolumeOf_pool _
    · exact ⟨rfl, rfl⟩
  obtain ⟨gran, revokes⟩ := volume
  unfold unmapped
  rw [forgetReaders_pool]
  exact ⟨gran.trans stripped_pool.1, revokes.trans stripped_pool.2⟩

theorem shortened_pool : (shortened s r).pool.gran = (withoutGranules s r).pool.gran := by
  unfold shortened
  split
  · rfl
  · rfl

variable (inv : s.Inv)
include inv

theorem withoutGranules_gran {u : State} (same : u.pool.gran = (withoutGranules s r).pool.gran) {g : Nat} (hg : g < 2 ^ 32) :
    (s.revokeFrom r ≤ g → (u.gran r.ext g).tier = 0) ∧ (g < s.revokeFrom r → u.gran r.ext g = s.gran r.ext g) := by
  unfold State.gran at *
  rw [same]
  exact gran_freeFrom (s := s) (e := r.ext) (s.revokeFrom r)
    (u := { s with pool := { s.pool with revokes := s.pool.revokes.filter (fun x => x.ext != r.ext) } }) inv rfl hg

theorem stripped_entries : EntriesKept s (stripped s r) := by
  have freed : EntriesKept s (withoutGranules s r) := by
    unfold withoutGranules
    refine EntriesKept.foldl (fun s g k => k.freeGranule r.ext g) _ ?_
    exact (EntriesKept.self inv).od inv rfl
  exact ((freed.forgetLines _ _).dropOwn _).dropBlocks _

theorem unmapped_entries : EntriesKept s (unmapped s r) := by
  have volume : EntriesKept s (volumeless s r) := EntriesKept.ite ((stripped_entries inv).freeVolumeOf _) (stripped_entries inv)
  unfold unmapped
  refine EntriesKept.forgetReaders ?_ _
  exact volume.od volume.inv rfl

end Strip

/-! ### Entries written in turn -/

section Written
variable {s : State} (inv : s.Inv)

theorem listed_extent {sub : Nat} (low : sub < 256) : Listed ⟨0x2820, sub⟩ := ⟨.inr rfl, low⟩

include inv

theorem rd_wr_listed {e e' : Ent} (n n' v : Nat) (at_ : Listed e) (at' : Listed e') (ne : e ≠ e') : (s.wr e' n' v).rd e n = s.rd e n := by
  obtain ⟨index, sub⟩ := at_
  obtain ⟨index', sub'⟩ := at'
  exact State.rd_wr_ne inv.1 (by omega) sub (by omega) sub' ne

theorem inv_wr (e : Ent) (n v : Nat) : (s.wr e n v).Inv := (State.wr_kept (Kept.self inv)).inv

end Written

/-! ### A revoke that leaves its extent mapped -/

section KeptOn
variable {s : State} {e : Nat}

/-- The state of an extent that is mapped again, before the UNSHARE of a closing herd. -/
def remapped (s : State) (e : Nat) : State := ((s.wr od2820_STATE e 1).wr od2820_RESULT e abOk).extEvent e evRevokeDone []

theorem keptOn_idle (idle : ∀ h ∈ ((remapped s e).extHerds e).tail, (remapped s e).herdState h ≠ 3) : keptOn s e = remapped s e := by
  have none_ : ((remapped s e).extHerds e).tail.find? (fun h => (remapped s e).herdState h == 3) = none :=
    List.find?_eq_none.mpr fun h mem => by simpa using idle h mem
  change (remapped s e).unshareClosing e = _
  unfold State.unshareClosing
  rw [none_]
  exact ite_self _

theorem remapped_gran (g : Nat) : (remapped s e).gran e g = s.gran e g := by
  unfold State.gran remapped State.extEvent
  rw [State.emit_pool]
  rfl

theorem extHerds_tail (h : Nat) : h ∈ (s.extHerds e).tail ↔ h < 4096 ∧ s.extShared e h = true := by
  unfold State.extHerds
  rw [List.tail_cons, List.mem_filter, List.mem_range]

variable (inv : s.Inv)
include inv

theorem inv_remapped : (remapped s e).Inv := (State.extEvent_kept (Kept.self (inv_wr (inv_wr inv _ _ _) _ _ _))).inv

theorem rd_remapped {x : Ent} (n : Nat) (at_ : Listed x) : (remapped s e).rd x n = ((s.wr od2820_STATE e 1).wr od2820_RESULT e abOk).rd x n :=
  (EntriesKept.extEvent (.self (inv_wr (inv_wr inv _ _ _) _ _ _)) e evRevokeDone []).rd x n at_

/-- What the entries of an extent that is mapped again hold. -/
theorem remapped_result : (remapped s e).rd od2820_RESULT e = abOk ∧ (remapped s e).extState e = 1 := by
  have state : Listed od2820_STATE := ⟨.inr rfl, by decide⟩
  have result : Listed od2820_RESULT := ⟨.inr rfl, by decide⟩
  refine ⟨?_, ?_⟩
  · rw [rd_remapped inv _ result, State.rd_wr_same (inv_wr inv _ _ _).1]
  · unfold State.extState
    rw [rd_remapped inv _ state, rd_wr_listed (inv_wr inv _ _ _) _ _ _ state result (by decide), State.rd_wr_same inv.1]

theorem rd_remapped_other {x : Ent} (n : Nat) (at_ : Listed x) (state : x ≠ od2820_STATE) (result : x ≠ od2820_RESULT) :
    (remapped s e).rd x n = s.rd x n := by
  rw [rd_remapped inv n at_, rd_wr_listed (inv_wr inv _ _ _) _ _ _ at_ ⟨.inr rfl, by decide⟩ result,
    rd_wr_listed inv _ _ _ at_ ⟨.inr rfl, by decide⟩ state]

theorem herdState_remapped (h : Nat) : (remapped s e).herdState h = s.herdState h :=
  rd_remapped_other inv h ⟨.inl rfl, by decide⟩ (by decide) (by decide)

theorem extShared_remapped (h : Nat) : (remapped s e).extShared e h = s.extShared e h := by
  unfold State.extShared
  rw [rd_remapped_other inv e ⟨.inr rfl, by decide⟩ (by decide) (by decide)]

/-- The state of an extent whose revoke begins. -/
def revoking (s : State) (e op arg : Nat) : State :=
  ({ s with pool := { s.pool with revokes := s.pool.revokes ++ [⟨e, op, arg, s.clk, 2⟩] } } : State).wr od2820_STATE e 3

theorem startRevoke_entries (op arg : Nat) : EntriesKept (revoking s e op arg) (s.startRevoke e op arg) := by
  have begun : EntriesKept (revoking s e op arg) (revoking s e op arg) := by
    refine EntriesKept.self (inv_wr ?_ _ _ _)
    exact inv
  exact EntriesKept.recallFor (EntriesKept.ite (begun.invalidateAll ..) begun) _

theorem extShared_startRevoke (op arg h : Nat) : (s.startRevoke e op arg).extShared e h = s.extShared e h := by
  have shared : Listed od2820_SHARED := ⟨.inr rfl, by decide⟩
  unfold State.extShared
  rw [(startRevoke_entries inv op arg).rd od2820_SHARED e shared]
  refine congrArg (bitAt · h) (rd_wr_listed (e := od2820_SHARED) (e' := od2820_STATE) ?_ e e 3 shared ⟨.inr rfl, by decide⟩ (by decide))
  exact inv

/-- SHARED stays where the UNSHARE of a closing herd starts at once. -/
theorem extShared_keptOn (h : Nat) : (keptOn s e).extShared e h = s.extShared e h := by
  refine Eq.trans ?_ (extShared_remapped inv h)
  change ((remapped s e).unshareClosing e).extShared e h = _
  unfold State.unshareClosing
  split
  · rfl
  · split
    · exact extShared_startRevoke (inv_remapped inv) _ _ h
    · rfl

/-- A revoke ends with OK, and no closing herd has its UNSHARE start. -/
theorem keptOn_result (idle : ∀ h, h < 4096 → s.extShared e h = true → s.herdState h ≠ 3) :
    keptOn s e = remapped s e ∧ (keptOn s e).rd od2820_RESULT e = abOk ∧ (keptOn s e).extState e = 1 := by
  have eq : keptOn s e = remapped s e := by
    refine keptOn_idle fun h mem => ?_
    obtain ⟨low, shared⟩ := (extHerds_tail h).mp mem
    rw [herdState_remapped inv]
    exact idle h low ((extShared_remapped inv h).symm.trans shared)
  rw [eq]
  exact ⟨rfl, remapped_result inv⟩

end KeptOn

/-! ### UNSHARE, SHRINK and REVOKE -/

/-- A mask of `n` bits without one of them. -/
theorem testBit_mask {n arg h : Nat} (low : arg < n) (hh : h < n) : (2 ^ n - 1 - 2 ^ arg).testBit h = (h != arg) := by
  rw [Nat.sub_sub, Nat.add_comm 1, Nat.testBit_two_pow_sub_succ (Nat.pow_lt_pow_right Nat.one_lt_two low), Nat.testBit_two_pow, decide_eq_true hh,
    Bool.true_and]
  by_cases same : arg = h
  · simp [same]
  · simp [same, Ne.symm same]

theorem bitAt_unshared {m arg h : Nat} (low : arg < 4096) (hh : h < 4096) : bitAt (m &&& (2 ^ 4096 - 1 - 2 ^ arg)) h = (bitAt m h && h != arg) := by
  rw [OdMessages.bitAt_eq_testBit, OdMessages.bitAt_eq_testBit, Nat.testBit_and, testBit_mask low hh]

theorem bitAt_of_masked {m k h : Nat} (set : bitAt (m &&& k) h = true) : bitAt m h = true := by
  rw [OdMessages.bitAt_eq_testBit] at set ⊢
  rw [Nat.testBit_and, Bool.and_eq_true] at set
  exact set.1

section Free4
variable {s : State} {r : Revoke} (inv : s.Inv)
include inv

theorem inv_unshared : (unshared s r).Inv := by
  refine inv_wr ?_ _ _ _
  exact inv

theorem rd_unshared : (unshared s r).rd od2820_SHARED r.ext = s.rd od2820_SHARED r.ext &&& (2 ^ 4096 - 1 - 2 ^ r.arg) := by
  refine State.rd_wr_same ?_
  exact inv.1

theorem herdState_unshared (h : Nat) : (unshared s r).herdState h = s.herdState h := by
  refine rd_wr_listed (e := od2800_STATE) (e' := od2820_SHARED) ?_ _ _ _ ⟨.inl rfl, by decide⟩ ⟨.inr rfl, by decide⟩ (by decide)
  exact inv

theorem revokeFree_shared (nine : r.op = 9) (low : r.arg < 4096) {h : Nat} (hh : h < 4096) :
    (s.revokeFree r).extShared r.ext h = (s.extShared r.ext h && h != r.arg) := by
  rw [revokeFree_unshare nine, extShared_keptOn (inv_unshared inv)]
  unfold State.extShared
  rw [rd_unshared inv, bitAt_unshared low hh]

theorem shortened_entries : ∃ u, u.Inv ∧ EntriesKept s u ∧ EntriesKept (u.wr od2820_GRANULES r.ext (s.revokeFrom r)) (shortened s r) := by
  have kept := stripped_entries (r := r) inv
  have self := EntriesKept.self (inv_wr kept.inv od2820_GRANULES r.ext (s.revokeFrom r))
  have volume : Unlisted od2C40_GRANULES := by unfold Unlisted; decide
  exact ⟨stripped s r, kept.inv, kept, EntriesKept.ite (self.wr _ _ volume) self⟩

theorem rd_shortened {x : Ent} (n : Nat) (at_ : Listed x) (ne : x ≠ od2820_GRANULES) : (shortened s r).rd x n = s.rd x n := by
  obtain ⟨u, invU, kept, entries⟩ := shortened_entries (r := r) inv
  rw [entries.rd x n at_, rd_wr_listed invU _ _ _ at_ ⟨.inr rfl, by decide⟩ ne, kept.rd x n at_]

theorem extGranules_shortened : (shortened s r).extGranules r.ext = s.revokeFrom r := by
  obtain ⟨u, invU, _, entries⟩ := shortened_entries (r := r) inv
  unfold State.extGranules
  rw [entries.rd _ _ ⟨.inr rfl, by decide⟩, State.rd_wr_same invU.1]

theorem inv_shortened : (shortened s r).Inv := by
  obtain ⟨_, _, _, entries⟩ := shortened_entries (r := r) inv
  exact entries.inv

/-- No closing herd shares an extent that is shortened where none did. -/
theorem open_shortened (idle : ∀ h ∈ (s.extHerds r.ext).tail, s.herdState h ≠ 3) :
    ∀ h, h < 4096 → (shortened s r).extShared r.ext h = true → (shortened s r).herdState h ≠ 3 := by
  intro h low shared
  have herd : (shortened s r).herdState h = s.herdState h := rd_shortened inv h ⟨.inl rfl, by decide⟩ (by decide)
  rw [herd]
  refine idle h ((extHerds_tail h).mpr ⟨low, ?_⟩)
  unfold State.extShared at shared ⊢
  rwa [rd_shortened inv _ ⟨.inr rfl, by decide⟩ (by decide)] at shared

/-- A revoke that leaves its extent mapped, with no closing herd that shares it, gives OK and STATE 1. -/
theorem revokeFree_kept (idle : ∀ h ∈ (s.extHerds r.ext).tail, s.herdState h ≠ 3) (op : r.op = 3 ∨ r.op = 9) :
    (s.revokeFree r).rd od2820_RESULT r.ext = abOk ∧ (s.revokeFree r).extState r.ext = 1 := by
  rcases op with three | nine
  · rw [revokeFree_shrink three]
    exact (keptOn_result (inv_shortened inv) (open_shortened inv idle)).2
  · rw [revokeFree_unshare nine]
    refine (keptOn_result (inv_unshared inv) fun h low shared => ?_).2
    rw [herdState_unshared inv]
    refine idle h ((extHerds_tail h).mpr ⟨low, ?_⟩)
    unfold State.extShared at shared ⊢
    rw [rd_unshared inv] at shared
    exact bitAt_of_masked shared

theorem revokeFree_shrunk (idle : ∀ h ∈ (s.extHerds r.ext).tail, s.herdState h ≠ 3) (three : r.op = 3) :
    (s.revokeFree r).extGranules r.ext = s.revokeFrom r ∧ ∀ g, g < 2 ^ 32 →
      (s.revokeFrom r ≤ g → ((s.revokeFree r).gran r.ext g).tier = 0) ∧ (g < s.revokeFrom r → (s.revokeFree r).gran r.ext g = s.gran r.ext g) := by
  rw [revokeFree_shrink three, (keptOn_result (inv_shortened inv) (open_shortened inv idle)).1]
  refine ⟨?_, fun g hg => ?_⟩
  · have granules : (remapped (shortened s r) r.ext).extGranules r.ext = (shortened s r).extGranules r.ext :=
      rd_remapped_other (inv_shortened inv) r.ext ⟨.inr rfl, by decide⟩ (by decide) (by decide)
    rw [granules, extGranules_shortened inv]
  · rw [remapped_gran]
    exact withoutGranules_gran inv shortened_pool hg

end Free4

section Whole
variable {s : State} {r : Revoke} (inv : s.Inv) (six : r.op = 6)

include six in
theorem revokeFree_pool : (s.revokeFree r).pool.gran = (withoutGranules s r).pool.gran ∧
    (s.revokeFree r).pool.revokes = s.pool.revokes.filter (fun x => x.ext != r.ext) := by
  obtain ⟨gran, revokes⟩ := unmapped_pool (s := s) (r := r)
  rw [revokeFree_whole six, State.extEvent, State.emit_pool, State.wr_pool, State.wr_pool, State.wr_pool]
  exact ⟨gran, revokes.trans withoutGranules_revokes⟩

include inv six

theorem gran_revokeFree {g : Nat} (hg : g < 2 ^ 32) : ((s.revokeFree r).gran r.ext g).tier = 0 := by
  refine (withoutGranules_gran inv (revokeFree_pool six).1 hg).1 ?_
  unfold State.revokeFrom
  rw [if_neg (by omega)]
  exact Nat.zero_le g

/-- What the entries of an extent that is gone hold. -/
theorem revokeFree_result : (s.revokeFree r).extState r.ext = 0 ∧ (s.revokeFree r).rd od2820_RESULT r.ext = abOk := by
  have state : Listed od2820_STATE := ⟨.inr rfl, by decide⟩
  have cstate : Listed od2820_CSTATE := ⟨.inr rfl, by decide⟩
  have result : Listed od2820_RESULT := ⟨.inr rfl, by decide⟩
  have first := (unmapped_entries (r := r) inv).inv
  have second := inv_wr first od2820_STATE r.ext 0
  have third := inv_wr second od2820_CSTATE r.ext 0
  have noted := EntriesKept.extEvent (.self (inv_wr third od2820_RESULT r.ext abOk)) r.ext evRevokeDone []
  rw [revokeFree_whole six]
  refine ⟨?_, ?_⟩
  · unfold State.extState
    rw [noted.rd _ _ state, rd_wr_listed third _ _ _ state result (by decide), rd_wr_listed second _ _ _ state cstate (by decide),
      State.rd_wr_same first.1]
  · rw [noted.rd _ _ result, State.rd_wr_same third.1]

end Whole

theorem revokeAt_some {s : State} {e step : Nat} {r : Revoke} (there : s.revokeAt e step = some r) : r.ext = e := by
  have names := List.find?_some there
  rw [Bool.and_eq_true, beq_iff_eq] at names
  exact names.1

theorem not_revoked {s : State} {e : Nat} {l : List Revoke} (gone : s.pool.revokes = l.filter (fun x => x.ext != e)) :
    ∀ x ∈ s.pool.revokes, x.ext ≠ e := by
  intro x mem
  rw [gone] at mem
  simpa using (List.mem_filter.mp mem).2

section Exec
variable {s : State} {e : ExtentId} {r : Revoke}

theorem exec_drainEnd (there : s.revokeAt e.val 2 = some r) (none_ : s.revokeLeft r = []) : exec (.revokeDrainEnd e) s = .next (s.endDrain r).settled := by
  change execRevokeDrainEnd e s = _
  unfold execRevokeDrainEnd
  rw [there]
  dsimp only
  rw [none_]
  rfl

theorem exec_revokeTimeout (there : s.revokeAt e.val 2 = some r) (late : s.past r.started (s.rd od2840_REVOKE_TIMEOUT 0 * 1000) = true) :
    exec (.revokeTimeoutExpiry e) s = .next (s.endDrain r).settled := by
  change execRevokeTimeoutExpiry e s = _
  unfold execRevokeTimeoutExpiry
  rw [there]
  dsimp only
  rw [if_pos late]
  rfl

theorem exec_revokeFree (there : s.revokeAt e.val 3 = some r) : exec (.revokeFree e) s = .next (s.revokeFree r).release.settled := by
  change execRevokeFree e s = _
  unfold execRevokeFree
  rw [there]
  rfl

end Exec

/-- Settles O22: it holds. -/
theorem revokesDrainAndFree : Obligations.RevokesDrainAndFree := by
  unfold Obligations.RevokesDrainAndFree
  refine ⟨fun e s r _ there => ⟨exec_drainEnd there, exec_revokeTimeout there, fun x mem of => ?_, fun q left => endDrain_answers r left⟩,
    fun e s r inv there => ⟨exec_revokeFree there, fun six => ?_, fun idle => ⟨fun op => ?_, fun three => ?_⟩, fun nine low h hh => ?_⟩⟩
  · exact endDrain_steps mem (of.trans (revokeAt_some there).symm)
  · obtain ⟨state, result⟩ := revokeFree_result inv six
    rw [← revokeAt_some there]
    refine ⟨state, result, ?_, fun g hg => gran_revokeFree inv six hg⟩
    have gone := not_revoked (revokeFree_pool (s := s) six).2
    refine List.find?_eq_none.mpr fun x mem names => ?_
    rw [Bool.and_eq_true, beq_iff_eq] at names
    exact gone x mem names.1
  · rw [← revokeAt_some there] at idle ⊢
    exact revokeFree_kept inv idle op
  · have ext := revokeAt_some there
    rw [← ext] at idle ⊢
    obtain ⟨granules, grans⟩ := revokeFree_shrunk inv idle three
    rw [State.revokeFrom, if_pos three] at granules grans
    refine ⟨granules, fun g hg => ?_⟩
    obtain ⟨freed, kept⟩ := grans g hg
    split
    next below => exact kept below
    next above => exact freed (by omega)
  · have shared := revokeFree_shared inv nine low hh
    rwa [revokeAt_some there] at shared

end Sys2Proof.Proofs.Revokes

namespace Sys2Proof.Proofs.RevokesReadersAndLists

/-! ## Revokes, late readers, rut steps and ownership operations complete -/

open Sys2Proof.Machine Sys2Proof.Claims Sys2Proof.Proofs.PoolBytes Sys2Proof.Proofs.ExtentEntries Sys2Proof.Proofs.Revokes
  Sys2Proof.Proofs.CoherenceMessages Sys2Proof.Proofs.UnitCommands

/-! ### The header of a list at its home here -/

section Pool
variable {s : State}

theorem readByte_of_pool {u : State} (same : u.pool = s.pool) (e off : Nat) : u.readByte e off = s.readByte e off := by
  unfold State.readByte State.whereByte State.gran State.volOf
  rw [same]

theorem readPool_of_pool {u : State} (same : u.pool = s.pool) (e off n : Nat) : u.readPool e off n = s.readPool e off n :=
  List.map_congr_left fun i _ => readByte_of_pool same e (off + i)

theorem poisoned_of_pool {u : State} (same : u.pool = s.pool) (e off n : Nat) : u.poisoned e off n = s.poisoned e off n := by
  unfold State.poisoned
  rw [same]

theorem homeCount_eq (e j k : Nat) : s.homeCount e j k = { s with od := (s.homeCount e j k).od } := by
  unfold State.homeCount State.tally
  split
  · split
    · rfl
    · rfl
  · rfl

theorem touch_near {e g : Nat} (near : (s.gran e g).tier ≤ 1) : s.touch e g = s := by
  unfold State.touch
  exact if_pos (by omega)

theorem listOk_homeCount (inv : s.Inv) (e j k list : Nat) (h : List Nat) : (s.homeCount e j k).listOk e list h = s.listOk e list h := by
  have kept := EntriesKept.homeCount (.self inv) e j k
  unfold State.listOk State.extBytes State.extGranules State.extBase
  rw [kept.rd od2820_BASE e ⟨.inr rfl, by decide⟩, kept.rd od2820_GRANULES e ⟨.inr rfl, by decide⟩]

end Pool

section Header
variable {s : State} {c : Cmd} {e : Nat}

theorem listPlace_ok (place : s.listPlace c.herd (c.word 1) = (eOk, e)) :
    s.extCheck c.herd (c.word 1) 128 = some e ∧ s.fenced e c.herd (c.word 1 - s.extBase e) 128 = false ∧ c.word 1 % 128 = 0 ∧
      (s.extSlice e).isSome = true := by
  unfold State.listPlace at place
  split at place
  · exact absurd (congrArg Prod.fst place) (show eAccess ≠ eOk by decide)
  next x check =>
    split at place
    · exact absurd (congrArg Prod.fst place) (show eRevoked ≠ eOk by decide)
    next free =>
      split at place
      · exact absurd (congrArg Prod.fst place) (show eFormat ≠ eOk by decide)
      next form =>
        have same : x = e := congrArg Prod.snd place
        subst same
        simp only [not_or, not_not, ne_eq, Bool.not_eq_true, Option.isNone_eq_false_iff] at form
        exact ⟨check, by simpa using free, form.1, form.2.1⟩

/-- A whole list header is one piece. -/
theorem pieces_header {a : Nat} (aligned : a % 128 = 0) : pieces 2048 a 128 = [(a, 128)] := by
  have one : min 128 (2048 - a % 2048) = 128 := by omega
  unfold pieces
  simp [piecesFrom, one]

theorem directLoad_header (normal : s.mode ≠ 2) (here : ListHere s c e) : s.directLoad c.herd (c.word 1) 128 =
    some (eOk, s.readPool e (c.word 1 - s.extBase e) 128, s.homeCount e 1 1) := by
  obtain ⟨check, free, _, local_⟩ := listPlace_ok here.place
  unfold State.directLoad
  rw [check]
  dsimp only
  rw [free, if_neg (by decide), if_neg normal, if_neg, here.key, if_neg (by decide), touch_near here.near,
    poisoned_of_pool (State.homeCount_pool ..), here.clean, if_neg (by decide), readPool_of_pool (State.homeCount_pool ..)]
  rw [here.plain, here.ready, ← Option.not_isSome, local_]
  simp

theorem unitLoad_header (ep : Nat) (normal : s.mode ≠ 2) (here : ListHere s c e) : s.unitLoad c.cid ep c.herd (c.word 1) 128 =
    (.got eOk (s.readPool e (c.word 1 - s.extBase e) 128), s.homeCount e 1 1) := by
  obtain ⟨_, _, aligned, _⟩ := listPlace_ok here.place
  have whole : c.word 1 / 8 * 8 = c.word 1 := by omega
  unfold State.unitLoad
  rw [if_neg (by decide), pieces_header aligned, State.unitPieces, State.unitPiece]
  dsimp only
  rw [whole, here.asked, directLoad_header normal here]
  dsimp only
  rw [State.unitPieces]
  dsimp only
  rw [List.append_nil]
  rfl

end Header

/-! ### Readers, rut and windows -/

section Steps
variable {s : State}

theorem dropReader_state (inv : s.Inv) (e r : Nat) : (s.dropReader e r).rd od3010_STATE r = 2 := by
  have written : (s.wr od3010_STATE r 2).canonical := (State.wr_kept (Kept.self inv)).inv.1
  refine ((State.emitAs_frame written).rd od3010_STATE r (by decide) (by decide) (by decide)).trans ?_
  exact State.rd_wr_same inv.1

theorem awake (runs : s.halted = false) (u : State) : (if s.halted then s else u) = u := by
  rw [runs]
  exact if_neg Bool.false_ne_true

/-- A cycle of a loaded line with one admitted request executes it. -/
theorem rutCycle_one {l : Nat} {x : RutLine} {q : RutReq} (there : s.coh.rut.find? (fun x => x.line == l) = some x) (loaded : x.loaded = true)
    (free : s.lineBusy l = false) (starts : s.mayStart l = true) (one : x.admitted = [q]) :
    s.rutCycle l = (((((s.setRut { x with admitted := [] }).homeCount (lineExt l) 9 1).rutExec l q).rutAdmit l (x.waiting.length + 1)).rutLeave l) := by
  have group : rutGroup [q] = [q] := by
    unfold rutGroup
    dsimp only
    rw [List.takeWhile_cons]
    generalize (q.agent.isNone && _) = store
    cases store with
    | false => rfl
    | true => rfl
  rw [rutCycle_admitted there loaded free starts (by rw [one]; exact List.cons_ne_nil _ _), one]
  dsimp only
  rw [group]
  rfl

end Steps

/-- Settles O60: it holds. -/
theorem revokesReadersAndListsComplete : Obligations.RevokesReadersAndListsComplete := by
  unfold Obligations.RevokesReadersAndListsComplete
  intro s inv
  refine ⟨?_, ?_, ?_, ?_, ?_, ?_, ?_⟩
  · intro e r there
    have steps : ∀ x ∈ (s.endDrain r).pool.revokes, x.ext = e.val → x.step = 3 := fun x mem of =>
      endDrain_steps mem (of.trans (revokeAt_some there).symm)
    exact ⟨fun none_ => ⟨_, exec_drainEnd there none_, steps⟩, fun late => ⟨_, exec_revokeTimeout there late, steps⟩⟩
  · intro e r there six
    obtain ⟨state, result⟩ := revokeFree_result inv six
    have gone := not_revoked (revokeFree_pool (s := s) six).2
    have freed : ∀ g, g < 2 ^ 32 → ((s.revokeFree r).gran r.ext g).tier = 0 := fun g hg => gran_revokeFree inv six hg
    rw [revokeAt_some there] at state result gone freed
    exact ⟨_, exec_revokeFree there, state, result, freed, gone⟩
  · intro runs e r p out late
    refine ⟨s.dropReader e.val r.val, ?_, dropReader_state inv e.val r.val, rfl⟩
    exact congrArg (fun u : State => Host.Outcome.next u.release.settled) ((awake runs _).trans (invalTimeout_eq out late))
  · intro runs e n x there
    refine ⟨fun unloaded ready waits => ?_, fun q loaded free starts one => ?_⟩
    · have load := (rutLoad_ready there unloaded ready).trans (congrArg (State.admitFirst _ (lineNo e.val n)) waits)
      exact congrArg (fun u : State => Host.Outcome.next u.release.settled) ((awake runs _).trans load)
    · exact congrArg (fun u : State => Host.Outcome.next u.release.settled) ((awake runs _).trans (rutCycle_one there loaded free starts one))
  · intro runs idle q due
    obtain ⟨c, eq, counts, window, settings⟩ := rutWindow_idle due idle
    refine ⟨{ s with coh := c }, ?_, ?_, ?_, fun x mem => ?_, rfl⟩
    · exact congrArg (fun u : State => Host.Outcome.next u.release.settled) ((awake runs _).trans eq)
    · exact (congrArg (quadGet · q.val) window).trans (TimeCommands.quadGet_quadSet_same ..)
    · exact (congrArg (quadGet · q.val) settings).trans (TimeCommands.quadGet_quadSet_same ..)
    · have kept : x ∈ s.coh.counts.filter (fun kv => !(s.extQuad (lineExt kv.1) == q.val)) := counts ▸ mem
      simpa using (List.mem_filter.mp kept).2
  · intro i cid op names c e here named normal list w x
    have header : (s.homeCount e 1 1).listOk e (c.word 1) (wordsOf 16 (s.readPool e (c.word 1 - s.extBase e) 128)) = true :=
      (listOk_homeCount inv ..).trans list.header
    have own : (s.homeCount e 1 1).ownRec e (c.word 1) = s.ownRec e (c.word 1) := by
      unfold State.ownRec
      rw [State.homeCount_own]
    obtain ⟨u, run, record, _, rest⟩ := Ownership.ownershipMovesAsTableNineSixSays.1 i cid op names s _ c e _ inv here named normal list.place
      (unitLoad_header _ normal list) header
    rw [own] at run record
    refine ⟨u, run, record, rest.trans ?_⟩
    rw [homeCount_eq]
  · intro n r there state late
    exact Ownership.ownershipMovesAsTableNineSixSays.2 n s r inv there state late

end Sys2Proof.Proofs.RevokesReadersAndLists

namespace Sys2Proof.Proofs.IdleIngress

/-! ## An idle ingress (R25, R26, R85, R89)

With nothing else outstanding, a request passes each stage of its ingress at once: it is the first at its rate limit, and nothing is before it. -/

open Sys2Proof.Machine Sys2Proof.Claims

/-- A state in which one request is outstanding. -/
def alone (u : State) (r : Req) : State := { u with tr := { u.tr with outstanding := [r] } }

/-- An operation that a home serves is none that it does not. -/
theorem op_ne {o o' : ReqOp} (op : homeOp o = true) (out : homeOp o' = false) : o ≠ o' := by
  rintro rfl
  exact Bool.false_ne_true (out.symm.trans op)

section Alone
variable {u : State} {r : Req}

theorem mapReq_alone (f : Req → Req) : (alone u r).mapReq r.id f = alone u (f r) := by
  unfold State.mapReq alone
  simp

/-- A sender that is not a port. -/
def Inner (r : Req) : Prop := ∀ p, r.sender ≠ .port p

theorem freeCells_inner (inner : Inner r) : u.freeCells r = u := by
  unfold State.freeCells
  split
  · exact absurd ‹_› (inner _)
  · exact absurd ‹_› (inner _)
  · exact absurd ‹_› (inner _)
  · rfl

theorem respTooLong_inner (inner : Inner r) : u.respTooLong r = false := by
  unfold State.respTooLong
  split
  · exact absurd ‹_› (inner _)
  · rfl

theorem inner_of_passes {dst : Nat} (may : passes u r dst) : Inner r := by
  intro p port
  unfold passes at may
  rw [port] at may
  exact may

/-- An open window lets the one request that is outstanding leave. -/
theorem one_leaves (wait : r.place = .rate) (window : 1 ≤ u.windowOf r.hdr.src.toNat r.dest) :
    decide (((alone u r).tr.outstanding.filter (fun x => x.hdr.src == r.hdr.src && x.dest == r.dest && !x.atRate)).length + 1 ≤
      (alone u r).windowOf r.hdr.src.toNat r.dest) = true := by
  have none_ : (alone u r).tr.outstanding.filter (fun x => x.hdr.src == r.hdr.src && x.dest == r.dest && !x.atRate) = [] := by
    simp [alone, Req.atRate, wait]
  rw [none_]
  exact decide_eq_true window

theorem mayLeave_alone (wait : r.place = .rate) (may : passes u r r.dest) : (alone u r).mayLeave r = true := by
  unfold passes at may
  unfold State.mayLeave
  cases sender : r.sender with
  | companion => rfl
  | tine _ _ | unit _ _ _ | coll _ =>
    simp only [sender] at may
    exact one_leaves wait may
  | port _ | trunk _ | home _ => simp only [sender] at may

theorem tryRate_alone (wait : r.place = .rate) (may : passes u r r.dest) : (alone u r).tryRate r.id = alone u { r with place := .order } := by
  have there : (alone u r).tr.outstanding.find? (fun x => x.id == r.id) = some r := by simp [alone]
  have first : (alone u r).tr.outstanding.any (fun x => decide (x.id < r.id) && x.sender == r.sender && x.atRate) = false := by simp [alone]
  have rate : r.atRate = true := by simp [Req.atRate, wait]
  unfold State.tryRate
  rw [there]
  dsimp only
  rw [first, rate, mayLeave_alone wait may, if_pos (by decide)]
  split
  · exact absurd ‹_› (inner_of_passes may _)
  · exact mapReq_alone _

/-- An operation that is served at its home as a memory access. -/
theorem goOn_home (op : homeOp r.op = true) (inner : Inner r) (ext : r.ext ≠ traceExt) (home : (u.homeSlice r.dest).isSome = true) :
    u.goOn r = (u.setPlace r.id .home).homeArrive { r with place := .home } := by
  unfold State.goOn
  rw [if_neg (op_ne (o' := .kick) op rfl)]
  dsimp only
  rw [respTooLong_inner inner, if_neg Bool.false_ne_true]
  split
  case h_8 =>
    rw [if_neg ext, if_pos home, freeCells_inner inner]
  all_goals
    next kind =>
      rw [kind] at op
      exact absurd op Bool.false_ne_true

theorem tryOrder_alone (wait : r.place = .order) (notFence : r.op ≠ .fence) : (alone u r).tryOrder r.id = (alone u r).goOn r := by
  have there : (alone u r).tr.outstanding.find? (fun x => x.id == r.id) = some r := by simp [alone]
  have turn : (alone u r).inTurn r = true := by simp [State.inTurn, alone, notFence]
  unfold State.tryOrder
  rw [there]
  dsimp only
  rw [wait, turn]
  exact if_pos rfl

/-- The one request that is outstanding goes through the stages of its ingress to its home here. -/
theorem advance_alone (wait : r.place = .rate) (op : homeOp r.op = true) (may : passes u r r.dest) (ext : r.ext ≠ traceExt)
    (home : (u.homeSlice r.dest).isSome = true) :
    (alone u r).advance r.hdr.src = (alone u { r with place := .home }).homeArrive { r with place := .home } := by
  have inner := inner_of_passes may
  have ids : ((alone u r).tr.outstanding.filter (fun x => x.hdr.src == r.hdr.src && (x.atRate || x.place == .order))).map (·.id) = [r.id] := by
    simp [alone, Req.atRate, wait]
  unfold State.advance
  rw [ids]
  dsimp only [List.foldl]
  rw [tryRate_alone wait may]
  refine (tryOrder_alone (r := { r with place := .order }) rfl (op_ne op rfl)).trans ?_
  refine (goOn_home (u := alone u { r with place := .order }) (r := { r with place := .order }) op inner ext home).trans ?_
  exact congrArg (State.homeArrive · { r with place := .home }) (mapReq_alone (r := { r with place := .order }) _)

end Alone

/-- Settles O58: it holds. -/
theorem anIdleIngressPassesRequestsOn : Obligations.AnIdleIngressPassesRequestsOn := by
  unfold Obligations.AnIdleIngressPassesRequestsOn
  intro r0 s _ idle wait op
  have plain : (!(r0.op == .fence || isMgmt r0.op)) = true := by
    simp [isMgmt, op_ne (o' := .fence) op rfl, op_ne (o' := .mgmtRead) op rfl, op_ne (o' := .mgmtWrite) op rfl]
  refine ⟨fun c fails inner => ?_, fun e dst ok ext home may => ?_⟩
  · unfold State.enter
    dsimp only
    rw [fails]
    dsimp only
    rw [State.answerHere, freeCells_inner inner]
  · intro p r
    have stamped : p.2.mapReq r0.id (fun x => { x with hdr := r.hdr, ext := e, dest := dst }) = alone p.2 { r with place := r0.place } := by
      have one : p.2 = alone p.2 r0 := by
        simp [p, alone, State.takePsn, State.track, idle]
      rw [one]
      exact mapReq_alone _
    have window : passes p.2 { r with place := r0.place } dst := may
    have go := advance_alone (u := p.2) (r := { r with place := r0.place }) wait op window ext home
    unfold State.enter
    dsimp only
    rw [ok]
    dsimp only
    rw [plain, if_pos rfl]
    split
    · exact absurd ‹_› (inner_of_passes may _)
    · exact (congrArg (State.advance · r0.hdr.src) stamped).trans go

end Sys2Proof.Proofs.IdleIngress

namespace Sys2Proof.Proofs.SettledFields

/-! ## What no settling changes: residues, sending frames, and the tines where no handler and no canary runs

The residues change when a herd is admitted or becomes FREE (R289), the sending frame of a port when one is transmitted (R304), and the
tines of a state without handlers when an instruction or a canary runs. What a command sets going besides (link-state records, errors and
their handling, canaries) leaves these: one lemma per operation, in the order of the model's definitions, for any predicate that rests on
these five parts only. -/

open Sys2Proof.Machine Sys2Proof.Claims

/-- The residues, the sending frames, the handler stack, the canaries and the tines stand as they did. -/
structure SameCore (o s : State) : Prop where
  residues : s.sw.residues = o.sw.residues
  sending : s.tm.sending = o.tm.sending
  stack : s.flt.stack = o.flt.stack
  canaries : s.flt.canaries = o.flt.canaries
  tines : s.cpu.tines = o.cpu.tines

/-- A predicate that rests on those parts holds. -/
structure Steady (P : State → Prop) (s : State) : Prop where
  rests : ∀ s u : State, SameCore s u → P s → P u
  holds : P s

section Basic
variable {P : State → Prop} {s : State}

theorem Steady.foldl {α : Type} {f : State → α → State} (step : ∀ s x, Steady P s → Steady P (f s x)) (l : List α) {s : State} (h : Steady P s) :
    Steady P (l.foldl f s) := by
  induction l generalizing s with
  | nil => exact h
  | cons x l ih => exact ih (step s x h)

theorem Steady.foldState {f : State → Nat → State} (step : ∀ s x, Steady P s → Steady P (f s x)) (l : List Nat) {s : State}
    (h : Steady P s) : Steady P (foldState s l f) :=
  Steady.foldl step l h

variable (h : Steady P s)
include h

theorem Steady.of_core {u : State} (same : SameCore s u) : Steady P u := ⟨h.rests, h.rests s u same h.holds⟩

/-- An operation that leaves the five parts alone. -/
theorem Steady.of_eq {u : State} (residues : u.sw.residues = s.sw.residues) (sending : u.tm.sending = s.tm.sending)
    (stack : u.flt.stack = s.flt.stack) (canaries : u.flt.canaries = s.flt.canaries)
    (tines : u.cpu.tines = s.cpu.tines) : Steady P u :=
  h.of_core ⟨residues, sending, stack, canaries, tines⟩

theorem Steady.ite {p : Prop} [Decidable p] {u : State} (k : Steady P u) : Steady P (if p then s else u) := by
  split
  · exact h
  · exact k

/-! ### Entries, events and counts -/

theorem Steady.wr (e : Ent) (n v : Nat) : Steady P (s.wr e n v) := h.of_eq rfl rfl rfl rfl rfl
theorem Steady.bump (e : Ent) (n w k : Nat) : Steady P (s.bump e n w k) := h.of_eq rfl rfl rfl rfl rfl
theorem Steady.count (i k : Nat) : Steady P (s.count i k) := h.of_eq rfl rfl rfl rfl rfl
theorem Steady.tally (herd i k : Nat) : Steady P (s.tally herd i k) := h.of_core (by constructor <;> simp)
theorem Steady.homeCount (e j k : Nat) : Steady P (s.homeCount e j k) := h.of_core (by constructor <;> simp)
theorem Steady.trace (q : Nat) (t : TraceEvent) (p : List Byte) : Steady P (s.trace q t p) := h.of_core (by constructor <;> simp)

theorem Steady.deliver (ev : EventRec) : Steady P (s.deliver ev) := by
  unfold State.deliver
  dsimp only
  repeat' split
  all_goals exact h.of_eq rfl rfl rfl rfl rfl

theorem Steady.deliverSeq (ev : EventRec) : Steady P (s.deliverSeq ev) := by
  refine Steady.trace (Steady.deliver ?_ _) _ _ _
  exact h.of_eq rfl rfl rfl rfl rfl

theorem Steady.endMerge (m : MergeRec) : Steady P (s.endMerge m) := by
  refine Steady.ite ?_ (Steady.deliverSeq ?_ _)
  · exact h.of_eq rfl rfl rfl rfl rfl
  · exact h.of_eq rfl rfl rfl rfl rfl

theorem Steady.record (ev : EventRec) : Steady P (s.record ev) := by
  have merging : ∀ u, Steady P u → ∀ ms, Steady P { u with flt := { u.flt with merges := ms } } := fun u k ms => k.of_eq rfl rfl rfl rfl rfl
  refine Steady.ite ?_ (h.deliverSeq _)
  split
  · exact ((merging _ (h.endMerge _) _).deliverSeq _).ite (merging s h _)
  · exact (merging s h _).deliverSeq _

theorem Steady.raise (q cls ev kind unit : Nat) : Steady P (s.raise q cls ev kind unit) := by
  refine h.ite ?_
  exact h.of_eq rfl rfl rfl rfl rfl

theorem Steady.emit (q ev herd kind unit code : Nat) (more : List Nat) : Steady P (s.emit q ev herd kind unit code more) :=
  (h.record _).raise _ _ _ _ _

/-! ### The pool and the flash map -/

theorem Steady.setGran (e g : Nat) (d : Gran) : Steady P (s.setGran e g d) := h.of_eq rfl rfl rfl rfl rfl
theorem Steady.putByte (e off : Nat) (b : Byte) : Steady P (s.putByte e off b) := h.of_core (by constructor <;> simp)

theorem Steady.checkpoint : Steady P s.checkpoint := h.of_eq rfl rfl rfl rfl rfl

theorem Steady.openNext : Steady P s.openNext := by
  have first : Steady P (if s.nand.opens.isEmpty then s.checkpoint else s) := h.checkpoint.ite h
  unfold State.openNext
  dsimp only
  split
  · exact first
  · exact first.of_eq rfl rfl rfl rfl rfl

theorem Steady.takePlace {x : Nat × State} (taken : s.takePlace = some x) : Steady P x.2 := by
  have opened : Steady P (if s.openRoom.isSome then s else s.openNext) := h.ite h.openNext
  unfold State.takePlace at taken
  dsimp only at taken
  split at taken
  · exact absurd taken (by simp)
  · rw [← Option.some.inj taken]
    exact opened.of_eq rfl rfl rfl rfl rfl

theorem Steady.switchMap (key p : Nat) : Steady P (s.switchMap key p) := by
  have counted : Steady P (if (s.placeOf key).isNone then s.bump od2C40_CHUNKS (key / 4294967296) 64 1 else s) := (h.bump _ _ _ _).ite h
  exact counted.of_eq rfl rfl rfl rfl rfl

theorem Steady.nandWrite (key : Nat) : Steady P (s.nandWrite key) := by
  unfold State.nandWrite
  split
  · exact h
  next p u taken => exact (((h.takePlace (x := (p, u)) taken).switchMap key p).bump _ _ _ _).count _ _

theorem Steady.mapChunk (e g c : Nat) : Steady P (s.mapChunk e g c) := (h.nandWrite _).ite h

theorem Steady.openChunk (e g c : Nat) : Steady P (s.openChunk e g c) := by
  unfold State.openChunk
  dsimp only
  repeat' split
  all_goals exact h.of_eq rfl rfl rfl rfl rfl

theorem Steady.dirtyChunk (e g c : Nat) : Steady P (s.dirtyChunk e g c) := by
  unfold State.dirtyChunk
  dsimp only
  repeat' split
  all_goals exact h.of_eq rfl rfl rfl rfl rfl

theorem Steady.writeByte (e off : Nat) (b : Byte) : Steady P (s.writeByte e off b) :=
  (((h.openChunk _ _ _).putByte e off b).mapChunk _ _ _).dirtyChunk _ _ _

theorem Steady.writePool (e off : Nat) (bs : List Byte) : Steady P (s.writePool e off bs) := by
  induction bs generalizing s off with
  | nil => exact h
  | cons b bs ih => exact ih (h.writeByte e off b) (off + 1)

theorem Steady.giveGranule (e g : Nat) : Steady P (s.giveGranule e g) := h.of_eq rfl rfl rfl rfl rfl

theorem Steady.writeBack (l : Nat) (bs : List Byte) : Steady P (s.writeBack l bs) := ((h.giveGranule _ _).ite h).writePool _ _ _

theorem Steady.allocate {e g : Nat} {u : State} (taken : s.allocate e g = some u) : Steady P u := by
  unfold State.allocate at taken
  split at taken
  · rw [← Option.some.inj taken]
    exact h
  · split at taken
    · rw [← Option.some.inj taken]
      exact h.giveGranule e g
    · exact absurd taken (by simp)

theorem Steady.copyChunk (e g c : Nat) (toT1 : Bool) : Steady P (s.copyChunk e g c toT1) := by
  unfold State.copyChunk
  dsimp only
  repeat' split
  all_goals exact h.of_eq rfl rfl rfl rfl rfl

theorem Steady.cleanBit (e g c : Nat) : Steady P (s.cleanBit e g c) := by
  unfold State.cleanBit
  dsimp only
  repeat' split
  all_goals exact h.of_eq rfl rfl rfl rfl rfl

theorem Steady.flushedChunk (e place : Nat) : Steady P (s.flushedChunk e place) := h.of_eq rfl rfl rfl rfl rfl

theorem Steady.cleanChunk (e g c : Nat) : Steady P (s.cleanChunk e g c) := by
  have copied := h.copyChunk e g c false
  unfold State.cleanChunk
  dsimp only
  split
  · exact ((((copied.nandWrite _).ite copied).cleanBit e g c).flushedChunk _ _).homeCount _ _ _
  · exact h

theorem Steady.flushAll : Steady P s.flushAll := by
  refine Steady.foldl (fun s kv k => ?_) _ h
  exact (Steady.foldState (fun _ c k => k.cleanChunk _ _ c) _ k).ite k

/-! ### Caching agents and requests at their homes -/

theorem Steady.setDir (l : Nat) (d : DirEntry) : Steady P (s.setDir l d) := h.of_eq rfl rfl rfl rfl rfl
theorem Steady.setHeld (a l : Nat) (x : Option AgentLine) : Steady P (s.setHeld a l x) := h.of_eq rfl rfl rfl rfl rfl

theorem Steady.dropLines (a : Nat) : Steady P (s.dropLines a) := by
  refine Steady.foldl (fun s l k => ?_) _ h
  have dropped := k.setHeld a l none
  split
  · exact k
  · dsimp only
    repeat' split
    · exact dropped
    · exact dropped.writeBack _ _
    · exact (dropped.writeBack _ _).setDir _ _
    · exact dropped
    · exact dropped.setDir _ _

theorem Steady.answer (r : Req) (code detail : Nat) (data : List Byte) : Steady P (s.answer r code detail data) := h.of_eq rfl rfl rfl rfl rfl

theorem Steady.failHeld (code : Nat) (p : Req → Bool) : Steady P (s.failHeld code p) := by
  unfold State.failHeld
  dsimp only
  refine Steady.foldl (fun s r k => k.ite (k.answer _ _ _ _)) _ ?_
  exact h.of_eq rfl rfl rfl rfl rfl

theorem Steady.noteApplied (r : Req) (m : RespMsg) : Steady P (s.noteApplied r m) := by
  unfold State.noteApplied
  split
  · exact h.of_eq rfl rfl rfl rfl rfl
  · exact h

theorem Steady.traceHome (r : Req) : Steady P (s.traceHome r) := by
  unfold State.traceHome
  split
  · exact h
  · exact h.trace _ _ _

theorem Steady.complete (r : Req) (code detail : Nat) (data : List Byte) : Steady P (s.complete r code detail data) :=
  (((h.noteApplied _ _).ite h).answer _ _ _ _).traceHome _

/-! ### The switch core -/

theorem Steady.charge (q herd src n : Nat) (add : Bool) : Steady P (s.charge q herd src n add) := by
  unfold State.charge
  extract_lets f sw s1
  have drawn : Steady P s1 := by
    unfold s1
    repeat' split
    · exact h.of_eq rfl rfl rfl rfl rfl
    · exact h.of_eq rfl rfl rfl rfl rfl
    · exact h.of_eq rfl rfl rfl rfl rfl
    · exact h
  exact (drawn.wr _ _ _).ite (drawn.ite (drawn.wr _ _ _))

theorem Steady.creditBack (p : PortId) (c n : Nat) : Steady P (s.creditBack p c n) := by
  unfold State.creditBack
  split
  · exact h.of_eq rfl rfl rfl rfl rfl
  · refine (Steady.bump ?_ _ _ _ _).count _ _
    exact h.of_eq rfl rfl rfl rfl rfl

theorem Steady.payFrame (f : SwFrame) : Steady P (s.payFrame f) := by
  unfold State.payFrame
  split
  · exact h.creditBack _ _ _
  · exact h

theorem Steady.dropFrames (p : PortId) : Steady P (s.dropFrames p) := by
  unfold State.dropFrames
  extract_lets gone s1 cut voq empty sw s2 s3
  have paid : Steady P s1 := by
    refine Steady.foldl (fun s f k => ?_) _ h
    have freed := k.charge (portQuad p.val) (bodyHerd f.body) f.source f.cells false
    dsimp only
    split
    · exact freed.creditBack _ _ _
    · exact freed
  have cleared : Steady P s2 := paid.of_eq rfl rfl rfl rfl rfl
  have rest : Steady P s3 := Steady.foldl (fun s f k => (k.charge _ _ _ _ _).payFrame f) _ cleared
  exact rest.of_eq rfl rfl rfl rfl rfl

theorem Steady.enqueue (q i : Nat) (ingress : Option PortId) (ports : List PortId) (b : FrameBody) : Steady P (s.enqueue q i ingress ports b) := by
  unfold State.enqueue
  extract_lets n outs busy txBusy landed express src f sw s1 s2
  have charged : Steady P s1 := by
    refine Steady.charge ?_ _ _ _ _ _
    exact h.of_eq rfl rfl rfl rfl rfl
  exact ((charged.tally _ _ _).ite charged).tally _ _ _

theorem Steady.takePsn (src dst : Nat) : Steady P (s.takePsn src dst).2 := h.of_eq rfl rfl rfl rfl rfl

theorem Steady.forward (r : Req) : Steady P (s.forward r) := by
  unfold State.forward
  dsimp only
  split
  · exact h.of_eq rfl rfl rfl rfl rfl
  · split
    · refine Steady.enqueue ?_ _ _ _ _ _
      exact h.of_eq rfl rfl rfl rfl rfl
    · exact h

/-! ### Ports and power -/

theorem Steady.setTraining (p : Nat) (t : Training) : Steady P (s.setTraining p t) := h.of_eq rfl rfl rfl rfl rfl
theorem Steady.startTraining (p width : Nat) (fast : Bool) : Steady P (s.startTraining p width fast) := h.of_eq rfl rfl rfl rfl rfl

theorem Steady.trainFull (p : Nat) : Steady P (s.trainFull p) := by
  unfold State.trainFull
  split
  · exact h
  · exact h.of_eq rfl rfl rfl rfl rfl

theorem Steady.startPort (p : Nat) : Steady P (s.startPort p) := (h.trainFull p).ite h

theorem Steady.syncTines : Steady P s.syncTines := by
  refine Steady.foldState (fun s t k => ?_) _ h
  have dropped := k.dropLines t
  dsimp only
  repeat' split
  · exact k
  · exact dropped.of_eq rfl rfl rfl rfl rfl
  · exact k.of_eq rfl rfl rfl rfl rfl
  · exact k

theorem Steady.startPorts : Steady P (Machine.foldState s ((odListed s.od od2118_STATE).map (·.1)) State.startPort) :=
  Steady.foldState (fun _ p k => k.startPort p) _ h

/-- What a herd's canaries are does not matter to a predicate. -/
def CanaryFree (P : State → Prop) : Prop := ∀ (s : State) (l : List Canary), P s → P { s with flt := { s.flt with canaries := l } }

theorem Steady.withCanaries (free : CanaryFree P) (l : List Canary) : Steady P { s with flt := { s.flt with canaries := l } } :=
  ⟨h.rests, free s l h.holds⟩

theorem Steady.endTransition (free : CanaryFree P) : Steady P s.endTransition := by
  unfold State.endTransition
  split
  · exact h
  · have synced : ∀ u, Steady P u → ∀ (p : Prop) [Decidable p],
        Steady P (if p then Machine.foldState u.syncTines ((odListed u.syncTines.od od2118_STATE).map (·.1)) State.startPort else u.syncTines) :=
      fun u k p _ => Steady.ite k.syncTines.startPorts k.syncTines
    refine synced _ (Steady.ite (Steady.wr ?_ _ _ _) (Steady.ite (Steady.wr ?_ _ _ _) ?_)) _
    · exact (h.withCanaries free _).of_eq rfl rfl rfl rfl rfl
    · exact h.of_eq rfl rfl rfl rfl rfl
    · exact h.of_eq rfl rfl rfl rfl rfl

theorem Steady.idlePorts (p : Nat → Bool) : Steady P (s.idlePorts p) := by
  refine Steady.foldState (fun s x k => ?_) _ h
  split
  · split
    · exact ((k.wr _ _ _).setTraining _ _).dropFrames _
    · exact k
  · exact k

/-! ### Collectives -/

theorem Steady.unreserve (r : Nat) : Steady P (s.unreserve r) := h.of_eq rfl rfl rfl rfl rfl

theorem Steady.setRingIndex (r w v : Nat) : Steady P (s.setRingIndex r w v) := by
  unfold State.setRingIndex
  split
  · split
    next u taken => exact (h.allocate taken).writePool _ _ _
    · exact h
  · exact h

theorem Steady.post {r : Nat} {bytes : List Byte} {u : State} (sent : s.post r bytes = some u) : Steady P u := by
  unfold State.post at sent
  dsimp only at sent
  split at sent
  · exact absurd sent (by simp)
  · split at sent
    · split at sent
      · exact absurd sent (by simp)
      · split at sent
        next u' taken =>
          rw [← Option.some.inj sent]
          exact ((h.allocate taken).writePool _ _ _).setRingIndex _ _ _
        · exact absurd sent (by simp)
    · exact absurd sent (by simp)

theorem Steady.payOwed (r n : Nat) : Steady P (s.payOwed r n) := by
  induction n generalizing s with
  | zero => exact h
  | succ n ih =>
    unfold State.payOwed
    split
    · exact h
    · split
      next u sent =>
        have paid := h.post sent
        refine ih (Steady.ite ?_ (Steady.unreserve ?_ _))
        · exact paid.of_eq rfl rfl rfl rfl rfl
        · exact paid.of_eq rfl rfl rfl rfl rfl
      · exact h

theorem Steady.postOrOwe (r cid : Nat) (bytes : List Byte) : Steady P (s.postOrOwe r cid bytes) := by
  unfold State.postOrOwe
  split
  · exact h.ite (h.unreserve _)
  · refine Steady.payOwed ?_ _ _
    exact h.of_eq rfl rfl rfl rfl rfl

theorem Steady.setCtx (c : Nat) (x : CollCtx) : Steady P (s.setCtx c x) := h.of_eq rfl rfl rfl rfl rfl
theorem Steady.setStep (c : Nat) (x : CollStep) : Steady P (s.setStep c x) := h.setCtx _ _

theorem Steady.beginStep (c : Nat) : Steady P (s.beginStep c) := by
  unfold State.beginStep
  dsimp only
  split
  · exact h.of_eq rfl rfl rfl rfl rfl
  · exact h.setStep _ _

/-- A step's holds of dual chunks go with it, and the next step opens. -/
theorem Steady.beginWithoutDual (f : DualHold → Bool) (c : Nat) :
    Steady P ({ s with flt := { s.flt with dual := s.flt.dual.filter f } }.beginStep c) := by
  refine Steady.beginStep ?_ c
  exact h.of_eq rfl rfl rfl rfl rfl

theorem Steady.closeStep (c code : Nat) : Steady P (s.closeStep c code) := by
  have posted := fun t => (h.trace (ctxQuad c) t []).postOrOwe (s.rd od3800_EVENT c) 0 (s.stepRecord c (s.stepOf c (s.openStep c)) code)
  exact (((((posted _).bump _ _ _ _).ite ((posted _).bump _ _ _ _)).setCtx _ _).wr _ _ _).beginWithoutDual _ _

theorem Steady.sendColl (c n dst : Nat) (op : CollOp) (chunk aux : Nat) (p : List Byte) : Steady P (s.sendColl c n dst op chunk aux p) := by
  unfold State.sendColl
  dsimp only
  split
  · refine Steady.forward ?_ _
    exact h.of_eq rfl rfl rfl rfl rfl
  · exact h.of_eq rfl rfl rfl rfl rfl

theorem Steady.multicast (g herd q i : Nat) (arrived : Option PortId) (b : FrameBody) : Steady P (s.multicast g herd q i arrived b).1 := by
  unfold State.multicast
  dsimp only
  exact Steady.ite (((h.bump _ _ _ _).bump _ _ _ _).tally _ _ _) ((((h.bump _ _ _ _).bump _ _ _ _).tally _ _ _).enqueue _ _ _ _ _)

theorem Steady.trackColl (c id : Nat) (op : CollOp) (x : CollHdr) (p : PortId) (dst : Nat) (bytes : List Byte) :
    Steady P (s.trackColl c id op x p dst bytes) := h.of_eq rfl rfl rfl rfl rfl

theorem Steady.deafEvent (c n ep : Nat) : Steady P (s.deafEvent c n ep) := h.ite ((h.setCtx _ _).emit _ _ _ _ _ _ _)

theorem Steady.resultLost (c n ep : Nat) : Steady P (s.resultLost c n ep) := ((h.setStep _ _).ite h).deafEvent _ _ _

theorem Steady.sendGroup (c n : Nat) (op : CollOp) (chunk aux : Nat) (p : List Byte) : Steady P (s.sendGroup c n op chunk aux p) := by
  unfold State.sendGroup
  dsimp only
  split
  · exact h
  · have tracked : ∀ u, Steady P u → ∀ hd (ps : List PortId),
        Steady P (ps.foldl (fun s p' => s.trackColl c s.tr.nextId op hd p' (s.copyEp p') p) u) := fun u k hd ps =>
      Steady.foldl (fun _ _ k => k.trackColl _ _ _ _ _ _ _) ps k
    have sent := (h.takePsn (s.reduceEp c) 0xFFFF).multicast
    refine Steady.ite (Steady.foldl (fun _ _ k => k.resultLost _ _ _) _ ?_) ?_
    · exact tracked _ (sent _ _ _ _ _ _) _ _
    · exact tracked _ (sent _ _ _ _ _ _) _ _

theorem Steady.sendAborts (c n code : Nat) (up : Bool) : Steady P (s.sendAborts c n code up) := by
  have kids : Steady P ((s.ctx c).kids.foldl (fun s k => s.sendColl c n k .abort 0 code (List.replicate 8 (0 : Byte))) s) :=
    Steady.foldl (fun _ _ k => k.sendColl _ _ _ _ _ _ _) _ h
  have group := Steady.ite (p := (s.ctxRoot c && !s.ctxAgg c) = true) (kids.sendGroup c n .abort 0 code (List.replicate 8 0)) kids
  exact Steady.ite (group.sendColl _ _ _ _ _ _ _) group

theorem Steady.stopSteps (code : Nat) : Steady P (s.stopSteps code) :=
  Steady.foldState (fun u c k => (k.sendAborts c (u.openStep c) code _).closeStep c code) _ h

/-! ### Bandwidth, routes and readers -/

theorem Steady.cleanAll (b : Bool) : Steady P { s with pool := { s.pool with cleanAll := b } } := h.of_eq rfl rfl rfl rfl rfl

theorem Steady.recompute : Steady P s.recompute := by
  have written := ((h.wr od2C10_EFFECTIVE_BW 0 s.effectiveBw).wr od2C10_CEILING 0 (s.wr od2C10_EFFECTIVE_BW 0 s.effectiveBw).ceilingNow).wr
    od2C20_RESERVE_BLOCKS 0
      ((s.wr od2C10_EFFECTIVE_BW 0 s.effectiveBw).reserveBlocks (s.wr od2C10_EFFECTIVE_BW 0 s.effectiveBw).ceilingNow)
  exact (((written.cleanAll true).emit _ _ _ _ _ _ _).ite written).ite (written.cleanAll false)

theorem Steady.bandwidth : Steady P s.bandwidth := h.ite h.recompute
theorem Steady.moveRoute (d : Nat) : Steady P (s.moveRoute d) := h.ite (h.wr _ _ _)
theorem Steady.dropReader (e r : Nat) : Steady P (s.dropReader e r) := (h.wr _ _ _).emit _ _ _ _ _ _ _

theorem Steady.sendInvalidate {e r val addr aux cls id : Nat} {u : State} (sent : s.sendInvalidate e r val addr aux cls = some (id, u)) :
    Steady P u := by
  unfold State.sendInvalidate at sent
  dsimp only at sent
  split at sent
  · exact absurd sent (by simp)
  · split at sent
    · rw [← (Prod.mk.inj (Option.some.inj sent)).2]
      refine Steady.homeCount (Steady.enqueue ?_ _ _ _ _ _) _ _ _
      exact (h.takePsn (s.rd od2820_HOME e) (s.rd od3010_ENDPOINT r)).of_eq rfl rfl rfl rfl rfl
    · exact absurd sent (by simp)

theorem Steady.invalidateAll (e val addr aux cls : Nat) (rs : List Nat) : Steady P (s.invalidateAll e val addr aux cls rs).1 := by
  induction rs generalizing s with
  | nil => exact h
  | cons r rs ih =>
    unfold State.invalidateAll
    split
    next id u sent => exact ih (h.sendInvalidate sent)
    · exact ih (h.dropReader _ _)

theorem Steady.startRound (r : Req) : Steady P (s.startRound r) := by
  have sent := (h.invalidateAll r.ext r.hdr.val.toNat r.hdr.addr.toNat r.hdr.aux.toNat r.hdr.cls.toNat (s.readersOf r.ext)).homeCount r.ext 4 1
  exact (sent.complete _ _ _ _).ite (sent.of_eq rfl rfl rfl rfl rfl)

theorem Steady.servePublish (r : Req) : Steady P (s.servePublish r) :=
  (h.complete _ _ _ _).ite ((((h.wr _ _ _).wr _ _ _).startRound _).ite (((h.wr _ _ _).startRound _).ite
    (((((h.wr _ _ _).homeCount _ _ _).emit _ _ _ _ _ _ _).complete _ _ _ _).ite (h.complete _ _ _ _))))

theorem Steady.nextPublish (e n : Nat) : Steady P (s.nextPublish e n) := by
  induction n generalizing s with
  | zero => exact h
  | succ n ih =>
    unfold State.nextPublish
    refine h.ite ?_
    split
    · exact h
    · refine ih (Steady.servePublish ?_ _)
      exact h.of_eq rfl rfl rfl rfl rfl

theorem Steady.readerDone (e r : Nat) : Steady P (s.readerDone e r) := by
  unfold State.readerDone
  split
  · exact h
  · refine Steady.ite (Steady.nextPublish (Steady.complete ?_ _ _ _ _) _ _) ?_
    · exact h.of_eq rfl rfl rfl rfl rfl
    · exact h.of_eq rfl rfl rfl rfl rfl

theorem Steady.dropReaders (gone : Nat → Bool) : Steady P (s.dropReaders gone) :=
  Steady.foldl (fun _ _ k => (k.dropReader _ _).readerDone _ _) _ h

theorem Steady.reissue (r : Req) : Steady P (s.reissue r) := h.forward _

theorem Steady.bypass (links : List Nat) (port until_ window : Option Nat) : Steady P (s.bypass links port until_ window) := by
  unfold State.bypass
  extract_lets hit sent s0 cut s1 s2
  have moved : Steady P s2 :=
    Steady.foldl (fun _ r k => k.reissue r) _ ((Steady.foldState (fun _ d k => k.moveRoute d) _ h).dropReaders _)
  cases until_ with
  | none =>
    cases window with
    | none => exact moved
    | some t => exact moved.of_eq rfl rfl rfl rfl rfl
  | some u =>
    cases window with
    | none => exact moved.of_eq rfl rfl rfl rfl rfl
    | some t => exact moved.of_eq rfl rfl rfl rfl rfl

theorem Steady.addDown (ls : List Nat) : Steady P (s.addDown ls) := h.of_eq rfl rfl rfl rfl rfl

theorem Steady.noteDown (names : List Nat) (r : LinkRecord) : Steady P (s.noteDown names r) := by
  unfold State.noteDown
  dsimp only
  refine Steady.bypass (Steady.addDown ?_ _) _ _ _ _
  exact h.of_eq rfl rfl rfl rfl rfl

theorem Steady.noteUp (links : List Nat) (detected switch_ by_ : Nat) : Steady P (s.noteUp links detected switch_ by_) := h.of_eq rfl rfl rfl rfl rfl

theorem Steady.recordIn (r : LinkRecord) : Steady P (s.recordIn r) := by
  have seen : ∀ l, Steady P { s with ports := { s.ports with lastSeq := l } } := fun l => h.of_eq rfl rfl rfl rfl rfl
  unfold State.recordIn
  dsimp only
  exact h.ite ((seen _).ite (((seen _).noteDown _ _).ite ((seen _).noteUp _ _ _ _)))

theorem Steady.takeBoard : Steady P s.takeBoard := by
  refine Steady.foldl (fun _ r k => k.recordIn r) _ ?_
  exact h.of_eq rfl rfl rfl rfl rfl

end Basic

end Sys2Proof.Proofs.SettledFields

namespace Sys2Proof.Proofs.SettledFields

/-! ## The handling of errors and the canaries

A new handler goes on the stack before the tines stop (R415), and a canary is noted as it takes its tine (R416). So a predicate that a
handler on the stack satisfies, and that a canary satisfies, outlasts a settling although the tines change there. -/

open Sys2Proof.Machine Sys2Proof.Claims

/-! ### Predicates that new handlers and canaries keep -/

/-- The residues and the sending frames stand as they did. -/
structure SameSwitch (o s : State) : Prop where
  residues : s.sw.residues = o.sw.residues
  sending : s.tm.sending = o.tm.sending

/-- With a handler on its stack, a state that differs elsewhere than in the switch has the predicate too. -/
def Loud (P : State → Prop) : Prop := ∀ s u : State, SameSwitch s u → P s → u.flt.stack ≠ [] → P u

/-- With a canary, a state that differs elsewhere than in the switch has the predicate too. -/
def Asked (P : State → Prop) : Prop := ∀ s u : State, SameSwitch s u → P s → u.flt.canaries ≠ [] → P u

/-- The tines do not matter to a predicate. -/
def TineFree (P : State → Prop) : Prop := ∀ (s : State) (t : Nat) (x : Tine), P s → P (s.setTine t x)

theorem SameSwitch.trans {o s u : State} (h : SameSwitch o s) (k : SameSwitch s u) : SameSwitch o u :=
  ⟨k.residues.trans h.residues, k.sending.trans h.sending⟩

theorem SameCore.sameSwitch {o s : State} (h : SameCore o s) : SameSwitch o s := ⟨h.residues, h.sending⟩

theorem Steady.switch (s : State) : Steady (SameSwitch s) s := ⟨fun _ _ k h => h.trans k.sameSwitch, rfl, rfl⟩

theorem canaryFree_sameSwitch (o : State) : CanaryFree (SameSwitch o) := fun _ _ h => ⟨h.residues, h.sending⟩
theorem tineFree_sameSwitch (o : State) : TineFree (SameSwitch o) := fun _ _ _ h => ⟨h.residues, h.sending⟩
theorem loud_sameSwitch (o : State) : Loud (SameSwitch o) := fun _ _ k h _ => h.trans k
theorem asked_sameSwitch (o : State) : Asked (SameSwitch o) := fun _ _ k h _ => h.trans k

/-- The switch of `o`, with a handler on the stack. -/
structure Handled (o s : State) : Prop where
  switch : SameSwitch o s
  stack : s.flt.stack ≠ []

theorem canaryFree_handled (o : State) : CanaryFree (Handled o) := fun _ _ h => ⟨⟨h.switch.residues, h.switch.sending⟩, h.stack⟩
theorem tineFree_handled (o : State) : TineFree (Handled o) := fun _ _ _ h => ⟨⟨h.switch.residues, h.switch.sending⟩, h.stack⟩

theorem Handled.rests {o s u : State} (k : SameCore s u) (h : Handled o s) : Handled o u :=
  ⟨h.switch.trans k.sameSwitch, by rw [k.stack]; exact h.stack⟩

section Handling
variable {P : State → Prop} {s : State} (h : Steady P s)
include h

/-! ### Commands and tines that stop -/

theorem Steady.setCmd (c : Cmd) : Steady P (s.setCmd c) := h.of_eq rfl rfl rfl rfl rfl
theorem Steady.tineCounts (t : Nat) : Steady P (s.tineCounts t) := (h.wr _ _ _).wr _ _ _
theorem Steady.setTine (free : TineFree P) (t : Nat) (x : Tine) : Steady P (s.setTine t x) := ⟨h.rests, free s t x h.holds⟩

theorem Steady.dropThreads (free : TineFree P) (cid : Nat) : Steady P (s.dropThreads cid) := by
  unfold State.dropThreads
  refine Steady.foldl (fun u t k => ?_) _ h
  dsimp only
  split
  · exact (k.setTine free _ _).tineCounts _
  · exact k

theorem Steady.dropRemote (free : TineFree P) (cid : Nat) : Steady P (s.dropRemote cid) := by
  unfold State.dropRemote
  refine Steady.foldl (fun u t k => k.setTine free _ _) _ ?_
  exact h.of_eq rfl rfl rfl rfl rfl

theorem Steady.finishCmd (free : TineFree P) (cid code : Nat) : Steady P (s.finishCmd cid code) := by
  unfold State.finishCmd
  split
  · exact h
  · exact h.ite (((h.dropRemote free _).dropThreads free _).setCmd _)

theorem Steady.stopTines (free : TineFree P) : Steady P s.stopTines :=
  Steady.foldState (fun _ _ k => k.dropLines _) _ (Steady.foldState (fun _ _ k => k.finishCmd free _ _) _ h)

/-! ### Handlers -/

theorem Steady.enterIsolation (free : CanaryFree P) (q event cause : Nat) : Steady P (s.enterIsolation q event cause) := by
  have answered : ∀ u, Steady P u → ∀ rs : List Req, Steady P (rs.foldl (fun s r => s.answer r eDegraded 0 []) u) := fun u k rs =>
    Steady.foldl (fun _ _ k => k.answer _ _ _ _) rs k
  exact h.ite ((((answered _ ((((h.endTransition free).wr _ _ _).emit _ _ _ _ _ _ _).failHeld _ _) _).stopSteps _).idlePorts _).flushAll.idlePorts _)

omit h in
theorem push_handled (s : State) (f : HandlerFrame) : Handled s (s.push f) := by
  refine ⟨⟨by simp [State.push], by simp [State.push]⟩, ?_⟩
  simp only [State.push, State.tally_flt, State.wr_flt]
  split
  · simp
  · split <;> simp

theorem Steady.push (loud : Loud P) (f : HandlerFrame) : Steady P (s.push f) :=
  ⟨h.rests, loud s _ (push_handled s f).switch h.holds (push_handled s f).stack⟩

omit h in
theorem enterBasic_handled (s : State) (r : Raised) : Handled s (s.enterBasic r) := by
  unfold State.enterBasic
  extract_lets s1 s2 flt s3
  have noted : SameSwitch s s1 := (((Steady.switch s).wr _ _ _).emit _ _ _ _ _ _ _).holds
  have pushed : Handled s1 s2 := push_handled s1 _
  have ended : Steady (Handled s) s3 :=
    ⟨fun _ _ => Handled.rests, ⟨(noted.trans pushed.switch).residues, (noted.trans pushed.switch).sending⟩, pushed.stack⟩
  exact ((((ended.endTransition (canaryFree_handled s)).stopTines (tineFree_handled s)).stopSteps _).failHeld _ _).holds

theorem Steady.enterBasic (loud : Loud P) (r : Raised) : Steady P (s.enterBasic r) :=
  ⟨h.rests, loud s _ (enterBasic_handled s r).switch h.holds (enterBasic_handled s r).stack⟩

theorem Steady.queued : Steady P s.queued := h.wr _ _ _

theorem Steady.nest (free : CanaryFree P) (loud : Loud P) (r : Raised) : Steady P (s.nest r) := by
  have waits : ∀ l, Steady P ({ s with flt := { s.flt with contained := l } }).queued := fun l => Steady.queued (h.of_eq rfl rfl rfl rfl rfl)
  have corrected : ∀ l, Steady P ({ s with flt := { s.flt with correctable := l } }).queued := fun l =>
    Steady.queued (h.of_eq rfl rfl rfl rfl rfl)
  have full : ∀ l, Steady P { s.emit r.quad evQueueOverflow 0 r.kind r.unit 0 [] with
      flt := { (s.emit r.quad evQueueOverflow 0 r.kind r.unit 0 []).flt with raised := l } } := fun l =>
    (h.emit r.quad evQueueOverflow 0 r.kind r.unit 0 []).of_eq rfl rfl rfl rfl rfl
  unfold State.nest
  refine h.ite ((h.enterIsolation free _ _ _).ite (h.ite ?_))
  dsimp only
  split
  · exact h.push loud _
  · refine (h.enterBasic loud _).ite ((h.push loud _).ite (Steady.ite ?_ ((corrected _).ite (h.bump _ _ _ _))))
    refine (waits _).ite ?_
    exact ((full _).enterIsolation free _ _ _).ite (((full _).enterBasic loud _).ite ((full _).push loud _))

theorem Steady.settle (free : CanaryFree P) (loud : Loud P) (n : Nat) : Steady P (s.settle n) := by
  induction n generalizing s with
  | zero => exact h
  | succ n ih =>
    unfold State.settle
    refine h.ite (ih (Steady.foldl (fun _ r k => k.nest free loud r) _ ?_))
    exact h.of_eq rfl rfl rfl rfl rfl

/-! ### Canaries -/

theorem Steady.takeTine (free : TineFree P) (t herd : Nat) : Steady P (s.takeTine t herd) := by
  refine h.ite (Steady.wr (Steady.setTine ?_ free _ _) _ _ _)
  exact (h.dropLines t).of_eq rfl rfl rfl rfl rfl

theorem Steady.startCanary (asked : Asked P) (t : Nat) (why : CanaryWhy) (after : Nat) : Steady P (s.startCanary t why after) := by
  have taken := ((Steady.switch s).takeTine (tineFree_sameSwitch s) t 0).holds
  exact ⟨h.rests, asked s _ ⟨taken.residues, taken.sending⟩ h.holds (by simp [State.startCanary])⟩

theorem Steady.startFour (asked : Asked P) (t : Nat) (why : CanaryWhy) : Steady P (s.startFour t why) :=
  Steady.foldState (fun _ _ k => k.startCanary asked _ _ _) _ h

theorem Steady.startDue (asked : Asked P) : Steady P s.startDue := by
  refine Steady.foldl (fun u x k => ?_) _ h
  have taken : Steady P { u with flt := { u.flt with fourDue := u.flt.fourDue.erase x } } := k.of_eq rfl rfl rfl rfl rfl
  exact (taken.startFour asked _ _).ite (taken.ite k)

theorem Steady.ringCanary (asked : Asked P) : Steady P s.ringCanary := by
  unfold State.ringCanary
  dsimp only
  split
  · exact h.bump _ _ _ _
  next t found => exact (h.startCanary asked t .ring 0).of_eq rfl rfl rfl rfl rfl

theorem Steady.dueCanaries (asked : Asked P) (n : Nat) : Steady P (s.dueCanaries n) := by
  induction n generalizing s with
  | zero => exact h.of_eq rfl rfl rfl rfl rfl
  | succ n ih => exact ih (h.ringCanary asked)

/-- A predicate `P` that outlasts the handling of errors gives a `Q` that outlasts the start of canaries. -/
theorem Steady.settled {Q : State → Prop} (free : CanaryFree P) (loud : Loud P) (gives : ∀ u, P u → Q u)
    (rests : ∀ u v : State, SameCore u v → Q u → Q v) (asked : Asked Q) : Steady Q s.settled := by
  have handled : Steady Q (s.takeBoard.bandwidth.settle 4) := ⟨rests, gives _ (h.takeBoard.bandwidth.settle free loud 4).holds⟩
  unfold State.settled
  extract_lets s0 s1
  have begun : Steady Q s1 := handled.ite (handled.startDue asked)
  refine begun.ite (Steady.ite ?_ (begun.dueCanaries asked _))
  exact begun.of_eq rfl rfl rfl rfl rfl

end Handling

/-- No settling changes the residues or the sending frames. -/
theorem settled_switch (s : State) : SameSwitch s s.settled :=
  ((Steady.switch s).settled (canaryFree_sameSwitch s) (loud_sameSwitch s) (fun _ h => h) (Steady.switch s).rests (asked_sameSwitch s)).holds

end Sys2Proof.Proofs.SettledFields

namespace Sys2Proof.Proofs.FreeHerds

/-! ## A CLOSING herd that becomes FREE gives back its residues (R34, R289) -/

open Sys2Proof.Machine Sys2Proof.Claims Sys2Proof.Proofs.SettledFields

theorem toFree_residues (s : State) (n : Nat) :
    (s.toFree n).sw.residues = s.sw.residues.map (fun h => if h = n then 0 else h) := by
  have zeroed : Steady (SameSwitch s) (((s.zeroizeKey n).wr od2830_CACHE_WAYS n 0).wr od3030_DIR_WAYS n 0) :=
    ⟨(Steady.switch s).rests, rfl, rfl⟩
  have stopped := fun rings : List Nat => Steady.foldl (fun _ r k => k.wr od3410_STATE r 2) rings zeroed
  exact congrArg (List.map _) (stopped _).holds.residues

/-- The states that settle into one state hold the same residues. -/
theorem residues_of_settled {s u : State} (same : s.settled = u.settled) :
    s.sw.residues = u.sw.residues := by
  calc s.sw.residues = s.settled.sw.residues := (settled_switch s).residues.symm
    _ = u.settled.sw.residues := by rw [same]
    _ = u.sw.residues := (settled_switch u).residues

theorem exec_herdCloseDone_of_closed {n : HerdId} {s : State} (closed : s.closed n.val = true) :
    exec (.herdCloseDone n) s = .next (s.toFree n.val).settled := by
  rw [show exec (.herdCloseDone n) s = execHerdCloseDone n s from rfl, execHerdCloseDone, if_pos closed]
  rfl

/-- Herd 1 is CLOSING, has nothing left, and holds a slot residue. -/
def residueHolder : State := { Tests.herd 3 with sw := { (Tests.herd 3).sw with residues := [1] } }

theorem residueHolder_inv : residueHolder.Inv := Tests.inv_of (by decide +kernel)

/-- Refutes O37: a herd that becomes FREE gives back its slot residues, so the switch core of `residueHolder` does not stay as it was. -/
theorem not_herdsMoveAsTableOneFiveSays : ¬ Obligations.HerdsMoveAsTableOneFiveSays := by
  unfold Obligations.HerdsMoveAsTableOneFiveSays
  rintro ⟨-, closes⟩
  obtain ⟨v, ran, -, -, -, -, -, -, -, -, sw, -⟩ := (closes 1 residueHolder residueHolder_inv).1
    (by decide +kernel) (by decide +kernel) (by decide +kernel)
  rw [exec_herdCloseDone_of_closed (by decide +kernel)] at ran
  have kept : (residueHolder.toFree 1).sw.residues = residueHolder.sw.residues := by
    rw [← sw]
    exact residues_of_settled (Host.Outcome.next.inj ran)
  rw [toFree_residues] at kept
  exact absurd kept (by decide +kernel)

end Sys2Proof.Proofs.FreeHerds

namespace Sys2Proof.Proofs.SettledFields

/-! ## What a contribution to a collective leaves as it was (Table 8.6)

A request that goes on at its ingress may be a CONTRIB; the sums, the update of a fused pass and the close of the step leave those
five parts of the state alone. -/

open Sys2Proof.Machine Sys2Proof.Claims

section Parts
variable {P : State → Prop} {s : State} (h : Steady P s)
include h

/-! ### One part of the state -/

theorem Steady.withTr (x : Transport) : Steady P { s with tr := x } := h.of_eq rfl rfl rfl rfl rfl
theorem Steady.withPool (x : Pool) : Steady P { s with pool := x } := h.of_eq rfl rfl rfl rfl rfl
theorem Steady.withCoh (x : Coherence) : Steady P { s with coh := x } := h.of_eq rfl rfl rfl rfl rfl
theorem Steady.withCanaryDue (n : Nat) : Steady P { s with flt := { s.flt with canaryDue := n } } := h.of_eq rfl rfl rfl rfl rfl
theorem Steady.withDual (l : List DualHold) : Steady P { s with flt := { s.flt with dual := l } } := h.of_eq rfl rfl rfl rfl rfl
theorem Steady.withChunks (x : Quad Nat) : Steady P { s with flt := { s.flt with chunks := x } } := h.of_eq rfl rfl rfl rfl rfl
theorem Steady.withCo (x : Collectives) : Steady P { s with co := x } := h.of_eq rfl rfl rfl rfl rfl
theorem Steady.withPorts (x : Ports) : Steady P { s with ports := x } := h.of_eq rfl rfl rfl rfl rfl
theorem Steady.withNand (x : Nand) : Steady P { s with nand := x } := h.of_eq rfl rfl rfl rfl rfl

/-! ### Requests and their ingress -/

theorem Steady.mapReq (id : Nat) (f : Req → Req) : Steady P (s.mapReq id f) := h.withTr _
theorem Steady.setPlace (id : Nat) (pl : ReqPlace) : Steady P (s.setPlace id pl) := h.mapReq _ _

theorem Steady.freeCells (r : Req) : Steady P (s.freeCells r) := by
  unfold State.freeCells
  split
  · exact h.creditBack _ _ _
  · exact h.creditBack _ _ _
  · exact h.creditBack _ _ _
  · exact h

theorem Steady.mergeKicks (r : Req) : Steady P (s.mergeKicks r).2 := by
  unfold State.mergeKicks
  dsimp only
  split
  · exact h
  · exact Steady.mapReq (Steady.foldl (fun _ _ k => (k.freeCells _).setPlace _ _) _ h) _ _

theorem Steady.answerHere (r : Req) (code detail : Nat) : Steady P (s.answerHere r code detail) := (h.freeCells _).answer _ _ _ _

theorem Steady.answerAgain (r : Req) : Steady P (s.answerAgain r) := by
  unfold State.answerAgain
  refine Steady.ite ?_ (h.answer _ _ _ _)
  split
  · exact (h.withTr _).of_eq rfl rfl rfl rfl rfl
  · exact h.answer _ _ _ _

/-! ### Bytes of a herd's extents -/

theorem Steady.liftPoison (e off n : Nat) : Steady P (s.liftPoison e off n) := h.withPool _

theorem Steady.writeVals {herd addr : Nat} {bs : List Byte} {u : State} (written : s.writeVals herd addr bs = some u) : Steady P u := by
  unfold State.writeVals at written
  split at written
  · exact absurd written (by simp)
  · dsimp only at written
    split at written
    · exact absurd written (by simp)
    · split at written
      · exact absurd written (by simp)
      next s1 first =>
        split at written
        · exact absurd written (by simp)
        next s2 last =>
          rw [← Option.some.inj written]
          exact (((h.allocate first).allocate last).writePool _ _ _).liftPoison _ _ _

theorem Steady.putVals (herd addr : Nat) (bs : List Byte) : Steady P (s.putVals herd addr bs) := by
  unfold State.putVals
  cases written : s.writeVals herd addr bs with
  | none => exact h
  | some u => exact h.writeVals written

/-! ### Steps and chunks -/

theorem Steady.noteFirst (c n : Nat) : Steady P (s.noteFirst c n) := h.setStep _ _

theorem Steady.stageChunk {c n i entry : Nat} {payload : List Byte} {u : State} (staged : s.stageChunk c n i entry payload = some u) :
    Steady P u := by
  unfold State.stageChunk at staged
  dsimp only at staged
  split at staged
  · exact absurd staged (by simp)
  next s1 written =>
    rw [← Option.some.inj staged]
    have noted := fun x => ((h.writeVals written).setStep c x).noteFirst c n
    exact ((noted _).emit _ _ _ _ _ _ _).ite (noted _)

theorem Steady.abortStep (c code : Nat) : Steady P (s.abortStep c code) := (h.sendAborts _ _ _ _).closeStep _ _
theorem Steady.sealedStep (c : Nat) : Steady P (s.sealedStep c) := (h.sendAborts _ _ _ _).closeStep _ _

theorem Steady.noise (c : Nat) : Steady P (s.noise c).2 := h.of_eq rfl rfl rfl rfl rfl

theorem Steady.aggElem (c n sum : Nat) : Steady P (s.aggElem c n sum).2 := by
  have drawn : Steady P (if s.rd od3820_SIGMA c % 2 ^ 31 = 0 then (0, s) else s.noise c).2 := by
    split
    · exact h
    · exact h.noise c
  exact drawn

theorem Steady.aggVals (c n : Nat) (vs : List Nat) : Steady P (s.aggVals c n vs).2 := by
  induction vs generalizing s with
  | nil => exact h
  | cons v vs ih => exact ih (h.aggElem c n v)

theorem Steady.chunkDone (c n i : Nat) : Steady P (s.chunkDone c n i) := by
  unfold State.chunkDone
  dsimp only
  split
  · exact h.setStep _ _
  · exact h

theorem Steady.aggRelease (c n : Nat) : Steady P (s.aggRelease c n) := by
  unfold State.aggRelease
  dsimp only
  refine (h.abortStep _ _).ite ((h.abortStep _ _).ite (Steady.foldl (fun u i k => ?_) _ h))
  split
  · exact k
  next ch found =>
    have drawn := k.aggVals c ((s.stepOf c n).chunks.foldl (fun a k => max a k.count) 0) ch.acc
    exact Steady.chunkDone ((drawn.putVals _ _ _).ite (drawn.putVals _ _ _)) _ _ _

theorem Steady.passStep (c code : Nat) : Steady P (s.passStep c code) := by
  refine Steady.closeStep ?_ _ _
  split
  · exact h.wr _ _ _
  · exact h

/-! ### Doorbells -/

theorem Steady.setRing (r : Nat) (x : RingState) : Steady P (s.setRing r x) := h.of_eq rfl rfl rfl rfl rfl

theorem Steady.doorbell (ring : Nat) : Steady P (s.doorbell ring) :=
  (h.withCanaryDue _).ite (((h.wr _ _ _).emit _ _ _ _ _ _ _).ite (h.setRing _ _))

theorem Steady.kickRing (ring herd : Nat) : Steady P (s.kickRing ring herd) := ((h.setRingIndex _ _ _).doorbell _).ite h

/-! ### The update of a fused pass -/

theorem Steady.sendResult (c n i : Nat) (vals : List Nat) : Steady P (s.sendResult c n i vals) := h.sendGroup _ _ _ _ _ _

theorem Steady.updateChunk (c n i : Nat) (xs : List Nat) : Steady P (s.updateChunk c n i xs) := by
  unfold State.updateChunk
  dsimp only
  split
  · exact h
  · exact ((h.setStep _ _).sendResult _ _ _ _).ite
      (((((h.putVals _ _ _).putVals _ _ _).putVals _ _ _).sendResult _ _ _ _).ite (((h.putVals _ _ _).putVals _ _ _).sendResult _ _ _ _))

theorem Steady.closePass (c n : Nat) : Steady P (s.closePass c n).1 := by
  unfold State.closePass
  dsimp only
  split
  · exact h
  · exact Steady.foldl (fun _ _ k => k.updateChunk _ _ _ _) _ h

/-! ### Chunks, and the close of a step -/

theorem Steady.closeIfDone (c : Nat) : Steady P (s.closeIfDone c) := by
  have released := h.aggRelease c (s.openStep c)
  have updated := h.closePass c (s.openStep c)
  exact h.ite ((released.ite ((((released.kickRing _ _).passStep _ _).ite ((released.closePass c (s.openStep c)).passStep _ _)).ite
      (released.passStep _ _))).ite
    (h.ite ((h.ite (h.passStep _ _)).ite ((h.ite (((h.kickRing _ _).passStep _ _).ite (h.passStep _ _))).ite
      (h.ite ((updated.passStep _ _).ite (((h.kickRing _ _).passStep _ _).ite (h.passStep _ _))))))))

theorem Steady.rootChunk (c n i : Nat) (k : CollChunk) : Steady P (s.rootChunk c n i k) := by
  have summed := fun x => h.setStep c x
  exact Steady.chunkDone (((summed _).sendResult _ _ _ _).ite (((summed _).putVals _ _ _).ite ((summed _).updateChunk _ _ _ _))) _ _ _

theorem Steady.sendPart (c n i : Nat) (x : CollStep) (k : CollChunk) : Steady P (s.sendPart c n i x k) :=
  (h.setStep _ _).sendColl _ _ _ _ _ _ _

theorem Steady.releaseChunk (c n i : Nat) : Steady P (s.releaseChunk c n i) := by
  unfold State.releaseChunk
  dsimp only
  split
  · exact h
  · exact ((h.setStep _ _).ite (h.rootChunk _ _ _ _)).ite (((h.sealedStep _).ite h).ite (h.sendPart _ _ _ _ _))

theorem Steady.finishChunk (c n i : Nat) : Steady P (s.finishChunk c n i) := by
  unfold State.finishChunk
  extract_lets q u herd y s1 d k flt s2
  have finished : Steady P s1 := ((h.setStep _ _).bump _ _ _ _).tally _ _ _
  have counted : Steady P s2 := finished.withChunks _
  refine (counted.releaseChunk _ _ _).ite ?_
  split
  · exact (counted.bump _ _ _ _).releaseChunk _ _ _
  · dsimp only
    split
    · exact counted
    · exact (counted.withDual _).setStep _ _

theorem Steady.tryChunk (c n i : Nat) : Steady P (s.tryChunk c n i) := by
  unfold State.tryChunk
  dsimp only
  split
  · exact (h.finishChunk _ _ _).ite h
  · exact h

theorem Steady.tryChunks (c n : Nat) : Steady P (s.tryChunks c n) := Steady.foldl (fun _ _ k => k.tryChunk _ _ _) _ h

theorem Steady.addToChunk (c n i : Nat) (xs : List Nat) (count : Nat) (member kid : Option Nat) :
    Steady P (s.addToChunk c n i xs count member kid) := (h.setStep _ _).noteFirst _ _

theorem Steady.sumFrom (c n : Nat) (ps : List Party) (k : Nat) : Steady P (s.sumFrom c n ps k) := by
  induction k generalizing s with
  | zero => exact h
  | succ k ih => exact h.ite (ih (((h.setStep _ _).addToChunk _ _ _ _ _ _ _).tryChunk _ _ _))

theorem Steady.sumChunks (c n : Nat) : Steady P (s.sumChunks c n) := (h.sumFrom _ _ _ _).ite h

theorem Steady.tryOpen (c : Nat) : Steady P (s.tryOpen c) := ((h.sumChunks _ _).tryChunks _ _).closeIfDone _

theorem Steady.tryClose (c : Nat) : Steady P (s.tryClose c) := (h.closeIfDone _).ite ((h.closeIfDone _).tryOpen _)

/-! ### A CONTRIB and its answer -/

omit h in
/-- The outcome of a contribution, where it has one, leaves both as they were. -/
def Steady8 (P : State → Prop) (x : Outcome8) : Prop := ∀ code detail u, x = .code code detail u → Steady P u

omit h in
theorem Steady8.wait : Steady8 P .wait := fun _ _ _ same => absurd same (by simp)

theorem Steady.code (code detail : Nat) : Steady8 P (.code code detail s) := by
  rintro _ _ u same
  injection same with _ _ state
  exact state ▸ h

omit h in
theorem Steady8.ite {p : Prop} [Decidable p] {x y : Outcome8} (k : Steady8 P x) (l : Steady8 P y) : Steady8 P (if p then x else y) := by
  split
  · exact k
  · exact l

theorem Steady.contribute (c entry n i : Nat) (payload : List Byte) : Steady8 P (s.contribute c entry n i payload) := by
  unfold State.contribute
  dsimp only
  refine (h.code _ _).ite ((h.code _ _).ite ((h.code _ _).ite (Steady8.wait.ite (Steady8.ite ?_ (Steady8.wait.ite ?_)))))
  · split
    next s1 staged => exact (h.stageChunk staged).code _ _
    · exact h.code _ _
  · exact (((h.addToChunk _ _ _ _ _ _ _).tryChunk _ _ _).tryClose _).code _ _

theorem Steady.serveContrib (r : Req) (x : CollHdr) : Steady8 P (s.serveContrib r x) := by
  unfold State.serveContrib
  dsimp only
  split
  · exact (h.code _ _).ite ((h.code _ _).ite (h.contribute _ _ _ _ _))
  · exact h.code _ _

theorem Steady.contribAnswer (r : Req) {x : Outcome8} (k : Steady8 P x) : Steady P (s.contribAnswer r x) := by
  cases x with
  | wait => exact h.ite (h.withCo _)
  | code code detail u => exact ((k code detail u rfl).withCo _).complete _ _ _ _

end Parts

end Sys2Proof.Proofs.SettledFields

namespace Sys2Proof.Proofs.SettledFields

/-! ## What a request that goes on leaves as it was

From the ordering stage of its ingress a request reaches its home: the cache and the flash, the lines of an H extent, rut, and the bytes.
None of it touches those five parts. -/

open Sys2Proof.Machine Sys2Proof.Claims

section Home
variable {P : State → Prop} {s : State} (h : Steady P s)
include h

/-! ### Lines and probes -/

theorem Steady.rutLines : Steady P s.rutLines := h.wr _ _ _

theorem Steady.dirTouch (l : Nat) : Steady P (s.dirTouch l) := by
  unfold State.dirTouch
  extract_lets set here ways way
  clear_value way
  cases way with
  | none => exact h
  | some w => exact h.withCoh _

theorem Steady.traceCoh (row sender receiver l : Nat) : Steady P (s.traceCoh row sender receiver l) := h.trace _ _ _

theorem Steady.post' (m : CohMsg) : Steady P (s.post' m) := (h.withCoh _).traceCoh _ _ _ _

theorem Steady.probe (k : CohKind) (a other l : Nat) : Steady P (s.probe k a other l) := (h.post' _).homeCount _ _ _

theorem Steady.addTxn (t : LineTxn) : Steady P (s.addTxn t) := h.withCoh _
theorem Steady.dropTxn (l : Nat) : Steady P (s.dropTxn l) := h.withCoh _

theorem Steady.probeAll (k : CohKind) (as : List Nat) (other l : Nat) : Steady P (s.probeAll k as other l) :=
  Steady.foldl (fun _ _ k => k.probe _ _ _ _) _ h

theorem Steady.startUncached (l : Nat) (store : Bool) (req : Option Req) : Steady P (s.startUncached l store req) := by
  have touched := h.dirTouch l
  unfold State.startUncached
  dsimp only
  split
  · exact (touched.addTxn _).probe _ _ _ _
  · exact ((touched.addTxn _).probeAll _ _ _ _).ite (touched.addTxn _)
  · exact touched.addTxn _

theorem Steady.rutRecall (l : Nat) : Steady P (s.rutRecall l) := (h.startUncached _ _ _).ite h

/-! ### The cache and the flash -/

theorem Steady.setFrame (f : Nat) (x : CacheFrame) : Steady P (s.setFrame f x) := h.withPool _

theorem Steady.evict (e g : Nat) : Steady P (s.evict e g) :=
  ((((Steady.foldl (fun _ c k => k.cleanChunk e g c) (List.range 32) h).withPool _).setGran _ _ _).homeCount _ _ _).ite h

theorem Steady.send (x : OutItem) : Steady P (s.send x) := h.of_eq rfl rfl rfl rfl rfl

theorem Steady.issueOne : Steady P s.issueOne := by
  unfold State.issueOne
  dsimp only
  split
  · exact h
  · split
    · exact h
    · exact ((h.withNand _).send _).count _ _

theorem Steady.issueOps (n : Nat) : Steady P (s.issueOps n) := by
  induction n generalizing s with
  | zero => exact h
  | succ n ih => exact ih h.issueOne

theorem Steady.pump : Steady P s.pump := h.issueOps _

theorem Steady.addJob (work : NandWork) (progs : Bool) (ops : List (Nat × Nat × Nat)) : Steady P (s.addJob work progs ops) := h.withNand _

theorem Steady.readJob (e g c key : Nat) : Steady P (s.readJob e g c key) := by
  unfold State.readJob
  refine h.ite ?_
  split
  · exact h.addJob _ _ _
  · exact h

theorem Steady.flashReads (e g : Nat) : Steady P (s.flashReads e g) :=
  Steady.foldl (fun _ _ k => k.ite (k.readJob _ _ _ _)) _ h

theorem Steady.startFill (e g : Nat) : Steady P (s.startFill e g) := by
  unfold State.startFill
  dsimp only
  split
  · exact h
  · have placed := fun f x d =>
      (((h.ite (p := s.frame f = frameNone) (h.evict (s.frame f).ext (s.frame f).gran)).setFrame f x).setGran e g d)
    exact h.ite (((((placed _ _ _).withPool _).flashReads _ _).pump.ite ((placed _ _ _).withPool _)).ite ((placed _ _ _).homeCount _ _ _))

theorem Steady.touch (e g : Nat) : Steady P (s.touch e g) :=
  h.ite (((h.setFrame _ _).homeCount _ _ _).ite ((h.startFill _ _).homeCount _ _ _))

theorem Steady.rutCount (l : Nat) : Steady P (s.rutCount l) := by
  unfold State.rutCount
  extract_lets n coh s1
  have counted : Steady P s1 := h.withCoh _
  refine counted.ite (Steady.ite ?_ (counted.ite ((counted.withCoh _).bump _ _ _ _)))
  have entered := fun x => (((counted.withTr { s1.tr with nextId := s1.tr.nextId + 1 }).withPool
    { s1.pool with held := s1.pool.held.filter (fun h => !(s1.rutMoved l).2.contains h) }).withCoh x).rutLines.homeCount (lineExt l) 8 1
  exact ((entered _).rutRecall _).ite ((entered _).touch _ _)

/-! ### Loads -/

theorem Steady.hold (r : Req) (why : HoldWhy) (place : Nat) (chunks : List Nat) : Steady P (s.hold r why place chunks) := by
  refine Steady.homeCount ?_ _ _ _
  exact h.of_eq rfl rfl rfl rfl rfl

theorem Steady.serveBlock (r : Req) : Steady P (s.serveBlock r) := by
  unfold State.serveBlock
  dsimp only
  split
  · exact h.complete _ _ _ _
  · exact h.complete _ _ _ _

theorem Steady.serveExpanded (r : Req) : Steady P (s.serveExpanded r) :=
  (h.complete _ _ _ _).ite (((h.tally _ _ _).serveBlock _).ite (h.hold _ _ _ _))

theorem Steady.loadNow (r : Req) : Steady P (s.loadNow r) := (h.complete _ _ _ _).ite (h.complete _ _ _ _)

theorem Steady.serveLoad (r : Req) : Steady P (s.serveLoad r) := by
  have touched := (h.touch r.ext (s.reqOff r / granuleBytes)).homeCount r.ext 1 1
  exact ((touched.readJob _ _ _ _).pump.hold _ _ _ _).ite (touched.loadNow _)

/-! ### Writes -/

theorem Steady.copied (e g c : Nat) : Steady P (s.copied e g c) := h.withPool _

theorem Steady.fillChunk (e g c : Nat) : Steady P (s.fillChunk e g c) := ((h.copyChunk _ _ _ _).copied _ _ _).ite h

theorem Steady.prepareWrite {r : Req} {x : State × Option HoldWhy} (ready : s.prepareWrite r = some x) : Steady P x.1 := by
  unfold State.prepareWrite at ready
  dsimp only at ready
  split at ready
  · rw [← Option.some.inj ready]
    exact h
  · split at ready
    · exact absurd ready (by simp)
    next s1 taken =>
      have touched := ((h.allocate taken).touch r.ext (s.reqOff r / granuleBytes)).fillChunk r.ext (s.reqOff r / granuleBytes)
        (s.reqOff r / chunkBytes % 32)
      split at ready
      · rw [← Option.some.inj ready]
        exact touched
      · split at ready
        · split at ready <;> rw [← Option.some.inj ready] <;> exact touched
        · rw [← Option.some.inj ready]
          exact touched

theorem Steady.writeMasked (e off mask : Nat) (bs : List Byte) : Steady P (s.writeMasked e off mask bs) := by
  induction bs generalizing s off mask with
  | nil => exact h
  | cons b bs ih => exact ih ((h.writeByte _ _ _).ite h) _ _

theorem Steady.putReq (r : Req) : Steady P (s.putReq r) := by
  unfold State.putReq
  dsimp only
  split
  · exact h.writeMasked _ _ _ _
  · exact h.writePool _ _ _
  · exact h.writePool _ _ _

theorem Steady.doorbells (e off n : Nat) : Steady P (s.doorbells e off n) := Steady.foldl (fun _ _ k => k.doorbell _) _ h

theorem Steady.noteBoard (r : Req) : Steady P (s.noteBoard r) := by
  refine Steady.ite ?_ h
  split
  · exact h.withPorts _
  · exact h

theorem Steady.applyWrite (r : Req) (through : Bool) : Steady P (s.applyWrite r through) := by
  have lifted := fun k n => (((h.putReq r).nandWrite k).ite (p := s.onFlash r.ext (s.reqOff r) = true) (h.putReq r)).liftPoison r.ext (s.reqOff r) n
  unfold State.applyWrite
  dsimp only
  exact ((((((lifted _ _).cleanChunk _ _ _).ite (lifted _ _)).homeCount _ _ _).complete _ _ _ _).noteBoard _).doorbells _ _ _

theorem Steady.serveWrite (r : Req) : Steady P (s.serveWrite r) := by
  refine (h.complete _ _ _ _).ite ((h.complete _ _ _ _).ite ((h.complete _ _ _ _).ite ?_))
  split
  · exact h.complete _ _ _ _
  next s1 ready => exact (h.prepareWrite ready).applyWrite _ _
  next s1 why ready => exact (h.prepareWrite ready).hold _ _ _ _

theorem Steady.serveFlush (r : Req) : Steady P (s.serveFlush r) :=
  ((h.complete _ _ _ _).ite (h.hold _ _ _ _)).ite (h.complete _ _ _ _)

theorem Steady.startPublish (r : Req) : Steady P (s.startPublish r) := (h.hold _ _ _ _).ite (h.complete _ _ _ _)

theorem Steady.execMem (r : Req) : Steady P (s.execMem r) := by
  unfold State.execMem
  split
  · exact (h.serveExpanded _).ite (h.serveLoad _)
  · exact (h.complete _ _ _ _).ite ((h.complete _ _ _ _).ite (h.serveLoad _))
  · exact h.serveWrite _
  · exact h.serveWrite _
  · exact h.serveWrite _
  · exact h.serveWrite _
  · exact h.serveWrite _
  · exact h.serveFlush _
  · exact h.startPublish _
  · exact h.complete _ _ _ _

/-! ### Rut -/

theorem Steady.setRut (x : RutLine) : Steady P (s.setRut x) := h.withCoh _

theorem Steady.rutAdmit (l n : Nat) : Steady P (s.rutAdmit l n) := by
  induction n generalizing s with
  | zero => exact h
  | succ n ih =>
    unfold State.rutAdmit
    split
    · exact h
    · refine h.ite ?_
      split
      · exact h
      · split
        · exact h
        · exact (ih ((h.setRut _).complete _ _ _ _)).ite (ih (h.setRut _))

theorem Steady.rutArrive (l : Nat) (q : RutReq) : Steady P (s.rutArrive l q) := by
  unfold State.rutArrive
  split
  · exact h
  · exact (h.withCoh _).ite ((h.setRut _).rutAdmit _ _)

theorem Steady.predAdd (r : Req) (up : Bool) : Steady P (s.predAdd r up) := h.ite (h.withCoh _)

/-! ### The lines of an H extent -/

theorem Steady.endUncached (r : Req) : Steady P (s.endUncached r) := by
  refine Steady.execMem (Steady.foldl (fun _ _ k => k.dropTxn _) _ (Steady.foldl (fun u l k => ?_) _ h)) _
  dsimp only
  refine Steady.ite (Steady.setDir ?_ _ _) ?_
  on_goal 2 =>
    split
    refine Steady.setDir ?_ _ _
  all_goals
    split
    · split
      · exact k.writeBack _ _
      · exact k
    · exact k

theorem Steady.uncached (r : Req) : Steady P (s.uncached r) := by
  unfold State.uncached
  dsimp only
  split
  · exact h.withCoh _
  · have begun : Steady P ((s.reqLines r).foldl (fun s l => s.startUncached l (storeLike r.op) (some r)) s) :=
      Steady.foldl (fun _ _ k => k.startUncached _ _ _) _ h
    exact (h.complete _ _ _ _).ite ((begun.endUncached _).ite begun)

/-! ### Agents -/

theorem Steady.agentPut (a e off : Nat) (bs : List Byte) : Steady P (s.agentPut a e off bs) := by
  induction bs generalizing s off with
  | nil => exact h
  | cons b bs ih =>
    unfold State.agentPut
    dsimp only
    refine ih ?_ _
    split
    · exact h.setHeld _ _ _
    · exact h

theorem Steady.agentMasked (a e off mask : Nat) (bs : List Byte) : Steady P (s.agentMasked a e off mask bs) := by
  induction bs generalizing s off mask with
  | nil => exact h
  | cons b bs ih => exact ih ((h.agentPut _ _ _ _).ite h) _ _

theorem Steady.agentExec (x : AgentOp) : Steady P (s.agentExec x) := by
  unfold State.agentExec
  dsimp only
  split
  · exact h.answer _ _ _ _
  · split
    · exact h.answer _ _ _ _
    next u taken =>
      have given := h.allocate taken
      split
      · exact (given.agentMasked _ _ _ _ _).answer _ _ _ _
      · exact (given.agentPut _ _ _ _).answer _ _ _ _
      · exact (given.agentPut _ _ _ _).answer _ _ _ _

theorem Steady.startGet (a l : Nat) (excl : Bool) : Steady P (s.startGet a l excl) := by
  have touched := h.dirTouch l
  unfold State.startGet
  dsimp only
  split
  · exact touched
  · exact (touched.addTxn _).post' _
  · exact Steady.ite (((touched.addTxn _).probeAll _ _ _ _).post' _) ((touched.addTxn _).post' _)
  · exact (touched.addTxn _).probe _ _ _ _

theorem Steady.askLine (a l : Nat) (excl : Bool) : Steady P (s.askLine a l excl) :=
  h.ite (((h.traceCoh _ _ _ _).withCoh _).ite ((h.traceCoh _ _ _ _).startGet _ _ _))

theorem Steady.agentTry (a : Nat) : Steady P (s.agentTry a) := by
  refine Steady.foldl (fun u x k => ?_) _ h
  dsimp only
  split
  · exact (k.withCoh _).rutArrive _ _
  · refine Steady.ite (Steady.ite ((k.withCoh _).uncached _) ((k.withCoh _).answer _ _ _ _)) ?_
    exact ((k.withCoh _).agentExec _).ite (Steady.foldl (fun _ _ k => k.askLine _ _ _) _ k)

/-! ### The home -/

theorem Steady.homeStart (r : Req) : Steady P (s.homeStart r) := by
  unfold State.homeStart
  extract_lets agent
  clear_value agent
  split
  · exact h.execMem _
  · exact h.execMem _
  · exact h.execMem _
  · split
    · exact h.rutArrive _ _
    · refine Steady.ite ?_ (h.execMem _)
      cases agent with
      | none => exact ((h.predAdd _ _).ite h).uncached _
      | some a =>
        dsimp only
        refine Steady.ite (Steady.uncached ?_ _) (Steady.agentTry (Steady.withCoh ?_ _) _)
        · exact h.ite ((h.predAdd _ _).ite (h.predAdd _ _))
        · exact h.ite ((h.predAdd _ _).ite (h.predAdd _ _))

theorem Steady.homeGo (r : Req) : Steady P (s.homeGo r) := (h.homeStart _).ite (h.hold _ _ _ _)

theorem Steady.homeArrive (r : Req) : Steady P (s.homeArrive r) := by
  have counted := h.homeCount r.ext 0 1
  unfold State.homeArrive
  refine h.ite ((counted.answerAgain _).ite ((counted.answer _ _ _ _).ite ((counted.complete _ _ _ _).ite ((counted.complete _ _ _ _).ite
    ((counted.complete _ _ _ _).ite ((counted.complete _ _ _ _).ite ?_))))))
  extract_lets s1 before
  have lines : Steady P s1 := by
    unfold s1
    split
    · exact counted
    · exact counted
    · exact counted.ite (Steady.foldl (fun _ _ k => k.rutCount _) _ counted)
  exact (lines.homeGo _).ite (lines.hold _ _ _ _)

/-! ### The ingress -/

theorem Steady.goOn (r0 : Req) : Steady P (s.goOn r0) := by
  have merged : Steady P (if r0.op = .kick then s.mergeKicks r0 else (r0, s)).2 := by
    split
    · exact h.mergeKicks _
    · exact h
  unfold State.goOn
  dsimp only
  generalize (if r0.op = .kick then s.mergeKicks r0 else (r0, s)) = x at merged ⊢
  obtain ⟨r, s⟩ := x
  dsimp only at merged ⊢
  have led := merged.freeCells r
  refine (merged.answerHere _ _ _).ite ?_
  split
  case h_1 => exact merged.answerHere _ _ _
  case h_2 | h_3 => exact led.setPlace _ _
  case h_4 | h_5 | h_6 =>
    split
    · exact merged.forward _
    · exact (merged.setPlace _ _).ite (merged.forward _)
  case h_7 x _ =>
    have home := led.setPlace r.id .home
    refine (home.contribAnswer _ (home.serveContrib _ _)).ite ?_
    split
    · exact merged.forward _
    · split
      · exact merged.answerHere _ _ _
      · exact merged.forward _
  case h_8 =>
    refine (led.answer _ _ _ _).ite (((led.setPlace _ _).homeArrive _).ite ?_)
    split
    · exact merged.forward _
    · split
      · exact merged.answerHere _ _ _
      · exact (merged.setPlace _ _).ite (merged.forward _)

theorem Steady.tryOrder (id : Nat) : Steady P (s.tryOrder id) := by
  unfold State.tryOrder
  split
  · exact h
  · exact (h.goOn _).ite h

theorem Steady.takeTokens (p : PortId) (r : Req) : Steady P (s.takeTokens p r) := by
  refine h.ite ?_
  exact h.of_eq rfl rfl rfl rfl rfl

theorem Steady.tryRate (id : Nat) : Steady P (s.tryRate id) := by
  unfold State.tryRate
  split
  · exact h
  · refine Steady.ite (Steady.setPlace ?_ _ _) h
    split
    · exact h.takeTokens _ _
    · exact h

theorem Steady.advance (src : Half) : Steady P (s.advance src) := Steady.foldl (fun _ _ k => (k.tryRate _).tryOrder _) _ h

theorem Steady.fencesGo : Steady P s.fencesGo := Steady.foldl (fun _ _ k => k.advance _) _ h

end Home

end Sys2Proof.Proofs.SettledFields

namespace Sys2Proof.Proofs.SettledFields

/-! ## What a frame boundary leaves, once the frame is chosen (R304) -/

open Sys2Proof.Machine Sys2Proof.Claims

section Sent
variable {P : State → Prop} {s : State} (h : Steady P s)
include h

theorem Steady.setShaper (q : Nat) (c : Int) (e : Nat) : Steady P (s.setShaper q c e) := h.of_eq rfl rfl rfl rfl rfl
theorem Steady.mapTx (id : Nat) (f : TxFrame → TxFrame) : Steady P (s.mapTx id f) := h.of_eq rfl rfl rfl rfl rfl

theorem Steady.tagHead (q : Nat) : Steady P (s.tagHead q) := by
  unfold State.tagHead
  split
  · exact h
  · refine h.ite (Steady.mapTx ?_ _ _)
    exact h.of_eq rfl rfl rfl rfl rfl

theorem Steady.sendOn (p : PortId) (x : OutItem) : Steady P (s.sendOn p x) := by
  refine Steady.ite ?_ (h.send x)
  exact (h.send x).of_eq rfl rfl rfl rfl rfl

theorem Steady.setLink (p : Nat) (l : LinkState) : Steady P (s.setLink p l) := h.withTr _

theorem Steady.linkSend (p : PortId) (c cells : Nat) (b : FrameBody) : Steady P (s.linkSend p c cells b) :=
  (((h.setLink _ _).sendOn _ _).tally _ _ _).trace _ _ _

end Sent

end Sys2Proof.Proofs.SettledFields

namespace Sys2Proof.Proofs.FrameBoundary

/-! ## A frame boundary of a port with two entries for the frame it sends (R304)

A write of the default value to a sparse table removes the entry of its key; in a list that holds the key twice the second entry shows then.
The invariant does not bar that of `tm.sending`, and what else a frame boundary does leaves the table alone. -/

open Sys2Proof.Machine Sys2Proof.Claims Sys2Proof.Proofs.SettledFields

/-- The table after the boundary holds the end of the chosen frame. -/
theorem transmit_sending {s : State} {p : PortId} {f : TxFrame} (up : s.portUp p.val = true)
    (idle : (sparseGet (0, 0) s.tm.sending p.val).1 ≤ s.up) (chosen : s.chosen p = some f) :
    (s.transmit p).tm.sending = sparseSet (0, 0) s.tm.sending p.val
      (s.up + ceilDiv (f.bytes * 12800) (max 1 (s.portRate p.val)), bodyClass f.body) := by
  unfold State.transmit
  rw [if_neg (by simp [up, idle])]
  split
  · next none => exact absurd (chosen.symm.trans none) (by simp)
  next g found =>
    obtain rfl : f = g := Option.some.inj (chosen.symm.trans found)
    extract_lets c ends sw tm s1 s2 s3 s4
    have shaped : Steady (SameSwitch s1) s2 := ((Steady.switch s1).setShaper _ _ _).ite (Steady.switch s1)
    have charged : Steady (SameSwitch s1) s3 := (shaped.bump _ _ _ _).charge _ _ _ _ _
    have credited : Steady (SameSwitch s1) s4 := by
      unfold s4
      split
      · exact charged.creditBack _ _ _
      · exact charged
    exact ((credited.linkSend p c f.cells f.body).tagHead f.queue).holds.sending

theorem exec_frameTransmit (p : PortId) (s : State) : exec (.frameTransmit p) s = .next (s.transmit p).fencesGo.settled := by
  rw [show exec (.frameTransmit p) s = execFrameTransmit p s from rfl]
  rfl

/-- The state that goes on after a frame boundary has the table of the boundary. -/
theorem sending_of_frameTransmit {s v : State} {p : PortId} (ran : exec (.frameTransmit p) s = .next v.fencesGo.settled) :
    v.tm.sending = (s.transmit p).tm.sending := by
  rw [exec_frameTransmit] at ran
  have states : (s.transmit p).fencesGo.settled = v.fencesGo.settled := Host.Outcome.next.inj ran
  have fenced := fun u => (Steady.switch u).fencesGo.holds.trans (settled_switch u.fencesGo)
  calc v.tm.sending = v.fencesGo.settled.tm.sending := (fenced v).sending.symm
    _ = (s.transmit p).fencesGo.settled.tm.sending := by rw [states]
    _ = (s.transmit p).tm.sending := (fenced (s.transmit p)).sending

/-- A frame of no bytes waits at port 0, whose table has two entries for the port. -/
def doubled : State :=
  { Tests.st (Tests.portOd 2 ++ [(od2400_TYPE, 5, 1), (od2400_PORT, 5, 0)]) with
    sw := { Switch.reset with tx := [{ Tests.txFrame false with bytes := 0 }] }
    tm := { TrafficMgr.reset with sending := [(0, (0, 0)), (0, (5, 5))] }
    tr := { Transport.reset with links := [(0, { linkNew with credits := [9, 0, 0, 0, 0, 0, 0, 0] })] } }

theorem doubled_inv : doubled.Inv := Tests.inv_of (by decide +kernel)

theorem doubled_chosen : doubled.chosen 0 = some { Tests.txFrame false with bytes := 0 } := by decide +kernel

/-- Refutes O12: at clock 0 the end of a frame of no bytes and class 0 is the default of `tm.sending`, and its write lets the second entry
of `doubled` show. -/
theorem not_theSwitchAndItsQueuesComplete : ¬ Obligations.TheSwitchAndItsQueuesComplete := by
  unfold Obligations.TheSwitchAndItsQueuesComplete
  intro holds
  obtain ⟨-, boundary, -⟩ := holds doubled doubled_inv
  have up : doubled.portUp 0 = true := by decide +kernel
  have idle : (sparseGet (0, 0) doubled.tm.sending 0).1 ≤ doubled.up := by decide +kernel
  obtain ⟨v, ran, -, -, -, -, sent⟩ := boundary 0 _ up idle doubled_chosen
  rw [sending_of_frameTransmit ran, transmit_sending (p := 0) up idle doubled_chosen] at sent
  exact absurd sent (by decide +kernel)

end Sys2Proof.Proofs.FrameBoundary

namespace Sys2Proof.Proofs.KernelWithoutThreads

/-! ## A KERNEL without threads on a tine that has two entries (R173)

At clock 0 a KERNEL of no threads writes to its tine what a new tine holds, and a write of the default value to a sparse table removes the
entry of its key; in a list that holds the key twice the second entry shows then. The invariant does not bar that of `cpu.tines`, and a
settling that leaves no handler and no canary has left the tines alone. -/

open Sys2Proof.Machine Sys2Proof.Claims Sys2Proof.Proofs.SettledFields

/-- Without a handler the tines are those of `o`. -/
def Unhandled (o s : State) : Prop := s.flt.stack = [] → s.cpu.tines = o.cpu.tines

/-- Without a handler and a canary the tines are those of `o`. -/
def Undisturbed (o s : State) : Prop := s.flt.stack = [] → s.flt.canaries = [] → s.cpu.tines = o.cpu.tines

theorem Unhandled.rests {o s u : State} (k : SameCore s u) (h : Unhandled o s) : Unhandled o u := fun stack => by
  rw [k.tines]
  exact h (k.stack.symm.trans stack)

theorem Undisturbed.rests {o s u : State} (k : SameCore s u) (h : Undisturbed o s) : Undisturbed o u := fun stack canaries => by
  rw [k.tines]
  exact h (k.stack.symm.trans stack) (k.canaries.symm.trans canaries)

theorem settled_undisturbed (s : State) : Undisturbed s s.settled := by
  have begun : Steady (Unhandled s) s := ⟨fun _ _ => Unhandled.rests, fun _ => rfl⟩
  refine (begun.settled (Q := Undisturbed s) (fun _ _ h => h) ?_ (fun _ h stack _ => h stack) (fun _ _ => Undisturbed.rests) ?_).holds
  · exact fun _ _ _ _ handled stack => absurd stack handled
  · exact fun _ _ _ _ asked _ canaries => absurd canaries asked

theorem exec_kernelCommand (cid : Nat) (s : State) : exec (.kernelCommand cid) s =
    .next (s.runCmd cid 1 (fun s c => if c.work.phase ≠ 0 then s
      else c.tines.zipIdx.foldl (fun s x => s.startThreads c x.1 x.2) (s.setPhase cid 1))).settled := by
  rw [show exec (.kernelCommand cid) s = execKernelCommand cid s from rfl]
  rfl

/-- A KERNEL of no threads on tine 0. -/
def emptyKernel : Cmd := { Tests.cmd1 with desc := [2 ^ 56, 2097152, 0, 0, 0, 0, 0, 0] }

/-- It is in flight, and tine 0 has a second entry, with a thread. -/
def shadowed : State :=
  { State.reset with cpu := { State.reset.cpu with
      cmds := [emptyKernel], tines := [(0, tineNew), (0, { tineNew with threads := [(0, Tests.thread1 [] .ready)] })] } }

theorem shadowed_inv : shadowed.Inv := Tests.inv_of (by decide +kernel)

theorem shadowed_inFlight : InFlight shadowed 1 1 emptyKernel := Tests.inFlight_of (by decide +kernel)

/-- The state in which the KERNEL has started. -/
def uncovered : State :=
  shadowed.runCmd 1 1 (fun s c => if c.work.phase ≠ 0 then s
    else c.tines.zipIdx.foldl (fun s x => s.startThreads c x.1 x.2) (s.setPhase 1 1))

theorem exec_shadowed : exec (.kernelCommand 1) shadowed = .next uncovered.settled := exec_kernelCommand 1 shadowed

theorem uncovered_settled : uncovered.settled.flt.stack = [] ∧ uncovered.settled.flt.canaries = [] ∧
    (sparseGet threadNew (sparseGet tineNew uncovered.settled.cpu.tines 0).threads 0).live = true := by decide +kernel

/-- Refutes O28: the KERNEL of `shadowed` has no threads, and yet thread 0 of its tine is live, the one of the second entry. -/
theorem not_unitsTakeUpTheirCommands : ¬ Obligations.UnitsTakeUpTheirCommands := by
  unfold Obligations.UnitsTakeUpTheirCommands
  rintro ⟨-, takesUp⟩
  obtain ⟨v, ran, -, idle, -⟩ := (takesUp 1 shadowed emptyKernel shadowed_inv rfl).2 shadowed_inFlight rfl 0 rfl (by decide +kernel)
    (by decide +kernel) le_rfl
  rw [exec_shadowed] at ran
  have states : uncovered.settled = v.settled := Host.Outcome.next.inj ran
  obtain ⟨stack, canaries, live⟩ := uncovered_settled
  have tines : v.cpu.tines = uncovered.settled.cpu.tines := by
    rw [states] at stack canaries ⊢
    exact (settled_undisturbed v stack canaries).symm
  have new : v.thread 0 0 = threadNew := idle 0 (by decide +kernel)
  rw [← tines] at live
  have dead : (v.thread 0 0).live = false := by rw [new]; rfl
  exact absurd (live.symm.trans dead) (by simp)

end Sys2Proof.Proofs.KernelWithoutThreads
